-- ==== Sys2Proof/Word.lean ====
section
/-! DEFINITION. The word types of the SY880 (R11, R12): bytes, 32-bit lanes and 128-bit words. -/

namespace Sys2Proof

/-- One byte. -/
abbrev Byte := BitVec 8

/-- One 32-bit bus lane (R11, R430). -/
abbrev Word := BitVec 32

/-- One 128-bit word W3:W0 (R12). -/
abbrev W128 := BitVec 128

end Sys2Proof
end

