-- ==== Sys2Proof/Syntax.lean ====
section
/-! DEFINITION. The commands of the SY880 block: one constructor per row of spec/opcode_table.json, with the operands the model gives it. A row whose effect
depends on the world outside the part (a measured code, a byte on a wire, a duration, a draw of the random number generator) carries that as an operand; times are
2^-16 ns of Heartwood time unless said otherwise. -/

namespace Sys2Proof

/-- A domain of the part, for the rows that exist in both (R16): 0 Heartwood, 1 Sapwood. -/
abbrev Dom := Nat

/-- The words appended to a signed command (R517). -/
structure Sig where
  slot : Nat
  counter : Nat
  serial : Nat
  r : Nat
  s : Nat
  deriving DecidableEq, Repr

/-- An inbound gateway command as it stands in the command buffer (R111, R517): TAG, the arguments from word 2, and the signature words where they are appended. -/
structure GwCmd where
  tag : Nat
  args : List Word
  sig : Option Sig
  deriving DecidableEq, Repr

/-- Time that the sleep counter carried before an event (R297, R355): its counts since Heartwood time was last shown, the readings of the always-on temperature sensor in 0.1 °C, one for each second of
counts, and the HFXO periods counted since the wake in nominal ns. -/
structure Asleep where
  counts : Nat
  tao : List Int
  hfxoNs : Nat
  deriving DecidableEq, Repr

/-- The commands. -/
inductive Instr where
  /-- PORN_LOW (R51): A low pulse on PORn of 10 µs or longer causes a class P reset of every domain. -/
  | pornLow (us : Nat)
  /-- SRSTN_LOW (R51): A low pulse on SRSTn of 10 µs or longer causes a class S reset while VDD_SW is good. -/
  | srstnLow (us : Nat)
  /-- HEARTWOOD_RAIL_LOSS (R45): A Heartwood rail falls below its threshold while VDD_AO is good, so Heartwood is reset at once without a commit. -/
  | heartwoodRailLoss (rail : Nat)
  /-- SUPPLY_GOOD (R43): A supply monitor reports good, which may release its domain from reset. -/
  | supplyGood (sup : Nat)
  /-- TESTEN_HIGH (R54): While TESTEN is high every domain is held in reset. -/
  | testenHigh (level : Bool)
  /-- CLASS_H_RESET (R59): A class H reset clears Heartwood state after any required commit, and start-up follows. -/
  | classHReset (cause : Nat) (durUs mv : Nat)
  /-- START_UP_SEQUENCE (R63): After class P or H, Heartwood runs the start-up steps: erase repair, image verification, fabric load, capacitance check and Spindle start. -/
  | startUpSequence (seed cut faults : Nat)
  /-- BANK_CAPACITANCE_CHECK (R66): Once the reserve is sufficient, or after 10 s, the storage bank capacitance is measured and the value to use is chosen. -/
  | bankCapacitanceCheck (samples : List (Nat × Int))
  /-- SRST_REQ (R70): A write of GO with KEY 0x5352 causes a class S reset. -/
  | srstReq (value : Word)
  /-- SC1_BOOT (R532): A write of GO releases SC1 at ADDR unless SC1 already runs. -/
  | sc1Boot (value : Word)
  /-- SEAL_PATTERN_ADVANCE (R101): Every 32 XTAL32 periods the seal LFSR advances and drives the next bit on SEAL_A. -/
  | sealPatternAdvance (sample : Bool)
  /-- SL_WRITE (R110): A write to an SL field queues an SL_WRITE entry and takes effect while unsealed, or is refused and counted. -/
  | slWrite (addr : Nat) (value : Word)
  /-- STATUS (R113): Gateway command that returns seal state, counter, audit level, boot status and running slot. -/
  | status (c : GwCmd)
  /-- IDENT (R113): Gateway command that returns the full running image digest and the device serial. -/
  | ident (c : GwCmd)
  /-- AUDIT_READ (R113): Gateway command that returns up to 16 audit entries from a given SEQ. -/
  | auditRead (c : GwCmd)
  /-- RECORD_READ (R526): Gateway command that returns a record, the ring window or part of the certificate. -/
  | recordRead (c : GwCmd)
  /-- SET_FIELD (R113): Gateway command that writes a Heartwood field whose Seal column reads No. -/
  | setField (c : GwCmd)
  /-- SET_PARAM (R100): Gateway command that sets a PARAM value and makes a PARAM_CHANGE entry. -/
  | setParam (c : GwCmd)
  /-- TIME_SLEW (R307): Gateway command that sets the frequency adjustment and the phase to amortise. -/
  | timeSlew (c : GwCmd)
  /-- TIME_STEP (R308): Gateway command that accepts a phase step to be applied at the next quiet point. -/
  | timeStep (c : GwCmd)
  /-- IMAGE_BEGIN (R97): Gateway command that starts an image load into the non-running slot and sets its state to loading. -/
  | imageBegin (c : GwCmd)
  /-- IMAGE_DATA (R113): Gateway command that carries up to 248 words of image data to be programmed in order. -/
  | imageData (c : GwCmd)
  /-- IMAGE_END (R91): Gateway command that ends the load, applies the image checks and marks the slot checked or empty. -/
  | imageEnd (c : GwCmd)
  /-- IMAGE_ACTIVATE (R98): Signed gateway command that logs the change, appends a new selection word and causes a class H reset. -/
  | imageActivate (c : GwCmd) (durUs mv : Nat)
  /-- CAL_RUN (R374): Gateway command that queues calibrations of the named kinds and channels. -/
  | calRun (c : GwCmd)
  /-- ZERO_CAL (R375): Signed gateway command that starts a zero-flow calibration run over NCYC cycles. -/
  | zeroCal (c : GwCmd)
  /-- AUDIT_CLEAR (R124): Signed gateway command that verifies an archive digest, logs, erases archived sectors and logs any overflow. -/
  | auditClear (c : GwCmd)
  /-- HRESET (R60): Signed gateway command that causes a class H reset preceded by the power-fail commit. -/
  | hreset (c : GwCmd) (durUs mv : Nat)
  /-- KEY_SLOT (R516): Gateway command that fills, replaces or empties an authority key slot. -/
  | keySlot (c : GwCmd)
  /-- DEBUG_ENABLE (R534): Unsealed signed gateway command that enables Heartwood debug until the loop closes. -/
  | debugEnable (c : GwCmd)
  /-- AUDIT_ENTRY_PROGRAM (R121): A queued audit entry with its CONT entries is programmed into the trail within 10 ms. -/
  | auditEntryProgram (fails : Nat)
  /-- AUDIT_CONTROL_RECORD_COPY (R554): A new copy of the audit control record is appended after a change of UNLOGGED or level, or after a clear. -/
  | auditControlRecordCopy (fails : Nat)
  /-- TRIGGER_MATCH (R303): A comparator match starts sequences, chains, pending swaps, interrupts and Spindle checks 20 ns later. -/
  | triggerMatch (n : Nat)
  /-- COMPARATOR_WRITE (R305): A write to a free comparator governs matches more than 1 µs later; a past one-shot fires late. -/
  | comparatorWrite (n reg : Nat) (value : Word)
  /-- FIRING (R137): At a firing's transmit tick the sequencer checks readiness and reservations, then fires the burst or skips. -/
  | firing (seq : Nat)
  /-- CROSSPOINT_CONNECT (R128): The receive channel is connected to the shot's lane 2 µs before the capture window opens. -/
  | crosspointConnect (lane : Nat)
  /-- CAPTURE_WINDOW_CLOSE (R139): The window closes; the connection opens, the buffer pointer toggles and the notice goes to the echo engine. -/
  | captureWindowClose (lane : Nat) (samples : List (BitVec 14)) (bad : List (Nat × Nat)) (lates : List Nat)
  /-- ACQ_CLR (R142): A write of CNT clears ACQ.COUNT. -/
  | acqClr (value : Word)
  /-- ECHO_JOB (R143): An echo engine takes the next notice and correlates, judges and averages the firing. -/
  | echoJob (e : Nat)
  /-- ECHO_WATCHDOG (R165): The watchdog expires; the engine resets, the job is rejected with ENGINE and the fault is recorded. -/
  | echoWatchdog (e : Nat)
  /-- ECHO_CLR (R142): A write of ECHO.CLR clears the counters of the named engines. -/
  | echoClr (value : Word)
  /-- MODULATOR_WARM_END (R171): 100 µs after power-up or a settings change, the modulator's bits become valid and WARM clears. -/
  | modulatorWarmEnd (n : Nat)
  /-- PULSE_EDGE (R179): A counted edge on a pulse input is stamped and counted. -/
  | pulseEdge (n d : Nat)
  /-- PULSE_BLOCK_WRITE (R182): After each window the pulse record block is written into the stream's page. -/
  | pulseBlockWrite (stream : Nat)
  /-- PULSE_STUCK_TIMEOUT (R185): An input stays at its active level for TIMEOUT ms without an edge and STUCK is set. -/
  | pulseStuckTimeout (n : Nat)
  /-- PIN_RUNLO_READ (R182): A read of PIN.RUNLOn snapshots the running count. -/
  | pinRunloRead (n : Nat)
  /-- CHAIN_SAMPLE_WRITE (R204): A chain output sample is produced and written into its cycle record with its flags. -/
  | chainSampleWrite (c : Nat) (bits : List Bool) (marks bad : List (Nat × Nat)) (late : Nat)
  /-- COEF_LOAD (R208): ROM routine that copies image coefficients into a block's shadow bank. -/
  | coefLoad (block bank : Nat) (cut : Bool)
  /-- COEF_SWAP (R209): ROM routine that requests a bank swap of a group or block. -/
  | coefSwap (target trig : Nat)
  /-- SWAP_TAKE_EFFECT (R209): A pending swap takes effect at the first common window boundary. -/
  | swapTakeEffect (target : Nat)
  /-- JOB_ADMISSION (R330): At its admission instant a job is tested for time, energy and heat, and admitted, degraded or substituted. -/
  | jobAdmission (k : Nat)
  /-- TASK_DISPATCH (R242): Spindle dispatches an admitted job on its pair and loads its state block. -/
  | taskDispatch (k : Nat)
  /-- JOB_ABANDON (R333): A job that is not dispatched by deadline less WCET is abandoned and marked. -/
  | jobAbandon (k : Nat)
  /-- REGION_WATCHDOG_EXPIRY (R380): The region watchdog expires, OVERRUN is set and the region is isolated. -/
  | regionWatchdogExpiry (n : Nat)
  /-- ADD (R259): Integer add. -/
  | add (p rd ra rb : Nat)
  /-- SUB (R259): Integer subtract. -/
  | sub (p rd ra rb : Nat)
  /-- AND (R259): Integer bitwise AND. -/
  | and (p rd ra rb : Nat)
  /-- OR (R259): Integer bitwise OR. -/
  | or (p rd ra rb : Nat)
  /-- XOR (R259): Integer bitwise exclusive OR. -/
  | xor (p rd ra rb : Nat)
  /-- SLL (R259): Integer logical shift left. -/
  | sll (p rd ra rb : Nat)
  /-- SRL (R259): Integer logical shift right. -/
  | srl (p rd ra rb : Nat)
  /-- SRA (R259): Integer arithmetic shift right. -/
  | sra (p rd ra rb : Nat)
  /-- MUL (R259): Low 32 bits of an integer product. -/
  | mul (p rd ra rb : Nat)
  /-- ADDI (R259): Integer add of a sign-extended immediate. -/
  | addi (p rd ra : Nat) (imm : BitVec 16)
  /-- ANDI (R259): Integer AND with a zero-extended immediate. -/
  | andi (p rd ra : Nat) (imm : BitVec 16)
  /-- ORI (R259): Integer OR with a zero-extended immediate. -/
  | ori (p rd ra : Nat) (imm : BitVec 16)
  /-- LUI (R259): Load an immediate into the upper half of a register. -/
  | lui (p rd : Nat) (imm : BitVec 16)
  /-- LI (R259): Load a sign-extended immediate. -/
  | li (p rd : Nat) (imm : BitVec 16)
  /-- ADD_C (R260): MQ add with correlated uncertainty. -/
  | addC (p md ma mb : Nat)
  /-- ADD_U (R260): MQ add with uncorrelated uncertainty. -/
  | addU (p md ma mb : Nat)
  /-- SUB_C (R260): MQ subtract with correlated uncertainty. -/
  | subC (p md ma mb : Nat)
  /-- SUB_U (R260): MQ subtract with uncorrelated uncertainty. -/
  | subU (p md ma mb : Nat)
  /-- MUL_C (R260): MQ multiply with correlated uncertainty and a named unit. -/
  | mulC (p md ma mb unit : Nat)
  /-- MUL_U (R260): MQ multiply with uncorrelated uncertainty and a named unit. -/
  | mulU (p md ma mb unit : Nat)
  /-- DIV_C (R260): MQ divide with correlated uncertainty. -/
  | divC (p md ma mb unit : Nat)
  /-- DIV_U (R260): MQ divide with uncorrelated uncertainty. -/
  | divU (p md ma mb unit : Nat)
  /-- SQRT (R260): MQ square root with a named unit. -/
  | sqrt (p md ma unit : Nat)
  /-- NEG (R260): MQ negate. -/
  | neg (p md ma : Nat)
  /-- ABS (R260): MQ absolute value. -/
  | abs (p md ma : Nat)
  /-- MIN (R260): MQ minimum of two operands. -/
  | min (p md ma mb : Nat)
  /-- MAX (R260): MQ maximum of two operands. -/
  | max (p md ma mb : Nat)
  /-- MOV (R260): MQ register copy. -/
  | mov (p md ma : Nat)
  /-- UWID (R260): Widens an MQ uncertainty linearly by another word's magnitude and U. -/
  | uwid (p md ma mb : Nat)
  /-- SCLI (R260): Scales an MQ word by an exact integer constant times a power of two. -/
  | scli (p md ma ib sh : Nat)
  /-- CVU (R261): MQ unit conversion. -/
  | cvu (p md ma unit : Nat)
  /-- CVT (R261): Converts an integer into an exact MQ word. -/
  | cvt (p md ia unit sh : Nat)
  /-- CVI (R261): Converts an MQ value into a rounded, saturated integer. -/
  | cvi (p id ma sh : Nat)
  /-- SETF (R261): Raises flags and QUAL of an MQ word. -/
  | setf (p md ma mask qual : Nat)
  /-- LDP (R263): Loads a parameter page entry as an MQ word. -/
  | ldp (p md param unit : Nat)
  /-- PROP (R264): Evaluates a property table with the domain and saturation rules. -/
  | prop (p md ma tbl : Nat) (par : Bool)
  /-- LD (R269): Loads a 16-byte region SRAM word into an M register and journals it. -/
  | ld (p md : Nat) (nb : Bool) (base idx : Nat)
  /-- ST (R269): Buffers an M register word for a region SRAM offset until commit. -/
  | st (p ma : Nat) (nb : Bool) (base idx : Nat)
  /-- LDL (R269): Loads one lane of a region SRAM word into an I register. -/
  | ldl (p id : Nat) (nb : Bool) (base idx lane : Nat)
  /-- TACC (R270): Accumulates an MQ word into a totalizer register and its companion, pending commit. -/
  | tacc (p tn ma : Nat) (neg : Bool)
  /-- TRDC (R270): Reads the interval companion of a totalizer register. -/
  | trdc (p md tn : Nat)
  /-- BR (R271): Forward conditional branch. -/
  | br (p cond ra rb off : Nat)
  /-- LOOP (R274): Runs the following body a counted number of times. -/
  | loop (p x count len : Nat)
  /-- IN_CHAIN (R245): ROM input routine that reads a chain output record. -/
  | inChain (p : Nat)
  /-- IN_PATH (R245): ROM input routine that reads a path's echo results. -/
  | inPath (p : Nat)
  /-- IN_PULSE (R245): ROM input routine that reads a pulse record. -/
  | inPulse (p : Nat)
  /-- ORIFICE (R289): ROM flow routine for an ISO 5167-2 orifice. -/
  | orifice (p : Nat)
  /-- VENTURI (R290): ROM flow routine for an ISO 5167-4 Venturi. -/
  | venturi (p : Nat)
  /-- UPATH (R291): ROM routine that integrates the ultrasonic paths into volume flow. -/
  | upath (p : Nat)
  /-- KFACTOR (R292): ROM routine that converts pulses through a K-factor curve. -/
  | kfactor (p : Nat)
  /-- FREQ (R292): ROM routine that converts frequency into mass. -/
  | freq (p : Nat)
  /-- NORMVOL (R294): ROM routine that converts volume to normal or standard conditions. -/
  | normvol (p par : Nat)
  /-- DENSITY (R294): ROM routine that gives density and enthalpy for the medium. -/
  | density (p par : Nat)
  /-- TEND (R276): Ends the task body and runs the comparison, commit log, commit mark and emissions. -/
  | tend (p : Nat) (agree : Bool)
  /-- EMITV (R277): Records a VALUE emission. -/
  | emitv (p m : Nat)
  /-- EMITT (R277): Records a TOTAL emission. -/
  | emitt (p t : Nat)
  /-- EMITE (R277): Records an EVENT emission carrying an MQ word. -/
  | emite (p m code : Nat)
  /-- EMITI (R277): Records an EVENT emission carrying two integers. -/
  | emiti (p x y code : Nat)
  /-- RECORD_SNAPSHOT (R249): Once every release of an interval is done, totals, companions and averages are snapshotted and a bank is reset. -/
  | recordSnapshot (p : Nat)
  /-- INTERVAL_RECORD (R520): HSC builds, signs and programs the interval record, writes a totalizer commit and emits a RECORD entry. -/
  | intervalRecord (fails cfails : Nat)
  /-- XOFS_LEARN (R297): After an awake period in SYNC, AOC moves XOFS towards the measured crystal offset. -/
  | xofsLearn (measured : Int)
  /-- TIME_STAMP_GO (R317): A write of GO captures Heartwood time into TIME.STAMP. -/
  | timeStampGo (value : Word)
  /-- GAUGE_SAMPLE (R322): Every millisecond the gauge samples VSTORE and ISNS and Spindle updates its reserve. -/
  | gaugeSample (code : Nat) (isns : Int)
  /-- POWER_FAIL_COMMIT (R327): The reserve reaches the floor, or a reset command arrives; totals and queued entries are committed and POWER_FAIL is written. -/
  | powerFailCommit (durUs : Nat) (cut : Bool)
  /-- TEMPERATURE_SAMPLE (R329): The sensors report each millisecond and the thermal state is updated. -/
  | temperatureSample (temps : List Int)
  /-- FROST_ENTRY (R351): The FROST commit is written, state is retained and the domains power down. -/
  | frostEntry (slept : Asleep) (trig durUs mv : Nat)
  /-- SPINDLE_ALARM (R354): The AOC alarm edge starts the clocks and units of the next job. -/
  | spindleAlarm (lag : Nat)
  /-- THAW_WINTER (R355): Waking from WINTER restores the controllers, locks the PLLs, reloads time and thaws units. -/
  | thawWinter (src : Nat) (slept : Asleep) (x32 : Bool)
  /-- THAW_FROST (R355): Waking from FROST powers the domains, starts HFXO, hands over time and performs the class F restore. -/
  | thawFrost (src : Nat) (slept : Asleep) (intact x32 : Bool)
  /-- HFXO_RESTART (R362): AOC retries HFXO once per second after a failure. -/
  | hfxoRestart (ok : Bool) (slept : Asleep) (x32 : Bool)
  /-- PLL_UNLOCK (R362): A PLL loses lock or leaves its window; its output stops and a fault follows if it is used. -/
  | pllUnlock (pll : Nat) (freq : Bool)
  /-- CALIBRATION_DUE (R365): PERIOD_S elapses since the last completion and a calibration becomes due. -/
  | calibrationDue (kind ch : Nat)
  /-- CALIBRATION_HOLD_END (R369): The hold ends; the result is judged against CALLIM and accepted with a ramp, or rejected. -/
  | calibrationHoldEnd (valid : Bool) (m0 m1 res0 res1 : Int)
  /-- INTERCONNECT_FAULT (R392): A parity error or an unretired transaction puts Heartwood into safe state and resets the interconnect. -/
  | interconnectFault (master addr : Nat)
  /-- HSC_WATCHDOG_EXPIRY (R394): The HSC watchdog expires, safe state is entered and HSC restarts from ROM. -/
  | hscWatchdogExpiry (cause addr : Nat) (pc : Word)
  /-- SAFE_EXIT (R392): The cause of safe state clears and Heartwood leaves it. -/
  | safeExit (durUs : Nat)
  /-- HSC_WDT_KICK (R394): A write of 0x4B1D restarts the HSC watchdog. -/
  | hscWdtKick (value : Word)
  /-- SCRUB (R396): The scrubber reads a Heartwood SRAM word in an idle slot and corrects or reports it. -/
  | scrub (mem addr err : Nat)
  /-- REG_PARITY (R396): A sealed register field with a parity error is reloaded from its source and logged. -/
  | regParity (addr bit : Nat)
  /-- FLASH_READ (R403): Flash service call that reads n words. -/
  | flashRead (dom core addr n dest : Nat) (corr uncorr : List Nat) (busy : Bool)
  /-- FLASH_PROGRAM (R406): Flash service call that programs n blank words by pulse and verify. -/
  | flashProgram (dom core addr n src : Nat) (failAt cutAt : Option Nat) (busy : Bool)
  /-- FLASH_ERASE (R408): Flash service call that starts a journaled sector erase. -/
  | flashErase (dom addr : Nat) (busy : Bool)
  /-- ERASE_END (R408): The erase verifies or fails, the stamp is programmed and the result is held. -/
  | eraseEnd (dom : Nat) (ok : Bool)
  /-- FLASH_STATUS (R403): Flash service call that reports the erase state. -/
  | flashStatus (dom : Nat) (busy : Bool)
  /-- SUSPEND (R411): Flash service call that suspends the running erase. -/
  | suspend (dom : Nat) (busy : Bool)
  /-- RESUME (R411): Flash service call that resumes a suspended erase. -/
  | resume (dom : Nat) (busy : Bool)
  /-- UNLOCK (R417): Flash service call that unlocks a protection area with its password. -/
  | unlock (dom core area pw : Nat) (busy : Bool)
  /-- LOCK (R417): Flash service call that locks a protection area. -/
  | lock (dom area : Nat) (busy : Bool)
  /-- SETPW (R417): Flash service call that changes a protection area's password. -/
  | setpw (dom core area old new : Nat) (busy : Bool)
  /-- ZONECFG (R414): Flash service call that erases a Sapwood zone and sets it safe or dense. -/
  | zonecfg (dom zone mode : Nat) (busy : Bool)
  /-- ECNT (R419): Flash service call that returns a Sapwood block's erase count. -/
  | ecnt (dom addr : Nat) (busy : Bool)
  /-- MARGIN (R420): Flash service call that margin-scrubs one Sapwood sector. -/
  | margin (dom addr weak corr uncorr : Nat) (busy : Bool)
  /-- MARGIN_SCRUB_PASS (R420): Every 24 or 6 hours the ROM scrubs the Heartwood device zones at margin. -/
  | marginScrubPass (stop weak : Nat) (uncorr : List Nat)
  /-- INTERRUPT_SOURCE_EVENT (R435): An edge or level on an interrupt source sets PEND and assigns it to a target. -/
  | interruptSourceEvent (c n : Nat) (level : Bool)
  /-- CLAIM (R437): A read of CLAIMt claims the highest-order pending source assigned to the target. -/
  | claim (c t : Nat)
  /-- COMPLETE (R438): A write to COMPLETEt ends a source's active state and resamples a level source. -/
  | complete (c t : Nat) (value : Word)
  /-- MODERATION_TIMEOUT (R441): The moderation timer reaches TIME and raises the normal line. -/
  | moderationTimeout (c t : Nat)
  /-- STORM_CLEAR (R443): Writing 1 to a STORM bit unmasks the source and clears its window. -/
  | stormClear (c k : Nat) (value : Word)
  /-- STORM_WINDOW_END (R443): A storm window of WINDOW µs ends and the source's count clears. -/
  | stormWindowEnd (c n : Nat)
  /-- COMPARE_MATCH (R450): A counter tick reaches CMP in an enabled direction, setting CMP and OUT. -/
  | compareMatch (g k : Nat)
  /-- PERIOD_END (R449): A counter completes its period, setting PER and clearing OUT. -/
  | periodEnd (g k : Nat)
  /-- TMR_START (R457): A write to TMR.START sets RUN of the named counters on one edge. -/
  | tmrStart (g : Nat) (value : Word)
  /-- TMR_STOP (R457): A write to TMR.STOP clears RUN of the named counters. -/
  | tmrStop (g : Nat) (value : Word)
  /-- WDT_KICK (R458): A write of 0x5744 restarts the Sapwood watchdog. -/
  | wdtKick (value : Word)
  /-- TW_GO (R461): A write of GO starts a two-wire controller transfer. -/
  | twGo (n : Nat) (value : Word)
  /-- TW_TRANSFER_END (R463): A two-wire transfer ends with its RESULT and sets DONE. -/
  | twTransferEnd (n : Nat) (nack : Option Nat) (data : List Byte)
  /-- ARB_LOST (R464): The port loses arbitration, releases the bus, and records the loss and whether it will retry. -/
  | arbLost (n byte bit : Nat) (data : List Byte)
  /-- ARBITRATION_RETRY (R464): After the other transfer's STOP and tBUF, the port restarts the transfer. -/
  | arbitrationRetry (n : Nat)
  /-- STRETCH_TIMEOUT (R465): SCL is held low for STRETCH_MS and the transfer ends with TIMEOUT. -/
  | stretchTimeout (n : Nat)
  /-- SCL_LOW_TIMEOUT (R465): SCL has been low for SCL_LOW_MS and SCL_LOW is set. -/
  | sclLowTimeout (n : Nat)
  /-- SDA_LOW_TIMEOUT (R465): SDA has been low for SDA_LOW_MS with SCL high and the transfer ends. -/
  | sdaLowTimeout (n : Nat)
  /-- TW_BUS_ERR (R466): A foreign START or STOP during a transfer ends it with BUS_ERR. -/
  | twBusErr (n byte : Nat) (data : List Byte)
  /-- TW_ABORT (R463): A write of ABORT ends the transfer with ABORTED. -/
  | twAbort (n : Nat) (data : List Byte)
  /-- RECOVER (R467): A write of RECOVER pulses SCL until SDA is released, then sends STOP. -/
  | recover (n : Nat) (freed : Bool)
  /-- TW_TXDATA (R461): A TXDATA write adds a byte to the transmit buffer or sets TXOVF. -/
  | twTxdata (n : Nat) (value : Word)
  /-- TW_RXDATA (R461): A RXDATA read removes the oldest byte and releases a held SCL. -/
  | twRxdata (n : Nat)
  /-- ALERT_RESPONSE_READ (R469): A low ALERT input makes the idle port read the Alert Response Address. -/
  | alertResponseRead (n : Nat) (answer : Option Nat) (first : Bool)
  /-- TWM_ADDRESS_MATCH (R473): TWM matches its address and acknowledges, stretches to wake, or refuses in FROST. -/
  | twmAddressMatch (read : Bool)
  /-- TWM_WRITE (R470): A host write sets the TWM pointer and writes the registers it names. -/
  | twmWrite (data : List Byte) (lost : List Nat)
  /-- TWM_READ (R470): A host read returns TWM registers from a snapshot taken at the address acknowledge. -/
  | twmRead (n : Nat)
  /-- TWM_ARA_ANSWER (R471): TWM arbitrates its address in answer to the Alert Response Address. -/
  | twmAraAnswer (won : Bool)
  /-- CSP_GO (R477): A write of GO starts a clocked serial controller frame. -/
  | cspGo (n : Nat)
  /-- CSP_FRAME_END (R477): The frame's select is released after HOLD and DONE is set. -/
  | cspFrameEnd (n : Nat) (wire : List Byte) (dqsTo : Bool)
  /-- CSP_TXDATA (R479): A TXDATA write pushes bytes, resumes a stopped clock or sets TXOVF. -/
  | cspTxdata (n : Nat) (wire : List Byte) (value : Word)
  /-- CSP_RXDATA (R478): A RXDATA read pops bytes and resumes a clock stopped on a full FIFO. -/
  | cspRxdata (n : Nat) (wire : List Byte)
  /-- CSP_ABORT (R479): A write of ABORT completes the byte and ends the frame with ABORTED. -/
  | cspAbort (n : Nat) (wire : List Byte)
  /-- MODE_FAULT (R481): SS0 goes low while a MULTI controller holds the bus; it releases the bus and becomes a target. -/
  | modeFault (n : Nat) (wire : List Byte)
  /-- TARGET_SELECTION_END (R482): The end of a target selection on CSP2 or CSP3 sets DONE. -/
  | targetSelectionEnd (n : Nat) (wire : List Byte)
  /-- CSP4_FRAME (R484): At the rise of SS, CSP4 accepts or rejects the frame's words. -/
  | csp4Frame (bits : Nat) (words : List Word)
  /-- DISCOVER (R487): A write of DISCOVER reads SFDP and sets the XIP size and address width. -/
  | discover (sfdp : List Byte)
  /-- XIP_FETCH (R488): A read in the CSP5 window is served from a line buffer or by a fetch frame. -/
  | xipFetch (master addr : Nat) (data : List Byte) (dqsTo : Bool)
  /-- ETH_TRANSMIT_FRAME (R492): The MAC sends an owned transmit descriptor's frame, stamps it and writes the descriptor back. -/
  | ethTransmitFrame (n lag : Nat)
  /-- ETH_RECEIVE_FRAME (R493): A received frame is stamped and placed in the receive FIFO or dropped. -/
  | ethReceiveFrame (n lag : Nat) (frame : List Byte) (fcsOk : Bool)
  /-- ETH_RECEIVE_DELIVER (R491): A waiting frame is moved from the FIFO into the next owned receive descriptor. -/
  | ethReceiveDeliver (n : Nat)
  /-- TXCTL_POLL (R491): A write of POLL makes the MAC look for owned transmit descriptors. -/
  | txctlPoll (n : Nat) (value : Word)
  /-- RXCTL_POLL (R491): A write of POLL makes the MAC look for owned receive descriptors. -/
  | rxctlPoll (n : Nat) (value : Word)
  /-- LINK_CHANGE (R494): The link state changes and LINKCHG is set. -/
  | linkChange (n : Nat) (up : Bool) (stat : Nat)
  /-- MDIO_GO (R490): A write of GO runs one Clause 22 MDIO frame. -/
  | mdioGo (value : Word)
  /-- TSQ_READ (R316): A read of ETH.TSQ0 snapshots the head time-stamp queue entry. -/
  | tsqRead (n : Nat)
  /-- TSQ_POP (R316): A write of POP removes the head time-stamp queue entry. -/
  | tsqPop (n : Nat)
  /-- SUBMIT (R497): A write of SUBMIT passes the payload in FW_IN to the host engine as messages. -/
  | submit (value : Word)
  /-- LONG (R507): A write of LONG declares an APP request long. -/
  | long (value : Word)
  /-- WRITE (R532): Recovery APP code that writes data into Sapwood slot A. -/
  | write (offset : Nat) (words : List Word)
  /-- DEBUG_ACCESS (R534): A debug module access acts when debug is enabled, or is refused and captured. -/
  | debugAccess (dom op hart : Nat) (write : Bool) (addr size : Nat) (value : BitVec 128)
  /-- BUS_ACCESS_ERROR (R433): A failed access completes with a bus error and is captured in BUSERR. -/
  | busAccessError (dom kind master : Nat) (write : Bool) (addr size : Nat)
  /-- REGISTER_WRITE (R4): A write to a register field with no row of its own acts according to its access code. -/
  | registerWrite (dom master addr size : Nat) (value : BitVec 128)
  /-- DOORBELL (R111): A write of RING to GW.CMD_CTRL copies and checks a command that names no listed code or has a bad length, or is ignored during CHECKING and sets DB_LOST. -/
  | doorbell (phase : Nat) (w0 w1 : Word)
  /-- PULSE_PHASE_REMOVED (R184): The glitch filter removes a short phase on a pulse input, which increments MERGE and sets OVERRATE. -/
  | pulsePhaseRemoved (n d w : Nat)
  /-- PULSE_UNCOUNTED_EDGE (R185): An edge of the uncounted polarity on a pulse input changes LEVEL and clears STUCK. -/
  | pulseUncountedEdge (n d : Nat)
  /-- MDIO_FRAME_END (R490): An MDIO frame on ETH2 completes and BUSY clears, with the read data in MDIO.DATA. -/
  | mdioFrameEnd (data : BitVec 16)
  /-- W0_SNAPSHOT_READ (R230): A 32-bit Heartwood master reads W0 of a 16-byte group in SRAM or a TALLY window and fills one of its four snapshot entries. -/
  | w0SnapshotRead (master addr : Nat)
  /-- MRET (R529): SC0 or SC1 executes mret with CUR at 1, which restores the normal register bank and releases held interrupts. -/
  | mret (core : Nat)
  /-- VDD_AO_FAIL (R59): VDD_AO falls below its monitor threshold and causes a class P reset. -/
  | vddAoFail
  /-- VDD_SW_LOSS (R20): VDD_SW is lost; Sapwood stops and unacknowledged inbound commands are discarded. -/
  | vddSwLoss
  /-- VDD_SW_RETURN (R59): VDD_SW returns good and causes a class S reset. -/
  | vddSwReturn
  /-- SAPWOOD_BOOT (R532): The Sapwood boot ROM repairs erases, picks the valid firmware slot with the highest GEN and starts SC0, or enters recovery. -/
  | sapwoodBoot
  /-- SEAL_OPEN (R103): The filtered loop reads open; the counter is incremented, the state becomes UNSEALED and a SEAL_OPEN entry is made. -/
  | sealOpen (fails : Nat) (slept : Asleep)
  /-- SEAL_CLOSE (R103): The filtered loop reads closed after 256 matches; the state becomes SEALED, a SEAL_CLOSE entry is made and debug is disabled. -/
  | sealClose (fails : Nat) (slept : Asleep)
  /-- IMAGE_LOAD_TIMEOUT (R113): An image load that receives no data or end for 10 s is ended and its slot set to empty. -/
  | imageLoadTimeout
  /-- ZERO_CAL_END (R375): After NCYC fired instants the zero-flow offset is judged, and then set or rejected. -/
  | zeroCalEnd
  /-- RING_ENTRY_READ (R117): A read of GW.RING_ENTRY0 snapshots the entry at the read pointer. -/
  | ringEntryRead
  /-- POP (R117): A write of POP advances the ring read pointer past the snapshot entry. -/
  | pop
  /-- CLR_OVR (R117): A write of CLR_OVR clears the ring OVERRUN count. -/
  | clrOvr
  /-- CYCLE_INSTANT (R300): A cycle instant fires; TIME.CYCLE latches N and releases, envelope and ladder checks follow. -/
  | cycleInstant
  /-- TIME_STEP_APPLY (R309): An accepted step is applied at the first quiet tick or at 100 ms, and the grid and comparators adjust. -/
  | timeStepApply
  /-- HOLDOVER_TIMEOUT (R299): No correction for TIME.HOLD seconds moves the state from SYNC to HOLDOVER. -/
  | holdoverTimeout
  /-- GW_TIME_READ (R312): A read of GW.TIME0 snapshots Heartwood time for Sapwood. -/
  | gwTimeRead
  /-- TIME_NOW_READ (R295): A read of TIME.NOW0 snapshots Heartwood time. -/
  | timeNowRead
  /-- TIME_CYCLE_READ (R300): A read of TIME.CYCLE_LO snapshots the cycle number. -/
  | timeCycleRead
  /-- ENERGY_SCALE_UPDATE (R325): Each Heartwood second Spindle updates the energy scale k. -/
  | energyScaleUpdate
  /-- SAPWOOD_GATE (R348): When SLEEP is set and both cores wait, Sapwood is gated with retention. -/
  | sapwoodGate
  /-- WINTER_ENTRY (R349): At an XTAL32 edge with nothing running, the sleep counter takes time and the PLLs stop. -/
  | winterEntry
  /-- SEASON_ALARM (R353): SEASON.ALARM is reached and wakes Sapwood when enabled. -/
  | seasonAlarm
  /-- XTAL32_FAIL (R362): The XTAL32 monitor fails; the sleep counter and seal move to LFRC. -/
  | xtal32Fail
  /-- HFRC_FAIL (R362): The HFRC rate leaves ±5 % and causes a class P reset. -/
  | hfrcFail
  /-- HFXO_FAIL (R362): HFXO stops or drifts; this is clock loss and time passes to the sleep counter. -/
  | hfxoFail
  /-- CALIBRATION_START (R366): The next due calibration starts at its aligned instant if energy and heat allow. -/
  | calibrationStart
  /-- WDT_WARN (R458): The watchdog count reaches WARN and signals SIC source 1. -/
  | wdtWarn
  /-- WDT_LIMIT (R458): The watchdog count reaches LIMIT and causes a class S reset. -/
  | wdtLimit
  /-- TWM_BUS_ERR (R472): A misplaced START discards TWM's partial byte and restarts recognition. -/
  | twmBusErr
  /-- CONT_MAX_EXPIRY (R489): The held select of a continuous read expires and SS0 is released. -/
  | contMaxExpiry
  /-- FW_OUT_POP (R497): A write of POP releases FW_OUT for the next message. -/
  | fwOutPop
  /-- HOST_FORWARD (R504): A host message carrying a gateway code is forwarded to the gateway and answered. -/
  | hostForward
  /-- HOST_RESULT_COLLECT (R505): RESULT ring entries of a forwarded command are gathered into its reply. -/
  | hostResultCollect
  /-- HOST_GATEWAY_TIMEOUT (R505): No result within GW_TO ms gives a TIMEOUT reply. -/
  | hostGatewayTimeout
  /-- HSTATUS (R506): Host message that reports the engine state. -/
  | hstatus
  /-- GET_RESULT (R503): Host message that repeats the reply of the last long command. -/
  | getResult
  /-- EVENTS (R503): Host message that returns and removes entries from the event queue. -/
  | events
  /-- TIME (R503): Host message that returns a snapshot of Heartwood time. -/
  | time
  /-- WAKE_POLICY (R503): Host message that writes the alert enables, wake sources and SLEEP. -/
  | wakePolicy
  /-- APP (R507): Host message passed to Sapwood firmware for its reply. -/
  | app
  /-- APP_TIMEOUT (R507): An APP reply that is not received within APP_TO ms is replaced by TIMEOUT. -/
  | appTimeout
  /-- EVENT_QUEUE_MOVE (R509): Each outbound ring entry is moved into the host event queue and may set the alert. -/
  | eventQueueMove
  /-- ERASE_SLOT (R532): Recovery APP code that erases Sapwood slot A. -/
  | eraseSlot
  /-- DONE (R532): Recovery APP code that ends the slot write with a class S reset. -/
  | done
  /-- PHASE_AMORTISED (R307): The phase remaining from a TIME_SLEW reaches zero, so the rate returns to FREQ alone and SLEWING clears. -/
  | phaseAmortised
  /-- CSP4_SELECT_ASSERTED (R353): The host pulls CSP4's select low; this sets SEL and, while Sapwood is gated, wakes it when enabled, losing the frame. -/
  | csp4SelectAsserted
  /-- VDDIO_S_LOSS (R45): VDDIO_S is removed; the Sapwood pads go high-impedance and HOST_ALERTn stops working while Heartwood continues. -/
  | vddioSLoss
  deriving DecidableEq, Repr

end Sys2Proof
end

