-- ==== Sys2Proof/Machine/Maps.lean ====
section
/-! DEFINITION. Finite maps as plain data: association lists sorted by key. `alSet` keeps the keys strictly rising, so that equal maps are
equal lists; `spSet` also drops an entry equal to what an unlisted key reads as, the canonical form that memory and the register file use. -/

namespace Sys2Proof.Machine

/-- The value listed at a key. -/
def alFind {α : Type} : List (Nat × α) → Nat → Option α
  | [], _ => none
  | (k', v) :: m, k => if k = k' then some v else alFind m k

/-- The value at a key, or a default. -/
def alGet {α : Type} (d : α) (m : List (Nat × α)) (k : Nat) : α := (alFind m k).getD d

/-- Store a value at a key, keeping the keys strictly rising. -/
def alSet {α : Type} : List (Nat × α) → Nat → α → List (Nat × α)
  | [], k, v => [(k, v)]
  | (k', v') :: m, k, v =>
    if k < k' then (k, v) :: (k', v') :: m
    else if k = k' then (k, v) :: m
    else (k', v') :: alSet m k v

/-- Remove a key. -/
def alDel {α : Type} : List (Nat × α) → Nat → List (Nat × α)
  | [], _ => []
  | (k', v') :: m, k => if k = k' then alDel m k else (k', v') :: alDel m k

/-- Store in canonical form: an entry equal to the value an unlisted key reads as is removed. -/
def spSet {α : Type} [DecidableEq α] (d : Nat → α) (m : List (Nat × α)) (k : Nat) (v : α) : List (Nat × α) :=
  if v = d k then alDel m k else alSet m k v

/-- Read of a canonical map. -/
def spGet {α : Type} (d : Nat → α) (m : List (Nat × α)) (k : Nat) : α := (alFind m k).getD (d k)

/-- Keys strictly rising. -/
def alSorted {α : Type} : List (Nat × α) → Bool
  | [] => true
  | [_] => true
  | (k, _) :: (k', v') :: m => decide (k < k') && alSorted ((k', v') :: m)

/-- The canonical form: keys strictly rising and no entry equal to what an unlisted key reads as. -/
def spWf {α : Type} [DecidableEq α] (d : Nat → α) (m : List (Nat × α)) : Bool :=
  alSorted m && m.all (fun e => decide (e.2 ≠ d e.1))

/-- Replace element `i` of a list (no effect out of range). -/
def listSet {α : Type} : List α → Nat → α → List α
  | [], _, _ => []
  | _ :: l, 0, v => v :: l
  | x :: l, i + 1, v => x :: listSet l i v

/-- Element `i` of a list, or a default. -/
def listGet {α : Type} (d : α) : List α → Nat → α
  | [], _ => d
  | x :: _, 0 => x
  | _ :: l, i + 1 => listGet d l i

/-- Field `[hi:lo]` of a number. -/
def bitsOf (v hi lo : Nat) : Nat := (v / 2 ^ lo) % 2 ^ (hi + 1 - lo)

/-- A number with its field `[hi:lo]` replaced by the low bits of `x`. -/
def setBits (v hi lo x : Nat) : Nat :=
  v - bitsOf v hi lo * 2 ^ lo + (x % 2 ^ (hi + 1 - lo)) * 2 ^ lo

/-- Two's complement value of the low `w` bits. -/
def sext (w v : Nat) : Int := if v % 2 ^ w < 2 ^ (w - 1) then (v % 2 ^ w : Nat) else (v % 2 ^ w : Nat) - (2 ^ w : Nat)

/-- The `w`-bit two's complement code of an integer (wrapping). -/
def utwo (w : Nat) (x : Int) : Nat := (x % (2 ^ w : Nat)).toNat

/-- Bytes of a number, least significant first (R11). -/
def leBytes : Nat → Nat → List Byte
  | 0, _ => []
  | n + 1, v => BitVec.ofNat 8 v :: leBytes n (v / 256)

/-- The number spelt by bytes, least significant first (R11). -/
def leNat : List Byte → Nat
  | [] => 0
  | b :: bs => b.toNat + 256 * leNat bs

/-- The number spelt by bytes, most significant first (the keys and digests of the Identity chapter). -/
def beNat (bs : List Byte) : Nat := leNat bs.reverse

/-- Bytes of a number, most significant first. -/
def beBytes (n v : Nat) : List Byte := (leBytes n v).reverse

/-- 32-bit words of bytes, least significant byte first. -/
def wordsOf : List Byte → List Word
  | [] => []
  | [a] => [BitVec.ofNat 32 (leNat [a])]
  | [a, b] => [BitVec.ofNat 32 (leNat [a, b])]
  | [a, b, c] => [BitVec.ofNat 32 (leNat [a, b, c])]
  | a :: b :: c :: d :: r => BitVec.ofNat 32 (leNat [a, b, c, d]) :: wordsOf r

/-- Bytes of 32-bit words. -/
def bytesOf : List Word → List Byte
  | [] => []
  | w :: ws => leBytes 4 w.toNat ++ bytesOf ws

/-- Bounded saturating increment. -/
def satAdd (mx a b : Nat) : Nat := min mx (a + b)

/-- Rounded division, halves away from zero, for a positive divisor. -/
def divRound (a b : Int) : Int := if 0 ≤ a then (2 * a + b) / (2 * b) else - ((2 * (-a) + b) / (2 * b))

/-- Division rounded to nearest, halves to even, for a positive divisor. -/
def divEven (a b : Int) : Int :=
  let q := a / b
  let r := a % b
  if 2 * r < b then q else if b < 2 * r then q + 1 else if q % 2 = 0 then q else q + 1

/-- Division rounded up, for a positive divisor. -/
def divUp (a b : Int) : Int := - ((-a) / b)

/-- Clamp an integer into a range. -/
def clampI (lo hi x : Int) : Int := if x < lo then lo else if hi < x then hi else x

end Sys2Proof.Machine
end

