-- ==== Sys2Proof/Machine/Flags.lean ====
section
/-! DEFINITION. Measured-quantity words and totalizer words (R215 to R229): layout, rounding, uncertainty, unit checks, flags and quality. A value is the integer
VALUE of Q40.40; an uncertainty is the natural number U * 2^128, which every representable U is. -/

namespace Sys2Proof.Machine

/-- An MQ word taken apart (R215): VALUE, U in units of 2^-128, UNIT, flag bits [9:4] and QUAL. -/
structure Mq where
  v : Int
  u : Nat
  unit : Nat
  fl : Nat
  q : Nat
  deriving DecidableEq, Repr

/-- LIM, UNS, CAL, DEG, OOR and SUB as bits of the flag field (R215). -/
def flLIM : Nat := 1
/-- UNS. -/
def flUNS : Nat := 2
/-- CAL. -/
def flCAL : Nat := 4
/-- DEG. -/
def flDEG : Nat := 8
/-- OOR. -/
def flOOR : Nat := 16
/-- SUB. -/
def flSUB : Nat := 32

/-- OR of flag fields (R222). -/
def flOr (a b : Nat) : Nat := Nat.lor a b

/-- The largest VALUE of R216. -/
def mqMax : Int := 2 ^ 79 - 1
/-- The smallest VALUE of R216. -/
def mqMin : Int := -(2 ^ 79)
/-- The largest U of R217. -/
def uMax : Nat := (2 ^ 24 - 1) * 2 ^ 255

/-- Division rounded up. -/
def cdiv (a b : Nat) : Nat := (a + b - 1) / b

/-- Square root by bits, rounded down: `k` bits still to decide, from the root so far. -/
def sqrtGo (n : Nat) : Nat → Nat → Nat
  | 0, r => r
  | k + 1, r => if (r + 2 ^ k) * (r + 2 ^ k) ≤ n then sqrtGo n k (r + 2 ^ k) else sqrtGo n k r

/-- Square root rounded down. -/
def isqrt (n : Nat) : Nat := sqrtGo n (n.log2 / 2 + 1) 0

/-- Square root rounded up. -/
def csqrt (n : Nat) : Nat := if isqrt n * isqrt n = n then isqrt n else isqrt n + 1

/-- Round an uncertainty up to the next representable one (R218); true says it passed the largest U. -/
def roundU (x : Nat) : Nat × Bool :=
  if x = 0 then (0, false)
  else if x < 2 ^ 23 then (2 ^ 23, false)
  else
    let sh := x.log2 - 23
    let y := cdiv x (2 ^ sh) * 2 ^ sh
    if uMax < y then (uMax, true) else (y, false)

/-- The canonical UMANT and UEXP (as an 8-bit code) of a representable U (R217). -/
def encU (u : Nat) : Nat × Nat :=
  if u = 0 then (0, 0) else (u / 2 ^ (u.log2 - 23), utwo 8 ((u.log2 : Int) - 151))

/-- Take a word apart (R215, R217). -/
def Mq.ofWord (w : W128) : Mq :=
  let n := w.toNat
  { v := sext 80 (bitsOf n 127 48), u := bitsOf n 39 16 * 2 ^ (sext 8 (bitsOf n 47 40) + 128).toNat, unit := bitsOf n 15 10, fl := bitsOf n 9 4, q := bitsOf n 3 0 }

/-- The word of a canonical MQ (R215). -/
def Mq.word (a : Mq) : W128 :=
  BitVec.ofNat 128 (utwo 80 a.v * 2 ^ 48 + (encU a.u).2 * 2 ^ 40 + (encU a.u).1 * 2 ^ 16 + (a.unit % 64) * 2 ^ 10 + (a.fl % 64) * 2 ^ 4 + a.q % 16)

/-- The all-zero word's content. -/
def Mq.zero : Mq := { v := 0, u := 0, unit := 0, fl := 0, q := 0 }

/-- Form a result from the exact value num / den in units of 2^-40 and its uncertainty before R225 and R218 (R216, R218, R225). An exact value beyond the range is saturated, which is not a rounding (R224, R225). -/
def Mq.form (unit : Nat) (num : Int) (den : Nat) (u fl q : Nat) : Mq :=
  let v := divEven num den
  let ovr := decide (mqMax * den < num) || decide (num < mqMin * den)
  let ru := roundU (u + (if num % den ≠ 0 ∧ !ovr then 2 ^ 87 else 0))
  { v := clampI mqMin mqMax v, u := ru.1, unit := unit, fl := flOr (flOr fl (if ovr then flLIM else 0)) (if ru.2 then flOOR else 0), q := q }

/-! Units (R219, R220). -/

/-- Dimension exponents of kg, m, s, K, A, the tags N and S, and the decimal scale of a unit code (R219). -/
def unitTable : List (List Int) :=
  [[0,0,0,0,0,0,0,0], [0,0,0,0,0,0,0,-2], [0,0,0,0,0,0,0,-6], [0,-3,0,0,0,0,0,0], [1,0,0,0,0,0,0,0], [1,0,0,0,0,0,0,3], [1,0,0,0,0,0,0,-3], [1,0,-1,0,0,0,0,0],
   [1,0,-1,0,0,0,0,-3], [0,3,0,0,0,0,0,0], [0,3,0,0,0,0,0,-3], [0,3,-1,0,0,0,0,0], [0,3,-1,0,0,0,0,-3], [0,3,0,0,0,1,0,0], [0,3,-1,0,0,1,0,0], [0,3,0,0,0,0,1,0],
   [0,3,-1,0,0,0,1,0], [1,2,-2,0,0,0,0,0], [1,2,-2,0,0,0,0,3], [1,2,-2,0,0,0,0,6], [1,2,-2,0,0,0,0,9], [1,2,-3,0,0,0,0,0], [1,2,-3,0,0,0,0,3], [1,2,-3,0,0,0,0,6],
   [1,-1,-2,0,0,0,0,0], [1,-1,-2,0,0,0,0,3], [1,-1,-2,0,0,0,0,6], [1,-1,-2,0,0,0,0,5], [0,0,0,1,0,0,0,0], [0,0,0,1,0,0,0,-3], [0,0,1,0,0,0,0,0], [0,0,1,0,0,0,0,-3]]
  ++
  [[0,0,1,0,0,0,0,-6], [0,0,1,0,0,0,0,-9], [0,0,1,0,0,0,0,-12], [0,0,-1,0,0,0,0,0], [0,1,0,0,0,0,0,0], [0,1,0,0,0,0,0,-3], [0,2,0,0,0,0,0,0], [0,1,-1,0,0,0,0,0],
   [1,-3,0,0,0,0,0,0], [1,-3,0,0,0,-1,0,0], [1,-3,0,0,0,0,-1,0], [0,2,-2,0,0,0,0,0], [0,2,-2,0,0,0,0,3], [0,2,-2,-1,0,0,0,0], [0,2,-2,-1,0,0,0,3], [1,-1,-1,0,0,0,0,0],
   [-1,3,0,0,0,0,0,0], [0,0,0,-1,0,0,0,0], [-1,1,2,0,0,0,0,0], [1,2,-3,0,-1,0,0,0], [1,2,-3,0,-1,0,0,-3], [1,2,-3,0,-1,0,0,-6], [1,2,-3,0,-1,0,0,-9], [0,0,0,0,1,0,0,0],
   [0,0,0,0,1,0,0,-6], [1,2,-3,0,-2,0,0,0], [2,-4,-2,0,0,0,0,0], [1,-2,-1,0,0,0,0,0]]

/-- The dimension, tags and scale of a unit code; a reserved code has none. -/
def unitDim (c : Nat) : List Int := listGet [] unitTable c

/-- Whether a unit code is defined (0x3C to 0x3F are reserved, R219). -/
def unitOk (c : Nat) : Bool := decide (c < 60)

/-- The named result of a product (R220). -/
def unitMul (a b r : Nat) : Bool := unitOk a && unitOk b && unitOk r && decide (unitDim r = List.zipWith (· + ·) (unitDim a) (unitDim b))

/-- The named result of a quotient (R220). -/
def unitDiv (a b r : Nat) : Bool := unitOk a && unitOk b && unitOk r && decide (unitDim r = List.zipWith (· - ·) (unitDim a) (unitDim b))

/-- The named result of a root (R220). -/
def unitRoot (a r : Nat) : Bool := unitOk a && unitOk r && decide ((unitDim r).map (2 * ·) = unitDim a)

/-- The named result of a conversion (R220): the same dimension and tags. -/
def unitConv (a r : Nat) : Bool := unitOk a && unitOk r && decide ((unitDim a).take 7 = (unitDim r).take 7)

/-- The decimal scale of a unit code. -/
def unitScale (c : Nat) : Int := listGet 0 (unitDim c) 7

/-! The operations of R223, as functions of two taken-apart words. Each answers none where the unit check fails (R220). -/

/-- Flags of a result with two operands (R222). -/
def fl2 (a b : Mq) : Nat := flOr a.fl b.fl
/-- QUAL of a result with two operands (R222). -/
def q2 (a b : Mq) : Nat := max a.q b.q

/-- The uncertainty of a sum in the correlated (false) or uncorrelated (true) variant (R223). -/
def uSum (unc : Bool) (a b : Nat) : Nat := if unc then csqrt (a * a + b * b) else a + b

/-- a + b (R223). -/
def Mq.add (unc : Bool) (a b : Mq) : Option Mq :=
  if unitOk a.unit && a.unit == b.unit then some (Mq.form a.unit (a.v + b.v) 1 (uSum unc a.u b.u) (fl2 a b) (q2 a b)) else none

/-- a - b (R223). -/
def Mq.sub (unc : Bool) (a b : Mq) : Option Mq :=
  if unitOk a.unit && a.unit == b.unit then some (Mq.form a.unit (a.v - b.v) 1 (uSum unc a.u b.u) (fl2 a b) (q2 a b)) else none

/-- a * b (R223). -/
def Mq.mul (unc : Bool) (unit : Nat) (a b : Mq) : Option Mq :=
  if unitMul a.unit b.unit unit then
    some (Mq.form unit (a.v * b.v) (2 ^ 40) (cdiv (uSum unc (b.v.natAbs * a.u) (a.v.natAbs * b.u)) (2 ^ 40)) (fl2 a b) (q2 a b))
  else none

/-- a / b (R223, R224). -/
def Mq.div (unc : Bool) (unit : Nat) (a b : Mq) : Option Mq :=
  if unitDiv a.unit b.unit unit then
    if b.v = 0 then
      some { v := if 0 < a.v then mqMax else if a.v < 0 then mqMin else 0, u := uMax, unit := unit, fl := flOr (fl2 a b) (flOr flOOR flLIM), q := q2 a b }
    else
      let bb := b.v.natAbs
      let x := a.u * bb
      let y := a.v.natAbs * b.u
      let u := if unc then csqrt (cdiv ((x * x + y * y) * 2 ^ 80) (bb ^ 4)) else cdiv ((x + y) * 2 ^ 40) (bb * bb)
      some (Mq.form unit (a.v * 2 ^ 40 * (if b.v < 0 then -1 else 1)) bb u (fl2 a b) (q2 a b))
  else none

/-- The square root of a (R223, R224). -/
def Mq.sqrt (unit : Nat) (a : Mq) : Option Mq :=
  if unitRoot a.unit unit then
    if 0 < a.v then
      let n := a.v.toNat * 2 ^ 40
      let r := isqrt n
      let exact := decide (r * r = n)
      let near := if (2 * r + 1) * (2 * r + 1) ≤ 4 * n then r + 1 else r
      let u := csqrt (cdiv (a.u * a.u * 2 ^ 40) (4 * a.v.toNat)) + (if exact then 0 else 2 ^ 87)
      some { v := (near : Int), u := (roundU u).1, unit := unit, fl := flOr a.fl (if (roundU u).2 then flOOR else 0), q := a.q }
    else
      let u := csqrt ((a.v.natAbs * 2 ^ 88 + a.u) * 2 ^ 128)
      some { v := 0, u := (roundU u).1, unit := unit, fl := flOr a.fl (if a.v < 0 then flOr flOOR flLIM else 0), q := a.q }
  else none

/-- -a (R223). -/
def Mq.neg (a : Mq) : Option Mq := if unitOk a.unit then some (Mq.form a.unit (-a.v) 1 a.u a.fl a.q) else none

/-- |a| (R223). -/
def Mq.abs (a : Mq) : Option Mq := if unitOk a.unit then some (Mq.form a.unit (a.v.natAbs : Int) 1 a.u a.fl a.q) else none

/-- A copy of a (R260 MOV). -/
def Mq.mov (a : Mq) : Option Mq := if unitOk a.unit then some (Mq.form a.unit a.v 1 a.u a.fl a.q) else none

/-- The operand with the smaller (or greater) value, a on a tie, with the flags of both (R260). -/
def Mq.pick (greater : Bool) (a b : Mq) : Option Mq :=
  if unitOk a.unit && a.unit == b.unit then
    let c := if greater then (if a.v < b.v then b else a) else (if b.v < a.v then b else a)
    some (Mq.form a.unit c.v 1 c.u (fl2 a b) (q2 a b))
  else none

/-- UWID (R260): U + |b| + Ub. -/
def Mq.uwid (a b : Mq) : Option Mq :=
  if unitOk a.unit && a.unit == b.unit then some (Mq.form a.unit a.v 1 (a.u + b.v.natAbs * 2 ^ 88 + b.u) (fl2 a b) (q2 a b)) else none

/-- SCLI (R260): multiplication by the exact constant k * 2^-sh. -/
def Mq.scli (a : Mq) (k : Int) (sh : Nat) : Option Mq :=
  if unitOk a.unit then some (Mq.form a.unit (a.v * k) (2 ^ sh) (cdiv (a.u * k.natAbs) (2 ^ sh)) a.fl a.q) else none

/-- CVU (R220, R223): multiplication of value and U by a power of ten. -/
def Mq.cvu (a : Mq) (unit : Nat) : Option Mq :=
  if unitConv a.unit unit then
    let d := unitScale a.unit - unitScale unit
    if 0 ≤ d then some (Mq.form unit (a.v * 10 ^ d.toNat) 1 (a.u * 10 ^ d.toNat) a.fl a.q)
    else some (Mq.form unit a.v (10 ^ (-d).toNat) (cdiv a.u (10 ^ (-d).toNat)) a.fl a.q)
  else none

/-- CVT (R261): an exact integer times 2^-sh. -/
def Mq.cvt (unit : Nat) (k : Int) (sh : Nat) : Option Mq := if unitOk unit then some (Mq.form unit (k * 2 ^ 40) (2 ^ sh) 0 0 0) else none

/-- CVI (R261): the value times 2^sh, rounded to the nearest integer and saturated to 32 bits. -/
def Mq.cvi (a : Mq) (sh : Nat) : Option Int := if unitOk a.unit then some (clampI (-(2 ^ 31)) (2 ^ 31 - 1) (divEven (a.v * 2 ^ sh) (2 ^ 40))) else none

/-- SETF (R261): raise flags and QUAL. -/
def Mq.setf (a : Mq) (mask qual : Nat) : Option Mq := if unitOk a.unit then some (Mq.form a.unit a.v 1 a.u (flOr a.fl (mask % 64)) (max a.q (qual % 16))) else none

/-- Set UNS on a word written while the task runs UNSEALED (R222, R255). -/
def Mq.uns (b : Bool) (a : Mq) : Mq := if b then { a with fl := flOr a.fl flUNS } else a

/-! TOT words and companions (R226 to R229). -/

/-- The largest count of R226. -/
def totMax : Int := 2 ^ 127 - 1

/-- Counts that accumulating a value adds (R227). -/
def totCounts (v : Int) : Int := divEven v 256

/-- A TOT word as an integer. -/
def totInt (w : W128) : Int := sext 128 w.toNat

/-- Accumulate counts into a TOT word, saturated at the range of R226 (R227); true says it saturated. -/
def totAdd (w : W128) (n : Int) : W128 × Bool :=
  let x := totInt w + n
  (BitVec.ofNat 128 (utwo 128 (clampI (-totMax) totMax x)), decide (totMax < x) || decide (x < -totMax))

/-- The word that TACC accumulates: a as it stands, its U read as its numeric value, or the negated word (R217, R227). -/
def Mq.taken (neg : Bool) (a : Mq) : Option Mq :=
  if unitOk a.unit then
    some (if neg then { a with v := clampI mqMin mqMax (-a.v), fl := if a.v = mqMin then flOr a.fl flLIM else a.fl } else a)
  else none

/-- The companion after one accumulation of x by which the TOT word gained `gain` counts (R228); `sat` says the TOT word saturated (R227). -/
def cmpAdd (unit : Nat) (c x : Mq) (gain : Int) (sat : Bool) : Mq :=
  let v := c.v + gain * 256
  let ovr := decide (mqMax < v) || decide (v < mqMin)
  let ru := roundU (c.u + x.u + (if x.v % 256 ≠ 0 then 2 ^ 95 else 0))
  { v := clampI mqMin mqMax v, u := ru.1, unit := unit, fl := flOr (flOr (flOr c.fl x.fl) (if ovr || sat then flLIM else 0)) (if ru.2 then flOOR else 0), q := max c.q x.q }

/-- The companion at the start of an interval (R228): value 0 in the descriptor's unit. -/
def cmpZero (unit : Nat) : W128 := ({ Mq.zero with unit := unit % 64 } : Mq).word

/-- An interval average of n words (R229). -/
def avgWord (n : Nat) (sum : Int) (usum unit fl q : Nat) : Mq :=
  if n = 0 then { v := 0, u := 0, unit := 0, fl := flSUB, q := 15 } else Mq.form unit sum n (cdiv usum n) fl q

end Sys2Proof.Machine
end

