-- ==== Sys2Proof/Machine/Crypto.lean ====
section
/-! DEFINITION. The cryptographic and check functions the manual names: CRC-32C, SHA-256 (FIPS 180-4) and ECDSA P-256 verification (FIPS 186-5).
The manual names the documents and does not repeat them: the functions are PRESUMED from those documents (notes/assumptions/5.md). They are written
over natural numbers with structural recursion. -/

namespace Sys2Proof.Machine

/-- `n` bit steps of CRC-32C in reflected form (polynomial 0x1EDC6F41, reflected 0x82F63B78). -/
def crcStep : Nat → Nat → Nat
  | 0, c => c
  | n + 1, c => crcStep n (if c % 2 = 1 then Nat.xor (c / 2) 0x82F63B78 else c / 2)

/-- CRC-32C register over bytes. -/
def crcFold : List Byte → Nat → Nat
  | [], c => c
  | b :: bs, c => crcFold bs (crcStep 8 (Nat.xor c b.toNat))

/-- CRC-32C of bytes. -/
def crc32c (bs : List Byte) : Nat := Nat.xor (crcFold bs 0xFFFFFFFF) 0xFFFFFFFF

/-- Rotate right within 32 bits. -/
def rotr32 (n x : Nat) : Nat := Nat.lor (x >>> n) ((x <<< (32 - n)) % 2 ^ 32)

/-- The 64 round constants of SHA-256. -/
def shaK : List Nat :=
  [0x428a2f98, 0x71374491, 0xb5c0fbcf, 0xe9b5dba5, 0x3956c25b, 0x59f111f1, 0x923f82a4, 0xab1c5ed5] ++
  [0xd807aa98, 0x12835b01, 0x243185be, 0x550c7dc3, 0x72be5d74, 0x80deb1fe, 0x9bdc06a7, 0xc19bf174] ++
  [0xe49b69c1, 0xefbe4786, 0x0fc19dc6, 0x240ca1cc, 0x2de92c6f, 0x4a7484aa, 0x5cb0a9dc, 0x76f988da] ++
  [0x983e5152, 0xa831c66d, 0xb00327c8, 0xbf597fc7, 0xc6e00bf3, 0xd5a79147, 0x06ca6351, 0x14292967] ++
  [0x27b70a85, 0x2e1b2138, 0x4d2c6dfc, 0x53380d13, 0x650a7354, 0x766a0abb, 0x81c2c92e, 0x92722c85] ++
  [0xa2bfe8a1, 0xa81a664b, 0xc24b8b70, 0xc76c51a3, 0xd192e819, 0xd6990624, 0xf40e3585, 0x106aa070] ++
  [0x19a4c116, 0x1e376c08, 0x2748774c, 0x34b0bcb5, 0x391c0cb3, 0x4ed8aa4a, 0x5b9cca4f, 0x682e6ff3] ++
  [0x748f82ee, 0x78a5636f, 0x84c87814, 0x8cc70208, 0x90befffa, 0xa4506ceb, 0xbef9a3f7, 0xc67178f2]

/-- The initial hash value of SHA-256. -/
def shaH0 : List Nat :=
  [0x6a09e667, 0xbb67ae85, 0x3c6ef372, 0xa54ff53a, 0x510e527f, 0x9b05688c, 0x1f83d9ab, 0x5be0cd19]

/-- Big-endian 32-bit words of a byte string. -/
def beWords : List Byte → List Nat
  | a :: b :: c :: d :: r => (a.toNat * 2 ^ 24 + b.toNat * 2 ^ 16 + c.toNat * 2 ^ 8 + d.toNat) :: beWords r
  | _ => []

/-- SHA-256 padding of a message. -/
def shaPad (m : List Byte) : List Byte :=
  let z := (119 - m.length % 64) % 64
  m ++ [0x80] ++ List.replicate z 0 ++ beBytes 8 (8 * m.length)

/-- Extend the message schedule: `w` holds the last 16 words, newest first; `n` more are produced and the whole schedule returned. -/
def shaSchedule : Nat → List Nat → List Nat → List Nat
  | 0, _, acc => acc.reverse
  | n + 1, w, acc =>
    let w2 := listGet 0 w 1
    let w7 := listGet 0 w 6
    let w15 := listGet 0 w 14
    let w16 := listGet 0 w 15
    let s1 := Nat.xor (Nat.xor (rotr32 17 w2) (rotr32 19 w2)) (w2 >>> 10)
    let s0 := Nat.xor (Nat.xor (rotr32 7 w15) (rotr32 18 w15)) (w15 >>> 3)
    let x := (s1 + w7 + s0 + w16) % 2 ^ 32
    shaSchedule n ((x :: w).take 16) (x :: acc)

/-- The rounds of SHA-256 over pairs (round constant, schedule word). -/
def shaRounds : List (Nat × Nat) → List Nat → List Nat
  | [], v => v
  | (k, w) :: r, [a, b, c, d, e, f, g, h] =>
    let s1 := Nat.xor (Nat.xor (rotr32 6 e) (rotr32 11 e)) (rotr32 25 e)
    let ch := Nat.xor (Nat.land e f) (Nat.land (Nat.xor e 0xFFFFFFFF) g)
    let t1 := h + s1 + ch + k + w
    let s0 := Nat.xor (Nat.xor (rotr32 2 a) (rotr32 13 a)) (rotr32 22 a)
    let mj := Nat.xor (Nat.xor (Nat.land a b) (Nat.land a c)) (Nat.land b c)
    shaRounds r [(t1 + s0 + mj) % 2 ^ 32, a, b, c, (d + t1) % 2 ^ 32, e, f, g]
  | _, v => v

/-- SHA-256 compression over the `n` 64-byte blocks of a padded message. -/
def shaBlocks : Nat → List Byte → List Nat → List Nat
  | 0, _, h => h
  | n + 1, m, h =>
    let w := beWords (m.take 64)
    let v := shaRounds (shaK.zip (shaSchedule 48 w.reverse w.reverse)) h
    shaBlocks n (m.drop 64) ((h.zip v).map fun p => (p.1 + p.2) % 2 ^ 32)

/-- SHA-256 of a byte string, 32 bytes. -/
def sha256 (m : List Byte) : List Byte :=
  let p := shaPad m
  (shaBlocks (p.length / 64) p shaH0).flatMap (beBytes 4)

/-- The field prime of P-256. -/
def p256p : Nat := 2 ^ 256 - 2 ^ 224 + 2 ^ 192 + 2 ^ 96 - 1

/-- The order of the base point of P-256. -/
def p256n : Nat := 0xFFFFFFFF00000000FFFFFFFFFFFFFFFFBCE6FAADA7179E84F3B9CAC2FC632551

/-- The coefficient b of P-256. -/
def p256b : Nat := 0x5AC635D8AA3A93E7B3EBBD55769886BC651D06B0CC53B0F63BCE3C3E27D2604B

/-- The base point of P-256. -/
def p256g : Nat × Nat :=
  (0x6B17D1F2E12C4247F8BCE6E563A440F277037D812DEB33A0F4A13945D898C296,
   0x4FE342E2FE1A7F9B8EE7EB4A7C0F9E162BCE33576B315ECECBB6406837BF51F5)

/-- Modular power, `n` exponent bits. -/
def powMod (m : Nat) : Nat → Nat → Nat → Nat
  | 0, _, _ => 1 % m
  | n + 1, b, e => let r := powMod m n (b * b % m) (e / 2); if e % 2 = 1 then b * r % m else r

/-- Modular inverse for a prime modulus below 2^256. -/
def invMod (m a : Nat) : Nat := powMod m 256 (a % m) (m - 2)

/-- Points in Jacobian coordinates; z = 0 is the point at infinity. -/
structure JPoint where
  x : Nat
  y : Nat
  z : Nat
  deriving DecidableEq, Repr

/-- Doubling on P-256 (a = -3). -/
def jDouble (q : JPoint) : JPoint :=
  if q.z = 0 then q else
  let p := p256p
  let d := q.z * q.z % p
  let g := q.y * q.y % p
  let b := q.x * g % p
  let a := 3 * ((q.x + p - d) % p) * ((q.x + d) % p) % p
  let x3 := (a * a + 8 * p - 8 * b) % p
  let yz := (q.y + q.z) % p
  let z3 := (yz * yz + 2 * p - g - d) % p
  let y3 := (a * ((4 * b + p - x3) % p) + 8 * p - 8 * (g * g % p)) % p
  ⟨x3, y3, z3⟩

/-- Addition on P-256. -/
def jAdd (q r : JPoint) : JPoint :=
  if q.z = 0 then r else if r.z = 0 then q else
  let p := p256p
  let z1 := q.z * q.z % p
  let z2 := r.z * r.z % p
  let u1 := q.x * z2 % p
  let u2 := r.x * z1 % p
  let s1 := q.y * (r.z * z2 % p) % p
  let s2 := r.y * (q.z * z1 % p) % p
  if u1 = u2 then (if s1 = s2 then jDouble q else ⟨1, 1, 0⟩) else
  let h := (u2 + p - u1) % p
  let rr := (s2 + p - s1) % p
  let h2 := h * h % p
  let h3 := h * h2 % p
  let v := u1 * h2 % p
  let x3 := (rr * rr + 3 * p - h3 - 2 * v) % p
  let y3 := (rr * ((v + p - x3) % p) + p - s1 * h3 % p) % p
  ⟨x3, y3, q.z * r.z % p * h % p⟩

/-- Scalar multiple, `n` bits. -/
def jMul : Nat → Nat → JPoint → JPoint
  | 0, _, _ => ⟨1, 1, 0⟩
  | n + 1, k, q => let r := jMul n (k / 2) (jDouble q); if k % 2 = 1 then jAdd q r else r

/-- Whether (x, y) is a point of P-256. -/
def onP256 (x y : Nat) : Bool :=
  decide (x < p256p) && decide (y < p256p) &&
  decide (y * y % p256p = (x * x % p256p * x + (p256p - 3) * x + p256b) % p256p)

/-- ECDSA P-256 verification of (r, s) over a 32-byte digest under the public key (x, y), FIPS 186-5. -/
def ecdsaVerify (x y : Nat) (digest : List Byte) (r s : Nat) : Bool :=
  if r = 0 ∨ s = 0 ∨ p256n ≤ r ∨ p256n ≤ s ∨ onP256 x y = false then false else
  let e := beNat digest
  let w := invMod p256n s
  let q := jAdd (jMul 256 (e * w % p256n) ⟨p256g.1, p256g.2, 1⟩) (jMul 256 (r * w % p256n) ⟨x, y, 1⟩)
  if q.z = 0 then false else
  let zi := invMod p256p q.z
  decide ((q.x * (zi * zi % p256p) % p256p) % p256n = r % p256n)

end Sys2Proof.Machine
end

