-- ==== Sys2Proof/Config.lean ====
section
/-! DEFINITION. What one implementation fixes and what the manual leaves open. Every constant here is OPAQUE: nothing in Lean can evaluate it, so
a statement about it holds for every value (the free values of INVENTORY.md, "What the manual leaves open"). -/

namespace Sys2Proof.Config

/-- A fresh 32-bit value the manual leaves open, indexed by the model's counter of free values (log entry 2). -/
opaque freeWord : Nat → BitVec 32

/-- A fresh truth value the manual leaves open (a pulse between two limits may or may not act, R51, R178), indexed like `freeWord`. -/
opaque freeBool : Nat → Bool

/-- Which way a quotient num/den is held, or rounded at a tie, where the manual names no rule (log entry 31). -/
opaque roundUp : Int → Nat → Bool

/-- A real value in 2^-96 of its unit that the manual leaves open, indexed like `freeWord`. -/
opaque freeReal : Nat → Int

/-- An uncertainty in 2^-128 of its unit that the manual does not state, indexed like `freeWord`. -/
opaque freeU : Nat → Nat

/-! The property tables, whose contents the manual does not print (R280 to R283; log entry 32). Figures are in 2^-96 of their units. -/

/-- What the patches of a table share at a corner of its grid (R281): table, surface, corner along u (or along the one axis), corner along T, and which figure: 0 the value, 1 and 2 the derivatives along u and T,
3 the mixed derivative, each per cell. -/
opaque node : Nat → Nat → Nat → Nat → Nat → Int

/-- The bound B stored with a patch (R282): table and cell. -/
opaque patchBound : Nat → Nat → Nat → Nat

/-- The enhancement factor of the humid-air guideline at p and T (R283). -/
opaque enhance : Int → Int → Nat

/-- Byte i of the device certificate (R513, R514); its length in bytes is `certLen`. -/
opaque certByte : Nat → BitVec 8

/-- One less than the length of the device certificate in bytes, which is at most 1,024 (R513). -/
opaque certLast : BitVec 10

/-- Length of the device certificate in bytes (R513). -/
def certLen : Nat := certLast.toNat + 1

/-- One less than the length, in 16-byte words, of a copy of a control record whose layout the manual does not print (R95, R400), by pair of sectors. -/
opaque ctlWords : Nat → BitVec 8

/-- Whether the alternating bits of a modulator are 0 at even edges (R171). -/
opaque altPhase : Nat → Bool

/-- Byte i of a path descriptor for the fields of its stream and the templates of its two shots, and of the track state of a shot: both layouts are internal to the part (R145). -/
opaque pathDescByte : List Nat → Nat → BitVec 8

/-- Byte i of a track state: locked, lag, stored TOF, failures. -/
opaque trackByte : Bool → Int → Option Int → Nat → Nat → BitVec 8

/-- Byte i of a commit mark, set or clear; of a commit log of given words; and of an average accumulator of given sum, sum of U, words, flags, QUAL and unit: the layouts are internal to the part (R239). -/
opaque markByte : Bool → Nat → BitVec 8

/-- Byte i of a commit log. -/
opaque logByte : List Nat → Nat → BitVec 8

/-- Byte i of an average accumulator. -/
opaque avgByte : List Nat → Nat → BitVec 8

/-- The r and s of a signature under the device key (R512, R521): the key and the nonces are not known outside the part. Arguments: the
digest as a number and the counter of free values. -/
opaque deviceSign : Nat → Nat → BitVec 256 × BitVec 256

/-- Words that wait for HOST.FW_OUT on channels 1 and 2 at most (R497, R501): the manual gives the queue no size. -/
opaque fwQueueWords : Nat

/-- The trimmed energy of the ROM gauge test's load in nanojoules (R66: about 40 mJ, trimmed at manufacture to within 3 %). -/
opaque eLoadTrim : BitVec 22

/-- E_load of R66 in nJ: 40 mJ with a trim of at most 3 % either way. -/
def eLoad : Nat := 38800000 + eLoadTrim.toNat % 2400001

end Sys2Proof.Config
end

