-- ==== Sys2Proof/Machine/Fields.lean ====
section
/-! DEFINITION. The named register fields of the SY880: each is the place of one row of the register tables of spec/
(address of the register, high bit, low bit). Addresses are TAGGED by domain: a Heartwood bus address a is a, a Sapwood bus address a
is 2^32 + a (R17: the two maps share numbers and nothing else), the bankctl CSRs of SC0 and SC1 are 2^33 + 0x7C0 and 2^33 + 0x17C0. -/

namespace Sys2Proof.Machine

/-- A bit field of a register: tagged address of the 32-bit register, high bit, low bit. -/
structure Fld where
  addr : Nat
  hi : Nat
  lo : Nat
  deriving DecidableEq, Repr

/-- FLT.BUSERR (0) or SIC.BUSERR (1), R433. -/
abbrev busErrBase (d : Nat) : Nat := if d = 0 then 0x40000020 else 0x140001f00
/-- The FLASH slot of Heartwood (0) or Sapwood (1), R421, R422. -/
abbrev flashRegBase (d : Nat) : Nat := if d = 0 then 0x40030000 else 0x140002000
/-- HIC (0) in Heartwood slot 16, SIC (1) in Sapwood slot 1. -/
abbrev icBase (c : Nat) : Nat := if c = 0 then 0x40100000 else 0x140001000
/-- TMR slot of TMGg, R422. -/
abbrev tmrBase (g : Nat) : Nat := 0x14000e000 + 0x1000 * g
/-- TW0-TW3 in Heartwood slots 17-20, TW4-TW7 in Sapwood slots 6-9. -/
abbrev twBase (n : Nat) : Nat := if n < 4 then 0x40110000 + 0x10000 * n else 0x140006000 + 0x1000 * (n - 4)
/-- CSP0, CSP1 in Heartwood slots 21, 22; CSP2-CSP5 in Sapwood slots 10-13. -/
abbrev cspBase (n : Nat) : Nat := if n < 2 then 0x40150000 + 0x10000 * n else 0x14000a000 + 0x1000 * (n - 2)
/-- ETH0-ETH2 in Sapwood slots 3-5. -/
abbrev ethBase (n : Nat) : Nat := 0x140003000 + 0x1000 * n

namespace F

/-- FLT.RST_CAUSE.POR [0:0], R70. -/
abbrev FLT.RST_CAUSE.POR : Fld := ⟨0x40000000, 0, 0⟩
/-- FLT.RST_CAUSE.FAULT [1:1], R70. -/
abbrev FLT.RST_CAUSE.FAULT : Fld := ⟨0x40000000, 1, 1⟩
/-- FLT.RST_CAUSE.AUTH [2:2], R70. -/
abbrev FLT.RST_CAUSE.AUTH : Fld := ⟨0x40000000, 2, 2⟩
/-- FLT.RST_CAUSE.SUPPLY [3:3], R70. -/
abbrev FLT.RST_CAUSE.SUPPLY : Fld := ⟨0x40000000, 3, 3⟩
/-- FLT.RST_CAUSE.RAIL [6:4], R70. -/
abbrev FLT.RST_CAUSE.RAIL : Fld := ⟨0x40000000, 6, 4⟩
/-- FLT.RST_CAUSE.COMMIT [7:7], R70. -/
abbrev FLT.RST_CAUSE.COMMIT : Fld := ⟨0x40000000, 7, 7⟩
/-- FLT.RST_CAUSE.HCOUNT [31:16], R70. -/
abbrev FLT.RST_CAUSE.HCOUNT : Fld := ⟨0x40000000, 31, 16⟩
/-- FLT.RST_CAUSE.ALL [31:0], R70. -/
abbrev FLT.RST_CAUSE.ALL : Fld := ⟨0x40000000, 31, 0⟩
/-- FLT.BOOT_STATUS.SLOT [1:0], R70. -/
abbrev FLT.BOOT_STATUS.SLOT : Fld := ⟨0x40000004, 1, 0⟩
/-- FLT.BOOT_STATUS.FALLBACK [2:2], R70. -/
abbrev FLT.BOOT_STATUS.FALLBACK : Fld := ⟨0x40000004, 2, 2⟩
/-- FLT.BOOT_STATUS.A_BAD [3:3], R70. -/
abbrev FLT.BOOT_STATUS.A_BAD : Fld := ⟨0x40000004, 3, 3⟩
/-- FLT.BOOT_STATUS.B_BAD [4:4], R70. -/
abbrev FLT.BOOT_STATUS.B_BAD : Fld := ⟨0x40000004, 4, 4⟩
/-- FLT.BOOT_STATUS.REPAIRED [11:8], R70. -/
abbrev FLT.BOOT_STATUS.REPAIRED : Fld := ⟨0x40000004, 11, 8⟩
/-- FLT.BOOT_STATUS.GAUGE [13:12], R70. -/
abbrev FLT.BOOT_STATUS.GAUGE : Fld := ⟨0x40000004, 13, 12⟩
/-- FLT.BOOT_STATUS.READY [16:16], R70. -/
abbrev FLT.BOOT_STATUS.READY : Fld := ⟨0x40000004, 16, 16⟩
/-- FLT.BOOT_STATUS.STEP [19:17], R70. -/
abbrev FLT.BOOT_STATUS.STEP : Fld := ⟨0x40000004, 19, 17⟩
/-- FLT.BOOT_STATUS.ALL [31:0], R70. -/
abbrev FLT.BOOT_STATUS.ALL : Fld := ⟨0x40000004, 31, 0⟩
/-- FLT.STATUS.SAFE [0:0], R397. -/
abbrev FLT.STATUS.SAFE : Fld := ⟨0x40000008, 0, 0⟩
/-- FLT.STATUS.CAUSE [3:1], R397. -/
abbrev FLT.STATUS.CAUSE : Fld := ⟨0x40000008, 3, 1⟩
/-- FLT.STATUS.ISO [15:8], R397. -/
abbrev FLT.STATUS.ISO : Fld := ⟨0x40000008, 15, 8⟩
/-- FLT.STATUS.ALL [31:0], R397. -/
abbrev FLT.STATUS.ALL : Fld := ⟨0x40000008, 31, 0⟩
/-- FLT.COUNT.FAULTS [15:0], R397. -/
abbrev FLT.COUNT.FAULTS : Fld := ⟨0x40000010, 15, 0⟩
/-- FLT.COUNT.UNLOGGED [31:16], R397. -/
abbrev FLT.COUNT.UNLOGGED : Fld := ⟨0x40000010, 31, 16⟩
/-- FLT.COUNT.ALL [31:0], R397. -/
abbrev FLT.COUNT.ALL : Fld := ⟨0x40000010, 31, 0⟩
/-- FLT.ECC.CORR [15:0], R397. -/
abbrev FLT.ECC.CORR : Fld := ⟨0x40000014, 15, 0⟩
/-- FLT.ECC.UNCORR [23:16], R397. -/
abbrev FLT.ECC.UNCORR : Fld := ⟨0x40000014, 23, 16⟩
/-- FLT.ECC.MEM [27:24], R397. -/
abbrev FLT.ECC.MEM : Fld := ⟨0x40000014, 27, 24⟩
/-- FLT.ECC.ALL [31:0], R397. -/
abbrev FLT.ECC.ALL : Fld := ⟨0x40000014, 31, 0⟩
/-- FLT.ECC_ADDR.ADDR [31:0], R397. -/
abbrev FLT.ECC_ADDR.ADDR : Fld := ⟨0x40000018, 31, 0⟩
/-- FLT.ECC_ADDR.ALL [31:0], R397. -/
abbrev FLT.ECC_ADDR.ALL : Fld := ⟨0x40000018, 31, 0⟩
/-- FLT.HSC_WDT.KEY [15:0], R397. -/
abbrev FLT.HSC_WDT.KEY : Fld := ⟨0x4000001c, 15, 0⟩
/-- FLT.HSC_WDT.ALL [31:0], R397. -/
abbrev FLT.HSC_WDT.ALL : Fld := ⟨0x4000001c, 31, 0⟩
/-- FLT.REGION_STAT.STATE [1:0], R397. -/
abbrev FLT.REGION_STAT.STATE (n : Nat) : Fld := ⟨0x40000040 + 4 * n, 1, 0⟩
/-- FLT.REGION_STAT.ROLLBACKS [15:8], R397. -/
abbrev FLT.REGION_STAT.ROLLBACKS (n : Nat) : Fld := ⟨0x40000040 + 4 * n, 15, 8⟩
/-- FLT.REGION_STAT.RESTARTS [23:16], R397. -/
abbrev FLT.REGION_STAT.RESTARTS (n : Nat) : Fld := ⟨0x40000040 + 4 * n, 23, 16⟩
/-- FLT.REGION_STAT.LASTCAUSE [27:24], R397. -/
abbrev FLT.REGION_STAT.LASTCAUSE (n : Nat) : Fld := ⟨0x40000040 + 4 * n, 27, 24⟩
/-- FLT.REGION_STAT.ALL [31:0], R397. -/
abbrev FLT.REGION_STAT.ALL (n : Nat) : Fld := ⟨0x40000040 + 4 * n, 31, 0⟩
/-- FLT.GUARD.STATE [1:0], R397. -/
abbrev FLT.GUARD.STATE (n : Nat) : Fld := ⟨0x40000080 + 4 * n, 1, 0⟩
/-- FLT.GUARD.HELD [2:2], R397. -/
abbrev FLT.GUARD.HELD (n : Nat) : Fld := ⟨0x40000080 + 4 * n, 2, 2⟩
/-- FLT.GUARD.DIVERGE [3:3], R397. -/
abbrev FLT.GUARD.DIVERGE (n : Nat) : Fld := ⟨0x40000080 + 4 * n, 3, 3⟩
/-- FLT.GUARD.PUBLISHED [31:16], R397. -/
abbrev FLT.GUARD.PUBLISHED (n : Nat) : Fld := ⟨0x40000080 + 4 * n, 31, 16⟩
/-- FLT.GUARD.ALL [31:0], R397. -/
abbrev FLT.GUARD.ALL (n : Nat) : Fld := ⟨0x40000080 + 4 * n, 31, 0⟩
/-- BUS.ERR.KIND [3:0], R433. -/
abbrev BUS.ERR.KIND (d : Nat) : Fld := ⟨(busErrBase d), 3, 0⟩
/-- BUS.ERR.MASTER [7:4], R433. -/
abbrev BUS.ERR.MASTER (d : Nat) : Fld := ⟨(busErrBase d), 7, 4⟩
/-- BUS.ERR.WRITE [8:8], R433. -/
abbrev BUS.ERR.WRITE (d : Nat) : Fld := ⟨(busErrBase d), 8, 8⟩
/-- BUS.ERR.VALID [9:9], R433. -/
abbrev BUS.ERR.VALID (d : Nat) : Fld := ⟨(busErrBase d), 9, 9⟩
/-- BUS.ERR.MULTI [10:10], R433. -/
abbrev BUS.ERR.MULTI (d : Nat) : Fld := ⟨(busErrBase d), 10, 10⟩
/-- BUS.ERR.COUNT [31:16], R433. -/
abbrev BUS.ERR.COUNT (d : Nat) : Fld := ⟨(busErrBase d), 31, 16⟩
/-- BUS.ERR.ALL [31:0], R433. -/
abbrev BUS.ERR.ALL (d : Nat) : Fld := ⟨(busErrBase d), 31, 0⟩
/-- BUS.ADDR.ADDR [31:0], R433. -/
abbrev BUS.ADDR.ADDR (d : Nat) : Fld := ⟨(busErrBase d) + 4, 31, 0⟩
/-- BUS.ADDR.ALL [31:0], R433. -/
abbrev BUS.ADDR.ALL (d : Nat) : Fld := ⟨(busErrBase d) + 4, 31, 0⟩
/-- SEASON.STATE.SEASON [1:0], R362. -/
abbrev SEASON.STATE.SEASON : Fld := ⟨0x140000000, 1, 0⟩
/-- SEASON.STATE.LAST [3:2], R362. -/
abbrev SEASON.STATE.LAST : Fld := ⟨0x140000000, 3, 2⟩
/-- SEASON.STATE.LATE_WAKE [4:4], R362. -/
abbrev SEASON.STATE.LATE_WAKE : Fld := ⟨0x140000000, 4, 4⟩
/-- SEASON.STATE.FROST_BLOCK [5:5], R362. -/
abbrev SEASON.STATE.FROST_BLOCK : Fld := ⟨0x140000000, 5, 5⟩
/-- SEASON.STATE.ALL [31:0], R362. -/
abbrev SEASON.STATE.ALL : Fld := ⟨0x140000000, 31, 0⟩
/-- SEASON.REQ.SLEEP [0:0], R362. -/
abbrev SEASON.REQ.SLEEP : Fld := ⟨0x140000004, 0, 0⟩
/-- SEASON.REQ.FROST_OK [1:1], R362. -/
abbrev SEASON.REQ.FROST_OK : Fld := ⟨0x140000004, 1, 1⟩
/-- SEASON.REQ.LINK0 [2:2], R362. -/
abbrev SEASON.REQ.LINK0 : Fld := ⟨0x140000004, 2, 2⟩
/-- SEASON.REQ.LINK1 [3:3], R362. -/
abbrev SEASON.REQ.LINK1 : Fld := ⟨0x140000004, 3, 3⟩
/-- SEASON.REQ.LINK2 [4:4], R362. -/
abbrev SEASON.REQ.LINK2 : Fld := ⟨0x140000004, 4, 4⟩
/-- SEASON.REQ.ALL [31:0], R362. -/
abbrev SEASON.REQ.ALL : Fld := ⟨0x140000004, 31, 0⟩
/-- SEASON.WAKE.TWM [0:0], R362. -/
abbrev SEASON.WAKE.TWM : Fld := ⟨0x140000008, 0, 0⟩
/-- SEASON.WAKE.CSP4 [1:1], R362. -/
abbrev SEASON.WAKE.CSP4 : Fld := ⟨0x140000008, 1, 1⟩
/-- SEASON.WAKE.ETH [4:2], R362. -/
abbrev SEASON.WAKE.ETH : Fld := ⟨0x140000008, 4, 2⟩
/-- SEASON.WAKE.GPIO [5:5], R362. -/
abbrev SEASON.WAKE.GPIO : Fld := ⟨0x140000008, 5, 5⟩
/-- SEASON.WAKE.RING [6:6], R362. -/
abbrev SEASON.WAKE.RING : Fld := ⟨0x140000008, 6, 6⟩
/-- SEASON.WAKE.ALARM [7:7], R362. -/
abbrev SEASON.WAKE.ALARM : Fld := ⟨0x140000008, 7, 7⟩
/-- SEASON.WAKE.ALL [31:0], R362. -/
abbrev SEASON.WAKE.ALL : Fld := ⟨0x140000008, 31, 0⟩
/-- SEASON.ALARM.SEC [31:0], R362. -/
abbrev SEASON.ALARM.SEC : Fld := ⟨0x14000000c, 31, 0⟩
/-- SEASON.ALARM.ALL [31:0], R362. -/
abbrev SEASON.ALARM.ALL : Fld := ⟨0x14000000c, 31, 0⟩
/-- SEASON.WAKESRC.SRC [11:0], R362. -/
abbrev SEASON.WAKESRC.SRC : Fld := ⟨0x140000010, 11, 0⟩
/-- SEASON.WAKESRC.ALL [31:0], R362. -/
abbrev SEASON.WAKESRC.ALL : Fld := ⟨0x140000010, 31, 0⟩
/-- SEASON.COUNT.WAKES [15:0], R362. -/
abbrev SEASON.COUNT.WAKES : Fld := ⟨0x140000014, 15, 0⟩
/-- SEASON.COUNT.FROSTS [31:16], R362. -/
abbrev SEASON.COUNT.FROSTS : Fld := ⟨0x140000014, 31, 16⟩
/-- SEASON.COUNT.ALL [31:0], R362. -/
abbrev SEASON.COUNT.ALL : Fld := ⟨0x140000014, 31, 0⟩
/-- SEASON.SRST_CAUSE.POR [0:0], R70. -/
abbrev SEASON.SRST_CAUSE.POR : Fld := ⟨0x140000040, 0, 0⟩
/-- SEASON.SRST_CAUSE.PIN [1:1], R70. -/
abbrev SEASON.SRST_CAUSE.PIN : Fld := ⟨0x140000040, 1, 1⟩
/-- SEASON.SRST_CAUSE.WDT [2:2], R70. -/
abbrev SEASON.SRST_CAUSE.WDT : Fld := ⟨0x140000040, 2, 2⟩
/-- SEASON.SRST_CAUSE.SW [3:3], R70. -/
abbrev SEASON.SRST_CAUSE.SW : Fld := ⟨0x140000040, 3, 3⟩
/-- SEASON.SRST_CAUSE.SUPPLY [4:4], R70. -/
abbrev SEASON.SRST_CAUSE.SUPPLY : Fld := ⟨0x140000040, 4, 4⟩
/-- SEASON.SRST_CAUSE.SCOUNT [31:16], R70. -/
abbrev SEASON.SRST_CAUSE.SCOUNT : Fld := ⟨0x140000040, 31, 16⟩
/-- SEASON.SRST_CAUSE.ALL [31:0], R70. -/
abbrev SEASON.SRST_CAUSE.ALL : Fld := ⟨0x140000040, 31, 0⟩
/-- SEASON.SRST_REQ.GO [0:0], R70. -/
abbrev SEASON.SRST_REQ.GO : Fld := ⟨0x140000044, 0, 0⟩
/-- SEASON.SRST_REQ.KEY [31:16], R70. -/
abbrev SEASON.SRST_REQ.KEY : Fld := ⟨0x140000044, 31, 16⟩
/-- SEASON.SRST_REQ.ALL [31:0], R70. -/
abbrev SEASON.SRST_REQ.ALL : Fld := ⟨0x140000044, 31, 0⟩
/-- SEASON.SC1_BOOT.GO [0:0], R532. -/
abbrev SEASON.SC1_BOOT.GO : Fld := ⟨0x140000048, 0, 0⟩
/-- SEASON.SC1_BOOT.ADDR [31:2], R532. -/
abbrev SEASON.SC1_BOOT.ADDR : Fld := ⟨0x140000048, 31, 2⟩
/-- SEASON.SC1_BOOT.ALL [31:0], R532. -/
abbrev SEASON.SC1_BOOT.ALL : Fld := ⟨0x140000048, 31, 0⟩
/-- SEASON.SBOOT.SLOT [1:0], R532. -/
abbrev SEASON.SBOOT.SLOT : Fld := ⟨0x14000004c, 1, 0⟩
/-- SEASON.SBOOT.A_BAD [2:2], R532. -/
abbrev SEASON.SBOOT.A_BAD : Fld := ⟨0x14000004c, 2, 2⟩
/-- SEASON.SBOOT.B_BAD [3:3], R532. -/
abbrev SEASON.SBOOT.B_BAD : Fld := ⟨0x14000004c, 3, 3⟩
/-- SEASON.SBOOT.ALL [31:0], R532. -/
abbrev SEASON.SBOOT.ALL : Fld := ⟨0x14000004c, 31, 0⟩
/-- TWM.CFG.ADDR [6:0], R473. -/
abbrev TWM.CFG.ADDR : Fld := ⟨0x140000080, 6, 0⟩
/-- TWM.CFG.EN [7:7], R473. -/
abbrev TWM.CFG.EN : Fld := ⟨0x140000080, 7, 7⟩
/-- TWM.CFG.ALL [31:0], R473. -/
abbrev TWM.CFG.ALL : Fld := ⟨0x140000080, 31, 0⟩
/-- TWM.CTRL.ALERT [0:0], R473. -/
abbrev TWM.CTRL.ALERT : Fld := ⟨0x140000084, 0, 0⟩
/-- TWM.CTRL.ALL [31:0], R473. -/
abbrev TWM.CTRL.ALL : Fld := ⟨0x140000084, 31, 0⟩
/-- TWM.STAT.MATCH [0:0], R473. -/
abbrev TWM.STAT.MATCH : Fld := ⟨0x140000088, 0, 0⟩
/-- TWM.STAT.FROST_NACK [1:1], R473. -/
abbrev TWM.STAT.FROST_NACK : Fld := ⟨0x140000088, 1, 1⟩
/-- TWM.STAT.BUS_ERR [2:2], R473. -/
abbrev TWM.STAT.BUS_ERR : Fld := ⟨0x140000088, 2, 2⟩
/-- TWM.STAT.COLL [3:3], R473. -/
abbrev TWM.STAT.COLL : Fld := ⟨0x140000088, 3, 3⟩
/-- TWM.STAT.ARA_WON [4:4], R473. -/
abbrev TWM.STAT.ARA_WON : Fld := ⟨0x140000088, 4, 4⟩
/-- TWM.STAT.ALL [31:0], R473. -/
abbrev TWM.STAT.ALL : Fld := ⟨0x140000088, 31, 0⟩
/-- TWM.MB.MB [7:0], R473. -/
abbrev TWM.MB.MB (k : Nat) : Fld := ⟨0x1400000a0 + 4 * k, 7, 0⟩
/-- TWM.MB.ALL [31:0], R473. -/
abbrev TWM.MB.ALL (k : Nat) : Fld := ⟨0x1400000a0 + 4 * k, 31, 0⟩
/-- GW.CMD_CTRL.RING [0:0], R113. -/
abbrev GW.CMD_CTRL.RING : Fld := ⟨0x150000000, 0, 0⟩
/-- GW.CMD_CTRL.ALL [31:0], R113. -/
abbrev GW.CMD_CTRL.ALL : Fld := ⟨0x150000000, 31, 0⟩
/-- GW.CMD_STATE.STATE [1:0], R113. -/
abbrev GW.CMD_STATE.STATE : Fld := ⟨0x150000004, 1, 0⟩
/-- GW.CMD_STATE.DB_LOST [2:2], R113. -/
abbrev GW.CMD_STATE.DB_LOST : Fld := ⟨0x150000004, 2, 2⟩
/-- GW.CMD_STATE.REASON [15:8], R113. -/
abbrev GW.CMD_STATE.REASON : Fld := ⟨0x150000004, 15, 8⟩
/-- GW.CMD_STATE.TAG [31:16], R113. -/
abbrev GW.CMD_STATE.TAG : Fld := ⟨0x150000004, 31, 16⟩
/-- GW.CMD_STATE.ALL [31:0], R113. -/
abbrev GW.CMD_STATE.ALL : Fld := ⟨0x150000004, 31, 0⟩
/-- GW.RING_STATUS.COUNT [11:0], R117. -/
abbrev GW.RING_STATUS.COUNT : Fld := ⟨0x150000010, 11, 0⟩
/-- GW.RING_STATUS.OVERRUN [31:16], R117. -/
abbrev GW.RING_STATUS.OVERRUN : Fld := ⟨0x150000010, 31, 16⟩
/-- GW.RING_STATUS.ALL [31:0], R117. -/
abbrev GW.RING_STATUS.ALL : Fld := ⟨0x150000010, 31, 0⟩
/-- GW.RING_POP.POP [0:0], R117. -/
abbrev GW.RING_POP.POP : Fld := ⟨0x150000014, 0, 0⟩
/-- GW.RING_POP.CLR_OVR [1:1], R117. -/
abbrev GW.RING_POP.CLR_OVR : Fld := ⟨0x150000014, 1, 1⟩
/-- GW.RING_POP.ALL [31:0], R117. -/
abbrev GW.RING_POP.ALL : Fld := ⟨0x150000014, 31, 0⟩
/-- GW.RING_ENTRY.ALL [31:0], R117. -/
abbrev GW.RING_ENTRY.ALL (k : Nat) : Fld := ⟨0x150000020 + 4 * k, 31, 0⟩
/-- GW.TIME.ALL [31:0], R312. -/
abbrev GW.TIME.ALL (k : Nat) : Fld := ⟨0x150000040 + 4 * k, 31, 0⟩
/-- GW.CMD_BUF.ALL [31:0], R111. -/
abbrev GW.CMD_BUF.ALL (k : Nat) : Fld := ⟨0x150000400 + 4 * k, 31, 0⟩
/-- SEAL.STATUS.SEALED [0:0], R554. -/
abbrev SEAL.STATUS.SEALED : Fld := ⟨0x40010000, 0, 0⟩
/-- SEAL.STATUS.LOOP [1:1], R554. -/
abbrev SEAL.STATUS.LOOP : Fld := ⟨0x40010000, 1, 1⟩
/-- SEAL.STATUS.SL_REF [2:2], R554. -/
abbrev SEAL.STATUS.SL_REF : Fld := ⟨0x40010000, 2, 2⟩
/-- SEAL.STATUS.CTR_RESTORED [3:3], R554. -/
abbrev SEAL.STATUS.CTR_RESTORED : Fld := ⟨0x40010000, 3, 3⟩
/-- SEAL.STATUS.LEVEL [5:4], R554. -/
abbrev SEAL.STATUS.LEVEL : Fld := ⟨0x40010000, 5, 4⟩
/-- SEAL.STATUS.DEBUG_EN [6:6], R554. -/
abbrev SEAL.STATUS.DEBUG_EN : Fld := ⟨0x40010000, 6, 6⟩
/-- SEAL.STATUS.ALL [31:0], R554. -/
abbrev SEAL.STATUS.ALL : Fld := ⟨0x40010000, 31, 0⟩
/-- SEAL.COUNTER.COUNT [31:0], R554. -/
abbrev SEAL.COUNTER.COUNT : Fld := ⟨0x40010004, 31, 0⟩
/-- SEAL.COUNTER.ALL [31:0], R554. -/
abbrev SEAL.COUNTER.ALL : Fld := ⟨0x40010004, 31, 0⟩
/-- SEAL.REFUSED.COUNT [15:0], R554. -/
abbrev SEAL.REFUSED.COUNT : Fld := ⟨0x40010008, 15, 0⟩
/-- SEAL.REFUSED.ALL [31:0], R554. -/
abbrev SEAL.REFUSED.ALL : Fld := ⟨0x40010008, 31, 0⟩
/-- SEAL.UNLOGGED.COUNT [31:0], R554. -/
abbrev SEAL.UNLOGGED.COUNT : Fld := ⟨0x4001000c, 31, 0⟩
/-- SEAL.UNLOGGED.ALL [31:0], R554. -/
abbrev SEAL.UNLOGGED.ALL : Fld := ⟨0x4001000c, 31, 0⟩
/-- FLASH.CMD.OP [2:0], R420. -/
abbrev FLASH.CMD.OP (d : Nat) : Fld := ⟨(flashRegBase d), 2, 0⟩
/-- FLASH.CMD.STAMP [3:3], R420. -/
abbrev FLASH.CMD.STAMP (d : Nat) : Fld := ⟨(flashRegBase d), 3, 3⟩
/-- FLASH.CMD.ALL [31:0], R420. -/
abbrev FLASH.CMD.ALL (d : Nat) : Fld := ⟨(flashRegBase d), 31, 0⟩
/-- FLASH.ADDR.WORD [25:4], R420. -/
abbrev FLASH.ADDR.WORD (d : Nat) : Fld := ⟨(flashRegBase d) + 4, 25, 4⟩
/-- FLASH.ADDR.ALL [31:0], R420. -/
abbrev FLASH.ADDR.ALL (d : Nat) : Fld := ⟨(flashRegBase d) + 4, 31, 0⟩
/-- FLASH.STATUS.BUSY [0:0], R420. -/
abbrev FLASH.STATUS.BUSY (d : Nat) : Fld := ⟨(flashRegBase d) + 8, 0, 0⟩
/-- FLASH.STATUS.SUSP [1:1], R420. -/
abbrev FLASH.STATUS.SUSP (d : Nat) : Fld := ⟨(flashRegBase d) + 8, 1, 1⟩
/-- FLASH.STATUS.ERS_SUSP [2:2], R420. -/
abbrev FLASH.STATUS.ERS_SUSP (d : Nat) : Fld := ⟨(flashRegBase d) + 8, 2, 2⟩
/-- FLASH.STATUS.PROG_FAIL [3:3], R420. -/
abbrev FLASH.STATUS.PROG_FAIL (d : Nat) : Fld := ⟨(flashRegBase d) + 8, 3, 3⟩
/-- FLASH.STATUS.ERS_FAIL [4:4], R420. -/
abbrev FLASH.STATUS.ERS_FAIL (d : Nat) : Fld := ⟨(flashRegBase d) + 8, 4, 4⟩
/-- FLASH.STATUS.PROT [5:5], R420. -/
abbrev FLASH.STATUS.PROT (d : Nat) : Fld := ⟨(flashRegBase d) + 8, 5, 5⟩
/-- FLASH.STATUS.ECC [7:6], R420. -/
abbrev FLASH.STATUS.ECC (d : Nat) : Fld := ⟨(flashRegBase d) + 8, 7, 6⟩
/-- FLASH.STATUS.BLANK [8:8], R420. -/
abbrev FLASH.STATUS.BLANK (d : Nat) : Fld := ⟨(flashRegBase d) + 8, 8, 8⟩
/-- FLASH.STATUS.ALL [31:0], R420. -/
abbrev FLASH.STATUS.ALL (d : Nat) : Fld := ⟨(flashRegBase d) + 8, 31, 0⟩
/-- FLASH.DATA.LANE [31:0], R420. -/
abbrev FLASH.DATA.LANE (d k : Nat) : Fld := ⟨(flashRegBase d) + 0x10 + 4 * k, 31, 0⟩
/-- FLASH.DATA.ALL [31:0], R420. -/
abbrev FLASH.DATA.ALL (d k : Nat) : Fld := ⟨(flashRegBase d) + 0x10 + 4 * k, 31, 0⟩
/-- TIME.STATUS.SYNC [1:0], R318. -/
abbrev TIME.STATUS.SYNC : Fld := ⟨0x40040000, 1, 0⟩
/-- TIME.STATUS.SRC [2:2], R318. -/
abbrev TIME.STATUS.SRC : Fld := ⟨0x40040000, 2, 2⟩
/-- TIME.STATUS.STEP_PEND [3:3], R318. -/
abbrev TIME.STATUS.STEP_PEND : Fld := ⟨0x40040000, 3, 3⟩
/-- TIME.STATUS.SLEWING [4:4], R318. -/
abbrev TIME.STATUS.SLEWING : Fld := ⟨0x40040000, 4, 4⟩
/-- TIME.STATUS.CLAMP [5:5], R318. -/
abbrev TIME.STATUS.CLAMP : Fld := ⟨0x40040000, 5, 5⟩
/-- TIME.STATUS.CYC_SKIP [6:6], R318. -/
abbrev TIME.STATUS.CYC_SKIP : Fld := ⟨0x40040000, 6, 6⟩
/-- TIME.STATUS.ALL [31:0], R318. -/
abbrev TIME.STATUS.ALL : Fld := ⟨0x40040000, 31, 0⟩
/-- TIME.NOW.ALL [31:0], R295. -/
abbrev TIME.NOW.ALL (k : Nat) : Fld := ⟨0x40040010 + 4 * k, 31, 0⟩
/-- TIME.STAMP.GO [0:0], R318. -/
abbrev TIME.STAMP.GO : Fld := ⟨0x40040020, 0, 0⟩
/-- TIME.STAMP.ALL [31:0], R318. -/
abbrev TIME.STAMP.ALL : Fld := ⟨0x40040020, 31, 0⟩
/-- TIME.STAMPW.ALL [31:0], R317. -/
abbrev TIME.STAMPW.ALL (k : Nat) : Fld := ⟨0x40040030 + 4 * k, 31, 0⟩
/-- TIME.FREQ.VALUE [31:0], R318. -/
abbrev TIME.FREQ.VALUE : Fld := ⟨0x40040040, 31, 0⟩
/-- TIME.FREQ.ALL [31:0], R318. -/
abbrev TIME.FREQ.ALL : Fld := ⟨0x40040040, 31, 0⟩
/-- TIME.PHASE.VALUE [31:0], R318. -/
abbrev TIME.PHASE.VALUE : Fld := ⟨0x40040044, 31, 0⟩
/-- TIME.PHASE.ALL [31:0], R318. -/
abbrev TIME.PHASE.ALL : Fld := ⟨0x40040044, 31, 0⟩
/-- TIME.HOLD.SECONDS [15:0], R318. -/
abbrev TIME.HOLD.SECONDS : Fld := ⟨0x40040048, 15, 0⟩
/-- TIME.HOLD.ALL [31:0], R318. -/
abbrev TIME.HOLD.ALL : Fld := ⟨0x40040048, 31, 0⟩
/-- TIME.XTAL.TURN [7:0], R318. -/
abbrev TIME.XTAL.TURN : Fld := ⟨0x4004004c, 7, 0⟩
/-- TIME.XTAL.BETA [23:8], R318. -/
abbrev TIME.XTAL.BETA : Fld := ⟨0x4004004c, 23, 8⟩
/-- TIME.XTAL.XOFS [31:24], R318. -/
abbrev TIME.XTAL.XOFS : Fld := ⟨0x4004004c, 31, 24⟩
/-- TIME.XTAL.ALL [31:0], R318. -/
abbrev TIME.XTAL.ALL : Fld := ⟨0x4004004c, 31, 0⟩
/-- TIME.CYCLE.CYCLE [31:0], R318. -/
abbrev TIME.CYCLE.CYCLE (k : Nat) : Fld := ⟨0x40040060 + 4 * k, 31, 0⟩
/-- TIME.CYCLE.ALL [31:0], R318. -/
abbrev TIME.CYCLE.ALL (k : Nat) : Fld := ⟨0x40040060 + 4 * k, 31, 0⟩
/-- TIME.CMPCTRL.MODE [1:0], R318. -/
abbrev TIME.CMPCTRL.MODE (n : Nat) : Fld := ⟨0x40040100 + 0x20 * n, 1, 0⟩
/-- TIME.CMPCTRL.IRQ [2:2], R318. -/
abbrev TIME.CMPCTRL.IRQ (n : Nat) : Fld := ⟨0x40040100 + 0x20 * n, 2, 2⟩
/-- TIME.CMPCTRL.SPN [3:3], R318. -/
abbrev TIME.CMPCTRL.SPN (n : Nat) : Fld := ⟨0x40040100 + 0x20 * n, 3, 3⟩
/-- TIME.CMPCTRL.LOCK [4:4], R318. -/
abbrev TIME.CMPCTRL.LOCK (n : Nat) : Fld := ⟨0x40040100 + 0x20 * n, 4, 4⟩
/-- TIME.CMPCTRL.EVERY [31:16], R318. -/
abbrev TIME.CMPCTRL.EVERY (n : Nat) : Fld := ⟨0x40040100 + 0x20 * n, 31, 16⟩
/-- TIME.CMPCTRL.ALL [31:0], R318. -/
abbrev TIME.CMPCTRL.ALL (n : Nat) : Fld := ⟨0x40040100 + 0x20 * n, 31, 0⟩
/-- TIME.CMPOFS.OFFSET [31:0], R318. -/
abbrev TIME.CMPOFS.OFFSET (n : Nat) : Fld := ⟨0x40040104 + 0x20 * n, 31, 0⟩
/-- TIME.CMPOFS.ALL [31:0], R318. -/
abbrev TIME.CMPOFS.ALL (n : Nat) : Fld := ⟨0x40040104 + 0x20 * n, 31, 0⟩
/-- TIME.CMPPH.PHASE [15:0], R318. -/
abbrev TIME.CMPPH.PHASE (n : Nat) : Fld := ⟨0x40040108 + 0x20 * n, 15, 0⟩
/-- TIME.CMPPH.ALL [31:0], R318. -/
abbrev TIME.CMPPH.ALL (n : Nat) : Fld := ⟨0x40040108 + 0x20 * n, 31, 0⟩
/-- TIME.CMPABS.ALL [31:0], R305. -/
abbrev TIME.CMPABS.ALL (n k : Nat) : Fld := ⟨0x4004010c + 0x20 * n + 4 * k, 31, 0⟩
/-- TIME.CMPSTAT.FIRED [0:0], R318. -/
abbrev TIME.CMPSTAT.FIRED (n : Nat) : Fld := ⟨0x4004011c + 0x20 * n, 0, 0⟩
/-- TIME.CMPSTAT.LATE [1:1], R318. -/
abbrev TIME.CMPSTAT.LATE (n : Nat) : Fld := ⟨0x4004011c + 0x20 * n, 1, 1⟩
/-- TIME.CMPSTAT.MISSED [31:16], R318. -/
abbrev TIME.CMPSTAT.MISSED (n : Nat) : Fld := ⟨0x4004011c + 0x20 * n, 31, 16⟩
/-- TIME.CMPSTAT.ALL [31:0], R318. -/
abbrev TIME.CMPSTAT.ALL (n : Nat) : Fld := ⟨0x4004011c + 0x20 * n, 31, 0⟩
/-- SPN.STATUS.LEVEL [2:0], R345. -/
abbrev SPN.STATUS.LEVEL : Fld := ⟨0x40050000, 2, 0⟩
/-- SPN.STATUS.THERM [4:3], R345. -/
abbrev SPN.STATUS.THERM : Fld := ⟨0x40050000, 4, 3⟩
/-- SPN.STATUS.PFAIL [5:5], R345. -/
abbrev SPN.STATUS.PFAIL : Fld := ⟨0x40050000, 5, 5⟩
/-- SPN.STATUS.MISS [6:6], R345. -/
abbrev SPN.STATUS.MISS : Fld := ⟨0x40050000, 6, 6⟩
/-- SPN.STATUS.OVERRUN [7:7], R345. -/
abbrev SPN.STATUS.OVERRUN : Fld := ⟨0x40050000, 7, 7⟩
/-- SPN.STATUS.RUN [8:8], R345. -/
abbrev SPN.STATUS.RUN : Fld := ⟨0x40050000, 8, 8⟩
/-- SPN.STATUS.ALL [31:0], R345. -/
abbrev SPN.STATUS.ALL : Fld := ⟨0x40050000, 31, 0⟩
/-- SPN.RESERVE.VALUE [31:0], R345. -/
abbrev SPN.RESERVE.VALUE : Fld := ⟨0x40050004, 31, 0⟩
/-- SPN.RESERVE.ALL [31:0], R345. -/
abbrev SPN.RESERVE.ALL : Fld := ⟨0x40050004, 31, 0⟩
/-- SPN.FLOOR.VALUE [31:0], R345. -/
abbrev SPN.FLOOR.VALUE : Fld := ⟨0x40050008, 31, 0⟩
/-- SPN.FLOOR.ALL [31:0], R345. -/
abbrev SPN.FLOOR.ALL : Fld := ⟨0x40050008, 31, 0⟩
/-- SPN.PLAN.VALUE [31:0], R345. -/
abbrev SPN.PLAN.VALUE : Fld := ⟨0x4005000c, 31, 0⟩
/-- SPN.PLAN.ALL [31:0], R345. -/
abbrev SPN.PLAN.ALL : Fld := ⟨0x4005000c, 31, 0⟩
/-- SPN.DEMAND.VALUE [31:0], R345. -/
abbrev SPN.DEMAND.VALUE : Fld := ⟨0x40050010, 31, 0⟩
/-- SPN.DEMAND.ALL [31:0], R345. -/
abbrev SPN.DEMAND.ALL : Fld := ⟨0x40050010, 31, 0⟩
/-- SPN.ESCALE.K [15:0], R345. -/
abbrev SPN.ESCALE.K : Fld := ⟨0x40050014, 15, 0⟩
/-- SPN.ESCALE.ALL [31:0], R345. -/
abbrev SPN.ESCALE.ALL : Fld := ⟨0x40050014, 31, 0⟩
/-- SPN.HORIZON.SECONDS [15:0], R345. -/
abbrev SPN.HORIZON.SECONDS : Fld := ⟨0x40050018, 15, 0⟩
/-- SPN.HORIZON.ALL [31:0], R345. -/
abbrev SPN.HORIZON.ALL : Fld := ⟨0x40050018, 31, 0⟩
/-- SPN.SW_UW.UW [31:0], R345. -/
abbrev SPN.SW_UW.UW : Fld := ⟨0x4005001c, 31, 0⟩
/-- SPN.SW_UW.ALL [31:0], R345. -/
abbrev SPN.SW_UW.ALL : Fld := ⟨0x4005001c, 31, 0⟩
/-- SPN.COUNT.SUBST [15:0], R345. -/
abbrev SPN.COUNT.SUBST : Fld := ⟨0x40050020, 15, 0⟩
/-- SPN.COUNT.DEFER [31:16], R345. -/
abbrev SPN.COUNT.DEFER : Fld := ⟨0x40050020, 31, 16⟩
/-- SPN.COUNT.ALL [31:0], R345. -/
abbrev SPN.COUNT.ALL : Fld := ⟨0x40050020, 31, 0⟩
/-- SPN.TEMP.TEMP [15:0], R345. -/
abbrev SPN.TEMP.TEMP (n : Nat) : Fld := ⟨0x40050040 + 4 * n, 15, 0⟩
/-- SPN.TEMP.ALL [31:0], R345. -/
abbrev SPN.TEMP.ALL (n : Nat) : Fld := ⟨0x40050040 + 4 * n, 31, 0⟩
/-- SPN.TASK.STATE [1:0], R345. -/
abbrev SPN.TASK.STATE (k : Nat) : Fld := ⟨0x40050400 + 4 * k, 1, 0⟩
/-- SPN.TASK.STEPS [7:2], R345. -/
abbrev SPN.TASK.STEPS (k : Nat) : Fld := ⟨0x40050400 + 4 * k, 7, 2⟩
/-- SPN.TASK.S [12:8], R345. -/
abbrev SPN.TASK.S (k : Nat) : Fld := ⟨0x40050400 + 4 * k, 12, 8⟩
/-- SPN.TASK.ALL [31:0], R345. -/
abbrev SPN.TASK.ALL (k : Nat) : Fld := ⟨0x40050400 + 4 * k, 31, 0⟩
/-- GAUGE.STATUS.SNS_OVR [0:0], R345. -/
abbrev GAUGE.STATUS.SNS_OVR : Fld := ⟨0x40060000, 0, 0⟩
/-- GAUGE.STATUS.VALID [1:1], R345. -/
abbrev GAUGE.STATUS.VALID : Fld := ⟨0x40060000, 1, 1⟩
/-- GAUGE.STATUS.SHUNT [2:2], R345. -/
abbrev GAUGE.STATUS.SHUNT : Fld := ⟨0x40060000, 2, 2⟩
/-- GAUGE.STATUS.ALL [31:0], R345. -/
abbrev GAUGE.STATUS.ALL : Fld := ⟨0x40060000, 31, 0⟩
/-- GAUGE.VSTORE.CODE [11:0], R345. -/
abbrev GAUGE.VSTORE.CODE : Fld := ⟨0x40060004, 11, 0⟩
/-- GAUGE.VSTORE.MV [31:16], R345. -/
abbrev GAUGE.VSTORE.MV : Fld := ⟨0x40060004, 31, 16⟩
/-- GAUGE.VSTORE.ALL [31:0], R345. -/
abbrev GAUGE.VSTORE.ALL : Fld := ⟨0x40060004, 31, 0⟩
/-- GAUGE.IIN.UA [31:0], R345. -/
abbrev GAUGE.IIN.UA : Fld := ⟨0x40060008, 31, 0⟩
/-- GAUGE.IIN.ALL [31:0], R345. -/
abbrev GAUGE.IIN.ALL : Fld := ⟨0x40060008, 31, 0⟩
/-- CLK.STATUS.X32_OK [0:0], R362. -/
abbrev CLK.STATUS.X32_OK : Fld := ⟨0x40070000, 0, 0⟩
/-- CLK.STATUS.HFXO_ON [1:1], R362. -/
abbrev CLK.STATUS.HFXO_ON : Fld := ⟨0x40070000, 1, 1⟩
/-- CLK.STATUS.SYS_LOCK [2:2], R362. -/
abbrev CLK.STATUS.SYS_LOCK : Fld := ⟨0x40070000, 2, 2⟩
/-- CLK.STATUS.ACQ_LOCK [3:3], R362. -/
abbrev CLK.STATUS.ACQ_LOCK : Fld := ⟨0x40070000, 3, 3⟩
/-- CLK.STATUS.AUX_LOCK [4:4], R362. -/
abbrev CLK.STATUS.AUX_LOCK : Fld := ⟨0x40070000, 4, 4⟩
/-- CLK.STATUS.SEASON [7:6], R362. -/
abbrev CLK.STATUS.SEASON : Fld := ⟨0x40070000, 7, 6⟩
/-- CLK.STATUS.ALL [31:0], R362. -/
abbrev CLK.STATUS.ALL : Fld := ⟨0x40070000, 31, 0⟩
/-- CLK.FAIL.X32_FAIL [0:0], R362. -/
abbrev CLK.FAIL.X32_FAIL : Fld := ⟨0x40070004, 0, 0⟩
/-- CLK.FAIL.HFXO_FAIL [1:1], R362. -/
abbrev CLK.FAIL.HFXO_FAIL : Fld := ⟨0x40070004, 1, 1⟩
/-- CLK.FAIL.SYS_UNLOCK [2:2], R362. -/
abbrev CLK.FAIL.SYS_UNLOCK : Fld := ⟨0x40070004, 2, 2⟩
/-- CLK.FAIL.ACQ_UNLOCK [3:3], R362. -/
abbrev CLK.FAIL.ACQ_UNLOCK : Fld := ⟨0x40070004, 3, 3⟩
/-- CLK.FAIL.AUX_UNLOCK [4:4], R362. -/
abbrev CLK.FAIL.AUX_UNLOCK : Fld := ⟨0x40070004, 4, 4⟩
/-- CLK.FAIL.FREQ [5:5], R362. -/
abbrev CLK.FAIL.FREQ : Fld := ⟨0x40070004, 5, 5⟩
/-- CLK.FAIL.LATE_WAKE [6:6], R362. -/
abbrev CLK.FAIL.LATE_WAKE : Fld := ⟨0x40070004, 6, 6⟩
/-- CLK.FAIL.ALL [31:0], R362. -/
abbrev CLK.FAIL.ALL : Fld := ⟨0x40070004, 31, 0⟩
/-- ECHO.STATUS.BUSY [0:0], R166. -/
abbrev ECHO.STATUS.BUSY (e : Nat) : Fld := ⟨0x40090000 + 0x20 * e, 0, 0⟩
/-- ECHO.STATUS.ACQ [1:1], R166. -/
abbrev ECHO.STATUS.ACQ (e : Nat) : Fld := ⟨0x40090000 + 0x20 * e, 1, 1⟩
/-- ECHO.STATUS.NQ [8:2], R166. -/
abbrev ECHO.STATUS.NQ (e : Nat) : Fld := ⟨0x40090000 + 0x20 * e, 8, 2⟩
/-- ECHO.STATUS.SHOT [25:16], R166. -/
abbrev ECHO.STATUS.SHOT (e : Nat) : Fld := ⟨0x40090000 + 0x20 * e, 25, 16⟩
/-- ECHO.STATUS.ALL [31:0], R166. -/
abbrev ECHO.STATUS.ALL (e : Nat) : Fld := ⟨0x40090000 + 0x20 * e, 31, 0⟩
/-- ECHO.ERR.NQ_OVR [0:0], R166. -/
abbrev ECHO.ERR.NQ_OVR (e : Nat) : Fld := ⟨0x40090004 + 0x20 * e, 0, 0⟩
/-- ECHO.ERR.ECC [1:1], R166. -/
abbrev ECHO.ERR.ECC (e : Nat) : Fld := ⟨0x40090004 + 0x20 * e, 1, 1⟩
/-- ECHO.ERR.WDOG [2:2], R166. -/
abbrev ECHO.ERR.WDOG (e : Nat) : Fld := ⟨0x40090004 + 0x20 * e, 2, 2⟩
/-- ECHO.ERR.WR_ISO [3:3], R166. -/
abbrev ECHO.ERR.WR_ISO (e : Nat) : Fld := ⟨0x40090004 + 0x20 * e, 3, 3⟩
/-- ECHO.ERR.ALL [31:0], R166. -/
abbrev ECHO.ERR.ALL (e : Nat) : Fld := ⟨0x40090004 + 0x20 * e, 31, 0⟩
/-- ECHO.COUNT.JOBS [15:0], R166. -/
abbrev ECHO.COUNT.JOBS (e : Nat) : Fld := ⟨0x40090008 + 0x20 * e, 15, 0⟩
/-- ECHO.COUNT.REJ [31:16], R166. -/
abbrev ECHO.COUNT.REJ (e : Nat) : Fld := ⟨0x40090008 + 0x20 * e, 31, 16⟩
/-- ECHO.COUNT.ALL [31:0], R166. -/
abbrev ECHO.COUNT.ALL (e : Nat) : Fld := ⟨0x40090008 + 0x20 * e, 31, 0⟩
/-- ECHO.DROP.DROP [15:0], R166. -/
abbrev ECHO.DROP.DROP (e : Nat) : Fld := ⟨0x4009000c + 0x20 * e, 15, 0⟩
/-- ECHO.DROP.ALL [31:0], R166. -/
abbrev ECHO.DROP.ALL (e : Nat) : Fld := ⟨0x4009000c + 0x20 * e, 31, 0⟩
/-- ECHO.LOGIDX.NEXT [5:0], R166. -/
abbrev ECHO.LOGIDX.NEXT (e : Nat) : Fld := ⟨0x40090010 + 0x20 * e, 5, 0⟩
/-- ECHO.LOGIDX.ALL [31:0], R166. -/
abbrev ECHO.LOGIDX.ALL (e : Nat) : Fld := ⟨0x40090010 + 0x20 * e, 31, 0⟩
/-- ECHO.CLR.CNT [3:0], R166. -/
abbrev ECHO.CLR.CNT : Fld := ⟨0x40090080, 3, 0⟩
/-- ECHO.CLR.ALL [31:0], R166. -/
abbrev ECHO.CLR.ALL : Fld := ⟨0x40090080, 31, 0⟩
/-- ECHO.PATHS.MASK [15:0], R166. -/
abbrev ECHO.PATHS.MASK (n : Nat) : Fld := ⟨0x40090100 + 4 * n, 15, 0⟩
/-- ECHO.PATHS.ALL [31:0], R166. -/
abbrev ECHO.PATHS.ALL (n : Nat) : Fld := ⟨0x40090100 + 4 * n, 31, 0⟩
/-- ACQ.STATUS.SEQ_OVR [0:0], R142. -/
abbrev ACQ.STATUS.SEQ_OVR : Fld := ⟨0x40180000, 0, 0⟩
/-- ACQ.STATUS.NOT_READY [1:1], R142. -/
abbrev ACQ.STATUS.NOT_READY : Fld := ⟨0x40180000, 1, 1⟩
/-- ACQ.STATUS.LANE_BUSY [2:2], R142. -/
abbrev ACQ.STATUS.LANE_BUSY : Fld := ⟨0x40180000, 2, 2⟩
/-- ACQ.STATUS.XP_BUSY [3:3], R142. -/
abbrev ACQ.STATUS.XP_BUSY : Fld := ⟨0x40180000, 3, 3⟩
/-- ACQ.STATUS.BUF_BUSY [4:4], R142. -/
abbrev ACQ.STATUS.BUF_BUSY : Fld := ⟨0x40180000, 4, 4⟩
/-- ACQ.STATUS.SAT [5:5], R142. -/
abbrev ACQ.STATUS.SAT : Fld := ⟨0x40180000, 5, 5⟩
/-- ACQ.STATUS.LOWSIG [6:6], R142. -/
abbrev ACQ.STATUS.LOWSIG : Fld := ⟨0x40180000, 6, 6⟩
/-- ACQ.STATUS.RUNNING [16:16], R142. -/
abbrev ACQ.STATUS.RUNNING : Fld := ⟨0x40180000, 16, 16⟩
/-- ACQ.STATUS.NSEQ [22:17], R142. -/
abbrev ACQ.STATUS.NSEQ : Fld := ⟨0x40180000, 22, 17⟩
/-- ACQ.STATUS.ALL [31:0], R142. -/
abbrev ACQ.STATUS.ALL : Fld := ⟨0x40180000, 31, 0⟩
/-- ACQ.COUNT.SKIPPED [15:0], R142. -/
abbrev ACQ.COUNT.SKIPPED : Fld := ⟨0x40180004, 15, 0⟩
/-- ACQ.COUNT.SATSHOT [31:16], R142. -/
abbrev ACQ.COUNT.SATSHOT : Fld := ⟨0x40180004, 31, 16⟩
/-- ACQ.COUNT.ALL [31:0], R142. -/
abbrev ACQ.COUNT.ALL : Fld := ⟨0x40180004, 31, 0⟩
/-- ACQ.CLR.CNT [0:0], R142. -/
abbrev ACQ.CLR.CNT : Fld := ⟨0x40180008, 0, 0⟩
/-- ACQ.CLR.ALL [31:0], R142. -/
abbrev ACQ.CLR.ALL : Fld := ⟨0x40180008, 31, 0⟩
/-- ACQ.LANE_STAT.CH [5:0], R142. -/
abbrev ACQ.LANE_STAT.CH (n : Nat) : Fld := ⟨0x40180040 + 4 * n, 5, 0⟩
/-- ACQ.LANE_STAT.CONN [6:6], R142. -/
abbrev ACQ.LANE_STAT.CONN (n : Nat) : Fld := ⟨0x40180040 + 4 * n, 6, 6⟩
/-- ACQ.LANE_STAT.CAPT [7:7], R142. -/
abbrev ACQ.LANE_STAT.CAPT (n : Nat) : Fld := ⟨0x40180040 + 4 * n, 7, 7⟩
/-- ACQ.LANE_STAT.HELD0 [8:8], R142. -/
abbrev ACQ.LANE_STAT.HELD0 (n : Nat) : Fld := ⟨0x40180040 + 4 * n, 8, 8⟩
/-- ACQ.LANE_STAT.HELD1 [9:9], R142. -/
abbrev ACQ.LANE_STAT.HELD1 (n : Nat) : Fld := ⟨0x40180040 + 4 * n, 9, 9⟩
/-- ACQ.LANE_STAT.NEXTBUF [10:10], R142. -/
abbrev ACQ.LANE_STAT.NEXTBUF (n : Nat) : Fld := ⟨0x40180040 + 4 * n, 10, 10⟩
/-- ACQ.LANE_STAT.PWR [11:11], R142. -/
abbrev ACQ.LANE_STAT.PWR (n : Nat) : Fld := ⟨0x40180040 + 4 * n, 11, 11⟩
/-- ACQ.LANE_STAT.GAIN [22:16], R142. -/
abbrev ACQ.LANE_STAT.GAIN (n : Nat) : Fld := ⟨0x40180040 + 4 * n, 22, 16⟩
/-- ACQ.LANE_STAT.RATE [26:24], R142. -/
abbrev ACQ.LANE_STAT.RATE (n : Nat) : Fld := ⟨0x40180040 + 4 * n, 26, 24⟩
/-- ACQ.LANE_STAT.ALL [31:0], R142. -/
abbrev ACQ.LANE_STAT.ALL (n : Nat) : Fld := ⟨0x40180040 + 4 * n, 31, 0⟩
/-- ACQ.AVG.AVG [4:0], R142. -/
abbrev ACQ.AVG.AVG (n : Nat) : Fld := ⟨0x40180080 + 4 * n, 4, 0⟩
/-- ACQ.AVG.ALL [31:0], R142. -/
abbrev ACQ.AVG.ALL (n : Nat) : Fld := ⟨0x40180080 + 4 * n, 31, 0⟩
/-- ACQ.GAIN.GAIN [6:0], R142. -/
abbrev ACQ.GAIN.GAIN (k : Nat) : Fld := ⟨0x40181000 + 4 * k, 6, 0⟩
/-- ACQ.GAIN.ALL [31:0], R142. -/
abbrev ACQ.GAIN.ALL (k : Nat) : Fld := ⟨0x40181000 + 4 * k, 31, 0⟩
/-- SDC.CFG.GAIN [2:0], R187. -/
abbrev SDC.CFG.GAIN (n : Nat) : Fld := ⟨0x400a0000 + 4 * n, 2, 0⟩
/-- SDC.CFG.MODE [5:4], R187. -/
abbrev SDC.CFG.MODE (n : Nat) : Fld := ⟨0x400a0000 + 4 * n, 5, 4⟩
/-- SDC.CFG.BURN [6:6], R187. -/
abbrev SDC.CFG.BURN (n : Nat) : Fld := ⟨0x400a0000 + 4 * n, 6, 6⟩
/-- SDC.CFG.EXC [12:8], R187. -/
abbrev SDC.CFG.EXC (n : Nat) : Fld := ⟨0x400a0000 + 4 * n, 12, 8⟩
/-- SDC.CFG.ALL [31:0], R187. -/
abbrev SDC.CFG.ALL (n : Nat) : Fld := ⟨0x400a0000 + 4 * n, 31, 0⟩
/-- SDC.EXC.CODE [2:0], R187. -/
abbrev SDC.EXC.CODE (k : Nat) : Fld := ⟨0x400a0100 + 4 * k, 2, 0⟩
/-- SDC.EXC.ALL [31:0], R187. -/
abbrev SDC.EXC.ALL (k : Nat) : Fld := ⟨0x400a0100 + 4 * k, 31, 0⟩
/-- SDC.STATUS.PWR [0:0], R187. -/
abbrev SDC.STATUS.PWR (n : Nat) : Fld := ⟨0x400a0200 + 4 * n, 0, 0⟩
/-- SDC.STATUS.WARM [1:1], R187. -/
abbrev SDC.STATUS.WARM (n : Nat) : Fld := ⟨0x400a0200 + 4 * n, 1, 1⟩
/-- SDC.STATUS.OVLD [2:2], R187. -/
abbrev SDC.STATUS.OVLD (n : Nat) : Fld := ⟨0x400a0200 + 4 * n, 2, 2⟩
/-- SDC.STATUS.EXC_FLT [3:3], R187. -/
abbrev SDC.STATUS.EXC_FLT (n : Nat) : Fld := ⟨0x400a0200 + 4 * n, 3, 3⟩
/-- SDC.STATUS.NOT_READY [4:4], R187. -/
abbrev SDC.STATUS.NOT_READY (n : Nat) : Fld := ⟨0x400a0200 + 4 * n, 4, 4⟩
/-- SDC.STATUS.CAL [5:5], R187. -/
abbrev SDC.STATUS.CAL (n : Nat) : Fld := ⟨0x400a0200 + 4 * n, 5, 5⟩
/-- SDC.STATUS.ALL [31:0], R187. -/
abbrev SDC.STATUS.ALL (n : Nat) : Fld := ⟨0x400a0200 + 4 * n, 31, 0⟩
/-- PIN.CFG.MODE [1:0], R187. -/
abbrev PIN.CFG.MODE (n : Nat) : Fld := ⟨0x400b0000 + 4 * n, 1, 0⟩
/-- PIN.CFG.EDGE [2:2], R187. -/
abbrev PIN.CFG.EDGE (n : Nat) : Fld := ⟨0x400b0000 + 4 * n, 2, 2⟩
/-- PIN.CFG.ACTIVE [3:3], R187. -/
abbrev PIN.CFG.ACTIVE (n : Nat) : Fld := ⟨0x400b0000 + 4 * n, 3, 3⟩
/-- PIN.CFG.TIMEOUT [19:4], R187. -/
abbrev PIN.CFG.TIMEOUT (n : Nat) : Fld := ⟨0x400b0000 + 4 * n, 19, 4⟩
/-- PIN.CFG.FID_LIM [27:20], R187. -/
abbrev PIN.CFG.FID_LIM (n : Nat) : Fld := ⟨0x400b0000 + 4 * n, 27, 20⟩
/-- PIN.CFG.ALL [31:0], R187. -/
abbrev PIN.CFG.ALL (n : Nat) : Fld := ⟨0x400b0000 + 4 * n, 31, 0⟩
/-- PIN.STATUS.LEVEL [0:0], R187. -/
abbrev PIN.STATUS.LEVEL (n : Nat) : Fld := ⟨0x400b0080 + 4 * n, 0, 0⟩
/-- PIN.STATUS.OVERRATE [1:1], R187. -/
abbrev PIN.STATUS.OVERRATE (n : Nat) : Fld := ⟨0x400b0080 + 4 * n, 1, 1⟩
/-- PIN.STATUS.STUCK [2:2], R187. -/
abbrev PIN.STATUS.STUCK (n : Nat) : Fld := ⟨0x400b0080 + 4 * n, 2, 2⟩
/-- PIN.STATUS.QERR [3:3], R187. -/
abbrev PIN.STATUS.QERR (n : Nat) : Fld := ⟨0x400b0080 + 4 * n, 3, 3⟩
/-- PIN.STATUS.FIDL [4:4], R187. -/
abbrev PIN.STATUS.FIDL (n : Nat) : Fld := ⟨0x400b0080 + 4 * n, 4, 4⟩
/-- PIN.STATUS.RXON [5:5], R187. -/
abbrev PIN.STATUS.RXON (n : Nat) : Fld := ⟨0x400b0080 + 4 * n, 5, 5⟩
/-- PIN.STATUS.ALL [31:0], R187. -/
abbrev PIN.STATUS.ALL (n : Nat) : Fld := ⟨0x400b0080 + 4 * n, 31, 0⟩
/-- PIN.RUN.ALL [31:0], R182. -/
abbrev PIN.RUN.ALL (n k : Nat) : Fld := ⟨0x400b0100 + 8 * n + 4 * k, 31, 0⟩
/-- CHAIN.SWAP_REQ.TARGET [7:0], R214. -/
abbrev CHAIN.SWAP_REQ.TARGET : Fld := ⟨0x400c0000, 7, 0⟩
/-- CHAIN.SWAP_REQ.TRIG [15:8], R214. -/
abbrev CHAIN.SWAP_REQ.TRIG : Fld := ⟨0x400c0000, 15, 8⟩
/-- CHAIN.SWAP_REQ.ALL [31:0], R214. -/
abbrev CHAIN.SWAP_REQ.ALL : Fld := ⟨0x400c0000, 31, 0⟩
/-- CHAIN.SWAP_STATUS.PEND [15:0], R214. -/
abbrev CHAIN.SWAP_STATUS.PEND : Fld := ⟨0x400c0004, 15, 0⟩
/-- CHAIN.SWAP_STATUS.SWAP_BUSY [16:16], R214. -/
abbrev CHAIN.SWAP_STATUS.SWAP_BUSY : Fld := ⟨0x400c0004, 16, 16⟩
/-- CHAIN.SWAP_STATUS.WR_BLOCKED [17:17], R214. -/
abbrev CHAIN.SWAP_STATUS.WR_BLOCKED : Fld := ⟨0x400c0004, 17, 17⟩
/-- CHAIN.SWAP_STATUS.BLK_PEND [18:18], R214. -/
abbrev CHAIN.SWAP_STATUS.BLK_PEND : Fld := ⟨0x400c0004, 18, 18⟩
/-- CHAIN.SWAP_STATUS.ALL [31:0], R214. -/
abbrev CHAIN.SWAP_STATUS.ALL : Fld := ⟨0x400c0004, 31, 0⟩
/-- CHAIN.SHADOW_ADDR.INDEX [8:0], R214. -/
abbrev CHAIN.SHADOW_ADDR.INDEX : Fld := ⟨0x400c0008, 8, 0⟩
/-- CHAIN.SHADOW_ADDR.BLOCK [20:16], R214. -/
abbrev CHAIN.SHADOW_ADDR.BLOCK : Fld := ⟨0x400c0008, 20, 16⟩
/-- CHAIN.SHADOW_ADDR.ALL [31:0], R214. -/
abbrev CHAIN.SHADOW_ADDR.ALL : Fld := ⟨0x400c0008, 31, 0⟩
/-- CHAIN.SHADOW_DATA.COEF [23:0], R214. -/
abbrev CHAIN.SHADOW_DATA.COEF : Fld := ⟨0x400c000c, 23, 0⟩
/-- CHAIN.SHADOW_DATA.ALL [31:0], R214. -/
abbrev CHAIN.SHADOW_DATA.ALL : Fld := ⟨0x400c000c, 31, 0⟩
/-- CHAIN.BANK.ACTIVE [0:0], R214. -/
abbrev CHAIN.BANK.ACTIVE (n : Nat) : Fld := ⟨0x400c0100 + 4 * n, 0, 0⟩
/-- CHAIN.BANK.PEND [1:1], R214. -/
abbrev CHAIN.BANK.PEND (n : Nat) : Fld := ⟨0x400c0100 + 4 * n, 1, 1⟩
/-- CHAIN.BANK.CONT0 [3:2], R214. -/
abbrev CHAIN.BANK.CONT0 (n : Nat) : Fld := ⟨0x400c0100 + 4 * n, 3, 2⟩
/-- CHAIN.BANK.CONT1 [5:4], R214. -/
abbrev CHAIN.BANK.CONT1 (n : Nat) : Fld := ⟨0x400c0100 + 4 * n, 5, 4⟩
/-- CHAIN.BANK.PAR [8:8], R214. -/
abbrev CHAIN.BANK.PAR (n : Nat) : Fld := ⟨0x400c0100 + 4 * n, 8, 8⟩
/-- CHAIN.BANK.PARWORD [24:16], R214. -/
abbrev CHAIN.BANK.PARWORD (n : Nat) : Fld := ⟨0x400c0100 + 4 * n, 24, 16⟩
/-- CHAIN.BANK.PARBANK [25:25], R214. -/
abbrev CHAIN.BANK.PARBANK (n : Nat) : Fld := ⟨0x400c0100 + 4 * n, 25, 25⟩
/-- CHAIN.BANK.ALL [31:0], R214. -/
abbrev CHAIN.BANK.ALL (n : Nat) : Fld := ⟨0x400c0100 + 4 * n, 31, 0⟩
/-- CHAIN.STATUS.RUN [0:0], R214. -/
abbrev CHAIN.STATUS.RUN (c : Nat) : Fld := ⟨0x400c0200 + 4 * c, 0, 0⟩
/-- CHAIN.STATUS.OVF [1:1], R214. -/
abbrev CHAIN.STATUS.OVF (c : Nat) : Fld := ⟨0x400c0200 + 4 * c, 1, 1⟩
/-- CHAIN.STATUS.PAR [2:2], R214. -/
abbrev CHAIN.STATUS.PAR (c : Nat) : Fld := ⟨0x400c0200 + 4 * c, 2, 2⟩
/-- CHAIN.STATUS.LATE [3:3], R214. -/
abbrev CHAIN.STATUS.LATE (c : Nat) : Fld := ⟨0x400c0200 + 4 * c, 3, 3⟩
/-- CHAIN.STATUS.SRC [4:4], R214. -/
abbrev CHAIN.STATUS.SRC (c : Nat) : Fld := ⟨0x400c0200 + 4 * c, 4, 4⟩
/-- CHAIN.STATUS.FAILED [5:5], R214. -/
abbrev CHAIN.STATUS.FAILED (c : Nat) : Fld := ⟨0x400c0200 + 4 * c, 5, 5⟩
/-- CHAIN.STATUS.FROZEN [6:6], R214. -/
abbrev CHAIN.STATUS.FROZEN (c : Nat) : Fld := ⟨0x400c0200 + 4 * c, 6, 6⟩
/-- CHAIN.STATUS.SETTLE [7:7], R214. -/
abbrev CHAIN.STATUS.SETTLE (c : Nat) : Fld := ⟨0x400c0200 + 4 * c, 7, 7⟩
/-- CHAIN.STATUS.RESYNC [8:8], R214. -/
abbrev CHAIN.STATUS.RESYNC (c : Nat) : Fld := ⟨0x400c0200 + 4 * c, 8, 8⟩
/-- CHAIN.STATUS.LATECNT [10:9], R214. -/
abbrev CHAIN.STATUS.LATECNT (c : Nat) : Fld := ⟨0x400c0200 + 4 * c, 10, 9⟩
/-- CHAIN.STATUS.OVFCNT [31:16], R214. -/
abbrev CHAIN.STATUS.OVFCNT (c : Nat) : Fld := ⟨0x400c0200 + 4 * c, 31, 16⟩
/-- CHAIN.STATUS.ALL [31:0], R214. -/
abbrev CHAIN.STATUS.ALL (c : Nat) : Fld := ⟨0x400c0200 + 4 * c, 31, 0⟩
/-- TALLY.STATUS.RUN [0:0], R252. -/
abbrev TALLY.STATUS.RUN (p : Nat) : Fld := ⟨0x400d0000 + 0x2000 * p, 0, 0⟩
/-- TALLY.STATUS.ISO [1:1], R252. -/
abbrev TALLY.STATUS.ISO (p : Nat) : Fld := ⟨0x400d0000 + 0x2000 * p, 1, 1⟩
/-- TALLY.STATUS.TRAP [2:2], R252. -/
abbrev TALLY.STATUS.TRAP (p : Nat) : Fld := ⟨0x400d0000 + 0x2000 * p, 2, 2⟩
/-- TALLY.STATUS.MARK [3:3], R252. -/
abbrev TALLY.STATUS.MARK (p : Nat) : Fld := ⟨0x400d0000 + 0x2000 * p, 3, 3⟩
/-- TALLY.STATUS.TASK [15:8], R252. -/
abbrev TALLY.STATUS.TASK (p : Nat) : Fld := ⟨0x400d0000 + 0x2000 * p, 15, 8⟩
/-- TALLY.STATUS.ALL [31:0], R252. -/
abbrev TALLY.STATUS.ALL (p : Nat) : Fld := ⟨0x400d0000 + 0x2000 * p, 31, 0⟩
/-- TALLY.TRAP.CODE [3:0], R252. -/
abbrev TALLY.TRAP.CODE (p : Nat) : Fld := ⟨0x400d0004 + 0x2000 * p, 3, 0⟩
/-- TALLY.TRAP.TASK [15:8], R252. -/
abbrev TALLY.TRAP.TASK (p : Nat) : Fld := ⟨0x400d0004 + 0x2000 * p, 15, 8⟩
/-- TALLY.TRAP.PC [30:16], R252. -/
abbrev TALLY.TRAP.PC (p : Nat) : Fld := ⟨0x400d0004 + 0x2000 * p, 30, 16⟩
/-- TALLY.TRAP.ALL [31:0], R252. -/
abbrev TALLY.TRAP.ALL (p : Nat) : Fld := ⟨0x400d0004 + 0x2000 * p, 31, 0⟩
/-- TALLY.COUNT.COMMITS [15:0], R252. -/
abbrev TALLY.COUNT.COMMITS (p : Nat) : Fld := ⟨0x400d0008 + 0x2000 * p, 15, 0⟩
/-- TALLY.COUNT.TRAPS [31:16], R252. -/
abbrev TALLY.COUNT.TRAPS (p : Nat) : Fld := ⟨0x400d0008 + 0x2000 * p, 31, 16⟩
/-- TALLY.COUNT.ALL [31:0], R252. -/
abbrev TALLY.COUNT.ALL (p : Nat) : Fld := ⟨0x400d0008 + 0x2000 * p, 31, 0⟩
/-- TALLY.TOT.ALL [31:0], R252. -/
abbrev TALLY.TOT.ALL (p n k : Nat) : Fld := ⟨0x400d0400 + 0x2000 * p + 0x10 * n + 4 * k, 31, 0⟩
/-- TALLY.CMP0.ALL [31:0], R252. -/
abbrev TALLY.CMP0.ALL (p n k : Nat) : Fld := ⟨0x400d0800 + 0x2000 * p + 0x10 * n + 4 * k, 31, 0⟩
/-- TALLY.CMP1.ALL [31:0], R252. -/
abbrev TALLY.CMP1.ALL (p n k : Nat) : Fld := ⟨0x400d0c00 + 0x2000 * p + 0x10 * n + 4 * k, 31, 0⟩
/-- PROP.STATUS.DOM [0:0], R294. -/
abbrev PROP.STATUS.DOM (p : Nat) : Fld := ⟨0x400e0000 + 0x10 * p, 0, 0⟩
/-- PROP.STATUS.WET [1:1], R294. -/
abbrev PROP.STATUS.WET (p : Nat) : Fld := ⟨0x400e0000 + 0x10 * p, 1, 1⟩
/-- PROP.STATUS.SATLIQ [2:2], R294. -/
abbrev PROP.STATUS.SATLIQ (p : Nat) : Fld := ⟨0x400e0000 + 0x10 * p, 2, 2⟩
/-- PROP.STATUS.PAR [3:3], R294. -/
abbrev PROP.STATUS.PAR (p : Nat) : Fld := ⟨0x400e0000 + 0x10 * p, 3, 3⟩
/-- PROP.STATUS.TBL [9:4], R294. -/
abbrev PROP.STATUS.TBL (p : Nat) : Fld := ⟨0x400e0000 + 0x10 * p, 9, 4⟩
/-- PROP.STATUS.ALL [31:0], R294. -/
abbrev PROP.STATUS.ALL (p : Nat) : Fld := ⟨0x400e0000 + 0x10 * p, 31, 0⟩
/-- PROP.COUNT.DOMCNT [15:0], R294. -/
abbrev PROP.COUNT.DOMCNT (p : Nat) : Fld := ⟨0x400e0004 + 0x10 * p, 15, 0⟩
/-- PROP.COUNT.SATCNT [31:16], R294. -/
abbrev PROP.COUNT.SATCNT (p : Nat) : Fld := ⟨0x400e0004 + 0x10 * p, 31, 16⟩
/-- PROP.COUNT.ALL [31:0], R294. -/
abbrev PROP.COUNT.ALL (p : Nat) : Fld := ⟨0x400e0004 + 0x10 * p, 31, 0⟩
/-- CAL.STATUS.BUSY [0:0], R376. -/
abbrev CAL.STATUS.BUSY : Fld := ⟨0x400f0000, 0, 0⟩
/-- CAL.STATUS.KIND [3:1], R376. -/
abbrev CAL.STATUS.KIND : Fld := ⟨0x400f0000, 3, 1⟩
/-- CAL.STATUS.CHANNEL [15:8], R376. -/
abbrev CAL.STATUS.CHANNEL : Fld := ⟨0x400f0000, 15, 8⟩
/-- CAL.STATUS.POSTPONED [16:16], R376. -/
abbrev CAL.STATUS.POSTPONED : Fld := ⟨0x400f0000, 16, 16⟩
/-- CAL.STATUS.REJECT [17:17], R376. -/
abbrev CAL.STATUS.REJECT : Fld := ⟨0x400f0000, 17, 17⟩
/-- CAL.STATUS.FORCED [18:18], R376. -/
abbrev CAL.STATUS.FORCED : Fld := ⟨0x400f0000, 18, 18⟩
/-- CAL.STATUS.RAMPING [19:19], R376. -/
abbrev CAL.STATUS.RAMPING : Fld := ⟨0x400f0000, 19, 19⟩
/-- CAL.STATUS.ALL [31:0], R376. -/
abbrev CAL.STATUS.ALL : Fld := ⟨0x400f0000, 31, 0⟩
/-- CAL.COUNT.ACCEPT [15:0], R376. -/
abbrev CAL.COUNT.ACCEPT : Fld := ⟨0x400f0004, 15, 0⟩
/-- CAL.COUNT.REJECT [31:16], R376. -/
abbrev CAL.COUNT.REJECT : Fld := ⟨0x400f0004, 31, 16⟩
/-- CAL.COUNT.ALL [31:0], R376. -/
abbrev CAL.COUNT.ALL : Fld := ⟨0x400f0004, 31, 0⟩
/-- CAL.REFQ.RES0 [15:0], R376. -/
abbrev CAL.REFQ.RES0 : Fld := ⟨0x400f0008, 15, 0⟩
/-- CAL.REFQ.RES1 [31:16], R376. -/
abbrev CAL.REFQ.RES1 : Fld := ⟨0x400f0008, 31, 16⟩
/-- CAL.REFQ.ALL [31:0], R376. -/
abbrev CAL.REFQ.ALL : Fld := ⟨0x400f0008, 31, 0⟩
/-- CAL.SDQ.RES0 [15:0], R376. -/
abbrev CAL.SDQ.RES0 (n : Nat) : Fld := ⟨0x400f0100 + 4 * n, 15, 0⟩
/-- CAL.SDQ.RES1 [31:16], R376. -/
abbrev CAL.SDQ.RES1 (n : Nat) : Fld := ⟨0x400f0100 + 4 * n, 31, 16⟩
/-- CAL.SDQ.ALL [31:0], R376. -/
abbrev CAL.SDQ.ALL (n : Nat) : Fld := ⟨0x400f0100 + 4 * n, 31, 0⟩
/-- CAL.LANEQ.RES0 [15:0], R376. -/
abbrev CAL.LANEQ.RES0 (n : Nat) : Fld := ⟨0x400f0200 + 4 * n, 15, 0⟩
/-- CAL.LANEQ.RES1 [31:16], R376. -/
abbrev CAL.LANEQ.RES1 (n : Nat) : Fld := ⟨0x400f0200 + 4 * n, 31, 16⟩
/-- CAL.LANEQ.ALL [31:0], R376. -/
abbrev CAL.LANEQ.ALL (n : Nat) : Fld := ⟨0x400f0200 + 4 * n, 31, 0⟩
/-- CAL.EXCQ.RES0 [15:0], R376. -/
abbrev CAL.EXCQ.RES0 (k : Nat) : Fld := ⟨0x400f0280 + 4 * k, 15, 0⟩
/-- CAL.EXCQ.RES1 [31:16], R376. -/
abbrev CAL.EXCQ.RES1 (k : Nat) : Fld := ⟨0x400f0280 + 4 * k, 31, 16⟩
/-- CAL.EXCQ.ALL [31:0], R376. -/
abbrev CAL.EXCQ.ALL (k : Nat) : Fld := ⟨0x400f0280 + 4 * k, 31, 0⟩
/-- CAL.SKEW.S [31:0], R376. -/
abbrev CAL.SKEW.S (n : Nat) : Fld := ⟨0x400f0300 + 4 * n, 31, 0⟩
/-- CAL.SKEW.ALL [31:0], R376. -/
abbrev CAL.SKEW.ALL (n : Nat) : Fld := ⟨0x400f0300 + 4 * n, 31, 0⟩
/-- IC.SRC_CFG.EN_T0 [0:0], R447. -/
abbrev IC.SRC_CFG.EN_T0 (c n : Nat) : Fld := ⟨(icBase c) + 4 * n, 0, 0⟩
/-- IC.SRC_CFG.EN_T1 [1:1], R447. -/
abbrev IC.SRC_CFG.EN_T1 (c n : Nat) : Fld := ⟨(icBase c) + 4 * n, 1, 1⟩
/-- IC.SRC_CFG.EN_AOC [2:2], R447. -/
abbrev IC.SRC_CFG.EN_AOC (c n : Nat) : Fld := ⟨(icBase c) + 4 * n, 2, 2⟩
/-- IC.SRC_CFG.SENSE [3:3], R447. -/
abbrev IC.SRC_CFG.SENSE (c n : Nat) : Fld := ⟨(icBase c) + 4 * n, 3, 3⟩
/-- IC.SRC_CFG.CLASS [4:4], R447. -/
abbrev IC.SRC_CFG.CLASS (c n : Nat) : Fld := ⟨(icBase c) + 4 * n, 4, 4⟩
/-- IC.SRC_CFG.RR [5:5], R447. -/
abbrev IC.SRC_CFG.RR (c n : Nat) : Fld := ⟨(icBase c) + 4 * n, 5, 5⟩
/-- IC.SRC_CFG.ALL [31:0], R447. -/
abbrev IC.SRC_CFG.ALL (c n : Nat) : Fld := ⟨(icBase c) + 4 * n, 31, 0⟩
/-- IC.PEND.PEND [31:0], R447. -/
abbrev IC.PEND.PEND (c k : Nat) : Fld := ⟨(icBase c) + 0x400 + 4 * k, 31, 0⟩
/-- IC.PEND.ALL [31:0], R447. -/
abbrev IC.PEND.ALL (c k : Nat) : Fld := ⟨(icBase c) + 0x400 + 4 * k, 31, 0⟩
/-- IC.ACTIVE.ACTIVE [31:0], R447. -/
abbrev IC.ACTIVE.ACTIVE (c k : Nat) : Fld := ⟨(icBase c) + 0x440 + 4 * k, 31, 0⟩
/-- IC.ACTIVE.ALL [31:0], R447. -/
abbrev IC.ACTIVE.ALL (c k : Nat) : Fld := ⟨(icBase c) + 0x440 + 4 * k, 31, 0⟩
/-- IC.STORM.STORM [31:0], R447. -/
abbrev IC.STORM.STORM (c k : Nat) : Fld := ⟨(icBase c) + 0x480 + 4 * k, 31, 0⟩
/-- IC.STORM.ALL [31:0], R447. -/
abbrev IC.STORM.ALL (c k : Nat) : Fld := ⟨(icBase c) + 0x480 + 4 * k, 31, 0⟩
/-- IC.CTRL.EN [0:0], R447. -/
abbrev IC.CTRL.EN (c : Nat) : Fld := ⟨(icBase c) + 0x500, 0, 0⟩
/-- IC.CTRL.ALL [31:0], R447. -/
abbrev IC.CTRL.ALL (c : Nat) : Fld := ⟨(icBase c) + 0x500, 31, 0⟩
/-- IC.STORMCFG.COUNT [7:0], R447. -/
abbrev IC.STORMCFG.COUNT (c : Nat) : Fld := ⟨(icBase c) + 0x504, 7, 0⟩
/-- IC.STORMCFG.WINDOW [31:16], R447. -/
abbrev IC.STORMCFG.WINDOW (c : Nat) : Fld := ⟨(icBase c) + 0x504, 31, 16⟩
/-- IC.STORMCFG.ALL [31:0], R447. -/
abbrev IC.STORMCFG.ALL (c : Nat) : Fld := ⟨(icBase c) + 0x504, 31, 0⟩
/-- IC.CLAIM.ID [7:0], R447. -/
abbrev IC.CLAIM.ID (c t : Nat) : Fld := ⟨(icBase c) + 0x600 + 0x40 * t, 7, 0⟩
/-- IC.CLAIM.FAST [8:8], R447. -/
abbrev IC.CLAIM.FAST (c t : Nat) : Fld := ⟨(icBase c) + 0x600 + 0x40 * t, 8, 8⟩
/-- IC.CLAIM.VALID [31:31], R447. -/
abbrev IC.CLAIM.VALID (c t : Nat) : Fld := ⟨(icBase c) + 0x600 + 0x40 * t, 31, 31⟩
/-- IC.CLAIM.ALL [31:0], R447. -/
abbrev IC.CLAIM.ALL (c t : Nat) : Fld := ⟨(icBase c) + 0x600 + 0x40 * t, 31, 0⟩
/-- IC.COMPLETE.ID [7:0], R447. -/
abbrev IC.COMPLETE.ID (c t : Nat) : Fld := ⟨(icBase c) + 0x604 + 0x40 * t, 7, 0⟩
/-- IC.COMPLETE.ALL [31:0], R447. -/
abbrev IC.COMPLETE.ALL (c t : Nat) : Fld := ⟨(icBase c) + 0x604 + 0x40 * t, 31, 0⟩
/-- IC.MOD.COUNT [7:0], R447. -/
abbrev IC.MOD.COUNT (c t : Nat) : Fld := ⟨(icBase c) + 0x608 + 0x40 * t, 7, 0⟩
/-- IC.MOD.TIME [31:16], R447. -/
abbrev IC.MOD.TIME (c t : Nat) : Fld := ⟨(icBase c) + 0x608 + 0x40 * t, 31, 16⟩
/-- IC.MOD.ALL [31:0], R447. -/
abbrev IC.MOD.ALL (c t : Nat) : Fld := ⟨(icBase c) + 0x608 + 0x40 * t, 31, 0⟩
/-- IC.TSTAT.NPEND [8:0], R447. -/
abbrev IC.TSTAT.NPEND (c t : Nat) : Fld := ⟨(icBase c) + 0x60c + 0x40 * t, 8, 0⟩
/-- IC.TSTAT.WFI [16:16], R447. -/
abbrev IC.TSTAT.WFI (c t : Nat) : Fld := ⟨(icBase c) + 0x60c + 0x40 * t, 16, 16⟩
/-- IC.TSTAT.CPL_ERR [17:17], R447. -/
abbrev IC.TSTAT.CPL_ERR (c t : Nat) : Fld := ⟨(icBase c) + 0x60c + 0x40 * t, 17, 17⟩
/-- IC.TSTAT.ALL [31:0], R447. -/
abbrev IC.TSTAT.ALL (c t : Nat) : Fld := ⟨(icBase c) + 0x60c + 0x40 * t, 31, 0⟩
/-- TMR.CTRL.MODE [1:0], R458. -/
abbrev TMR.CTRL.MODE (g i : Nat) : Fld := ⟨(tmrBase g) + 0x20 * i, 1, 0⟩
/-- TMR.CTRL.RUN [2:2], R458. -/
abbrev TMR.CTRL.RUN (g i : Nat) : Fld := ⟨(tmrBase g) + 0x20 * i, 2, 2⟩
/-- TMR.CTRL.CMPDIR [4:3], R458. -/
abbrev TMR.CTRL.CMPDIR (g i : Nat) : Fld := ⟨(tmrBase g) + 0x20 * i, 4, 3⟩
/-- TMR.CTRL.MASTER [7:5], R458. -/
abbrev TMR.CTRL.MASTER (g i : Nat) : Fld := ⟨(tmrBase g) + 0x20 * i, 7, 5⟩
/-- TMR.CTRL.SLAVE [9:8], R458. -/
abbrev TMR.CTRL.SLAVE (g i : Nat) : Fld := ⟨(tmrBase g) + 0x20 * i, 9, 8⟩
/-- TMR.CTRL.MEVT [10:10], R458. -/
abbrev TMR.CTRL.MEVT (g i : Nat) : Fld := ⟨(tmrBase g) + 0x20 * i, 10, 10⟩
/-- TMR.CTRL.CHAIN [11:11], R458. -/
abbrev TMR.CTRL.CHAIN (g i : Nat) : Fld := ⟨(tmrBase g) + 0x20 * i, 11, 11⟩
/-- TMR.CTRL.IE_CMP [12:12], R458. -/
abbrev TMR.CTRL.IE_CMP (g i : Nat) : Fld := ⟨(tmrBase g) + 0x20 * i, 12, 12⟩
/-- TMR.CTRL.IE_PER [13:13], R458. -/
abbrev TMR.CTRL.IE_PER (g i : Nat) : Fld := ⟨(tmrBase g) + 0x20 * i, 13, 13⟩
/-- TMR.CTRL.ALL [31:0], R458. -/
abbrev TMR.CTRL.ALL (g i : Nat) : Fld := ⟨(tmrBase g) + 0x20 * i, 31, 0⟩
/-- TMR.COUNT.COUNT [31:0], R458. -/
abbrev TMR.COUNT.COUNT (g i : Nat) : Fld := ⟨(tmrBase g) + 0x4 + 0x20 * i, 31, 0⟩
/-- TMR.COUNT.ALL [31:0], R458. -/
abbrev TMR.COUNT.ALL (g i : Nat) : Fld := ⟨(tmrBase g) + 0x4 + 0x20 * i, 31, 0⟩
/-- TMR.TOP.TOP [31:0], R458. -/
abbrev TMR.TOP.TOP (g i : Nat) : Fld := ⟨(tmrBase g) + 0x8 + 0x20 * i, 31, 0⟩
/-- TMR.TOP.ALL [31:0], R458. -/
abbrev TMR.TOP.ALL (g i : Nat) : Fld := ⟨(tmrBase g) + 0x8 + 0x20 * i, 31, 0⟩
/-- TMR.CMP.CMP [31:0], R458. -/
abbrev TMR.CMP.CMP (g i : Nat) : Fld := ⟨(tmrBase g) + 0xc + 0x20 * i, 31, 0⟩
/-- TMR.CMP.ALL [31:0], R458. -/
abbrev TMR.CMP.ALL (g i : Nat) : Fld := ⟨(tmrBase g) + 0xc + 0x20 * i, 31, 0⟩
/-- TMR.STATUS.CMP [0:0], R458. -/
abbrev TMR.STATUS.CMP (g i : Nat) : Fld := ⟨(tmrBase g) + 0x10 + 0x20 * i, 0, 0⟩
/-- TMR.STATUS.PER [1:1], R458. -/
abbrev TMR.STATUS.PER (g i : Nat) : Fld := ⟨(tmrBase g) + 0x10 + 0x20 * i, 1, 1⟩
/-- TMR.STATUS.OUT [2:2], R458. -/
abbrev TMR.STATUS.OUT (g i : Nat) : Fld := ⟨(tmrBase g) + 0x10 + 0x20 * i, 2, 2⟩
/-- TMR.STATUS.DIR [3:3], R458. -/
abbrev TMR.STATUS.DIR (g i : Nat) : Fld := ⟨(tmrBase g) + 0x10 + 0x20 * i, 3, 3⟩
/-- TMR.STATUS.ALL [31:0], R458. -/
abbrev TMR.STATUS.ALL (g i : Nat) : Fld := ⟨(tmrBase g) + 0x10 + 0x20 * i, 31, 0⟩
/-- TMR.PRESCALE.DIV [7:0], R458. -/
abbrev TMR.PRESCALE.DIV (g : Nat) : Fld := ⟨(tmrBase g) + 0x100, 7, 0⟩
/-- TMR.PRESCALE.ALL [31:0], R458. -/
abbrev TMR.PRESCALE.ALL (g : Nat) : Fld := ⟨(tmrBase g) + 0x100, 31, 0⟩
/-- TMR.START.GO [7:0], R458. -/
abbrev TMR.START.GO (g : Nat) : Fld := ⟨(tmrBase g) + 0x104, 7, 0⟩
/-- TMR.START.ALL [31:0], R458. -/
abbrev TMR.START.ALL (g : Nat) : Fld := ⟨(tmrBase g) + 0x104, 31, 0⟩
/-- TMR.STOP.HALT [7:0], R458. -/
abbrev TMR.STOP.HALT (g : Nat) : Fld := ⟨(tmrBase g) + 0x108, 7, 0⟩
/-- TMR.STOP.ALL [31:0], R458. -/
abbrev TMR.STOP.ALL (g : Nat) : Fld := ⟨(tmrBase g) + 0x108, 31, 0⟩
/-- TMR.WDT_CTRL.EN [0:0], R458. -/
abbrev TMR.WDT_CTRL.EN : Fld := ⟨0x14000e200, 0, 0⟩
/-- TMR.WDT_CTRL.ALL [31:0], R458. -/
abbrev TMR.WDT_CTRL.ALL : Fld := ⟨0x14000e200, 31, 0⟩
/-- TMR.WDT_CFG.LIMIT [15:0], R458. -/
abbrev TMR.WDT_CFG.LIMIT : Fld := ⟨0x14000e204, 15, 0⟩
/-- TMR.WDT_CFG.WARN [31:16], R458. -/
abbrev TMR.WDT_CFG.WARN : Fld := ⟨0x14000e204, 31, 16⟩
/-- TMR.WDT_CFG.ALL [31:0], R458. -/
abbrev TMR.WDT_CFG.ALL : Fld := ⟨0x14000e204, 31, 0⟩
/-- TMR.WDT_KICK.KEY [15:0], R458. -/
abbrev TMR.WDT_KICK.KEY : Fld := ⟨0x14000e208, 15, 0⟩
/-- TMR.WDT_KICK.ALL [31:0], R458. -/
abbrev TMR.WDT_KICK.ALL : Fld := ⟨0x14000e208, 31, 0⟩
/-- TMR.WDT_STAT.ELAPSED [15:0], R458. -/
abbrev TMR.WDT_STAT.ELAPSED : Fld := ⟨0x14000e20c, 15, 0⟩
/-- TMR.WDT_STAT.WARNED [16:16], R458. -/
abbrev TMR.WDT_STAT.WARNED : Fld := ⟨0x14000e20c, 16, 16⟩
/-- TMR.WDT_STAT.ALL [31:0], R458. -/
abbrev TMR.WDT_STAT.ALL : Fld := ⟨0x14000e20c, 31, 0⟩
/-- TW.CFG.SPEED [1:0], R473. -/
abbrev TW.CFG.SPEED (n : Nat) : Fld := ⟨(twBase n) + 0x0, 1, 0⟩
/-- TW.CFG.RETRY [5:2], R473. -/
abbrev TW.CFG.RETRY (n : Nat) : Fld := ⟨(twBase n) + 0x0, 5, 2⟩
/-- TW.CFG.ALERT_EN [6:6], R473. -/
abbrev TW.CFG.ALERT_EN (n : Nat) : Fld := ⟨(twBase n) + 0x0, 6, 6⟩
/-- TW.CFG.STRETCH_MS [12:8], R473. -/
abbrev TW.CFG.STRETCH_MS (n : Nat) : Fld := ⟨(twBase n) + 0x0, 12, 8⟩
/-- TW.CFG.SCL_LOW_MS [20:16], R473. -/
abbrev TW.CFG.SCL_LOW_MS (n : Nat) : Fld := ⟨(twBase n) + 0x0, 20, 16⟩
/-- TW.CFG.SDA_LOW_MS [28:24], R473. -/
abbrev TW.CFG.SDA_LOW_MS (n : Nat) : Fld := ⟨(twBase n) + 0x0, 28, 24⟩
/-- TW.CFG.ALL [31:0], R473. -/
abbrev TW.CFG.ALL (n : Nat) : Fld := ⟨(twBase n) + 0x0, 31, 0⟩
/-- TW.TIMING.TLOW [9:0], R473. -/
abbrev TW.TIMING.TLOW (n : Nat) : Fld := ⟨(twBase n) + 0x4, 9, 0⟩
/-- TW.TIMING.THIGH [25:16], R473. -/
abbrev TW.TIMING.THIGH (n : Nat) : Fld := ⟨(twBase n) + 0x4, 25, 16⟩
/-- TW.TIMING.ALL [31:0], R473. -/
abbrev TW.TIMING.ALL (n : Nat) : Fld := ⟨(twBase n) + 0x4, 31, 0⟩
/-- TW.CMD.ADDR [6:0], R473. -/
abbrev TW.CMD.ADDR (n : Nat) : Fld := ⟨(twBase n) + 0x8, 6, 0⟩
/-- TW.CMD.NW [13:8], R473. -/
abbrev TW.CMD.NW (n : Nat) : Fld := ⟨(twBase n) + 0x8, 13, 8⟩
/-- TW.CMD.NR [23:16], R473. -/
abbrev TW.CMD.NR (n : Nat) : Fld := ⟨(twBase n) + 0x8, 23, 16⟩
/-- TW.CMD.PEC [24:24], R473. -/
abbrev TW.CMD.PEC (n : Nat) : Fld := ⟨(twBase n) + 0x8, 24, 24⟩
/-- TW.CMD.BLOCK [25:25], R473. -/
abbrev TW.CMD.BLOCK (n : Nat) : Fld := ⟨(twBase n) + 0x8, 25, 25⟩
/-- TW.CMD.GO [31:31], R473. -/
abbrev TW.CMD.GO (n : Nat) : Fld := ⟨(twBase n) + 0x8, 31, 31⟩
/-- TW.CMD.ALL [31:0], R473. -/
abbrev TW.CMD.ALL (n : Nat) : Fld := ⟨(twBase n) + 0x8, 31, 0⟩
/-- TW.TXDATA.DATA [7:0], R473. -/
abbrev TW.TXDATA.DATA (n : Nat) : Fld := ⟨(twBase n) + 0xc, 7, 0⟩
/-- TW.TXDATA.COUNT [21:16], R473. -/
abbrev TW.TXDATA.COUNT (n : Nat) : Fld := ⟨(twBase n) + 0xc, 21, 16⟩
/-- TW.TXDATA.ALL [31:0], R473. -/
abbrev TW.TXDATA.ALL (n : Nat) : Fld := ⟨(twBase n) + 0xc, 31, 0⟩
/-- TW.RXDATA.DATA [7:0], R473. -/
abbrev TW.RXDATA.DATA (n : Nat) : Fld := ⟨(twBase n) + 0x10, 7, 0⟩
/-- TW.RXDATA.VALID [8:8], R473. -/
abbrev TW.RXDATA.VALID (n : Nat) : Fld := ⟨(twBase n) + 0x10, 8, 8⟩
/-- TW.RXDATA.COUNT [21:16], R473. -/
abbrev TW.RXDATA.COUNT (n : Nat) : Fld := ⟨(twBase n) + 0x10, 21, 16⟩
/-- TW.RXDATA.ALL [31:0], R473. -/
abbrev TW.RXDATA.ALL (n : Nat) : Fld := ⟨(twBase n) + 0x10, 31, 0⟩
/-- TW.STATUS.BUSY [0:0], R473. -/
abbrev TW.STATUS.BUSY (n : Nat) : Fld := ⟨(twBase n) + 0x14, 0, 0⟩
/-- TW.STATUS.DONE [1:1], R473. -/
abbrev TW.STATUS.DONE (n : Nat) : Fld := ⟨(twBase n) + 0x14, 1, 1⟩
/-- TW.STATUS.NACK [2:2], R473. -/
abbrev TW.STATUS.NACK (n : Nat) : Fld := ⟨(twBase n) + 0x14, 2, 2⟩
/-- TW.STATUS.ARB_LOST [3:3], R473. -/
abbrev TW.STATUS.ARB_LOST (n : Nat) : Fld := ⟨(twBase n) + 0x14, 3, 3⟩
/-- TW.STATUS.TIMEOUT [4:4], R473. -/
abbrev TW.STATUS.TIMEOUT (n : Nat) : Fld := ⟨(twBase n) + 0x14, 4, 4⟩
/-- TW.STATUS.SCL_LOW [5:5], R473. -/
abbrev TW.STATUS.SCL_LOW (n : Nat) : Fld := ⟨(twBase n) + 0x14, 5, 5⟩
/-- TW.STATUS.SDA_LOW [6:6], R473. -/
abbrev TW.STATUS.SDA_LOW (n : Nat) : Fld := ⟨(twBase n) + 0x14, 6, 6⟩
/-- TW.STATUS.BUS_ERR [7:7], R473. -/
abbrev TW.STATUS.BUS_ERR (n : Nat) : Fld := ⟨(twBase n) + 0x14, 7, 7⟩
/-- TW.STATUS.PEC_ERR [8:8], R473. -/
abbrev TW.STATUS.PEC_ERR (n : Nat) : Fld := ⟨(twBase n) + 0x14, 8, 8⟩
/-- TW.STATUS.ALERT [9:9], R473. -/
abbrev TW.STATUS.ALERT (n : Nat) : Fld := ⟨(twBase n) + 0x14, 9, 9⟩
/-- TW.STATUS.CMD_LOST [10:10], R473. -/
abbrev TW.STATUS.CMD_LOST (n : Nat) : Fld := ⟨(twBase n) + 0x14, 10, 10⟩
/-- TW.STATUS.TXOVF [11:11], R473. -/
abbrev TW.STATUS.TXOVF (n : Nat) : Fld := ⟨(twBase n) + 0x14, 11, 11⟩
/-- TW.STATUS.RESULT [14:12], R473. -/
abbrev TW.STATUS.RESULT (n : Nat) : Fld := ⟨(twBase n) + 0x14, 14, 12⟩
/-- TW.STATUS.ALL [31:0], R473. -/
abbrev TW.STATUS.ALL (n : Nat) : Fld := ⟨(twBase n) + 0x14, 31, 0⟩
/-- TW.POS.BYTE [8:0], R473. -/
abbrev TW.POS.BYTE (n : Nat) : Fld := ⟨(twBase n) + 0x18, 8, 0⟩
/-- TW.POS.BIT [15:12], R473. -/
abbrev TW.POS.BIT (n : Nat) : Fld := ⟨(twBase n) + 0x18, 15, 12⟩
/-- TW.POS.KIND [17:16], R473. -/
abbrev TW.POS.KIND (n : Nat) : Fld := ⟨(twBase n) + 0x18, 17, 16⟩
/-- TW.POS.ATTEMPTS [24:20], R473. -/
abbrev TW.POS.ATTEMPTS (n : Nat) : Fld := ⟨(twBase n) + 0x18, 24, 20⟩
/-- TW.POS.ALL [31:0], R473. -/
abbrev TW.POS.ALL (n : Nat) : Fld := ⟨(twBase n) + 0x18, 31, 0⟩
/-- TW.ALERTADDR.ADDR [6:0], R473. -/
abbrev TW.ALERTADDR.ADDR (n : Nat) : Fld := ⟨(twBase n) + 0x1c, 6, 0⟩
/-- TW.ALERTADDR.VALID [8:8], R473. -/
abbrev TW.ALERTADDR.VALID (n : Nat) : Fld := ⟨(twBase n) + 0x1c, 8, 8⟩
/-- TW.ALERTADDR.NOACK [9:9], R473. -/
abbrev TW.ALERTADDR.NOACK (n : Nat) : Fld := ⟨(twBase n) + 0x1c, 9, 9⟩
/-- TW.ALERTADDR.ALL [31:0], R473. -/
abbrev TW.ALERTADDR.ALL (n : Nat) : Fld := ⟨(twBase n) + 0x1c, 31, 0⟩
/-- TW.IE.IE [11:1], R473. -/
abbrev TW.IE.IE (n : Nat) : Fld := ⟨(twBase n) + 0x20, 11, 1⟩
/-- TW.IE.ALL [31:0], R473. -/
abbrev TW.IE.ALL (n : Nat) : Fld := ⟨(twBase n) + 0x20, 31, 0⟩
/-- TW.CTRL.ABORT [0:0], R473. -/
abbrev TW.CTRL.ABORT (n : Nat) : Fld := ⟨(twBase n) + 0x24, 0, 0⟩
/-- TW.CTRL.RECOVER [1:1], R473. -/
abbrev TW.CTRL.RECOVER (n : Nat) : Fld := ⟨(twBase n) + 0x24, 1, 1⟩
/-- TW.CTRL.ALL [31:0], R473. -/
abbrev TW.CTRL.ALL (n : Nat) : Fld := ⟨(twBase n) + 0x24, 31, 0⟩
/-- CSP.CFG.DIV [7:0], R489. -/
abbrev CSP.CFG.DIV (n : Nat) : Fld := ⟨(cspBase n), 7, 0⟩
/-- CSP.CFG.MODE3 [8:8], R489. -/
abbrev CSP.CFG.MODE3 (n : Nat) : Fld := ⟨(cspBase n), 8, 8⟩
/-- CSP.CFG.ROLE [9:9], R489. -/
abbrev CSP.CFG.ROLE (n : Nat) : Fld := ⟨(cspBase n), 9, 9⟩
/-- CSP.CFG.MULTI [10:10], R489. -/
abbrev CSP.CFG.MULTI (n : Nat) : Fld := ⟨(cspBase n), 10, 10⟩
/-- CSP.CFG.DDR [11:11], R489. -/
abbrev CSP.CFG.DDR (n : Nat) : Fld := ⟨(cspBase n), 11, 11⟩
/-- CSP.CFG.DQS [12:12], R489. -/
abbrev CSP.CFG.DQS (n : Nat) : Fld := ⟨(cspBase n), 12, 12⟩
/-- CSP.CFG.SETUP [19:16], R489. -/
abbrev CSP.CFG.SETUP (n : Nat) : Fld := ⟨(cspBase n), 19, 16⟩
/-- CSP.CFG.HOLD [23:20], R489. -/
abbrev CSP.CFG.HOLD (n : Nat) : Fld := ⟨(cspBase n), 23, 20⟩
/-- CSP.CFG.IDLE [27:24], R489. -/
abbrev CSP.CFG.IDLE (n : Nat) : Fld := ⟨(cspBase n), 27, 24⟩
/-- CSP.CFG.ALL [31:0], R489. -/
abbrev CSP.CFG.ALL (n : Nat) : Fld := ⟨(cspBase n), 31, 0⟩
/-- CSP.FRAME.CMD_BITS [5:0], R489. -/
abbrev CSP.FRAME.CMD_BITS (n : Nat) : Fld := ⟨(cspBase n) + 4, 5, 0⟩
/-- CSP.FRAME.CMD_LANES [7:6], R489. -/
abbrev CSP.FRAME.CMD_LANES (n : Nat) : Fld := ⟨(cspBase n) + 4, 7, 6⟩
/-- CSP.FRAME.ADDR_BITS [13:8], R489. -/
abbrev CSP.FRAME.ADDR_BITS (n : Nat) : Fld := ⟨(cspBase n) + 4, 13, 8⟩
/-- CSP.FRAME.ADDR_LANES [15:14], R489. -/
abbrev CSP.FRAME.ADDR_LANES (n : Nat) : Fld := ⟨(cspBase n) + 4, 15, 14⟩
/-- CSP.FRAME.DUMMY [20:16], R489. -/
abbrev CSP.FRAME.DUMMY (n : Nat) : Fld := ⟨(cspBase n) + 4, 20, 16⟩
/-- CSP.FRAME.DATA_LANES [23:22], R489. -/
abbrev CSP.FRAME.DATA_LANES (n : Nat) : Fld := ⟨(cspBase n) + 4, 23, 22⟩
/-- CSP.FRAME.READ [24:24], R489. -/
abbrev CSP.FRAME.READ (n : Nat) : Fld := ⟨(cspBase n) + 4, 24, 24⟩
/-- CSP.FRAME.DUPLEX [25:25], R489. -/
abbrev CSP.FRAME.DUPLEX (n : Nat) : Fld := ⟨(cspBase n) + 4, 25, 25⟩
/-- CSP.FRAME.SS [27:26], R489. -/
abbrev CSP.FRAME.SS (n : Nat) : Fld := ⟨(cspBase n) + 4, 27, 26⟩
/-- CSP.FRAME.ALL [31:0], R489. -/
abbrev CSP.FRAME.ALL (n : Nat) : Fld := ⟨(cspBase n) + 4, 31, 0⟩
/-- CSP.CMD.VALUE [31:0], R489. -/
abbrev CSP.CMD.VALUE (n : Nat) : Fld := ⟨(cspBase n) + 8, 31, 0⟩
/-- CSP.CMD.ALL [31:0], R489. -/
abbrev CSP.CMD.ALL (n : Nat) : Fld := ⟨(cspBase n) + 8, 31, 0⟩
/-- CSP.ADDR.VALUE [31:0], R489. -/
abbrev CSP.ADDR.VALUE (n : Nat) : Fld := ⟨(cspBase n) + 0xc, 31, 0⟩
/-- CSP.ADDR.ALL [31:0], R489. -/
abbrev CSP.ADDR.ALL (n : Nat) : Fld := ⟨(cspBase n) + 0xc, 31, 0⟩
/-- CSP.LEN.LEN [16:0], R489. -/
abbrev CSP.LEN.LEN (n : Nat) : Fld := ⟨(cspBase n) + 0x10, 16, 0⟩
/-- CSP.LEN.ALL [31:0], R489. -/
abbrev CSP.LEN.ALL (n : Nat) : Fld := ⟨(cspBase n) + 0x10, 31, 0⟩
/-- CSP.CTRL.GO [0:0], R489. -/
abbrev CSP.CTRL.GO (n : Nat) : Fld := ⟨(cspBase n) + 0x14, 0, 0⟩
/-- CSP.CTRL.ABORT [1:1], R489. -/
abbrev CSP.CTRL.ABORT (n : Nat) : Fld := ⟨(cspBase n) + 0x14, 1, 1⟩
/-- CSP.CTRL.DISCOVER [2:2], R489. -/
abbrev CSP.CTRL.DISCOVER (n : Nat) : Fld := ⟨(cspBase n) + 0x14, 2, 2⟩
/-- CSP.CTRL.ALL [31:0], R489. -/
abbrev CSP.CTRL.ALL (n : Nat) : Fld := ⟨(cspBase n) + 0x14, 31, 0⟩
/-- CSP.TXDATA.DATA [31:0], R489. -/
abbrev CSP.TXDATA.DATA (n : Nat) : Fld := ⟨(cspBase n) + 0x18, 31, 0⟩
/-- CSP.TXDATA.ALL [31:0], R489. -/
abbrev CSP.TXDATA.ALL (n : Nat) : Fld := ⟨(cspBase n) + 0x18, 31, 0⟩
/-- CSP.RXDATA.DATA [31:0], R489. -/
abbrev CSP.RXDATA.DATA (n : Nat) : Fld := ⟨(cspBase n) + 0x1c, 31, 0⟩
/-- CSP.RXDATA.ALL [31:0], R489. -/
abbrev CSP.RXDATA.ALL (n : Nat) : Fld := ⟨(cspBase n) + 0x1c, 31, 0⟩
/-- CSP.STATUS.BUSY [0:0], R489. -/
abbrev CSP.STATUS.BUSY (n : Nat) : Fld := ⟨(cspBase n) + 0x20, 0, 0⟩
/-- CSP.STATUS.DONE [1:1], R489. -/
abbrev CSP.STATUS.DONE (n : Nat) : Fld := ⟨(cspBase n) + 0x20, 1, 1⟩
/-- CSP.STATUS.MODE_FAULT [2:2], R489. -/
abbrev CSP.STATUS.MODE_FAULT (n : Nat) : Fld := ⟨(cspBase n) + 0x20, 2, 2⟩
/-- CSP.STATUS.FMT_ERR [3:3], R489. -/
abbrev CSP.STATUS.FMT_ERR (n : Nat) : Fld := ⟨(cspBase n) + 0x20, 3, 3⟩
/-- CSP.STATUS.TXOVF [4:4], R489. -/
abbrev CSP.STATUS.TXOVF (n : Nat) : Fld := ⟨(cspBase n) + 0x20, 4, 4⟩
/-- CSP.STATUS.RXUNF [5:5], R489. -/
abbrev CSP.STATUS.RXUNF (n : Nat) : Fld := ⟨(cspBase n) + 0x20, 5, 5⟩
/-- CSP.STATUS.CMD_LOST [6:6], R489. -/
abbrev CSP.STATUS.CMD_LOST (n : Nat) : Fld := ⟨(cspBase n) + 0x20, 6, 6⟩
/-- CSP.STATUS.TXUNF [7:7], R489. -/
abbrev CSP.STATUS.TXUNF (n : Nat) : Fld := ⟨(cspBase n) + 0x20, 7, 7⟩
/-- CSP.STATUS.RXOVF [8:8], R489. -/
abbrev CSP.STATUS.RXOVF (n : Nat) : Fld := ⟨(cspBase n) + 0x20, 8, 8⟩
/-- CSP.STATUS.DQS_TO [9:9], R489. -/
abbrev CSP.STATUS.DQS_TO (n : Nat) : Fld := ⟨(cspBase n) + 0x20, 9, 9⟩
/-- CSP.STATUS.RESULT [14:12], R489. -/
abbrev CSP.STATUS.RESULT (n : Nat) : Fld := ⟨(cspBase n) + 0x20, 14, 12⟩
/-- CSP.STATUS.TXCNT [22:16], R489. -/
abbrev CSP.STATUS.TXCNT (n : Nat) : Fld := ⟨(cspBase n) + 0x20, 22, 16⟩
/-- CSP.STATUS.RXCNT [30:24], R489. -/
abbrev CSP.STATUS.RXCNT (n : Nat) : Fld := ⟨(cspBase n) + 0x20, 30, 24⟩
/-- CSP.STATUS.ALL [31:0], R489. -/
abbrev CSP.STATUS.ALL (n : Nat) : Fld := ⟨(cspBase n) + 0x20, 31, 0⟩
/-- CSP.IE.IE [9:1], R489. -/
abbrev CSP.IE.IE (n : Nat) : Fld := ⟨(cspBase n) + 0x24, 9, 1⟩
/-- CSP.IE.ALL [31:0], R489. -/
abbrev CSP.IE.ALL (n : Nat) : Fld := ⟨(cspBase n) + 0x24, 31, 0⟩
/-- CSP.DMA_ADDR.ADDR [31:0], R489. -/
abbrev CSP.DMA_ADDR.ADDR (n : Nat) : Fld := ⟨(cspBase n) + 0x28, 31, 0⟩
/-- CSP.DMA_ADDR.ALL [31:0], R489. -/
abbrev CSP.DMA_ADDR.ALL (n : Nat) : Fld := ⟨(cspBase n) + 0x28, 31, 0⟩
/-- CSP.DMA_CTRL.EN [0:0], R489. -/
abbrev CSP.DMA_CTRL.EN (n : Nat) : Fld := ⟨(cspBase n) + 0x2c, 0, 0⟩
/-- CSP.DMA_CTRL.ALL [31:0], R489. -/
abbrev CSP.DMA_CTRL.ALL (n : Nat) : Fld := ⟨(cspBase n) + 0x2c, 31, 0⟩
/-- CSP.XIP_CFG.EN [0:0], R489. -/
abbrev CSP.XIP_CFG.EN : Fld := ⟨0x14000d040, 0, 0⟩
/-- CSP.XIP_CFG.CONT [1:1], R489. -/
abbrev CSP.XIP_CFG.CONT : Fld := ⟨0x14000d040, 1, 1⟩
/-- CSP.XIP_CFG.SIZE [5:2], R489. -/
abbrev CSP.XIP_CFG.SIZE : Fld := ⟨0x14000d040, 5, 2⟩
/-- CSP.XIP_CFG.CONT_MAX [31:16], R489. -/
abbrev CSP.XIP_CFG.CONT_MAX : Fld := ⟨0x14000d040, 31, 16⟩
/-- CSP.XIP_CFG.ALL [31:0], R489. -/
abbrev CSP.XIP_CFG.ALL : Fld := ⟨0x14000d040, 31, 0⟩
/-- CSP.XIP_FRAME.CMD_BITS [5:0], R489. -/
abbrev CSP.XIP_FRAME.CMD_BITS : Fld := ⟨0x14000d044, 5, 0⟩
/-- CSP.XIP_FRAME.CMD_LANES [7:6], R489. -/
abbrev CSP.XIP_FRAME.CMD_LANES : Fld := ⟨0x14000d044, 7, 6⟩
/-- CSP.XIP_FRAME.ADDR_BITS [13:8], R489. -/
abbrev CSP.XIP_FRAME.ADDR_BITS : Fld := ⟨0x14000d044, 13, 8⟩
/-- CSP.XIP_FRAME.ADDR_LANES [15:14], R489. -/
abbrev CSP.XIP_FRAME.ADDR_LANES : Fld := ⟨0x14000d044, 15, 14⟩
/-- CSP.XIP_FRAME.DUMMY [20:16], R489. -/
abbrev CSP.XIP_FRAME.DUMMY : Fld := ⟨0x14000d044, 20, 16⟩
/-- CSP.XIP_FRAME.DATA_LANES [23:22], R489. -/
abbrev CSP.XIP_FRAME.DATA_LANES : Fld := ⟨0x14000d044, 23, 22⟩
/-- CSP.XIP_FRAME.READ [24:24], R489. -/
abbrev CSP.XIP_FRAME.READ : Fld := ⟨0x14000d044, 24, 24⟩
/-- CSP.XIP_FRAME.DUPLEX [25:25], R489. -/
abbrev CSP.XIP_FRAME.DUPLEX : Fld := ⟨0x14000d044, 25, 25⟩
/-- CSP.XIP_FRAME.SS [27:26], R489. -/
abbrev CSP.XIP_FRAME.SS : Fld := ⟨0x14000d044, 27, 26⟩
/-- CSP.XIP_FRAME.ALL [31:0], R489. -/
abbrev CSP.XIP_FRAME.ALL : Fld := ⟨0x14000d044, 31, 0⟩
/-- CSP.XIP_CMD.CMD [31:0], R489. -/
abbrev CSP.XIP_CMD.CMD : Fld := ⟨0x14000d048, 31, 0⟩
/-- CSP.XIP_CMD.ALL [31:0], R489. -/
abbrev CSP.XIP_CMD.ALL : Fld := ⟨0x14000d048, 31, 0⟩
/-- CSP.SFDP.BYTES [31:0], R489. -/
abbrev CSP.SFDP.BYTES (k : Nat) : Fld := ⟨0x14000d100 + 4 * k, 31, 0⟩
/-- CSP.SFDP.ALL [31:0], R489. -/
abbrev CSP.SFDP.ALL (k : Nat) : Fld := ⟨0x14000d100 + 4 * k, 31, 0⟩
/-- CSP4.CFG.EN [0:0], R489. -/
abbrev CSP4.CFG.EN : Fld := ⟨0x14000c000, 0, 0⟩
/-- CSP4.CFG.MODE3 [1:1], R489. -/
abbrev CSP4.CFG.MODE3 : Fld := ⟨0x14000c000, 1, 1⟩
/-- CSP4.CFG.LANES [3:2], R489. -/
abbrev CSP4.CFG.LANES : Fld := ⟨0x14000c000, 3, 2⟩
/-- CSP4.CFG.ALL [31:0], R489. -/
abbrev CSP4.CFG.ALL : Fld := ⟨0x14000c000, 31, 0⟩
/-- CSP4.STATUS.SEL [0:0], R489. -/
abbrev CSP4.STATUS.SEL : Fld := ⟨0x14000c004, 0, 0⟩
/-- CSP4.STATUS.FRAME_REJ [1:1], R489. -/
abbrev CSP4.STATUS.FRAME_REJ : Fld := ⟨0x14000c004, 1, 1⟩
/-- CSP4.STATUS.RXWORDS [26:16], R489. -/
abbrev CSP4.STATUS.RXWORDS : Fld := ⟨0x14000c004, 26, 16⟩
/-- CSP4.STATUS.ALL [31:0], R489. -/
abbrev CSP4.STATUS.ALL : Fld := ⟨0x14000c004, 31, 0⟩
/-- CSP4.REJ.COUNT [15:0], R489. -/
abbrev CSP4.REJ.COUNT : Fld := ⟨0x14000c008, 15, 0⟩
/-- CSP4.REJ.LAST [17:16], R489. -/
abbrev CSP4.REJ.LAST : Fld := ⟨0x14000c008, 17, 16⟩
/-- CSP4.REJ.ALL [31:0], R489. -/
abbrev CSP4.REJ.ALL : Fld := ⟨0x14000c008, 31, 0⟩
/-- ETH.CFG.TXEN [0:0], R496. -/
abbrev ETH.CFG.TXEN (n : Nat) : Fld := ⟨(ethBase n) + 0x0, 0, 0⟩
/-- ETH.CFG.RXEN [1:1], R496. -/
abbrev ETH.CFG.RXEN (n : Nat) : Fld := ⟨(ethBase n) + 0x0, 1, 1⟩
/-- ETH.CFG.PROMISC [2:2], R496. -/
abbrev ETH.CFG.PROMISC (n : Nat) : Fld := ⟨(ethBase n) + 0x0, 2, 2⟩
/-- ETH.CFG.MCAST [3:3], R496. -/
abbrev ETH.CFG.MCAST (n : Nat) : Fld := ⟨(ethBase n) + 0x0, 3, 3⟩
/-- ETH.CFG.KEEPBAD [4:4], R496. -/
abbrev ETH.CFG.KEEPBAD (n : Nat) : Fld := ⟨(ethBase n) + 0x0, 4, 4⟩
/-- ETH.CFG.AMPL [6:5], R496. -/
abbrev ETH.CFG.AMPL (n : Nat) : Fld := ⟨(ethBase n) + 0x0, 6, 5⟩
/-- ETH.CFG.SPEED [7:7], R496. -/
abbrev ETH.CFG.SPEED (n : Nat) : Fld := ⟨(ethBase n) + 0x0, 7, 7⟩
/-- ETH.CFG.ALL [31:0], R496. -/
abbrev ETH.CFG.ALL (n : Nat) : Fld := ⟨(ethBase n) + 0x0, 31, 0⟩
/-- ETH.MAC_LO.ADDR [31:0], R496. -/
abbrev ETH.MAC_LO.ADDR (n : Nat) : Fld := ⟨(ethBase n) + 0x4, 31, 0⟩
/-- ETH.MAC_LO.ALL [31:0], R496. -/
abbrev ETH.MAC_LO.ALL (n : Nat) : Fld := ⟨(ethBase n) + 0x4, 31, 0⟩
/-- ETH.MAC_HI.ADDR [15:0], R496. -/
abbrev ETH.MAC_HI.ADDR (n : Nat) : Fld := ⟨(ethBase n) + 0x8, 15, 0⟩
/-- ETH.MAC_HI.ALL [31:0], R496. -/
abbrev ETH.MAC_HI.ALL (n : Nat) : Fld := ⟨(ethBase n) + 0x8, 31, 0⟩
/-- ETH.TXRING.BASE [31:5], R496. -/
abbrev ETH.TXRING.BASE (n : Nat) : Fld := ⟨(ethBase n) + 0x10, 31, 5⟩
/-- ETH.TXRING.ALL [31:0], R496. -/
abbrev ETH.TXRING.ALL (n : Nat) : Fld := ⟨(ethBase n) + 0x10, 31, 0⟩
/-- ETH.RXRING.BASE [31:5], R496. -/
abbrev ETH.RXRING.BASE (n : Nat) : Fld := ⟨(ethBase n) + 0x18, 31, 5⟩
/-- ETH.RXRING.ALL [31:0], R496. -/
abbrev ETH.RXRING.ALL (n : Nat) : Fld := ⟨(ethBase n) + 0x18, 31, 0⟩
/-- ETH.TXCTL.SIZE [3:0], R496. -/
abbrev ETH.TXCTL.SIZE (n : Nat) : Fld := ⟨(ethBase n) + 0x14, 3, 0⟩
/-- ETH.TXCTL.POLL [8:8], R496. -/
abbrev ETH.TXCTL.POLL (n : Nat) : Fld := ⟨(ethBase n) + 0x14, 8, 8⟩
/-- ETH.TXCTL.NEXT [23:16], R496. -/
abbrev ETH.TXCTL.NEXT (n : Nat) : Fld := ⟨(ethBase n) + 0x14, 23, 16⟩
/-- ETH.TXCTL.ALL [31:0], R496. -/
abbrev ETH.TXCTL.ALL (n : Nat) : Fld := ⟨(ethBase n) + 0x14, 31, 0⟩
/-- ETH.RXCTL.SIZE [3:0], R496. -/
abbrev ETH.RXCTL.SIZE (n : Nat) : Fld := ⟨(ethBase n) + 0x1c, 3, 0⟩
/-- ETH.RXCTL.POLL [8:8], R496. -/
abbrev ETH.RXCTL.POLL (n : Nat) : Fld := ⟨(ethBase n) + 0x1c, 8, 8⟩
/-- ETH.RXCTL.NEXT [23:16], R496. -/
abbrev ETH.RXCTL.NEXT (n : Nat) : Fld := ⟨(ethBase n) + 0x1c, 23, 16⟩
/-- ETH.RXCTL.ALL [31:0], R496. -/
abbrev ETH.RXCTL.ALL (n : Nat) : Fld := ⟨(ethBase n) + 0x1c, 31, 0⟩
/-- ETH.STATUS.TXDONE [0:0], R496. -/
abbrev ETH.STATUS.TXDONE (n : Nat) : Fld := ⟨(ethBase n) + 0x20, 0, 0⟩
/-- ETH.STATUS.RXDONE [1:1], R496. -/
abbrev ETH.STATUS.RXDONE (n : Nat) : Fld := ⟨(ethBase n) + 0x20, 1, 1⟩
/-- ETH.STATUS.TXERR [2:2], R496. -/
abbrev ETH.STATUS.TXERR (n : Nat) : Fld := ⟨(ethBase n) + 0x20, 2, 2⟩
/-- ETH.STATUS.LINKCHG [3:3], R496. -/
abbrev ETH.STATUS.LINKCHG (n : Nat) : Fld := ⟨(ethBase n) + 0x20, 3, 3⟩
/-- ETH.STATUS.ALL [31:0], R496. -/
abbrev ETH.STATUS.ALL (n : Nat) : Fld := ⟨(ethBase n) + 0x20, 31, 0⟩
/-- ETH.IE.IE [3:0], R496. -/
abbrev ETH.IE.IE (n : Nat) : Fld := ⟨(ethBase n) + 0x24, 3, 0⟩
/-- ETH.IE.ALL [31:0], R496. -/
abbrev ETH.IE.ALL (n : Nat) : Fld := ⟨(ethBase n) + 0x24, 31, 0⟩
/-- ETH.CNT.RXDROP [15:0], R496. -/
abbrev ETH.CNT.RXDROP (n : Nat) : Fld := ⟨(ethBase n) + 0x28, 15, 0⟩
/-- ETH.CNT.BADFCS [23:16], R496. -/
abbrev ETH.CNT.BADFCS (n : Nat) : Fld := ⟨(ethBase n) + 0x28, 23, 16⟩
/-- ETH.CNT.OVERSIZE [31:24], R496. -/
abbrev ETH.CNT.OVERSIZE (n : Nat) : Fld := ⟨(ethBase n) + 0x28, 31, 24⟩
/-- ETH.CNT.ALL [31:0], R496. -/
abbrev ETH.CNT.ALL (n : Nat) : Fld := ⟨(ethBase n) + 0x28, 31, 0⟩
/-- ETH.PHY_STAT.LINK [0:0], R496. -/
abbrev ETH.PHY_STAT.LINK (n : Nat) : Fld := ⟨(ethBase n) + 0x40, 0, 0⟩
/-- ETH.PHY_STAT.ANEG [1:1], R496. -/
abbrev ETH.PHY_STAT.ANEG (n : Nat) : Fld := ⟨(ethBase n) + 0x40, 1, 1⟩
/-- ETH.PHY_STAT.LEVEL [2:2], R496. -/
abbrev ETH.PHY_STAT.LEVEL (n : Nat) : Fld := ⟨(ethBase n) + 0x40, 2, 2⟩
/-- ETH.PHY_STAT.SQI [6:4], R496. -/
abbrev ETH.PHY_STAT.SQI (n : Nat) : Fld := ⟨(ethBase n) + 0x40, 6, 4⟩
/-- ETH.PHY_STAT.ALL [31:0], R496. -/
abbrev ETH.PHY_STAT.ALL (n : Nat) : Fld := ⟨(ethBase n) + 0x40, 31, 0⟩
/-- ETH.MDIO.DATA [15:0], R496. -/
abbrev ETH.MDIO.DATA (n : Nat) : Fld := ⟨(ethBase n) + 0x44, 15, 0⟩
/-- ETH.MDIO.REG [20:16], R496. -/
abbrev ETH.MDIO.REG (n : Nat) : Fld := ⟨(ethBase n) + 0x44, 20, 16⟩
/-- ETH.MDIO.PHYAD [25:21], R496. -/
abbrev ETH.MDIO.PHYAD (n : Nat) : Fld := ⟨(ethBase n) + 0x44, 25, 21⟩
/-- ETH.MDIO.READ [26:26], R496. -/
abbrev ETH.MDIO.READ (n : Nat) : Fld := ⟨(ethBase n) + 0x44, 26, 26⟩
/-- ETH.MDIO.GO [27:27], R496. -/
abbrev ETH.MDIO.GO (n : Nat) : Fld := ⟨(ethBase n) + 0x44, 27, 27⟩
/-- ETH.MDIO.BUSY [28:28], R496. -/
abbrev ETH.MDIO.BUSY (n : Nat) : Fld := ⟨(ethBase n) + 0x44, 28, 28⟩
/-- ETH.MDIO.ALL [31:0], R496. -/
abbrev ETH.MDIO.ALL (n : Nat) : Fld := ⟨(ethBase n) + 0x44, 31, 0⟩
/-- ETH.PWR.MV [15:0], R496. -/
abbrev ETH.PWR.MV (n : Nat) : Fld := ⟨(ethBase n) + 0x4c, 15, 0⟩
/-- ETH.PWR.MA [31:16], R496. -/
abbrev ETH.PWR.MA (n : Nat) : Fld := ⟨(ethBase n) + 0x4c, 31, 16⟩
/-- ETH.PWR.ALL [31:0], R496. -/
abbrev ETH.PWR.ALL (n : Nat) : Fld := ⟨(ethBase n) + 0x4c, 31, 0⟩
/-- ETH.LAT.ALL [31:0], R496. -/
abbrev ETH.LAT.ALL (n : Nat) : Fld := ⟨(ethBase n) + 0x48, 31, 0⟩
/-- ETH.TSQ_STAT.COUNT [4:0], R318. -/
abbrev ETH.TSQ_STAT.COUNT (n : Nat) : Fld := ⟨(ethBase n) + 0x300, 4, 0⟩
/-- ETH.TSQ_STAT.OVF [5:5], R318. -/
abbrev ETH.TSQ_STAT.OVF (n : Nat) : Fld := ⟨(ethBase n) + 0x300, 5, 5⟩
/-- ETH.TSQ_STAT.NEXTGEN [11:8], R318. -/
abbrev ETH.TSQ_STAT.NEXTGEN (n : Nat) : Fld := ⟨(ethBase n) + 0x300, 11, 8⟩
/-- ETH.TSQ_STAT.DROP [31:16], R318. -/
abbrev ETH.TSQ_STAT.DROP (n : Nat) : Fld := ⟨(ethBase n) + 0x300, 31, 16⟩
/-- ETH.TSQ_STAT.ALL [31:0], R318. -/
abbrev ETH.TSQ_STAT.ALL (n : Nat) : Fld := ⟨(ethBase n) + 0x300, 31, 0⟩
/-- ETH.TSQ_POP.POP [0:0], R318. -/
abbrev ETH.TSQ_POP.POP (n : Nat) : Fld := ⟨(ethBase n) + 0x304, 0, 0⟩
/-- ETH.TSQ_POP.ALL [31:0], R318. -/
abbrev ETH.TSQ_POP.ALL (n : Nat) : Fld := ⟨(ethBase n) + 0x304, 31, 0⟩
/-- ETH.TSQ.ALL [31:0], R316. -/
abbrev ETH.TSQ.ALL (n k : Nat) : Fld := ⟨(ethBase n) + 0x310 + 4 * k, 31, 0⟩
/-- HOST.CFG.EN [0:0], R511. -/
abbrev HOST.CFG.EN : Fld := ⟨0x140012000, 0, 0⟩
/-- HOST.CFG.IE [1:1], R511. -/
abbrev HOST.CFG.IE : Fld := ⟨0x140012000, 1, 1⟩
/-- HOST.CFG.GW_TO [15:8], R511. -/
abbrev HOST.CFG.GW_TO : Fld := ⟨0x140012000, 15, 8⟩
/-- HOST.CFG.APP_TO [31:16], R511. -/
abbrev HOST.CFG.APP_TO : Fld := ⟨0x140012000, 31, 16⟩
/-- HOST.CFG.ALL [31:0], R511. -/
abbrev HOST.CFG.ALL : Fld := ⟨0x140012000, 31, 0⟩
/-- HOST.STATUS.BUSY [0:0], R511. -/
abbrev HOST.STATUS.BUSY : Fld := ⟨0x140012004, 0, 0⟩
/-- HOST.STATUS.CODE [17:2], R511. -/
abbrev HOST.STATUS.CODE : Fld := ⟨0x140012004, 17, 2⟩
/-- HOST.STATUS.ALL [31:0], R511. -/
abbrev HOST.STATUS.ALL : Fld := ⟨0x140012004, 31, 0⟩
/-- HOST.ALERT.KINDMASK [6:0], R511. -/
abbrev HOST.ALERT.KINDMASK : Fld := ⟨0x140012008, 6, 0⟩
/-- HOST.ALERT.EN [11:8], R511. -/
abbrev HOST.ALERT.EN : Fld := ⟨0x140012008, 11, 8⟩
/-- HOST.ALERT.TWM [12:12], R511. -/
abbrev HOST.ALERT.TWM : Fld := ⟨0x140012008, 12, 12⟩
/-- HOST.ALERT.PEND [27:24], R511. -/
abbrev HOST.ALERT.PEND : Fld := ⟨0x140012008, 27, 24⟩
/-- HOST.ALERT.ALL [31:0], R511. -/
abbrev HOST.ALERT.ALL : Fld := ⟨0x140012008, 31, 0⟩
/-- HOST.ERR.CRC [7:0], R511. -/
abbrev HOST.ERR.CRC : Fld := ⟨0x14001200c, 7, 0⟩
/-- HOST.ERR.LEN [15:8], R511. -/
abbrev HOST.ERR.LEN : Fld := ⟨0x14001200c, 15, 8⟩
/-- HOST.ERR.FRAME [23:16], R511. -/
abbrev HOST.ERR.FRAME : Fld := ⟨0x14001200c, 23, 16⟩
/-- HOST.ERR.QFULL [31:24], R511. -/
abbrev HOST.ERR.QFULL : Fld := ⟨0x14001200c, 31, 24⟩
/-- HOST.ERR.ALL [31:0], R511. -/
abbrev HOST.ERR.ALL : Fld := ⟨0x14001200c, 31, 0⟩
/-- HOST.FW_CTRL.NBYTES [10:0], R511. -/
abbrev HOST.FW_CTRL.NBYTES : Fld := ⟨0x140012010, 10, 0⟩
/-- HOST.FW_CTRL.CHAN [12:11], R511. -/
abbrev HOST.FW_CTRL.CHAN : Fld := ⟨0x140012010, 12, 11⟩
/-- HOST.FW_CTRL.SUBMIT [13:13], R511. -/
abbrev HOST.FW_CTRL.SUBMIT : Fld := ⟨0x140012010, 13, 13⟩
/-- HOST.FW_CTRL.LONG [14:14], R511. -/
abbrev HOST.FW_CTRL.LONG : Fld := ⟨0x140012010, 14, 14⟩
/-- HOST.FW_CTRL.TAG [31:16], R511. -/
abbrev HOST.FW_CTRL.TAG : Fld := ⟨0x140012010, 31, 16⟩
/-- HOST.FW_CTRL.ALL [31:0], R511. -/
abbrev HOST.FW_CTRL.ALL : Fld := ⟨0x140012010, 31, 0⟩
/-- HOST.FW_STAT.IN_BUSY [0:0], R511. -/
abbrev HOST.FW_STAT.IN_BUSY : Fld := ⟨0x140012014, 0, 0⟩
/-- HOST.FW_STAT.SUB_LOST [1:1], R511. -/
abbrev HOST.FW_STAT.SUB_LOST : Fld := ⟨0x140012014, 1, 1⟩
/-- HOST.FW_STAT.OUT_VALID [2:2], R511. -/
abbrev HOST.FW_STAT.OUT_VALID : Fld := ⟨0x140012014, 2, 2⟩
/-- HOST.FW_STAT.OUT_CHAN [4:3], R511. -/
abbrev HOST.FW_STAT.OUT_CHAN : Fld := ⟨0x140012014, 4, 3⟩
/-- HOST.FW_STAT.POP [5:5], R511. -/
abbrev HOST.FW_STAT.POP : Fld := ⟨0x140012014, 5, 5⟩
/-- HOST.FW_STAT.OUT_WORDS [25:16], R511. -/
abbrev HOST.FW_STAT.OUT_WORDS : Fld := ⟨0x140012014, 25, 16⟩
/-- HOST.FW_STAT.ALL [31:0], R511. -/
abbrev HOST.FW_STAT.ALL : Fld := ⟨0x140012014, 31, 0⟩
/-- HOST.FW_IN.ALL [31:0], R497. -/
abbrev HOST.FW_IN.ALL (k : Nat) : Fld := ⟨0x140012400 + 4 * k, 31, 0⟩
/-- HOST.FW_OUT.ALL [31:0], R497. -/
abbrev HOST.FW_OUT.ALL (k : Nat) : Fld := ⟨0x140012800 + 4 * k, 31, 0⟩
/-- SC.BANKCTL.CUR [0:0], R529. -/
abbrev SC.BANKCTL.CUR (c : Nat) : Fld := ⟨0x2000007c0 + 0x1000 * c, 0, 0⟩
/-- SC.BANKCTL.SEL [1:1], R529. -/
abbrev SC.BANKCTL.SEL (c : Nat) : Fld := ⟨0x2000007c0 + 0x1000 * c, 1, 1⟩
/-- SC.BANKCTL.ALL [31:0], R529. -/
abbrev SC.BANKCTL.ALL (c : Nat) : Fld := ⟨0x2000007c0 + 0x1000 * c, 31, 0⟩

end F

end Sys2Proof.Machine
end

