-- ==== Sys2Proof/Machine/RegTable.lean ====
section
/-! DEFINITION. The register tables of spec/ as data: for every register its tagged address, and for every field of it its bits, its access
code (R4), its reset value at class P, whether classes H and S keep it (the dash of R6; a value kept in retention, "rt", counts as kept), and
the values it may be written to (R9), an empty list meaning all. A value that is loaded during start-up ("img", "fs", "st", "ac", "cr", "cm") resets to 0 and is
loaded by START_UP_SEQUENCE. -/

namespace Sys2Proof.Machine

/-- The access codes of R4. -/
inductive Access where
  | ro | rw | wo | w1c | w1s | rs | sl
  deriving DecidableEq, Repr

/-- One row of a register table. -/
structure FieldSpec where
  hi : Nat
  lo : Nat
  acc : Access
  rst : Nat
  keepH : Bool
  keepS : Bool
  legal : List (Nat × Nat)
  deriving DecidableEq, Repr

/-- A family of registers base + i*s1 + j*s2 + k*s3 with i < c1, j < c2, k < c3, that share their fields. -/
structure RegSpec where
  base : Nat
  dims : List (Nat × Nat)
  fields : List FieldSpec
  deriving DecidableEq, Repr

/-- The FLT registers. -/
def regsFlt : List RegSpec :=
  [
  -- FLT.RST_CAUSE (R70)
  { base := 0x40000000, dims := [], fields := [
      ⟨0, 0, .ro, 0, false, true, []⟩,
      ⟨1, 1, .ro, 0, false, true, []⟩,
      ⟨2, 2, .ro, 0, false, true, []⟩,
      ⟨3, 3, .ro, 0, false, true, []⟩,
      ⟨6, 4, .ro, 0, false, true, []⟩,
      ⟨7, 7, .ro, 0, false, true, []⟩,
      ⟨31, 16, .ro, 0, true, true, []⟩] },
  -- FLT.BOOT_STATUS (R70)
  { base := 0x40000004, dims := [], fields := [
      ⟨1, 0, .ro, 0, false, true, []⟩,
      ⟨2, 2, .ro, 0, false, true, []⟩,
      ⟨3, 3, .ro, 0, false, true, []⟩,
      ⟨4, 4, .ro, 0, false, true, []⟩,
      ⟨11, 8, .ro, 0, false, true, []⟩,
      ⟨13, 12, .ro, 0, false, true, []⟩,
      ⟨16, 16, .ro, 0, false, true, []⟩,
      ⟨19, 17, .ro, 0, false, true, []⟩] },
  -- FLT.STATUS (R397)
  { base := 0x40000008, dims := [], fields := [
      ⟨0, 0, .ro, 0, false, true, []⟩,
      ⟨3, 1, .ro, 0, false, true, []⟩,
      ⟨15, 8, .ro, 0, false, true, []⟩] },
  -- FLT.COUNT (R397)
  { base := 0x40000010, dims := [], fields := [
      ⟨15, 0, .ro, 0, false, true, []⟩,
      ⟨31, 16, .ro, 0, false, true, []⟩] },
  -- FLT.ECC (R397)
  { base := 0x40000014, dims := [], fields := [
      ⟨15, 0, .ro, 0, false, true, []⟩,
      ⟨23, 16, .ro, 0, false, true, []⟩,
      ⟨27, 24, .ro, 0, false, true, []⟩] },
  -- FLT.ECC_ADDR (R397)
  { base := 0x40000018, dims := [], fields := [
      ⟨31, 0, .ro, 0, false, true, []⟩] },
  -- FLT.HSC_WDT (R397)
  { base := 0x4000001c, dims := [], fields := [
      ⟨15, 0, .wo, 0, false, true, []⟩] },
  -- FLT.REGION_STAT (R397)
  { base := 0x40000040, dims := [(4, 8)], fields := [
      ⟨1, 0, .ro, 0, false, true, []⟩,
      ⟨15, 8, .ro, 0, false, true, []⟩,
      ⟨23, 16, .ro, 0, false, true, []⟩,
      ⟨27, 24, .ro, 0, false, true, []⟩] } ] ++
  [
  -- FLT.GUARD (R397)
  { base := 0x40000080, dims := [(4, 32)], fields := [
      ⟨1, 0, .ro, 0, false, true, []⟩,
      ⟨2, 2, .ro, 0, false, true, []⟩,
      ⟨3, 3, .w1c, 0, false, true, []⟩,
      ⟨31, 16, .ro, 0, false, true, []⟩] } ]

/-- The BUS registers of instance d. -/
def regsBusOf (d : Nat) : List RegSpec :=
  [
  -- BUS.ERR (R433)
  { base := (busErrBase d), dims := [], fields := [
      ⟨3, 0, .ro, 0, decide (d = 1), !decide (d = 1), []⟩,
      ⟨7, 4, .ro, 0, decide (d = 1), !decide (d = 1), []⟩,
      ⟨8, 8, .ro, 0, decide (d = 1), !decide (d = 1), []⟩,
      ⟨9, 9, .w1c, 0, decide (d = 1), !decide (d = 1), []⟩,
      ⟨10, 10, .w1c, 0, decide (d = 1), !decide (d = 1), []⟩,
      ⟨31, 16, .ro, 0, decide (d = 1), !decide (d = 1), []⟩] },
  -- BUS.ADDR (R433)
  { base := (busErrBase d) + 4, dims := [], fields := [
      ⟨31, 0, .ro, 0, decide (d = 1), !decide (d = 1), []⟩] } ]

/-- The SEASON registers. -/
def regsSeason : List RegSpec :=
  [
  -- SEASON.STATE (R362)
  { base := 0x140000000, dims := [], fields := [
      ⟨1, 0, .ro, 0, true, true, []⟩,
      ⟨3, 2, .ro, 0, true, true, []⟩,
      ⟨4, 4, .w1c, 0, true, true, []⟩,
      ⟨5, 5, .ro, 0, true, true, []⟩] },
  -- SEASON.REQ (R362)
  { base := 0x140000004, dims := [], fields := [
      ⟨0, 0, .rw, 0, true, false, []⟩,
      ⟨1, 1, .rw, 0, true, false, []⟩,
      ⟨2, 2, .rw, 0, true, false, []⟩,
      ⟨3, 3, .rw, 0, true, false, []⟩,
      ⟨4, 4, .rw, 0, true, false, []⟩] },
  -- SEASON.WAKE (R362)
  { base := 0x140000008, dims := [], fields := [
      ⟨0, 0, .rw, 0, true, false, []⟩,
      ⟨1, 1, .rw, 0, true, false, []⟩,
      ⟨4, 2, .rw, 0, true, false, []⟩,
      ⟨5, 5, .rw, 0, true, false, []⟩,
      ⟨6, 6, .rw, 0, true, false, []⟩,
      ⟨7, 7, .rw, 0, true, false, []⟩] },
  -- SEASON.ALARM (R362)
  { base := 0x14000000c, dims := [], fields := [
      ⟨31, 0, .rw, 0, true, false, []⟩] },
  -- SEASON.WAKESRC (R362)
  { base := 0x140000010, dims := [], fields := [
      ⟨11, 0, .ro, 0, true, true, []⟩] },
  -- SEASON.COUNT (R362)
  { base := 0x140000014, dims := [], fields := [
      ⟨15, 0, .ro, 0, true, true, []⟩,
      ⟨31, 16, .ro, 0, true, true, []⟩] },
  -- SEASON.SRST_CAUSE (R70)
  { base := 0x140000040, dims := [], fields := [
      ⟨0, 0, .ro, 0, true, false, []⟩,
      ⟨1, 1, .ro, 0, true, false, []⟩,
      ⟨2, 2, .ro, 0, true, false, []⟩,
      ⟨3, 3, .ro, 0, true, false, []⟩,
      ⟨4, 4, .ro, 0, true, false, []⟩,
      ⟨31, 16, .ro, 0, true, true, []⟩] },
  -- SEASON.SRST_REQ (R70)
  { base := 0x140000044, dims := [], fields := [
      ⟨0, 0, .wo, 0, true, false, []⟩,
      ⟨31, 16, .wo, 0, true, false, []⟩] } ] ++
  [
  -- SEASON.SC1_BOOT (R532)
  { base := 0x140000048, dims := [], fields := [
      ⟨0, 0, .wo, 0, true, false, []⟩,
      ⟨31, 2, .rw, 0, true, false, []⟩] },
  -- SEASON.SBOOT (R532)
  { base := 0x14000004c, dims := [], fields := [
      ⟨1, 0, .ro, 0, true, false, []⟩,
      ⟨2, 2, .ro, 0, true, false, []⟩,
      ⟨3, 3, .ro, 0, true, false, []⟩] } ]

/-- The TWM registers. -/
def regsTwm : List RegSpec :=
  [
  -- TWM.CFG (R473)
  { base := 0x140000080, dims := [], fields := [
      ⟨6, 0, .rw, 0, true, true, []⟩,
      ⟨7, 7, .rw, 0, true, true, []⟩] },
  -- TWM.CTRL (R473)
  { base := 0x140000084, dims := [], fields := [
      ⟨0, 0, .rw, 0, true, true, []⟩] },
  -- TWM.STAT (R473)
  { base := 0x140000088, dims := [], fields := [
      ⟨0, 0, .w1c, 0, true, true, []⟩,
      ⟨1, 1, .w1c, 0, true, true, []⟩,
      ⟨2, 2, .w1c, 0, true, true, []⟩,
      ⟨3, 3, .w1c, 0, true, true, []⟩,
      ⟨4, 4, .w1c, 0, true, true, []⟩] },
  -- TWM.MB (R473)
  { base := 0x1400000a0, dims := [(4, 5)], fields := [
      ⟨7, 0, .rw, 0, true, true, []⟩] } ]

/-- The GW registers. -/
def regsGw : List RegSpec :=
  [
  -- GW.CMD_CTRL (R113)
  { base := 0x150000000, dims := [], fields := [
      ⟨0, 0, .wo, 0, false, false, []⟩] },
  -- GW.CMD_STATE (R113)
  { base := 0x150000004, dims := [], fields := [
      ⟨1, 0, .ro, 0, false, false, []⟩,
      ⟨2, 2, .w1c, 0, false, false, []⟩,
      ⟨15, 8, .ro, 0, false, false, []⟩,
      ⟨31, 16, .ro, 0, false, false, []⟩] },
  -- GW.RING_STATUS (R117)
  { base := 0x150000010, dims := [], fields := [
      ⟨11, 0, .ro, 0, false, true, []⟩,
      ⟨31, 16, .ro, 0, false, true, []⟩] },
  -- GW.RING_POP (R117)
  { base := 0x150000014, dims := [], fields := [
      ⟨0, 0, .wo, 0, false, false, []⟩,
      ⟨1, 1, .wo, 0, false, false, []⟩] },
  -- GW.RING_ENTRY (R117)
  { base := 0x150000020, dims := [(4, 8)], fields := [
      ⟨31, 0, .rs, 0, false, false, []⟩] },
  -- GW.TIME (R312)
  { base := 0x150000040, dims := [(4, 4)], fields := [
      ⟨31, 0, .rs, 0, false, false, []⟩] },
  -- GW.CMD_BUF (R111)
  { base := 0x150000400, dims := [(4, 256)], fields := [
      ⟨31, 0, .rw, 0, false, false, []⟩] } ]

/-- The SEAL registers. -/
def regsSeal : List RegSpec :=
  [
  -- SEAL.STATUS (R554)
  { base := 0x40010000, dims := [], fields := [
      ⟨0, 0, .ro, 1, false, true, []⟩,
      ⟨1, 1, .ro, 0, true, true, []⟩,
      ⟨2, 2, .w1c, 0, false, true, []⟩,
      ⟨3, 3, .ro, 0, false, true, []⟩,
      ⟨5, 4, .ro, 0, false, true, []⟩,
      ⟨6, 6, .ro, 0, false, true, []⟩] },
  -- SEAL.COUNTER (R554)
  { base := 0x40010004, dims := [], fields := [
      ⟨31, 0, .ro, 0, false, true, []⟩] },
  -- SEAL.REFUSED (R554)
  { base := 0x40010008, dims := [], fields := [
      ⟨15, 0, .ro, 0, false, true, []⟩] },
  -- SEAL.UNLOGGED (R554)
  { base := 0x4001000c, dims := [], fields := [
      ⟨31, 0, .ro, 0, false, true, []⟩] } ]

/-- The FLASH registers of instance d. -/
def regsFlashOf (d : Nat) : List RegSpec :=
  [
  -- FLASH.CMD (R420)
  { base := (flashRegBase d), dims := [], fields := [
      ⟨2, 0, .wo, 0, decide (d = 1), !decide (d = 1), []⟩,
      ⟨3, 3, .wo, 0, decide (d = 1), !decide (d = 1), []⟩] },
  -- FLASH.ADDR (R420)
  { base := (flashRegBase d) + 4, dims := [], fields := [
      ⟨25, 4, .rw, 0, decide (d = 1), !decide (d = 1), []⟩] },
  -- FLASH.STATUS (R420)
  { base := (flashRegBase d) + 8, dims := [], fields := [
      ⟨0, 0, .ro, 0, decide (d = 1), !decide (d = 1), []⟩,
      ⟨1, 1, .ro, 0, decide (d = 1), !decide (d = 1), []⟩,
      ⟨2, 2, .w1c, 0, decide (d = 1), !decide (d = 1), []⟩,
      ⟨3, 3, .w1c, 0, decide (d = 1), !decide (d = 1), []⟩,
      ⟨4, 4, .w1c, 0, decide (d = 1), !decide (d = 1), []⟩,
      ⟨5, 5, .w1c, 0, decide (d = 1), !decide (d = 1), []⟩,
      ⟨7, 6, .ro, 0, decide (d = 1), !decide (d = 1), []⟩,
      ⟨8, 8, .ro, 0, decide (d = 1), !decide (d = 1), []⟩] },
  -- FLASH.DATA (R420)
  { base := (flashRegBase d) + 0x10, dims := [(4, 4)], fields := [
      ⟨31, 0, .rw, 0, decide (d = 1), !decide (d = 1), []⟩] } ]

/-- The TIME registers. -/
def regsTime : List RegSpec :=
  [
  -- TIME.STATUS (R318)
  { base := 0x40040000, dims := [], fields := [
      ⟨1, 0, .ro, 0, true, true, []⟩,
      ⟨2, 2, .ro, 0, true, true, []⟩,
      ⟨3, 3, .ro, 0, false, true, []⟩,
      ⟨4, 4, .ro, 0, true, true, []⟩,
      ⟨5, 5, .w1c, 0, false, true, []⟩,
      ⟨6, 6, .w1c, 0, false, true, []⟩] },
  -- TIME.NOW (R295)
  { base := 0x40040010, dims := [(4, 4)], fields := [
      ⟨31, 0, .rs, 0, false, true, []⟩] },
  -- TIME.STAMP (R318)
  { base := 0x40040020, dims := [], fields := [
      ⟨0, 0, .wo, 0, false, true, []⟩] },
  -- TIME.STAMPW (R317)
  { base := 0x40040030, dims := [(4, 4)], fields := [
      ⟨31, 0, .ro, 0, false, true, []⟩] },
  -- TIME.FREQ (R318)
  { base := 0x40040040, dims := [], fields := [
      ⟨31, 0, .ro, 0, true, true, []⟩] },
  -- TIME.PHASE (R318)
  { base := 0x40040044, dims := [], fields := [
      ⟨31, 0, .ro, 0, true, true, []⟩] },
  -- TIME.HOLD (R318)
  { base := 0x40040048, dims := [], fields := [
      ⟨15, 0, .rw, 60, true, true, [(1, 65535)]⟩] },
  -- TIME.XTAL (R318)
  { base := 0x4004004c, dims := [], fields := [
      ⟨7, 0, .rw, 25, true, true, []⟩,
      ⟨23, 8, .rw, 340, true, true, []⟩,
      ⟨31, 24, .ro, 0, true, true, []⟩] } ] ++
  [
  -- TIME.CYCLE (R318)
  { base := 0x40040060, dims := [(4, 2)], fields := [
      ⟨31, 0, .rs, 0, true, true, []⟩] },
  -- TIME.CMPCTRL (R318)
  { base := 0x40040100, dims := [(0x20, 32)], fields := [
      ⟨1, 0, .rw, 0, false, true, [(0, 2)]⟩,
      ⟨2, 2, .rw, 0, false, true, []⟩,
      ⟨3, 3, .rw, 0, false, true, []⟩,
      ⟨4, 4, .ro, 0, false, true, []⟩,
      ⟨31, 16, .rw, 0, false, true, [(1, 65535)]⟩] },
  -- TIME.CMPOFS (R318)
  { base := 0x40040104, dims := [(0x20, 32)], fields := [
      ⟨31, 0, .rw, 0, false, true, []⟩] },
  -- TIME.CMPPH (R318)
  { base := 0x40040108, dims := [(0x20, 32)], fields := [
      ⟨15, 0, .rw, 0, false, true, []⟩] },
  -- TIME.CMPABS (R305)
  { base := 0x4004010c, dims := [(0x20, 32), (4, 3)], fields := [
      ⟨31, 0, .rw, 0, false, true, []⟩] },
  -- TIME.CMPSTAT (R318)
  { base := 0x4004011c, dims := [(0x20, 32)], fields := [
      ⟨0, 0, .w1c, 0, false, true, []⟩,
      ⟨1, 1, .w1c, 0, false, true, []⟩,
      ⟨31, 16, .ro, 0, false, true, []⟩] } ]

/-- The SPN registers. -/
def regsSpn : List RegSpec :=
  [
  -- SPN.STATUS (R345)
  { base := 0x40050000, dims := [], fields := [
      ⟨2, 0, .ro, 0, false, true, []⟩,
      ⟨4, 3, .ro, 0, false, true, []⟩,
      ⟨5, 5, .ro, 0, false, true, []⟩,
      ⟨6, 6, .w1c, 0, false, true, []⟩,
      ⟨7, 7, .w1c, 0, false, true, []⟩,
      ⟨8, 8, .ro, 0, false, true, []⟩] },
  -- SPN.RESERVE (R345)
  { base := 0x40050004, dims := [], fields := [
      ⟨31, 0, .ro, 0, false, true, []⟩] },
  -- SPN.FLOOR (R345)
  { base := 0x40050008, dims := [], fields := [
      ⟨31, 0, .ro, 0, false, true, []⟩] },
  -- SPN.PLAN (R345)
  { base := 0x4005000c, dims := [], fields := [
      ⟨31, 0, .ro, 0, false, true, []⟩] },
  -- SPN.DEMAND (R345)
  { base := 0x40050010, dims := [], fields := [
      ⟨31, 0, .ro, 0, false, true, []⟩] },
  -- SPN.ESCALE (R345)
  { base := 0x40050014, dims := [], fields := [
      ⟨15, 0, .ro, 256, true, true, []⟩] },
  -- SPN.HORIZON (R345)
  { base := 0x40050018, dims := [], fields := [
      ⟨15, 0, .rw, 300, true, true, [(1, 65535)]⟩] },
  -- SPN.SW_UW (R345)
  { base := 0x4005001c, dims := [], fields := [
      ⟨31, 0, .rw, 0, true, true, []⟩] } ] ++
  [
  -- SPN.COUNT (R345)
  { base := 0x40050020, dims := [], fields := [
      ⟨15, 0, .ro, 0, false, true, []⟩,
      ⟨31, 16, .ro, 0, false, true, []⟩] },
  -- SPN.TEMP (R345)
  { base := 0x40050040, dims := [(4, 12)], fields := [
      ⟨15, 0, .ro, 0, false, true, []⟩] },
  -- SPN.TASK (R345)
  { base := 0x40050400, dims := [(4, 256)], fields := [
      ⟨1, 0, .ro, 0, false, true, []⟩,
      ⟨7, 2, .ro, 0, false, true, []⟩,
      ⟨12, 8, .ro, 1, false, true, []⟩] } ]

/-- The GAUGE registers. -/
def regsGauge : List RegSpec :=
  [
  -- GAUGE.STATUS (R345)
  { base := 0x40060000, dims := [], fields := [
      ⟨0, 0, .w1c, 0, true, true, []⟩,
      ⟨1, 1, .ro, 0, true, true, []⟩,
      ⟨2, 2, .ro, 0, true, true, []⟩] },
  -- GAUGE.VSTORE (R345)
  { base := 0x40060004, dims := [], fields := [
      ⟨11, 0, .ro, 0, true, true, []⟩,
      ⟨31, 16, .ro, 0, true, true, []⟩] },
  -- GAUGE.IIN (R345)
  { base := 0x40060008, dims := [], fields := [
      ⟨31, 0, .ro, 0, true, true, []⟩] } ]

/-- The CLK registers. -/
def regsClk : List RegSpec :=
  [
  -- CLK.STATUS (R362)
  { base := 0x40070000, dims := [], fields := [
      ⟨0, 0, .ro, 0, true, true, []⟩,
      ⟨1, 1, .ro, 0, true, true, []⟩,
      ⟨2, 2, .ro, 0, false, true, []⟩,
      ⟨3, 3, .ro, 0, false, true, []⟩,
      ⟨4, 4, .ro, 0, false, true, []⟩,
      ⟨7, 6, .ro, 0, true, true, []⟩] },
  -- CLK.FAIL (R362)
  { base := 0x40070004, dims := [], fields := [
      ⟨0, 0, .w1c, 0, true, true, []⟩,
      ⟨1, 1, .w1c, 0, true, true, []⟩,
      ⟨2, 2, .w1c, 0, true, true, []⟩,
      ⟨3, 3, .w1c, 0, true, true, []⟩,
      ⟨4, 4, .w1c, 0, true, true, []⟩,
      ⟨5, 5, .w1c, 0, true, true, []⟩,
      ⟨6, 6, .w1c, 0, true, true, []⟩] } ]

/-- The ECHO registers. -/
def regsEcho : List RegSpec :=
  [
  -- ECHO.STATUS (R166)
  { base := 0x40090000, dims := [(0x20, 4)], fields := [
      ⟨0, 0, .ro, 0, false, true, []⟩,
      ⟨1, 1, .ro, 0, false, true, []⟩,
      ⟨8, 2, .ro, 0, false, true, []⟩,
      ⟨25, 16, .ro, 0, false, true, []⟩] },
  -- ECHO.ERR (R166)
  { base := 0x40090004, dims := [(0x20, 4)], fields := [
      ⟨0, 0, .w1c, 0, false, true, []⟩,
      ⟨1, 1, .w1c, 0, false, true, []⟩,
      ⟨2, 2, .w1c, 0, false, true, []⟩,
      ⟨3, 3, .w1c, 0, false, true, []⟩] },
  -- ECHO.COUNT (R166)
  { base := 0x40090008, dims := [(0x20, 4)], fields := [
      ⟨15, 0, .ro, 0, false, true, []⟩,
      ⟨31, 16, .ro, 0, false, true, []⟩] },
  -- ECHO.DROP (R166)
  { base := 0x4009000c, dims := [(0x20, 4)], fields := [
      ⟨15, 0, .ro, 0, false, true, []⟩] },
  -- ECHO.LOGIDX (R166)
  { base := 0x40090010, dims := [(0x20, 4)], fields := [
      ⟨5, 0, .ro, 0, false, true, []⟩] },
  -- ECHO.CLR (R166)
  { base := 0x40090080, dims := [], fields := [
      ⟨3, 0, .wo, 0, false, true, []⟩] },
  -- ECHO.PATHS (R166)
  { base := 0x40090100, dims := [(4, 32)], fields := [
      ⟨15, 0, .ro, 0, false, true, []⟩] } ]

/-- The ACQ registers. -/
def regsAcq : List RegSpec :=
  [
  -- ACQ.STATUS (R142)
  { base := 0x40180000, dims := [], fields := [
      ⟨0, 0, .w1c, 0, false, true, []⟩,
      ⟨1, 1, .w1c, 0, false, true, []⟩,
      ⟨2, 2, .w1c, 0, false, true, []⟩,
      ⟨3, 3, .w1c, 0, false, true, []⟩,
      ⟨4, 4, .w1c, 0, false, true, []⟩,
      ⟨5, 5, .w1c, 0, false, true, []⟩,
      ⟨6, 6, .w1c, 0, false, true, []⟩,
      ⟨16, 16, .ro, 0, false, true, []⟩,
      ⟨22, 17, .ro, 0, false, true, []⟩] },
  -- ACQ.COUNT (R142)
  { base := 0x40180004, dims := [], fields := [
      ⟨15, 0, .ro, 0, false, true, []⟩,
      ⟨31, 16, .ro, 0, false, true, []⟩] },
  -- ACQ.CLR (R142)
  { base := 0x40180008, dims := [], fields := [
      ⟨0, 0, .wo, 0, false, true, []⟩] },
  -- ACQ.LANE_STAT (R142)
  { base := 0x40180040, dims := [(4, 16)], fields := [
      ⟨5, 0, .ro, 0, false, true, []⟩,
      ⟨6, 6, .ro, 0, false, true, []⟩,
      ⟨7, 7, .ro, 0, false, true, []⟩,
      ⟨8, 8, .ro, 0, false, true, []⟩,
      ⟨9, 9, .ro, 0, false, true, []⟩,
      ⟨10, 10, .ro, 0, false, true, []⟩,
      ⟨11, 11, .ro, 0, false, true, []⟩,
      ⟨22, 16, .ro, 0, false, true, []⟩,
      ⟨26, 24, .ro, 0, false, true, []⟩] },
  -- ACQ.AVG (R142)
  { base := 0x40180080, dims := [(4, 32)], fields := [
      ⟨4, 0, .ro, 0, false, true, []⟩] },
  -- ACQ.GAIN (R142)
  { base := 0x40181000, dims := [(4, 1024)], fields := [
      ⟨6, 0, .ro, 0, false, true, []⟩] } ]

/-- The SDC registers. -/
def regsSdc : List RegSpec :=
  [
  -- SDC.CFG (R187)
  { base := 0x400a0000, dims := [(4, 48)], fields := [
      ⟨2, 0, .sl, 0, false, true, []⟩,
      ⟨5, 4, .sl, 0, false, true, []⟩,
      ⟨6, 6, .sl, 0, false, true, []⟩,
      ⟨12, 8, .sl, 0, false, true, [(0, 23)]⟩] },
  -- SDC.EXC (R187)
  { base := 0x400a0100, dims := [(4, 24)], fields := [
      ⟨2, 0, .sl, 0, false, true, [(0, 6)]⟩] },
  -- SDC.STATUS (R187)
  { base := 0x400a0200, dims := [(4, 48)], fields := [
      ⟨0, 0, .ro, 0, false, true, []⟩,
      ⟨1, 1, .ro, 0, false, true, []⟩,
      ⟨2, 2, .w1c, 0, false, true, []⟩,
      ⟨3, 3, .w1c, 0, false, true, []⟩,
      ⟨4, 4, .w1c, 0, false, true, []⟩,
      ⟨5, 5, .ro, 0, false, true, []⟩] } ]

/-- The PIN registers. -/
def regsPin : List RegSpec :=
  [
  -- PIN.CFG (R187)
  { base := 0x400b0000, dims := [(4, 32)], fields := [
      ⟨1, 0, .sl, 0, false, true, []⟩,
      ⟨2, 2, .sl, 0, false, true, []⟩,
      ⟨3, 3, .sl, 0, false, true, []⟩,
      ⟨19, 4, .sl, 0, false, true, []⟩,
      ⟨27, 20, .sl, 0, false, true, []⟩] },
  -- PIN.STATUS (R187)
  { base := 0x400b0080, dims := [(4, 32)], fields := [
      ⟨0, 0, .ro, 0, false, true, []⟩,
      ⟨1, 1, .w1c, 0, false, true, []⟩,
      ⟨2, 2, .ro, 0, false, true, []⟩,
      ⟨3, 3, .w1c, 0, false, true, []⟩,
      ⟨4, 4, .w1c, 0, false, true, []⟩,
      ⟨5, 5, .ro, 0, false, true, []⟩] },
  -- PIN.RUN (R182)
  { base := 0x400b0100, dims := [(8, 32), (4, 2)], fields := [
      ⟨31, 0, .rs, 0, false, true, []⟩] } ]

/-- The CHAIN registers. -/
def regsChain : List RegSpec :=
  [
  -- CHAIN.SWAP_REQ (R214)
  { base := 0x400c0000, dims := [], fields := [
      ⟨7, 0, .wo, 0, false, true, []⟩,
      ⟨15, 8, .wo, 0, false, true, []⟩] },
  -- CHAIN.SWAP_STATUS (R214)
  { base := 0x400c0004, dims := [], fields := [
      ⟨15, 0, .ro, 0, false, true, []⟩,
      ⟨16, 16, .w1c, 0, false, true, []⟩,
      ⟨17, 17, .w1c, 0, false, true, []⟩,
      ⟨18, 18, .ro, 0, false, true, []⟩] },
  -- CHAIN.SHADOW_ADDR (R214)
  { base := 0x400c0008, dims := [], fields := [
      ⟨8, 0, .wo, 0, false, true, []⟩,
      ⟨20, 16, .wo, 0, false, true, []⟩] },
  -- CHAIN.SHADOW_DATA (R214)
  { base := 0x400c000c, dims := [], fields := [
      ⟨23, 0, .wo, 0, false, true, []⟩] },
  -- CHAIN.BANK (R214)
  { base := 0x400c0100, dims := [(4, 32)], fields := [
      ⟨0, 0, .ro, 0, false, true, []⟩,
      ⟨1, 1, .ro, 0, false, true, []⟩,
      ⟨3, 2, .ro, 0, false, true, []⟩,
      ⟨5, 4, .ro, 1, false, true, []⟩,
      ⟨8, 8, .w1c, 0, false, true, []⟩,
      ⟨24, 16, .ro, 0, false, true, []⟩,
      ⟨25, 25, .ro, 0, false, true, []⟩] },
  -- CHAIN.STATUS (R214)
  { base := 0x400c0200, dims := [(4, 96)], fields := [
      ⟨0, 0, .ro, 0, false, true, []⟩,
      ⟨1, 1, .w1c, 0, false, true, []⟩,
      ⟨2, 2, .w1c, 0, false, true, []⟩,
      ⟨3, 3, .w1c, 0, false, true, []⟩,
      ⟨4, 4, .w1c, 0, false, true, []⟩,
      ⟨5, 5, .ro, 0, false, true, []⟩,
      ⟨6, 6, .ro, 0, false, true, []⟩,
      ⟨7, 7, .ro, 0, false, true, []⟩,
      ⟨8, 8, .w1c, 0, false, true, []⟩,
      ⟨10, 9, .ro, 0, false, true, []⟩,
      ⟨31, 16, .ro, 0, false, true, []⟩] } ]

/-- The TALLY registers. -/
def regsTally : List RegSpec :=
  [
  -- TALLY.STATUS (R252)
  { base := 0x400d0000, dims := [(0x2000, 8)], fields := [
      ⟨0, 0, .ro, 0, false, true, []⟩,
      ⟨1, 1, .ro, 0, false, true, []⟩,
      ⟨2, 2, .w1c, 0, false, true, []⟩,
      ⟨3, 3, .ro, 0, false, true, []⟩,
      ⟨15, 8, .ro, 0, false, true, []⟩] },
  -- TALLY.TRAP (R252)
  { base := 0x400d0004, dims := [(0x2000, 8)], fields := [
      ⟨3, 0, .ro, 0, false, true, []⟩,
      ⟨15, 8, .ro, 0, false, true, []⟩,
      ⟨30, 16, .ro, 0, false, true, []⟩] },
  -- TALLY.COUNT (R252)
  { base := 0x400d0008, dims := [(0x2000, 8)], fields := [
      ⟨15, 0, .ro, 0, false, true, []⟩,
      ⟨31, 16, .ro, 0, false, true, []⟩] },
  -- TALLY.TOT (R252)
  { base := 0x400d0400, dims := [(0x2000, 8), (0x10, 64), (4, 4)], fields := [
      ⟨31, 0, .rs, 0, false, true, []⟩] },
  -- TALLY.CMP0 (R252)
  { base := 0x400d0800, dims := [(0x2000, 8), (0x10, 64), (4, 4)], fields := [
      ⟨31, 0, .rs, 0, false, true, []⟩] },
  -- TALLY.CMP1 (R252)
  { base := 0x400d0c00, dims := [(0x2000, 8), (0x10, 64), (4, 4)], fields := [
      ⟨31, 0, .rs, 0, false, true, []⟩] } ]

/-- The PROP registers. -/
def regsProp : List RegSpec :=
  [
  -- PROP.STATUS (R294)
  { base := 0x400e0000, dims := [(0x10, 8)], fields := [
      ⟨0, 0, .w1c, 0, false, true, []⟩,
      ⟨1, 1, .w1c, 0, false, true, []⟩,
      ⟨2, 2, .w1c, 0, false, true, []⟩,
      ⟨3, 3, .w1c, 0, false, true, []⟩,
      ⟨9, 4, .ro, 0, false, true, []⟩] },
  -- PROP.COUNT (R294)
  { base := 0x400e0004, dims := [(0x10, 8)], fields := [
      ⟨15, 0, .ro, 0, false, true, []⟩,
      ⟨31, 16, .ro, 0, false, true, []⟩] } ]

/-- The CAL registers. -/
def regsCal : List RegSpec :=
  [
  -- CAL.STATUS (R376)
  { base := 0x400f0000, dims := [], fields := [
      ⟨0, 0, .ro, 0, false, true, []⟩,
      ⟨3, 1, .ro, 0, false, true, []⟩,
      ⟨15, 8, .ro, 0, false, true, []⟩,
      ⟨16, 16, .w1c, 0, false, true, []⟩,
      ⟨17, 17, .w1c, 0, false, true, []⟩,
      ⟨18, 18, .w1c, 0, false, true, []⟩,
      ⟨19, 19, .ro, 0, false, true, []⟩] },
  -- CAL.COUNT (R376)
  { base := 0x400f0004, dims := [], fields := [
      ⟨15, 0, .ro, 0, false, true, []⟩,
      ⟨31, 16, .ro, 0, false, true, []⟩] },
  -- CAL.REFQ (R376)
  { base := 0x400f0008, dims := [], fields := [
      ⟨15, 0, .ro, 0, false, true, []⟩,
      ⟨31, 16, .ro, 0, false, true, []⟩] },
  -- CAL.SDQ (R376)
  { base := 0x400f0100, dims := [(4, 48)], fields := [
      ⟨15, 0, .ro, 0, false, true, []⟩,
      ⟨31, 16, .ro, 0, false, true, []⟩] },
  -- CAL.LANEQ (R376)
  { base := 0x400f0200, dims := [(4, 16)], fields := [
      ⟨15, 0, .ro, 0, false, true, []⟩,
      ⟨31, 16, .ro, 0, false, true, []⟩] },
  -- CAL.EXCQ (R376)
  { base := 0x400f0280, dims := [(4, 24)], fields := [
      ⟨15, 0, .ro, 0, false, true, []⟩,
      ⟨31, 16, .ro, 0, false, true, []⟩] },
  -- CAL.SKEW (R376)
  { base := 0x400f0300, dims := [(4, 16)], fields := [
      ⟨31, 0, .ro, 0, false, true, []⟩] } ]

/-- The IC registers of instance c. -/
def regsIcOf (c : Nat) : List RegSpec :=
  [
  -- IC.SRC_CFG (R447)
  { base := (icBase c), dims := [(4, 256)], fields := [
      ⟨0, 0, .rw, 0, decide (c = 1), !decide (c = 1), []⟩,
      ⟨2, 2, .rw, 0, decide (c = 1), !decide (c = 1), []⟩,
      ⟨3, 3, .ro, 0, true, true, []⟩,
      ⟨4, 4, .rw, 0, decide (c = 1), !decide (c = 1), []⟩,
      ⟨5, 5, .ro, 0, decide (c = 1), !decide (c = 1), []⟩] ++
      (if c = 1 then [⟨1, 1, .rw, 0, decide (c = 1), !decide (c = 1), []⟩] else []) },
  -- IC.PEND (R447)
  { base := (icBase c) + 0x400, dims := [(4, 8)], fields := [
      ⟨31, 0, .w1c, 0, decide (c = 1), !decide (c = 1), []⟩] },
  -- IC.ACTIVE (R447)
  { base := (icBase c) + 0x440, dims := [(4, 8)], fields := [
      ⟨31, 0, .ro, 0, decide (c = 1), !decide (c = 1), []⟩] },
  -- IC.STORM (R447)
  { base := (icBase c) + 0x480, dims := [(4, 8)], fields := [
      ⟨31, 0, .w1c, 0, decide (c = 1), !decide (c = 1), []⟩] },
  -- IC.CTRL (R447)
  { base := (icBase c) + 0x500, dims := [], fields := [
      ⟨0, 0, .rw, 0, decide (c = 1), !decide (c = 1), []⟩] },
  -- IC.STORMCFG (R447)
  { base := (icBase c) + 0x504, dims := [], fields := [
      ⟨7, 0, .rw, 0, decide (c = 1), !decide (c = 1), []⟩,
      ⟨31, 16, .rw, 0, decide (c = 1), !decide (c = 1), [(1, 65535)]⟩] },
  -- IC.CLAIM (R447)
  { base := (icBase c) + 0x600, dims := [(0x40, if c = 0 then 1 else 2)], fields := [
      ⟨7, 0, .ro, 0, decide (c = 1), !decide (c = 1), []⟩,
      ⟨8, 8, .ro, 0, decide (c = 1), !decide (c = 1), []⟩,
      ⟨31, 31, .ro, 0, decide (c = 1), !decide (c = 1), []⟩] },
  -- IC.COMPLETE (R447)
  { base := (icBase c) + 0x604, dims := [(0x40, if c = 0 then 1 else 2)], fields := [
      ⟨7, 0, .wo, 0, decide (c = 1), !decide (c = 1), []⟩] } ] ++
  [
  -- IC.MOD (R447)
  { base := (icBase c) + 0x608, dims := [(0x40, if c = 0 then 1 else 2)], fields := [
      ⟨7, 0, .rw, 0, decide (c = 1), !decide (c = 1), []⟩,
      ⟨31, 16, .rw, 0, decide (c = 1), !decide (c = 1), [(1, 65535)]⟩] },
  -- IC.TSTAT (R447)
  { base := (icBase c) + 0x60c, dims := [(0x40, if c = 0 then 1 else 2)], fields := [
      ⟨8, 0, .ro, 0, decide (c = 1), !decide (c = 1), []⟩,
      ⟨16, 16, .ro, 0, decide (c = 1), !decide (c = 1), []⟩,
      ⟨17, 17, .w1c, 0, decide (c = 1), !decide (c = 1), []⟩] } ]

/-- The TMR registers of instance g. -/
def regsTmrOf (g : Nat) : List RegSpec :=
  [
  -- TMR.CTRL (R458)
  { base := (tmrBase g), dims := [(0x40, 4)], fields := [
      ⟨1, 0, .rw, 0, true, false, [(0, 2)]⟩,
      ⟨2, 2, .rw, 0, true, false, []⟩,
      ⟨4, 3, .rw, 3, true, false, []⟩,
      ⟨7, 5, .rw, 0, true, false, []⟩,
      ⟨9, 8, .rw, 0, true, false, []⟩,
      ⟨10, 10, .rw, 0, true, false, []⟩,
      ⟨12, 12, .rw, 0, true, false, []⟩,
      ⟨13, 13, .rw, 0, true, false, []⟩] },
  -- TMR.CTRL (R458)
  { base := (tmrBase g) + 0x20, dims := [(0x40, 4)], fields := [
      ⟨1, 0, .rw, 0, true, false, [(0, 2)]⟩,
      ⟨2, 2, .rw, 0, true, false, []⟩,
      ⟨4, 3, .rw, 3, true, false, []⟩,
      ⟨7, 5, .rw, 0, true, false, []⟩,
      ⟨9, 8, .rw, 0, true, false, []⟩,
      ⟨10, 10, .rw, 0, true, false, []⟩,
      ⟨11, 11, .rw, 0, true, false, []⟩,
      ⟨12, 12, .rw, 0, true, false, []⟩,
      ⟨13, 13, .rw, 0, true, false, []⟩] },
  -- TMR.COUNT (R458)
  { base := (tmrBase g) + 0x4, dims := [(0x20, 8)], fields := [
      ⟨31, 0, .rw, 0, true, false, []⟩] },
  -- TMR.TOP (R458)
  { base := (tmrBase g) + 0x8, dims := [(0x20, 8)], fields := [
      ⟨31, 0, .rw, 4294967295, true, false, []⟩] },
  -- TMR.CMP (R458)
  { base := (tmrBase g) + 0xc, dims := [(0x20, 8)], fields := [
      ⟨31, 0, .rw, 0, true, false, []⟩] },
  -- TMR.STATUS (R458)
  { base := (tmrBase g) + 0x10, dims := [(0x20, 8)], fields := [
      ⟨0, 0, .w1c, 0, true, false, []⟩,
      ⟨1, 1, .w1c, 0, true, false, []⟩,
      ⟨2, 2, .ro, 0, true, false, []⟩,
      ⟨3, 3, .ro, 0, true, false, []⟩] },
  -- TMR.PRESCALE (R458)
  { base := (tmrBase g) + 0x100, dims := [], fields := [
      ⟨7, 0, .rw, 0, true, false, []⟩] },
  -- TMR.START (R458)
  { base := (tmrBase g) + 0x104, dims := [], fields := [
      ⟨7, 0, .wo, 0, true, false, []⟩] } ] ++
  [
  -- TMR.STOP (R458)
  { base := (tmrBase g) + 0x108, dims := [], fields := [
      ⟨7, 0, .wo, 0, true, false, []⟩] } ]

/-- The TMR registers. -/
def regsTmr : List RegSpec :=
  [
  -- TMR.WDT_CTRL (R458)
  { base := 0x14000e200, dims := [], fields := [
      ⟨0, 0, .w1s, 0, true, false, []⟩] },
  -- TMR.WDT_CFG (R458)
  { base := 0x14000e204, dims := [], fields := [
      ⟨15, 0, .rw, 1000, true, false, [(1, 65535)]⟩,
      ⟨31, 16, .rw, 0, true, false, []⟩] },
  -- TMR.WDT_KICK (R458)
  { base := 0x14000e208, dims := [], fields := [
      ⟨15, 0, .wo, 0, true, false, []⟩] },
  -- TMR.WDT_STAT (R458)
  { base := 0x14000e20c, dims := [], fields := [
      ⟨15, 0, .ro, 0, true, false, []⟩,
      ⟨16, 16, .w1c, 0, true, false, []⟩] } ]

/-- The TW registers of instance n. -/
def regsTwOf (n : Nat) : List RegSpec :=
  [
  -- TW.CFG (R473)
  { base := (twBase n) + 0x0, dims := [], fields := [
      ⟨1, 0, .rw, 0, decide (n ≥ 4), !decide (n ≥ 4), [(0, 2)]⟩,
      ⟨5, 2, .rw, 0, decide (n ≥ 4), !decide (n ≥ 4), []⟩,
      ⟨6, 6, .rw, 0, decide (n ≥ 4), !decide (n ≥ 4), []⟩,
      ⟨12, 8, .rw, 25, decide (n ≥ 4), !decide (n ≥ 4), [(25, 35)]⟩,
      ⟨20, 16, .rw, 0, decide (n ≥ 4), !decide (n ≥ 4), []⟩,
      ⟨28, 24, .rw, 0, decide (n ≥ 4), !decide (n ≥ 4), []⟩] },
  -- TW.TIMING (R473)
  { base := (twBase n) + 0x4, dims := [], fields := [
      ⟨9, 0, .rw, 100, decide (n ≥ 4), !decide (n ≥ 4), []⟩,
      ⟨25, 16, .rw, 100, decide (n ≥ 4), !decide (n ≥ 4), []⟩] },
  -- TW.CMD (R473)
  { base := (twBase n) + 0x8, dims := [], fields := [
      ⟨6, 0, .rw, 0, decide (n ≥ 4), !decide (n ≥ 4), []⟩,
      ⟨13, 8, .rw, 0, decide (n ≥ 4), !decide (n ≥ 4), [(0, 32)]⟩,
      ⟨23, 16, .rw, 0, decide (n ≥ 4), !decide (n ≥ 4), []⟩,
      ⟨24, 24, .rw, 0, decide (n ≥ 4), !decide (n ≥ 4), []⟩,
      ⟨25, 25, .rw, 0, decide (n ≥ 4), !decide (n ≥ 4), []⟩,
      ⟨31, 31, .wo, 0, decide (n ≥ 4), !decide (n ≥ 4), []⟩] },
  -- TW.TXDATA (R473)
  { base := (twBase n) + 0xc, dims := [], fields := [
      ⟨7, 0, .wo, 0, decide (n ≥ 4), !decide (n ≥ 4), []⟩,
      ⟨21, 16, .ro, 0, decide (n ≥ 4), !decide (n ≥ 4), []⟩] },
  -- TW.RXDATA (R473)
  { base := (twBase n) + 0x10, dims := [], fields := [
      ⟨7, 0, .ro, 0, decide (n ≥ 4), !decide (n ≥ 4), []⟩,
      ⟨8, 8, .ro, 0, decide (n ≥ 4), !decide (n ≥ 4), []⟩,
      ⟨21, 16, .ro, 0, decide (n ≥ 4), !decide (n ≥ 4), []⟩] },
  -- TW.STATUS (R473)
  { base := (twBase n) + 0x14, dims := [], fields := [
      ⟨0, 0, .ro, 0, decide (n ≥ 4), !decide (n ≥ 4), []⟩,
      ⟨1, 1, .w1c, 0, decide (n ≥ 4), !decide (n ≥ 4), []⟩,
      ⟨2, 2, .w1c, 0, decide (n ≥ 4), !decide (n ≥ 4), []⟩,
      ⟨3, 3, .w1c, 0, decide (n ≥ 4), !decide (n ≥ 4), []⟩,
      ⟨4, 4, .w1c, 0, decide (n ≥ 4), !decide (n ≥ 4), []⟩,
      ⟨5, 5, .w1c, 0, decide (n ≥ 4), !decide (n ≥ 4), []⟩,
      ⟨6, 6, .w1c, 0, decide (n ≥ 4), !decide (n ≥ 4), []⟩,
      ⟨7, 7, .w1c, 0, decide (n ≥ 4), !decide (n ≥ 4), []⟩,
      ⟨8, 8, .w1c, 0, decide (n ≥ 4), !decide (n ≥ 4), []⟩,
      ⟨9, 9, .w1c, 0, decide (n ≥ 4), !decide (n ≥ 4), []⟩,
      ⟨10, 10, .w1c, 0, decide (n ≥ 4), !decide (n ≥ 4), []⟩,
      ⟨11, 11, .w1c, 0, decide (n ≥ 4), !decide (n ≥ 4), []⟩,
      ⟨14, 12, .ro, 0, decide (n ≥ 4), !decide (n ≥ 4), []⟩] },
  -- TW.POS (R473)
  { base := (twBase n) + 0x18, dims := [], fields := [
      ⟨8, 0, .ro, 0, decide (n ≥ 4), !decide (n ≥ 4), []⟩,
      ⟨15, 12, .ro, 0, decide (n ≥ 4), !decide (n ≥ 4), []⟩,
      ⟨17, 16, .ro, 0, decide (n ≥ 4), !decide (n ≥ 4), []⟩,
      ⟨24, 20, .ro, 0, decide (n ≥ 4), !decide (n ≥ 4), []⟩] },
  -- TW.ALERTADDR (R473)
  { base := (twBase n) + 0x1c, dims := [], fields := [
      ⟨6, 0, .ro, 0, decide (n ≥ 4), !decide (n ≥ 4), []⟩,
      ⟨8, 8, .w1c, 0, decide (n ≥ 4), !decide (n ≥ 4), []⟩,
      ⟨9, 9, .ro, 0, decide (n ≥ 4), !decide (n ≥ 4), []⟩] } ] ++
  [
  -- TW.IE (R473)
  { base := (twBase n) + 0x20, dims := [], fields := [
      ⟨11, 1, .rw, 0, decide (n ≥ 4), !decide (n ≥ 4), []⟩] },
  -- TW.CTRL (R473)
  { base := (twBase n) + 0x24, dims := [], fields := [
      ⟨0, 0, .wo, 0, decide (n ≥ 4), !decide (n ≥ 4), []⟩,
      ⟨1, 1, .wo, 0, decide (n ≥ 4), !decide (n ≥ 4), []⟩] } ]

/-- The CSP registers of instance n. -/
def regsCspOf (n : Nat) : List RegSpec :=
  [
  -- CSP.CFG (R489)
  { base := (cspBase n), dims := [], fields := [
      ⟨7, 0, .rw, 3, decide (n ≥ 2), !decide (n ≥ 2), []⟩,
      ⟨19, 16, .rw, 1, decide (n ≥ 2), !decide (n ≥ 2), [(1, 15)]⟩,
      ⟨23, 20, .rw, 1, decide (n ≥ 2), !decide (n ≥ 2), [(1, 15)]⟩,
      ⟨27, 24, .rw, 1, decide (n ≥ 2), !decide (n ≥ 2), [(1, 15)]⟩] ++
      (if n ≠ 5 then [⟨8, 8, .rw, 0, decide (n ≥ 2), !decide (n ≥ 2), []⟩] else []) ++
      (if n = 2 ∨ n = 3 then [⟨9, 9, .rw, 0, decide (n ≥ 2), !decide (n ≥ 2), []⟩] else []) ++
      (if n = 2 ∨ n = 3 then [⟨10, 10, .rw, 0, decide (n ≥ 2), !decide (n ≥ 2), []⟩] else []) ++
      (if n = 5 then [⟨11, 11, .rw, 0, decide (n ≥ 2), !decide (n ≥ 2), []⟩] else []) ++
      (if n = 5 then [⟨12, 12, .rw, 0, decide (n ≥ 2), !decide (n ≥ 2), []⟩] else []) },
  -- CSP.FRAME (R489)
  { base := (cspBase n) + 4, dims := [], fields := [
      ⟨5, 0, .rw, 0, decide (n ≥ 2), !decide (n ≥ 2), [(0, 32)]⟩,
      ⟨7, 6, .rw, 0, decide (n ≥ 2), !decide (n ≥ 2), []⟩,
      ⟨13, 8, .rw, 0, decide (n ≥ 2), !decide (n ≥ 2), [(0, 32)]⟩,
      ⟨15, 14, .rw, 0, decide (n ≥ 2), !decide (n ≥ 2), []⟩,
      ⟨20, 16, .rw, 0, decide (n ≥ 2), !decide (n ≥ 2), []⟩,
      ⟨23, 22, .rw, 0, decide (n ≥ 2), !decide (n ≥ 2), []⟩,
      ⟨24, 24, .rw, 0, decide (n ≥ 2), !decide (n ≥ 2), []⟩,
      ⟨25, 25, .rw, 0, decide (n ≥ 2), !decide (n ≥ 2), []⟩,
      ⟨27, 26, .rw, 0, decide (n ≥ 2), !decide (n ≥ 2), (if n = 5 then [(0, 1)] else [])⟩] },
  -- CSP.CMD (R489)
  { base := (cspBase n) + 8, dims := [], fields := [
      ⟨31, 0, .rw, 0, decide (n ≥ 2), !decide (n ≥ 2), []⟩] },
  -- CSP.ADDR (R489)
  { base := (cspBase n) + 0xc, dims := [], fields := [
      ⟨31, 0, .rw, 0, decide (n ≥ 2), !decide (n ≥ 2), []⟩] },
  -- CSP.LEN (R489)
  { base := (cspBase n) + 0x10, dims := [], fields := [
      ⟨16, 0, .rw, 0, decide (n ≥ 2), !decide (n ≥ 2), [(0, 65536)]⟩] },
  -- CSP.CTRL (R489)
  { base := (cspBase n) + 0x14, dims := [], fields := [
      ⟨0, 0, .wo, 0, decide (n ≥ 2), !decide (n ≥ 2), []⟩,
      ⟨1, 1, .wo, 0, decide (n ≥ 2), !decide (n ≥ 2), []⟩] ++
      (if n = 5 then [⟨2, 2, .wo, 0, decide (n ≥ 2), !decide (n ≥ 2), []⟩] else []) },
  -- CSP.TXDATA (R489)
  { base := (cspBase n) + 0x18, dims := [], fields := [
      ⟨31, 0, .wo, 0, decide (n ≥ 2), !decide (n ≥ 2), []⟩] },
  -- CSP.RXDATA (R489)
  { base := (cspBase n) + 0x1c, dims := [], fields := [
      ⟨31, 0, .ro, 0, decide (n ≥ 2), !decide (n ≥ 2), []⟩] } ] ++
  [
  -- CSP.STATUS (R489)
  { base := (cspBase n) + 0x20, dims := [], fields := [
      ⟨0, 0, .ro, 0, decide (n ≥ 2), !decide (n ≥ 2), []⟩,
      ⟨1, 1, .w1c, 0, decide (n ≥ 2), !decide (n ≥ 2), []⟩,
      ⟨2, 2, .w1c, 0, decide (n ≥ 2), !decide (n ≥ 2), []⟩,
      ⟨3, 3, .w1c, 0, decide (n ≥ 2), !decide (n ≥ 2), []⟩,
      ⟨4, 4, .w1c, 0, decide (n ≥ 2), !decide (n ≥ 2), []⟩,
      ⟨5, 5, .w1c, 0, decide (n ≥ 2), !decide (n ≥ 2), []⟩,
      ⟨6, 6, .w1c, 0, decide (n ≥ 2), !decide (n ≥ 2), []⟩,
      ⟨7, 7, .w1c, 0, decide (n ≥ 2), !decide (n ≥ 2), []⟩,
      ⟨8, 8, .w1c, 0, decide (n ≥ 2), !decide (n ≥ 2), []⟩,
      ⟨9, 9, .w1c, 0, decide (n ≥ 2), !decide (n ≥ 2), []⟩,
      ⟨14, 12, .ro, 0, decide (n ≥ 2), !decide (n ≥ 2), []⟩,
      ⟨22, 16, .ro, 0, decide (n ≥ 2), !decide (n ≥ 2), []⟩,
      ⟨30, 24, .ro, 0, decide (n ≥ 2), !decide (n ≥ 2), []⟩] },
  -- CSP.IE (R489)
  { base := (cspBase n) + 0x24, dims := [], fields := [
      ⟨9, 1, .rw, 0, decide (n ≥ 2), !decide (n ≥ 2), []⟩] },
  -- CSP.DMA_ADDR (R489)
  { base := (cspBase n) + 0x28, dims := [(0, if n < 2 then 0 else 1)], fields := [
      ⟨31, 0, .rw, 0, true, false, []⟩] },
  -- CSP.DMA_CTRL (R489)
  { base := (cspBase n) + 0x2c, dims := [(0, if n < 2 then 0 else 1)], fields := [
      ⟨0, 0, .rw, 0, true, false, []⟩] } ]

/-- The CSP registers. -/
def regsCsp : List RegSpec :=
  [
  -- CSP.XIP_CFG (R489)
  { base := 0x14000d040, dims := [], fields := [
      ⟨0, 0, .rw, 0, true, false, []⟩,
      ⟨1, 1, .rw, 0, true, false, []⟩,
      ⟨5, 2, .rw, 0, true, false, [(0, 12)]⟩,
      ⟨31, 16, .rw, 200, true, false, []⟩] },
  -- CSP.XIP_FRAME (R489)
  { base := 0x14000d044, dims := [], fields := [
      ⟨5, 0, .rw, 0, true, false, [(0, 32)]⟩,
      ⟨7, 6, .rw, 0, true, false, []⟩,
      ⟨13, 8, .rw, 0, true, false, [(0, 32)]⟩,
      ⟨15, 14, .rw, 0, true, false, []⟩,
      ⟨20, 16, .rw, 0, true, false, []⟩,
      ⟨23, 22, .rw, 0, true, false, []⟩,
      ⟨24, 24, .rw, 0, true, false, []⟩,
      ⟨25, 25, .rw, 0, true, false, []⟩,
      ⟨27, 26, .rw, 0, true, false, [(0, 1)]⟩] },
  -- CSP.XIP_CMD (R489)
  { base := 0x14000d048, dims := [], fields := [
      ⟨31, 0, .rw, 0, true, false, []⟩] },
  -- CSP.SFDP (R489)
  { base := 0x14000d100, dims := [(4, 64)], fields := [
      ⟨31, 0, .ro, 0, true, false, []⟩] } ]

/-- The CSP4 registers. -/
def regsCsp4 : List RegSpec :=
  [
  -- CSP4.CFG (R489)
  { base := 0x14000c000, dims := [], fields := [
      ⟨0, 0, .rw, 0, true, false, []⟩,
      ⟨1, 1, .rw, 0, true, false, []⟩,
      ⟨3, 2, .rw, 0, true, false, []⟩] },
  -- CSP4.STATUS (R489)
  { base := 0x14000c004, dims := [], fields := [
      ⟨0, 0, .ro, 0, true, false, []⟩,
      ⟨1, 1, .w1c, 0, true, false, []⟩,
      ⟨26, 16, .ro, 0, true, false, []⟩] },
  -- CSP4.REJ (R489)
  { base := 0x14000c008, dims := [], fields := [
      ⟨15, 0, .ro, 0, true, false, []⟩,
      ⟨17, 16, .ro, 0, true, false, []⟩] } ]

/-- The ETH registers of instance n. -/
def regsEthOf (n : Nat) : List RegSpec :=
  [
  -- ETH.CFG (R496)
  { base := (ethBase n) + 0x0, dims := [], fields := [
      ⟨0, 0, .rw, 0, true, false, []⟩,
      ⟨1, 1, .rw, 0, true, false, []⟩,
      ⟨2, 2, .rw, 0, true, false, []⟩,
      ⟨3, 3, .rw, 0, true, false, []⟩,
      ⟨4, 4, .rw, 0, true, false, []⟩] ++
      (if n < 2 then [⟨6, 5, .rw, 0, true, false, [(0, 2)]⟩] else []) ++
      (if n = 2 then [⟨7, 7, .rw, 1, true, false, []⟩] else []) },
  -- ETH.MAC_LO (R496)
  { base := (ethBase n) + 0x4, dims := [], fields := [
      ⟨31, 0, .rw, 0, true, false, []⟩] },
  -- ETH.MAC_HI (R496)
  { base := (ethBase n) + 0x8, dims := [], fields := [
      ⟨15, 0, .rw, 0, true, false, []⟩] },
  -- ETH.TXRING (R496)
  { base := (ethBase n) + 0x10, dims := [], fields := [
      ⟨31, 5, .rw, 0, true, false, []⟩] },
  -- ETH.RXRING (R496)
  { base := (ethBase n) + 0x18, dims := [], fields := [
      ⟨31, 5, .rw, 0, true, false, []⟩] },
  -- ETH.TXCTL (R496)
  { base := (ethBase n) + 0x14, dims := [], fields := [
      ⟨3, 0, .rw, 0, true, false, [(0, 6)]⟩,
      ⟨8, 8, .wo, 0, true, false, []⟩,
      ⟨23, 16, .ro, 0, true, false, []⟩] },
  -- ETH.RXCTL (R496)
  { base := (ethBase n) + 0x1c, dims := [], fields := [
      ⟨3, 0, .rw, 0, true, false, [(0, 6)]⟩,
      ⟨8, 8, .wo, 0, true, false, []⟩,
      ⟨23, 16, .ro, 0, true, false, []⟩] },
  -- ETH.STATUS (R496)
  { base := (ethBase n) + 0x20, dims := [], fields := [
      ⟨0, 0, .w1c, 0, true, false, []⟩,
      ⟨1, 1, .w1c, 0, true, false, []⟩,
      ⟨2, 2, .w1c, 0, true, false, []⟩,
      ⟨3, 3, .w1c, 0, true, false, []⟩] } ] ++
  [
  -- ETH.IE (R496)
  { base := (ethBase n) + 0x24, dims := [], fields := [
      ⟨3, 0, .rw, 0, true, false, []⟩] },
  -- ETH.CNT (R496)
  { base := (ethBase n) + 0x28, dims := [], fields := [
      ⟨15, 0, .ro, 0, true, false, []⟩,
      ⟨23, 16, .ro, 0, true, false, []⟩,
      ⟨31, 24, .ro, 0, true, false, []⟩] },
  -- ETH.PHY_STAT (R496)
  { base := (ethBase n) + 0x40, dims := [], fields := [
      ⟨0, 0, .ro, 0, true, false, []⟩] ++
      (if n < 2 then [⟨1, 1, .ro, 0, true, false, []⟩] else []) ++
      (if n < 2 then [⟨2, 2, .ro, 0, true, false, []⟩] else []) ++
      (if n < 2 then [⟨6, 4, .ro, 0, true, false, []⟩] else []) },
  -- ETH.MDIO (R496)
  { base := (ethBase n) + 0x44, dims := [], fields := [
] ++
      (if n = 2 then [⟨15, 0, .rw, 0, true, false, []⟩] else []) ++
      (if n = 2 then [⟨20, 16, .rw, 0, true, false, []⟩] else []) ++
      (if n = 2 then [⟨25, 21, .rw, 0, true, false, []⟩] else []) ++
      (if n = 2 then [⟨26, 26, .rw, 0, true, false, []⟩] else []) ++
      (if n = 2 then [⟨27, 27, .wo, 0, true, false, []⟩] else []) ++
      (if n = 2 then [⟨28, 28, .ro, 0, true, false, []⟩] else []) },
  -- ETH.PWR (R496)
  { base := (ethBase n) + 0x4c, dims := [], fields := [
] ++
      (if n < 2 then [⟨15, 0, .ro, 0, true, false, []⟩] else []) ++
      (if n < 2 then [⟨31, 16, .ro, 0, true, false, []⟩] else []) },
  -- ETH.LAT (R496)
  { base := (ethBase n) + 0x48, dims := [], fields := [
      ⟨31, 0, .ro, 0, true, true, []⟩] },
  -- ETH.TSQ_STAT (R318)
  { base := (ethBase n) + 0x300, dims := [], fields := [
      ⟨4, 0, .ro, 0, true, false, []⟩,
      ⟨5, 5, .w1c, 0, true, false, []⟩,
      ⟨11, 8, .ro, 0, true, false, []⟩,
      ⟨31, 16, .ro, 0, true, false, []⟩] },
  -- ETH.TSQ_POP (R318)
  { base := (ethBase n) + 0x304, dims := [], fields := [
      ⟨0, 0, .wo, 0, true, false, []⟩] } ] ++
  [
  -- ETH.TSQ (R316)
  { base := (ethBase n) + 0x310, dims := [(4, 4)], fields := [
      ⟨31, 0, .rs, 0, true, false, []⟩] } ]

/-- The HOST registers. -/
def regsHost : List RegSpec :=
  [
  -- HOST.CFG (R511)
  { base := 0x140012000, dims := [], fields := [
      ⟨0, 0, .rw, 0, true, false, []⟩,
      ⟨1, 1, .rw, 0, true, false, []⟩,
      ⟨15, 8, .rw, 100, true, false, [(1, 255)]⟩,
      ⟨31, 16, .rw, 50, true, false, [(1, 65535)]⟩] },
  -- HOST.STATUS (R511)
  { base := 0x140012004, dims := [], fields := [
      ⟨0, 0, .ro, 0, true, false, []⟩,
      ⟨17, 2, .ro, 0, true, false, []⟩] },
  -- HOST.ALERT (R511)
  { base := 0x140012008, dims := [], fields := [
      ⟨6, 0, .rw, 0, true, false, []⟩,
      ⟨11, 8, .rw, 0, true, false, []⟩,
      ⟨12, 12, .rw, 0, true, false, []⟩,
      ⟨27, 24, .ro, 0, true, false, []⟩] },
  -- HOST.ERR (R511)
  { base := 0x14001200c, dims := [], fields := [
      ⟨7, 0, .ro, 0, true, false, []⟩,
      ⟨15, 8, .ro, 0, true, false, []⟩,
      ⟨23, 16, .ro, 0, true, false, []⟩,
      ⟨31, 24, .ro, 0, true, false, []⟩] },
  -- HOST.FW_CTRL (R511)
  { base := 0x140012010, dims := [], fields := [
      ⟨10, 0, .wo, 0, true, false, []⟩,
      ⟨12, 11, .wo, 0, true, false, []⟩,
      ⟨13, 13, .wo, 0, true, false, []⟩,
      ⟨14, 14, .wo, 0, true, false, []⟩,
      ⟨31, 16, .wo, 0, true, false, []⟩] },
  -- HOST.FW_STAT (R511)
  { base := 0x140012014, dims := [], fields := [
      ⟨0, 0, .ro, 0, true, false, []⟩,
      ⟨1, 1, .w1c, 0, true, false, []⟩,
      ⟨2, 2, .ro, 0, true, false, []⟩,
      ⟨4, 3, .ro, 0, true, false, []⟩,
      ⟨5, 5, .wo, 0, true, false, []⟩,
      ⟨25, 16, .ro, 0, true, false, []⟩] },
  -- HOST.FW_IN (R497)
  { base := 0x140012400, dims := [(4, 256)], fields := [
      ⟨31, 0, .rw, 0, true, false, []⟩] },
  -- HOST.FW_OUT (R497)
  { base := 0x140012800, dims := [(4, 256)], fields := [
      ⟨31, 0, .ro, 0, true, false, []⟩] } ]

/-- The SC registers. -/
def regsSc : List RegSpec :=
  [
  -- SC.BANKCTL (R529)
  { base := 0x2000007c0, dims := [(0x1000, 2)], fields := [
      ⟨0, 0, .ro, 0, true, false, []⟩,
      ⟨1, 1, .rw, 0, true, false, []⟩] } ]

/-- Every register of the part. -/
def regTable : List RegSpec :=
  regsFlt ++
  [0, 1].flatMap regsBusOf ++
  regsSeason ++
  regsTwm ++
  regsGw ++
  regsSeal ++
  [0, 1].flatMap regsFlashOf ++
  regsTime ++
  regsSpn ++
  regsGauge ++
  regsClk ++
  regsEcho ++
  regsAcq ++
  regsSdc ++
  regsPin ++
  regsChain ++
  regsTally ++
  regsProp ++
  regsCal ++
  [0, 1].flatMap regsIcOf ++
  [0, 1, 2, 3].flatMap regsTmrOf ++
  regsTmr ++
  [0, 1, 2, 3, 4, 5, 6, 7].flatMap regsTwOf ++
  [0, 1, 2, 3, 5].flatMap regsCspOf ++
  regsCsp ++
  regsCsp4 ++
  [0, 1, 2].flatMap regsEthOf ++
  regsHost ++
  regsSc

end Sys2Proof.Machine
end

