-- ==== Sys2Proof/Machine/Types.lean ====
section
/-! DEFINITION. The types of the state's parts, unit by unit, in the order of the manual's chapters. All plain data. Registers are not here: they
are the words of `State.regs` at the addresses of Fields.lean. -/

namespace Sys2Proof.Machine

/-- Supplies and reset balls (R43, R51, R54): the monitors' verdicts, and the resets being held. -/
structure Pins where
  vddAo : Bool
  vddHw : Bool
  vddaAcq : Bool
  vddaSd : Bool
  vddioH : Bool
  vddSw : Bool
  vddioS : Bool
  testen : Bool
  /-- the always-on, Heartwood and Sapwood domains are held in reset -/
  heldAo : Bool
  heldH : Bool
  heldS : Bool
  deriving DecidableEq, Repr

/-- Start-up (R63 to R66, R556). `cls` is the start that is due or running: 0 none, 1 P, 2 H, 3 F. `cUse` is the capacitance Spindle uses, in
0.01 µF, and `cMeas` the measured one in µF. `digest` is the digest of the running image (R90), all zero with no image; `faults` counts the faults of R65 in this start, and `waitAt` is the instant at which step 6 began (R66). -/
structure Boot where
  cls : Nat
  faults : Nat
  noImage : Bool
  cUse : Nat
  cMeas : Nat
  digest : List Byte
  waitAt : Nat
  deriving DecidableEq, Repr

/-- The seal controller (R101, R102) and the seal control word held in flash (R103, R105). -/
structure Seal where
  lfsr : BitVec 15
  /-- the bit SEAL_A drives -/
  sealA : Bool
  n1 : Nat
  n0 : Nat
  run : Nat
  /-- the filter has reached a verdict since the last start -/
  verdict : Bool
  /-- an opening latched while HSC did not run: the SLEEP byte of its entry and its detection time (R106) -/
  latched : Option (Nat × (Nat × Nat))
  /-- the stored seal state and counter as the valid copy of the word holds them, and whether a copy of the word is valid -/
  stSealed : Bool
  stCount : Nat
  stValid : Bool
  /-- fuses blown, 0 to 4,096 (R105) -/
  fuses : Nat
  /-- SL writes and PARAM changes accepted and the Heartwood time at which the loop opened, since the last opening (R120 SEAL_CLOSE) -/
  slWrites : Nat
  paramChanges : Nat
  openedAt : Nat
  /-- address of the first refused SL write since the last SL_REFUSED entry (R109) -/
  firstRefused : Word
  /-- the device serial of the certificate, fixed at manufacture (R513): no command writes it -/
  serial : BitVec 128
  /-- the Heartwood time at which the loop last closed (R107) -/
  closedAt : Option Nat
  /-- a write of the seal control word was abandoned: HSC's restart applies the restore of R105 (R407) -/
  wordLost : Bool
  deriving DecidableEq, Repr

/-- One audit entry as programmed (R119). `chain` is the first 8 bytes of the digest of the previous entry; `bad` marks an entry whose CRC does not
match (R122, R407). -/
structure AuditEntry where
  seq : Nat
  kind : Nat
  sealst : Nat
  stream : Nat
  sec : Nat
  ns : Nat
  sealctr : Nat
  digest : List Byte
  data : List Byte
  chain : List Byte
  bad : Bool
  deriving DecidableEq, Repr

/-- One queued audit event (R121): its data may need CONT entries (R120). -/
structure AuditEvent where
  kind : Nat
  sealst : Nat
  stream : Nat
  sec : Nat
  ns : Nat
  sealctr : Nat
  digest : List Byte
  data : List Byte
  deriving DecidableEq, Repr

/-- The audit trail: entries held in flash, oldest first, the SEQ of the next entry, the events waiting in HSC SRAM, whether the START entry is
still open (R556), and the audit control record (R554) with its pending copy. -/
structure Audit where
  held : List AuditEntry
  nextSeq : Nat
  queue : List AuditEvent
  startOpen : Bool
  ctlPending : Bool
  ctlOldest : Nat
  ctlLevel : Nat
  ctlUnlogged : Nat
  /-- digest of the last programmed entry, for the CHAIN of the next (kept when a clear removes the entry itself) -/
  lastDigest : List Byte
  deriving DecidableEq, Repr

/-- One outbound ring entry (R115). -/
structure RingEntry where
  seq : Nat
  kind : Nat
  stream : Nat
  src : Nat
  cycle : Nat
  payload : List Byte
  deriving DecidableEq, Repr

/-- The outbound ring (R114 to R117): unread entries, oldest first, the next SEQ, the SEQ of the snapshot entry, whether a task has committed since the ring was emptied, and the entries, without SEQ, that wait for the
first commit (R68). -/
structure Ring where
  entries : List RingEntry
  nextSeq : Nat
  snap : Option Nat
  live : Bool
  wait : List RingEntry
  deriving DecidableEq, Repr

/-- An image load in progress (R97, R113): target slot 1 or 2, LENGTH, bytes received, and the instant of its last part (2^-16 ns). -/
structure ImgLoad where
  slot : Nat
  length : Nat
  got : Nat
  since : Nat
  deriving DecidableEq, Repr

/-- The inbound command window: the long command that runs, by CODE and TAG (R112 check 4), the image load, the words of the command that is being checked (R111), a KEY_SLOT command that runs (R516), the TAG of an
AUDIT_CLEAR whose sectors are being erased (R124), and SEALST at the acceptance of the long command or load (R108). -/
structure Gw where
  long : Option (Nat × Nat)
  load : Option ImgLoad
  check : Option (List Word)
  key : Option GwCmd
  clear : Option Nat
  sealst : Nat
  deriving DecidableEq, Repr

/-- One authority key slot (R514). -/
structure KeySlot where
  filled : Bool
  perm : Nat
  counter : Nat
  x : Nat
  y : Nat
  deriving DecidableEq, Repr

/-- The slot selection word (R94); `valid` is false when no copy is valid (R95). -/
structure SelWord where
  valid : Bool
  active : Nat
  aState : Nat
  bState : Nat
  gen : Nat
  aDigest : List Byte
  bDigest : List Byte
  deriving DecidableEq, Repr

/-- What a copy of a control record holds, as values (R94, R103, R176, R369, R554, R100, R514). -/
inductive CtlVal where
  | sel (w : SelWord)
  | seal (isShut : Bool) (count : Nat)
  | front (fs : List (Nat × Word))
  | cal (corr : List (Nat × Int)) (doneAt since : List (Nat × Nat)) (qual : List (Nat × Word))
  | audit (oldest level unlogged : Nat)
  | params (vals : List (Nat × Nat))
  | keys (slots : List KeySlot)
  deriving DecidableEq, Repr

/-- A copy of a control record under the copy rule (R95): the sector of its pair, 0 or 1, its offset there, GEN, whether its write was interrupted or failed so that its CRC never matches, and what it holds. -/
structure CtlCopy where
  half : Nat
  off : Nat
  gen : Nat
  bad : Bool
  val : CtlVal
  deriving DecidableEq, Repr

/-- A running or suspended erase (R408 to R412): sector (or first sector of a zone), KIND, journal SEQ, whether it is suspended, whether a power-fail commit suspended it, whether
the device (not firmware) asked for it, and for a zone erase the mode to record at its end (R414). -/
structure Erase where
  sector : Nat
  kind : Nat
  seq : Nat
  susp : Bool
  byCommit : Bool
  device : Bool
  dense : Bool
  deriving DecidableEq, Repr

/-- An erase journal entry (R409): the journal sector (0 or 1) that holds it, KIND, SECTOR, SEQ, and for a zone erase the mode it leads to. -/
structure JEntry where
  half : Nat
  kind : Nat
  sector : Nat
  seq : Nat
  dense : Bool
  deriving DecidableEq, Repr

/-- One flash array's hidden state (R398 to R420): the journal with its current sector and the entries in it, the stamps (an unlisted sector is stamped with SEQ 0, a listed
`none` is invalid), the running erase and the result of the last one, sectors the device waits to erase, passwords (unlisted: all ones), unlocked areas, consecutive failures, dense
zones, erase counters, ranges left undefined (R413), addresses of words programmed to all ones (not blank), the sector at which the margin scrub goes on, the second at which its last pass began and the weak words
found, and what the last call returned in a0 and a1 (none where the manual states no a1). -/
structure FlashArr where
  journal : List JEntry
  half : Nat
  inHalf : Nat
  stamps : List (Nat × Option Nat)
  erase : Option Erase
  lastResult : Nat
  want : List Nat
  pass : List (Nat × List Byte)
  unlocked : List Nat
  fails : Nat
  dense : List Nat
  ecnt : List (Nat × Nat)
  undef : List (Nat × Nat)
  ones : List Nat
  scrubPos : Nat
  scrubAt : Nat
  weak : Nat
  ret : Nat × Option Nat
  deriving DecidableEq, Repr

/-- One interrupt controller (R434 to R445): the target each pending source is assigned to, the target that holds each active source, the storm
count of each source whose window is open with the window's opening, and per core target the line levels, the start of the moderation timer and its expiry. Both starts are in PLL_SYS ticks. -/
structure Ic where
  asg : List (Nat × Nat)
  own : List (Nat × Nat)
  storm : List (Nat × (Nat × Nat))
  fast : List Nat
  normal : List Nat
  timer : List (Nat × Nat)
  expired : List Nat
  deriving DecidableEq, Repr

/-- A running shot sequence (R135, R136): its head, the shot of the next firing's step, whether that firing is the partner's, the repetition and the repetitions of the step, the
averaging of each stream latched at the start, the cycle, the transmit instant of the next firing (2^-16 ns), and the lane whose window its last firing waits for. -/
structure ShotSeq where
  head : Nat
  shot : Nat
  onB : Bool
  rep : Nat
  reps : Nat
  avgs : List Nat
  cycle : Nat
  due : Nat
  wait : Option Nat
  deriving DecidableEq, Repr

/-- A digitizer lane's firing (R128 to R132, R137): the shot fired and not yet captured with its repetition, repetitions, cycle, transmit instant, buffer and gain, the instants at which the crosspoint connection and the
window open and the window closes, and the instant to which the lane is reserved. -/
structure Lane where
  fired : Bool
  shot : Nat
  rep : Nat
  reps : Nat
  cycle : Nat
  tx : Nat
  buf : Nat
  gain : Nat
  conn : Nat
  opens : Nat
  close : Nat
  upTo : Nat
  deriving DecidableEq, Repr

/-- A burst on a transmit gate output (R126): the instant of its first edge, HALF, CYCLES, and the bits of the cycles that are inverted. -/
structure Burst where
  tx : Nat
  half : Nat
  cycles : Nat
  code : Nat
  deriving DecidableEq, Repr

/-- The acoustic front end (R125 to R141): running sequences, lanes by number, the instant to which each channel is reserved with the shot that reserved it (R137), and the last burst of each channel. -/
structure Acq where
  seqs : List ShotSeq
  lanes : List (Nat × Lane)
  chTo : List (Nat × (Nat × Nat))
  bursts : List (Nat × Burst)
  deriving DecidableEq, Repr

/-- A capture notice (R139), with the repetitions of its sequence (R156) and the full cycle number (R157). `lost` is a discarded SKIP notice: it holds no place of the queue, and its turn is a skipped firing without a
job (R146). -/
structure Notice where
  shot : Nat
  lane : Nat
  flags : Nat
  nsamp : Nat
  gain : Nat
  rep : Nat
  peak : Nat
  satcnt : Nat
  cycle : Nat
  tx : Nat
  reps : Nat
  lost : Bool
  deriving DecidableEq, Repr

/-- Track state of one shot (R148, R155): locked, the lag and the TOF of the last acceptance, and the failure count. -/
structure Track where
  locked : Bool
  kc : Int
  tof : Option Int
  fails : Nat
  deriving DecidableEq, Repr

/-- What one direction of an open path has gathered (R156, R163): accepted TOFs by repetition (2^-16 ps), sums of AMP, SNR and QUAL over them, the gain of the last, the reasons met, and
whether the last repetition's job has ended. -/
structure EchoDir where
  tofs : List (Nat × Nat)
  amp : Int
  snr : Int
  qual : Nat
  gain : Nat
  seen : Nat
  done : Bool
  deriving DecidableEq, Repr

/-- A SHOT_A firing of partner mode that waits for its partner (R147, R153): its notice, whether it passed checks 1 to 4, its reason so far, S_A, the index of its peak, its TOF, and the place of its result log entry
(64 * engine + entry) until another job overwrites it. -/
structure Held where
  x : Notice
  ok : Bool
  reason : Nat
  skew : Int
  peak : Int
  tof : Int
  slot : Option Nat
  deriving DecidableEq, Repr

/-- The cycle a stream is open for (R157, R161): the paths finalised, those OK, and whether the stream is complete. -/
structure EchoOpen where
  cycle : Nat
  done : Nat
  ok : Nat
  full : Bool
  deriving DecidableEq, Repr

/-- An open path (R156, R157): its cycle and repetitions R, the two directions, and the accepted pair differences of partner mode by repetition. -/
structure PathAcc where
  cycle : Nat
  reps : Nat
  a : EchoDir
  b : EchoDir
  dts : List (Nat × Int)
  deriving DecidableEq, Repr

/-- The echo engines (R143 to R165): notice queues by engine and the place of the next notice in each; track state by shot; open paths, the last pair difference of partner mode and the
consecutive cycles with NPAIR 0 by 16 * stream + path; the cycle each stream is open for; the SHOT_A firings that wait, by 16 * stream + path; and the writes that wait for the THAW of a region, oldest first: region,
engine, offset and bytes (R164). -/
structure Echo where
  queue : List (Nat × List Notice)
  place : List (Nat × Nat)
  track : List (Nat × Track)
  acc : List (Nat × PathAcc)
  lastDt : List (Nat × Int)
  health : List (Nat × Nat)
  open_ : List (Nat × EchoOpen)
  held : List (Nat × Held)
  waiting : List (Nat × (Nat × (Nat × List Byte)))
  deriving DecidableEq, Repr

/-- Precision converters (R167 to R176): `fsValid` says a copy of the front-end settings record is valid, `fs` holds the settings by register address as HSC knows them, `deferred` the writes that wait for a calibration hold
(R176). `warmTo` is the instant at which a modulator's 100 µs end, `quiet` the spans of modulator edges (first and last) in which a modulator, or with 48 every one, delivers alternating bits (R171); `seen` the bits that a
chain has taken and a slower chain of the same modulator n has yet to take, from an edge on, each with 2 added for an overload, and under 64 + k whether source k was out of compliance then (R169, R174). -/
structure Front where
  fsValid : Bool
  fs : List (Nat × Word)
  deferred : List (Nat × Word)
  warmTo : List (Nat × Nat)
  quiet : List (Nat × (Int × Int))
  seen : List (Nat × (Int × List Nat))
  deriving DecidableEq, Repr

/-- A window of a pulse input (R180 to R185): its cycle and start instant, the counted edges, the quadrature count, what it adds to the running count, the first and last counted edge of the
window, the last counted edge so far and its distance from the one before, merges and dual-pulse errors, and FLAGS. `pairLast` and `pairPrev` are the last two edges of the pair (0 none, 1 A, 2 B) and
`pairT` the instant of the last. Instants are in 2^-16 ns on the present scale (R309). -/
structure PulseWin where
  cycle : Nat
  start : Int
  count : Nat
  quad : Int
  delta : Int
  first : Option Int
  last : Option Int
  prev : Option Int
  per : Nat
  merge : Nat
  errA : Nat
  errB : Nat
  seq : Nat
  flags : Nat
  pairLast : Nat
  pairPrev : Nat
  pairT : Int
  deriving DecidableEq, Repr

/-- A closed window that waits for its block to be written (R181, R182): cycle, tc of its cycle, MODE of the input in force in it, and the input record. -/
structure PulseRec where
  cycle : Nat
  start : Nat
  mode : Nat
  bytes : List Byte
  deriving DecidableEq, Repr

/-- One pulse input (R178 to R187): the running count, the window that is open (`live` says a first window has begun, R180), the edges stamped after the next cycle instant, the closed window,
the last edge of either polarity, the instant at which the receiver was switched on, and the settings in force in the open window (R187). -/
structure Pulse where
  run : Int
  live : Bool
  cur : PulseWin
  nxt : Option PulseWin
  closed : Option PulseRec
  edge : Option Int
  since : Int
  cfg : Word
  deriving DecidableEq, Repr

/-- A cell of a running chain (R188 to R193): inputs since its last output, inputs since start, integrators and combs (modulo 2^64), FIR delay line newest first, the
previous output, the words that failed parity in the previous computation and those that failed in two running, the DC-blocking estimate and whether its last input carried SRC or OVF (R214), and the input numbers that carried
flags. -/
structure Cell where
  ph : Nat
  cnt : Nat
  ints : List Nat
  combs : List Nat
  line : List Int
  prev : Int
  parPrev : List Nat
  dbl : List Nat
  m : Int
  frz : Bool
  hist : List (Nat × Nat)
  deriving DecidableEq, Repr

/-- A correction on its way (R372): from and to in 1/`den` of the kind's unit, steps in all and steps taken. -/
structure Ramp where
  src : Int
  dst : Int
  den : Nat
  steps : Nat
  done : Nat
  deriving DecidableEq, Repr

/-- A running chain (R196 to R206): the modulator edge of source sample 0, source samples taken (the number that begins the next window), outputs made, the source number that a decimation window may not begin
before without SETTLE, the abandoned bits that precede the next window but one as source number and length (R199), the last value without HOLD, cells, the boundary of a swap still to be shown, RESYNC still to be shown,
spans of held source samples (first and last, none while the hold lasts), the cycle of the record being written, ramps by CALLIM KIND, spans of marked source samples (R172), and the swap boundaries that the window may still
hold, newest first, each with the image bank that was in force before it (R209). -/
structure Chain where
  e0 : Int
  n : Nat
  k : Nat
  settle : Nat
  skip : Option (Nat × Nat)
  good : Int
  cells : List Cell
  swapIn : Option Nat
  resyncIn : Bool
  holds : List (Int × Option Int)
  rec_ : Option Nat
  ramps : List (Nat × Ramp)
  marks : List (Int × Int)
  past : List (Nat × Nat)
  deriving DecidableEq, Repr

/-- A pending swap of a target (R209): its trigger (0xFF: immediate) and, once the match or the acceptance has come, the instant from which a window boundary common to the target's chains lets it take effect. -/
structure SwapReq where
  trig : Nat
  due : Option Nat
  deriving DecidableEq, Repr

/-- The filter fabric: running chains by CHAIN_ID, pending swaps by target (R209), the words of CHAIN.SHADOW_ADDR, DC-blocking estimates that an ECHO chain carries from
capture to capture (R196), chains waiting for a first start, ECHO chains in service, and the flags of CHAIN.SWAP_STATUS that the last call of coef_load or coef_swap returned (R208). -/
structure Fabric where
  chains : List (Nat × Chain)
  swaps : List (Nat × SwapReq)
  shadow : Nat × Nat
  dc : List (Nat × Int)
  armed : List Nat
  ready : List Nat
  ret : Nat
  deriving DecidableEq, Repr

/-- A totalizer word or companion, 128 bits, is a W128; an emission waits in the pending list of its task until commit (R277). -/
structure Emission where
  kind : Nat
  stream : Nat
  src : Nat
  payload : List Byte
  deriving DecidableEq, Repr

/-- One loop level of the tally sequencer (R274): body start, position after the body, iterations left, index of the running iteration, index register. -/
structure LoopFrame where
  start : Nat
  stop : Nat
  left : Nat
  idx : Nat
  x : Nat
  deriving DecidableEq, Repr

/-- An interval average accumulator (R229): sum of VALUEs, sum of U in 2^-128, words, flags, worst QUAL, unit (none before the first word). -/
structure Avg where
  sum : Int
  usum : Nat
  n : Nat
  fl : Nat
  q : Nat
  unit : Option Nat
  deriving DecidableEq, Repr

/-- The commit log of a release past the commit point (R242 steps 4 to 7): task, cycle, the instant at which step 7 ends, the stores, each accumulated Tn with its new TOT word and companion, the engines' registers, the
accumulators of the pair, the emissions, what the property evaluations add, and whether step 3 or 4 of the ladder applied to the job. -/
structure CommitLog where
  task : Nat
  cycle : Nat
  due : Nat
  stores : List (Nat × W128)
  tots : List (Nat × (W128 × W128))
  m : List (Nat × W128)
  i : List (Nat × Word)
  avgs : List (Nat × Avg)
  emits : List Emission
  propSt : Nat × Nat
  propN : Nat × Nat
  deg : Bool
  deriving DecidableEq, Repr

/-- One tally pair (R232 to R251). `m` and `i` are the engines' registers; `tot`, `cmp0` and `cmp1` the totalizer file with its companions (unlisted: TOT 0, companion
zero in the descriptor's unit); `pend` and `pendC` the pending accumulations, as the new TOT words and companions; `stores` the store buffer by offset and `nstores` the stores made; `journal` the
entries of the load journal in RAWBUF (R238) and `jpos` those the run has taken; `written` the tasks whose state block a commit has written since fabric load; `avgs` the accumulators by
64 * stream + 32 * bank + n; `td` the dispatch instant and `cyc` the cycles taken since, dispatch included; `rolled` says the task was rolled back and now replays; `propSt` and `propN` what the
task's property evaluations will add to PROP.STATUS and PROP.COUNT at commit (R287); `params` the entries of the parameter page to refill when the task has ended (R240); `log` the commit log while the commit mark is set, `words` the figures
last written to the log area (R242). -/
structure Pair where
  task : Option Nat
  cycle : Nat
  td : Nat
  pc : Nat
  m : List (Nat × W128)
  i : List (Nat × Word)
  loops : List LoopFrame
  tot : List (Nat × W128)
  cmp0 : List (Nat × W128)
  cmp1 : List (Nat × W128)
  pend : List (Nat × W128)
  pendC : List (Nat × W128)
  stores : List (Nat × W128)
  nstores : Nat
  journal : Nat
  jpos : Nat
  loads : Nat
  emits : List Emission
  written : List Nat
  avgs : List (Nat × Avg)
  rolled : Bool
  propSt : Nat × Nat
  propN : Nat × Nat
  cyc : Nat
  params : List Nat
  log : Option CommitLog
  words : List Nat
  deriving DecidableEq, Repr

/-- What the records of one interval need of the whole chip (R521, R522): the interval's number, whether UNSYNC and HOLDOVER held in it, the highest ladder level, the
cycle instants that fired and the first cycle number after them, and FLAGS bits [4:0]. -/
structure Interval where
  num : Nat
  unsync : Bool
  holdover : Bool
  level : Nat
  ncyc : Nat
  after : Nat
  flags : Nat
  deriving DecidableEq, Repr

/-- What the record of one stream and interval needs (R521, R522): the interval's number, NSUB, NDEG and FLAGS bits [6:5]. -/
structure StreamInterval where
  num : Nat
  nsub : Nat
  ndeg : Nat
  flags : Nat
  deriving DecidableEq, Repr

/-- A record snapshot that waits to become a record (R249, R520): region and stream, interval, snapshot time, seal counter, the body's words in order, the chip's and the stream's
interval figures. -/
structure Snapshot where
  region : Nat
  stream : Nat
  num : Nat
  closeS : Nat
  closeNs : Nat
  sealctr : Nat
  words : List W128
  chip : Interval
  str : StreamInterval
  deriving DecidableEq, Repr

/-- One totalizer commit block held in flash (R251): its address, GEN, KIND, CYCLE, time, and the entries by 64 * region + n as TOT word and companion; `bad` marks a block whose
CRC does not match. -/
structure Commit where
  addr : Nat
  gen : Nat
  kind : Nat
  cycle : Nat
  sec : Nat
  ns : Nat
  entries : List (Nat × (W128 × W128))
  bad : Bool
  deriving DecidableEq, Repr

/-- A record held in the ring in flash (R418, R521): its index and address, its bytes, and whether the slot was left NOT_VALID (R407). -/
structure RecEntry where
  index : Nat
  addr : Nat
  bytes : List Byte
  bad : Bool
  deriving DecidableEq, Repr

/-- Interval records and totalizer commits. `snaps` wait to become records; `ring` are the records held, oldest first; `nextIndex` the next ring index; `badSectors` the record
sectors skipped (R418); `commits` the commit blocks held, newest first, `wpos` the position of the next one and `gen` the next GEN; `cur` the chip figures by interval and `str` the
stream figures by 32 * interval + stream; `lastRelease` the cycle of the last committed release; `snapNext` per region the least interval
whose snapshot may be due next, `fired` the intervals in which an instant has fired and whose snapshots are not all taken, `mirror` the words that a partner region's snapshot has kept for a guarded stream's record, by stream with the interval. -/
structure Recs where
  snaps : List Snapshot
  ring : List RecEntry
  nextIndex : Nat
  badSectors : List Nat
  commits : List Commit
  wpos : Nat
  gen : Nat
  cur : List (Nat × Interval)
  str : List (Nat × StreamInterval)
  lastRelease : Nat
  snapNext : List (Nat × Nat)
  fired : List Nat
  mirror : List (Nat × (Nat × List W128))
  deriving DecidableEq, Repr

/-- A pending time step (R308): signed step in 2^-16 ns, the slot that signed it, its TAG, the instant of its acceptance (2^-16 ns), and SEALST then (R108). -/
structure TStep where
  amount : Int
  slot : Option Nat
  tag : Nat
  acceptedAt : Nat
  sealst : Nat
  deriving DecidableEq, Repr

/-- The settings of a comparator that a write replaced (R305): the comparator, the instant of the write, and the control, offset, phase and time it had. -/
structure CmpOld where
  n : Nat
  t : Nat
  ctrl : Nat
  ofs : Nat
  ph : Nat
  abs : Nat
  deriving DecidableEq, Repr

/-- The time base (R295 to R311). `t` is Heartwood time in 2^-16 ns and `acc` the part of it below 2^-16 ns, in 10^-12 of that unit; `freq` is the adjustment as
commanded and `rate` the RATE of the last TIME_SLEW, in ppt; `phase` is the phase still to amortise in 10^-12 of 2^-16 ns; `cycle` is the number of the last
fired cycle; `fast` says whether the fast time base runs; `learned` whether XOFS was learned since class P. `last` gives the last matched instant of a
comparator, `floor` the instant that no match precedes (start of the grid, a step, THAW; R303, R310), and `cmps` the settings that writes of the last microsecond replaced, oldest first. `grid` is the number up to which cycle
instants are not fired any more (R300, R310). `plls` counts the 4 ns ticks of PLL_SYS, which `sys` says runs: through a class H reset it runs on for Sapwood (R59, R448). `hold` is the time elapsed since the last
accepted correction (R299) and `awake` the time awake in SYNC since the last wake (R297), in 2^-16 ns; `tao` is the last reading of the always-on temperature sensor in 0.1 °C (R297). `fired` is the number of the last cycle instant that fired
and of the one that fired before it (R301). -/
structure TimeBase where
  t : Nat
  acc : Nat
  freq : Int
  rate : Nat
  phase : Int
  cycle : Nat
  grid : Nat
  step : Option TStep
  fast : Bool
  plls : Nat
  learned : Bool
  last : List (Nat × Nat)
  floor : Nat
  cmps : List CmpOld
  sys : Bool
  hold : Nat
  awake : Nat
  tao : Int
  fired : Nat × Nat
  deriving DecidableEq, Repr

/-- A job of a task (R319 to R334): release cycle, state (0 awaiting its decision, 1 admitted, 2 running, 3 admitted and deferred), the unscaled charge (2^-96 nJ), the charge instant, release time and deadline
(2^-16 ns), and whether step 3 or 4 applied to it at admission (R342). -/
structure Job where
  cycle : Nat
  st : Nat
  charge : Int
  ta : Nat
  rel : Nat
  dl : Nat
  deg : Bool
  deriving DecidableEq, Repr

/-- Spindle and the gauge (R319 to R345). Energies are in 2^-96 nJ, powers in 2^-96 µW. `jobs` by task; `early` jobs admitted before their cycle instant has fired; `decided` the last release cycle decided per task;
`codes` the last four valid VSTORE codes, newest first; `window` the last 1,024 valid samples as reserve and input power, newest first; `heatN` fired instants since WARM began; `low` consecutive fired instants at
which the lower level's demand fitted and no admission failed; `eSec`, `inSec`, `chSec` the reserve at the start of the second `nSec`, the input energy and the charges admitted in it; `held` a power-fail commit
has been made and Spindle has not resumed, `trig` VSTORE in mV at a gauge trigger whose commit is to come, `resume` Spindle resumes at the next fired instant (R328); `substSeen` tasks with a step 6 entry in this
interval; `thawed` the regions (n) and echo engines (8 + e) that are not gated, `cold` regions not yet used since a class F start; `pendSet` tasks whose AVG and PATHS are written when their job ends (R337);
`first` per task the first cycle instant that lay its THAW lead ahead when Spindle started (R63);
`ready` per region, echo engine and lane the instant at which its last THAW is complete (R334). -/
structure Spindle where
  jobs : List (Nat × Job)
  early : List (Nat × Job)
  decided : List (Nat × Nat)
  codes : List Nat
  window : List (Int × Int)
  heatN : Nat
  low : Nat
  eSec : Int
  inSec : Int
  chSec : Int
  nSec : Nat
  held : Bool
  trig : Option Nat
  resume : Bool
  substSeen : List Nat
  thawed : List Nat
  cold : List Nat
  pendSet : List Nat
  first : List (Nat × Nat)
  ready : List (Nat × Nat)
  deriving DecidableEq, Repr

/-- Seasons, clocks and waking (R346 to R362): Sapwood gated; FROST; the AOC alarm (2^-16 ns) with the job it is for, its cycle and its fixed admission instant (R354); a Spindle alarm that has come and whose THAW is
due; the retention integrity word written intact (R351, R412); the sleep counter and the seal run on LFRC and the FAULT entry for that owed (R362); the alarm has been postponed for want of reserve (R359);
`want` the Sapwood wake sources, in the order of R353, whose event came while no PLL_SYS ran: the THAW that follows wakes Sapwood (R355). -/
structure Season where
  gated : Bool
  frost : Bool
  alarm : Option Nat
  plan : Option (Nat × (Nat × Nat))
  waking : Bool
  retIntact : Bool
  lfrc : Bool
  x32Due : Bool
  late : Bool
  want : List Nat
  deriving DecidableEq, Repr

/-- A calibration waiting or running (R363 to R368): its sort (1 sigma-delta, 2 lane, 3 excitation, 4 reference) and channel, whether it waits because it is due and because a command named it, how often the command's was
postponed, the instant it became due, the cycle that must have passed before it is tried again, for the running one the end of its hold and the channels it holds, and whether it fell due in WINTER or FROST and no THAW for a job
has come since (R368). -/
structure CalJob where
  sort : Nat
  channel : Nat
  byDue : Bool
  byCommand : Bool
  postponed : Nat
  due : Nat
  after : Nat
  stop : Nat
  held : List Nat
  slept : Bool
  deriving DecidableEq, Repr

/-- A zero-flow calibration run (R375): stream, PARAM_ID, LIMIT in ps, instants still to come, the sum of DT (2^-16 ps), the path-cycles averaged and possible, the paths averaged, ECHO.PATHSn at the start, whether it
changed, key slot and TAG. -/
structure ZeroCal where
  stream : Nat
  param : Nat
  limit : Nat
  left : Nat
  sum : Int
  count : Nat
  possible : Nat
  paths : Nat
  mask : Nat
  changed : Bool
  slot : Nat
  tag : Nat
  deriving DecidableEq, Repr

/-- Calibration (R363 to R376). Accepted corrections in 2^-16 of the kind's unit by 256 * KIND + channel; lane ramps likewise; the second of the last completion and of the first fabric load at which an entry applied
likewise; the stored quality registers by address; the CAL_RUN in progress: tag, and the counts accepted, rejected and dropped; the zero-flow run; CAL marks as the interval they reach, by key
(modulator n is n, lane l is 64 + l, stream st is 256 + st; R373). -/
structure Calib where
  queue : List CalJob
  running : Option CalJob
  corr : List (Nat × Int)
  laneRamps : List (Nat × Ramp)
  doneAt : List (Nat × Nat)
  since : List (Nat × Nat)
  qual : List (Nat × Word)
  cmd : Option (Nat × (Nat × Nat × Nat))
  zero : Option ZeroCal
  marks : List (Nat × Nat)
  deriving DecidableEq, Repr

/-- Fault containment (R377 to R397). Per region: isolations in this interval, the attempt and start instant of a running restart and where its totals come from; regions to isolate when the
replay ends (R379); block faults in this interval and the instant a reloaded block restarts. Per guarded stream: the cycle and held emissions of a mirror release, the last cycle
published, the last release one of its tasks lost (twice its cycle, and 1 more where R343 has marked it), streams whose FAILOVER entry is due. The interval the counters belong to, entries already logged in it, safe-state entries in it by cause, the instant safe state was
entered, and the addresses of words left uncorrectable. -/
structure Faults where
  interval : Nat
  iso : List (Nat × Nat)
  attempt : List (Nat × Nat)
  restart : List (Nat × Nat)
  totFrom : List (Nat × Nat)
  after : List Nat
  blockN : List (Nat × Nat)
  blockDue : List (Nat × Nat)
  held : List (Nat × (Nat × List Emission))
  pubCycle : List (Nat × Nat)
  lost : List (Nat × Nat)
  foDue : List Nat
  seen : List (Nat × Nat)
  safe1 : Nat
  safe3 : Nat
  safeAt : Nat
  uncorr : List Nat
  deriving DecidableEq, Repr

/-- One two-wire controller port (R460 to R469): transmit and receive buffers, whether a transfer runs, whether it waits to start again after lost arbitration, the bytes that wait for room in the receive buffer while
the port holds SCL low, the RESULT the transfer then ends with, the bytes the port has sent in its last transfer, and the SCL low and high times it uses, in 50 ns units (R460). -/
structure TwPort where
  tx : List Byte
  rx : List Byte
  run : Bool
  retry : Bool
  due : List Byte
  res : Nat
  sent : List Byte
  low : Nat
  high : Nat
  deriving DecidableEq, Repr

/-- The management target TWM (R470 to R473): the register pointer, whether a transaction to TWM is open, as a read, with its pointer already set, the snapshot of a read, the bytes last sent to the host, and a wake asked for
while in FROST. -/
structure Twm where
  ptr : Nat
  active : Bool
  read : Bool
  ptrSet : Bool
  snap : List Byte
  sent : List Byte
  wakeReq : Bool
  deriving DecidableEq, Repr

/-- A phase that a controller frame sends before its data (R474): bits of a value, most significant first, on a number of lanes, or clock cycles with every data ball released. -/
inductive CspPhase where
  | bits (value width lanes : Nat)
  | dummy (cycles : Nat)
  deriving DecidableEq, Repr

/-- One clocked serial port (R474 to R489): FIFOs; whether a controller frame runs, the data bytes it has still to move, the Sapwood address of its next byte where it
uses DMA (R485), whether its strobe has failed so that missing bytes read as 0xFF (R486), the data bytes that the port has put on the wire in this frame (a target: since its last command), the phases
before the data of its last frame, its SCK period T in 5 ns units (R477), and whether the selection in progress is the one that caused a mode fault, which is not received (R481). -/
structure CspPort where
  tx : List Byte
  rx : List Byte
  run : Bool
  left : Nat
  dma : Option Nat
  dqs : Bool
  sent : List Byte
  head : List CspPhase
  period : Nat
  skip : Bool
  deriving DecidableEq, Repr

/-- CSP4's outbound queue, the words of it up to the end of a held long reply, whether a selection is being counted, and what it last sent (R483, R484, R510); CSP5's line buffers by line number, most recently filled
first, the line after which SS0 is held, the bytes last given to a reader, and how they came: 0 from a buffer, 1 by a full frame, 2 by a bare data phase (R488, R489). -/
structure CspX where
  out : List Word
  outRes : Option Nat
  sel : Bool
  sent : List Word
  lines : List (Nat × List Byte)
  held : Option Nat
  line : List Byte
  how : Nat
  deriving DecidableEq, Repr

/-- A received frame that waits in a MAC's FIFO (R493): bytes without FCS, stamp (seconds, nanoseconds), whether the stamp was taken without valid time, whether its FCS is bad. -/
structure RxFrame where
  bytes : List Byte
  sec : Nat
  ns : Nat
  tinv : Bool
  bad : Bool
  deriving DecidableEq, Repr

/-- A time-stamp queue entry (R314, R315). -/
structure Tsq where
  msgid : Nat
  gen : Nat
  tinv : Bool
  ns : Nat
  sec : Nat
  deriving DecidableEq, Repr

/-- One MAC (R490 to R496): receive FIFO, time-stamp queue, whether it works on the transmit ring and holds a receive descriptor (it stopped at neither), the running MDIO frame (PHY, register, read, data), and the frame it
last sent, with its FCS. -/
structure Mac where
  fifo : List RxFrame
  tsq : List Tsq
  txOn : Bool
  rxOn : Bool
  mdio : Option (Nat × (Nat × (Bool × Nat)))
  sent : List Byte
  deriving DecidableEq, Repr

/-- A message that waits for the engine (R498 to R501): channel, its words with the CRC, and whether its header was unusable. -/
structure HostIn where
  chan : Nat
  words : List Word
  bad : Bool
  deriving DecidableEq, Repr

/-- A request that the engine has taken and not answered (R501, R504 to R508): code, tag, channel, and the instant of its acceptance (2^-16 ns). -/
structure HostCmd where
  code : Nat
  tag : Nat
  chan : Nat
  since : Nat
  deriving DecidableEq, Repr

/-- A message for HOST.FW_OUT (R497, R507): channel, words, and whether it is the reply of a long command. -/
structure HostOut where
  chan : Nat
  words : List Word
  long : Bool
  deriving DecidableEq, Repr

/-- The host engine (R497 to R511): messages that wait, oldest first; messages for FW_OUT, the first of them shown there; the event queue and the entries lost from it; the request that waits for its answer and blocks the
next one; the long command; and the reply of the last one, kept for GET_RESULT. -/
structure HostEng where
  inq : List HostIn
  fwQueue : List HostOut
  events : List RingEntry
  lost : Nat
  cur : Option HostCmd
  long : Option HostCmd
  result : Option (List Word)
  deriving DecidableEq, Repr

/-- A group of counters (R448 to R457): the PLL_SYS ticks at which its registers were last brought up to date, ticks of the prescaler passed since its last group tick, and the masters whose event reaches slaves of
lower index at the next group tick. -/
structure TmrGrp where
  at_ : Nat
  ph : Nat
  late : List Nat
  deriving DecidableEq, Repr

/-- Sapwood's counters and watchdog: the ticks at which groups that nothing has touched stand, the groups, the ticks at which the watchdog's count was 0, and the ticks at which Sapwood was gated and at which a
debugger halted a core (R448, R458, R535). -/
structure Tmr where
  base : Nat
  grps : List (Nat × TmrGrp)
  wdtAt : Nat
  gateAt : Nat
  pauseAt : Option Nat
  deriving DecidableEq, Repr

/-- The cores (R527 to R534): per Sapwood core whether it runs, whether a debugger halts it, the address it was started at, its two banks of x1 to x15, and the reservation of
lr.w as the number of its 16-byte granule. -/
structure Core where
  running : Bool
  halted : Bool
  start : Nat
  bank0 : List (Nat × Word)
  bank1 : List (Nat × Word)
  resv : Option Nat
  deriving DecidableEq, Repr

/-- The four 16-byte snapshot entries of a 32-bit Heartwood master (R230): address and lanes W1 to W3, oldest first. -/
structure SnapEntry where
  addr : Nat
  w1 : Word
  w2 : Word
  w3 : Word
  deriving DecidableEq, Repr

/-- The signal balls (R37), by the groups of R56. -/
inductive Ball where
  | txg (n : Nat)
  | ax (n : Nat)
  | sd (n : Nat)
  | exc (n : Nat)
  | pi (n : Nat)
  | twScl (n : Nat)
  | twSda (n : Nat)
  | cspSck (n : Nat)
  | cspSs (n k : Nat)
  | cspD (n k : Nat)
  | gpioH (n : Nat)
  | gpioS (n : Nat)
  | line (n : Nat)
  | rmii
  | hostAlert
  | twm
  | sealA
  | sealB
  | tdo
  deriving DecidableEq, Repr

/-- What the part does at a ball (R56): drives it low or high, releases an open-drain line, leaves it high-impedance, drives no current, or lets a running function of the port use it. -/
inductive Level where
  | low
  | high
  | released
  | hiZ
  | zero
  | busy
  deriving DecidableEq, Repr

/-- The test access port (R533, R535): the instruction that acts (0 BYPASS, 1 IDCODE, 2 SAMPLE/PRELOAD, 3 EXTEST, 4 INTEST) and the data register it selects. -/
structure Tap where
  ir : Nat
  dr : Nat
  deriving DecidableEq, Repr

/-- The HSC watchdog: the instant its 100 ms count last restarted, and the instant since which it pauses because a debugger halts HSC (R394, R534). -/
structure Wdt where
  hscAt : Nat
  hscPause : Option Nat
  deriving DecidableEq, Repr

end Sys2Proof.Machine
end

