-- ==== Sys2Proof/Machine/State.lean ====
section
/-! DEFINITION. The state of the SY880 block, plain data, and the machine right after reset. INVENTORY.md, "State", lists every part with its rule and reset
value. -/

namespace Sys2Proof.Machine

/-- Why a run stops with a fault. -/
inductive Fault where
  /-- Raised by every command (through `guardUnit`) whose operand names a unit the part does not have, for example a pulse input above 31: such a command
  does not exist on the part. Safe. -/
  | noSuchUnit
  deriving DecidableEq, Repr

/-- Why a command has no meaning in the model. -/
inductive Refusal where
  /-- Raised by a dispatch arm whose command is not modelled yet. Safe. -/
  | notModelled (mnemonic : String)
  deriving DecidableEq, Repr

/-- The whole state. -/
structure State where
  /-- commands that wait, first in, first out -/
  pending : List Instr
  /-- the model's own counter that indexes the free values of Config (log entry 2) -/
  freeCtr : Nat
  /-- registers: words by tagged address in canonical form; an unlisted register holds its class P value -/
  regs : List (Nat × Word)
  /-- memories: bytes by tagged address in canonical form; an unlisted byte reads as `memDefault` -/
  mem : List Host.Cell
  pins : Pins
  boot : Boot
  sealc : Seal
  audit : Audit
  ring : Ring
  gw : Gw
  keys : List KeySlot
  keysGen : Nat
  sel : SelWord
  params : List (Nat × Nat)
  hflash : FlashArr
  sflash : FlashArr
  hic : Ic
  sic : Ic
  gpioH : Bool
  gpioS : List Nat
  acq : Acq
  echo : Echo
  front : Front
  pulse : List (Nat × Pulse)
  fabric : Fabric
  pairs : List (Nat × Pair)
  recs : Recs
  time : TimeBase
  spn : Spindle
  season : Season
  cal : Calib
  flt : Faults
  tw : List (Nat × TwPort)
  twm : Twm
  csp : List (Nat × CspPort)
  cspx : CspX
  mac : List (Nat × Mac)
  host : HostEng
  cores : List (Nat × Core)
  hscHalted : Bool
  snaps : List (Nat × List SnapEntry)
  wdt : Wdt
  tmr : Tmr
  /-- the copies of each control record that flash holds, newest first, by pair of sectors (R95, R400) -/
  ctl : List (Nat × List CtlCopy)
  /-- what each 32-bit Heartwood master last read from an SRAM or a TALLY window (R230, R231) -/
  reads : List (Nat × Word)
  /-- the test access port (R533, R535) -/
  tap : Tap
  /-- what the pad retention latches hold from FROST entry on (R56) -/
  kept : List (Ball × Level)
  deriving DecidableEq, Repr

/-- What a byte of memory that nothing has written reads as (MEMORY; log entry 4): an erased flash byte is 0xFF (R398); RAM after power-on is not stated by the manual
and reads 0 (DESIGN CHOICE), as does ROM but for the ROM version at 0x40 and the tally library version at 0x44, both 1 (R424). Heartwood flash 0x0800_0000 to 0x09FF_FFFF, Sapwood flash 0x1000_0000 to 0x107F_FFFF of its own map (R34, R35). -/
def memDefault (a : Nat) : Byte :=
  if 0x08000000 ≤ a ∧ a < 0x0A000000 then 0xFF
  else if 0x110000000 ≤ a ∧ a < 0x110800000 then 0xFF
  else if a = 0x40 ∨ a = 0x44 then 1
  else 0

/-- The canonical form of memory. -/
def Memory.wf (m : List Host.Cell) : Bool := spWf memDefault m

/-- The offset of an address within a family of registers, if it is one of them. -/
def inDims : List (Nat × Nat) → Nat → Bool
  | [], off => off == 0
  | [(st, c)], off => decide (c ≠ 0) && (if st = 0 then off == 0 else off % st == 0 && decide (off / st < c))
  | (st, c) :: ds, off => decide (c ≠ 0) && decide (off / st < c) && inDims ds (off % st)

/-- The register family an address belongs to. -/
def findSpec : List RegSpec → Nat → Option RegSpec
  | [], _ => none
  | r :: rs, a => if r.base ≤ a ∧ inDims r.dims (a - r.base) = true then some r else findSpec rs a

/-- The class P value of a register's fields. -/
def fieldsReset : List FieldSpec → Nat
  | [] => 0
  | f :: fs => (f.rst % 2 ^ (f.hi + 1 - f.lo)) * 2 ^ f.lo + fieldsReset fs

/-- Whether HIC (0) or SIC (1) source n is a level source (R446, R447). -/
def icLevelSense (c n : Nat) : Bool :=
  if c = 0 then n == 0 || n == 1 || n == 9 || n == 10 || (12 ≤ n && n ≤ 23) || (64 ≤ n && n ≤ 246)
  else n == 0 || n == 2 || (6 ≤ n && n ≤ 23) || (32 ≤ n && n ≤ 87)

/-- Whether HIC (0) or SIC (1) source n exists (R446, R447). -/
def icListed (c n : Nat) : Bool :=
  if c = 0 then n ≤ 10 || (12 ≤ n && n ≤ 23) || (32 ≤ n && n ≤ 246)
  else n ≤ 26 || (32 ≤ n && n ≤ 87)

/-- The value an unlisted register reads as: its class P value, with the fixed fields SENSE (R435) and ETH.LAT (R496). -/
def regDefault (a : Nat) : Word :=
  if 0x40100000 ≤ a ∧ a < 0x40100400 then (if icListed 0 ((a - 0x40100000) / 4) && icLevelSense 0 ((a - 0x40100000) / 4) then 8 else 0)
  else if 0x140001000 ≤ a ∧ a < 0x140001400 then (if icListed 1 ((a - 0x140001000) / 4) && icLevelSense 1 ((a - 0x140001000) / 4) then 8 else 0)
  else match findSpec regTable a with
    | some r => BitVec.ofNat 32 (fieldsReset r.fields)
    | none => 0

/-- The pieces of the reset state that have no better home: an array in its manufactured state. -/
def FlashArr.fresh : FlashArr :=
  { journal := [], half := 0, inHalf := 0, stamps := [], erase := none, lastResult := 0, want := [], pass := [], unlocked := [], fails := 0, dense := [], ecnt := [], undef := [],
    ones := [], scrubPos := 0, scrubAt := 0, weak := 0, ret := (0, none) }

/-- A key slot as at manufacture. -/
def KeySlot.empty : KeySlot := { filled := false, perm := 0, counter := 0, x := 0, y := 0 }

/-- The control records as at manufacture: each has one valid copy but for the slot selection word, which has none (log entry 60). -/
def ctlFresh : List (Nat × List CtlCopy) :=
  let c := fun (v : CtlVal) => [({ half := 0, off := 0, gen := 0, bad := false, val := v } : CtlCopy)]
  [(1, c (.seal true 0)), (2, c (.front [])), (3, c (.cal [] [] [] [])), (4, c (.audit 0 0 0)), (5, c (.params [])), (7, c (.keys (List.replicate 4 KeySlot.empty)))]

/-- An interrupt controller after reset (R444). -/
def Ic.reset : Ic := { asg := [], own := [], storm := [], fast := [], normal := [], timer := [], expired := [] }

/-- A core after reset. -/
def Core.reset : Core := { running := false, halted := false, start := 0, bank0 := [], bank1 := [], resv := none }

/-- The machine right after reset (class P, R59), with FLT.RST_CAUSE.POR and SEASON.SRST_CAUSE.POR set (R70), every supply good, no start step done yet, and the flash as at manufacture. Values the manual does not
state are named in the assumption log (entries 3 and 4). -/
def State.reset : State :=
  { pending := [], freeCtr := 0, regs := [(0x40000000, 1), (0x140000040, 1)], mem := []
    pins := { vddAo := true, vddHw := true, vddaAcq := true, vddaSd := true, vddioH := true, vddSw := true, vddioS := true, testen := false,
              heldAo := false, heldH := false, heldS := false }
    boot := { cls := 1, faults := 0, noImage := false, cUse := 0, cMeas := 0, digest := List.replicate 32 0, waitAt := 0 }
    sealc := { lfsr := 1, sealA := false, n1 := 0, n0 := 0, run := 0, verdict := false, latched := none, stSealed := true, stCount := 0, stValid := true,
               fuses := 0, slWrites := 0, paramChanges := 0, openedAt := 0, firstRefused := 0, serial := 0, closedAt := none, wordLost := false }
    audit := { held := [], nextSeq := 0, queue := [], startOpen := false, ctlPending := false, ctlOldest := 0, ctlLevel := 0, ctlUnlogged := 0, lastDigest := [] }
    ring := { entries := [], nextSeq := 0, snap := none, live := false, wait := [] }
    gw := { long := none, load := none, check := none, key := none, clear := none, sealst := 0 }
    keys := List.replicate 4 KeySlot.empty
    keysGen := 0
    sel := { valid := false, active := 0, aState := 0, bState := 0, gen := 0, aDigest := List.replicate 32 0, bDigest := List.replicate 32 0 }
    params := []
    hflash := FlashArr.fresh
    sflash := FlashArr.fresh
    hic := Ic.reset
    sic := Ic.reset
    gpioH := false
    gpioS := []
    acq := { seqs := [], lanes := [], chTo := [], bursts := [] }
    echo := { queue := [], place := [], track := [], acc := [], lastDt := [], health := [], open_ := [], held := [], waiting := [] }
    front := { fsValid := true, fs := [], deferred := [], warmTo := [], quiet := [], seen := [] }
    pulse := []
    fabric := { chains := [], swaps := [], shadow := (0, 0), dc := [], armed := [], ready := [], ret := 0 }
    pairs := []
    recs := { snaps := [], ring := [], nextIndex := 0, badSectors := [], commits := [], wpos := 0x08100000, gen := 0, cur := [], str := [], lastRelease := 0, snapNext := [], fired := [], mirror := [] }
    time := { t := 0, acc := 0, freq := 0, rate := 0, phase := 0, cycle := 0, grid := 0, step := none, fast := false, plls := 0, learned := false, last := [], floor := 0, cmps := [],
              sys := false, hold := 0, awake := 0, tao := 250, fired := (0, 0) }
    spn := { jobs := [], early := [], decided := [], codes := [], window := [], heatN := 0, low := 0, eSec := 0, inSec := 0, chSec := 0, nSec := 0, held := false, trig := none,
             resume := false, substSeen := [], thawed := [], cold := [], pendSet := [], first := [], ready := [] }
    season := { gated := false, frost := false, alarm := none, plan := none, waking := false, retIntact := false, lfrc := false, x32Due := false, late := false, want := [] }
    cal := { queue := [], running := none, corr := [], laneRamps := [], doneAt := [], since := [], qual := [], cmd := none, zero := none, marks := [] }
    flt := { interval := 0, iso := [], attempt := [], restart := [], totFrom := [], after := [], blockN := [], blockDue := [], held := [], pubCycle := [], lost := [], foDue := [],
             seen := [], safe1 := 0, safe3 := 0, safeAt := 0, uncorr := [] }
    tw := []
    twm := { ptr := 0, active := false, read := false, ptrSet := false, snap := [], sent := [], wakeReq := false }
    csp := []
    cspx := { out := [], outRes := none, sel := false, sent := [], lines := [], held := none, line := [], how := 0 }
    mac := []
    host := { inq := [], fwQueue := [], events := [], lost := 0, cur := none, long := none, result := none }
    cores := []
    hscHalted := false
    snaps := []
    wdt := { hscAt := 0, hscPause := none }
    tmr := { base := 0, grps := [], wdtAt := 0, gateAt := 0, pauseAt := none }
    ctl := ctlFresh
    reads := []
    tap := { ir := 1, dr := 0 }
    kept := [] }

end Sys2Proof.Machine
end

