-- ==== Sys2Proof/Machine/Ops.lean ====
section
/-! DEFINITION. The named operations that every family of commands uses: registers and their fields, memories, free values, the interrupt controllers, waking, the
outbound ring, the audit trail and bus errors. -/

namespace Sys2Proof.Machine

/-- The outcome of a command: its effect, unless an operand names a unit the part does not have. -/
def guardUnit (ok : Bool) (s' : State) : Host.Outcome State Fault Refusal := if ok then .next s' else .fault .noSuchUnit

/-! Registers (R4 to R6, R430). -/

/-- A register word. -/
def State.rw (s : State) (a : Nat) : Word := spGet regDefault s.regs a

/-- Store a register word, keeping the canonical form. -/
def State.setW (s : State) (a : Nat) (w : Word) : State := { s with regs := spSet regDefault s.regs a w }

/-- A field of a register. -/
def State.get (s : State) (f : Fld) : Nat := bitsOf (s.rw f.addr).toNat f.hi f.lo

/-- Set a field of a register. -/
def State.set (s : State) (f : Fld) (v : Nat) : State := s.setW f.addr (BitVec.ofNat 32 (setBits (s.rw f.addr).toNat f.hi f.lo v))

/-- A one-bit field as a truth value. -/
def State.on (s : State) (f : Fld) : Bool := s.get f != 0

/-- Set a one-bit field from a truth value. -/
def State.setB (s : State) (f : Fld) (b : Bool) : State := s.set f (if b then 1 else 0)

/-- The largest value of a field. -/
def Fld.max (f : Fld) : Nat := 2 ^ (f.hi + 1 - f.lo) - 1

/-- Add to a counter field that saturates. -/
def State.sat (s : State) (f : Fld) (n : Nat) : State := s.set f (min f.max (s.get f + n))

/-- Add to a counter field that wraps. -/
def State.wrap (s : State) (f : Fld) (n : Nat) : State := s.set f (s.get f + n)

/-- A signed field. -/
def State.getI (s : State) (f : Fld) : Int := sext (f.hi + 1 - f.lo) (s.get f)

/-- Set a signed field (wrapping into its width). -/
def State.setI (s : State) (f : Fld) (x : Int) : State := s.set f (utwo (f.hi + 1 - f.lo) x)

/-- The next free value (log entry 2) and the state with the counter advanced. -/
def State.free (s : State) : BitVec 32 × State := (Config.freeWord s.freeCtr, { s with freeCtr := s.freeCtr + 1 })

/-! Memories (R33 to R35). Addresses are tagged: a Sapwood address a is 2^32 + a. -/

/-- The tagged address of a bus address of a domain. -/
def tag (dom a : Nat) : Nat := if dom = 0 then a else 2 ^ 32 + a

/-- A byte of memory. -/
def State.ldB (s : State) (a : Nat) : Byte := spGet memDefault s.mem a

/-- Store a byte. -/
def State.stB (s : State) (a : Nat) (b : Byte) : State := { s with mem := spSet memDefault s.mem a b }

/-- `n` bytes from an address up. -/
def State.ldBytes (s : State) (a : Nat) : Nat → List Byte
  | 0 => []
  | n + 1 => s.ldB a :: s.ldBytes (a + 1) n

/-- Store bytes from an address up. -/
def State.stBytes (s : State) (a : Nat) : List Byte → State
  | [] => s
  | b :: bs => (s.stB a b).stBytes (a + 1) bs

/-- A little-endian number of `n` bytes (R11). -/
def State.ldN (s : State) (a n : Nat) : Nat := leNat (s.ldBytes a n)

/-- Store a little-endian number of `n` bytes. -/
def State.stN (s : State) (a n v : Nat) : State := s.stBytes a (leBytes n v)

/-- Discard the snapshot entry of a master that holds a written group (R230). -/
def State.snapDrop (s : State) (master a : Nat) : State :=
  { s with snaps := s.snaps.map fun (e : Nat × List SnapEntry) => (e.1, if e.1 = master then e.2.filter (fun (x : SnapEntry) => x.addr != a / 16 * 16) else e.2) }

/-- Return `n` bytes to what unwritten memory reads as: an erase of flash (R398), a clear of RAM. -/
def State.wipe (s : State) (a n : Nat) : State := { s with mem := s.mem.filter fun c => decide (c.1 < a) || decide (a + n ≤ c.1) }

/-- A 128-bit word of memory (R12). -/
def State.ld128 (s : State) (a : Nat) : W128 := BitVec.ofNat 128 (s.ldN a 16)

/-- Store a 128-bit word. -/
def State.st128 (s : State) (a : Nat) (w : W128) : State := s.stN a 16 w.toNat

/-- The base of region n's SRAM (R34). -/
def rgnBase (n : Nat) : Nat := 0x10000000 + n * 0x00200000

/-- The base of shared echo SRAM (R34). -/
def echoBase : Nat := 0x12000000

/-- Whether a tagged address lies in a memory of its domain's map (R34, R35). -/
def memMapped (a : Nat) : Bool :=
  decide (a < 0x00180000) || (decide (0x08000000 ≤ a) && decide (a < 0x0A000000)) ||
  (decide (0x10000000 ≤ a) && decide (a < 0x11000000) && decide (a % 0x00200000 < 0x00180000)) ||
  (decide (0x12000000 ≤ a) && decide (a < 0x12200000)) || (decide (0x13000000 ≤ a) && decide (a < 0x13080000)) ||
  (decide (0x14000000 ≤ a) && decide (a < 0x14010000)) ||
  (decide (0x100000000 ≤ a) && decide (a < 0x100020000)) || (decide (0x110000000 ≤ a) && decide (a < 0x110800000)) ||
  (decide (0x120000000 ≤ a) && decide (a < 0x120180000)) || (decide (0x130000000 ≤ a) && decide (a < 0x140000000))

/-- Whether a tagged address is a register (R421, R422). -/
def isReg (a : Nat) : Bool := (findSpec regTable a).isSome

/-! Interrupt controllers (R434 to R445). c = 0 is HIC, 1 is SIC. -/

/-- Controller c. -/
def State.ic (s : State) (c : Nat) : Ic := if c = 0 then s.hic else s.sic

/-- Replace controller c's hidden state. -/
def State.setIc (s : State) (c : Nat) (x : Ic) : State := if c = 0 then { s with hic := x } else { s with sic := x }

/-- The PEND, ACTIVE and STORM bits of a source. -/
def pendF (c n : Nat) : Fld := ⟨(F.IC.PEND.PEND c (n / 32)).addr, n % 32, n % 32⟩
/-- ACTIVE bit of a source. -/
def activeF (c n : Nat) : Fld := ⟨(F.IC.ACTIVE.ACTIVE c (n / 32)).addr, n % 32, n % 32⟩
/-- STORM bit of a source. -/
def stormF (c n : Nat) : Fld := ⟨(F.IC.STORM.STORM c (n / 32)).addr, n % 32, n % 32⟩

/-- A Sapwood core that runs and is not halted takes a raised line (R529, R530): local interrupt 16 selects the fast bank and is not taken while CUR is 1, nor is the normal line; a trap clears the reservation. What a
core's own interrupt enables hold back is not modelled (log entry 8). -/
def State.coreTakes (s : State) (t : Nat) (fast normal : Bool) : State := match alFind s.cores t with
  | some x =>
    if x.running && !x.halted && !s.season.gated && !s.on (F.SC.BANKCTL.CUR t) && (fast || normal) then
      let s := { s with cores := alSet s.cores t { x with resv := none } }
      if fast then s.set (F.SC.BANKCTL.CUR t) 1 else s
    else s
  | none => s

/-- Raise or lower the two lines of core target t and set NPEND (R439, R441, R442). The normal line is moderated; a line stays raised while a source of its class
is assigned and pending; one pending again while it is active counts from its completion on (R435). A raised line ends a core's wait for interrupt while its clock runs. -/
def State.icLines (s : State) (c t : Nat) : State :=
  let x := s.ic c
  let mine := (x.asg.filter fun e => e.2 == t).map (·.1)
  let open_ := mine.filter fun n => !s.on (activeF c n)
  let fast := open_.filter fun n => s.on (F.IC.SRC_CFG.CLASS c n)
  let norm := open_.filter fun n => !s.on (F.IC.SRC_CFG.CLASS c n)
  let en := s.on (F.IC.CTRL.EN c)
  let cnt := s.get (F.IC.MOD.COUNT c t)
  let high := x.normal.contains t
  let since := alGet s.time.plls x.timer t
  let due := cnt == 0 || s.on (F.IC.TSTAT.WFI c t) || decide (cnt ≤ norm.length) || x.expired.contains t || (decide (since < s.time.plls) && decide (since + 250 * s.get (F.IC.MOD.TIME c t) ≤ s.time.plls))
  let rise := en && !norm.isEmpty && (due || high)
  let rest := fun (l : List Nat) => l.filter (· != t)
  let x' : Ic :=
    { x with
      fast := if en && !fast.isEmpty then t :: rest x.fast else rest x.fast
      normal := if rise then t :: rest x.normal else rest x.normal
      timer := if norm.isEmpty || rise || cnt == 0 then alDel x.timer t else alSet x.timer t since
      expired := if norm.isEmpty then rest x.expired else x.expired }
  let s := (s.setIc c x').set (F.IC.TSTAT.NPEND c t) mine.length
  let s := if (rise || (en && !fast.isEmpty)) && !(c == 1 && s.season.gated) && !(c == 0 && !s.time.fast) then s.set (F.IC.TSTAT.WFI c t) 0 else s
  if c = 1 then s.coreTakes t (en && !fast.isEmpty) rise else s

/-- Both core targets of controller c (HIC has target 0 only). -/
def State.icUpdate (s : State) (c : Nat) : State := if c = 0 then s.icLines 0 0 else (s.icLines 1 0).icLines 1 1

/-- The season as R346 gives it, in the registers that show it. -/
def State.seasonUpdate (s : State) : State :=
  let v := if s.pins.vddSw && !s.pins.heldS && !s.season.gated then 0
    else if s.time.sys || s.on F.CLK.STATUS.SYS_LOCK || s.on F.CLK.STATUS.ACQ_LOCK || s.on F.CLK.STATUS.AUX_LOCK then 1
    else if s.on F.CLK.STATUS.HFXO_ON then 2 else 3
  (s.set F.SEASON.STATE.SEASON v).set F.CLK.STATUS.SEASON v

/-- Set PEND of a source and assign it to a target (R436). -/
def State.icPend1 (s : State) (c n : Nat) : State :=
  let e0 := s.on (F.IC.SRC_CFG.EN_T0 c n)
  let e1 := c == 1 && s.on (F.IC.SRC_CFG.EN_T1 c n)
  let s := s.set (pendF c n) 1
  let give := fun (t : Nat) (s : State) => (s.setIc c { s.ic c with asg := alSet (s.ic c).asg n t }).set (F.IC.SRC_CFG.RR c n) (if c = 0 then 0 else 1 - t)
  let s := if e0 && e1 then give (s.get (F.IC.SRC_CFG.RR c n)) s else if e0 then give 0 s else if e1 then give 1 s else s
  s.icUpdate c

/-- Sapwood wakes: `srcs` holds a bit for each source of R353 that caused it. WAKESRC, the wake count, LAST and SIC source 5 (R348, R353). -/
def State.wakeNow (s : State) (srcs : Nat) : State :=
  if s.season.gated then
    let s := s.set F.SEASON.STATE.LAST (s.get F.SEASON.STATE.SEASON)
    let s := { s with season := { s.season with gated := false } }
    let gap := s.time.plls - s.tmr.gateAt
    let x := s.tmr
    let s := { s with tmr := { x with base := x.base + gap, wdtAt := x.wdtAt + gap, grps := x.grps.map (fun (e : Nat × TmrGrp) => (e.1, { e.2 with at_ := e.2.at_ + gap })), pauseAt := x.pauseAt.map (· + gap) } }
    let s := (s.set F.SEASON.WAKESRC.SRC srcs).sat F.SEASON.COUNT.WAKES 1
    let s := (s.set (F.IC.TSTAT.WFI 1 0) 0).set (F.IC.TSTAT.WFI 1 1) 0
    let s := s.seasonUpdate
    if s.on (stormF 1 5) || s.on (pendF 1 5) then s else s.icPend1 1 5
  else s

/-- An event of the Sapwood wake source at place `bit` of R353: Sapwood wakes at once while PLL_SYS runs; from WINTER and FROST the event asks for the THAW of R355, which wakes it. -/
def State.wakeSapwood (s : State) (bit : Nat) : State :=
  if !s.season.gated then s
  else if s.time.sys then s.wakeNow (2 ^ bit)
  else { s with season := { s.season with want := if s.season.want.contains bit then s.season.want else bit :: s.season.want } }

/-- Set PEND of a source, and wake its domain where EN_AOC asks for it (R440, R442). -/
def State.icPend (s : State) (c n : Nat) : State :=
  let s := s.icPend1 c n
  if c == 1 && s.on (F.IC.SRC_CFG.EN_AOC c n) && s.on (F.IC.CTRL.EN c) then s.wakeSapwood 4 else s

/-- An edge on a source (R435): merges into PEND, does nothing on a reserved or storm-masked source. -/
def State.icEdge (s : State) (c n : Nat) : State :=
  if !icListed c n || icLevelSense c n || s.on (stormF c n) || s.on (pendF c n) then s else s.icPend c n

/-- A level source seen asserted (R435): pends while PEND and ACTIVE are both 0 and it is not masked. -/
def State.icHigh (s : State) (c n : Nat) : State :=
  if !icListed c n || !icLevelSense c n || s.on (stormF c n) || s.on (pendF c n) || s.on (activeF c n) then s else s.icPend c n

/-- The bits of a word, masked. -/
def State.anyBit (s : State) (a mask : Nat) : Bool := Nat.land (s.rw a).toNat mask != 0

/-- Whether a level source is asserted (R446, R447 and the chapters they name). -/
def State.icLevel (s : State) (c n : Nat) : Bool :=
  if c = 0 then
    if n = 0 then s.on (F.BUS.ERR.VALID 0)
    else if n = 1 then s.on F.FLT.STATUS.SAFE || s.get F.FLT.STATUS.ISO != 0
    else if n = 9 then s.on F.SPN.STATUS.MISS || s.on F.SPN.STATUS.OVERRUN
    else if n = 10 then s.rw F.CLK.FAIL.ALL.addr != 0
    else if 12 ≤ n ∧ n ≤ 15 then s.rw (F.ECHO.ERR.ALL (n - 12)).addr != 0
    else if 16 ≤ n ∧ n ≤ 23 then s.on (F.TALLY.STATUS.TRAP (n - 16))
    else if 64 ≤ n ∧ n ≤ 111 then s.anyBit (F.SDC.STATUS.ALL (n - 64)).addr 0x1C
    else if 112 ≤ n ∧ n ≤ 143 then s.anyBit (F.PIN.STATUS.ALL (n - 112)).addr 0x1A
    else if 144 ≤ n ∧ n ≤ 239 then s.anyBit (F.CHAIN.STATUS.ALL (n - 144)).addr 0x11E
    else if 240 ≤ n ∧ n ≤ 243 then s.anyBit (F.TW.STATUS.ALL (n - 240)).addr (Nat.land (s.rw (F.TW.IE.ALL (n - 240)).addr).toNat 0xFFE)
    else if 244 ≤ n ∧ n ≤ 245 then s.anyBit (F.CSP.STATUS.ALL (n - 244)).addr (Nat.land (s.rw (F.CSP.IE.ALL (n - 244)).addr).toNat 0x3FE)
    else if n = 246 then s.gpioH
    else false
  else
    if n = 0 then s.on (F.BUS.ERR.VALID 1)
    else if n = 2 then s.get F.GW.RING_STATUS.COUNT != 0
    else if 6 ≤ n ∧ n ≤ 8 then s.on (F.ETH.STATUS.RXDONE (n - 6)) && s.get (F.ETH.IE.IE (n - 6)) / 2 % 2 == 1
    else if 9 ≤ n ∧ n ≤ 11 then s.anyBit (F.ETH.STATUS.ALL (n - 9)).addr (Nat.land (s.rw (F.ETH.IE.ALL (n - 9)).addr).toNat 0xD)
    else if 12 ≤ n ∧ n ≤ 14 then s.get (F.ETH.TSQ_STAT.COUNT (n - 12)) != 0 || s.on (F.ETH.TSQ_STAT.OVF (n - 12))
    else if 15 ≤ n ∧ n ≤ 18 then s.anyBit (F.TW.STATUS.ALL (n - 11)).addr (Nat.land (s.rw (F.TW.IE.ALL (n - 11)).addr).toNat 0xFFE)
    else if n = 22 then s.on F.CSP4.STATUS.FRAME_REJ
    else if n = 19 ∨ n = 20 then s.anyBit (F.CSP.STATUS.ALL (n - 17)).addr (Nat.land (s.rw (F.CSP.IE.ALL (n - 17)).addr).toNat 0x3FE)
    else if n = 21 then s.anyBit (F.CSP.STATUS.ALL 5).addr (Nat.land (s.rw (F.CSP.IE.ALL 5).addr).toNat 0x3FE)
    else if n = 23 then s.on F.HOST.FW_STAT.OUT_VALID && s.on F.HOST.CFG.IE
    else if 32 ≤ n ∧ n ≤ 63 then
      let g := (n - 32) / 8
      let i := (n - 32) % 8
      (s.on (F.TMR.STATUS.CMP g i) && s.on (F.TMR.CTRL.IE_CMP g i)) || (s.on (F.TMR.STATUS.PER g i) && s.on (F.TMR.CTRL.IE_PER g i))
    else if 64 ≤ n ∧ n ≤ 87 then s.gpioS.contains (n - 64)
    else false

/-- Sample a level source: it pends if it is asserted (R435). -/
def State.icSample (s : State) (c n : Nat) : State := if s.icLevel c n then s.icHigh c n else s

/-- Set a status bit and sample the level source that shows it. -/
def State.raise (s : State) (f : Fld) (c n : Nat) : State := (s.set f 1).icSample c n

/-! Bus errors (R432, R433). -/

/-- A failed access of a domain: capture in BUSERR and BUSADDR. -/
def State.busError (s : State) (dom kind master : Nat) (write : Bool) (addr : Nat) : State :=
  let s := s.sat (F.BUS.ERR.COUNT dom) 1
  let s := if s.on (F.BUS.ERR.VALID dom) then s.set (F.BUS.ERR.MULTI dom) 1
    else ((((s.set (F.BUS.ERR.KIND dom) kind).set (F.BUS.ERR.MASTER dom) master).setB (F.BUS.ERR.WRITE dom) write).set (F.BUS.ADDR.ADDR dom) addr).set (F.BUS.ERR.VALID dom) 1
  s.icSample dom 0

/-! Heartwood time (R295): `time.t` counts 2^-16 ns. -/

/-- One second in 2^-16 ns. -/
def secT : Nat := 1000000000 * 65536

/-- One microsecond in 2^-16 ns. -/
def usT : Nat := 65536000

/-- One tick of the lane clock, 6.25 ns, in 2^-16 ns (R126). -/
def tickT : Nat := 409600
/-- Whole seconds of Heartwood time. -/
def State.sec (s : State) : Nat := s.time.t / secT
/-- Nanoseconds within the second. -/
def State.ns (s : State) : Nat := s.time.t % secT / 65536
/-- Fraction of a nanosecond, 2^-16 ns. -/
def State.frac (s : State) : Nat := s.time.t % 65536

/-! The host's alert (R510), in the always-on domain. -/

/-- A pending condition: 0 EVQ, 1 RESULT, 2 REPLY, 3 REJ. -/
def alertF (bit : Nat) : Fld := ⟨F.HOST.ALERT.ALL.addr, 24 + bit, 24 + bit⟩

/-- HOST_ALERTn is driven low. -/
def State.alerting (s : State) : Bool := Nat.land (s.get F.HOST.ALERT.PEND) (s.get F.HOST.ALERT.EN) != 0

/-- TWM_CTRL.ALERT follows the alert where HOST.ALERT.TWM asks for it; `old` is the alert before. -/
def State.alertFollow (s : State) (old : Bool) : State := if s.on F.HOST.ALERT.TWM && s.alerting != old then s.setB F.TWM.CTRL.ALERT s.alerting else s

/-- Set or clear a pending condition. -/
def State.alertPend (s : State) (bit : Nat) (b : Bool) : State := (s.setB (alertF bit) b).alertFollow s.alerting

/-- Whether ring entries of a KIND set EVQ. -/
def State.alertKind (s : State) (kind : Nat) : Bool := decide (1 ≤ kind) && bitsOf (s.get F.HOST.ALERT.KINDMASK) (kind - 1) (kind - 1) == 1

/-! The outbound ring (R114 to R117). -/

/-- An entry enters the outbound ring: a full ring loses its oldest entry (R115, R116). SIC sources 2 and 3, the alert and the RING wake follow (R447, R510, R353). -/
def State.ringEnter (s : State) (x : RingEntry) : State :=
  let kind := x.kind
  let e : RingEntry := { x with seq := s.ring.nextSeq % 2 ^ 32 }
  let full := decide (2048 ≤ s.ring.entries.length)
  let es := (if full then s.ring.entries.drop 1 else s.ring.entries) ++ [e]
  let s := if full then s.sat F.GW.RING_STATUS.OVERRUN 1 else s
  let s := { s with ring := { s.ring with entries := es, nextSeq := s.ring.nextSeq + 1 } }
  let s := (s.set F.GW.RING_STATUS.COUNT es.length).icSample 1 2
  let s := if s.alertKind kind then s.alertPend 0 true else s
  if kind = 4 ∨ kind = 6 then
    let s := s.icEdge 1 3
    if s.on F.SEASON.WAKE.RING then s.wakeSapwood 9 else s
  else s

/-- Write an entry to the outbound ring (R115). The ring is empty until the first task commits (R68): until then an entry waits, but for a RESULT, which R111 owes to an accepted command (DESIGN CHOICE, log entry 172). -/
def State.ringPut (s : State) (kind stream src cycle : Nat) (payload : List Byte) : State :=
  let e : RingEntry := { seq := 0, kind := kind, stream := stream, src := src, cycle := cycle, payload := (payload ++ List.replicate 16 0).take 16 }
  if s.ring.live || kind == 6 then s.ringEnter e else { s with ring := { s.ring with wait := s.ring.wait ++ [e] } }

/-- Entries enter the ring in order. -/
def State.ringEnters (s : State) : List RingEntry → State
  | [] => s
  | e :: es => (s.ringEnter e).ringEnters es

/-- A task commits: what waited for the first commit enters the ring (R68). -/
def State.ringLive (s : State) : State :=
  if s.ring.live then s else ({ s with ring := { s.ring with live := true, wait := [] } } : State).ringEnters s.ring.wait

/-- Parts of 16 bytes, at most `n` of them. -/
def parts16 : Nat → List Byte → List (List Byte)
  | 0, _ => []
  | n + 1, d => if d.isEmpty then [] else d.take 16 :: parts16 n (d.drop 16)

/-- The parts of a RESULT (R115): CODE, status and 12 bytes in part 0, then 16 bytes each. -/
def resultParts (code status : Nat) (data : List Byte) : List (List Byte) :=
  (leBytes 2 code ++ leBytes 2 status ++ data.take 12) :: parts16 128 (data.drop 12)

/-- Write the numbered parts of a RESULT. -/
def State.ringParts (s : State) (tag : Nat) : Nat → List (List Byte) → State
  | _, [] => s
  | i, p :: ps => (s.ringPut 6 i tag s.time.cycle p).ringParts tag (i + 1) ps

/-- The RESULT of an accepted command (R111, R115). -/
def State.result (s : State) (tag code status : Nat) (data : List Byte) : State := s.ringParts tag 0 (resultParts code status data)

/-! The audit trail (R118 to R123). -/

/-- Entries an event takes: itself and its CONT entries of 24 bytes (R120). -/
def evSize (data : List Byte) : Nat := if data.length ≤ 24 then 1 else 1 + (data.length - 24 + 23) / 24

/-- Entries counted by R123: those held and those queued. -/
def State.auditCount (s : State) : Nat := s.audit.held.length + (s.audit.queue.map fun e => evSize e.data).foldl (· + ·) 0

/-- The level for a count (R123). -/
def auditLevelOf (n : Nat) : Nat := if n < 14745 then 0 else if n < 15360 then 1 else if n < 16383 then 2 else 3

/-- The SEQ of the newest entry, held or queued. -/
def State.auditNewest (s : State) : Nat := s.audit.nextSeq + (s.audit.queue.map fun e => evSize e.data).foldl (· + ·) 0 - 1

/-- Set the level from the count; a change queues a copy of the control record and raises HIC source 4, and the crossing into WARN makes the AUDIT_WARN event
(R123, R554, R446). -/
def State.auditRelevel (s : State) : State :=
  let old := s.get F.SEAL.STATUS.LEVEL
  let new := auditLevelOf s.auditCount
  if old = new then s else
    let s := s.set F.SEAL.STATUS.LEVEL new
    let s := { s with audit := { s.audit with ctlPending := true } }
    let s := s.icEdge 0 4
    if old = 0 then s.ringPut 3 0xFF 0x0201 s.time.cycle (leBytes 4 s.auditCount ++ leBytes 4 s.auditNewest) else s

/-- An event that is not logged (R123): SEAL.UNLOGGED, with a copy of the control record pending (R554). -/
def State.auditLost (s : State) : State :=
  let s := s.sat F.SEAL.UNLOGGED.COUNT 1
  { s with audit := { s.audit with ctlPending := true } }

/-- The audit event as its moment forms it (R119, R106). -/
def State.mkEvent (s : State) (kind stream : Nat) (data : List Byte) : AuditEvent :=
  { kind := kind, sealst := if s.on F.SEAL.STATUS.SEALED then 1 else 2, stream := stream, sec := s.sec, ns := s.ns, sealctr := s.get F.SEAL.COUNTER.COUNT,
    digest := s.boot.digest.take 4, data := data }

/-- Queue an audit event, whole or not at all (R121, R123). One slot of the 16,384 is kept for AUDIT_CLEAR. -/
def State.auditQueue (s : State) (ev : AuditEvent) : State :=
  if s.auditCount + evSize ev.data ≤ 16383 then ({ s with audit := { s.audit with queue := s.audit.queue ++ [ev] } } : State).auditRelevel else s.auditLost

/-- Queue an event of this moment. -/
def State.auditPut (s : State) (kind stream : Nat) (data : List Byte) : State := s.auditQueue (s.mkEvent kind stream data)

/-- Queue an event of a command: SEALST is that of the command's acceptance (R108). -/
def State.auditPutAs (s : State) (st kind stream : Nat) (data : List Byte) : State := s.auditQueue { s.mkEvent kind stream data with sealst := st }

/-- SEALST of this moment (R119). -/
def State.sealst (s : State) : Nat := if s.on F.SEAL.STATUS.SEALED then 1 else 2

/-- Whether the trail can take the n entries a command or an SL write makes (R112 check 8, R110, R123). -/
def State.auditTakes (s : State) (n : Nat) : Bool := n == 0 || (decide (s.get F.SEAL.STATUS.LEVEL < 2) && decide (s.auditCount + n ≤ 16383))

/-! The running image (R71 to R90). -/

/-- The base of image slot 1 (A) or 2 (B), R93. -/
def slotBase (slot : Nat) : Nat := if slot = 2 then 0x08800000 else 0x08400000

/-- The slot of the running image: 0 with no image. -/
def State.slot (s : State) : Nat := s.get F.FLT.BOOT_STATUS.SLOT

/-- Find a section among `n` directory entries from address `d` (R74). -/
def State.findSect (s : State) (base ty inst : Nat) : Nat → Nat → Option (Nat × Nat)
  | 0, _ => none
  | n + 1, d =>
    if s.ldN d 2 = ty ∧ s.ldN (d + 2) 2 = inst then some (base + s.ldN (d + 4) 4, s.ldN (d + 8) 4)
    else s.findSect base ty inst n (d + 16)

/-- The section of a TYPE and INSTANCE in the image at `base`: its address and LENGTH. -/
def State.sectAt (s : State) (base ty inst : Nat) : Option (Nat × Nat) := s.findSect base ty inst (min 64 (s.ldN (base + 0x10) 2)) (base + 64)

/-- The section of a TYPE and INSTANCE in the running image. -/
def State.sect (s : State) (ty inst : Nat) : Option (Nat × Nat) := if s.slot = 0 then none else s.sectAt (slotBase s.slot) ty inst

/-- A field of a section of the running image, 0 where the section is absent. -/
def State.img (s : State) (ty inst off n : Nat) : Nat := match s.sect ty inst with
  | some (a, _) => s.ldN (a + off) n
  | none => 0

/-- A field of the CHIP section (R76). -/
def State.chip (s : State) (off n : Nat) : Nat := s.img 1 0 off n
/-- The cycle period in µs. -/
def State.cycleUs (s : State) : Nat := s.chip 0 4
/-- The cycle period in 2^-16 ns. -/
def State.cycleT (s : State) : Nat := s.cycleUs * 1000 * 65536
/-- The record interval in s. -/
def State.intervalS (s : State) : Nat := s.chip 4 4
/-- Cycles per record interval (R76). -/
def State.cyclesPerInterval (s : State) : Nat := if s.cycleUs = 0 then 0 else s.intervalS * 1000000 / s.cycleUs
/-- Number of tasks (R86). -/
def State.ntask (s : State) : Nat := min 256 (s.img 9 0 0 2)
/-- A field of task k (R86). -/
def State.taskF (s : State) (k off n : Nat) : Nat := if k < s.ntask then s.img 9 0 (16 + 48 * k + off) n else 0
/-- Whether the image has a STREAM section for stream n. -/
def State.hasStream (s : State) (n : Nat) : Bool := (s.sect 4 n).isSome
/-- A field of the head of stream n (R81). -/
def State.streamF (s : State) (n off w : Nat) : Nat := s.img 4 n off w
/-- The streams with a STREAM section. -/
def State.streams (s : State) : List Nat := (List.range 32).filter fun st => s.hasStream st

/-- A field of path i of stream n (R81). -/
def State.pathF (s : State) (n i off : Nat) : Nat := s.img 4 n (64 + 8 * i + off) 2
/-- Number of shots (R83). -/
def State.nshot (s : State) : Nat := min 1024 (s.img 5 0 0 2)
/-- A field of shot k (R83, R133). -/
def State.shotF (s : State) (k off n : Nat) : Nat := if k < s.nshot then s.img 5 0 (16 + 32 * k + off) n else 0
/-- Number of chains (R80). -/
def State.nchain (s : State) : Nat := min 96 (s.img 7 0 0 2)
/-- The chain descriptor that carries CHAIN_ID c among the first `n`. -/
def State.chainPos (s : State) (c : Nat) : Nat → Option Nat
  | 0 => none
  | n + 1 => if s.img 7 0 (16 + 32 * n) 2 = c then some n else s.chainPos c n
/-- A field of the chain with CHAIN_ID c (R80). -/
def State.chainF (s : State) (c off n : Nat) : Nat := match s.chainPos c s.nchain with
  | some i => s.img 7 0 (16 + 32 * i + off) n
  | none => 0
/-- Whether the image has the chain. -/
def State.hasChain (s : State) (c : Nat) : Bool := (s.chainPos c s.nchain).isSome
/-- The totalizer descriptor of Tn of region r's pair (R77). -/
def State.totDesc (s : State) (r n : Nat) : Nat := s.img 2 r (0x20 + 4 * n) 4
/-- RAWBUF and CKPT bytes of region r (R77). -/
def State.rawbuf (s : State) (r : Nat) : Nat := s.img 2 r 4 4
/-- CKPT bytes of region r (R77). -/
def State.ckpt (s : State) (r : Nat) : Nat := s.img 2 r 8 4

end Sys2Proof.Machine
end

