-- ==== Sys2Proof/Machine/Totals.lean ====
section
/-! DEFINITION. Tally pairs as state, totals and their marks, interval figures, totalizer commits and FAULT entries: the operations that the tally, Spindle, fault and record
families share (R226 to R252, R342, R343, R397, R521, R522). -/

namespace Sys2Proof.Machine

/-! Pairs. -/

/-- A pair right after fabric load or reset. -/
def Pair.fresh : Pair :=
  { task := none, cycle := 0, td := 0, pc := 0, m := [], i := [], loops := [], tot := [], cmp0 := [], cmp1 := [], pend := [], pendC := [], stores := [], nstores := 0,
    journal := 0, jpos := 0, loads := 0, emits := [], written := [], avgs := [], rolled := false, propSt := (0, 0), propN := (0, 0), cyc := 0, params := [], log := none, words := [] }

/-- Pair p. -/
def State.pair (s : State) (p : Nat) : Pair := alGet Pair.fresh s.pairs p

/-- Replace pair p. -/
def State.setPair (s : State) (p : Nat) (x : Pair) : State := { s with pairs := alSet s.pairs p x }

/-- Interval of a cycle (R302, R521). -/
def State.intervalOf (s : State) (cycle : Nat) : Nat := if s.cyclesPerInterval = 0 then 0 else cycle / s.cyclesPerInterval

/-- Bank of a cycle (R248). -/
def State.bankOf (s : State) (cycle : Nat) : Nat := s.intervalOf cycle % 2

/-- The totalizer descriptor fields of R77. -/
def State.totUsed (s : State) (r n : Nat) : Bool := bitsOf (s.totDesc r n) 11 11 == 1
/-- UNIT of Tn. -/
def State.totUnit (s : State) (r n : Nat) : Nat := bitsOf (s.totDesc r n) 5 0
/-- STREAM of Tn. -/
def State.totStream (s : State) (r n : Nat) : Nat := bitsOf (s.totDesc r n) 10 6
/-- REC of Tn. -/
def State.totRec (s : State) (r n : Nat) : Bool := bitsOf (s.totDesc r n) 12 12 == 1
/-- MIRROR of Tn. -/
def State.totMirror (s : State) (r n : Nat) : Bool := bitsOf (s.totDesc r n) 13 13 == 1

/-- The used registers of a stream in region r, in increasing n. -/
def State.totsOf (s : State) (r stream : Nat) : List Nat := (List.range 64).filter fun n => s.totUsed r n && s.totStream r n == stream

/-- The used registers of region r. -/
def State.totsUsed (s : State) (r : Nat) : List Nat := (List.range 64).filter fun n => s.totUsed r n

/-- TOT word of Tn in a pair's file. -/
def Pair.totW (x : Pair) (n : Nat) : W128 := alGet 0 x.tot n

/-- Companion of Tn in bank b; one that nothing has accumulated into is zero in the descriptor's unit (R228). -/
def State.cmpW (s : State) (r b n : Nat) : W128 := alGet (cmpZero (s.totUnit r n)) (if b = 0 then (s.pair r).cmp0 else (s.pair r).cmp1) n

/-- Replace a companion. -/
def Pair.setCmp (x : Pair) (b n : Nat) (w : W128) : Pair := if b = 0 then { x with cmp0 := alSet x.cmp0 n w } else { x with cmp1 := alSet x.cmp1 n w }

/-- M register n. -/
def Pair.mr (x : Pair) (n : Nat) : W128 := alGet 0 x.m n
/-- I register n. -/
def Pair.ir (x : Pair) (n : Nat) : Word := alGet 0 x.i n
/-- The CKPT base of region r (R239). -/
def State.ckptBase (s : State) (r : Nat) : Nat := rgnBase r + s.rawbuf r

/-- Repeat the file's words of Tn in the totalizer image of the CKPT area (R239). -/
def State.totImage (s : State) (r n : Nat) : State :=
  let a := s.ckptBase r + 0x840 + 48 * n
  ((s.st128 a ((s.pair r).totW n)).st128 (a + 16) (s.cmpW r 0 n)).st128 (a + 32) (s.cmpW r 1 n)

/-- Repeat a list of registers in the totalizer image. -/
def State.totImages (s : State) (r : Nat) : List Nat → State
  | [] => s
  | n :: ns => (s.totImage r n).totImages r ns

/-- The index of a stream's accumulators (R239): bank b, register n. -/
def avgKey (stream b n : Nat) : Nat := 64 * stream + 32 * b + n

/-- An empty accumulator. -/
def Avg.empty : Avg := { sum := 0, usum := 0, n := 0, fl := 0, q := 0, unit := none }

/-- What an accumulator holds, as figures. -/
def Avg.figures (a : Avg) : List Nat := [utwo 128 a.sum, a.usum, a.n, a.fl, a.q, (a.unit.map (· + 1)).getD 0]

/-- OR flags into the accumulators of a list of registers. -/
def markAvgs (m : List (Nat × Avg)) (stream b fl : Nat) : List Nat → List (Nat × Avg)
  | [] => m
  | n :: ns =>
    let a := alGet Avg.empty m (avgKey stream b n)
    markAvgs (alSet m (avgKey stream b n) { a with fl := flOr a.fl fl }) stream b fl ns

/-- OR flags into the companions of a list of registers. -/
def State.markCmps (s : State) (r b fl : Nat) : List Nat → State
  | [] => s
  | n :: ns =>
    let c := Mq.ofWord (s.cmpW r b n)
    ((s.setPair r ((s.pair r).setCmp b n ({ c with fl := flOr c.fl fl } : Mq).word)).totImage r n).markCmps r b fl ns

/-- Averaged registers of a stream (R81 REC_AVG). -/
def State.avgRegs (s : State) (stream : Nat) : List Nat := (List.range 32).filter fun n => bitsOf (s.streamF stream 0x1C 4) n n == 1

/-- Set a flag in the companions of every used Tn of the stream and in the stream's accumulators, in the bank of a cycle (R247, R342, R343). -/
def State.markStream (s : State) (r stream cycle fl : Nat) : State :=
  if stream = 0xFF then s else
    let b := s.bankOf cycle
    let s := s.markCmps r b fl (s.totsOf r stream)
    s.setPair r { s.pair r with avgs := markAvgs (s.pair r).avgs stream b fl (s.avgRegs stream) }

/-! Interval figures (R521, R522). -/

/-- Whether any time of the part is spent UNSEALED, in safe state, or under a ladder level now: the figures an interval starts with. -/
def State.intervalNow (s : State) (num : Nat) : Interval :=
  { num := num, unsync := s.get F.TIME.STATUS.SYNC == 0, holdover := s.get F.TIME.STATUS.SYNC == 2, level := s.get F.SPN.STATUS.LEVEL, ncyc := 0, after := 0,
    flags := (if s.on F.SEAL.STATUS.SEALED then 0 else 1) + (if s.on F.FLT.STATUS.SAFE then 2 else 0) }

/-- The interval that Heartwood time lies in (R302). -/
def State.intervalNum (s : State) : Nat := if s.intervalS = 0 then 0 else s.sec / s.intervalS

/-- The figures of interval `num`, fresh ones where there are none yet. -/
def State.intervalGet (s : State) (num : Nat) : Interval := match alFind s.recs.cur num with
  | some x => x
  | none => s.intervalNow num

/-- Fold the present conditions and extra FLAGS bits into the figures of the current interval. -/
def State.intervalNote (s : State) (fl : Nat) : State :=
  let num := s.intervalNum
  let x := s.intervalGet num
  let y := s.intervalNow num
  let z : Interval := { x with unsync := x.unsync || y.unsync, holdover := x.holdover || y.holdover, level := max x.level y.level, flags := Nat.lor (Nat.lor x.flags y.flags) fl }
  { s with recs := { s.recs with cur := alSet s.recs.cur num z } }

/-- The figures of a stream in the interval of a cycle. -/
def State.streamGet (s : State) (stream num : Nat) : StreamInterval := match alFind s.recs.str (32 * num + stream) with
  | some x => x
  | none => { num := num, nsub := 0, ndeg := 0, flags := 0 }

/-- Add to NSUB, NDEG and the FLAGS of a stream in the interval of a cycle. -/
def State.streamNote (s : State) (stream cycle nsub ndeg fl : Nat) : State :=
  if stream = 0xFF then s else
    let num := s.intervalOf cycle
    let x := s.streamGet stream num
    let y : StreamInterval := { x with nsub := satAdd 0xFFFF x.nsub nsub, ndeg := satAdd 0xFFFF x.ndeg ndeg, flags := Nat.lor x.flags fl }
    { s with recs := { s.recs with str := alSet s.recs.str (32 * num + stream) y } }

/-! FAULT entries (R397). -/

/-- Codes that are logged on every occurrence. -/
def faultAlways (code : Nat) : Bool := (decide (2 ≤ code) && decide (code ≤ 5)) || (decide (0x50 ≤ code) && decide (code ≤ 0x53))

/-- A detected fault: counted, and logged with its code, region and 8 bytes of detail as R397 lays down. `key` is what a first occurrence is judged by: the region, or for TRAP
the task (R247). -/
def State.faultKey (s : State) (code region stream key : Nat) (detail : List Byte) : State :=
  let s := s.sat F.FLT.COUNT.FAULTS 1
  let data := leBytes 2 code ++ leBytes 1 region ++ [0] ++ detail
  if faultAlways code then s.auditPut 0x60 stream data
  else if s.flt.seen.contains (code, key) then s.sat F.FLT.COUNT.UNLOGGED 1
  else ({ s with flt := { s.flt with seen := s.flt.seen ++ [(code, key)] } }).auditPut 0x60 stream data

/-- A detected fault of a region (0xFF: none). -/
def State.fault (s : State) (code region stream : Nat) (detail : List Byte) : State := s.faultKey code region stream region detail

/-- The low 32 bits of the current cycle number, 4 bytes. -/
def State.cyc4 (s : State) : List Byte := leBytes 4 s.time.cycle

/-- The region a word belongs to, 0xFF none. -/
def scrubRegion (mem addr : Nat) : Nat := if mem = 1 then (addr - 0x10000000) / 0x200000 else if mem = 5 then addr / 2 ^ 24 / 4 else if mem = 6 then addr / 2 ^ 24 else 0xFF

/-- The memory that holds an address of Heartwood's RAM, as FLT.ECC.MEM numbers it. -/
def ramMem (addr : Nat) : Nat := if addr < 0x12000000 then 1 else if addr < 0x13000000 then 2 else if addr < 0x14000000 then 3 else 4

/-- A corrected memory error (R395). -/
def State.eccCorr (s : State) : State := s.sat F.FLT.ECC.CORR 1

/-- An uncorrectable memory error (R395): counted, located and logged as MEM_ECC. -/
def State.eccUncorr (s : State) (mem addr region : Nat) : State :=
  let s := ((s.sat F.FLT.ECC.UNCORR 1).set F.FLT.ECC.MEM mem).set F.FLT.ECC_ADDR.ADDR addr
  s.fault 0x30 region 0xFF (leBytes 1 mem ++ [0, 0, 0] ++ leBytes 4 addr)

/-- Refresh FLT.STATUS.ISO, TALLY.STATUS.ISO and HIC source 1 from the regions' states. -/
def State.isoShow (s : State) (r : Nat) : State :=
  let out := s.get (F.FLT.REGION_STAT.STATE r) != 0
  let s := s.setW F.FLT.STATUS.ISO.addr (BitVec.ofNat 32 (setBits (s.rw F.FLT.STATUS.ISO.addr).toNat (8 + r) (8 + r) (if out then 1 else 0)))
  let s := s.setB (F.TALLY.STATUS.ISO r) out
  s.icSample 0 1

/-- Whether region r is in service. -/
def State.regionUp (s : State) (r : Nat) : Bool := s.get (F.FLT.REGION_STAT.STATE r) == 0

/-! Totalizer commits to flash (R250, R251, R555). -/

/-- The regions with a REGION section. -/
def State.regions (s : State) : List Nat := (List.range 8).filter fun r => (s.sect 2 r).isSome

/-- Every used register of every region. -/
def State.usedAll (s : State) : List (Nat × Nat) := s.regions.flatMap fun r => (s.totsUsed r).map fun n => (r, n)

/-- Bytes of a commit block: the header with its CRC, then the entries (R251). -/
def commitBytes (gen kind cycle sec ns : Nat) (es : List (Nat × (W128 × W128))) : List Byte :=
  let head := [0x47, 0x54, 0x4F, 0x54] ++ leBytes 4 gen ++ leBytes 4 kind ++ leBytes 8 cycle ++ leBytes 4 es.length ++ leBytes 8 sec ++ leBytes 4 ns ++ List.replicate 24 0
  let body := es.flatMap fun e => leBytes 1 (e.1 / 64) ++ leBytes 1 (e.1 % 64) ++ List.replicate 14 0 ++ leBytes 16 e.2.1.toNat ++ leBytes 16 e.2.2.toNat
  head ++ leBytes 4 (crc32c (head ++ leBytes 4 0 ++ body)) ++ body

/-- The length of the commit block of the running image. -/
def State.commitLen (s : State) : Nat := 64 + 48 * s.usedAll.length

/-- Where the next commit block begins (R555): packed in zone 1, from the zone's first word where it would not fit before the end. -/
def State.commitAddr (s : State) : Nat := if s.recs.wpos + s.commitLen ≤ 0x08200000 then s.recs.wpos else 0x08100000

/-- Append a totalizer commit (R251): every used Tn with the companion of the open interval's bank, which is the bank of the last committed release. -/
def State.totCommit (s : State) (kind : Nat) : State :=
  let b := s.bankOf s.recs.lastRelease
  let es := s.usedAll.map fun (e : Nat × Nat) => (64 * e.1 + e.2, ((s.pair e.1).totW e.2, s.cmpW e.1 b e.2))
  let a := s.commitAddr
  let bytes := commitBytes s.recs.gen kind s.recs.lastRelease s.sec s.ns es
  let c : Commit := { addr := a, gen := s.recs.gen, kind := kind, cycle := s.recs.lastRelease, sec := s.sec, ns := s.ns, entries := es, bad := false }
  let s := s.stBytes a bytes
  { s with recs := { s.recs with commits := c :: s.recs.commits, wpos := a + bytes.length, gen := s.recs.gen + 1 } }

/-- The valid commit: the newest whose CRC matches (R251). -/
def State.validCommit (s : State) : Option Commit := s.recs.commits.find? fun c => !c.bad

/-- Load Tn of region r from a commit, its companion into the bank of the commit's interval (R252). -/
def State.restoreTot (s : State) (c : Option Commit) (r n : Nat) : State :=
  let e := match c with
    | some k => (alFind k.entries (64 * r + n)).getD (0, cmpZero (s.totUnit r n))
    | none => (0, cmpZero (s.totUnit r n))
  let b := match c with
    | some k => s.bankOf k.cycle
    | none => 0
  let x := s.pair r
  let x := { x with tot := alSet x.tot n e.1 }
  (s.setPair r ((x.setCmp (1 - b) n (cmpZero (s.totUnit r n))).setCmp b n e.2)).totImage r n

/-- Load a list of registers of region r from a commit. -/
def State.restoreTots (s : State) (c : Option Commit) (r : Nat) : List Nat → State
  | [] => s
  | n :: ns => (s.restoreTot c r n).restoreTots c r ns

/-- The offset of task k's state block in the region's SRAM (R239). -/
def State.blockBase (s : State) (k : Nat) : Nat :=
  let r := s.taskF k 2 1
  s.ckptBase r + 0x2C40 + 576 * ((List.range k).filter fun j => s.taskF j 2 1 == r).length

/-- Tasks of region r. -/
def State.tasksOf (s : State) (r : Nat) : List Nat := (List.range s.ntask).filter fun k => s.taskF k 2 1 == r

/-- Clear the state blocks of a list of tasks (R235). -/
def State.clearBlocks (s : State) : List Nat → State
  | [] => s
  | k :: ks => (s.wipe (s.blockBase k) 576).clearBlocks ks

/-- State blocks and accumulators of region r as fabric load sets them (R235, R252). -/
def State.freshBlocks (s : State) (r : Nat) : State :=
  let s := s.clearBlocks (s.tasksOf r)
  s.setPair r { s.pair r with written := [], avgs := [] }

/-- The PARAM entries of the running image: PARAM_ID, STREAM, REGION and VALUE of entry j (R88). -/
def State.nparam (s : State) : Nat := min 256 (s.img 11 0 0 2)
/-- A field of PARAM entry j. -/
def State.paramF (s : State) (j off n : Nat) : Nat := if j < s.nparam then s.img 11 0 (16 + 16 * j + off) n else 0
/-- The current value of the parameter of entry j, 64 bits: the image's until the first change (R100). Stored values belong to a PARAM_ID, so they stay when a start falls back to the other image (DESIGN CHOICE, log entry 188). -/
def State.paramVal (s : State) (j : Nat) : Nat := (alFind s.params (s.paramF j 0 2)).getD (s.paramF j 8 8)

/-- Write the parameter page entries of region r from a list of PARAM entries (R240). -/
def State.paramPage (s : State) (r : Nat) : List Nat → State
  | [] => s
  | j :: js => (if s.paramF j 3 1 = r then (s.stN (s.ckptBase r + 8 * s.paramF j 0 2) 8 (s.paramVal j)).snapDrop 0 (s.ckptBase r + 8 * s.paramF j 0 2) else s).paramPage r js

/-- Fill the parameter page of region r (R240). -/
def State.fillParams (s : State) (r : Nat) : State := (s.wipe (s.ckptBase r) 2048).paramPage r (List.range s.nparam)

end Sys2Proof.Machine
end

