-- ==== Sys2Proof/WellFormed.lean ====
section
/-! DEFINITION. Which commands exist: the operand ranges of the units the part has (32 comparators, 16 lanes, 8 pairs and so on, R24, R30). A command outside
these ranges names nothing the part has; its meaning answers the fault noSuchUnit. -/

namespace Sys2Proof

/-- CSP ports with a controller: CSP0 to CSP3 and CSP5 (CSP4 is the host target). -/
def cspExists (n : Nat) : Bool := n == 0 || n == 1 || n == 2 || n == 3 || n == 5

/-- Addresses of the registers with access SL: SDC.CFGn, SDC.EXCk and PIN.CFGn (R176). -/
def slAddr (a : Nat) : Bool := a % 4 == 0 && ((decide (0x400A0000 ≤ a) && decide (a < 0x400A00C0)) || (decide (0x400A0100 ≤ a) && decide (a < 0x400A0160)) || (decide (0x400B0000 ≤ a) && decide (a < 0x400B0080)))

/-- Inputs of property table t (R266). -/
def propInputs (t : Nat) : Nat := if 5 ≤ t ∧ t ≤ 8 then 1 else if 9 ≤ t then 3 else 2

/-- COND with its A and B is a defined encoding (R273). -/
def condOk (c a b : Nat) : Bool :=
  if c = 0 then a == 0 && b == 0 else if c ≤ 6 then decide (a < 8) && decide (b < 8) else if c = 7 then decide (a < 8) && decide (b < 32)
  else if c ≤ 9 then decide (a < 32) && decide (b < 32) else if c = 10 then decide (a < 32) && decide (b < 6) else if c = 11 then decide (a < 32) && decide (b < 16)
  else decide (c ≤ 13) && decide (a < 32) && b == 0

/-- A 64-bit word of a Heartwood SRAM (R33): regions (1), shared echo SRAM (2), HSC SRAM (3), block memory (5) and tally program memory (6), the last two as FLT.ECC_ADDR names them. -/
def sramWord (mem a : Nat) : Bool :=
  a % 8 == 0 && (if mem = 1 then decide (0x10000000 ≤ a) && decide (a < 0x11000000) && decide (a % 0x200000 < 0x180000) else if mem = 2 then decide (0x12000000 ≤ a) && decide (a < 0x12200000)
  else if mem = 3 then decide (0x13000000 ≤ a) && decide (a < 0x13080000) else if mem = 5 then decide (a / 2 ^ 24 < 32) && decide (a % 2 ^ 24 < 65536) else mem == 6 && decide (a / 2 ^ 24 < 8) && decide (a % 2 ^ 24 < 131072))

/-- A bit of a Heartwood register field with Seal Yes that is loaded from the image, the settings record or the calibration record (R396): ACQ.AVGn, ECHO.PATHSn, the SL fields, CHAIN.BANKn.ACTIVE,
TIME.CMPCTRLn.LOCK and CAL.SKEWn. -/
def parityBit (a bit : Nat) : Bool :=
  (a % 4 == 0 && decide (0x40180080 ≤ a) && decide (a < 0x40180100) && decide (bit < 5)) || (a % 4 == 0 && decide (0x40090100 ≤ a) && decide (a < 0x40090180) && decide (bit < 16)) ||
  (a % 4 == 0 && decide (0x400A0000 ≤ a) && decide (a < 0x400A00C0) && (decide (bit < 3) || (decide (4 ≤ bit) && decide (bit < 7)) || (decide (8 ≤ bit) && decide (bit < 13)))) ||
  (a % 4 == 0 && decide (0x400A0100 ≤ a) && decide (a < 0x400A0160) && decide (bit < 3)) || (a % 4 == 0 && decide (0x400B0000 ≤ a) && decide (a < 0x400B0080) && decide (bit < 28)) ||
  (a % 4 == 0 && decide (0x400C0100 ≤ a) && decide (a < 0x400C0180) && bit == 0) || (decide (0x40040100 ≤ a) && decide (a < 0x40040500) &&
    ((a % 32 == 0 && (decide (bit < 2) || bit == 4 || (decide (16 ≤ bit) && decide (bit < 32)))) || (a % 32 == 4 && decide (bit < 32)) || (a % 32 == 8 && decide (bit < 16)))) ||
  (a % 4 == 0 && decide (0x400F0300 ≤ a) && decide (a < 0x400F0340) && decide (bit < 32))

/-- The command names units the part has. -/
def Instr.wf : Instr → Bool
  | .pornLow _ => true
  | .srstnLow _ => true
  | .heartwoodRailLoss rail => rail < 4
  | .supplyGood sup => sup < 7
  | .testenHigh _ => true
  | .classHReset cause _ _ => cause < 2
  | .startUpSequence _ cut _ => decide (cut ≤ 12)
  | .bankCapacitanceCheck samples => decide (samples.length ≤ 6) && samples.all fun (e : Nat × Int) => decide (e.1 < 4096) && decide (-2048 ≤ e.2) && decide (e.2 < 2048)
  | .srstReq _ => true
  | .sc1Boot _ => true
  | .sealPatternAdvance _ => true
  | .slWrite addr _ => slAddr addr
  | .status _ => true
  | .ident _ => true
  | .auditRead _ => true
  | .recordRead _ => true
  | .setField _ => true
  | .setParam _ => true
  | .timeSlew _ => true
  | .timeStep _ => true
  | .imageBegin _ => true
  | .imageData _ => true
  | .imageEnd _ => true
  | .imageActivate _ _ _ => true
  | .calRun _ => true
  | .zeroCal _ => true
  | .auditClear _ => true
  | .hreset _ _ _ => true
  | .keySlot _ => true
  | .debugEnable _ => true
  | .auditEntryProgram _ => true
  | .auditControlRecordCopy _ => true
  | .triggerMatch n => n < 32
  | .comparatorWrite n reg _ => n < 32 && reg < 6
  | .firing seq => seq < 32
  | .crosspointConnect lane => lane < 16
  | .captureWindowClose lane _ _ _ => lane < 16
  | .acqClr _ => true
  | .echoJob e => e < 4
  | .echoWatchdog e => e < 4
  | .echoClr _ => true
  | .modulatorWarmEnd n => n < 48
  | .pulseEdge n _ => n < 32
  | .pulseBlockWrite stream => stream < 32
  | .pulseStuckTimeout n => n < 32
  | .pinRunloRead n => n < 32
  | .chainSampleWrite c _ _ _ _ => c < 96
  | .coefLoad block bank _ => block < 32 && bank < 2
  | .coefSwap _ _ => true
  | .swapTakeEffect _ => true
  | .jobAdmission k => k < 256
  | .taskDispatch k => k < 256
  | .jobAbandon k => k < 256
  | .regionWatchdogExpiry n => n < 8
  | .add p rd ra rb => p < 8 && rd < 6 && ra < 8 && rb < 8
  | .sub p rd ra rb => p < 8 && rd < 6 && ra < 8 && rb < 8
  | .and p rd ra rb => p < 8 && rd < 6 && ra < 8 && rb < 8
  | .or p rd ra rb => p < 8 && rd < 6 && ra < 8 && rb < 8
  | .xor p rd ra rb => p < 8 && rd < 6 && ra < 8 && rb < 8
  | .sll p rd ra rb => p < 8 && rd < 6 && ra < 8 && rb < 8
  | .srl p rd ra rb => p < 8 && rd < 6 && ra < 8 && rb < 8
  | .sra p rd ra rb => p < 8 && rd < 6 && ra < 8 && rb < 8
  | .mul p rd ra rb => p < 8 && rd < 6 && ra < 8 && rb < 8
  | .addi p rd ra _ => p < 8 && rd < 6 && ra < 8
  | .andi p rd ra _ => p < 8 && rd < 6 && ra < 8
  | .ori p rd ra _ => p < 8 && rd < 6 && ra < 8
  | .lui p rd _ => p < 8 && rd < 6
  | .li p rd _ => p < 8 && rd < 6
  | .addC p md ma mb => p < 8 && md < 32 && ma < 32 && mb < 32
  | .addU p md ma mb => p < 8 && md < 32 && ma < 32 && mb < 32
  | .subC p md ma mb => p < 8 && md < 32 && ma < 32 && mb < 32
  | .subU p md ma mb => p < 8 && md < 32 && ma < 32 && mb < 32
  | .mulC p md ma mb unit => p < 8 && md < 32 && ma < 32 && mb < 32 && unit < 64
  | .mulU p md ma mb unit => p < 8 && md < 32 && ma < 32 && mb < 32 && unit < 64
  | .divC p md ma mb unit => p < 8 && md < 32 && ma < 32 && mb < 32 && unit < 64
  | .divU p md ma mb unit => p < 8 && md < 32 && ma < 32 && mb < 32 && unit < 64
  | .sqrt p md ma unit => p < 8 && md < 32 && ma < 32 && unit < 64
  | .neg p md ma => p < 8 && md < 32 && ma < 32
  | .abs p md ma => p < 8 && md < 32 && ma < 32
  | .min p md ma mb => p < 8 && md < 32 && ma < 32 && mb < 32
  | .max p md ma mb => p < 8 && md < 32 && ma < 32 && mb < 32
  | .mov p md ma => p < 8 && md < 32 && ma < 32
  | .uwid p md ma mb => p < 8 && md < 32 && ma < 32 && mb < 32
  | .scli p md ma ib sh => p < 8 && md < 32 && ma < 32 && ib < 8 && sh ≤ 40
  | .cvu p md ma unit => p < 8 && md < 32 && ma < 32 && unit < 64
  | .cvt p md ia unit sh => p < 8 && md < 32 && ia < 8 && unit < 64 && sh ≤ 40
  | .cvi p id ma sh => p < 8 && id < 6 && ma < 32 && sh ≤ 40
  | .setf p md ma mask qual => p < 8 && md < 32 && ma < 32 && mask < 64 && qual < 16
  | .ldp p md param unit => p < 8 && md < 32 && param < 256 && unit < 64
  | .prop p md ma tbl _ => p < 8 && md < 32 && decide (1 ≤ tbl) && tbl < 12 && ma + propInputs tbl ≤ 32
  | .ld p md _ base idx => p < 8 && md < 32 && base < 8 && idx < 65536
  | .st p ma _ base idx => p < 8 && ma < 32 && base < 8 && idx < 65536
  | .ldl p id _ base idx lane => p < 8 && id < 6 && base < 8 && idx < 65536 && lane < 4
  | .tacc p tn ma _ => p < 8 && tn < 64 && ma < 32
  | .trdc p md tn => p < 8 && md < 32 && tn < 64
  | .br p cond ra rb off => p < 8 && condOk cond ra rb && off < 4096
  | .loop p x count len => p < 8 && x < 6 && count < 2048 && decide (1 ≤ len) && len < 4096
  | .inChain p => p < 8
  | .inPath p => p < 8
  | .inPulse p => p < 8
  | .orifice p => p < 8
  | .venturi p => p < 8
  | .upath p => p < 8
  | .kfactor p => p < 8
  | .freq p => p < 8
  | .normvol p _ => p < 8
  | .density p _ => p < 8
  | .tend p _ => p < 8
  | .emitv p m => p < 8 && m < 32
  | .emitt p t => p < 8 && t < 64
  | .emite p m code => p < 8 && m < 32 && code < 4096
  | .emiti p x y code => p < 8 && x < 8 && y < 8 && code < 4096
  | .recordSnapshot p => p < 8
  | .intervalRecord _ _ => true
  | .xofsLearn _ => true
  | .timeStampGo _ => true
  | .gaugeSample code isns => code < 4096 && decide (-2048 ≤ isns) && decide (isns < 2048)
  | .powerFailCommit _ _ => true
  | .temperatureSample temps => temps.length == 12
  | .frostEntry _ trig _ _ => trig < 3
  | .spindleAlarm _ => true
  | .thawWinter src _ _ => src < 12
  | .thawFrost src _ _ _ => src < 12
  | .hfxoRestart _ _ _ => true
  | .pllUnlock pll _ => pll < 3
  | .calibrationDue kind ch => decide (1 ≤ kind) && kind < 7 && ch < 48
  | .calibrationHoldEnd _ _ _ _ _ => true
  | .interconnectFault master _ => master < 10
  | .hscWatchdogExpiry cause _ _ => 1 ≤ cause && cause ≤ 3
  | .safeExit _ => true
  | .hscWdtKick _ => true
  | .scrub mem addr err => sramWord mem addr && err < 3
  | .regParity addr bit => parityBit addr bit
  | .flashRead dom core _ _ _ _ _ _ => dom < 2 && core < 2 && (dom == 1 || core == 0)
  | .flashProgram dom core _ _ _ _ _ _ => dom < 2 && core < 2 && (dom == 1 || core == 0)
  | .flashErase dom _ _ => dom < 2
  | .eraseEnd dom _ => dom < 2
  | .flashStatus dom _ => dom < 2
  | .suspend dom _ => dom < 2
  | .resume dom _ => dom < 2
  | .unlock dom core _ _ _ => dom < 2 && core < 2 && (dom == 1 || core == 0)
  | .lock dom _ _ => dom < 2
  | .setpw dom core _ _ _ _ => dom < 2 && core < 2 && (dom == 1 || core == 0)
  | .zonecfg dom _ _ _ => dom < 2
  | .ecnt dom _ _ => dom < 2
  | .margin dom _ _ _ _ _ => dom < 2
  | .marginScrubPass _ _ _ => true
  | .interruptSourceEvent c n _ => c < 2 && n < 256
  | .claim c t => c < 2 && t < 2 && (c == 1 || t == 0)
  | .complete c t _ => c < 2 && t < 2 && (c == 1 || t == 0)
  | .moderationTimeout c t => c < 2 && t < 2 && (c == 1 || t == 0)
  | .stormClear c k _ => c < 2 && k < 8
  | .stormWindowEnd c n => c < 2 && n < 256
  | .compareMatch g k => g < 4 && k < 8
  | .periodEnd g k => g < 4 && k < 8
  | .tmrStart g _ => g < 4
  | .tmrStop g _ => g < 4
  | .wdtKick _ => true
  | .twGo n _ => n < 8
  | .twTransferEnd n _ _ => n < 8
  | .arbLost n _ _ _ => n < 8
  | .arbitrationRetry n => n < 8
  | .stretchTimeout n => n < 8
  | .sclLowTimeout n => n < 8
  | .sdaLowTimeout n => n < 8
  | .twBusErr n _ _ => n < 8
  | .twAbort n _ => n < 8
  | .recover n _ => n < 8
  | .twTxdata n _ => n < 8
  | .twRxdata n => n < 8
  | .alertResponseRead n _ _ => n < 8
  | .twmAddressMatch _ => true
  | .twmWrite _ _ => true
  | .twmRead _ => true
  | .twmAraAnswer _ => true
  | .cspGo n => cspExists n
  | .cspFrameEnd n _ _ => cspExists n
  | .cspTxdata n _ _ => cspExists n
  | .cspRxdata n _ => cspExists n
  | .cspAbort n _ => cspExists n
  | .modeFault n _ => n == 2 || n == 3
  | .targetSelectionEnd n _ => n == 2 || n == 3
  | .csp4Frame _ _ => true
  | .discover _ => true
  | .xipFetch _ addr _ _ => decide (0x30000000 ≤ addr) && decide (addr < 0x40000000)
  | .ethTransmitFrame n _ => n < 3
  | .ethReceiveFrame n _ _ _ => n < 3
  | .ethReceiveDeliver n => n < 3
  | .txctlPoll n _ => n < 3
  | .rxctlPoll n _ => n < 3
  | .linkChange n _ _ => n < 3
  | .mdioGo _ => true
  | .tsqRead n => n < 3
  | .tsqPop n => n < 3
  | .submit _ => true
  | .long _ => true
  | .write _ _ => true
  | .debugAccess dom op hart _ _ _ _ => decide (dom < 2) && decide (op < 4) && decide (hart < (if op = 3 then 5 else if dom = 0 then 1 else 2))
  | .busAccessError dom kind master _ _ _ => decide (dom < 3) && decide (1 ≤ kind) && decide (kind < 7) && decide (master < (if dom = 0 then 10 else if dom = 1 then 8 else 1))
  | .registerWrite dom master _ _ _ => decide (dom < 3) && decide (master < (if dom = 0 then 10 else if dom = 1 then 8 else 1))
  | .doorbell phase _ _ => decide (phase ≤ 2)
  | .pulsePhaseRemoved n _ _ => n < 32
  | .pulseUncountedEdge n _ => n < 32
  | .mdioFrameEnd _ => true
  | .w0SnapshotRead master _ => master < 10
  | .mret core => core < 2
  | .vddAoFail => true
  | .vddSwLoss => true
  | .vddSwReturn => true
  | .sapwoodBoot => true
  | .sealOpen _ _ => true
  | .sealClose _ _ => true
  | .imageLoadTimeout => true
  | .zeroCalEnd => true
  | .ringEntryRead => true
  | .pop => true
  | .clrOvr => true
  | .cycleInstant => true
  | .timeStepApply => true
  | .holdoverTimeout => true
  | .gwTimeRead => true
  | .timeNowRead => true
  | .timeCycleRead => true
  | .energyScaleUpdate => true
  | .sapwoodGate => true
  | .winterEntry => true
  | .seasonAlarm => true
  | .xtal32Fail => true
  | .hfrcFail => true
  | .hfxoFail => true
  | .calibrationStart => true
  | .wdtWarn => true
  | .wdtLimit => true
  | .twmBusErr => true
  | .contMaxExpiry => true
  | .fwOutPop => true
  | .hostForward => true
  | .hostResultCollect => true
  | .hostGatewayTimeout => true
  | .hstatus => true
  | .getResult => true
  | .events => true
  | .time => true
  | .wakePolicy => true
  | .app => true
  | .appTimeout => true
  | .eventQueueMove => true
  | .eraseSlot => true
  | .done => true
  | .phaseAmortised => true
  | .csp4SelectAsserted => true
  | .vddioSLoss => true

end Sys2Proof
end

