-- ==== Sys2Proof/Machine/TimeBase.lean ====
section
/-! DEFINITION. The time base: rates, the passage of time, snapshots of time, and the synchronisation state (Time base, PTP and the trigger matrix, R295 to R318). -/

namespace Sys2Proof.Machine

/-- A rate limited to ±200 ppm (R307). -/
def rateLimit (x : Int) : Int := clampI (-200000000) 200000000 x

/-- The sign of an integer. -/
def sgn (x : Int) : Int := if x < 0 then -1 else if x = 0 then 0 else 1

/-- The rate asked for: FREQ and, while phase remains, RATE in its direction (R307). -/
def TimeBase.asked (tb : TimeBase) : Int := tb.freq + sgn tb.phase * (tb.rate : Int)

/-- Phase left to amortise in whole nanoseconds, toward zero (R307, TIME.PHASE). -/
def TimeBase.phaseNs (tb : TimeBase) : Int := Int.tdiv tb.phase (65536 * 1000000000000)

/-- Show the time base in TIME.FREQ, TIME.PHASE and TIME.STATUS (R296, R307): FREQ shows the rate in force. -/
def State.timeShow (s : State) : State :=
  let s := s.setI F.TIME.FREQ.VALUE (rateLimit s.time.asked)
  let s := s.setI F.TIME.PHASE.VALUE s.time.phaseNs
  let s := s.setB F.TIME.STATUS.SLEWING (s.time.phase != 0)
  if rateLimit s.time.asked = s.time.asked then s else s.set F.TIME.STATUS.CLAMP 1

/-- The phase left after `amount` of it, in 10^-12 of 2^-16 ns, has been amortised in the direction given: it stops at zero. -/
def amortise (phase amount : Int) : Int :=
  if phase > 0 then (if amount > 0 then (if phase ≤ amount then 0 else phase - amount) else phase)
  else if phase < 0 then (if amount < 0 then (if amount ≤ phase then 0 else phase - amount) else phase)
  else 0

/-- `d` has elapsed (2^-16 ns): since the last correction (R299), and awake in SYNC (R297). -/
def State.elapsed (s : State) (d : Nat) : State :=
  { s with time := { s.time with hold := s.time.hold + d, awake := if s.time.fast && s.get F.TIME.STATUS.SYNC == 1 then s.time.awake + d else 0 } }

/-- Time, phase and PLL_SYS ticks after a move of Heartwood time. -/
def State.timeSet (s : State) (t : Nat) (p : Int) (n : Nat) : State := { s with time := { s.time with t := t, acc := 0, phase := p, plls := s.time.plls + n } }

/-- Heartwood time restarts at an instant after class P (R61): no time has elapsed, and a PLL_SYS that runs for Sapwood has counted nothing. -/
def State.timeRestart (s : State) (t : Nat) : State := s.timeSet t s.time.phase 0

/-- The first modulator edge later than an instant (R170), as its number since the epoch. -/
def edgeAfter (t : Nat) : Nat := t * 4096000 / secT + 1

/-- The instant of modulator edge e (R170). -/
def edgeT (e : Int) : Nat := e.toNat * secT / 4096000

/-- A span of modulator edges in which bits alternate (R171): it extends the newest span of the same modulators where it follows it. -/
def quietAdd (n : Nat) (a b : Int) (qs : List (Nat × (Int × Int))) : List (Nat × (Int × Int)) :=
  if b < a then qs else match qs with
    | (m, (c, d)) :: rest => if m = n ∧ c ≤ a ∧ a ≤ d + 1 then (n, (c, max d b)) :: rest else (n, (a, b)) :: qs
    | [] => [(n, (a, b))]

/-- As Heartwood time moves to an instant, the edges passed with PLL_AUX unlocked or VDDA_SD not good are noted (R171). -/
def State.quietNote (s : State) (t : Nat) : State :=
  if s.fabric.chains.isEmpty || (s.on F.CLK.STATUS.AUX_LOCK && s.pins.vddaSd) then s
  else { s with front := { s.front with quiet := quietAdd 48 (edgeAfter s.time.t) ((edgeAfter t : Int) - 1) s.front.quiet } }

/-- Move Heartwood time forward to an instant: the phase is amortised by the share of the rate that belongs to it (R296, R307). An instant already past changes nothing. -/
def State.advanceTo (s : State) (t : Nat) : State :=
  if t ≤ s.time.t then s else
    let s := s.quietNote t
    let r := rateLimit s.time.asked
    let share := r - rateLimit s.time.freq
    let d : Int := ((t - s.time.t : Nat) : Int)
    let p := amortise s.time.phase (d * 1000000000000 * share / (1000000000000 + r))
    let n := if s.time.sys then (t - s.time.t) * 1000000000000 / (262144 * (1000000000000 + r)).toNat else 0
    ((s.elapsed (t - s.time.t)).timeSet t p n).timeShow

/-- One tick of the fast time base: 4 ns at the rate in force (R296). -/
def State.tickFast (s : State) : State :=
  let r := rateLimit s.time.asked
  let share := r - rateLimit s.time.freq
  let a := s.time.acc + (262144 * (1000000000000 + r)).toNat
  let p := amortise s.time.phase (262144 * share)
  let s := s.elapsed (a / 1000000000000)
  ({ s with time := { s.time with t := s.time.t + a / 1000000000000, acc := a % 1000000000000, phase := p, plls := s.time.plls + 1 } }).timeShow

/-- Pass `n` ticks of PLL_SYS. -/
def State.advancePlls (s : State) (n : Nat) : State :=
  if n = 0 || !s.time.sys then s
  else
    let u := s.advanceTo (s.time.t + n * (262144 * (1000000000000 + rateLimit s.time.asked)).toNat / 1000000000000)
    { u with time := { u.time with plls := s.time.plls + n } }

/-! Time carried by the sleep counter (R61, R297, R298). -/

/-- The rate model of R297 in ppt, with the last reading of the always-on sensor: XOFS is in 0.1 ppm, BETA in 0.1 ppb/K², TURN in °C. On LFRC (R362) the learned rate takes its place and counts are taken as nominal (log entry 166). -/
def State.sleepRate (s : State) : Int :=
  let d := s.time.tao - 10 * s.getI F.TIME.XTAL.TURN
  if s.season.lfrc then 0 else 100000 * s.getI F.TIME.XTAL.XOFS - s.get F.TIME.XTAL.BETA * (d * d)

/-- One nominal period of the sleep counter in 2^-16 ns: XTAL32 at 32,768 Hz, LFRC at 32 kHz (R360). -/
def State.sleepPeriod (s : State) : Nat := if s.season.lfrc then 2048000000 else 2000000000

/-- Heartwood time moves on by `x` in 10^-12 of 2^-16 ns. -/
def State.carryBy (s : State) (x : Nat) : State :=
  let a := s.time.acc + x
  let s := s.elapsed (a / 1000000000000)
  { s with time := { s.time with t := s.time.t + a / 1000000000000, acc := a % 1000000000000 } }

/-- Heartwood time moves on by `d` of the counting clock (2^-16 ns), whose frequency is off by `f` ppt: each period lasts 1/(1 + f) of its nominal length (DEDUCED, log entry 166). -/
def State.carry (s : State) (d : Nat) (f : Int) : State := s.carryBy (d * 1000000000000000000000000 / (max 1 (1000000000000 + f)).toNat)

/-- The sleep counter counts `n` periods: the model takes one reading of the sensor for each second of counts, and the last one for the rest (R297). -/
def State.carryCounts (s : State) : Nat → List Int → State
  | n, [] => s.carry (n * s.sleepPeriod) s.sleepRate
  | n, x :: xs =>
    let s := { s with time := { s.time with tao := x } }
    (s.carry (min n 32768 * s.sleepPeriod) s.sleepRate).carryCounts (n - 32768) xs

/-- What passed while the sleep counter carried time: its counts with the readings of the sensor, then the HFXO periods counted since the wake in nominal ns, at the rate in force (R297, R355). -/
def State.asleep (s : State) (z : Asleep) : State := (s.carryCounts z.counts z.tao).carryBy (z.hfxoNs * 65536 * (1000000000000 + rateLimit s.time.freq).toNat)

/-- Heartwood time moves to an instant while the sleep counter carries it. -/
def State.sleepTo (s : State) (t : Nat) : State := if t ≤ s.time.t then s else (s.elapsed (t - s.time.t)).timeSet t s.time.phase 0

/-- What passed before an event that finds the sleep counter carrying time; awake, nothing has. -/
def State.passed (s : State) (z : Asleep) : State := if s.time.fast || s.boot.cls == 1 || s.pins.heldAo then s else s.asleep z

/-- The idle step (log entry 1): one tick of PLL_SYS while it runs, else one period of the sleep counter. After class P, and while the always-on domain is held in reset, time stands until step 2 of the start (R61). -/
def State.tick (s : State) : State :=
  if s.time.fast then s.tickFast
  else
    let up := !(s.boot.cls == 1 || s.pins.heldAo)
    let t := if up then s.carry (if s.time.sys then 262144 else s.sleepPeriod) s.sleepRate else s
    if s.time.sys then { t with time := { t.time with plls := t.time.plls + 1 } } else t

/-- The four words of a time snapshot (R295): NS, SEC low, SEC high, FRAC. -/
def State.timeWord (s : State) (k : Nat) : Nat :=
  if k = 0 then s.ns else if k = 1 then s.sec % 2 ^ 32 else if k = 2 then s.sec / 2 ^ 32 % 2 ^ 32 else s.frac

/-- A read of TIME.NOW0: all four words are the snapshot (R295, R430). -/
def execTimeNowRead (s : State) : Host.Outcome State Fault Refusal :=
  .next ((((s.set (F.TIME.NOW.ALL 0) (s.timeWord 0)).set (F.TIME.NOW.ALL 1) (s.timeWord 1)).set (F.TIME.NOW.ALL 2) (s.timeWord 2)).set (F.TIME.NOW.ALL 3) (s.timeWord 3))

/-- GO captures Heartwood time into TIME.STAMP0 to TIME.STAMP3 (R317). -/
def State.timeStamp (s : State) (value : Word) : State :=
  if bitsOf value.toNat 0 0 = 1 then
    (((s.set (F.TIME.STAMPW.ALL 0) (s.timeWord 0)).set (F.TIME.STAMPW.ALL 1) (s.timeWord 1)).set (F.TIME.STAMPW.ALL 2) (s.timeWord 2)).set (F.TIME.STAMPW.ALL 3) (s.timeWord 3)
  else s

/-- A write of TIME.STAMP (R317). -/
def execTimeStampGo (value : Word) (s : State) : Host.Outcome State Fault Refusal := .next (s.timeStamp value)

/-- Heartwood time is valid: Heartwood is out of reset and step 7 of start-up has completed (R312). -/
def State.timeValid (s : State) : Bool := s.on F.FLT.BOOT_STATUS.READY && !s.pins.heldH

/-- The word k that a read of GW.TIME0 would give (R312). -/
def State.gwTime (s : State) (k : Nat) : Nat := if !s.timeValid then 0 else if k = 3 then s.frac + s.get F.TIME.STATUS.SYNC * 2 ^ 16 + 2 ^ 31 else s.timeWord k

/-- A Sapwood read of GW.TIME0 (R312). -/
def execGwTimeRead (s : State) : Host.Outcome State Fault Refusal :=
  .next ((((s.set (F.GW.TIME.ALL 0) (s.gwTime 0)).set (F.GW.TIME.ALL 1) (s.gwTime 1)).set (F.GW.TIME.ALL 2) (s.gwTime 2)).set (F.GW.TIME.ALL 3) (s.gwTime 3))

/-- A read of TIME.CYCLE_LO snapshots the number of the last fired cycle (R300). -/
def execTimeCycleRead (s : State) : Host.Outcome State Fault Refusal :=
  .next ((s.set (F.TIME.CYCLE.CYCLE 0) s.time.cycle).set (F.TIME.CYCLE.CYCLE 1) (s.time.cycle / 2 ^ 32))

/-- Heartwood time at which TIME.HOLD seconds will have elapsed since the last accepted correction (R299). -/
def State.holdEnd (s : State) : Nat := s.time.t + (s.get F.TIME.HOLD.SECONDS * secT - s.time.hold)

/-- A class H or class F start from SYNC enters HOLDOVER (R299). -/
def State.syncLost (s : State) : State := if s.get F.TIME.STATUS.SYNC = 1 then s.set F.TIME.STATUS.SYNC 2 else s

/-- XOFS moved an eighth of the way towards the measured offset, both in 0.1 ppm; where the eighth is no whole unit the manual does not say which neighbour is
taken (free, log entry 2). -/
def xofsNext (x m : Int) (up : Bool) : Int :=
  let q := (m - x) / 8
  x + q + (if (m - x) % 8 = 0 then 0 else if up then 1 else 0)

/-- After at least 100 ms awake in SYNC, AOC moves XOFS towards the measured offset (R297). -/
def execXofsLearn (measured : Int) (s : State) : Host.Outcome State Fault Refusal :=
  .next (if s.time.fast && s.get F.TIME.STATUS.SYNC == 1 && decide (100000000 * 65536 ≤ s.time.awake) then
    let s := s.setI F.TIME.XTAL.XOFS (xofsNext (s.getI F.TIME.XTAL.XOFS) measured (Config.freeBool s.freeCtr))
    { s with freeCtr := s.freeCtr + 1, time := { s.time with learned := true } }
    else s)

/-- The phase of a TIME_SLEW reaches zero: the rate returns to FREQ alone and SLEWING clears (R307). A phase that the rate cannot reduce stays pending. -/
def execPhaseAmortised (s : State) : Host.Outcome State Fault Refusal :=
  .next (if s.time.phase = 0 ∨ rateLimit s.time.asked = rateLimit s.time.freq then s
    else ({ s with time := { s.time with phase := 0 } }).timeShow)

/-- An accepted correction puts the time base in SYNC and restarts the count of TIME.HOLD (R299); the interval keeps the worst state it has met (R521). -/
def State.corrected (s : State) : State :=
  let s := s.intervalNote 0
  ({ s with time := { s.time with hold := 0, awake := if s.get F.TIME.STATUS.SYNC = 1 then s.time.awake else 0 } }).set F.TIME.STATUS.SYNC 1

/-- The number of the last cycle instant at or before an instant (R300). -/
def State.cycleAt (s : State) (t : Nat) : Nat := if s.cycleT = 0 then 0 else t / s.cycleT

/-- The number of the next cycle instant to fire (R300, R310). -/
def State.nextCycle (s : State) : Nat := max s.time.cycle s.time.grid + 1

/-- The next cycle instant. -/
def State.nextInstant (s : State) : Nat := s.nextCycle * s.cycleT

/-- Instants up to the present one are not fired any more, and no comparator matches before it (R300, R303). -/
def State.gridHere (s : State) : State := { s with time := { s.time with grid := s.cycleAt s.time.t, floor := s.time.t } }

end Sys2Proof.Machine
end

