-- ==== Sys2Proof/Machine/PulseOps.lean ====
section
/-! DEFINITION. The pulse inputs: windows, edges, pairs and records (R178 to R187). -/

namespace Sys2Proof.Machine

/-- An empty window. -/
def PulseWin.empty : PulseWin :=
  { cycle := 0, start := 0, count := 0, quad := 0, delta := 0, first := none, last := none, prev := none, per := 0, merge := 0, errA := 0, errB := 0, seq := 0, flags := 0,
    pairLast := 0, pairPrev := 0, pairT := 0 }

/-- An input at fabric load (R179, R180). -/
def Pulse.fresh : Pulse := { run := 0, live := false, cur := PulseWin.empty, nxt := none, closed := none, edge := none, since := 0, cfg := 0 }

/-- Input n. -/
def State.pulseIn (s : State) (n : Nat) : Pulse := alGet Pulse.fresh s.pulse n

/-- Replace input n. -/
def State.setPulse (s : State) (n : Nat) (x : Pulse) : State := { s with pulse := alSet s.pulse n x }

/-- What a window that follows `w` knows of the edges before it. -/
def PulseWin.carry (w : PulseWin) : PulseWin := { PulseWin.empty with prev := w.prev, per := w.per, pairLast := w.pairLast, pairPrev := w.pairPrev, pairT := w.pairT }

/-- Apply a change to the window an instant lies in: the open one, or the next one for an edge stamped at or after the next cycle instant (R180). -/
def Pulse.at_ (x : Pulse) (beyond : Bool) (f : PulseWin → PulseWin) : Pulse :=
  if beyond then { x with nxt := some (f (x.nxt.getD x.cur.carry)) } else { x with cur := f x.cur }

/-- The window an instant lies in. -/
def Pulse.win (x : Pulse) (beyond : Bool) : PulseWin := if beyond then x.nxt.getD x.cur.carry else x.cur

/-- The flags of an input record (R182): OVERRATE 1, STUCK 2, QERR 4, FIDL 8, NOT_READY 16. -/
def PulseWin.flag (w : PulseWin) (fl : Nat) : PulseWin := { w with flags := Nat.lor w.flags fl }

/-- PULSE_A and PULSE_B of a stream. -/
def State.pulseA (s : State) (st : Nat) : Nat := s.streamF st 0x0E 1
/-- PULSE_B of a stream. -/
def State.pulseB (s : State) (st : Nat) : Nat := s.streamF st 0x0F 1

/-- The stream that names input n, and whether it serves as PULSE_B (R183). -/
def State.pulseUse (s : State) (n : Nat) : Option (Nat × Bool) :=
  match s.streams.find? fun st => s.pulseA st == n with
  | some st => some (st, false)
  | none => match s.streams.find? fun st => s.pulseA st != 0xFF && s.pulseB st == n with
    | some st => some (st, true)
    | none => none

/-- The input whose settings govern input n: PULSE_A where n serves as PULSE_B (R183). -/
def State.pulseHead (s : State) (n : Nat) : Nat := match s.pulseUse n with
  | some (st, true) => s.pulseA st
  | _ => n

/-- The pair mode in force for the pair of input n (R183): single without a PULSE_B. -/
def State.pulseMode (s : State) (n : Nat) : Nat := match s.pulseUse n with
  | some (st, _) => if s.pulseB st = 0xFF then 0 else bitsOf (s.pulseIn (s.pulseA st)).cfg.toNat 1 0
  | none => 0

/-- The partner of input n: B of an A input, 0xFF without one. -/
def State.pulsePartner (s : State) (n : Nat) : Nat := match s.pulseUse n with
  | some (st, isB) => if isB then s.pulseA st else s.pulseB st
  | none => 0xFF

/-- The instant `d` steps of 125 ps after the present one, on the grid of the stamps (R179). -/
def State.stampAt (s : State) (d : Nat) : Nat := (s.time.t / 8192 + d) * 8192

/-- Whether an instant lies at or after the next cycle instant that fires: while the fast time base is stopped none does, and the window runs on (R180, R301). -/
def State.beyond (s : State) (t : Nat) : Bool := s.cycleT != 0 && s.time.fast && decide (s.nextInstant ≤ t)

/-- Heartwood time moves to the instant of an edge: by the fast time base, or in WINTER by the stamp counters (R298). -/
def State.stampTo (s : State) (t : Nat) : State := if s.time.fast then s.advanceTo t else s.sleepTo t

/-- Whether an edge of input n at an instant ends a phase that the glitch filter may pass: 8 ns after the edge before it, or 16 ns where the level says that the opposite edge, not reported, lay between (R178). -/
def State.phaseOk (s : State) (n t : Nat) (level : Bool) : Bool := match (s.pulseIn n).edge with
  | some e => decide (e + (if s.on (F.PIN.STATUS.LEVEL n) = level then 1048576 else 524288) ≤ t)
  | none => true

/-- Set a bit of PIN.STATUSn and sample its source (R446). -/
def State.pinRaise (s : State) (f : Nat → Fld) (n : Nat) : State := s.raise (f n) 0 (112 + n)

/-- Mark the window and PIN.STATUSn with OVERRATE (R184). -/
def State.overrate (s : State) (n : Nat) (b : Bool) : State :=
  (s.setPulse n ((s.pulseIn n).at_ b (PulseWin.flag · 1))).pinRaise F.PIN.STATUS.OVERRATE n

/-- Any edge of the filtered input ends STUCK, which its window still shows (R185), sets LEVEL, and is remembered for the quadrature rule. -/
def State.anyEdge (s : State) (n t : Nat) (level : Bool) : State :=
  let x := s.pulseIn n
  let x := if s.on (F.PIN.STATUS.STUCK n) then x.at_ (s.beyond t) (PulseWin.flag · 2) else x
  ((s.setPulse n { x with edge := some t }).setB (F.PIN.STATUS.LEVEL n) level).set (F.PIN.STATUS.STUCK n) 0

/-- Within 20 ns (R183). -/
def near20 (a b : Int) : Bool := decide (a - b ≤ 1310720) && decide (b - a ≤ 1310720)

/-- The window that holds the last counted edge of an input: the open one, the next one, or else the one an instant falls in. -/
def Pulse.lastIn (x : Pulse) (b : Bool) : Bool := match x.nxt with
  | some w => if w.count = 0 then (if x.cur.count = 0 then b else false) else true
  | none => if x.cur.count = 0 then b else false

/-- A B edge of a quadrature pair within 20 ns of the A edge sets QERR, in the window of the A edge (R183). -/
def State.quadB (s : State) (n t : Nat) (b : Bool) : State :=
  let a := s.pulsePartner n
  match s.pulseUse n with
  | some (_, true) =>
    if s.pulseMode n == 1 && (match ((s.pulseIn a).nxt.getD (s.pulseIn a).cur).prev with
        | some p => near20 p t
        | none => false) then (s.setPulse a ((s.pulseIn a).at_ ((s.pulseIn a).lastIn b) (PulseWin.flag · 4))).pinRaise F.PIN.STATUS.QERR a
    else s
  | _ => s

/-- A dual-pulse edge (R183): A and B are expected to alternate; an A edge just after a B edge is taken as before it. -/
def PulseWin.pair (w : PulseWin) (isB : Bool) (t : Int) : PulseWin :=
  let w : PulseWin :=
    if isB then
      if w.pairLast = 1 ∧ near20 w.pairT t = true then { w with seq := satAdd 0xFFFF w.seq 1, pairPrev := 1, pairLast := 2 }
      else { w with errB := if w.pairLast = 2 then satAdd 0xFFFF w.errB 1 else w.errB, pairPrev := w.pairLast, pairLast := 2 }
    else if w.pairLast = 2 ∧ near20 w.pairT t = true then
      { w with seq := satAdd 0xFFFF w.seq 1, errB := if w.pairPrev = 2 then w.errB - 1 else w.errB, errA := if w.pairPrev = 1 then satAdd 0xFFFF w.errA 1 else w.errA, pairPrev := 1,
               pairLast := 2 }
    else { w with errA := if w.pairLast = 1 then satAdd 0xFFFF w.errA 1 else w.errA, pairPrev := w.pairLast, pairLast := 1 }
  { w with pairT := t }

/-- The dual-pulse checker of the pair of input n (R183): FIDL when a window has more than FID_LIM errors. -/
def State.dualEdge (s : State) (n t : Nat) (isB b : Bool) : State :=
  let a := if isB then s.pulsePartner n else n
  if 2 ≤ s.pulseMode n then
    let s := s.setPulse a ((s.pulseIn a).at_ b fun w => w.pair isB t)
    let w := (s.pulseIn a).win b
    if bitsOf (s.pulseIn a).cfg.toNat 27 20 < w.errA + w.errB + w.seq then (s.setPulse a ((s.pulseIn a).at_ b (PulseWin.flag · 8))).pinRaise F.PIN.STATUS.FIDL a else s
  else s

/-- What a counted edge adds to the running count: one, or in a quadrature pair one by the level of B (R183). The second is true where a B edge lies within 20 ns. -/
def State.edgeStep (s : State) (n t : Nat) : Int × Bool := match s.pulseUse n with
  | some (_, false) =>
    if s.pulseMode n = 1 then
      let q := s.pulsePartner n
      let hi := s.on (F.PIN.STATUS.LEVEL q)
      let close := match (s.pulseIn q).edge with
        | some e => near20 e t
        | none => false
      let before := if close then !hi else hi
      (if before then -1 else 1, close)
    else (1, false)
  | _ => (1, false)

/-- A counted edge in its window (R179, R182). -/
def PulseWin.count1 (w : PulseWin) (t : Nat) (step : Int) : PulseWin :=
  { w with
    count := (w.count + 1) % 2 ^ 32
    quad := w.quad + step
    delta := w.delta + step
    first := some (w.first.getD t)
    last := some (t : Int)
    per := match w.prev with
      | some p => ((t : Int) - p).toNat
      | none => 0
    prev := some (t : Int) }

/-- A counted edge at instant t (R179, R183, R184). -/
def State.countedEdge (s : State) (n t : Nat) : State :=
  let b := s.beyond t
  let level := !s.on ⟨(F.PIN.CFG.ALL (s.pulseHead n)).addr, 2, 2⟩
  let level := if (s.pulseIn (s.pulseHead n)).live then bitsOf (s.pulseIn (s.pulseHead n)).cfg.toNat 2 2 == 0 else level
  let r := s.edgeStep n t
  let fast := match ((s.pulseIn n).win b).prev with
    | some p => decide ((t : Int) - p < 3145728)
    | none => false
  let s := s.anyEdge n t level
  let x := s.pulseIn n
  let s := s.setPulse n { (x.at_ b fun w => w.count1 t r.1) with run := x.run + r.1 }
  let s := if r.2 then (s.setPulse n ((s.pulseIn n).at_ b (PulseWin.flag · 4))).pinRaise F.PIN.STATUS.QERR n else s
  let s := if fast then s.overrate n b else s
  let isB := match s.pulseUse n with
    | some (_, i) => i
    | none => false
  (s.quadB n t b).dualEdge n t isB b

/-- An unsigned 64-bit field that saturates at all ones. -/
def field64 (x : Int) : List Byte := leBytes 8 (if x < 0 then 0 else if (2 : Int) ^ 64 - 1 < x then 2 ^ 64 - 1 else x.toNat)

/-- COUNT of a record (R183). -/
def PulseWin.countOf (w : PulseWin) (mode : Nat) (isB : Bool) : Nat :=
  if isB then w.count else if mode = 1 then utwo 32 w.quad else if mode = 3 then (w.count + w.errB) % 2 ^ 32 else w.count

/-- The input record of a window that ends at instant `e` (R182). -/
def PulseWin.record (w : PulseWin) (mode : Nat) (isB : Bool) (run : Int) (e : Nat) : List Byte :=
  let n := w.countOf mode isB
  let rel := fun (x : Option Int) => match x with
    | some t => if n = 0 then 0 else t - w.start
    | none => 0
  let age := match w.prev with
    | some p => field64 ((e : Int) - p)
    | none => leBytes 8 (2 ^ 64 - 1)
  leBytes 4 n ++ leBytes 2 w.flags ++ [0, 0] ++ leBytes 8 (utwo 64 run) ++ field64 (rel w.first) ++ field64 (rel w.last) ++ leBytes 8 w.per ++ age ++ leBytes 2 w.merge ++
    leBytes 2 (if isB then 0 else w.errA) ++ leBytes 2 (if isB then 0 else w.errB) ++ leBytes 2 (if isB then 0 else w.seq) ++ List.replicate 8 0

/-- Close the window of input n at the cycle instant `e` of cycle c and open the next (R180, R185, R187): the settings written meanwhile come into force. -/
def State.pulseTurn (s : State) (c e n : Nat) : State :=
  let x := s.pulseIn n
  let isB := match s.pulseUse n with
    | some (_, i) => i
    | none => false
  let mode := s.pulseMode n
  let nxt := x.nxt.getD x.cur.carry
  let rec1 : PulseRec := { cycle := x.cur.cycle, start := x.cur.cycle * s.cycleT, mode := bitsOf x.cfg.toNat 1 0, bytes := x.cur.record mode isB (x.run - nxt.delta) e }
  let fl := (if s.on (F.PIN.STATUS.STUCK n) then 2 else 0) + (if s.on (F.PIN.STATUS.RXON n) then 0 else 16)
  let w : PulseWin := { nxt with cycle := c, start := e, flags := Nat.lor nxt.flags fl }
  { s with pulse := alSet s.pulse n { x with live := true, cur := w, nxt := none, closed := if x.live then some rec1 else x.closed } }

/-- Put the settings of input n in force. -/
def State.pulseCfg (s : State) (n : Nat) : State := { s with pulse := alSet s.pulse n { s.pulseIn n with cfg := s.rw (F.PIN.CFG.ALL n).addr } }

/-- Put the settings of a list of inputs in force. -/
def State.pulseCfgs (s : State) : List Nat → State
  | [] => s
  | n :: ns => (s.pulseCfg n).pulseCfgs ns

/-- Turn the windows of a list of inputs. -/
def State.pulseTurns (s : State) (c e : Nat) : List Nat → State
  | [] => s
  | n :: ns => (s.pulseTurn c e n).pulseTurns c e ns

/-- The windows at a fired cycle instant (R180, R301). -/
def State.pulseCycle (s : State) (c e : Nat) : State := (s.pulseTurns c e (s.pulse.map (·.1))).pulseCfgs (s.pulse.map (·.1))

/-- Switch the receivers of a list of inputs (R187). -/
def State.pulseRx (s : State) (on : Bool) : List Nat → State
  | [] => s
  | n :: ns =>
    let x := s.pulseIn n
    ((s.setPulse n { x with cur := if on then x.cur else x.cur.flag 16, since := if on then s.time.t else x.since }).setB (F.PIN.STATUS.RXON n) on).pulseRx on ns

/-- The pulse inputs at fabric load (R179, R180): counts cleared, settings in force, receivers on. -/
def State.pulseLoad (s : State) : State := (({ s with pulse := (List.range 32).map fun n => (n, Pulse.fresh) }).pulseRx true (List.range 32)).pulseCfgs (List.range 32)

/-- When an input that rests at its active level becomes stuck (R185): TIMEOUT ms after its last edge, or after its receiver was switched on. -/
def Pulse.stuckAt (x : Pulse) : Int := x.edge.getD x.since + (bitsOf x.cfg.toNat 19 4 : Int) * 65536000000

/-- An input is stuck, from an instant on (R185). -/
def State.stuckSet (s : State) (n : Nat) : State :=
  let x := s.pulseIn n
  (s.setPulse n (x.at_ (s.beyond x.stuckAt.toNat) (PulseWin.flag · 2))).set (F.PIN.STATUS.STUCK n) 1

/-- The inputs of a list whose TIMEOUT has run out at their active level become stuck (R185). -/
def State.stuckDue (s : State) : List (Nat × Pulse) → State
  | [] => s
  | (n, x) :: ps =>
    (if x.edge.isSome && decide (x.stuckAt ≤ s.time.t) && bitsOf x.cfg.toNat 19 4 != 0 && !s.on (F.PIN.STATUS.STUCK n) && s.on (F.PIN.STATUS.RXON n) &&
        s.get (F.PIN.STATUS.LEVEL n) == bitsOf x.cfg.toNat 3 3 then s.stuckSet n else s).stuckDue ps

/-- The instants of a window corrected by a step (R309). -/
def PulseWin.shift (w : PulseWin) (d : Int) : PulseWin :=
  { w with start := w.start + d, first := w.first.map (· + d), last := w.last.map (· + d), prev := w.prev.map (· + d), pairT := w.pairT + d }

/-- Every stamp taken before a step is corrected by it (R309). -/
def State.pulseShift (s : State) (d : Int) : State :=
  { s with pulse := s.pulse.map fun (e : Nat × Pulse) => (e.1, { e.2 with cur := e.2.cur.shift d, nxt := e.2.nxt.map (PulseWin.shift · d), edge := e.2.edge.map (· + d), since := e.2.since + d }) }

end Sys2Proof.Machine
end

