-- ==== Sys2Proof/Machine/CtlOps.lean ====
section
/-! DEFINITION. Copies of the control records in Heartwood flash under the copy rule (R94, R95, R400): where a pair lies, which copy is valid, and appending one. -/

namespace Sys2Proof.Machine

/-- The tagged base of an array (R33 to R35). -/
def arrBase (dom : Nat) : Nat := if dom = 0 then 0x08000000 else 0x110000000
/-- The tagged address of a sector. -/
def sectorAddr (dom sec : Nat) : Nat := arrBase dom + 0x1000 * sec
/-- One greater than the highest SEQ in the journal (R409). -/
def FlashArr.nextSeq (x : FlashArr) : Nat := (x.journal.foldl (fun (m : Nat) e => max m e.seq) 0) + 1

/-- Append a start entry. When the current journal sector holds 255 entries, its 256th is the start entry for erasing the other one, which is erased, stamped and becomes
current first (R409). -/
def FlashArr.journalAdd (x : FlashArr) (kind sector : Nat) (dense : Bool) : FlashArr × Nat :=
  let y := if x.inHalf = 255 then
      let o := 1 - x.half
      let q := x.nextSeq
      { x with journal := (x.journal.filter fun e => e.half != o) ++ [{ half := x.half, kind := 1, sector := o, seq := q, dense := false }], half := o, inHalf := 0,
               stamps := alSet x.stamps o (some q) }
    else x
  let q := y.nextSeq
  ({ y with journal := y.journal ++ [{ half := y.half, kind := kind, sector := sector, seq := q, dense := dense }], inHalf := y.inHalf + 1 }, q)

/-- Whether a word of a range is left uncorrectable. -/
def State.badIn (s : State) (a n : Nat) : Bool := s.flt.uncorr.any fun w => decide (a ≤ w + 7) && decide (w < a + n)

/-- The sector of a pair (R400; R514 for the key slot table). -/
def ctlSector (p half : Nat) : Nat := if p = 1 then (if half = 0 then 4 else 9) else if p = 7 then 0x300 + half else (if p = 0 then 2 else if p = 2 then 5 else if p = 3 then 7 else 2 * p + 2) + half

/-- Bytes of a copy in whole words: 96 for the slot selection word (R94), 336 for the 332 bytes of the key slot table (R514), else what the implementation takes (log entry 173). -/
def ctlLen (p : Nat) : Nat := if p = 0 then 96 else if p = 7 then 336 else 16 * ((Config.ctlWords p).toNat + 1)

/-- The copies of a pair that flash holds, newest first. -/
def State.copies (s : State) (p : Nat) : List CtlCopy := alGet [] s.ctl p

/-- The address of a copy. -/
def CtlCopy.addr (c : CtlCopy) (p : Nat) : Nat := sectorAddr 0 (ctlSector p c.half) + c.off

/-- Whether a copy's CRC matches on every read (R95): its write was not interrupted, its sector's erase was not, and no word of it is uncorrectable (R413). -/
def State.ctlGood (s : State) (p : Nat) (c : CtlCopy) : Bool := !c.bad && !s.badIn (c.addr p) (ctlLen p)

/-- The copy with the higher GEN. -/
def ctlNewer (m : Option CtlCopy) (c : CtlCopy) : Option CtlCopy := match m with
  | some o => if o.gen < c.gen then some c else some o
  | none => some c

/-- The valid copy of a pair (R95): the highest GEN among those whose CRC matches. -/
def State.ctlValid (s : State) (p : Nat) : Option CtlCopy := ((s.copies p).filter (s.ctlGood p)).foldl ctlNewer none

/-- The 96 bytes of the slot selection word (R94). -/
def SelWord.bytes (w : SelWord) : List Byte :=
  let b := [0x47, 0x53, 0x45, 0x4C] ++ leBytes 1 w.active ++ leBytes 1 w.aState ++ leBytes 1 w.bState ++ [0] ++ leBytes 4 w.gen ++ [0, 0, 0, 0] ++ (w.aDigest ++ List.replicate 32 0).take 32 ++
    (w.bDigest ++ List.replicate 32 0).take 32 ++ List.replicate 12 0
  b ++ leBytes 4 (crc32c b)

/-- An entry of the key slot table (R514). -/
def KeySlot.bytes (k : KeySlot) : List Byte := leBytes 1 (if k.filled then 1 else 0) ++ leBytes 1 k.perm ++ List.replicate 6 0 ++ leBytes 8 k.counter ++ (leBytes 32 k.x).reverse ++ (leBytes 32 k.y).reverse

/-- The key slot table with its GEN (R514); the four bytes that fill its last word stay erased (DESIGN CHOICE, log entry 173). -/
def keyTable (gen : Nat) (ks : List KeySlot) : List Byte :=
  let b := [0x4B, 0x53, 0x4C, 0x54] ++ leBytes 4 gen ++ ks.flatMap KeySlot.bytes
  b ++ leBytes 4 (crc32c b) ++ List.replicate 4 0xFF

/-- Where the erased part of a sector of a pair begins, behind the older copies. -/
def ctlEnd (p : Nat) (half : Nat) (cs : List CtlCopy) : Nat := cs.foldl (fun (m : Nat) c => if c.half = half then max m (c.off + ctlLen p) else m) 0

/-- Append one copy (R95): to the sector that does not hold the current copy, behind older ones, erased first where it has no room. `bad` says its programming failed or was interrupted; what its words then read as is
undefined (R413). -/
def State.ctlPut (s : State) (p gen : Nat) (v : CtlVal) (bad : Bool) : State :=
  let cs := s.copies p
  let half := match s.ctlValid p with
    | some c => 1 - c.half
    | none => 0
  let off := ctlEnd p half cs
  let full := decide (4096 < off + ctlLen p)
  let c : CtlCopy := { half := half, off := if full then 0 else off, gen := gen, bad := bad, val := v }
  let x := s.hflash
  let j := x.journalAdd 1 (ctlSector p half) false
  let gone := fun (r : Nat × Nat) => full && decide (sectorAddr 0 (ctlSector p half) ≤ r.1) && decide (r.1 < sectorAddr 0 (ctlSector p half) + 0x1000)
  let y : FlashArr := { x with undef := x.undef.filter fun r => !gone r, journal := if full then j.1.journal else x.journal, half := if full then j.1.half else x.half, inHalf := if full then j.1.inHalf else x.inHalf,
                               stamps := if full then alSet j.1.stamps (ctlSector p half) (some j.2) else x.stamps }
  let s := { s with hflash := y, ctl := alSet s.ctl p (c :: (if full then cs.filter fun e => e.half != half else cs)) }
  let s := if full then s.wipe (sectorAddr 0 (ctlSector p half)) 0x1000 else s
  let s := if bad then { s with hflash := { s.hflash with undef := (c.addr p, ctlLen p) :: s.hflash.undef } } else s
  match v with
  | .sel w => s.stBytes (c.addr p) ({ w with gen := gen } : SelWord).bytes
  | .keys ks => s.stBytes (c.addr p) (keyTable gen ks)
  | _ => s

/-- GEN of the next copy: one greater than the current copy's. -/
def State.ctlGen (s : State) (p : Nat) : Nat := match s.ctlValid p with
  | some c => c.gen + 1
  | none => 0

/-- Append a copy. -/
def State.ctlWrite (s : State) (p : Nat) (v : CtlVal) : State := s.ctlPut p (s.ctlGen p) v false

/-- A new copy of the calibration record: the corrections, the times of completions and of first loads, and the quality figures (R365, R369, R400). -/
def State.calStore (s : State) : State := s.ctlWrite 3 (.cal s.cal.corr s.cal.doneAt s.cal.since s.cal.qual)

/-- An SL_WRITE entry is programmed: the copy of the front-end settings record that counts as part of it is appended, with the new value of the one register (R110, R176). -/
def State.frontAppend (s : State) (data : List Byte) : State :=
  let fs := match s.ctlValid 2 with
    | some c => (match c.val with
      | .front fs => fs
      | _ => [])
    | none => []
  s.ctlWrite 2 (.front (alSet fs (leNat (data.take 4)) (BitVec.ofNat 32 (leNat ((data.drop 8).take 4)))))

end Sys2Proof.Machine
end

