-- ==== Sys2Proof/Machine/AuditOps.lean ====
section
/-! DEFINITION. Programming the audit trail: entry bytes, events with their CONT entries, the start entry, the audit control record (R118 to R123, R554, R556). -/

namespace Sys2Proof.Machine

/-- Where an entry lies in the trail (R118). -/
def auditAddr (seq : Nat) : Nat := 0x08200000 + 64 * (seq % 16384)

/-- The first 60 bytes of an entry (R119). -/
def AuditEntry.head (e : AuditEntry) : List Byte :=
  leBytes 4 e.seq ++ leBytes 2 e.kind ++ leBytes 1 e.sealst ++ leBytes 1 e.stream ++ leBytes 8 e.sec ++ leBytes 4 e.ns ++ leBytes 4 e.sealctr ++
    (e.digest ++ List.replicate 4 0).take 4 ++ (e.data ++ List.replicate 24 0).take 24 ++ (e.chain ++ List.replicate 8 0).take 8

/-- The 64 bytes of an entry; a bad one carries a CRC that does not match (R119, R407). -/
def AuditEntry.bytes (e : AuditEntry) : List Byte := e.head ++ leBytes 4 (Nat.xor (crc32c e.head) (if e.bad then 1 else 0))

/-- The CHAIN of the next entry: the digest of the whole previous one (R119); the first entry's is zero (log entry 6). -/
def State.auditChain (s : State) : List Byte := if s.audit.lastDigest.isEmpty then List.replicate 8 0 else s.audit.lastDigest

/-- Program one entry at the next SEQ (R118, R119), and put its AUDIT entry into the outbound ring (R115; log entry 174). -/
def State.auditEntry (s : State) (kind : Nat) (ev : AuditEvent) (data : List Byte) (bad : Bool) : State :=
  let e : AuditEntry := { seq := s.audit.nextSeq, kind := kind, sealst := ev.sealst, stream := ev.stream, sec := ev.sec, ns := ev.ns, sealctr := ev.sealctr, digest := ev.digest,
                          data := data, chain := s.auditChain, bad := bad }
  let s := s.stBytes (auditAddr e.seq) e.bytes
  let s := { s with audit := { s.audit with held := s.audit.held ++ [e], nextSeq := s.audit.nextSeq + 1, lastDigest := (sha256 e.bytes).take 8 } }
  if bad then s else s.ringPut 5 e.stream 0 s.time.cycle (leBytes 4 e.seq ++ leBytes 2 kind)

/-- Program an event's CONT entries, 24 bytes each (R120). -/
def State.auditConts (s : State) (ev : AuditEvent) : List (List Byte) → State
  | [] => s
  | d :: ds => (s.auditEntry 0x7FFF ev d false).auditConts ev ds

/-- Parts of 24 bytes. -/
def parts24 : Nat → List Byte → List (List Byte)
  | 0, _ => []
  | n + 1, d => if d.isEmpty then [] else d.take 24 :: parts24 n (d.drop 24)

/-- Program an event whole, with its CONT entries (R120, R121), and with an SL_WRITE the copy of the settings record that is part of it (R176). -/
def State.auditProgram (s : State) (ev : AuditEvent) : State :=
  let s := (s.auditEntry ev.kind ev (ev.data.take 24) false).auditConts ev (parts24 ev.data.length (ev.data.drop 24))
  if ev.kind = 0x12 then s.frontAppend ev.data else s

/-- Program an event at once, if the trail still takes it (R123). -/
def State.auditNow (s : State) (kind stream : Nat) (data : List Byte) : State :=
  if s.auditCount + evSize data ≤ 16383 then (s.auditProgram (s.mkEvent kind stream data)).auditRelevel else s.auditLost

/-- The power-fail commit's part of the queue (R121): events in order, whole, while the entries programmed stay within `room`; the first that does not fit is lost with
every later one. -/
def State.auditCommitQueue (s : State) : Nat → List AuditEvent → State
  | _, [] => { s with audit := { s.audit with queue := [] } }
  | room, e :: es =>
    if evSize e.data ≤ room then (s.auditProgram e).auditCommitQueue (room - evSize e.data) es
    else ({ s with audit := { s.audit with queue := [], ctlPending := true } }).sat F.SEAL.UNLOGGED.COUNT (es.length + 1)

/-- The DATA of the START entry (R120, R556). -/
def State.startData (s : State) (cls : Nat) : List Byte :=
  leBytes 1 cls ++ leBytes 1 (s.rw F.FLT.RST_CAUSE.ALL.addr).toNat ++ leBytes 1 (s.get F.FLT.BOOT_STATUS.SLOT) ++ leBytes 1 (s.get F.FLT.BOOT_STATUS.REPAIRED) ++
    leBytes 1 (s.get F.FLT.BOOT_STATUS.GAUGE) ++ [0, 0, 0] ++ leBytes 4 (s.chip 8 4) ++ leBytes 4 s.boot.cMeas

/-- Whether an event is the open START entry. -/
def AuditEvent.isStart (e : AuditEvent) : Bool := e.kind == 1

/-- The queue up to and including the START entry, and the rest. -/
def splitStart : List AuditEvent → List AuditEvent × List AuditEvent
  | [] => ([], [])
  | e :: es => if e.isStart then ([e], es) else let r := splitStart es; (e :: r.1, r.2)

/-- Program a list of events, whole and in order. -/
def State.auditPrograms (s : State) : List AuditEvent → State
  | [] => s
  | e :: es => (s.auditProgram e).auditPrograms es

/-- Complete the START entry (R556): its DATA takes its final values, and it and what was queued before it are programmed. Its DIGEST stays that of step 3, where no image runs
(DEDUCED, log entry 10). -/
def State.startComplete (s : State) : State :=
  if s.audit.startOpen then
    let d := s.startData s.boot.cls
    let q := s.audit.queue.map fun (e : AuditEvent) => if e.isStart then { e with data := d } else e
    let r := splitStart q
    ({ s with audit := { s.audit with startOpen := false, queue := r.2 } }).auditPrograms r.1
  else s

end Sys2Proof.Machine
end

