-- ==== Sys2Proof/Machine/FabricOps.lean ====
section
/-! DEFINITION. The filter fabric: descriptors, cell arithmetic, chain starts and stops, and coefficient banks (R188 to R214, R371, R372). -/

namespace Sys2Proof.Machine

/-- The CHAIN_IDs of the running image, in table order. -/
def State.chainIds (s : State) : List Nat := (List.range s.nchain).map fun i => s.img 7 0 (16 + 32 * i) 2
/-- Block of a chain. -/
def State.chainBlock (s : State) (c : Nat) : Nat := s.chainF c 2 1
/-- Region of a chain. -/
def State.chainRegion (s : State) (c : Nat) : Nat := s.chainBlock c / 4
/-- Number of cells of a chain. -/
def State.chainCells (s : State) (c : Nat) : Nat := min 8 (s.chainF c 4 1)
/-- ECHO of a chain. -/
def State.chainEcho (s : State) (c : Nat) : Bool := bitsOf (s.chainF c 6 2) 0 0 == 1
/-- A field of the descriptor of cell j of chain c (R79). -/
def State.cellF (s : State) (c j off n : Nat) : Nat := s.img 3 (s.chainBlock c) (0x10 + 16 * (s.chainF c 3 1 + j) + off) n
/-- SRC_KIND of the chain's first cell: 1 modulator, 2 lane. -/
def State.chainSrcKind (s : State) (c : Nat) : Nat := s.cellF c 0 0 1
/-- The modulator or lane of a chain. -/
def State.chainSrc (s : State) (c : Nat) : Nat := s.cellF c 0 1 1
/-- DECIM of cell j, 1 for a DC-blocking stage. -/
def State.cellDecim (s : State) (c j : Nat) : Nat := max 1 (s.cellF c j 4 2)
/-- The product of DECIM over the cells before cell j. -/
def State.decimUpTo (s : State) (c j : Nat) : Nat := ((List.range j).map fun i => s.cellDecim c i).foldl (· * ·) 1
/-- The product of the chain's DECIM values (R197). -/
def State.chainDecim (s : State) (c : Nat) : Nat := s.decimUpTo c (s.chainCells c)
/-- M_i of R197. -/
def State.cellSpan (s : State) (c j : Nat) : Nat :=
  let st := s.cellF c j 2 1
  if st = 0 then s.cellF c j 3 1 * s.cellDecim c j else if st = 1 then s.cellF c j 8 2 else 1
/-- The length L of the decimation window (R197). -/
def State.chainSpan (s : State) (c : Nat) : Nat := ((List.range (s.chainCells c)).map fun j => s.cellSpan c j * s.decimUpTo c j).foldl (· + ·) 0

/-- The physical bank that is active in a block. -/
def State.bankActive (s : State) (b : Nat) : Nat := s.get (F.CHAIN.BANK.ACTIVE b)
/-- CONT of a physical bank: 0 image BANK0, 1 image BANK1, 2 incomplete. -/
def State.bankCont (s : State) (b k : Nat) : Nat := if k = 0 then s.get (F.CHAIN.BANK.CONT0 b) else s.get (F.CHAIN.BANK.CONT1 b)
/-- Set CONT of a physical bank. -/
def State.setCont (s : State) (b k v : Nat) : State := if k = 0 then s.set (F.CHAIN.BANK.CONT0 b) v else s.set (F.CHAIN.BANK.CONT1 b) v
/-- Coefficient word j of image bank k of block b (R78, R207). -/
def State.coef (s : State) (b k j : Nat) : Int := sext 24 (s.img 3 b (0x90 + 2048 * (k % 2) + 4 * j) 4)

/-- The physical bank and the image bank that a chain of block b reads for its source sample q: a swap reaches the samples from its boundary on (R209). -/
def State.bankAt (s : State) (b : Nat) (x : Chain) (q : Nat) : Nat × Nat :=
  let after := x.past.filter fun (e : Nat × Nat) => decide (q < e.1)
  ((s.bankActive b + after.length) % 2, match after.getLast? with
    | some e => e.2
    | none => s.bankCont b (s.bankActive b))

/-- Saturate to 24 bits. -/
def sat24 (x : Int) : Int := clampI (-8388608) 8388607 x

/-- The shift of R191. -/
def shiftOut (acc : Int) (sh : Nat) : Int := if sh = 0 then acc else (acc + 2 ^ (sh - 1)) / 2 ^ sh

/-- A running sum over integrator registers, modulo 2^64: each adds what the one before it now holds. -/
def integrate : Nat → List Nat → List Nat
  | _, [] => []
  | x, i :: is => let v := (i + x) % 2 ^ 64; v :: integrate v is

/-- A chain of combs of differential delay 1, modulo 2^64: the output and the registers after it. -/
def combs : Nat → List Nat → Nat × List Nat
  | x, [] => (x, [])
  | x, c :: cs => let r := combs ((x + 2 ^ 64 - c) % 2 ^ 64) cs; (r.1, x :: r.2)

/-- The FIR accumulator of R190: saturates at 48 bits at each accumulation; true says it saturated. -/
def firAcc (coef : Nat → Int) : Nat → List Int → Int × Bool → Int × Bool
  | _, [], acc => acc
  | j, x :: xs, acc =>
    let a := acc.1 + coef j * x
    firAcc coef (j + 1) xs (clampI (-(2 ^ 47)) (2 ^ 47 - 1) a, acc.2 || decide (a < -(2 ^ 47)) || decide (2 ^ 47 - 1 < a))

/-- The flags carried by the inputs that contribute to an output: those numbered at or after `from_`. -/
def histFlags : List (Nat × Nat) → Nat → Nat
  | [], _ => 0
  | (n, f) :: h, k => if k ≤ n then flOr f (histFlags h k) else histFlags h k

/-- Sample flags of R203. -/
def sfSRC : Nat := 1
/-- OVF. -/
def sfOVF : Nat := 2
/-- PAR. -/
def sfPAR : Nat := 4
/-- LATE. -/
def sfLATE : Nat := 8
/-- SETTLE. -/
def sfSETTLE : Nat := 16
/-- HOLD. -/
def sfHOLD : Nat := 32
/-- FAILED. -/
def sfFAILED : Nat := 64
/-- FROZEN. -/
def sfFROZEN : Nat := 128

/-- What a cell is told: its stage, decimation, order, coefficient base, taps, shift and pole (R79), the coefficients, the words of the bank with bad parity, whether its DC stage
is frozen by the calibration hold or the FAILED mark, or by SRC on its input (R214), and the correction to apply before saturation (the last cell only, R371). -/
structure CellCtx where
  stage : Nat
  decim : Nat
  order : Nat
  base : Nat
  taps : Nat
  shift : Nat
  pole : Nat
  coef : Nat → Int
  bad : List Nat
  frozen : Bool
  src : Bool
  fix : Int → Int

/-- One input of a cell with the flags it carries: the cell after it, and the output with its flags if this input completes one (R189 to R193, R214). -/
def cellStep (x : CellCtx) (c : Cell) (v : Int) (fl : Nat) : Cell × Option (Int × Nat) :=
  let hist := if fl = 0 then c.hist else (c.cnt, fl) :: c.hist
  let ints := if x.stage = 0 then integrate (utwo 64 v) c.ints else c.ints
  let line := if x.stage = 1 then (v :: c.line).take x.taps else c.line
  let c1 : Cell := { c with cnt := c.cnt + 1, ph := c.ph + 1, ints := ints, line := line, hist := hist }
  if c1.ph < x.decim then (c1, none)
  else
    let span := if x.stage = 0 then x.order * x.decim else if x.stage = 1 then x.taps else 1
    let carried := histFlags hist (c1.cnt - span)
    let hist1 := hist.filter fun e => decide (c1.cnt - span < e.1 + 1)
    let c2 : Cell := { c1 with ph := 0, hist := hist1 }
    if x.stage = 0 then
      let r := combs (ints.getLast?.getD (utwo 64 v)) c.combs
      let y := x.fix (shiftOut (sext 64 r.1) x.shift)
      ({ c2 with combs := r.2, prev := sat24 y }, some (sat24 y, flOr carried (if sat24 y = y then 0 else sfOVF)))
    else if x.stage = 1 then
      let bad := x.bad.filter fun w => decide (x.base ≤ w) && decide (w < x.base + x.taps)
      if bad.isEmpty then
        let a := firAcc x.coef x.base line (0, false)
        let y := x.fix (shiftOut a.1 x.shift)
        ({ c2 with prev := sat24 y, parPrev := [] }, some (sat24 y, flOr carried (if a.2 || sat24 y != y then sfOVF else 0)))
      else ({ c2 with parPrev := bad, dbl := c.dbl ++ bad.filter c.parPrev.contains }, some (c.prev, flOr carried sfPAR))
    else
      let frz := x.src || Nat.land fl (flOr sfSRC sfOVF) != 0
      let frozen := x.frozen || frz
      let y := x.fix (v - (c.m + 0x800000) / 2 ^ 24)
      let m := if frozen then c.m else c.m + (v * 2 ^ 24 - c.m) / 2 ^ x.pole
      ({ c2 with m := m, frz := frz, prev := sat24 y }, some (sat24 y, flOr (flOr carried (if sat24 y = y then 0 else sfOVF)) (if frozen then sfFROZEN else 0)))

/-- One source sample through the cells of a chain: the cells after it and the chain's output, if it completes one. -/
def cellsStep : List CellCtx → List Cell → Int → Nat → List Cell × Option (Int × Nat)
  | [], cs, v, fl => (cs, some (v, fl))
  | _ :: _, [], v, fl => ([], some (v, fl))
  | x :: xs, c :: cs, v, fl => match cellStep x c v fl with
    | (c', none) => (c' :: cs, none)
    | (c', some (y, f)) => let r := cellsStep xs cs y f; (c' :: r.1, r.2)

/-- The offset of a FIR cell's delay line in block memory: 4 bytes per tap of the FIR cells before it (R194). -/
def State.lineOffset (s : State) (c j : Nat) : Nat :=
  let first := s.chainF c 3 1 + j
  let b := s.chainBlock c
  4 * ((List.range first).map fun i => if s.img 3 b (0x10 + 16 * i + 2) 1 = 1 ∧ s.img 3 b (0x10 + 16 * i) 1 ≠ 0 then s.img 3 b (0x10 + 16 * i + 8) 2 else 0).foldl (· + ·) 0

/-- Tap i of cell j's initial delay line: MEM content, 0 beyond it (R78, R194, R196). -/
def State.lineInit (s : State) (c j i : Nat) : Int :=
  let o := s.lineOffset c j + 4 * i
  if o + 4 ≤ s.img 3 (s.chainBlock c) 4 4 then sext 24 (s.img 3 (s.chainBlock c) (0x1090 + o) 4) else 0

/-- Cell j at a chain start (R196), with the DC-blocking estimate it starts from. -/
def State.cellStart (s : State) (c : Nat) (m : Int) (j : Nat) : Cell :=
  let n := s.cellF c j 3 1
  { ph := 0, cnt := 0, ints := if s.cellF c j 2 1 = 0 then List.replicate n 0 else [], combs := if s.cellF c j 2 1 = 0 then List.replicate n 0 else [],
    line := if s.cellF c j 2 1 = 1 then (List.range (s.cellF c j 8 2)).map fun i => s.lineInit c j i else [], prev := 0, parPrev := [], dbl := [], m := m, frz := false, hist := [] }

/-- The cycle by the schedule in which modulator edge e falls (R204, R300). -/
def State.edgeSched (s : State) (e : Int) : Nat := if s.cycleUs = 0 then 0 else e.toNat * 1000000 / (4096000 * s.cycleUs)

/-- The fired cycle in which modulator edge e falls: a record runs from one fired instant to the next (R204, R300, R301). -/
def State.edgeCycle (s : State) (e : Int) : Nat :=
  let n := s.edgeSched e
  if s.time.fired.1 ≤ n then s.time.fired.1 else min n s.time.fired.2

/-- The 100 µs of a modulator begin, or begin again (R171): WARM, and alternating bits until they end. -/
def State.warmStart (s : State) (n : Nat) : State :=
  let e := s.time.t + 100 * usT
  ({ s with front := { s.front with warmTo := alSet s.front.warmTo n e, quiet := quietAdd n (edgeAfter s.time.t) ((edgeAfter e : Int) - 1) s.front.quiet } }).set (F.SDC.STATUS.WARM n) 1

/-- A modulator is powered, and PLL_AUX with it (R171). -/
def State.sdOn (s : State) (n : Nat) : State :=
  let s := s.set F.CLK.STATUS.AUX_LOCK 1
  if s.on (F.SDC.STATUS.PWR n) then s else (s.set (F.SDC.STATUS.PWR n) 1).warmStart n

/-- A modulator is powered down. -/
def State.sdOff (s : State) (n : Nat) : State :=
  (({ s with front := { s.front with warmTo := alDel s.front.warmTo n } }).set (F.SDC.STATUS.PWR n) 0).set (F.SDC.STATUS.WARM n) 0

/-- The 100 µs of a list of modulators end where they have passed (R171). -/
def State.warmsDue (s : State) : List (Nat × Nat) → State
  | [] => s
  | (n, t) :: ws => (if t ≤ s.time.t then ({ s with front := { s.front with warmTo := alDel s.front.warmTo n } }).set (F.SDC.STATUS.WARM n) 0 else s).warmsDue ws

/-- Whether a chain has a DC-blocking stage. -/
def State.hasDc (s : State) (c : Nat) : Bool := (List.range (s.chainCells c)).any fun j => s.cellF c j 2 1 == 2

/-- FROZEN shows the present state of a chain's DC-blocking stage (R214). -/
def State.frozenShow (s : State) (c : Nat) : State :=
  let now := match alFind s.fabric.chains c with
    | some x => (s.chainSrcKind c == 1 && s.on (F.SDC.STATUS.CAL (s.chainSrc c))) || x.cells.any (·.frz)
    | none => false
  s.setB (F.CHAIN.STATUS.FROZEN c) (s.hasDc c && (now || s.on (F.CHAIN.STATUS.FAILED c)))

/-- FROZEN of a list of chains. -/
def State.frozenShows (s : State) : List Nat → State
  | [] => s
  | c :: cs => (s.frozenShow c).frozenShows cs

/-- A chain as it starts (R196): all cell state cleared, the delay lines with their MEM content, the DC-blocking estimate `m`. -/
def State.chainFresh (s : State) (c : Nat) (e0 : Int) (m : Int) (holds : List (Int × Option Int)) : Chain :=
  { e0 := e0, n := 0, k := 0, settle := 0, skip := none, good := 0, cells := (List.range (s.chainCells c)).map fun j => s.cellStart c m j, swapIn := none, resyncIn := false, holds := holds, rec_ := none,
    ramps := [], marks := [], past := [] }

/-- Start an ECHO-clear chain whose source sample 0 is modulator edge e0 (R196): FAILED clears (R381), and its modulator is powered (R171). -/
def State.chainStart (s : State) (c e0 : Nat) : State :=
  let x := s.chainFresh c e0 0 (if s.on (F.SDC.STATUS.CAL (s.chainSrc c)) && s.chainSrcKind c == 1 then [(0, none)] else [])
  let s := { s with fabric := { s.fabric with chains := alSet s.fabric.chains c x, armed := s.fabric.armed.filter (· != c) } }
  let s := (s.set (F.CHAIN.STATUS.RUN c) 1).set (F.CHAIN.STATUS.FAILED c) 0
  (if s.chainSrcKind c = 1 then s.sdOn (s.chainSrc c) else s).frozenShow c

/-- The ECHO chain that a lane's samples pass: one in service whose first cell takes the lane. -/
def State.echoChain (s : State) (lane : Nat) : Option Nat :=
  s.chainIds.find? fun c => s.chainEcho c && s.chainSrcKind c == 2 && s.chainSrc c == lane && s.fabric.ready.contains c

/-- The ECHO chain of a lane starts afresh as a capture window opens; its DC-blocking estimate is carried over from the previous capture (R196). FAILED clears at the first start after its block restarted (R381). -/
def State.echoStart (s : State) (lane : Nat) : State := match s.echoChain lane with
  | some c =>
    let x := s.chainFresh c 0 (alGet 0 s.fabric.dc c) []
    let s := if s.fabric.armed.contains c then s.set (F.CHAIN.STATUS.FAILED c) 0 else s
    let s := { s with fabric := { s.fabric with chains := alSet s.fabric.chains c x, armed := s.fabric.armed.filter (· != c) } }
    ((s.set (F.CHAIN.STATUS.RUN c) 1).set (F.CHAIN.STATUS.LATECNT c) 0).frozenShow c
  | none => s

/-- Whether a modulator is needed: a running chain names it, or the calibration holds it (R171). -/
def State.sdNeeded (s : State) (n : Nat) : Bool :=
  s.on (F.SDC.STATUS.CAL n) || s.fabric.chains.any fun (e : Nat × Chain) => s.chainSrcKind e.1 == 1 && s.chainSrc e.1 == n

/-- Stop a chain (R202); a modulator that nothing needs any more is powered down (R171). -/
def State.chainStop (s : State) (c : Nat) : State :=
  let s := { s with fabric := { s.fabric with chains := alDel s.fabric.chains c, armed := s.fabric.armed.filter (· != c), ready := s.fabric.ready.filter (· != c) } }
  let s := (s.set (F.CHAIN.STATUS.RUN c) 0).set (F.CHAIN.STATUS.LATECNT c) 0
  (if s.chainSrcKind c = 1 && !s.sdNeeded (s.chainSrc c) then s.sdOff (s.chainSrc c) else s).frozenShow c

/-- Stop a list of chains. -/
def State.chainsStop (s : State) : List Nat → State
  | [] => s
  | c :: cs => (s.chainStop c).chainsStop cs

/-- Make a chain ready to run: free-running ECHO-clear chains start at the next source bit, others wait for their comparator or their capture (R196). -/
def State.chainReady (s : State) (c : Nat) : State :=
  if s.chainEcho c then { s with fabric := { s.fabric with armed := c :: s.fabric.armed.filter (· != c), ready := c :: s.fabric.ready.filter (· != c) } }
  else if s.chainF c 0x14 1 = 0xFF then s.chainStart c (edgeAfter s.time.t)
  else { s with fabric := { s.fabric with armed := c :: s.fabric.armed.filter (· != c) } }

/-- Make a list of chains ready. -/
def State.chainsReady (s : State) : List Nat → State
  | [] => s
  | c :: cs => (s.chainReady c).chainsReady cs

/-- Load a block's banks and ACTIVE from the image (R207 heading, fabric load). -/
def State.blockLoad (s : State) (b : Nat) : State :=
  (((s.set (F.CHAIN.BANK.CONT0 b) 0).set (F.CHAIN.BANK.CONT1 b) 1).set (F.CHAIN.BANK.ACTIVE b) (s.img 3 b 1 1 % 2)).set (F.CHAIN.BANK.PEND b) 0

/-- Blocks of the image. -/
def State.loadBlocks (s : State) : List Nat → State
  | [] => s
  | b :: bs => (if (s.sect 3 b).isSome then s.blockLoad b else s).loadBlocks bs

/-- The blocks of a swap target (R209): those of the group's chains, or the one block. -/
def State.targetBlocks (s : State) (target : Nat) : List Nat :=
  if 0x80 ≤ target then [target - 0x80] else ((s.chainIds.filter fun c => s.chainF c 5 1 == target).map fun c => s.chainBlock c).eraseDups

/-- The swap target of a block: its group, or 0x80 + the block. -/
def State.blockTarget (s : State) (b : Nat) : Nat := match s.chainIds.find? fun c => s.chainBlock c == b with
  | some c => if s.chainF c 5 1 = 0xFF then 0x80 + b else s.chainF c 5 1
  | none => 0x80 + b

/-- The chains of a block. -/
def State.blockChains (s : State) (b : Nat) : List Nat := s.chainIds.filter fun c => s.chainBlock c == b

/-- Whether a target has a running chain. -/
def State.targetRuns (s : State) (target : Nat) : Bool := (s.targetBlocks target).any fun b => (s.blockChains b).any fun c => (alFind s.fabric.chains c).isSome

/-- Show the pending swaps in CHAIN.SWAP_STATUS. -/
def State.swapShow (s : State) : State :=
  let pend := (s.fabric.swaps.filter fun e => decide (e.1 < 16)).foldl (fun (n : Nat) e => Nat.lor n (2 ^ e.1)) 0
  (s.set F.CHAIN.SWAP_STATUS.PEND pend).setB F.CHAIN.SWAP_STATUS.BLK_PEND (s.fabric.swaps.any fun e => decide (0x80 ≤ e.1))

/-- One modulator period in 2^-16 ns (R170). -/
def sdT : Nat := 16000000

/-- The lane whose capture an ECHO chain filters: its window's opening and its sample period. -/
def State.echoGrid (s : State) (c : Nat) : Nat × Nat := match alFind s.acq.lanes (s.chainSrc c) with
  | some l => (l.opens, 2 ^ bitsOf (s.shotF l.shot 0x0B 1) 2 0 * tickT)
  | none => (0, tickT)

/-- The window boundaries of a running chain (R197, R207): the earliest that is not past, and their distance, in 2^-16 ns. -/
def State.boundaries (s : State) (e : Nat × Chain) : Nat × Nat :=
  if s.chainEcho e.1 then s.echoGrid e.1
  else
    let q := match e.2.skip with
      | some (a, l) => a + l
      | none => e.2.n
    ((e.2.e0 + q).toNat * sdT, s.chainDecim e.1 * sdT)

/-- The source number of a running chain that an instant of its boundaries has. -/
def State.boundaryNum (s : State) (c : Nat) (x : Chain) (t : Nat) : Nat :=
  if s.chainEcho c then (t - (s.echoGrid c).1) / (s.echoGrid c).2 else ((t / sdT : Nat) - x.e0).toNat

/-- The first of `t`, `t + d`, ... that is a boundary of every other chain. -/
def commonFrom (others : List (Nat × Nat)) (d : Nat) : Nat → Nat → Option Nat
  | 0, _ => none
  | f + 1, t => if others.all fun (o : Nat × Nat) => (t - o.1) % o.2 == 0 then some t else commonFrom others d f (t + d)

/-- The first boundary common to a list of chains at or after an instant; one whose chains have none in common never comes. -/
def commonBoundary (t : Nat) : List (Nat × Nat) → Option Nat
  | [] => some t
  | (b, d) :: os =>
    let lo := max t ((b :: os.map (·.1)).foldl max 0)
    commonFrom os d ((os.map (·.2)).foldl (· * ·) 1) (b + (lo - b + d - 1) / d * d)

/-- The running chains of a target. -/
def State.targetChains (s : State) (target : Nat) : List (Nat × Chain) := s.fabric.chains.filter fun (e : Nat × Chain) => (s.targetBlocks target).contains (s.chainBlock e.1)

/-- The instant at which a pending swap takes effect, once it is due (R209). -/
def State.swapAt (s : State) (target : Nat) (q : SwapReq) : Option Nat := match q.due with
  | some t => commonBoundary t ((s.targetChains target).map s.boundaries)
  | none => none

/-- The chains of a block meet a swap boundary at an instant: FAILED clears, and samples whose decimation window contains the boundary will carry SETTLE and SWAP (R198, R209, R212). `old` is the image bank in force before it. -/
def State.chainsSwapped (s : State) (t old : Nat) : List Nat → State
  | [] => s
  | c :: cs =>
    let s := s.set (F.CHAIN.STATUS.FAILED c) 0
    ((match alFind s.fabric.chains c with
      | some x =>
        let b := s.boundaryNum c x t
        { s with fabric := { s.fabric with chains := alSet s.fabric.chains c { x with swapIn := some b, past := (b, old) :: x.past } } }
      | none => s).frozenShow c).chainsSwapped t old cs

/-- Exchange the banks of a list of blocks at an instant. -/
def State.blocksSwap (s : State) (t : Nat) : List Nat → State
  | [] => s
  | b :: bs =>
    let old := s.bankCont b (s.bankActive b)
    (((s.set (F.CHAIN.BANK.ACTIVE b) (1 - s.bankActive b)).set (F.CHAIN.BANK.PEND b) 0).chainsSwapped t old (s.blockChains b)).blocksSwap t bs

/-- A swap of a target takes effect at an instant in a list of its blocks (R209). -/
def State.swapNow (s : State) (target t : Nat) (bs : List Nat) : State :=
  let s := { s with fabric := { s.fabric with swaps := alDel s.fabric.swaps target } }
  (s.blocksSwap t bs).swapShow

/-- Pending swaps of a list whose boundary has come take effect, in the blocks where they still pend (R209, R213). -/
def State.swapsDue (s : State) : List (Nat × SwapReq) → State
  | [] => s
  | (g, q) :: qs =>
    (match s.swapAt g q with
      | some t => if t ≤ s.time.t then s.swapNow g t ((s.targetBlocks g).filter fun b => s.on (F.CHAIN.BANK.PEND b)) else s
      | none => s).swapsDue qs

/-- Set PEND of a list of blocks. -/
def State.blocksPend (s : State) : List Nat → State
  | [] => s
  | b :: bs => (s.set (F.CHAIN.BANK.PEND b) 1).blocksPend bs

/-- Whether a target exists in the running image: a group with a chain, or a block whose chains have SWAP_GROUP 0xFF. -/
def State.targetOk (s : State) (target : Nat) : Bool :=
  if target < 16 then !(s.targetBlocks target).isEmpty
  else decide (0x80 ≤ target) && decide (target < 0xA0) && (s.blockChains (target - 0x80)).any fun c => s.chainF c 5 1 == 0xFF

/-- What a ROM routine returns: the flags of CHAIN.SWAP_STATUS that its request raised (R208). -/
def State.coefRet (s : State) (fl : Nat) : State := { s with fabric := { s.fabric with ret := fl } }

/-- A swap request (R209 to R211). -/
def State.swapRequest (s : State) (target trig : Nat) : State :=
  if !s.targetOk target || !(decide (trig < 32) || trig == 0xFF) then s
  else
    let bs := s.targetBlocks target
    if (alFind s.fabric.swaps target).isSome || bs.any (fun b => s.on (F.CHAIN.BANK.PEND b)) || bs.any (fun b => s.bankCont b (1 - s.bankActive b) == 2) then
      (s.set F.CHAIN.SWAP_STATUS.SWAP_BUSY 1).coefRet (2 ^ 16)
    else if !s.targetRuns target then (s.swapNow target s.time.t bs).coefRet 0
    else
      let s := { s with fabric := { s.fabric with swaps := alSet s.fabric.swaps target { trig := trig, due := if trig = 0xFF then some s.time.t else none } } }
      (s.blocksPend bs).swapShow.coefRet 0

/-- Copy image bank k into the shadow bank of block b; nothing is written while a swap is pending (R208, R211). `cut` is a load that an HSC restart cuts off. -/
def State.coefLoad (s : State) (b k : Nat) (cut : Bool) : State :=
  if s.on (F.CHAIN.BANK.PEND b) then (s.set F.CHAIN.SWAP_STATUS.WR_BLOCKED 1).coefRet (2 ^ 17)
  else (s.setCont b (1 - s.bankActive b) (if cut then 2 else k % 2)).coefRet 0

/-- Drop the pending swaps that name a block, in that block only (R213). -/
def State.dropSwap (s : State) (b : Nat) : State :=
  let t := s.blockTarget b
  let s := s.set (F.CHAIN.BANK.PEND b) 0
  (if (s.targetBlocks t).any fun o => s.on (F.CHAIN.BANK.PEND o) then s else { s with fabric := { s.fabric with swaps := alDel s.fabric.swaps t } }).swapShow

/-- Reload a block's banks at a block or region restart: a grouped block takes the image content that is active in the group's other blocks outside the list; where there is none,
ACTIVE_BANK applies (R213). -/
def State.blockReload (s : State) (outside : Nat → Bool) (b : Nat) : State :=
  let t := s.blockTarget b
  let s := s.dropSwap b
  match if t < 16 then (s.targetBlocks t).find? outside else none with
  | some o =>
    let k := s.bankCont o (s.bankActive o) % 2
    ((s.set (F.CHAIN.BANK.CONT0 b) 0).set (F.CHAIN.BANK.CONT1 b) 1).set (F.CHAIN.BANK.ACTIVE b) k
  | none => s.blockLoad b

/-- Reload a list of blocks. -/
def State.blocksReload (s : State) (outside : Nat → Bool) : List Nat → State
  | [] => s
  | b :: bs => (if (s.sect 3 b).isSome then s.blockReload outside b else s).blocksReload outside bs

/-- The reload of one block after a block fault (R381): both banks from the image content that the group has in force, which is the content active in the block itself. -/
def State.blockRestart (s : State) (b : Nat) : State :=
  let k := s.bankCont b (s.bankActive b) % 2
  ((s.set (F.CHAIN.BANK.CONT0 b) 0).set (F.CHAIN.BANK.CONT1 b) 1).set (F.CHAIN.BANK.ACTIVE b) k

/-! Samples (R172, R196 to R206, R371, R372). -/

/-- Hold a quotient on a grid whose rounding the manual does not state (R371; log entry 31). -/
def heldAt (num : Int) (den : Nat) : Int := num / den + (if num % den = 0 then 0 else if Config.roundUp num den then 1 else 0)

/-- Round to the nearest integer; which neighbour a tie takes is not stated (R371; log entry 31). -/
def nearest (num : Int) (den : Nat) : Int :=
  if 2 * (num % den) < den then num / den else if (den : Int) < 2 * (num % den) then num / den + 1 else if Config.roundUp num den then num / den + 1 else num / den

/-- The value a ramp has reached, with its denominator (R372). -/
def Ramp.now (r : Ramp) : Int × Nat := if r.steps = 0 then (r.dst, r.den) else (r.src * ((r.steps : Int) - r.done) + r.dst * r.done, r.den * r.steps)

/-- One step of a ramp: none when it is complete. -/
def Ramp.step (r : Ramp) : Option Ramp := if r.steps ≤ r.done + 1 then none else some { r with done := r.done + 1 }

/-- The correction of a kind and channel that a chain applies (R371, R372), with its denominator. -/
def State.corrNow (s : State) (x : Chain) (kind ch : Nat) : Int × Nat := match alFind x.ramps kind with
  | some r => r.now
  | none => (alGet 0 s.cal.corr (256 * kind + ch), 65536)

/-- Sum of two quotients. -/
def addQ (a b : Int × Nat) : Int × Nat := (a.1 * b.2 + b.1 * a.2, a.2 * b.2)

/-- The DC gain of cell j (R189 to R191) with the coefficients of image bank k, a DC-blocking stage passing 1, as a quotient. -/
def State.cellGain (s : State) (k c j : Nat) : Int × Nat :=
  let st := s.cellF c j 2 1
  let sh := s.cellF c j 0x0A 1
  if st = 0 then ((s.cellDecim c j ^ s.cellF c j 3 1 : Nat), 2 ^ sh)
  else if st = 1 then (((List.range (s.cellF c j 8 2)).map fun i => s.coef (s.chainBlock c) k (s.cellF c j 6 2 + i)).foldl (· + ·) 0, 2 ^ sh)
  else (1, 1)

/-- The DC gain of a chain. -/
def State.chainGain (s : State) (k c : Nat) : Int × Nat :=
  ((List.range (s.chainCells c)).map fun j => s.cellGain k c j).foldl (fun (a : Int × Nat) b => (a.1 * b.1, a.2 * b.2)) (1, 1)

/-- The reference in nV (R167, R168). -/
def State.vref (s : State) : Nat := if s.chip 0x21 1 = 1 then s.chip 0x24 4 * 1000 else 2500000000

/-- The correction of a chain on a modulator, for the output of its last cell before saturation (R371). -/
def State.chainFix (s : State) (k c : Nat) (x : Chain) (y : Int) : Int :=
  if s.chainSrcKind c = 1 then
    let n := s.chainSrc c
    let off := s.corrNow x 1 n
    let g := addQ (s.corrNow x 2 n) (addQ (if s.get (F.SDC.CFG.MODE n) = 0 then (0, 1) else s.corrNow x 5 (s.get (F.SDC.CFG.EXC n))) (s.corrNow x 6 0))
    let q := s.chainGain k c
    let o16 := heldAt (off.1 * q.1 * 2 ^ (17 + s.get (F.SDC.CFG.GAIN n))) (off.2 * q.2 * s.vref)
    let g16 := 65536 + heldAt (g.1 * 65536) (g.2 * 1000000)
    nearest ((y * 65536 - o16) * g16) (2 ^ 32)
  else y

/-- How a chain's cells are to work for a window: the image bank in force, and whether a DC-blocking stage is frozen by a hold or the FAILED mark, or by a marked bit of its input (R209, R214). -/
structure FeedCtx where
  k : Nat
  frozen : Bool
  src : Bool

/-- What cell j of chain c is told for one source sample (R79). -/
def State.cellCtx (s : State) (c : Nat) (q : FeedCtx) (bad : List Nat) (fix : Int → Int) (j : Nat) : CellCtx :=
  { stage := s.cellF c j 2 1, decim := s.cellDecim c j, order := s.cellF c j 3 1, base := s.cellF c j 6 2, taps := s.cellF c j 8 2, shift := s.cellF c j 0x0A 1,
    pole := s.cellF c j 0x0B 1, coef := s.coef (s.chainBlock c) q.k, bad := bad, frozen := q.frozen, src := q.src, fix := if j + 1 = s.chainCells c then fix else fun y => y }

/-- One source sample through a chain's cells. -/
def State.feed1 (s : State) (c : Nat) (q : FeedCtx) (x : Chain) (bad : List Nat) (v : Int) : Chain × Option (Int × Nat) :=
  let r := cellsStep ((List.range (s.chainCells c)).map (s.cellCtx c q bad (s.chainFix q.k c x))) x.cells v 0
  ({ x with cells := r.1, n := x.n + 1 }, r.2)

/-- Words that failed parity at source sample i of the list handed in. -/
def badAt (bad : List (Nat × Nat)) (i : Nat) : List Nat := (bad.filter fun (e : Nat × Nat) => e.1 == i).map (·.2)

/-- Whether source samples `lo` to `hi` hold one of the calibration's (R206, R364). -/
def Chain.heldIn (x : Chain) (lo hi : Int) : Bool := x.holds.any fun (h : Int × Option Int) => decide (h.1 ≤ hi) && (match h.2 with
  | some e => decide (lo ≤ e)
  | none => true)

/-- Whether source samples `lo` to `hi` hold a marked bit (R172). -/
def Chain.markedIn (x : Chain) (lo hi : Int) : Bool := x.marks.any fun (m : Int × Int) => decide (m.1 ≤ hi) && decide (lo ≤ m.2)

/-- Feed the bits of a window; the last output made. -/
def State.feedBits (s : State) (c : Nat) (q : FeedCtx) (bad : List (Nat × Nat)) : Nat → List Bool → Chain → Option (Int × Nat) → Chain × Option (Int × Nat)
  | _, [], x, y => (x, y)
  | i, b :: bs, x, y =>
    let r := s.feed1 c q x (badAt bad i) (if b then 1 else -1)
    s.feedBits c q bad (i + 1) bs r.1 (match r.2 with
      | some o => some o
      | none => y)

/-- The words that a cell found bad in two computations running (R193), and the cells without that note. -/
def twice (cells : List Cell) : List Nat := cells.flatMap (·.dbl)
/-- The note cleared. -/
def Chain.noted (x : Chain) : Chain := { x with cells := x.cells.map fun (c : Cell) => { c with dbl := [] } }

/-- A chain is marked FAILED: the FAULT entry, and the ROM's repair (R212, R193). -/
def State.chainFailed (s : State) (c word : Nat) : State :=
  let b := s.chainBlock c
  let s := s.set (F.CHAIN.STATUS.FAILED c) 1
  let s := (s.frozenShow c).fault 0x20 (s.chainRegion c) 0xFF (leBytes 2 c ++ leBytes 2 word ++ leBytes 1 (s.bankActive b) ++ [0, 0, 0])
  if s.on (F.CHAIN.BANK.PEND b) then s else (s.coefLoad b (s.bankCont b (s.bankActive b)) false).swapRequest (s.blockTarget b) 0xFF

/-- A coefficient word of a physical bank failed parity (R193): shown in CHAIN.BANKn. -/
def State.parShow (s : State) (b bank word : Nat) : State :=
  ((s.set (F.CHAIN.BANK.PAR b) 1).set (F.CHAIN.BANK.PARWORD b) word).set (F.CHAIN.BANK.PARBANK b) bank

/-- Replace a running chain. -/
def State.setChain (s : State) (c : Nat) (x : Chain) : State := { s with fabric := { s.fabric with chains := alSet s.fabric.chains c x } }

/-- Words that failed parity, reported in the order given (R193); `dbl` are those that failed twice in a row. -/
def State.parList (s : State) (c bank : Nat) (dbl : List Nat) : List Nat → State
  | [] => s
  | w :: ws =>
    let s := s.parShow (s.chainBlock c) bank w
    (if dbl.contains w && !s.on (F.CHAIN.STATUS.FAILED c) then s.chainFailed c w else s).parList c bank dbl ws

/-- Set a W1C flag of CHAIN.STATUSc where a condition holds, sampling its source (R446). -/
def State.chainFlag (s : State) (f : Nat → Fld) (c : Nat) (b : Bool) : State := if b then s.raise (f c) 0 (144 + c) else s

/-- The record of cycle C of a chain (R203, R204): `before` is the cycle of the sample before it, `last` says that the next window begins in a later cycle. The record of an earlier cycle is complete at the latest now. -/
def State.chainRecord (s : State) (c cyc : Nat) (before : Option Nat) (last : Bool) (v : Int) (fl k : Nat) : State :=
  if !s.regionUp (s.chainRegion c) then s else
    let at_ := fun (n : Nat) => rgnBase (s.chainRegion c) + s.chainF c 0x0C 4 + 32 * (n % 2)
    let fresh := before != some cyc
    let s := match before with
      | some p => if fresh then s.stN (at_ p + 0x1A) 1 2 else s
      | none => s
    let a := at_ cyc
    let bad := Nat.land fl (sfSRC + sfOVF + sfPAR + sfSETTLE + sfHOLD + sfFAILED) != 0
    let sum := if fresh then v else sext 64 (s.ldN (a + 8) 8) + v
    let count := if fresh then 1 else s.ldN (a + 0x14) 2 + 1
    let flags := if fresh then fl else Nat.lor (s.ldN (a + 0x16) 2) fl
    let nflag := if fresh then (if bad then 1 else 0) else satAdd 0xFFFF (s.ldN (a + 0x18) 2) (if bad then 1 else 0)
    let s := if fresh then s.stN (a + 0x1A) 1 1 else s
    let s := (s.stN (a + 8) 8 (utwo 64 sum)).stN (a + 0x10) 4 (utwo 32 v)
    let s := ((s.stN (a + 0x14) 2 count).stN (a + 0x16) 2 flags).stN (a + 0x18) 2 nflag
    let s := (s.stN (a + 0x1B) 1 (fl % 256)).stN (a + 0x1C) 4 k
    let s := if fresh then s.stN a 8 cyc else s
    if last then s.stN (a + 0x1A) 1 2 else s

/-- A CAL mark reaches to the present interval (R373). -/
def State.markReach (s : State) (key : Nat) : State := { s with cal := { s.cal with marks := alSet s.cal.marks key (max s.intervalNum (alGet 0 s.cal.marks key)) } }

/-- RAMPING: any ramp is in progress (R372). -/
def State.rampShow (s : State) : State := s.setB F.CAL.STATUS.RAMPING (!s.cal.laneRamps.isEmpty || s.fabric.chains.any fun (e : Nat × Chain) => !e.2.ramps.isEmpty)

/-- Steps of a chain's ramps at an output sample (R372): the first waits for a sample without HOLD. -/
def rampStep (hold : Bool) : List (Nat × Ramp) → List (Nat × Ramp)
  | [] => []
  | (k, r) :: rs =>
    if hold && r.done == 0 then (k, r) :: rampStep hold rs
    else match r.step with
      | some q => (k, q) :: rampStep hold rs
      | none => rampStep hold rs

end Sys2Proof.Machine
end

