-- ==== Sys2Proof/Machine/FaultOps.lean ====
section
/-! DEFINITION. Fault containment: marks for lost releases, the publisher of guarded streams, isolation and restart of regions, and block faults (R343, R344, R379 to R391). -/

namespace Sys2Proof.Machine

/-! Tasks and jobs. -/

/-- CLASS of task k: 1 L1, 2 L2, 3 N (R86). -/
def State.taskClass (s : State) (k : Nat) : Nat := s.taskF k 1 1
/-- REGION of task k. -/
def State.taskRegion (s : State) (k : Nat) : Nat := s.taskF k 2 1
/-- STREAM of task k, 0xFF none. -/
def State.taskStream (s : State) (k : Nat) : Nat := if k < s.ntask then s.taskF k 0x24 1 else 0xFF

/-- The instant at which the last THAW of a region, echo engine or lane is complete (R334). -/
def State.readyAt (s : State) (u : Nat) : Nat := alGet 0 s.spn.ready u

/-- Show a job's state in SPN.TASKk, that of a job admitted ahead of its cycle instant where no other is left. -/
def State.jobShow (s : State) (k : Nat) : State :=
  let early := match alFind s.spn.early k with
    | some j => j.st
    | none => 0
  s.set (F.SPN.TASK.STATE k) (match alFind s.spn.jobs k with
    | some j => if j.st = 0 then early else j.st
    | none => early)

/-- Remove task k's job. -/
def State.jobEnd (s : State) (k : Nat) : State := ({ s with spn := { s.spn with jobs := alDel s.spn.jobs k } }).jobShow k

/-- Replace task k's job. -/
def State.jobSet (s : State) (k : Nat) (j : Job) : State :=
  ({ s with spn := { s.spn with jobs := alSet s.spn.jobs k j } }).jobShow k

/-- The hottest sensor in 0.1 °C (R324). -/
def State.tmax (s : State) : Int :=
  ((List.range 11).map fun i => s.getI (F.SPN.TEMP.TEMP (i + 1))).foldl (fun (a : Int) b => if a < b then b else a) (s.getI (F.SPN.TEMP.TEMP 0))

/-- The eight-byte Spindle detail of R340. How E and P_plan are rounded to mJ and mW is not stated (log entry 31). -/
def State.spnDetail (s : State) (cause : Nat) : List Byte :=
  leBytes 1 (s.get F.SPN.STATUS.LEVEL) ++ leBytes 1 cause ++ leBytes 2 (min 0xFFFF (heldAt (s.get F.SPN.RESERVE.VALUE) 1000).toNat) ++ leBytes 2 (min 0xFFFF (heldAt (s.get F.SPN.PLAN.VALUE) 1000).toNat) ++
    leBytes 2 (utwo 16 s.tmax)

/-- A DEGRADE (0x70) or RESTORE (0x71) entry for a task and step (R340). -/
def State.ladderEntry (s : State) (kind k step cause : Nat) : State :=
  s.auditPut kind (s.taskStream k) (leBytes 1 k ++ leBytes 1 step ++ [0, 0] ++ s.spnDetail cause)

/-- Mark a release of an L1 or L2 task as R343 states; `nsub` says whether NSUB of the stream's record counts it (R521: releases of the stream's task). -/
def State.substitute (s : State) (k cycle cause nsub : Nat) : State :=
  let st := s.taskStream k
  let s := s.markStream (s.taskRegion k) st cycle flSUB
  let s := (s.ringPut 3 st 0x0101 cycle []).streamNote st cycle nsub 0 0
  let s := s.sat F.SPN.COUNT.SUBST 1
  if s.spn.substSeen.contains k then s
  else ({ s with spn := { s.spn with substSeen := k :: s.spn.substSeen } }).ladderEntry 0x70 k 6 cause

/-! Guarded streams (R386 to R391). -/

/-- Whether a stream is GUARDED (R81). -/
def State.guarded (s : State) (st : Nat) : Bool := decide (st < 32) && bitsOf (s.streamF st 4 1) 0 0 == 1
/-- Home region, PARTNER region, TASK and PARTNER_TASK of a stream. -/
def State.homeRegion (s : State) (st : Nat) : Nat := s.streamF st 3 1
/-- PARTNER of a stream. -/
def State.partnerRegion (s : State) (st : Nat) : Nat := s.streamF st 5 1
/-- TASK of a stream. -/
def State.homeTask (s : State) (st : Nat) : Nat := s.streamF st 6 1
/-- PARTNER_TASK of a stream. -/
def State.mirrorTask (s : State) (st : Nat) : Nat := s.streamF st 7 1
/-- Whether task k is the mirror task of its guarded stream. -/
def State.isMirror (s : State) (k : Nat) : Bool := s.guarded (s.taskStream k) && s.mirrorTask (s.taskStream k) == k

/-- The pairs of home register and mirror register of a stream (R92). -/
def State.mirrorPairs (s : State) (st : Nat) : List (Nat × Nat) :=
  ((s.totsOf (s.homeRegion st) st).filter fun n => s.totRec (s.homeRegion st) n).zip
    ((s.totsOf (s.partnerRegion st) st).filter fun n => s.totMirror (s.partnerRegion st) n)

/-- Enter emissions into the outbound ring (R23, R277). -/
def State.emitAll (s : State) (cycle : Nat) : List Emission → State
  | [] => s
  | e :: es => (s.ringPut e.kind e.stream e.src cycle e.payload).emitAll cycle es

/-- The last cycle of a guarded stream that was published. -/
def State.published (s : State) (st cycle : Nat) : Bool := match alFind s.flt.pubCycle st with
  | some c => decide (cycle ≤ c)
  | none => false

/-- Publish a mirror release, once (R387): the first after a failover makes the FAILOVER entry. -/
def State.publishMirror (s : State) (st cycle : Nat) (es : List Emission) : State :=
  if s.published st cycle then s else
    let s := { s with flt := { s.flt with pubCycle := alSet s.flt.pubCycle st cycle } }
    let s := s.emitAll cycle es
    let s := (s.sat (F.FLT.GUARD.PUBLISHED st) 1).streamNote st cycle 0 0 32
    if s.flt.foDue.contains st then
      ({ s with flt := { s.flt with foDue := s.flt.foDue.filter (· != st) } }).fault 4 (s.homeRegion st) st
        (leBytes 1 (s.homeRegion st) ++ leBytes 1 (s.partnerRegion st) ++ [0, 0] ++ leBytes 4 cycle)
    else s

/-- Drop the held mirror release of a stream. -/
def State.heldDrop (s : State) (st : Nat) : State := ({ s with flt := { s.flt with held := alDel s.flt.held st } }).set (F.FLT.GUARD.HELD st) 0

/-- The publisher of a stream becomes MIRROR, and a held release is published (R387). -/
def State.failover (s : State) (st : Nat) : State :=
  if s.get (F.FLT.GUARD.STATE st) = 1 then
    let s := (s.set (F.FLT.GUARD.STATE st) 2).set (F.FLT.GUARD.PUBLISHED st) 0
    let s := { s with flt := { s.flt with foDue := st :: s.flt.foDue.filter (· != st) } }
    match alFind s.flt.held st with
    | some (c, es) => (s.heldDrop st).publishMirror st c es
    | none => s
  else s

/-- The region of the other task of a guarded stream. -/
def State.otherRegion (s : State) (k : Nat) : Nat := let st := s.taskStream k; s.taskRegion (if s.homeTask st = k then s.mirrorTask st else s.homeTask st)

/-- A task of a guarded stream has lost a release in the sense of R387 and R390: a home release lost makes the publisher MIRROR; a release that neither task commits is marked for both. -/
def State.guardLost (s : State) (k cycle cause : Nat) : State :=
  let st := s.taskStream k
  let s := if s.homeTask st = k then s.failover st else s
  if s.published st cycle then s
  else if alFind s.flt.lost st = some (2 * cycle) then (s.markStream (s.otherRegion k) st cycle flSUB).substitute k cycle cause 1
  else if alFind s.flt.lost st = some (2 * cycle + 1) then (s.markStream (s.taskRegion k) st cycle flSUB).streamNote st cycle (if s.homeTask st = k then 1 else 0) 0 0
  else { s with flt := { s.flt with lost := alSet s.flt.lost st (2 * cycle) } }

/-- A release of a guarded stream's task is substituted or abandoned without being lost in the sense of R387: it is marked as R343 states, and for the other task too where that has lost it. -/
def State.guardTurned (s : State) (k cycle cause : Nat) : State :=
  let st := s.taskStream k
  let none_ := alFind s.flt.lost st == some (2 * cycle)
  let s := if none_ then s.markStream (s.otherRegion k) st cycle flSUB else s
  let s := s.substitute k cycle cause (if none_ || s.homeTask st == k then 1 else 0)
  { s with flt := { s.flt with lost := alSet s.flt.lost st (2 * cycle + 1) } }

/-- A release of task k is lost: not dispatched, or stopped before its commit point (R343). Of a guarded stream R387 governs a release lost with its region (cause 7), and a home release abandoned under R333 (cause 5). A class N
release marks nothing (R320). -/
def State.releaseLost (s : State) (k cycle cause : Nat) : State :=
  if s.taskClass k = 3 then s
  else if !s.guarded (s.taskStream k) then s.substitute k cycle cause 1
  else if cause = 7 ∨ (cause = 5 ∧ s.homeTask (s.taskStream k) = k) then s.guardLost k cycle cause
  else s.guardTurned k cycle cause

/-- Refill entries of the parameter page (R240). -/
def State.paramsApply (s : State) (p : Nat) : State :=
  let ids := (s.pair p).params
  let js := (List.range s.nparam).filter fun j => ids.contains (s.paramF j 0 2)
  if ids.isEmpty then s else (s.setPair p { s.pair p with params := [] }).paramPage p js

/-- The task that runs on a pair ends, leaving no trace outside it but what its commit has made (R244). Changes of parameters that waited for its end are written (R240). -/
def State.pairStop (s : State) (r : Nat) : State :=
  ((s.setPair r { s.pair r with task := none, pend := [], pendC := [], stores := [], emits := [], journal := 0, jpos := 0, loops := [], rolled := false, propSt := (0, 0), propN := (0, 0) }).set
    (F.TALLY.STATUS.RUN r) 0).paramsApply r

/-- A job admitted before its cycle instant fired is taken back: its release is decided anew (R344). -/
def State.earlyDrop (s : State) (k : Nat) : State :=
  if (alFind s.spn.early k).isSome then ({ s with spn := { s.spn with early := alDel s.spn.early k, decided := alDel s.spn.decided k } }).jobShow k else s

/-- Every job of a list of tasks is lost (R344). -/
def State.regionJobsLost (s : State) (cause : Nat) : List Nat → State
  | [] => s
  | k :: ks => (match alFind (s.earlyDrop k).spn.jobs k with
      | some j => ((s.earlyDrop k).jobEnd k).releaseLost k j.cycle cause
      | none => s.earlyDrop k).regionJobsLost cause ks

/-- The job of a release past its commit point is no lost one (R244). -/
def State.logJobEnd (s : State) (r : Nat) : State := match (s.pair r).log with
  | some l => s.jobEnd l.task
  | none => s

/-! Isolation and restart (R382 to R390). -/

/-- Guarded streams whose home or partner is region r. -/
def State.guardedOf (s : State) (r : Nat) : List Nat := s.streams.filter fun st => s.guarded st && (s.homeRegion st == r || s.partnerRegion st == r)

/-- Publishers after a change of a region's state: streams with both regions out are LOST; one whose publisher was LOST and that has a region back takes it (R390). -/
def State.guardCheck (s : State) : List Nat → State
  | [] => s
  | st :: sts =>
    let h := s.regionUp (s.homeRegion st)
    let p := s.regionUp (s.partnerRegion st)
    let g := s.get (F.FLT.GUARD.STATE st)
    (if !h && !p then s.set (F.FLT.GUARD.STATE st) 3
      else if g = 3 then (if h then s.set (F.FLT.GUARD.STATE st) 1 else s.set (F.FLT.GUARD.STATE st) 2)
      else s).guardCheck sts

/-- Streams homed in r fail over. -/
def State.failovers (s : State) (r : Nat) : List Nat → State
  | [] => s
  | st :: sts => (if s.homeRegion st = r then s.failover st else s).failovers r sts

/-- The chains of a region. -/
def State.regionChains (s : State) (r : Nat) : List Nat := s.chainIds.filter fun c => s.chainRegion c == r

/-- A region stays isolated (R384, R385): RESTART with result 2 or 3. -/
def State.regionHeld (s : State) (r result durUs : Nat) : State :=
  let s := s.set (F.FLT.REGION_STAT.STATE r) 3
  let s := { s with flt := { s.flt with restart := alDel s.flt.restart r } }
  ((s.fault 3 r 0xFF (leBytes 1 result ++ [0] ++ leBytes 2 durUs ++ s.cyc4)).isoShow r).guardCheck (s.guardedOf r)

/-- Begin a restart (R383): STATE restarting, timed from now. -/
def State.restartBegin (s : State) (r attempt : Nat) : State :=
  let s := (s.set (F.FLT.REGION_STAT.STATE r) 2).sat (F.FLT.REGION_STAT.RESTARTS r) 1
  ({ s with flt := { s.flt with attempt := alSet s.flt.attempt r attempt, restart := alSet s.flt.restart r s.time.t } }).isoShow r

/-- Microseconds since a region's restart began. -/
def State.restartUs (s : State) (r : Nat) : Nat := (s.time.t - alGet s.time.t s.flt.restart r) / 65536000

/-- The ISOLATE entry (R397). -/
def State.isolateEntry (s : State) (r cause task n : Nat) : State :=
  (s.set (F.FLT.REGION_STAT.LASTCAUSE r) cause).fault 2 r (if cause = 7 then 0xFF else s.taskStream task) (leBytes 1 cause ++ leBytes 1 task ++ leBytes 1 n ++ [0] ++ s.cyc4)

/-- A fault during a restart (R384): retried once, then the region stays isolated. -/
def State.restartFault (s : State) (r : Nat) : State :=
  let n := alGet 1 s.flt.attempt r
  let s := s.isolateEntry r 7 0xFF n
  let us := min 0xFFFF (s.restartUs r)
  if n < 2 then (s.fault 3 r 0xFF (leBytes 1 2 ++ [0] ++ leBytes 2 us ++ s.cyc4)).restartBegin r (n + 1)
  else s.regionHeld r 2 us

/-- Isolate a region (R382, R385): the running task and every job of the region are lost, its chains stop, and its restart begins, unless this is the third isolation within one
record interval. -/
def State.isolate (s : State) (r cause task : Nat) : State :=
  let st := s.get (F.FLT.REGION_STAT.STATE r)
  if st = 1 ∨ st = 3 then s
  else if st = 2 then s.restartFault r
  else
    let n := alGet 0 s.flt.iso r + 1
    let s := s.set (F.FLT.REGION_STAT.STATE r) 1
    let s := { s with flt := { s.flt with iso := alSet s.flt.iso r n, after := s.flt.after.filter (· != r) } }
    let s := s.isolateEntry r cause task n
    let s := (s.pairStop r).isoShow r
    let s := s.chainsStop (s.regionChains r)
    let s := s.failovers r (s.guardedOf r)
    let s := (s.logJobEnd r).regionJobsLost 7 (s.tasksOf r)
    let s := s.guardCheck (s.guardedOf r)
    if 3 ≤ n then s.regionHeld r 3 0 else s.restartBegin r 1

/-- An uncorrectable word of Heartwood's RAM that a reader other than a tally pair meets (R395): reported, and in the RAWBUF or CKPT area of a region that is in use the region is isolated (R382). -/
def State.eccSeen (s : State) (addr : Nat) : State :=
  let r := scrubRegion (ramMem addr) addr
  let s := s.eccUncorr (ramMem addr) addr r
  if ramMem addr = 1 ∧ s.regions.contains r = true ∧ addr < rgnBase r + s.rawbuf r + s.ckpt r then s.isolate r 5 0xFF else s

/-- Where program memory and block memory stand among the words left uncorrectable. -/
def progAddr (p pc : Nat) : Nat := 2 ^ 33 + 2 ^ 17 * p + 4 * pc
/-- Block memory of block b. -/
def blockMem (b : Nat) : Nat := 2 ^ 33 + 2 ^ 20 + 2 ^ 16 * b
/-- A program word as FLT.ECC_ADDR names it. -/
def progShow (p pc : Nat) : Nat := 2 ^ 24 * p + 4 * pc

/-- The first word of a range that is left uncorrectable, which FLT.ECC_ADDR names. -/
def State.firstBad (s : State) (a n : Nat) : Nat :=
  match s.flt.uncorr.filter fun w => decide (a ≤ w + 7) && decide (w < a + n) with
  | [] => a
  | w :: ws => max a (ws.foldl (fun (m : Nat) x => min m x) w)

/-- Tally program memory of region r is loaded from the CODE of its TALLY section (R85). -/
def State.codeLoad (s : State) (r : Nat) : State := match s.sect 8 r with
  | some (a, _) => (s.wipe (progAddr r 0) (2 ^ 17)).stBytes (progAddr r 0) (s.ldBytes (a + 32 + 16 * s.ldN (a + 1) 1) (4 * min 32768 (s.ldN (a + 4) 4)))
  | none => s

/-- The words of a range are rewritten: their errors are gone. -/
def State.heal (s : State) (a n : Nat) : State := { s with flt := { s.flt with uncorr := s.flt.uncorr.filter fun w => !(decide (a ≤ w + 7) && decide (w < a + n)) } }

/-! Commits past the commit point (R242 steps 6 and 7, R244). -/

/-- Write the buffered stores home. -/
def State.storesHome (s : State) (p : Nat) : List (Nat × W128) → State
  | [] => s
  | (off, w) :: es => ((s.st128 (rgnBase p + off) w).heal (rgnBase p + off) 16).storesHome p es

/-- Write new TOT words and companions into the file and the totalizer image (R239, R242 step 6). -/
def State.totsHome (s : State) (p b : Nat) : List (Nat × (W128 × W128)) → State
  | [] => s
  | (n, e) :: es =>
    let x := s.pair p
    let x := { x with tot := alSet x.tot n e.1 }
    let s := (s.setPair p (x.setCmp b n e.2)).totImage p n
    (s.heal (s.ckptBase p + 0x840 + 48 * n) 48).totsHome p b es

/-- Write M registers to a state block. -/
def State.blockWriteM (s : State) (a : Nat) (m : List (Nat × W128)) : List Nat → State
  | [] => s
  | n :: ns => (s.st128 (a + 16 * n) (alGet 0 m n)).blockWriteM a m ns

/-- Save the state block (R235). -/
def State.blockSave (s : State) (k : Nat) (m : List (Nat × W128)) (i : List (Nat × Word)) : State :=
  let a := s.blockBase k
  let s := s.blockWriteM a m (List.range 32)
  (s.stBytes (a + 0x200) ((List.range 6).flatMap fun n => leBytes 4 (alGet 0 i n).toNat)).heal a 576

/-- PROP.STATUS and PROP.COUNT from the evaluations of a task that commits (R287). -/
def State.propShow (s : State) (p : Nat) (x : CommitLog) : State :=
  let a := (F.PROP.STATUS.DOM p).addr
  let s := if x.propSt.1 = 0 then s else s.setW a (BitVec.ofNat 32 (setBits (setBits (s.rw a).toNat 9 4 x.propSt.2) 3 0 (Nat.lor (bitsOf (s.rw a).toNat 3 0) x.propSt.1)))
  (s.sat (F.PROP.COUNT.DOMCNT p) x.propN.1).sat (F.PROP.COUNT.SATCNT p) x.propN.2

/-- A home commit makes the publisher HOME again: FAILBACK (R389, R397). -/
def State.failback (s : State) (st cycle : Nat) : State :=
  if s.get (F.FLT.GUARD.STATE st) = 1 then s
  else
    let s := s.fault 5 (s.homeRegion st) st (leBytes 2 (s.get (F.FLT.GUARD.PUBLISHED st)) ++ [0, 0] ++ leBytes 4 cycle)
    ({ s with flt := { s.flt with foDue := s.flt.foDue.filter (· != st) } }).set (F.FLT.GUARD.STATE st) 1

/-- What becomes of a committed release's emissions (R242 step 7, R387, R389). -/
def State.publish (s : State) (k cycle : Nat) (es : List Emission) : State :=
  let st := s.taskStream k
  if !s.guarded st then s.emitAll cycle es
  else if !s.isMirror k then
    let s := match alFind s.flt.held st with
      | some h => if h.1 ≤ cycle then s.heldDrop st else s
      | none => s
    let s := if s.published st cycle then s else ({ s with flt := { s.flt with pubCycle := alSet s.flt.pubCycle st cycle } }).emitAll cycle es
    s.failback st cycle
  else if s.get (F.FLT.GUARD.STATE st) = 1 then
    if s.published st cycle then s else ({ s with flt := { s.flt with held := alSet s.flt.held st (cycle, es) } }).set (F.FLT.GUARD.HELD st) 1
  else s.publishMirror st cycle es

/-- Step 6 of R242: each logged item is written to its home. -/
def State.logHome (s : State) (p : Nat) (l : CommitLog) : State :=
  let s := ((s.storesHome p l.stores).totsHome p (s.bankOf l.cycle) l.tots).blockSave l.task l.m l.i
  let s := s.setPair p { s.pair p with avgs := l.avgs, written := l.task :: (s.pair p).written.filter (· != l.task) }
  if l.deg then s.markStream p (s.taskStream l.task) l.cycle flDEG else s

/-- Step 7 of R242: the mark is cleared, what the commit counts is shown, and the emissions enter the ring. -/
def State.logEnd (s : State) (p : Nat) (l : CommitLog) : State :=
  let s := (s.setPair p { s.pair p with log := none }).set (F.TALLY.STATUS.MARK p) 0
  let s := (s.propShow p l).wrap (F.TALLY.COUNT.COMMITS p) 1
  let s := { s with recs := { s.recs with lastRelease := l.cycle } }
  s.ringLive.publish l.task l.cycle l.emits

/-- Complete the commit of a pair whose mark is set (R244). -/
def State.logApply (s : State) (p : Nat) : State := match (s.pair p).log with
  | some l => (s.logHome p l).logEnd p l
  | none => s

/-- Whether region r is gated: one without GATE never is, an unused one always (R334, R74). -/
def State.regionGated (s : State) (r : Nat) : Bool := !(s.spn.thawed.contains r) && ((s.sect 2 r).isNone || bitsOf (s.img 2 r 1 1) 0 0 == 1)

/-- A write of an echo engine or of the pulse unit into a region's SRAM at an offset (R164, R181): one to an isolated region is discarded and sets WR_ISO of engine e, one to a gated region waits for its THAW. -/
def State.regionWrite (s : State) (e r off : Nat) (bs : List Byte) : State :=
  if !s.regionUp r then s.raise (F.ECHO.ERR.WR_ISO e) 0 (12 + e)
  else if s.regionGated r then { s with echo := { s.echo with waiting := s.echo.waiting ++ [(r, e, off, bs)] } }
  else (s.stBytes (rgnBase r + off) bs).heal (rgnBase r + off) (bs.length / 8 * 8)

/-- Make the writes of a list that are for region r, in order. -/
def State.writeWaiting (s : State) (r : Nat) : List (Nat × (Nat × (Nat × List Byte))) → State
  | [] => s
  | w :: ws => (if w.1 = r then s.regionWrite w.2.1 r w.2.2.1 w.2.2.2 else s).writeWaiting r ws

/-- The writes that waited for region r are made after its THAW (R164). -/
def State.regionWritten (s : State) (r : Nat) : State :=
  ({ s with echo := { s.echo with waiting := s.echo.waiting.filter fun (w : Nat × (Nat × (Nat × List Byte))) => w.1 != r } }).writeWaiting r s.echo.waiting

/-- Write bytes of a stream's result page or input block, in its partner region too if it is guarded (R164, R181). -/
def State.pageWrite (s : State) (st off : Nat) (bs : List Byte) : State :=
  let e := s.streamF st 0x11 1
  let s := s.regionWrite e (s.homeRegion st) off bs
  if s.guarded st then s.regionWrite e (s.partnerRegion st) off bs else s

/-- The paths of a stream. -/
def State.npath (s : State) (st : Nat) : Nat := min 16 (s.streamF st 0x10 1)

/-- The template with an ID in shared echo SRAM, among `n` from an address: its address and length (R84, R145). -/
def State.findTemplate (s : State) (id : Nat) : Nat → Nat → Option (Nat × Nat)
  | 0, _ => none
  | n + 1, a => if s.ldN a 2 = id then some (a + 16, s.ldN (a + 2) 2) else s.findTemplate id n (a + 16 + 2 * s.ldN (a + 2) 2)

/-- The template of a shot. -/
def State.template (s : State) (k : Nat) : Option (Nat × Nat) := s.findTemplate (s.shotF k 6 2) (s.img 6 0 0 2) (echoBase + 0x100000)

/-- Track state of a shot. -/
def State.trackOf (s : State) (k : Nat) : Track := alGet { locked := false, kc := 0, tof := none, fails := 0 } s.echo.track k

/-- What a path descriptor holds (R145): the echo fields of the stream, and the address and length of the template of each shot. -/
def State.pathDesc (s : State) (st p : Nat) : List Nat :=
  let tp := fun (k : Nat) => match s.template k with
    | some t => [t.1, t.2]
    | none => []
  [st, p, s.streamF st 0x22 2, s.streamF st 0x24 2, s.streamF st 0x26 2, s.streamF st 0x28 4] ++ tp (s.pathF st p 0) ++ tp (s.pathF st p 2)

/-- Load Tn of a restarted region's file from the totalizer image (R239, R383 step 3). -/
def State.totReload (s : State) (r : Nat) : List Nat → State
  | [] => s
  | n :: ns =>
    let a := s.ckptBase r + 0x840 + 48 * n
    let x := s.pair r
    (s.setPair r { x with tot := alSet x.tot n (s.ld128 a), cmp0 := alSet x.cmp0 n (s.ld128 (a + 16)), cmp1 := alSet x.cmp1 n (s.ld128 (a + 32)) }).totReload r ns

/-- Mark the companions and accumulators of a region's streams in the bank of the open interval (R383). -/
def State.markRegion (s : State) (r : Nat) : List Nat → State
  | [] => s
  | st :: sts => (if (s.totsOf r st).isEmpty then s else s.markStream r st s.time.cycle flSUB).markRegion r sts

/-- Copy the registers of a guarded stream between regions (R389): `toHome` says the destination is the home region. -/
def State.copyTots (s : State) (src dst : Nat) (toHome : Bool) : List (Nat × Nat) → State
  | [] => s
  | (h, m) :: ps =>
    let a := if toHome then m else h
    let b := if toHome then h else m
    let x := s.pair dst
    let y := { x with tot := alSet x.tot b ((s.pair src).totW a), cmp0 := alSet x.cmp0 b (s.cmpW src 0 a), cmp1 := alSet x.cmp1 b (s.cmpW src 1 a) }
    ((s.setPair dst y).totImage dst b).copyTots src dst toHome ps

/-- Copy a stream's state from the other region into restarted region r (R389). -/
def State.resync (s : State) (r st : Nat) : State :=
  let toHome := s.homeRegion st == r
  let src := if toHome then s.partnerRegion st else s.homeRegion st
  if s.regionUp src then
    let s := s.copyTots src r toHome (s.mirrorPairs st)
    let kd := if toHome then s.homeTask st else s.mirrorTask st
    let ks := if toHome then s.mirrorTask st else s.homeTask st
    let s := s.stBytes (s.blockBase kd) (s.ldBytes (s.blockBase ks) 576)
    let x := s.pair r
    let mine := x.avgs.filter fun (e : Nat × Avg) => e.1 / 64 != st
    let theirs := (s.pair src).avgs.filter fun (e : Nat × Avg) => e.1 / 64 == st
    let avgs := theirs.foldl (fun (m : List (Nat × Avg)) e => alSet m e.1 e.2) mine
    s.setPair r { x with avgs := avgs, written := if (s.pair src).written.contains ks then kd :: x.written.filter (· != kd) else x.written.filter (· != kd) }
  else s

/-- Copy the state of a list of guarded streams into restarted region r. -/
def State.resyncs (s : State) (r : Nat) : List Nat → State
  | [] => s
  | st :: sts => (s.resync r st).resyncs r sts

/-- The word range of the totalizer image of region r. -/
def State.imageBad (s : State) (r : Nat) : Bool := s.badIn (s.ckptBase r + 0x840) 3072

/-- The excitation sources that channel n uses (R175): none in voltage mode, two in 3-wire mode. -/
def State.excUsed (s : State) (n : Nat) : List Nat :=
  let k := s.get (F.SDC.CFG.EXC n)
  let m := s.get (F.SDC.CFG.MODE n)
  if m = 0 then [] else if m = 2 then [k, k + 1] else [k]

/-- Whether a channel names an odd source in 3-wire mode (R175). -/
def State.excOdd (s : State) (n : Nat) : Bool := s.get (F.SDC.CFG.MODE n) == 2 && s.get (F.SDC.CFG.EXC n) % 2 == 1

/-- The powered channels that use source k; the source is on while there is one (R174). -/
def State.excUsers (s : State) (k : Nat) : List Nat := (List.range 48).filter fun n => s.on (F.SDC.STATUS.PWR n) && (s.excUsed n).contains k

/-- Whether source k is on (R174). -/
def State.excOn (s : State) (k : Nat) : Bool := !(s.excUsers k).isEmpty

/-- The source whose CODE sets the current of source k: in a 3-wire pair the even one sets both (R175). -/
def State.excOwner (s : State) (k : Nat) : Nat :=
  if k % 2 = 1 ∧ (List.range 48).any (fun n => s.get (F.SDC.CFG.MODE n) == 2 && s.get (F.SDC.CFG.EXC n) == k - 1) = true then k - 1 else k

/-- Raise a flag of SDC.STATUS in a list of channels. -/
def State.sdRaise (s : State) (f : Nat → Fld) : List Nat → State
  | [] => s
  | n :: ns => (s.raise (f n) 0 (64 + n)).sdRaise f ns

/-- Load device settings of the front ends from the settings record (R176): for a region restart and fabric load. -/
def State.loadSettings (s : State) : List (Nat × Word) → State
  | [] => s
  | (a, w) :: ws => (s.setW a w).loadSettings ws

/-- The fields of the settings record take effect, but those that a calibration hold defers (R176); an odd source in 3-wire mode shows at once (R175). -/
def State.frontLoad (s : State) : State :=
  let s := s.loadSettings (s.front.fs.filter fun (e : Nat × Word) => (alFind s.front.deferred e.1).isNone)
  s.sdRaise F.SDC.STATUS.EXC_FLT ((List.range 48).filter s.excOdd)

/-- Steps 2 to 5 of a region's restart (R383), at its release 4 ms after it began. A commit log whose mark is set is applied first (R244). -/
def State.restartEnd (s : State) (r : Nat) : State :=
  let s := s.blocksReload (fun o => o / 4 != r) ((List.range 4).map (4 * r + ·))
  let s := (s.frontLoad.codeLoad r).logApply r
  let bad := s.imageBad r
  let s := if bad then
      let s := s.eccUncorr 1 (s.firstBad (s.ckptBase r + 0x840) 3072) r
      let s := s.restoreTots s.validCommit r (s.totsUsed r)
      s.markRegion r s.streams
    else s.totReload r (s.totsUsed r)
  let s := (s.heal (progAddr r 0) (2 ^ 17)).heal (blockMem (4 * r)) (2 ^ 18)
  let s := ((s.heal (rgnBase r) (s.rawbuf r + s.ckpt r)).freshBlocks r).fillParams r
  let s := s.resyncs r (s.guardedOf r)
  let s := s.set (F.FLT.REGION_STAT.STATE r) 0
  let us := min 0xFFFF (s.restartUs r)
  let s := { s with flt := { s.flt with restart := alDel s.flt.restart r } }
  let s := s.fault 3 r 0xFF (leBytes 1 1 ++ leBytes 1 (if bad then 2 else 1) ++ leBytes 2 us ++ s.cyc4)
  ((s.isoShow r).guardCheck (s.guardedOf r)).chainsReady (s.regionChains r)

/-- Whether a restart is due: 4 ms have passed, and no pair runs a task of a guarded stream of the region (R383, R389). -/
def State.restartDue (s : State) (r : Nat) : Bool :=
  (match alFind s.flt.restart r with
    | some t => decide (t + 262144000000 ≤ s.time.t)
    | none => false) &&
  (s.guardedOf r).all fun st => (List.range 8).all fun p => match (s.pair p).task with
    | some k => s.taskStream k != st
    | none => true

/-- Release the regions of a list whose restart is due. -/
def State.restartsDue (s : State) : List Nat → State
  | [] => s
  | r :: rs => (if s.restartDue r then s.restartEnd r else s).restartsDue rs

/-! Block faults (R381). -/

/-- Mark chains FAILED. -/
def State.chainsFailed (s : State) : List Nat → State
  | [] => s
  | c :: cs => ((s.set (F.CHAIN.STATUS.FAILED c) 1).frozenShow c).chainsFailed cs

/-- A block fault (R381): the block's chains stop and are marked FAILED, the block reloads within 0.5 ms; a second block fault of the region in one record interval
isolates it. -/
def State.blockFault (s : State) (b cause chain : Nat) : State :=
  let r := b / 4
  let n := alGet 0 s.flt.blockN r + 1
  let s := { s with flt := { s.flt with blockN := alSet s.flt.blockN r n } }
  let s := s.fault 0x21 r 0xFF (leBytes 1 b ++ leBytes 1 cause ++ leBytes 2 chain ++ s.cyc4)
  let s := (s.chainsStop (s.blockChains b)).chainsFailed (s.blockChains b)
  if 2 ≤ n then s.isolate r 6 0xFF
  else { s with flt := { s.flt with blockDue := alSet s.flt.blockDue b (s.time.t + 32768000000) } }

/-- Reload and restart the blocks of a list that are due. -/
def State.blocksDue (s : State) : List (Nat × Nat) → State
  | [] => s
  | (b, t) :: bs =>
    (if t ≤ s.time.t then
      let s := { s with flt := { s.flt with blockDue := alDel s.flt.blockDue b } }
      if s.regionUp (b / 4) then ((s.heal (blockMem b) 65536).blockRestart b).chainsReady (s.blockChains b) else s
     else s).blocksDue bs

/-- What a lane shows of a firing as time passes (R128, R142): the crosspoint connects the receive channel at the connection instant, unless the window has closed by then, and CAPT
rises and the lane's ECHO chain starts when the window opens (R196). -/
def State.windowsDue (s : State) : List (Nat × Lane) → State
  | [] => s
  | (n, l) :: ls =>
    (if l.fired then
      let s := if l.conn ≤ s.time.t ∧ l.conn < l.close ∧ s.on (F.ACQ.LANE_STAT.CONN n) = false then (s.set (F.ACQ.LANE_STAT.CH n) (s.shotF l.shot 2 1)).set (F.ACQ.LANE_STAT.CONN n) 1 else s
      if l.opens ≤ s.time.t ∧ s.on (F.ACQ.LANE_STAT.CAPT n) = false then (s.set (F.ACQ.LANE_STAT.CAPT n) 1).echoStart n else s
     else s).windowsDue ls

end Sys2Proof.Machine
end

