-- ==== Sys2Proof/Machine/FlashOps.lean ====
section
/-! DEFINITION. Flash arrays: journaled erases, stamps, undefined words, repair, and the record ring's places (R398 to R420, R555). dom 0 is Heartwood, 1 Sapwood. -/

namespace Sys2Proof.Machine

/-- The hidden state of an array. -/
def State.fa (s : State) (dom : Nat) : FlashArr := if dom = 0 then s.hflash else s.sflash
/-- Replace it. -/
def State.setFa (s : State) (dom : Nat) (x : FlashArr) : State := if dom = 0 then { s with hflash := x } else { s with sflash := x }
/-- The bytes of an array (R398). -/
def arrSize (dom : Nat) : Nat := if dom = 0 then 0x02000000 else 0x00800000
/-- The zone of a sector. -/
def sectorZone (sec : Nat) : Nat := sec / 256

/-- Whether an erase runs unsuspended. -/
def FlashArr.erasing (x : FlashArr) : Bool := match x.erase with
  | some e => !e.susp
  | none => false

/-- Whether an address lies in the sector or zone whose erase is suspended or running. -/
def FlashArr.inErase (x : FlashArr) (off : Nat) : Bool := match x.erase with
  | some e => if e.kind = 2 then decide (e.sector ≤ off / 0x1000) && decide (off / 0x1000 < e.sector + 256) else e.sector == off / 0x1000
  | none => false

/-- Show an array's state in FLASH.STATUS.BUSY and SUSP. -/
def State.flashShow (s : State) (dom : Nat) : State :=
  (s.setB (F.FLASH.STATUS.BUSY dom) (s.fa dom).erasing).setB (F.FLASH.STATUS.SUSP dom) ((s.fa dom).erase.isSome && !(s.fa dom).erasing)

/-- A program pulse sequence of a device zone failed (R407): FLASH.STATUS.PROG_FAIL and a MEM_ECC entry. -/
def State.progFail (s : State) (addr : Nat) : State :=
  (s.set (F.FLASH.STATUS.PROG_FAIL 0) 1).fault 0x30 0xFF 0xFF ([8, 0, 0, 0] ++ leBytes 4 addr)

/-- The blocks of 64 KB whose erase counters an erase increments (R419). -/
def FlashArr.countErase (x : FlashArr) (dom sector kind : Nat) : FlashArr :=
  if dom = 0 ∨ sectorZone sector = 0 then x
  else
    let bump := fun (m : List (Nat × Nat)) (b n : Nat) => alSet m b (min 0xFFFFFFFF (alGet 0 m b + n))
    if kind = 2 then { x with ecnt := (List.range 16).foldl (fun m i => bump m (sector / 16 + i) 16) x.ecnt } else { x with ecnt := bump x.ecnt (sector / 16) 1 }

/-- The sectors of an erase. -/
def eraseSectors (kind sector : Nat) : List Nat := if kind = 2 then (List.range 256).map (sector + ·) else [sector]

/-- Start a journaled erase (R408 step 1). The sector and its stamp are undefined from here until the erase ends. -/
def State.eraseStart (s : State) (dom sector kind : Nat) (device dense : Bool) : State :=
  let r := ((s.fa dom).countErase dom sector kind).journalAdd kind sector dense
  let x := r.1
  let e : Erase := { sector := sector, kind := kind, seq := r.2, susp := false, byCommit := false, device := device, dense := dense }
  let st := (eraseSectors kind sector).foldl (fun (m : List (Nat × Option Nat)) i => alSet m i none) x.stamps
  (s.setFa dom { x with erase := some e, stamps := st }).flashShow dom

/-- Drop what the device holds in an erased sector of Heartwood: audit entries, commits and records (R124, R418, R555). -/
def State.dropErased (s : State) (sector : Nat) : State :=
  let a := sectorAddr 0 sector
  let hit := fun (b n : Nat) => decide (b < a + 0x1000) && decide (a < b + n)
  let hits := fun (e : AuditEntry) => hit (auditAddr e.seq) 64
  let s := { s with audit := { s.audit with held := if 0x200 ≤ sector ∧ sector < 0x300 then (s.audit.held.filter fun (e : AuditEntry) => !hits e) else s.audit.held } }
  { s with recs := { s.recs with commits := s.recs.commits.filter fun (c : Commit) => !hit c.addr (64 + 48 * c.entries.length),
                                 ring := s.recs.ring.filter fun (r : RecEntry) => !hit r.addr 512 } }

/-- A sector is erased and stamped (R408 steps 3 and 4). -/
def State.sectorErased (s : State) (dom sector seq : Nat) : State :=
  let s := s.wipe (sectorAddr dom sector) 0x1000
  let x := s.fa dom
  let s := s.setFa dom { x with stamps := alSet x.stamps sector (some seq), ones := x.ones.filter fun a => !(decide (sectorAddr dom sector ≤ a) && decide (a < sectorAddr dom sector + 0x1000)), undef := x.undef.filter fun r => !(decide (sectorAddr dom sector ≤ r.1) && decide (r.1 < sectorAddr dom sector + 0x1000)) }
  if dom = 0 then s.dropErased sector else s

/-- A list of sectors is erased and stamped. -/
def State.sectorsErased (s : State) (dom seq : Nat) : List Nat → State
  | [] => s
  | i :: is => (s.sectorErased dom i seq).sectorsErased dom seq is

/-- Start the next erase the device waits for, if no erase runs (R412). -/
def State.eraseNext (s : State) (dom : Nat) : State :=
  let x := s.fa dom
  match x.erase, x.want with
  | none, w :: ws => (s.setFa dom { x with want := ws }).eraseStart dom w 1 true false
  | _, _ => s

/-- The device asks for an erase of its own; it waits while another runs (R412). -/
def State.eraseWant (s : State) (sector : Nat) : State :=
  if s.hflash.want.contains sector then s else ({ s with hflash := { s.hflash with want := s.hflash.want ++ [sector] } }).eraseNext 0

/-! Erase-ahead of the commit ring (R555). -/

/-- Whether a sector of zone 1 holds part of a commit. -/
def State.commitSector (s : State) (sec : Nat) : Bool := s.recs.commits.any fun (c : Commit) =>
  decide (c.addr < sectorAddr 0 sec + 0x1000) && decide (sectorAddr 0 sec < c.addr + 64 + 48 * c.entries.length)

/-- Whether a sector of zone 1 is erased with its erase complete. -/
def State.commitBlank (s : State) (sec : Nat) : Bool := !s.commitSector sec && !s.hflash.want.contains sec && !s.hflash.inErase (0x1000 * sec)

/-- Erased bytes ahead of the write position, counted by whole sectors up to `n` of them. -/
def State.spaceGo (s : State) : Nat → Nat → Nat
  | 0, _ => 0
  | n + 1, sec => if s.commitBlank sec then 0x1000 + s.spaceGo n (if sec = 511 then 256 else sec + 1) else 0

/-- Erased space kept ahead of the write position. -/
def State.space (s : State) : Nat :=
  let sec := (s.recs.wpos - 0x08000000) / 0x1000
  let rest := 0x1000 - s.recs.wpos % 0x1000
  if s.recs.wpos % 0x1000 = 0 then s.spaceGo 256 (256 + sec % 256) else rest + s.spaceGo 255 (if sec = 511 then 256 else sec + 1)

/-- The space R555 keeps: two largest blocks and one sector. -/
def State.spaceNeeded (s : State) : Nat := 2 * s.commitLen + 0x1000

/-- The first sector ahead of the write position that is not erased, among `n`. -/
def State.firstDirty (s : State) : Nat → Nat → Option Nat
  | 0, _ => none
  | n + 1, sec => if s.commitSector sec then some sec else s.firstDirty n (if sec = 511 then 256 else sec + 1)

/-- Start erasing the next sector of the commit ring where the space kept does not hold (R555): done after each commit by the routine that made it, and again when an erase completes and when HSC runs on after the
power-fail and FROST commits (DEDUCED, log entry 180). -/
def State.commitAhead (s : State) : State :=
  if s.spaceNeeded ≤ s.space then s else
    let sec := (s.recs.wpos - 0x08000000) / 0x1000
    match s.firstDirty 255 (if sec = 511 then 256 else sec + 1) with
    | some d => s.eraseWant d
    | none => s

/-- The running erase has verified (R408, R414); what the commit ring still lacks is erased next (R555). -/
def State.eraseDone (s : State) (dom : Nat) (e : Erase) : State :=
  let s := s.sectorsErased dom e.seq (eraseSectors e.kind e.sector)
  let x := s.fa dom
  let z := sectorZone e.sector
  let s := s.setFa dom { x with erase := none, lastResult := 0, dense := if e.kind = 2 then (if e.dense then z :: x.dense.filter (· != z) else x.dense.filter (· != z)) else x.dense }
  let s := (s.flashShow dom).eraseNext dom
  if dom = 0 then s.commitAhead else s

/-- A device erase carried out within one command (image slots, audit sectors): journaled, erased and stamped (R408). -/
def State.eraseSync (s : State) (sector : Nat) : State :=
  let r := s.hflash.journalAdd 1 sector false
  ({ s with hflash := r.1 }).sectorErased 0 sector r.2

/-- Erase `n` sectors from a sector up. -/
def State.erasesSync (s : State) (sector : Nat) : Nat → State
  | 0 => s
  | n + 1 => (s.eraseSync sector).erasesSync (sector + 1) n

/-- The sectors of an erase that did not end are undefined, each with its stamp (R410, R413). -/
def FlashArr.eraseLost (x : FlashArr) (dom : Nat) (e : Erase) : FlashArr := { x with erase := none, undef := ((eraseSectors e.kind e.sector).map fun i => (sectorAddr dom i, 0x1000)) ++ x.undef }

/-- An array loses power or is reset while an erase runs: the sector, stamp included, is undefined, and no erase runs any more (R412, R413). -/
def State.eraseCut (s : State) (dom : Nat) : State :=
  let x := s.fa dom
  let s := match x.erase with
    | some e => s.setFa dom { x.eraseLost dom e with want := [] }
    | none => s.setFa dom { x with want := [] }
  s.flashShow dom

/-- Whether a journal entry covers a sector: it names it, or its zone. -/
def JEntry.covers (e : JEntry) (sector : Nat) : Bool := if e.kind = 2 then decide (e.sector ≤ sector) && decide (sector < e.sector + 256) else e.sector == sector

/-- The newest journal entry of a sector (R415 step 2). -/
def FlashArr.newest (x : FlashArr) (sector : Nat) : Option JEntry :=
  (x.journal.filter fun e => e.covers sector).foldl (fun (m : Option JEntry) e => match m with
    | some o => if o.seq < e.seq then some e else some o
    | none => some e) none

/-- Whether a journal entry is the newest of some sector that holds no valid stamp with its SEQ (R415 step 3). -/
def FlashArr.unstamped (x : FlashArr) (e : JEntry) : Bool :=
  (eraseSectors e.kind e.sector).any fun i => x.newest i == some e && alFind x.stamps i != some (some e.seq)

/-- Erase again, under a new entry, what a journal entry left without its stamp (R415); the erase counters of Sapwood count it (R419). -/
def State.repairOne (s : State) (dom : Nat) (e : JEntry) : State :=
  let r := ((s.fa dom).countErase dom e.sector e.kind).journalAdd e.kind e.sector e.dense
  let s := (s.setFa dom r.1).sectorsErased dom r.2 (eraseSectors e.kind e.sector)
  let x := s.fa dom
  let z := sectorZone e.sector
  if e.kind = 2 then s.setFa dom { x with dense := if e.dense then z :: x.dense.filter (· != z) else x.dense.filter (· != z) } else s

/-- Repair what each of a list of journal entries left; the number of sectors erased again. -/
def State.repairList (s : State) (dom : Nat) : List JEntry → Nat → State × Nat
  | [], n => (s, n)
  | e :: es, n => if (s.fa dom).unstamped e then (s.repairOne dom e).repairList dom es (n + (eraseSectors e.kind e.sector).length) else s.repairList dom es n

/-- The repair of interrupted erases (R415): the array after it and the sectors erased again. -/
def State.repair (s : State) (dom : Nat) : State × Nat := s.repairList dom (s.fa dom).journal 0

/-- Protection area of an offset (R416). -/
def areaOf (off : Nat) : Nat := off / 0x40000
/-- Whether an area refuses program and erase (R417). -/
def FlashArr.locked (x : FlashArr) (area : Nat) : Bool :=
  let pw := alGet (List.replicate 16 0xFF) x.pass area
  pw != List.replicate 16 0xFF && !x.unlocked.contains area

/-- Protection and failure counts after a reset of the domain (R417). -/
def State.relock (s : State) (dom : Nat) : State := s.setFa dom { s.fa dom with unlocked := [], fails := 0 }

/-! The record ring's places (R418). -/

/-- The good sectors of zones 16 to 31. -/
def State.goodSectors (s : State) : Nat := 4096 - s.recs.badSectors.length

/-- The k-th good sector from sector i of the ring on, looking at `n` sectors. -/
def goodFrom (bad : List Nat) : Nat → Nat → Nat → Nat
  | 0, i, _ => i
  | n + 1, i, k => if bad.contains i then goodFrom bad n (i + 1) k else if k = 0 then i else goodFrom bad n (i + 1) (k - 1)

/-- The ring sector, 0 to 4,095, of record index n. -/
def State.recSector (s : State) (n : Nat) : Nat :=
  if s.recs.badSectors.isEmpty then n / 8 % 4096 else goodFrom s.recs.badSectors 4096 0 (n / 8 % max 1 s.goodSectors)

/-- The address of the record with index n. -/
def State.recAddr (s : State) (n : Nat) : Nat := 0x09000000 + 0x1000 * s.recSector n + 512 * (n % 8)

end Sys2Proof.Machine
end

