-- ==== Sys2Proof/Machine/Control.lean ====
section
/-! DEFINITION. The control records of Heartwood flash under the copy rule: appending a copy, choosing the valid one, and loading what it holds (R94, R95, R400, R407, R554). The pairs of sectors are numbered 0 slot
selection, 1 seal control word, 2 front-end settings, 3 calibration, 4 audit control, 5 PARAM values, 7 key slots; the flash state record, 6, is what `recs.badSectors`, `recs.nextIndex` and `hflash.scrubPos` hold. -/

namespace Sys2Proof.Machine

/-- Append a copy whose programming fails `fails` times (R407): each failed copy stays behind with a PROG_FAIL, the next takes the next GEN, and the fourth failure abandons the write; true says a copy was written. -/
def State.ctlTry (s : State) (p : Nat) (v : CtlVal) (gen : Nat) : Nat → Nat → State × Bool
  | 0, _ => (s, false)
  | _ + 1, 0 => (s.ctlPut p gen v false, true)
  | k + 1, f + 1 => ((s.ctlPut p gen v true).progFail (sectorAddr 0 (ctlSector p 0))).ctlTry p v (gen + 1) k f

/-- Append a copy (R95) that meets `fails` PROG_FAILs. -/
def State.ctlWrites (s : State) (p : Nat) (v : CtlVal) (fails : Nat) : State × Bool := s.ctlTry p v (s.ctlGen p) 4 fails

/-- The slot selection word takes a new value: a copy is appended, and HSC holds it (R95). -/
def State.selWrite (s : State) (w : SelWord) : State :=
  let g := s.ctlGen 0
  { s.ctlPut 0 g (.sel { w with valid := true, gen := g }) false with sel := { w with valid := true, gen := g } }

/-- The key slot table takes a new value (R514): a copy is appended (R95). -/
def State.keysWrite (s : State) (ks : List KeySlot) : State := { s.ctlWrite 7 (.keys ks) with keys := ks, keysGen := s.keysGen + 1 }

/-- A write of a pair's newest copy was interrupted: its CRC never matches (R95), and its words are undefined (R413). -/
def State.ctlCut (s : State) (p : Nat) : State := match s.copies p with
  | c :: cs =>
    { s with ctl := alSet s.ctl p ({ c with bad := true } :: cs), hflash := { s.hflash with undef := (c.addr p, ctlLen p) :: s.hflash.undef } }
  | [] => s

/-- What HSC loads from a copy. -/
def State.ctlShow (s : State) : CtlVal → State
  | .sel w => { s with sel := w }
  | .seal b c => { s with sealc := { s.sealc with stSealed := b, stCount := c, stValid := true } }
  | .front fs => { s with front := { s.front with fs := fs, fsValid := true } }
  | .cal corr doneAt since qual => { s with cal := { s.cal with corr := corr, doneAt := doneAt, since := since, qual := qual } }
  | .audit o l u => { s with audit := { s.audit with ctlOldest := o, ctlLevel := l, ctlUnlogged := u } }
  | .params v => { s with params := v }
  | .keys k => { s with keys := k }

/-- What HSC has of a pair with no valid copy: both slots count as empty (R95), the seal word and the settings are lost (R105, R176); no rule says what the other records then give, and the model takes them as at
manufacture (DESIGN CHOICE, log entry 173). -/
def State.ctlNone (s : State) (p : Nat) : State :=
  if p = 0 then { s with sel := { s.sel with valid := false } }
  else if p = 1 then { s with sealc := { s.sealc with stValid := false } }
  else if p = 2 then { s with front := { s.front with fs := [], fsValid := false } }
  else if p = 3 then s.ctlShow (.cal [] [] [] [])
  else if p = 4 then s.ctlShow (.audit 0 0 0)
  else if p = 5 then s.ctlShow (.params [])
  else if p = 7 then s.ctlShow (.keys (List.replicate 4 KeySlot.empty))
  else s

/-- Load the valid copies of a list of pairs (R95), at step 3 of a start. -/
def State.ctlLoad (s : State) : List Nat → State
  | [] => s
  | p :: ps => (match s.ctlValid p with
      | some c => s.ctlShow c.val
      | none => s.ctlNone p).ctlLoad ps

/-- The pairs. -/
def ctlPairs : List Nat := [0, 1, 2, 3, 4, 5, 7]

/-! The end of AUDIT_CLEAR (R124). -/

/-- The device asks for a list of erases. -/
def State.eraseWants (s : State) : List Nat → State
  | [] => s
  | i :: is => (s.eraseWant i).eraseWants is

/-- Whether an erase of a trail sector runs or waits. -/
def State.trailErasing (s : State) : Bool :=
  let zone := fun (i : Nat) => decide (0x200 ≤ i) && decide (i < 0x300)
  s.hflash.want.any zone || (match s.hflash.erase with
    | some e => zone e.sector
    | none => false)

/-- AUDIT_OVERFLOW with the count of what was not logged, which then clears (R124 step 3); without room it is itself not logged (R123). -/
def State.auditOverflow (s : State) : State :=
  let u := s.get F.SEAL.UNLOGGED.COUNT
  if u = 0 then s else if s.auditCount < 16383 then (s.auditProgram { s.mkEvent 0x81 0xFF (leBytes 4 u) with sealst := s.gw.sealst }).set F.SEAL.UNLOGGED.COUNT 0 else s.auditLost

/-- A copy of the audit control record falls due (R554). -/
def State.auditCtlDue (s : State) : State := { s with audit := { s.audit with ctlPending := true } }

/-- The last erase of step 2 of an AUDIT_CLEAR has ended: step 3, and the RESULT (R124), as soon as HSC runs. -/
def State.clearEnd (s : State) : State := match s.gw.clear with
  | some tag =>
    if s.trailErasing || (s.on F.FLT.STATUS.SAFE && s.get F.FLT.STATUS.CAUSE == 3) then s
    else (({ s with gw := { s.gw with clear := none, long := none } } : State).auditOverflow.auditCtlDue.auditRelevel).result tag 0x0F 0 []
  | none => s

/-- Append the pending copy of the audit control record (R554), which meets fewer than four PROG_FAILs (R407): the SEQ of the oldest held entry, the level and SEAL.UNLOGGED. -/
def State.auditCtlCopy (s : State) (fails : Nat) : State :=
  if s.audit.ctlPending then
    let o := (s.audit.held.head?.map (·.seq)).getD s.audit.nextSeq
    let l := s.get F.SEAL.STATUS.LEVEL
    let u := s.get F.SEAL.UNLOGGED.COUNT
    let s := { s with audit := { s.audit with ctlPending := false, ctlOldest := o, ctlLevel := l, ctlUnlogged := u } }
    (s.ctlWrites 4 (.audit o l u) fails).1
  else s

end Sys2Proof.Machine
end

