-- ==== Sys2Proof/Machine/ResetOps.lean ====
section
/-! DEFINITION. The power-fail commit (R327), the reset classes (R59 to R62) and chip safe state (R392, R393). -/

namespace Sys2Proof.Machine

/-! What a class keeps of the registers (R6). -/

/-- A word with the kept fields of `w` over its class P value. -/
def keepFields (keep : FieldSpec → Bool) (w : Nat) : List FieldSpec → Nat → Nat
  | [], v => v
  | f :: fs, v => keepFields keep w fs (if keep f then setBits v f.hi f.lo (bitsOf w f.hi f.lo) else v)

/-- A register word after a reset that keeps some fields. -/
def keepWord (keep : FieldSpec → Bool) (a : Nat) (w : Word) : Word := match findSpec regTable a with
  | some r => BitVec.ofNat 32 (keepFields keep w.toNat r.fields (regDefault a).toNat)
  | none => w

/-- Whether a register is the Sapwood instance of the FLASH slot, which resets at classes P and S and keeps its values through class H (Flash chapter). -/
def sapFlash (a : Nat) : Bool := decide (0x140002000 ≤ a) && decide (a < 0x140003000)

/-- The register file after a class whose kept fields are given per address, in canonical form. -/
def regsClass (keep : Nat → FieldSpec → Bool) (m : List (Nat × Word)) : List (Nat × Word) :=
  (m.map fun (e : Nat × Word) => (e.1, keepWord (keep e.1) e.1 e.2)).filter fun e => decide (e.2 ≠ regDefault e.1)

/-- Kept at class H. -/
def keepsH (a : Nat) (f : FieldSpec) : Bool := if sapFlash a then true else f.keepH
/-- Kept at class S. -/
def keepsS (a : Nat) (f : FieldSpec) : Bool := if sapFlash a then false else f.keepS

/-- Heartwood SRAM: regions, shared echo SRAM, HSC SRAM, and tally program memory (R33, R34). -/
def isHRam (a : Nat) : Bool := (decide (0x10000000 ≤ a) && decide (a < 0x13080000)) || decide (0x200000000 ≤ a)
/-- Retention SRAM. -/
def isRet (a : Nat) : Bool := decide (0x14000000 ≤ a) && decide (a < 0x14010000)
/-- Sapwood SRAM. -/
def isSRam (a : Nat) : Bool := decide (0x120000000 ≤ a) && decide (a < 0x120180000)

/-- Memory without the cells of a kind: they read as unwritten again. -/
def dropCells (p : Nat → Bool) (m : List Host.Cell) : List Host.Cell := m.filter fun c => !p c.1

/-! The power-fail commit. -/

/-- The jobs at a power-fail trigger (R327, R328): one that ran has stopped and one still undecided is not admitted, and both are abandoned with cause 6; one admitted before the trigger stays, to be dispatched after the resumption or
abandoned by R333 (log entry 107). -/
def State.jobsHalt (s : State) : List (Nat × Job) → State
  | [] => s
  | (k, j) :: es => (if j.st = 0 ∨ j.st = 2 then (s.jobEnd k).releaseLost k j.cycle 6 else s).jobsHalt es

/-- Every job that stands, so halted. -/
def State.jobsStop (s : State) : State := s.jobsHalt s.spn.jobs

/-- The engines and regions that the commit does not need are gated (R327 step 2), and PLL_ACQ stops with the units that used it (R361): it needs the regions with totalizers, and a region without GATE is never gated (R334). -/
def State.gateForCommit (s : State) : State :=
  ({ s with spn := { s.spn with thawed := s.spn.thawed.filter fun u => decide (u < 8) && (!(s.totsUsed u).isEmpty || bitsOf (s.img 2 u 1 1) 0 0 == 0) } }).set F.CLK.STATUS.ACQ_LOCK 0

/-- Stop the running task of every pair of a list (R244). -/
def State.pairsStop (s : State) : List Nat → State
  | [] => s
  | r :: rs => (if (s.pair r).task.isSome then s.pairStop r else s).pairsStop rs

/-- Commits past the commit point are completed (R327 step 1), and their jobs have ended. -/
def State.logsEnd (s : State) : List Nat → State
  | [] => s
  | r :: rs => ((s.logJobEnd r).logApply r).logsEnd rs

/-- Gate every lane and drop the running sequences: nothing fires while the commit is made (R327 step 2). -/
def State.lanesOff (s : State) : List Nat → State
  | [] => s
  | l :: ls => (((s.set (F.ACQ.LANE_STAT.PWR l) 0).set (F.ACQ.LANE_STAT.CAPT l) 0).set (F.ACQ.LANE_STAT.CONN l) 0).lanesOff ls

/-- Every lane is gated, and no sequence runs on (R327 step 2). -/
def State.firingStops (s : State) : State :=
  ((({ s with acq := { s.acq with seqs := [], lanes := [], chTo := [], bursts := [] } }).lanesOff (List.range 16)).set F.ACQ.STATUS.RUNNING 0).set F.ACQ.STATUS.NSEQ 0

/-- Suspend a running erase for the commit, which does not resume it (R412). -/
def State.commitSuspend (s : State) : State := match s.hflash.erase with
  | some e => if e.susp then s else ({ s with hflash := { s.hflash with erase := some { e with susp := true, byCommit := true } } }).flashShow 0
  | none => s

/-- An erase that the commit suspended is resumed when Spindle resumes (R328, R412). -/
def State.commitResume (s : State) : State := match s.hflash.erase with
  | some e => if e.byCommit then ({ s with hflash := { s.hflash with erase := some { e with susp := false, byCommit := false } } }).flashShow 0 else s
  | none => s

/-- The newest commit block was cut by a loss of power: its CRC does not match, and its first word is damaged. -/
def State.commitCut (s : State) : State := match s.recs.commits with
  | c :: cs => { s.stB c.addr 0 with recs := { s.recs with commits := { c with bad := true } :: cs } }
  | [] => s

/-- The power-fail commit (R327): `us` is the duration from the trigger to the end of step 4 and `mv` VSTORE at the trigger; `cut` says a Heartwood rail falls during steps 3 or 4, which leaves the commit block
invalid and the result incomplete. With no image there is no totalizer file to commit. Records whose programming has not begun are not
written (R520). -/
def State.powerFailStep (s : State) (us mv : Nat) (cut : Bool) : State :=
  let s := { s with spn := { s.spn with held := true, trig := none }, recs := { s.recs with snaps := [] } }
  let s := (s.logsEnd (List.range 8)).pairsStop (List.range 8)
  let s := s.jobsStop
  let s := s.firingStops.gateForCommit.commitSuspend
  let s := if s.slot = 0 then s else s.totCommit 2
  let s := if cut then s.commitCut else s
  let s := s.auditCommitQueue 4 s.audit.queue
  let s := s.auditNow 2 0xFF (leBytes 2 mv ++ [if cut then 2 else 1, 0] ++ leBytes 4 us)
  let s := s.auditCtlCopy 0
  (s.intervalNote 8).set F.SPN.STATUS.PFAIL 1

/-- The power-fail commit, completed. -/
def State.powerFailCommit (s : State) (us mv : Nat) : State := s.powerFailStep us mv false

/-! Classes H, P and S. -/

/-- Heartwood's hidden state as a class H reset leaves it (R59): everything of Heartwood but flash content, the seal controller and the always-on domain. -/
def State.clearHeartwood (s : State) : State :=
  { s with
    boot := { cls := 2, faults := 0, noImage := false, cUse := 0, cMeas := 0, digest := List.replicate 32 0, waitAt := 0 }
    audit := { s.audit with queue := [], startOpen := false, ctlPending := false }
    ring := State.reset.ring
    gw := State.reset.gw
    hic := Ic.reset
    gpioH := false
    acq := State.reset.acq
    echo := State.reset.echo
    front := { s.front with deferred := [], warmTo := [], quiet := [], seen := [] }
    pulse := []
    fabric := State.reset.fabric
    pairs := []
    recs := { s.recs with snaps := [], snapNext := [], fired := [], mirror := [] }
    time := { s.time with step := none, fast := false, last := [], cmps := [], awake := 0 }
    spn := { State.reset.spn with codes := s.spn.codes }
    cal := { s.cal with queue := [], running := none, cmd := none, zero := none, laneRamps := [] }
    flt := State.reset.flt
    tw := s.tw.filter fun (e : Nat × TwPort) => decide (4 ≤ e.1)
    csp := s.csp.filter fun (e : Nat × CspPort) => decide (2 ≤ e.1)
    hscHalted := false
    wdt := { s.wdt with hscPause := none }
    snaps := []
    reads := []
    mem := dropCells isHRam s.mem }

/-- A long gateway command ends with no RESULT: the engine runs it no more (R98, R113, R508; log entry 53). -/
def State.hostDrop (s : State) : State := match s.host.long with
  | some x => if x.code < 0x200 then (({ s with host := { s.host with long := none } }).set F.HOST.STATUS.BUSY 0).set F.HOST.STATUS.CODE 0 else s
  | none => s

/-- Class H reset (R59, R60, R70): `cause` is 1 fault manager, 2 authority command, 3 loss of a rail; `rail` counts for the last; `commit` says the commit of R60 completed.
SYNC passes from SYNC to HOLDOVER (R299). -/
def State.resetH (s : State) (cause rail : Nat) (commit : Bool) : State :=
  let n := min 0xFFFF (s.get F.FLT.RST_CAUSE.HCOUNT + 1)
  let s := (s.eraseCut 0).relock 0
  let s := s.clearHeartwood
  let s := ({ s with regs := regsClass keepsH s.regs }).hostDrop
  let s := s.set F.FLT.RST_CAUSE.HCOUNT n
  let s := if cause = 1 then s.set F.FLT.RST_CAUSE.FAULT 1 else if cause = 2 then s.set F.FLT.RST_CAUSE.AUTH 1
    else (s.set F.FLT.RST_CAUSE.SUPPLY 1).set F.FLT.RST_CAUSE.RAIL rail
  let s := s.setB F.FLT.RST_CAUSE.COMMIT commit
  let s := (s.setB F.SEAL.STATUS.SEALED s.sealc.stSealed).set F.SEAL.COUNTER.COUNT s.sealc.stCount
  s.syncLost

/-- A class H reset that the commit of R60 precedes. The fault manager's reset does not wait longer than 5 ms (R393): a commit that takes longer is cut, and COMMIT reads 0. With no image no totalizer file exists
and no commit block is written; the commit steps then complete with nothing to commit, and COMMIT reads 1 (R60 does not say; DESIGN CHOICE, log entry 168). -/
def State.resetHCommit (s : State) (cause us mv : Nat) : State :=
  let cut := cause == 1 && decide (5000 < us)
  (s.powerFailStep us mv cut).resetH cause 0 (!cut)

/-- A command that is being checked is discarded (R20, R113). -/
def State.gwDiscard (s : State) : State := match s.gw.check with
  | some _ => ({ s with gw := { s.gw with check := none } }).set F.GW.CMD_STATE.STATE 0
  | none => s

/-- Sapwood's hidden state as a class S reset leaves it (R59). -/
def State.clearSapwood (s : State) : State :=
  { s with
    sic := Ic.reset
    gpioS := []
    tw := s.tw.filter fun (e : Nat × TwPort) => decide (e.1 < 4)
    csp := s.csp.filter fun (e : Nat × CspPort) => decide (e.1 < 2)
    cspx := State.reset.cspx
    mac := []
    host := State.reset.host
    cores := []
    tmr := { base := s.time.plls, grps := [], wdtAt := s.time.plls, gateAt := s.time.plls, pauseAt := none }
    season := { s.season with gated := false }
    mem := dropCells isSRam s.mem }

/-- Class S reset (R59, R70): `cause` is 1 PIN, 2 WDT, 3 SW, 4 SUPPLY. -/
def State.resetS (s : State) (cause : Nat) : State :=
  let n := min 0xFFFF (s.get F.SEASON.SRST_CAUSE.SCOUNT + 1)
  let s := ((s.gwDiscard).eraseCut 1).relock 1
  let s := s.clearSapwood
  let s := { s with regs := regsClass keepsS s.regs }
  let s := s.set F.SEASON.SRST_CAUSE.SCOUNT n
  let f := if cause = 1 then F.SEASON.SRST_CAUSE.PIN else if cause = 2 then F.SEASON.SRST_CAUSE.WDT else if cause = 3 then F.SEASON.SRST_CAUSE.SW else F.SEASON.SRST_CAUSE.SUPPLY
  (s.set f 1).seasonUpdate

/-- Class P reset (R59, R70): flash contents are kept, with what the model holds of them in parts of its own; everything else takes its class P value.
From step 1 of the start the stored seal state applies (R103). -/
def State.resetP (s : State) : State :=
  let s := ((s.eraseCut 0).relock 0).eraseCut 1 |>.relock 1
  let c : State :=
    { State.reset with
      pending := s.pending
      freeCtr := s.freeCtr
      pins := s.pins
      mem := dropCells (fun a => isHRam a || isRet a || isSRam a) s.mem
      sealc := { State.reset.sealc with stSealed := s.sealc.stSealed, stCount := s.sealc.stCount, stValid := s.sealc.stValid, fuses := s.sealc.fuses, serial := s.sealc.serial,
                                        slWrites := s.sealc.slWrites, paramChanges := s.sealc.paramChanges, openedAt := s.sealc.openedAt, closedAt := s.sealc.closedAt }
      ctl := s.ctl
      audit := { s.audit with queue := [], startOpen := false, ctlPending := false }
      keys := s.keys
      keysGen := s.keysGen
      sel := s.sel
      params := s.params
      hflash := s.hflash
      sflash := s.sflash
      front := { s.front with deferred := [], warmTo := [], quiet := [], seen := [] }
      recs := { s.recs with snaps := [], snapNext := [], fired := [], mirror := [] }
      cal := { State.reset.cal with corr := s.cal.corr, doneAt := s.cal.doneAt, since := s.cal.since, qual := s.cal.qual, marks := s.cal.marks } }
  (c.setB F.SEAL.STATUS.SEALED s.sealc.stSealed).set F.SEAL.COUNTER.COUNT s.sealc.stCount

/-! Chip safe state (R392, R393). -/

/-- Safe state with a cause, and what shows it (R392). -/
def State.safeSet (s : State) (cause : Nat) : State :=
  let s := (s.set F.FLT.STATUS.SAFE 1).set F.FLT.STATUS.CAUSE cause
  let s := { s with flt := { s.flt with safeAt := s.time.t, safe1 := s.flt.safe1 + (if cause = 1 then 1 else 0), safe3 := s.flt.safe3 + (if cause = 3 then 1 else 0) } }
  (s.intervalNote 2).icSample 0 1

/-- Safe state with no image (R65, R392): the start entry is completed (R556). -/
def State.startNoImage (s : State) : State :=
  let s := (s.set F.FLT.BOOT_STATUS.SLOT 0).set F.FLT.BOOT_STATUS.STEP 4
  let s := { s with boot := { s.boot with noImage := true, digest := List.replicate 32 0 } }
  let s := (s.safeSet 4).startComplete
  { s with boot := { s.boot with cls := 0 } }

/-- A fault that the fault manager reports during step 5 or 6 of a start (R65): the first restarts Heartwood from step 3, with nothing loaded; a second leaves it in safe state with no image. -/
def State.bootFault (s : State) : State :=
  let n := s.boot.faults + 1
  let s := { s with boot := { s.boot with faults := n } }
  if n = 1 then ({ s with fabric := State.reset.fabric, pairs := [], pulse := [], acq := State.reset.acq, echo := State.reset.echo }).set F.FLT.BOOT_STATUS.STEP 2
  else s.startNoImage

/-- Whether a start has loaded the fabric and not reached step 7 (R63). -/
def State.starting (s : State) : Bool := s.boot.cls != 0 && s.get F.FLT.BOOT_STATUS.STEP == 5

/-- Enter safe state with a cause (R392), or, during step 6 of a start, restart as R65 says. A third entry with cause 1 or a second with cause 3 within one record interval causes a class H reset by the fault manager,
with the commit of R60 (R393); how long that commit takes is not stated (free, log entry 2). -/
def State.enterSafe (s : State) (cause : Nat) : State :=
  if s.starting then s.bootFault
  else
    let s := s.safeSet cause
    if (cause = 1 ∧ 3 ≤ s.flt.safe1) ∨ (cause = 3 ∧ 2 ≤ s.flt.safe3) then
      let r := s.free
      r.2.resetHCommit 1 r.1.toNat (s.get F.GAUGE.VSTORE.MV)
    else s

end Sys2Proof.Machine
end

