-- ==== Sys2Proof/Machine/RecOps.lean ====
section
/-! DEFINITION. Interval records: snapshots, record bytes, signing, placing in the ring, and gap records (R249, R407, R418, R520 to R525). -/

namespace Sys2Proof.Machine

/-- Bits set in the low 64 bits. -/
def popcount64 (v : Nat) : Nat := ((List.range 64).filter fun i => bitsOf v i i == 1).length

/-- REC_TMASK of a stream. -/
def State.recT (s : State) (st : Nat) : Nat := s.streamF st 0x14 8
/-- REC_AVG of a stream. -/
def State.recA (s : State) (st : Nat) : Nat := s.streamF st 0x1C 4
/-- Whether a stream has records. -/
def State.recording (s : State) (st : Nat) : Bool := s.hasStream st && (s.recT st != 0 || s.recA st != 0)
/-- The totals of a stream's record, in increasing n. -/
def State.recTots (s : State) (st : Nat) : List Nat := (List.range 64).filter fun n => bitsOf (s.recT st) n n == 1

/-- OR of the flag bits [9:4] of the MQ words of a body: the increments and the averages (R522, R524). -/
def bodyFlags : Nat → List W128 → Nat
  | 0, ws => ws.foldl (fun (f : Nat) w => flOr f (Mq.ofWord w).fl) 0
  | n + 1, _ :: c :: ws => flOr (Mq.ofWord c).fl (bodyFlags n ws)
  | _ + 1, _ => 0

/-- The fields of a record that its snapshot and its interval give (R521, R522). -/
structure RecHead where
  stream : Nat
  flags : Nat
  sync : Nat
  level : Nat
  interval : Nat
  first : Nat
  last : Nat
  closeS : Nat
  closeNs : Nat
  sealctr : Nat
  ncyc : Nat
  nsub : Nat
  ndeg : Nat
  deriving DecidableEq, Repr

/-- Bytes 0x000 to 0x1BF of a record (R521). -/
def State.recBody (s : State) (h : RecHead) (index : Nat) (ws : List W128) : List Byte :=
  let nt := popcount64 (s.recT h.stream)
  let na := popcount64 (s.recA h.stream)
  let head := [0x47, 0x52, 0x45, 0x43, 0x01] ++ leBytes 1 h.stream ++ leBytes 2 (Nat.lor h.flags (256 * bodyFlags nt ws)) ++ leBytes 4 index ++ leBytes 1 h.sync ++ leBytes 1 h.level ++
    leBytes 1 nt ++ leBytes 1 na ++ leBytes 8 h.interval ++ leBytes 8 h.first ++ leBytes 8 h.last ++ leBytes 8 h.closeS ++ leBytes 4 h.closeNs ++ leBytes 4 h.sealctr ++
    (s.boot.digest ++ List.replicate 32 0).take 32 ++ leBytes 8 (s.recT h.stream) ++ leBytes 4 (s.recA h.stream) ++ leBytes 4 h.ncyc ++ leBytes 2 h.nsub ++ leBytes 2 h.ndeg ++ [0, 0, 0, 0]
  head ++ (ws.flatMap (fun (w : W128) => leBytes 16 w.toNat) ++ List.replicate 336 0).take 336

/-- The cryptographic unit ends an operation: HIC source 7 has an edge (R446). -/
def State.cryptoEnd (s : State) : State := s.icEdge 0 7

/-- Sign a record under the device key (R512, R521): what the signature's numbers are is known only to the part (free, log entry 2). -/
def State.recSign (s : State) (body : List Byte) : List Byte × State :=
  let sg := Config.deviceSign (beNat (sha256 body)) s.freeCtr
  (body ++ beBytes 32 sg.1.toNat ++ beBytes 32 sg.2.toNat, ({ s with freeCtr := s.freeCtr + 1 }).cryptoEnd)

/-- After the first record of a sector is written, the next good sector is erased (R418). -/
def State.recAhead (s : State) (index : Nat) : State := if index % 8 = 0 then s.eraseWant (4096 + s.recSector (index + 8)) else s

/-- Program one record at the next index. A slot that failed is left NOT_VALID and its content is undefined (R407, R413). -/
def State.recPlace (s : State) (h : RecHead) (ws : List W128) (bad : Bool) : State :=
  let n := s.recs.nextIndex
  let r := s.recSign (s.recBody h n ws)
  let s := r.2
  let a := s.recAddr n
  let s := s.stBytes a r.1
  let e : RecEntry := { index := n, addr := a, bytes := r.1, bad := bad }
  let s := { s with recs := { s.recs with ring := s.recs.ring ++ [e], nextIndex := n + 1 } }
  let s := if bad then ({ s with hflash := { s.hflash with undef := (a, 512) :: s.hflash.undef } }).progFail a else s
  s.recAhead n

/-- Write a record whose programming fails `fails` times: each failed slot is spent, and the fourth failure abandons the record and puts Heartwood in safe state with cause
0b011 (R407). True says a record was written. -/
def State.recWrite (s : State) (h : RecHead) (ws : List W128) : Nat → Nat → State × Bool
  | 0, _ => (s.enterSafe 3, false)
  | _ + 1, 0 => (s.recPlace h ws false, true)
  | k + 1, f + 1 => (s.recPlace h ws true).recWrite h ws k f

/-- The RECORD entry of the last record written (R115, R520): CYCLE is its LAST_CYCLE. -/
def State.recAnnounce (s : State) (h : RecHead) : State :=
  s.ringPut 4 h.stream 0 h.last (leBytes 4 (s.recs.nextIndex - 1) ++ (s.boot.digest ++ List.replicate 4 0).take 4 ++ leBytes 4 h.sealctr ++ [0, 0, 0, 0])

/-- Whether two interval records, one from each end of a line, form a balance pair (R552): equal FIRST_CYCLE and LAST_CYCLE, SYNC 0b01, and no gap record; that both images have equal CYCLE_US and INTERVAL_S the records do not
show, and `same` says it. -/
def balancePair (same : Bool) (a b : List Byte) : Bool :=
  let f := fun (r : List Byte) off n => leNat ((r.drop off).take n)
  same && f a 0x18 8 == f b 0x18 8 && f a 0x20 8 == f b 0x20 8 && f a 0x0C 1 == 1 && f b 0x0C 1 == 1 && bitsOf (f a 6 2) 7 7 == 0 && bitsOf (f b 6 2) 7 7 == 0

/-! Gap records (R525). -/

/-- The newest valid record of a stream. -/
def State.newestRec (s : State) (st : Nat) : Option RecEntry := (s.recs.ring.reverse).find? fun r => !r.bad && leNat ((r.bytes.drop 5).take 1) == st

/-- A field of a record. -/
def RecEntry.f (r : RecEntry) (off n : Nat) : Nat := leNat ((r.bytes.drop off).take n)

/-- The TOT word of Tn in a record, 0 where the record does not hold it. -/
def RecEntry.tot (r : RecEntry) (n : Nat) : W128 :=
  if bitsOf (r.f 0x58 8) n n = 1 then BitVec.ofNat 128 (r.f (0x70 + 32 * ((List.range n).filter fun i => bitsOf (r.f 0x58 8) i i == 1).length) 16) else 0

/-- A TOT word less what a companion holds (R249, R525). -/
def totLess (w c : W128) : W128 := (totAdd w (-((Mq.ofWord c).v / 256))).1

/-- The body of a gap record. -/
def State.gapBody (s : State) (st : Nat) (old : RecEntry) (b : Nat) : List W128 :=
  let r := s.homeRegion st
  ((s.recTots st).flatMap fun n =>
    let w := totLess ((s.pair r).totW n) (s.cmpW r b n)
    let d : Mq := { v := clampI mqMin mqMax ((totInt w - totInt (old.tot n)) * 256), u := 0, unit := s.totUnit r n, fl := flSUB, q := 15 }
    [w, d.word]) ++ List.replicate (popcount64 (s.recA st)) (avgWord 0 0 0 0 0 0).word

/-- The gap record of one stream, where one is due (R525). SYNC and LEVEL are those of the moment, NSUB and NDEG 0. -/
def State.gapRecord (s : State) (st : Nat) : State :=
  match s.newestRec st, s.validCommit with
  | some old, some c =>
    let i := old.f 0x10 8
    let ci := s.intervalOf c.cycle
    if s.recording st && decide (i + 1 < ci) then
      let h : RecHead := { stream := st, flags := 128 + 4, sync := s.get F.TIME.STATUS.SYNC, level := s.get F.SPN.STATUS.LEVEL, interval := i + 1, first := old.f 0x20 8 + 1,
                           last := ci * s.cyclesPerInterval - 1, closeS := s.sec, closeNs := s.ns, sealctr := s.get F.SEAL.COUNTER.COUNT, ncyc := 0xFFFFFFFF, nsub := 0, ndeg := 0 }
      (s.recPlace h (s.gapBody st old (ci % 2)) false).recAnnounce h
    else s
  | _, _ => s

/-- Gap records of a list of streams. -/
def State.gapRecords (s : State) : List Nat → State
  | [] => s
  | st :: sts => (s.gapRecord st).gapRecords sts

/-! Snapshots (R249). -/

/-- An average as a record carries it (R229). -/
def Avg.wordOf (a : Avg) : W128 := (avgWord a.n a.sum a.usum (a.unit.getD 0) (if a.n = 0 then 0 else a.fl) a.q).word

/-- What a record of stream `st` takes from region r for an interval: each total less what the next interval has added, the increment, and the averages (R249, R228). -/
def State.snapWords (s : State) (r st num : Nat) (tots : List Nat) : List W128 :=
  let b := num % 2
  (tots.flatMap fun n =>
    let nx := s.cmpW r (1 - b) n
    let c := Mq.ofWord (s.cmpW r b n)
    let c := if Nat.land (Mq.ofWord nx).fl flLIM = 0 then c else { c with fl := flOr c.fl flLIM }
    [totLess ((s.pair r).totW n) nx, c.word]) ++ ((s.avgRegs st).map fun n => (alGet Avg.empty (s.pair r).avgs (avgKey st b n)).wordOf)

/-- Reset bank b of a list of registers (R228, R249). -/
def State.resetCmps (s : State) (r b : Nat) : List Nat → State
  | [] => s
  | n :: ns => ((s.setPair r ((s.pair r).setCmp b n (cmpZero (s.totUnit r n)))).totImage r n).resetCmps r b ns

/-- Reset bank b of a region's companions and accumulators. -/
def State.resetBank (s : State) (r b : Nat) : State :=
  let s := s.resetCmps r b (s.totsUsed r)
  s.setPair r { s.pair r with avgs := (s.pair r).avgs.filter fun (e : Nat × Avg) => e.1 / 32 % 2 != b }

end Sys2Proof.Machine
end

