-- ==== Sys2Proof/Machine/StartOps.lean ====
section
/-! DEFINITION. Seal changes, image slots, and the steps of Heartwood's start-up (R63 to R66, R95, R96, R101 to R106, R122, R252, R304, R514 to R518, R525, R528, R556). -/

namespace Sys2Proof.Machine

/-- HSC runs: Heartwood is out of reset and past step 3 of its start, and its clock is not stopped. -/
def State.hscUp (s : State) : Bool := !s.pins.heldH && decide (3 ≤ s.get F.FLT.BOOT_STATUS.STEP) && s.on F.CLK.STATUS.SYS_LOCK

/-- HSC is able to act: it runs and is not restarting after a safe state of cause 3 (R392). -/
def State.hscRuns (s : State) : Bool := s.hscUp && !(s.on F.FLT.STATUS.SAFE && s.get F.FLT.STATUS.CAUSE == 3)

/-! Seal changes (R103 to R106). -/

/-- Fuses blown for a counter value (R105). -/
def fusesFor (count : Nat) : Nat := min 4096 (count / 16)

/-- The seal control word is written (R103); its programming fails `fails` times. The fourth failure abandons it: HSC stops, and its restart applies the restore of R105 (R407). True says it was written. -/
def State.sealWord (s : State) (isShut : Bool) (count fails : Nat) : State × Bool :=
  let r := s.ctlWrites 1 (.seal isShut count) fails
  if r.2 then ({ r.1 with sealc := { r.1.sealc with stCount := count, stSealed := isShut, stValid := true } }, true)
  else (({ r.1 with sealc := { r.1.sealc with wordLost := true } }).enterSafe 3, false)

/-- The SEAL_OPEN entry (R106, R120). -/
def State.openEntry (s : State) (n sleep dSec dNs : Nat) : State := s.auditPut 0x10 0xFF (leBytes 4 n ++ leBytes 1 sleep ++ [0, 0, 0] ++ leBytes 8 dSec ++ leBytes 4 dNs)

/-- The actions of an opening (R103, R104), with the word written: the state, the entry, and the interval's mark (R107). -/
def State.unsealed (s : State) (n sleep dSec dNs : Nat) : State :=
  let s := { s with sealc := { s.sealc with fuses := max s.sealc.fuses (fusesFor n), slWrites := 0, paramChanges := 0, openedAt := s.time.t } }
  (((s.set F.SEAL.STATUS.SEALED 0).openEntry n sleep dSec dNs).intervalNote 1).icEdge 0 2

/-- An opening (R103, R104): with a saturated counter the state stays SEALED and only the entry is made. -/
def State.sealOpened (s : State) (fails sleep dSec dNs : Nat) : State :=
  let c := s.get F.SEAL.COUNTER.COUNT
  if c = 0xFFFFFFFF then s.openEntry c sleep dSec dNs
  else
    let r := (s.set F.SEAL.COUNTER.COUNT (c + 1)).sealWord false (c + 1) fails
    if r.2 then r.1.unsealed (c + 1) sleep dSec dNs else r.1

/-- The FAULT entry of an XTAL32 failure, when HSC runs (R362). -/
def State.x32Log (s : State) : State := if s.season.x32Due then ({ s with season := { s.season with x32Due := false } }).fault 0x51 0xFF 0xFF (leBytes 1 1 ++ List.replicate 7 0) else s

/-- HSC runs on after a halt, and its watchdog counts on (R534). -/
def State.hscGo (s : State) : State :=
  { s with hscHalted := false, wdt := { hscAt := match s.wdt.hscPause with | some p => s.wdt.hscAt + (s.time.t - p) | none => s.wdt.hscAt, hscPause := none } }

/-- What follows a closing (R103, R107): the entry, the mark of an interval that held unsealed time, and the end of Heartwood debug, with it a halt of HSC (R534). -/
def State.resealed (s : State) : State :=
  let s := ((s.intervalNote 1).set F.SEAL.STATUS.SEALED 1).hscGo
  let s := { s with sealc := { s.sealc with closedAt := some s.time.t } }
  let s := s.auditPut 0x11 0xFF (leBytes 4 (s.get F.SEAL.COUNTER.COUNT) ++ leBytes 4 s.sealc.slWrites ++ leBytes 4 s.sealc.paramChanges ++ leBytes 4 ((s.time.t - s.sealc.openedAt) / secT))
  (s.set F.SEAL.STATUS.DEBUG_EN 0).icEdge 0 2

/-- A closing (R103): the word is written, and then the entry is made. -/
def State.sealClosed (s : State) (fails : Nat) : State :=
  let r := s.sealWord true (s.get F.SEAL.COUNTER.COUNT) fails
  if r.2 then r.1.resealed else r.1

/-- What HSC does about the loop when it runs again: a latched opening first, then a difference between the filtered loop and the state (R103, R106). -/
def State.sealCatchUp (s : State) : State :=
  let s := match s.sealc.latched with
    | some (z, (a, b)) =>
      let s := { s with sealc := { s.sealc with latched := none } }
      if s.on F.SEAL.STATUS.SEALED then s.sealOpened 0 z a b else s
    | none => s
  if s.sealc.verdict then
    if s.on F.SEAL.STATUS.LOOP then (if s.on F.SEAL.STATUS.SEALED then s else s.sealClosed 0)
    else if s.on F.SEAL.STATUS.SEALED && s.get F.SEAL.COUNTER.COUNT != 0xFFFFFFFF then s.sealOpened 0 0 s.sec s.ns
    else s
  else s

/-- The filtered loop reads open (R102, R103): handled by HSC, or latched with its detection time, with SLEEP 1 where Heartwood is gated or in reset (R106) and 0 where it runs while HSC restarts (R392). A state that is
UNSEALED already takes no opening. -/
def State.loopOpen (s : State) (fails : Nat) : State :=
  let s := { s with sealc := { s.sealc with verdict := true, run := 0 } }
  let s := s.set F.SEAL.STATUS.LOOP 0
  if !s.on F.SEAL.STATUS.SEALED then s
  else if s.hscRuns then s.sealOpened fails 0 s.sec s.ns
  else if s.sealc.latched.isSome then s else { s with sealc := { s.sealc with latched := some (if s.hscUp then 0 else 1, (s.sec, s.ns)) } }

/-- The filtered loop reads closed. -/
def State.loopClosed (s : State) (fails : Nat) : State :=
  let s := { s with sealc := { s.sealc with verdict := true, n1 := 0, n0 := 0 } }
  let s := s.set F.SEAL.STATUS.LOOP 1
  if s.hscRuns && !s.on F.SEAL.STATUS.SEALED then s.sealClosed fails else s

/-! Key slots and image slots (R94 to R96, R514, R515). -/

/-- Key slot k. -/
def State.key (s : State) (k : Nat) : KeySlot := listGet KeySlot.empty s.keys k

/-- Whether a slot is filled and permits what bit `b` of PERM names (R515). -/
def State.keyMay (s : State) (k b : Nat) : Bool := (s.key k).filled && bitsOf (s.key k).perm b b == 1

/-- LENGTH of the image at a slot's base. -/
def State.imgLength (s : State) (slot : Nat) : Nat := s.ldN (slotBase slot + 0x0C) 4
/-- SIGSLOT of the image at a slot's base. -/
def State.imgSigslot (s : State) (slot : Nat) : Nat := s.ldN (slotBase slot + 0x12) 1
/-- The digest of the image at a slot's base (R90); a LENGTH outside its range has none. -/
def State.imgDigest (s : State) (slot : Nat) : List Byte :=
  let n := s.imgLength slot
  if 1024 ≤ n ∧ n ≤ 4194304 then sha256 (s.ldBytes (slotBase slot) (n - 80)) else []

/-- Whether the signature of the image at a slot's base verifies under the key its SIGSLOT names, which must permit images (R91 check 4, R96). -/
def State.imgSigned (s : State) (slot : Nat) : Bool :=
  let k := s.imgSigslot slot
  let a := slotBase slot + s.imgLength slot - 80
  decide (k < 4) && s.keyMay k 0 && ecdsaVerify (s.key k).x (s.key k).y (s.imgDigest slot) (beNat (s.ldBytes (a + 0x10) 32)) (beNat (s.ldBytes (a + 0x30) 32))

/-- State of a slot in the selection word: 0 empty, 1 loading, 2 checked; both are empty with no valid copy (R95). -/
def State.slotState (s : State) (slot : Nat) : Nat := if s.sel.valid then (if slot = 2 then s.sel.bState else s.sel.aState) else 0
/-- The recorded digest of a slot. -/
def State.slotDigest (s : State) (slot : Nat) : List Byte := if slot = 2 then s.sel.bDigest else s.sel.aDigest

/-- A new copy of the selection word with a slot's state and digest changed (R94, R95). -/
def State.setSlot (s : State) (slot st : Nat) (digest : List Byte) : State :=
  let w := if s.sel.valid then s.sel else { valid := true, active := 0, aState := 0, bState := 0, gen := s.sel.gen, aDigest := List.replicate 32 0, bDigest := List.replicate 32 0 }
  s.selWrite (if slot = 2 then { w with bState := st, bDigest := digest } else { w with aState := st, aDigest := digest })

/-- Whether a slot passes step 4 of a start (R96). -/
def State.slotPasses (s : State) (slot : Nat) : Bool := s.slotState slot == 2 && s.imgDigest slot == s.slotDigest slot && s.imgSigned slot

/-! Steps 1 to 4. -/

/-- CLOSE_S and CLOSE_NS of the newest valid record (R61). -/
def State.recTime (s : State) : Nat := match (s.recs.ring.reverse).find? fun r => !r.bad with
  | some r => (r.f 0x28 8 * 1000000000 + r.f 0x30 4) * 65536
  | none => 0

/-- Where Heartwood time restarts after class P (R61). -/
def State.restartTime (s : State) : Nat := match s.validCommit with
  | some c => (c.sec * 1000000000 + c.ns) * 65536
  | none => s.recTime

/-- Steps 1 and 2 (R63): the clocks, and after class P the time base (R61). After classes H and F time continues. -/
def State.startClocks (s : State) : State :=
  let s := (s.set F.CLK.STATUS.HFXO_ON 1).set F.CLK.STATUS.SYS_LOCK 1
  let s := if s.boot.cls = 1 then (s.set F.CLK.STATUS.X32_OK 1).timeRestart s.restartTime else s
  ({ s with time := { s.time with fast := true, sys := true, awake := 0 } }.set F.TIME.STATUS.SRC 0).seasonUpdate

/-- A last entry that a power loss cut while it was being programmed fails its CRC (R122). -/
def State.auditTear (s : State) : State := match s.audit.held.reverse with
  | e :: es => if e.bad then s else
      let t : AuditEntry := { e with bad := true }
      { s.stBytes (auditAddr e.seq) t.bytes with audit := { s.audit with held := es.reverse ++ [t], lastDigest := (sha256 t.bytes).take 8 } }
  | [] => s

/-- The TORN entry for a last entry that fails its CRC (R122). -/
def State.auditTorn (s : State) : State := match s.audit.held.getLast? with
  | some e => if e.bad then s.auditPut 0x82 0xFF (leBytes 4 e.seq) else s
  | none => s

/-- The restore of R105: the counter is set above the fuses, the state to UNSEALED, and the SEALCTR_RESTORE entry is made. -/
def State.sealRestore (s : State) : State :=
  let v := 16 * (s.sealc.fuses + 1)
  let was := if s.sealc.stValid then s.sealc.stCount else 0xFFFFFFFF
  let s := ((s.set F.SEAL.COUNTER.COUNT v).set F.SEAL.STATUS.SEALED 0).set F.SEAL.STATUS.CTR_RESTORED 1
  let s := { s with sealc := { s.sealc with stValid := true, stCount := v, stSealed := false, fuses := max s.sealc.fuses (fusesFor v), slWrites := 0, paramChanges := 0, openedAt := s.time.t, wordLost := false } }
  (((s.ctlWrite 1 (.seal false v)).auditPut 0x14 0xFF (leBytes 4 was ++ leBytes 4 v)).intervalNote 1).icEdge 0 2

/-- The check of the seal counter against its fuses and the load of the seal registers (R103, R105). -/
def State.sealLoad (s : State) : State :=
  let s := (s.setB F.SEAL.STATUS.SEALED s.sealc.stSealed).set F.SEAL.COUNTER.COUNT s.sealc.stCount
  let s := { s with sealc := { s.sealc with wordLost := false } }
  if !s.sealc.stValid || decide (s.sealc.stCount < 16 * s.sealc.fuses) then s.sealRestore else s

/-- A slot whose state is loading is set to empty (R96). -/
def State.slotsIdle (s : State) : State :=
  let s := if s.slotState 1 = 1 then s.setSlot 1 0 (List.replicate 32 0) else s
  if s.slotState 2 = 1 then s.setSlot 2 0 (List.replicate 32 0) else s

/-- The newest record was cut (R413, R520): its slot is undefined and is taken as not valid (DEDUCED, log entry 182). -/
def State.recCut (s : State) : State := match s.recs.ring.getLast? with
  | some e => { s with recs := { s.recs with ring := s.recs.ring.dropLast ++ [{ e with bad := true }] }, hflash := { s.hflash with undef := (e.addr, 512) :: s.hflash.undef } }
  | none => s

/-- What a loss of power cut while it was being programmed: 1 the last audit entry (R122), 2 + p the newest copy of pair p of control sectors (R95), 10 the newest record (R520), 11 the newest totalizer commit (R251), 12 the selection
word of an activation with the PARAM values that it discards (R98 step 2, R100). -/
def State.powerCut (s : State) (cut : Nat) : State :=
  if cut = 0 then s else if cut = 1 then s.auditTear else if cut = 10 then s.recCut else if cut = 11 then s.commitCut else if cut = 12 then (s.ctlCut 0).ctlCut 5 else s.ctlCut (cut - 2)

/-- Step 3 (R63, R96, R101, R105, R122, R415, R554, R556). A start that R65 sends back to step 3 repeats the scan and the loads, and REPAIRED shows the second scan's count (R65 does not say; DESIGN CHOICE, log entry 171); the
entries that the first pass queued are not queued again. -/
def State.startStep3 (s : State) (seed cut : Nat) : State :=
  let r := ((s.powerCut cut).ctlLoad ctlPairs).repair 0
  let s := (r.1.set F.FLT.BOOT_STATUS.REPAIRED (min 15 r.2)).slotsIdle
  let s := { s with sealc := { s.sealc with lfsr := if seed % 2 ^ 15 = 0 then 1 else BitVec.ofNat 15 seed } }
  let s := (s.set F.SEAL.UNLOGGED.COUNT s.audit.ctlUnlogged).set F.SEAL.STATUS.LEVEL (auditLevelOf s.audit.held.length)
  let again := s.boot.faults != 0
  let s := if again then s else s.auditTorn
  let s := s.sealLoad
  let s := if again then s else
      let s := s.auditPut 1 0xFF (s.startData s.boot.cls)
      { s with audit := { s.audit with startOpen := s.audit.queue.any fun e => e.isStart } }
  (s.set F.FLT.BOOT_STATUS.STEP 3).sealCatchUp

/-- The IMAGE_FAIL entry of the active slot (R65). The check code is that of the signature check where that failed; for a slot that is not checked or whose digest differs
none is stated (free, log entry 2). -/
def State.slotFailed (s : State) (slot : Nat) : State :=
  let sig := s.slotState slot == 2 && s.imgDigest slot == s.slotDigest slot
  let r := s.free
  let s := if sig then s else r.2
  s.auditPut 0x32 0xFF (leBytes 1 slot ++ leBytes 1 (if sig then 4 else r.1.toNat) ++ s.slotDigest slot)

/-- Mark a slot as verified and failed. -/
def State.slotBad (s : State) (slot : Nat) : State := s.set (if slot = 2 then F.FLT.BOOT_STATUS.B_BAD else F.FLT.BOOT_STATUS.A_BAD) 1

/-- The running image's slot and identification. -/
def State.runSlot (s : State) (slot : Nat) : State :=
  let s := s.set F.FLT.BOOT_STATUS.SLOT slot
  { s with boot := { s.boot with digest := s.imgDigest slot, noImage := false } }

/-- Step 4 (R65): the active slot, else the other; true says an image runs. -/
def State.startStep4 (s : State) : State × Bool :=
  let act := if s.sel.valid && s.sel.active == 2 then 2 else 1
  if s.slotPasses act then ((s.runSlot act).set F.FLT.BOOT_STATUS.STEP 4, true)
  else
    let s := s.slotBad act
    let s := if s.sel.valid then s.slotFailed act else s
    if s.slotPasses (3 - act) then (((s.runSlot (3 - act)).set F.FLT.BOOT_STATUS.FALLBACK 1).set F.FLT.BOOT_STATUS.STEP 4, true)
    else ((s.slotBad (3 - act)).startNoImage, false)

/-! Step 5: fabric load. -/

/-- Copy `n` bytes of the running image to memory. -/
def State.copyMem (s : State) (src dst n : Nat) : State := s.stBytes dst (s.ldBytes src n)

/-- HSCFW code is copied to HSC SRAM (R528). -/
def State.loadHscfw (s : State) : State := match s.sect 12 0 with
  | some (a, n) => s.copyMem a 0x13000000 n
  | none => s

/-- Templates are copied to the upper half of shared echo SRAM (R84, R145). -/
def State.loadTemplates (s : State) : State := match s.sect 6 0 with
  | some (a, _) => s.copyMem (a + 16) (echoBase + 0x100000) (s.ldN (a + 4) 4 - 16)
  | none => s

/-- Comparators that a TRIG field names (R304). -/
def State.trigNamed (s : State) (n : Nat) : Bool :=
  (s.chainIds.any fun c => s.chainF c 0x14 1 == n) || (List.range s.nshot).any fun k => bitsOf (s.shotF k 0 1) 0 0 == 1 && s.shotF k 0x13 1 == n

/-- Comparators as fabric load sets them (R304): locked and periodic where the image names them, off otherwise. -/
def State.loadCmps (s : State) : List Nat → State
  | [] => s
  | n :: ns =>
    (if s.trigNamed n then
      let s := ((s.set (F.TIME.CMPCTRL.MODE n) 2).set (F.TIME.CMPCTRL.EVERY n) 1).set (F.TIME.CMPCTRL.LOCK n) 1
      (s.set (F.TIME.CMPOFS.OFFSET n) 0).set (F.TIME.CMPPH.PHASE n) 0
     else (s.set (F.TIME.CMPCTRL.MODE n) 0).set (F.TIME.CMPCTRL.LOCK n) 0).loadCmps ns

/-- Regions of the image: pairs as new, totals from the commit, state blocks and parameter pages (R235, R240, R252). -/
def State.loadRegions (s : State) (c : Option Commit) : List Nat → State
  | [] => s
  | r :: rs => (((((s.setPair r Pair.fresh).codeLoad r).restoreTots c r (s.totsUsed r)).freshBlocks r).fillParams r).loadRegions c rs

/-- Mark SUB the average accumulators that region `r` holds for a stream's open interval. -/
def State.spanMark (s : State) (st b r : Nat) : State :=
  s.setPair r { s.pair r with avgs := markAvgs (s.pair r).avgs st b flSUB (s.avgRegs st) }

/-- The spanning record has SUB set on every average (R60): the accumulators of the open interval are marked, of a guarded
stream in its partner region too, from which the record may come (R387). -/
def State.spanAvgs (s : State) (b : Nat) : List Nat → State
  | [] => s
  | st :: sts =>
    let s := s.spanMark st b (s.homeRegion st)
    (if s.guarded st then s.spanMark st b (s.partnerRegion st) else s).spanAvgs b sts

/-- Guarded streams start with their home region as publisher (R387). -/
def State.loadGuards (s : State) : List Nat → State
  | [] => s
  | st :: sts => (s.set (F.FLT.GUARD.STATE st) (if s.guarded st then 1 else 0)).loadGuards sts

/-- Clear a list of registers. -/
def State.zeroRegs (s : State) : List Nat → State
  | [] => s
  | a :: as => (s.setW a 0).zeroRegs as

/-- Addresses of the device settings of R176. -/
def settingAddrs : List Nat :=
  ((List.range 48).map fun n => (F.SDC.CFG.ALL n).addr) ++ ((List.range 24).map fun k => (F.SDC.EXC.ALL k).addr) ++ ((List.range 32).map fun n => (F.PIN.CFG.ALL n).addr)

/-- Device settings at fabric load (R176): a lost record leaves every field 0 and makes a FAULT entry. -/
def State.settingsLoad (s : State) : State :=
  let s := s.zeroRegs settingAddrs
  if s.front.fsValid then s.frontLoad else s.fault 0x60 0xFF 0xFF []

/-- Gain states at fabric load (R131). -/
def State.loadGains (s : State) : List Nat → State
  | [] => s
  | k :: ks => (if bitsOf (s.shotF k 0 1) 0 0 = 1 then s.set (F.ACQ.GAIN.GAIN k) (s.shotF k 0x16 1) else s).loadGains ks

/-- ACQ.AVGn and ECHO.PATHSn at fabric load (R142, R165 heading): the stream's AVG, 1 without a STREAM section, and a bit for each path. -/
def State.loadAvgs (s : State) : List Nat → State
  | [] => s
  | st :: sts => ((s.set (F.ACQ.AVG.AVG st) (if s.hasStream st then s.streamF st 0x20 1 else 1)).set (F.ECHO.PATHS.MASK st) (2 ^ s.streamF st 0x10 1 - 1)).loadAvgs sts

/-- Whether a stream of the image names a pulse input (R350). -/
def State.pulseNamed (s : State) : Bool := s.streams.any fun st => s.streamF st 0x0E 1 != 0xFF || s.streamF st 0x0F 1 != 0xFF

/-- Step 5, the fabric: regions, blocks, settings, firmware, templates, comparators. -/
def State.loadFabric (s : State) (c : Option Commit) : State :=
  let s := ((s.loadRegions c s.regions).loadBlocks (List.range 32)).settingsLoad.pulseLoad
  ((s.loadHscfw).loadTemplates).loadCmps (List.range 32)

/-- Step 5, the front end and the echo engines as new. -/
def State.loadAcoustic (s : State) : State :=
  let s := { s with echo := State.reset.echo }
  (s.loadGains (List.range s.nshot)).loadAvgs (List.range 32)

/-- A field of CALLIM entry j (R87). -/
def State.limF (s : State) (j off n : Nat) : Nat := s.img 10 0 (16 + 16 * j + off) n

/-- The CALLIM entry that applies to a kind and channel (R87): one that names the channel, else one for every channel. -/
def State.calEntry (s : State) (kind ch : Nat) : Option Nat :=
  let js := (List.range (min 1024 (s.img 10 0 0 2))).filter fun j => s.limF j 0 1 == kind
  match js.find? fun j => s.limF j 1 1 == ch with
  | some j => some j
  | none => js.find? fun j => s.limF j 1 1 == 0xFF

/-- How many channels a kind of correction has (R87). -/
def calChannels (kind : Nat) : Nat := if kind ≤ 2 then 48 else if kind ≤ 4 then 16 else if kind = 5 then 24 else 1

/-- Note the first fabric load at which an entry applies (R365). -/
def State.calSince (s : State) : List (Nat × Nat) → State
  | [] => s
  | (k, c) :: ks =>
    (if (s.calEntry k c).isSome && (alFind s.cal.since (256 * k + c)).isNone then { s with cal := { s.cal with since := alSet s.cal.since (256 * k + c) s.sec } } else s).calSince ks

/-- Skew corrections of a list of lanes at their stored values (R372). -/
def State.skewLoad (s : State) : List Nat → State
  | [] => s
  | l :: ls => (s.setI (F.CAL.SKEW.S l) (alGet 0 s.cal.corr (256 * 3 + l))).skewLoad ls

/-- The calibration record at fabric load (R365, R372): quality registers, skew corrections, and the first load of each entry, which a copy of the record then holds. -/
def State.calLoad (s : State) : State :=
  let ks := [1, 2, 3, 4, 5, 6].flatMap fun k => (List.range (calChannels k)).map fun c => (k, c)
  let t := ((s.loadSettings s.cal.qual).skewLoad (List.range 16)).calSince ks
  if t.cal.since = s.cal.since then t else t.calStore

/-- Step 5, what is left: guards, the pulse condition of FROST, a lost commit, calibration's first load, gap records, the spanning record and the chains. An interval in which the loop has closed held unsealed time (R107). -/
def State.loadRest (s : State) (c : Option Commit) : State :=
  let s := (s.loadGuards s.streams).setB F.SEASON.STATE.FROST_BLOCK s.pulseNamed
  let s := if c.isNone then s.fault 0x61 0xFF 0xFF [] else s
  let s := s.calLoad
  let s := s.set F.SPN.FLOOR.VALUE (24000 + 30 * s.usedAll.length)
  let shut := match s.sealc.closedAt with
    | some t => decide (t / secT < s.intervalNum * s.intervalS)
    | none => true
  ((s.gapRecords s.streams).spanAvgs (s.intervalNum % 2) s.streams).intervalNote (if shut then 4 else 5)

/-- Intervals whose snapshots are due after a start (R60, R302): the interval of the valid commit, where a recording stream of the region has no record of it yet, then the present one. -/
def State.snapsDue (s : State) (c : Option Commit) : State :=
  let iv := match c with
    | some k => s.intervalOf k.cycle
    | none => s.intervalNum
  let lacks := fun (st : Nat) => s.recording st && (match s.newestRec st with
    | some r => decide (r.f 0x10 8 < iv)
    | none => true)
  let due := fun (r : Nat) => if c.isSome && s.streams.any (fun st => s.homeRegion st == r && lacks st) then iv else if c.isSome then iv + 1 else iv
  { s with recs := { s.recs with snapNext := s.regions.map (fun r => (r, due r)), fired := if c.isSome then [iv] else [] } }

/-- Step 5 (R63): the image is loaded, the totals and the cycle they contain are restored from the last valid commit, gap records are written; step 6 begins. -/
def State.startStep5 (s : State) : State :=
  let c := s.validCommit
  let s := { s with recs := { s.recs with lastRelease := (c.map Commit.cycle).getD 0 } }
  let s := ((s.loadFabric c).loadAcoustic).loadRest c
  let s := { s with flt := { s.flt with interval := s.intervalNum }, boot := { s.boot with waitAt := s.time.t } }
  ((s.chainsReady s.chainIds).gridHere.snapsDue c).set F.FLT.BOOT_STATUS.STEP 5

/-- Steps 3 and 4, and step 5 where an image runs and the fault manager reports no fault during it. -/
def State.startOnce (s : State) (seed cut : Nat) (fault : Bool) : State :=
  let r := (s.startStep3 seed cut).startStep4
  if !r.2 then r.1 else if fault then r.1.bootFault else r.1.startStep5

/-- Steps 3 to 5; a fault reported by the fault manager restarts from step 3 once, and a second leaves Heartwood in safe state (R65). `faults` counts those it reports during step 5. -/
def State.startRun (s : State) (seed cut faults : Nat) : State :=
  let t := s.startOnce seed cut (faults != 0)
  if faults = 0 || t.boot.cls == 0 then t else t.startOnce seed 0 (decide (2 ≤ faults))

end Sys2Proof.Machine
end

