-- ==== Sys2Proof/Machine/AcqOps.lean ====
section
/-! DEFINITION. The acoustic front end's operations: shots, sequences, gain, notices and buffers (R125 to R147). -/

namespace Sys2Proof.Machine

/-- USED of a shot (R133). -/
def State.shotUsed (s : State) (k : Nat) : Bool := decide (k < s.nshot) && bitsOf (s.shotF k 0 1) 0 0 == 1
/-- MUTE of a shot. -/
def State.shotMute (s : State) (k : Nat) : Bool := bitsOf (s.shotF k 0 1) 1 1 == 1
/-- LANE of a shot. -/
def State.shotLane (s : State) (k : Nat) : Nat := bitsOf (s.shotF k 3 1) 3 0
/-- EE of a shot. -/
def State.shotEngine (s : State) (k : Nat) : Nat := bitsOf (s.shotF k 3 1) 5 4
/-- RATE of a shot. -/
def State.shotRate (s : State) (k : Nat) : Nat := bitsOf (s.shotF k 0x0B 1) 2 0
/-- Gain policy of a shot. -/
def State.shotPolicy (s : State) (k : Nat) : Nat := bitsOf (s.shotF k 0x0B 1) 5 4
/-- DELAY of a shot in ticks. -/
def State.shotDelay (s : State) (k : Nat) : Nat := s.shotF k 0x10 3
/-- NEXT of a shot. -/
def State.shotNext (s : State) (k : Nat) : Nat := s.shotF k 0x18 2
/-- PARTNER of a shot. -/
def State.shotPartner (s : State) (k : Nat) : Nat := s.shotF k 4 2
/-- GAP of a shot in ticks. -/
def State.shotGap (s : State) (k : Nat) : Nat := s.shotF k 0x1C 3
/-- NSAMP of a shot. -/
def State.shotNsamp (s : State) (k : Nat) : Nat := s.shotF k 0x14 2


/-- The first path of a stream that names a shot, and whether as SHOT_B. -/
def State.pathOf (s : State) (st k : Nat) : Nat → Option (Nat × Bool)
  | 0 => none
  | n + 1 => match s.pathOf st k n with
    | some r => some r
    | none => if s.pathF st n 0 = k then some (n, false) else if s.pathF st n 2 = k then some (n, true) else none

/-- The stream that owns a shot, the path and the direction (R134). -/
def State.shotOwner (s : State) (k : Nat) : Option (Nat × Nat × Bool) :=
  s.streams.findSome? fun st => (s.pathOf st k (s.npath st)).map fun r => (st, r.1, r.2)

/-- Whether a shot forms a pair with its NEXT (R136). -/
def State.shotPairs (s : State) (k : Nat) : Bool := s.shotNext k != 0xFFFF && s.shotUsed (s.shotNext k) && s.shotPartner k == s.shotNext k

/-- Repetitions of the step that begins at a shot, from the averaging latched at the sequence's start (R136). -/
def State.shotReps (s : State) (avgs : List Nat) (k : Nat) : Nat :=
  if s.shotPairs k then (match s.shotOwner k with
    | some (st, _, _) => max 1 (listGet 1 avgs st)
    | none => 1)
  else 1

/-- Set the gain states of restarted automatic gain to GAIN for the shots a sequence contains, up to `n` of them (R131). -/
def State.seqGains (s : State) : Nat → Nat → State
  | 0, _ => s
  | n + 1, k =>
    if s.shotUsed k then (if s.shotPolicy k = 2 then s.set (F.ACQ.GAIN.GAIN k) (s.shotF k 0x16 1) else s).seqGains n (s.shotNext k) else s

/-- Show the running sequences in ACQ.STATUS. -/
def State.seqShow (s : State) : State := (s.setB F.ACQ.STATUS.RUNNING (!s.acq.seqs.isEmpty)).set F.ACQ.STATUS.NSEQ s.acq.seqs.length

/-- Start a sequence at a head shot (R135): `match_` is the match instant. -/
def State.seqStart (s : State) (head match_ : Nat) : State :=
  if 32 ≤ s.acq.seqs.length ∨ (s.acq.seqs.any fun (q : ShotSeq) => q.head == head) = true then s.set F.ACQ.STATUS.SEQ_OVR 1
  else
    let avgs := (List.range 32).map fun st => s.get (F.ACQ.AVG.AVG st)
    let q : ShotSeq := { head := head, shot := head, onB := false, rep := 0, reps := s.shotReps avgs head, avgs := avgs, cycle := s.cycleAt match_, due := match_ + 1310720, wait := none }
    (({ s with acq := { s.acq with seqs := s.acq.seqs ++ [q] } }).seqGains 1024 head).seqShow

/-- Start the sequences whose head names a comparator (R135). -/
def State.seqStarts (s : State) (n match_ : Nat) : List Nat → State
  | [] => s
  | k :: ks => (if s.shotUsed k && s.shotF k 0x13 1 == n then s.seqStart k match_ else s).seqStarts n match_ ks

/-- The shot that a sequence fires next. -/
def State.seqShot (s : State) (q : ShotSeq) : Nat := if q.onB then s.shotNext q.shot else q.shot

/-- A sequence after a firing: the next firing, or none at its end (R136). -/
def State.seqAfter (s : State) (q : ShotSeq) : Option ShotSeq :=
  let k := s.seqShot q
  let due := q.due + s.shotGap k * tickT
  if s.shotPairs q.shot then
    if !q.onB then some { q with onB := true, due := due }
    else if q.rep + 1 < q.reps then some { q with onB := false, rep := q.rep + 1, due := due }
    else
      let n := s.shotNext k
      if s.shotUsed n then some { q with shot := n, onB := false, rep := 0, reps := s.shotReps q.avgs n, due := due } else none
  else
    let n := s.shotNext q.shot
    if s.shotUsed n then some { q with shot := n, onB := false, rep := 0, reps := s.shotReps q.avgs n, due := due } else none

/-- Replace sequence i, or remove it. -/
def State.seqPut (s : State) (i : Nat) (q : Option ShotSeq) : State :=
  ({ s with acq := { s.acq with seqs := match q with
      | some x => listSet s.acq.seqs i x
      | none => s.acq.seqs.eraseIdx i } }).seqShow

/-- Lane n. -/
def State.lane (s : State) (n : Nat) : Lane :=
  alGet { fired := false, shot := 0, rep := 0, reps := 1, cycle := 0, tx := 0, buf := 0, gain := 0, conn := 0, opens := 0, close := 0, upTo := 0 } s.acq.lanes n
/-- Replace lane n. -/
def State.setLane (s : State) (n : Nat) (l : Lane) : State := { s with acq := { s.acq with lanes := alSet s.acq.lanes n l } }

/-- The HELD bit of a lane's buffer (R132). -/
def heldF (n b : Nat) : Fld := if b = 0 then F.ACQ.LANE_STAT.HELD0 n else F.ACQ.LANE_STAT.HELD1 n

/-- Release a buffer (R147). -/
def State.bufRelease (s : State) (lane buf : Nat) : State := s.set (heldF lane buf) 0

/-- The 32 bytes of a notice (R139). -/
def Notice.bytes (x : Notice) : List Byte :=
  leBytes 2 x.shot ++ leBytes 1 x.lane ++ leBytes 1 x.flags ++ leBytes 2 x.nsamp ++ leBytes 1 x.gain ++ leBytes 1 x.rep ++ leBytes 2 x.peak ++ leBytes 2 x.satcnt ++ leBytes 4 x.cycle ++
    leBytes 8 (x.tx / secT) ++ leBytes 4 (x.tx % secT / 65536) ++ leBytes 2 (x.tx % 65536) ++ [0, 0]

/-- SKIP of a notice. -/
def Notice.skip (x : Notice) : Bool := bitsOf x.flags 4 4 == 1
/-- BUF of a notice. -/
def Notice.buf (x : Notice) : Nat := bitsOf x.flags 0 0

/-- The notices that wait at an engine. -/
def State.noticeQ (s : State) (e : Nat) : List Notice := alGet [] s.echo.queue e

/-- Notices that hold a place of a queue. -/
def placesOf (q : List Notice) : Nat := (q.filter fun (x : Notice) => !x.lost).length

/-- Replace an engine's queue and show its length. -/
def State.setNotices (s : State) (e : Nat) (q : List Notice) : State := ({ s with echo := { s.echo with queue := alSet s.echo.queue e q } }).set (F.ECHO.STATUS.NQ e) (placesOf q)

/-- Deliver a notice to its engine's queue (R139, R146). A discarded SKIP notice keeps its turn without a place, so that it counts as a processed skipped firing in order (DEDUCED, log entry 177). -/
def State.deliver (s : State) (e : Nat) (x : Notice) : State :=
  let q := s.noticeQ e
  if x.skip && decide (32 ≤ placesOf q) then ((s.setNotices e (q ++ [{ x with lost := true }])).sat (F.ECHO.DROP.DROP e) 1).raise (F.ECHO.ERR.NQ_OVR e) 0 (12 + e)
  else
    let p := alGet 0 s.echo.place e
    let s := (s.stBytes (echoBase + 0x190000 + 0x800 * e + 32 * p) x.bytes).heal (echoBase + 0x190000 + 0x800 * e + 32 * p) 32
    (({ s with echo := { s.echo with place := alSet s.echo.place e ((p + 1) % 64) } }).setNotices e (q ++ [x]))

/-- Steps that the automatic gain adds, in 0.5 dB (R131): the largest n from -24 to 12 with 10^n PEAK^40 at most target^40. -/
def gainSteps (target peak : Nat) : Int :=
  ((List.range 37).map fun i => ((i : Nat) : Int) - 24).foldl (fun (best : Int) n =>
    if (if 0 ≤ n then 10 ^ n.toNat * peak ^ 40 ≤ target ^ 40 else peak ^ 40 ≤ target ^ 40 * 10 ^ (-n).toNat) then n else best) (-24)

/-- The gain state after a shot (R131). -/
def gainAfter (policy gain target peak satcnt : Nat) : Nat :=
  if policy = 0 then gain
  else
    let d : Int := if satcnt > 0 then -12 else if peak = 0 then 12 else gainSteps (32 * target) peak
    (clampI 0 120 (gain + d)).toNat

end Sys2Proof.Machine
end

