-- ==== Sys2Proof/Machine/FixedPoint.lean ====
section
/-! DEFINITION. Elementary functions in binary fixed point with 96 fractional bits, for the echo engines and the property and flow routines, and exact rationals for what those routines compute without them. The manual
gives these functions as real functions (R149, R151, R289 to R294); the model evaluates them to at least 80 fractional bits (log entry 30). -/

namespace Sys2Proof.Machine

/-- One. -/
def fpOne : Int := 2 ^ 96
/-- Product. -/
def fpMul (a b : Int) : Int := a * b / fpOne
/-- Quotient; by zero it is 0. -/
def fpDiv (a b : Int) : Int := if b = 0 then 0 else a * fpOne / b
/-- Square root of a value that is not negative. -/
def fpSqrt (a : Int) : Int := isqrt (a.toNat * 2 ^ 96)
/-- The value of a fraction. -/
def fpRat (n d : Int) : Int := if d = 0 then 0 else n * fpOne / d

/-- The arctangent series: the sum of the terms from number `i` on, `n` of them, given the power of y that the first has. -/
def fpAtanGo (y2 : Int) : Nat → Nat → Int → Int
  | 0, _, _ => 0
  | n + 1, i, p => p / (2 * i + 1 : Nat) - fpAtanGo y2 n (i + 1) (fpMul p y2)

/-- Half the angle: tan(x/2) from tan x. -/
def fpHalf : Nat → Int → Int
  | 0, y => y
  | n + 1, y => fpHalf n (fpDiv y (fpOne + fpSqrt (fpOne + fpMul y y)))

/-- Arctangent of a value of magnitude at most 1. -/
def fpAtanSmall (y : Int) : Int := let z := fpHalf 4 y; 16 * fpAtanGo (fpMul z z) 24 0 z

/-- π. -/
def fpPi : Int := 4 * fpAtanSmall fpOne

/-- Arctangent. -/
def fpAtan (y : Int) : Int :=
  if fpOne < y then fpPi / 2 - fpAtanSmall (fpDiv fpOne y) else if y < -fpOne then -(fpPi / 2) - fpAtanSmall (fpDiv fpOne y) else fpAtanSmall y

/-- Arccosine of a value strictly between -1 and 1. -/
def fpAcos (q : Int) : Int := 2 * fpAtan (fpSqrt (fpDiv (fpOne - q) (fpOne + q)))

/-- The exponential series. -/
def fpExpGo (x : Int) : Nat → Nat → Int → Int
  | 0, _, _ => 0
  | n + 1, i, p => p + fpExpGo x n (i + 1) (fpMul p x / (i + 1 : Nat))

/-- Repeated squaring. -/
def fpSquares : Nat → Int → Int
  | 0, y => y
  | n + 1, y => fpSquares n (fpMul y y)

/-- Exponential of a value of magnitude at most 32. -/
def fpExp (x : Int) : Int := fpSquares 8 (fpExpGo (x / 256) 30 0 fpOne)

/-- ln of a value in [1, 2]: 2 artanh((y-1)/(y+1)). -/
def fpLnGo (z2 : Int) : Nat → Nat → Int → Int
  | 0, _, _ => 0
  | n + 1, i, p => p / (2 * i + 1 : Nat) + fpLnGo z2 n (i + 1) (fpMul p z2)

/-- ln of a value in [1, 2]. -/
def fpLnSmall (y : Int) : Int := let z := fpDiv (y - fpOne) (y + fpOne); 2 * fpLnGo (fpMul z z) 40 0 z

/-- ln 2. -/
def fpLn2 : Int := fpLnSmall (2 * fpOne)

/-- Natural logarithm of a positive value. -/
def fpLn (x : Int) : Int :=
  if x ≤ 0 then 0
  else
    let e : Int := (x.toNat.log2 : Int) - 96
    let y := if 0 ≤ e then x / 2 ^ e.toNat else x * 2 ^ (-e).toNat
    fpLnSmall y + e * fpLn2

/-- A positive value to a real power. -/
def fpPow (x p : Int) : Int := if x ≤ 0 then 0 else fpExp (fpMul p (fpLn x))

/-! Rationals: sums, products and quotients are exact, and an uncertainty is rounded up only (R218). -/

/-- The rational of a figure in 2^-96. -/
def ratFp (x : Int) : Rat := mkRat x (2 ^ 96)
/-- A rational in 2^-96, rounded down. -/
def fpOf (x : Rat) : Int := x.num * 2 ^ 96 / x.den
/-- Magnitude. -/
def rAbs (x : Rat) : Rat := mkRat x.num.natAbs x.den
/-- An uncertainty in 2^-128, rounded up. -/
def uUp (x : Rat) : Nat := cdiv (x.num.toNat * 2 ^ 128) x.den
/-- The square root of a value that is not negative, rounded up in 2^-160. -/
def rootUp (x : Rat) : Rat := mkRat (csqrt (cdiv (x.num.toNat * 2 ^ 320) x.den)) (2 ^ 160)
/-- The root of the sum of squares, rounded up. -/
def rss (l : List Rat) : Rat := rootUp ((l.map fun x => x * x).foldl (· + ·) 0)
/-- A bound that an uncertainty formed through an elementary function does not pass. -/
def above (x : Rat) : Rat := rAbs x + rAbs x / 2 ^ 64 + 1 / 2 ^ 72
/-- Square root. -/
def rSqrt (x : Rat) : Rat := ratFp (fpSqrt (fpOf x))
/-- A positive value to a real power. -/
def rPow (x p : Rat) : Rat := ratFp (fpPow (fpOf x) (fpOf p))
/-- Exponential. -/
def rExp (x : Rat) : Rat := ratFp (fpExp (fpOf x))
/-- Natural logarithm. -/
def rLn (x : Rat) : Rat := ratFp (fpLn (fpOf x))
/-- π. -/
def rPi : Rat := ratFp fpPi
/-- A value limited to a range. -/
def rClamp (lo hi x : Rat) : Rat := if x < lo then lo else if hi < x then hi else x

/-- The largest n in [lo, hi] with 10^n D^k at most N^k, by halving an interval of `fuel` bits: the floor of k log10(N/D), limited to the range. -/
def logFloorGo (num den k : Nat) : Nat → Int → Int → Int
  | 0, lo, _ => lo
  | f + 1, lo, hi =>
    let m := (lo + hi + 1) / 2
    if hi ≤ lo then lo
    else if (if 0 ≤ m then 10 ^ m.toNat * den ^ k ≤ num ^ k else den ^ k ≤ num ^ k * 10 ^ (-m).toNat) then logFloorGo num den k f m hi else logFloorGo num den k f lo (m - 1)

/-- The floor of k log10(N/D) limited to [lo, hi]. -/
def logFloor (num den k : Nat) (lo hi : Int) : Int := if num = 0 then lo else if den = 0 then hi else logFloorGo num den k 20 lo hi

end Sys2Proof.Machine
end

