-- ==== Sys2Proof/Machine/EchoOps.lean ====
section
/-! DEFINITION. Correlation, acceptance and path results of the echo engines (R143 to R165). -/

namespace Sys2Proof.Machine

/-! Correlation (R148, R149, R151, R153). -/

/-- The sum of products of two sequences. -/
def dot : List Int → List Int → Int
  | [], _ => 0
  | _, [] => 0
  | a :: as, b :: bs => a * b + dot as bs

/-- Sum of squares. -/
def sumSq (l : List Int) : Nat := (dot l l).toNat

/-- The lag with the largest value among `n` lags from `k` on; the lowest wins among equals. -/
def bestLag (c : Int → Int) : Nat → Int → Int × Int → Int × Int
  | 0, _, b => b
  | n + 1, k, b => bestLag c n (k + 1) (if b.2 < c k then (k, c k) else b)

/-- The sub-sample offset of R149 in 2^-64 samples, for c0 > 0; `open_` is the value the manual does not give, where all three are equal. -/
def subSample (cm c0 cp open_ : Int) : Int :=
  let h : Int := 2 ^ 63
  let d := if -(2 * c0) < cm + cp ∧ cm + cp < 2 * c0 then
      let q := fpRat (cm + cp) (2 * c0)
      fpDiv (fpAtan (fpDiv (fpRat (cp - cm) (2 * c0)) (fpSqrt (fpOne - fpMul q q)))) (fpAcos q) / 2 ^ 32
    else if cm - 2 * c0 + cp = 0 then open_
    else (cm - cp) * 2 ^ 64 / (2 * (cm - 2 * c0 + cp))
  clampI (-h) h d

/-- A free value for an offset the manual does not give, within half a sample (log entry 2). -/
def State.openOffset (s : State) : Int := ((Config.freeWord s.freeCtr).toInt) * 2 ^ 32

/-- QUAL of R151. -/
def echoQual (c0 : Int) (st sx : Nat) : Nat := if c0 ≤ 0 ∨ st = 0 ∨ sx = 0 then 0 else min 65535 (isqrt (65535 * 65535 * (c0.toNat * c0.toNat) / (st * sx)))

/-- SNR of R151 in 0.1 dB. -/
def echoSnr (echo noise : List Int) : Int := if sumSq noise = 0 then 32767 else logFloor (sumSq echo * noise.length) (sumSq noise * echo.length) 100 (-32767) 32767

/-- AMP of R151 in 0.01 dB. -/
def echoAmp (peak gain : Nat) : Int := if peak = 0 then -32768 else clampI (-32768) 32767 (logFloor peak 8192 2000 (-32768) 32767 - 50 * gain)

/-- What a correlated firing yields: reason so far, TOF (2^-16 ps), QUAL, SNR, AMP, mode, the peak lag in 2^-64 samples, its whole lag, and in partner mode the pair difference. -/
structure EchoRes where
  reason : Nat
  tof : Int
  qual : Nat
  snr : Int
  amp : Int
  mode : Nat
  lag : Int
  k0 : Int
  dt : Int
  deriving DecidableEq, Repr

/-- A firing that was not correlated. -/
def EchoRes.none_ (reason : Nat) : EchoRes := { reason := reason, tof := 0, qual := 0, snr := 0, amp := 0, mode := 0, lag := 0, k0 := 0, dt := 0 }

/-- Sample period in 2^-16 ps (R150). -/
def sampleT (rate : Nat) : Int := 6250 * 65536 * 2 ^ rate

/-- A time of flight from its window delay in ticks, peak position in 2^-64 samples, and skew in 2^-16 ps (R150). -/
def tofOf (delay : Nat) (rate : Nat) (pos skew : Int) : Int := 6250 * 65536 * (delay : Int) + divRound (sampleT rate * pos) (2 ^ 64) + skew

/-- The address of a capture buffer (R132). -/
def bufAddr (lane buf : Nat) : Nat := echoBase + 0x80000 * buf + 0x8000 * lane

/-- Signed 16-bit samples from an address. -/
def State.samples (s : State) (a : Nat) : Nat → List Int
  | 0 => []
  | n + 1 => sext 16 (s.ldN a 2) :: s.samples (a + 2) n

/-- SNR_MIN, QUAL_MIN, LAGS and SKIP_PS of a stream (R81). -/
def State.snrMin (s : State) (st : Nat) : Int := sext 16 (s.streamF st 0x22 2)
/-- LAGS. -/
def State.lags (s : State) (st : Nat) : Int := (s.streamF st 0x26 2 : Nat)
/-- SKIP_PS in 2^-16 ps. -/
def State.skipT (s : State) (st : Nat) : Int := ((s.streamF st 0x28 4 * 65536 : Nat) : Int)

/-- The reason of checks 5 to 8 (R154). -/
def State.judge (s : State) (st : Nat) (edge : Bool) (c0 : Int) (qual : Nat) (snr : Int) (jump : Option Int) : Nat :=
  if edge then 5 else if c0 ≤ 0 ∨ qual < s.streamF st 0x24 2 then 6 else if snr < s.snrMin st then 7
  else match jump with
    | some j => if s.skipT st < ((j.natAbs : Nat) : Int) then 8 else 0
    | none => 0

/-- Correlate a capture of nsamp samples against a template (R148 to R151) and judge it. A template longer than the capture leaves no lag: no correlation value is above 0, and the reason is QUAL (DEDUCED, log entry 177). -/
def State.templateJob (s : State) (st : Nat) (x : Notice) (tp : Nat × Nat) : EchoRes :=
  let k := x.shot
  let xs := s.samples (bufAddr x.lane x.buf) x.nsamp
  let ts := s.samples tp.1 tp.2
  let c := fun (i : Int) => dot (xs.drop i.toNat) ts
  let top : Int := (x.nsamp : Int) - tp.2
  let tr := s.trackOf k
  let lo := if tr.locked then max 0 (tr.kc - s.lags st) else 0
  let hi := if tr.locked then min top (tr.kc + s.lags st) else top
  if hi < lo then { EchoRes.none_ 6 with mode := if tr.locked then 0 else 1 }
  else
    let b := bestLag c (hi - lo).toNat (lo + 1) (lo, c lo)
    let cm := if b.1 = lo then b.2 else c (b.1 - 1)
    let cp := if b.1 = hi then b.2 else c (b.1 + 1)
    let edge := tr.locked && (b.1 == tr.kc - s.lags st || b.1 == tr.kc + s.lags st || b.1 == 0 || b.1 == top)
    let pos := b.1 * 2 ^ 64 + (if b.2 ≤ 0 then s.openOffset else subSample cm b.2 cp s.openOffset)
    let seg := (xs.drop b.1.toNat).take tp.2
    let tof := tofOf (s.shotDelay k) (s.shotRate k) pos (s.getI (F.CAL.SKEW.S x.lane))
    let qual := echoQual b.2 (sumSq ts) (sumSq seg)
    let snr := echoSnr seg (xs.take 64)
    let jump := if tr.locked then tr.tof.map fun v => tof - v else none
    { reason := s.judge st edge b.2 qual snr jump, tof := tof, qual := qual, snr := snr, amp := echoAmp x.peak x.gain, mode := if tr.locked then 0 else 1, lag := pos, k0 := b.1, dt := 0 }

/-- The position of the largest magnitude of a capture with its parabola (R153 step 1), in 2^-64 samples, and its index. -/
def peakPos (xs : List Int) (open_ : Int) : Int × Int :=
  let m := fun (i : Int) => (((listGet 0 xs i.toNat).natAbs : Nat) : Int)
  let n : Int := xs.length
  let b := bestLag m (xs.length - 1) 1 (0, m 0)
  let ym := if b.1 = 0 then b.2 else m (b.1 - 1)
  let yp := if b.1 = n - 1 then b.2 else m (b.1 + 1)
  let d := if ym - 2 * b.2 + yp = 0 then open_ else (ym - yp) * 2 ^ 64 / (2 * (ym - 2 * b.2 + yp))
  (b.1 * 2 ^ 64 + clampI (-(2 ^ 63)) (2 ^ 63) d, b.1)

/-- Whether the two shots of a pair can be correlated against each other: the same RATE and NSAMP (R153), and a segment of 512 samples in the capture (R153 step 2 has none otherwise: DEDUCED, log entry 177). -/
def State.pairable (s : State) (a b : Nat) : Bool := s.shotRate a == s.shotRate b && s.shotNsamp a == s.shotNsamp b && decide (512 ≤ s.shotNsamp a)

/-- Correlate the capture of SHOT_B against the held one of SHOT_A (R153) and judge the pair. A peak so far apart that no lag reads inside the capture is at the edge (DEDUCED, log entry 177). -/
def State.partnerJob (s : State) (st p : Nat) (h : Held) (x : Notice) : EchoRes :=
  let a := h.x
  if h.reason ≠ 0 then { EchoRes.none_ 6 with mode := 2 }
  else
    let xa := s.samples (bufAddr a.lane a.buf) a.nsamp
    let xb := s.samples (bufAddr x.lane x.buf) x.nsamp
    let n : Int := x.nsamp
    let pb := peakPos xb s.openOffset
    let a0 := clampI 0 (n - 512) (h.peak - 256)
    let seg := (xa.drop a0.toNat).take 512
    let c := fun (m : Int) => dot (xb.drop (a0 + m).toNat) seg
    let mc := pb.2 - h.peak
    let lo := max (mc - s.lags st) (-a0)
    let hi := min (mc + s.lags st) (n - 512 - a0)
    if hi < lo then { EchoRes.none_ 5 with mode := 2 }
    else
      let g := bestLag c (hi - lo).toNat (lo + 1) (lo, c lo)
      let cm := if g.1 = lo then g.2 else c (g.1 - 1)
      let cp := if g.1 = hi then g.2 else c (g.1 + 1)
      let edge := g.1 == mc - s.lags st || g.1 == mc + s.lags st || g.1 == -a0 || g.1 == n - 512 - a0
      let pos := g.1 * 2 ^ 64 + (if g.2 ≤ 0 then s.openOffset else subSample cm g.2 cp s.openOffset)
      let sb := (xb.drop (a0 + g.1).toNat).take 512
      let sk := s.getI (F.CAL.SKEW.S x.lane)
      let rate := s.shotRate x.shot
      let dt := divRound (sampleT rate * pos) (2 ^ 64) + 6250 * 65536 * ((s.shotDelay x.shot : Int) - s.shotDelay a.shot) + sk - h.skew
      let qual := echoQual g.2 (sumSq seg) (sumSq sb)
      let snr := echoSnr sb (xb.take 64)
      let jump := (alFind s.echo.lastDt (16 * st + p)).map fun v => dt - v
      { reason := s.judge st edge g.2 qual snr jump, tof := tofOf (s.shotDelay x.shot) rate pb.1 sk, qual := qual, snr := snr, amp := echoAmp x.peak x.gain, mode := 2, lag := pos,
        k0 := g.1, dt := dt }

/-! Paths (R156 to R164). -/

/-- A direction with nothing gathered. -/
def EchoDir.empty : EchoDir := { tofs := [], amp := 0, snr := 0, qual := 0, gain := 0, seen := 0, done := false }

/-- The SEEN bit of a reason (R163). -/
def seenBit (reason : Nat) : Nat :=
  if reason = 0 then 0 else if reason = 1 then 1 else if reason = 4 then 2 else if reason = 7 then 4 else if reason = 6 then 8 else if reason = 5 then 16 else if reason = 8 then 32 else 128

/-- A direction after a firing. -/
def EchoDir.add (d : EchoDir) (rep gain reason : Nat) (tof amp snr : Int) (qual : Nat) (acq : Bool) : EchoDir :=
  let seen := Nat.lor (Nat.lor d.seen (seenBit reason)) (if acq then 64 else 0)
  if reason = 0 then { d with tofs := d.tofs ++ [(rep, tof.toNat)], amp := d.amp + amp, snr := d.snr + snr, qual := d.qual + qual, gain := gain, seen := seen } else { d with seen := seen }

/-- Mean TOF of a direction, rounded to the nearest unit (R156). -/
def EchoDir.tof (d : EchoDir) : Nat := let n := d.tofs.length; if n = 0 then 0 else (2 * (d.tofs.map (·.2)).foldl (· + ·) 0 + n) / (2 * n)

/-- Sample standard deviation of the TOFs, to the nearest unit, saturating (R156, R163). -/
def EchoDir.tsd (d : EchoDir) : Nat :=
  let n := d.tofs.length
  if n < 2 then 0
  else
    let sum := (d.tofs.map (·.2)).foldl (· + ·) 0
    let sq := (d.tofs.map fun (e : Nat × Nat) => e.2 * e.2).foldl (· + ·) 0
    min 0xFFFFFFFF ((isqrt (4 * (n * sq - sum * sum) / (n * (n - 1))) + 1) / 2)

/-- The 24 bytes of a direction record (R163). -/
def EchoDir.bytes (d : EchoDir) : List Byte :=
  let n := d.tofs.length
  let mean := fun (x : Int) => if n = 0 then (0 : Int) else x / n
  leBytes 8 d.tof ++ leBytes 4 d.tsd ++ leBytes 2 (utwo 16 (mean d.amp)) ++ leBytes 2 (utwo 16 (mean d.snr)) ++ leBytes 2 (if n = 0 then 0 else d.qual / n) ++ leBytes 1 d.gain ++
    leBytes 1 n ++ leBytes 1 d.seen ++ [0, 0, 0]

/-- Pair differences of a path by the mode it ran in (R156). -/
def PathAcc.diffs (x : PathAcc) (partner : Bool) : List Int :=
  if partner then x.dts.map (·.2)
  else x.a.tofs.filterMap fun (e : Nat × Nat) => (alFind x.b.tofs e.1).map fun v => (v : Int) - e.2

/-- Mean of a list of integers, to the nearest. -/
def meanInt (l : List Int) : Int := if l.isEmpty then 0 else divRound (l.foldl (· + ·) 0) l.length

/-- SOSN in Q16.16 Hz from the two mean TOFs in 2^-16 ps, to the nearest (R156, R163). -/
def sosn (ta tb : Nat) : Nat := if ta = 0 ∨ tb = 0 then 0 else (2 * (2 ^ 32 * 1000000000000 * (ta + tb)) + 2 * ta * tb) / (4 * ta * tb) % 2 ^ 32

/-- The HEALTH byte (R158): `count` is the number of consecutive cycles with NPAIR 0, this one included. -/
def healthByte (npair reps count : Nat) : Nat :=
  (if npair = 0 then (if 8 ≤ count then 3 else 2) else if npair < reps then 1 else 0) + 4 * min 63 count

/-- The offset of a stream's half page for a cycle (R159). -/
def pageHalf (st cycle : Nat) : Nat := 0x160000 + 0x1000 * st + 0x800 * (cycle % 2)

/-- The open cycle of a stream with its done and OK masks. -/
def State.echoOpen (s : State) (st : Nat) : Option EchoOpen := alFind s.echo.open_ st
/-- Replace it. -/
def State.setOpen (s : State) (st : Nat) (o : EchoOpen) : State := { s with echo := { s.echo with open_ := alSet s.echo.open_ st o } }

/-- A stream is complete once every path that ECHO.PATHSn awaits has been finalised: DONE and then STATE are written, once (R157, R161). -/
def State.echoComplete (s : State) (st : Nat) : State := match s.echoOpen st with
  | none => s
  | some o =>
    if o.full || Nat.land (s.get (F.ECHO.PATHS.MASK st)) o.done != s.get (F.ECHO.PATHS.MASK st) then s
    else
      let h := pageHalf st o.cycle
      ((s.setOpen st { o with full := true }).pageWrite st (h + 0x10) (leBytes 8 s.sec ++ leBytes 4 s.ns)).pageWrite st (h + 0x0A) [2]

/-- Finalise a path (R156 to R158, R161). -/
def State.finalise (s : State) (st p : Nat) : State := match alFind s.echo.acc (16 * st + p) with
  | none => s
  | some x =>
    let partner := s.shotF (s.pathF st p 0) 6 2 == 0xFFFF
    let ds := x.diffs partner
    let n := ds.length
    let cnt := if n = 0 then min 63 (alGet 0 s.echo.health (16 * st + p) + 1) else 0
    let entry := x.a.bytes ++ x.b.bytes ++ leBytes 8 (utwo 64 (meanInt ds)) ++ leBytes 4 (sosn x.a.tof x.b.tof) ++ leBytes 1 n ++ leBytes 1 (healthByte n x.reps cnt) ++ [0, 0]
    let o := (s.echoOpen st).getD { cycle := x.cycle, done := 0, ok := 0, full := false }
    let o := { o with done := Nat.lor o.done (2 ^ p), ok := if n = 0 then o.ok else Nat.lor o.ok (2 ^ p) }
    let s := ({ s with echo := { s.echo with acc := alDel s.echo.acc (16 * st + p), health := alSet s.echo.health (16 * st + p) cnt } }).setOpen st o
    let h := pageHalf st x.cycle
    ((s.pageWrite st (h + 0x40 + 64 * p) entry).pageWrite st (h + 0x0C) (leBytes 2 o.done ++ leBytes 2 o.ok)).echoComplete st

/-- Finalise the paths of a stream that are open for another cycle than `cycle` (R157). -/
def State.finaliseOther (s : State) (st cycle : Nat) : List Nat → State
  | [] => s
  | p :: ps => (match alFind s.echo.acc (16 * st + p) with
      | some x => if x.cycle = cycle then s else s.finalise st p
      | none => s).finaliseOther st cycle ps

/-- R of a path for a notice (R156): the repetitions latched for its sequence where SHOT_B follows SHOT_A, else 1. -/
def State.pathReps (s : State) (st p : Nat) (x : Notice) : Nat := if s.shotNext (s.pathF st p 0) = s.pathF st p 2 then x.reps else 1

/-- Open a path, and with its first the stream's half page (R157, R161). -/
def State.openPath (s : State) (st p : Nat) (x : Notice) : State :=
  let fresh := match s.echoOpen st with
    | some o => o.cycle != x.cycle
    | none => true
  let reps := s.pathReps st p x
  let s := if fresh then
      let hdr := leBytes 8 x.cycle ++ leBytes 1 st ++ leBytes 1 (s.npath st) ++ [1] ++ leBytes 1 reps ++ List.replicate 52 0
      (s.setOpen st { cycle := x.cycle, done := 0, ok := 0, full := false }).pageWrite st (pageHalf st x.cycle) hdr
    else s
  match alFind s.echo.acc (16 * st + p) with
  | some _ => s
  | none =>
    let pa : PathAcc := { cycle := x.cycle, reps := reps, a := EchoDir.empty, b := EchoDir.empty, dts := [] }
    { s with echo := { s.echo with acc := alSet s.echo.acc (16 * st + p) pa } }

/-- The path's accumulators. -/
def State.pathAcc (s : State) (st p : Nat) : PathAcc := alGet { cycle := 0, reps := 1, a := EchoDir.empty, b := EchoDir.empty, dts := [] } s.echo.acc (16 * st + p)
/-- Replace them. -/
def State.setPath (s : State) (st p : Nat) (x : PathAcc) : State := { s with echo := { s.echo with acc := alSet s.echo.acc (16 * st + p) x } }

/-- Checks 1 to 4 of R154. -/
def State.preCheck (s : State) (x : Notice) (tp : Option (Nat × Nat)) : Nat :=
  if x.skip then 1
  else if bitsOf x.flags 3 3 = 1 then 2
  else if s.badIn (bufAddr x.lane x.buf) (2 * x.nsamp) || (match tp with
      | some (a, n) => s.badIn a (2 * n)
      | none => false) then 3
  else if bitsOf x.flags 1 1 = 1 then 4
  else 0

/-- Track state after a template-mode firing (R155). -/
def State.trackAfter (s : State) (k : Nat) (r : EchoRes) : State :=
  let t := s.trackOf k
  let u : Track := if r.reason = 0 then { locked := true, kc := r.k0, tof := some r.tof, fails := 0 }
    else if r.reason = 5 then { t with locked := false }
    else if r.reason = 6 ∨ r.reason = 7 ∨ r.reason = 8 then (if 4 ≤ t.fails + 1 then { t with locked := false, fails := t.fails + 1 } else { t with fails := t.fails + 1 })
    else t
  { s with echo := { s.echo with track := alSet s.echo.track k u } }

/-- Write entry i of an engine's result log (R164). -/
def State.logPut (s : State) (e i : Nat) (x : Notice) (r : EchoRes) : State :=
  let a := echoBase + 0x192000 + 0x800 * e + 32 * i
  (s.stBytes a
    (leBytes 2 x.shot ++ leBytes 1 x.rep ++ leBytes 1 r.reason ++ leBytes 4 x.cycle ++ leBytes 8 r.tof.toNat ++ leBytes 2 r.qual ++ leBytes 2 (utwo 16 r.snr) ++ leBytes 2 (utwo 16 r.amp) ++
      leBytes 1 x.gain ++ leBytes 1 r.mode ++ leBytes 4 (utwo 32 (divRound r.lag (2 ^ 48))) ++ [0, 0, 0, 0])).heal a 32

/-- The next entry of the result log, over the oldest (R164). -/
def State.echoLog (s : State) (e : Nat) (x : Notice) (r : EchoRes) : State :=
  let i := s.get (F.ECHO.LOGIDX.NEXT e)
  let held := s.echo.held.map fun (h : Nat × Held) => (h.1, if h.2.slot = some (64 * e + i) then { h.2 with slot := none } else h.2)
  (({ s with echo := { s.echo with held := held } }).logPut e i x r).wrap (F.ECHO.LOGIDX.NEXT e) 1

/-- Report the uncorrectable error that check 3 met in a capture, or in the template (R154, R395). -/
def State.echoEcc (s : State) (e : Nat) (x : Notice) (tp : Option (Nat × Nat)) : State :=
  let b := bufAddr x.lane x.buf
  let a := if s.badIn b (2 * x.nsamp) then s.firstBad b (2 * x.nsamp) else match tp with
    | some t => s.firstBad t.1 (2 * t.2)
    | none => b
  (s.eccUncorr 2 a 0xFF).raise (F.ECHO.ERR.ECC e) 0 (12 + e)

/-- The end of a job: the log, the counters and the shot shown (R143 and the ECHO registers). A discarded SKIP notice has no job: only its rejection counts. -/
def State.jobDone (s : State) (e : Nat) (x : Notice) (r : EchoRes) : State :=
  let s := if x.lost then s else ((s.echoLog e x r).wrap (F.ECHO.COUNT.JOBS e) 1).set (F.ECHO.STATUS.SHOT e) x.shot
  if r.reason = 0 then s else s.sat (F.ECHO.COUNT.REJ e) 1

/-- Release a notice's own buffer. -/
def State.noticeRelease (s : State) (x : Notice) : State := if x.skip then s else s.bufRelease x.lane x.buf

/-- Mark the direction of a last repetition done, and finalise the path when both are (R157). -/
def State.dirDone (s : State) (st p : Nat) (isB : Bool) (x : Notice) : State :=
  let a := s.pathAcc st p
  if x.rep + 1 < a.reps then s
  else
    let a := if isB then { a with b := { a.b with done := true } } else { a with a := { a.a with done := true } }
    let s := s.setPath st p a
    if a.a.done && a.b.done then s.finalise st p else s

/-- Add a firing to its direction. -/
def PathAcc.addTo (a : PathAcc) (isB : Bool) (x : Notice) (r : EchoRes) : PathAcc :=
  if isB then { a with b := a.b.add x.rep x.gain r.reason r.tof r.amp r.snr r.qual (r.mode == 1) } else { a with a := a.a.add x.rep x.gain r.reason r.tof r.amp r.snr r.qual (r.mode == 1) }

/-- A template-mode job (R147 to R155); `forced` is a reason given from outside (ENGINE). -/
def State.runTemplate (s : State) (e st p : Nat) (isB : Bool) (x : Notice) (forced : Nat) : State :=
  let tp := s.template x.shot
  let pre := if forced ≠ 0 then forced else s.preCheck x tp
  let r := if pre ≠ 0 then EchoRes.none_ pre else match tp with
    | some t => s.templateJob st x t
    | none => EchoRes.none_ 6
  let s := if pre = 3 then s.echoEcc e x tp else s
  let s := if pre = 0 then { s with freeCtr := s.freeCtr + 1 } else s
  let s := if pre = 0 then s.trackAfter x.shot r else s
  let s := s.setPath st p ((s.pathAcc st p).addTo isB x r)
  ((s.noticeRelease x).jobDone e x r).dirDone st p isB x

/-- The SHOT_A firing of a path that waits. -/
def State.heldOf (s : State) (st p : Nat) : Option Held := alFind s.echo.held (16 * st + p)
/-- Nothing waits any more. -/
def State.heldClear (s : State) (st p : Nat) : State := { s with echo := { s.echo with held := alDel s.echo.held (16 * st + p) } }

/-- The SHOT_A firing that waited is judged: its direction gathers it, its log entry shows the result while it stands, and its buffer is released (R147, R153, R154, R164; log entry 177). One that had its reason already only
gives its buffer back. -/
def State.heldJudged (s : State) (e st p : Nat) (h : Held) (r : EchoRes) : State :=
  let n := h.x
  let s := (if h.ok then s.bufRelease n.lane n.buf else s).heldClear st p
  if !h.ok || h.reason != 0 then s
  else
    let ra : EchoRes := { r with tof := h.tof, amp := echoAmp n.peak n.gain }
    let a := s.pathAcc st p
    let s := if a.cycle = n.cycle then s.setPath st p { a with a := a.a.add n.rep n.gain ra.reason ra.tof ra.amp ra.snr ra.qual false } else s
    let s := match h.slot with
      | some i => s.logPut (i / 64) (i % 64) n ra
      | none => s
    if ra.reason = 0 then s else s.sat (F.ECHO.COUNT.REJ e) 1

/-- A notice that is not of SHOT_B of the same repetition and cycle releases the SHOT_A firing that waits, which has lost its partner (R147). -/
def State.heldRelease (s : State) (e st p : Nat) (isB : Bool) (x : Notice) : State := match s.heldOf st p with
  | some h => if isB && h.x.rep == x.rep && h.x.cycle == x.cycle then s else s.heldJudged e st p h { EchoRes.none_ 0xA with mode := 2 }
  | none => s

/-- A partner-mode job of SHOT_A (R147, R150, R153): its TOF is taken with the skew of this job's start, and its capture waits for SHOT_B. -/
def State.runPartnerA (s : State) (e st p : Nat) (x : Notice) (forced : Nat) : State :=
  let pre := if forced ≠ 0 then forced else s.preCheck x none
  let s := s.heldRelease e st p false x
  let q : EchoRes := { EchoRes.none_ pre with mode := 2 }
  let sk := s.getI (F.CAL.SKEW.S x.lane)
  let pk := peakPos (s.samples (bufAddr x.lane x.buf) x.nsamp) s.openOffset
  let r := if pre ≠ 0 then q else if s.pairable x.shot (s.pathF st p 2) then { q with tof := tofOf (s.shotDelay x.shot) (s.shotRate x.shot) pk.1 sk, amp := echoAmp x.peak x.gain } else { q with reason := 6 }
  let s := if r.reason = 0 then s else s.setPath st p ((s.pathAcc st p).addTo false x r)
  let s := if pre = 0 then { s with freeCtr := s.freeCtr + 1 } else s.noticeRelease x
  let s := if pre = 3 then s.echoEcc e x none else s
  let slot := if x.lost then none else some (64 * e + s.get (F.ECHO.LOGIDX.NEXT e))
  let h : Held := { x := x, ok := pre == 0, reason := r.reason, skew := sk, peak := pk.2, tof := r.tof, slot := none }
  let s := s.jobDone e x r
  ({ s with echo := { s.echo with held := alSet s.echo.held (16 * st + p) { h with slot := slot } } }).dirDone st p false x

/-- A partner-mode job of SHOT_B (R147, R153, R154): where one of the two firings fails checks 1 to 4 (A's capture is read again here, and may fail check 3 now), the other carries PARTNER. -/
def State.runPartnerB (s : State) (e st p : Nat) (x : Notice) (forced : Nat) : State :=
  let s := s.heldRelease e st p true x
  let pre := if forced ≠ 0 then forced else s.preCheck x none
  let rej := fun (n : Nat) => { EchoRes.none_ n with mode := 2 }
  let s := if pre = 3 then s.echoEcc e x none else s
  let res : EchoRes × EchoRes := match s.heldOf st p with
    | some h =>
      if pre ≠ 0 then (rej 0xA, rej pre)
      else if !h.ok then (rej h.reason, rej 0xA)
      else if s.badIn (bufAddr h.x.lane h.x.buf) (2 * h.x.nsamp) then (rej 3, rej 0xA)
      else let r := s.partnerJob st p h x; (r, r)
    | none => (rej 0xA, rej (if pre ≠ 0 then pre else 0xA))
  let r := res.2
  let s := { s with freeCtr := s.freeCtr + 1 }
  let s := match s.heldOf st p with
    | some h =>
      let s := if res.1.reason = 3 ∧ h.ok then s.echoEcc e h.x none else s
      s.heldJudged e st p h res.1
    | none => s
  let b := (s.pathAcc st p).addTo true x r
  let b := if r.reason = 0 then { b with dts := b.dts ++ [(x.rep, r.dt)] } else b
  let s := s.setPath st p b
  let s := if r.reason = 0 then { s with echo := { s.echo with lastDt := alSet s.echo.lastDt (16 * st + p) r.dt } } else s
  ((s.noticeRelease x).jobDone e x r).dirDone st p true x

/-- One notice by the shot it names (R143, R144, R157); `forced` rejects it with a reason. -/
def State.echoNotice (s : State) (e : Nat) (x : Notice) (forced : Nat) : State := match s.shotOwner x.shot with
  | some (st, p, isB) =>
    if s.streamF st 0x11 1 = e then
      let s := (s.finaliseOther st x.cycle (List.range (s.npath st))).openPath st p x
      if s.shotF (s.pathF st p 0) 6 2 = 0xFFFF then (if isB then s.runPartnerB e st p x forced else s.runPartnerA e st p x forced)
      else s.runTemplate e st p isB x forced
    else (s.noticeRelease x).jobDone e x (EchoRes.none_ 0xB)
  | none => (s.noticeRelease x).jobDone e x (EchoRes.none_ 0xB)

/-- The discarded SKIP notices that head a queue take their turn (R146). -/
def State.lostRun (s : State) (e : Nat) : List Notice → State
  | [] => s.setNotices e []
  | x :: q => if x.lost then (s.echoNotice e x 0).lostRun e q else s.setNotices e (x :: q)

/-- The head notice of an engine becomes a job (R143); `forced` rejects it with a reason. -/
def State.echoRun (s : State) (e forced : Nat) : State := match s.noticeQ e with
  | [] => s
  | x :: q => ((s.setNotices e q).echoNotice e x forced).lostRun e q

end Sys2Proof.Machine
end

