-- ==== Sys2Proof/Machine/SpnOps.lean ====
section
/-! DEFINITION. Spindle: energies, the degradation ladder, units and gating, and the tests of admission (R319 to R345). Energies are in 2^-96 nJ and powers in 2^-96 µW; the temperature factor of R324 is the one
irrational figure (log entry 30). -/

namespace Sys2Proof.Machine

/-! Task fields (R86). -/

/-- EVERY of task k. -/
def State.taskEvery (s : State) (k : Nat) : Nat := max 1 (s.taskF k 4 2)
/-- OFFSET_NS. -/
def State.taskOffset (s : State) (k : Nat) : Nat := s.taskF k 8 4
/-- DEADLINE_NS. -/
def State.taskDeadline (s : State) (k : Nat) : Nat := s.taskF k 0x0C 4
/-- WCET_NS. -/
def State.taskWcet (s : State) (k : Nat) : Nat := s.taskF k 0x10 4
/-- ENERGY_NJ. -/
def State.taskEnergy (s : State) (k : Nat) : Nat := s.taskF k 0x14 4
/-- RESOURCES. -/
def State.taskRes (s : State) (k : Nat) : Nat := s.taskF k 0x18 4
/-- DEFER_NS. -/
def State.taskDefer (s : State) (k : Nat) : Nat := s.taskF k 0x1C 4
/-- LADDER. -/
def State.taskLadder (s : State) (k : Nat) : Nat := s.taskF k 0x20 1

/-- Step n of the ladder applies to task k at a level (R336). -/
def State.stepAt (s : State) (level k n : Nat) : Bool :=
  decide (n ≤ level) && bitsOf (s.taskLadder k) (n - 1) (n - 1) == 1 && (if n = 1 then s.taskClass k == 3 else if n = 2 then s.taskClass k == 2 else true)

/-- Step n applies to task k now. -/
def State.stepOn (s : State) (k n : Nat) : Bool := s.stepAt (s.get F.SPN.STATUS.LEVEL) k n

/-- The paths of a stream with nonzero FALLBACK, as a mask (R82, R336). -/
def State.keptPaths (s : State) (st : Nat) : Nat := ((List.range (s.npath st)).filter fun p => s.pathF st p 6 != 0).foldl (fun (m : Nat) p => m + 2 ^ p) 0

/-- Shots averaged and the path mask of a task's stream at a level (R336 steps 3 and 4). -/
def State.avgAt (s : State) (level k : Nat) : Nat := if s.stepAt level k 3 then s.taskF k 0x21 1 else s.streamF (s.taskStream k) 0x20 1
/-- Path mask at a level. -/
def State.pathsAt (s : State) (level k : Nat) : Nat := if s.stepAt level k 4 then s.keptPaths (s.taskStream k) else 2 ^ s.npath (s.taskStream k) - 1

/-- The unscaled charge of a release with `a` shots averaged and `p` paths (R325). -/
def State.chargeOf (s : State) (k a p : Nat) : Int :=
  let st := s.taskStream k
  let e : Int := s.taskEnergy k * fpOne
  if st = 0xFF ∨ s.npath st = 0 then e else e * a * p / ((s.streamF st 0x20 1 * s.npath st : Nat) : Int)

/-- The charge with AVG and PATHS as they stand. -/
def State.chargeNow (s : State) (k : Nat) : Int := s.chargeOf k (s.get (F.ACQ.AVG.AVG (s.taskStream k))) (popcount64 (s.get (F.ECHO.PATHS.MASK (s.taskStream k))))

/-! Energy (R322 to R326). -/

/-- Vmin in mV. -/
def State.vmin (s : State) : Nat := s.chip 0x0C 2

/-- VSTORE in mV from a code (R322). -/
def State.vstoreMv (s : State) (code : Nat) : Nat := (heldAt (code * 750 * s.chip 0x10 4) (2 ^ 28)).toNat

/-- The reserve with a code as the lowest of the last four samples (R322). -/
def State.reserveOf (s : State) (code : Nat) : Int :=
  let d := s.chip 0x10 4
  (s.boot.cUse : Int) * 5 * (((code * code * d * d * 562500 : Nat) : Int) - ((s.vmin * s.vmin * 2 ^ 56 : Nat) : Int)) * fpOne / (2 ^ 56 * 1000000)

/-- Spindle's reserve now. -/
def State.reserve (s : State) : Int := match s.spn.codes with
  | [] => s.reserveOf 0
  | c :: cs => s.reserveOf (cs.foldl (fun (m : Nat) x => min m x) c)

/-- The input power of one sample: VSTORE times the ISNS current, whose code spans ±50 mV over 12 bits (R48). -/
def State.powerOf (s : State) (code : Nat) (isns : Int) : Int :=
  if s.chip 0x14 4 = 0 then 0 else (code : Int) * s.chip 0x10 4 * isns * 37500000000 * fpOne / (2 ^ 39 * (s.chip 0x14 4 : Int))

/-- The input current in µA (R48). -/
def State.currentUa (s : State) (isns : Int) : Int := if s.chip 0x14 4 = 0 then 0 else heldAt (isns * 50000000000) (2048 * s.chip 0x14 4)

/-- P_plan (R323). -/
def State.pPlan (s : State) : Int :=
  let pin : Int := s.chip 0x18 4 * fpOne
  match s.spn.window, s.spn.window.getLast? with
  | n :: _, some o =>
    if s.chip 0x14 4 = 0 then pin
    else if o.1 ≤ n.1 then pin
    else
      let mean := (s.spn.window.foldl (fun (t : Int) e => t + e.2) 0) / (s.spn.window.length : Int)
      if mean < pin then mean else pin
  | _, _ => pin

/-- E_floor (R326). -/
def State.eFloor (s : State) : Int := s.get F.SPN.FLOOR.VALUE * 1000 * fpOne

/-- Regions that a job holds thawed: admitted or running. -/
def State.heldRegions (s : State) : List Nat :=
  ((s.spn.jobs ++ s.spn.early).filter fun (e : Nat × Job) => e.2.st != 0).flatMap fun (e : Nat × Job) =>
    let st := s.taskStream e.1
    s.taskRegion e.1 :: (if st = 0xFF then [] else s.homeRegion st :: (if s.guarded st then [s.partnerRegion st] else []))

/-- The temperature factor of R324. -/
def State.heatFactor (s : State) : Int := fpPow (2 * fpOne) (fpRat (s.tmax - 250) 220)

/-- How many of a list satisfy a test. -/
def countIf (p : Nat → Bool) (l : List Nat) : Int := (l.filter p).length

/-- Whether a stream of the image names pulse input n. -/
def State.pinNamed (s : State) (n : Nat) : Bool := s.streams.any fun st => s.streamF st 0x0E 1 == n || s.streamF st 0x0F 1 == n

/-- A job holds an acoustic unit thawed: PLL_ACQ then runs for the job, whose charge covers it (R324). -/
def State.acqForJob (s : State) : Bool := (s.spn.jobs ++ s.spn.early).any fun (e : Nat × Job) => e.2.st != 0 && bitsOf (s.taskRes e.1) 20 20 == 1

/-- P_base (R324), unscaled by k. Of the pulse receivers those that a stream names are counted, as in the worked budget of the Spindle chapter (DEDUCED, log entry 11). -/
def State.pBase (s : State) : Int :=
  let h := s.heatFactor
  let rs := List.range 8
  let held := s.heldRegions
  let locks := (if s.on F.CLK.STATUS.SYS_LOCK then 1 else 0) + (if s.on F.CLK.STATUS.ACQ_LOCK && !s.acqForJob then 1 else 0) + (if s.on F.CLK.STATUS.AUX_LOCK then 1 else 0)
  let blocks := countIf (fun b => s.fabric.chains.any fun (e : Nat × Chain) => s.on (F.CHAIN.STATUS.RUN e.1) && !s.chainEcho e.1 && s.chainBlock e.1 == b) (List.range 32)
  let fixed : Int := 12000 * countIf (fun r => !s.regionGated r && !held.contains r) rs + (if s.on F.CLK.STATUS.HFXO_ON then 600 else 0) + 3000 * locks + 1500 * blocks +
    2800 * countIf (fun n => s.on (F.SDC.STATUS.PWR n)) (List.range 48) + 50 * countIf (fun n => s.on (F.PIN.STATUS.RXON n) && s.pinNamed n) (List.range 32) + s.get F.SPN.SW_UW.UW
  45 * h + 150 * h * countIf s.regionGated rs + fixed * fpOne

/-- Times the energy scale k (R325). -/
def State.scaled (s : State) (x : Int) : Int := x * s.get F.SPN.ESCALE.K / 256

/-- The demand D at a level, with a charge function (R338): releases withheld by step 1 draw nothing, step 5 stretches the period. -/
def State.demandWith (s : State) (level : Nat) (charge : Nat → Int) : Int :=
  let one := fun (k : Nat) =>
    if s.stepAt level k 1 then 0
    else charge k * 1000 / ((s.taskEvery k * (if s.stepAt level k 5 then max 1 (s.taskF k 0x22 2) else 1) * max 1 s.cycleUs : Nat) : Int)
  s.scaled (s.pBase + ((List.range s.ntask).map one).foldl (· + ·) 0)

/-- The demand now. -/
def State.demand (s : State) : Int := s.demandWith (s.get F.SPN.STATUS.LEVEL) s.chargeNow

/-- The demand at another level. -/
def State.demandAt (s : State) (level : Nat) : Int := s.demandWith level fun k => s.chargeOf k (s.avgAt level k) (popcount64 (s.pathsAt level k))

/-! The ladder (R336 to R340). -/

/-- Whether a step applies to some task at level 5. -/
def State.stepUsed (s : State) (n : Nat) : Bool := (List.range s.ntask).any fun k => s.stepAt 5 k n

/-- The next higher level, passing over steps that no task permits. -/
def State.levelUp (s : State) (l : Nat) : Nat := ((List.range 6).find? fun n => decide (l < n) && s.stepUsed n).getD 5

/-- The next lower level. -/
def State.levelDown (s : State) (l : Nat) : Nat := ((List.range l).reverse.find? fun n => n == 0 || s.stepUsed n).getD 0

/-- Show the steps that apply to a list of tasks, and make the entries of those that begin or stop to apply (R340). -/
def State.stepsShow (s : State) (old new cause : Nat) : List Nat → State
  | [] => s
  | k :: ks =>
    let ent := fun (s : State) (n : Nat) =>
      if s.stepAt new k n && !s.stepAt old k n then s.ladderEntry 0x70 k n cause
      else if s.stepAt old k n && !s.stepAt new k n then s.ladderEntry 0x71 k n cause
      else s
    let s := [1, 2, 3, 4, 5].foldl ent s
    let bits := ([1, 2, 3, 4, 5].filter fun n => s.stepAt new k n).foldl (fun (m : Nat) n => m + 2 ^ (n - 1)) 0
    ((s.set (F.SPN.TASK.STEPS k) bits).set (F.SPN.TASK.S k) (if s.stepAt new k 5 then s.taskF k 0x22 2 else 1)).stepsShow old new cause ks

/-- Move the ladder to a level (R338 to R340). -/
def State.levelSet (s : State) (new cause : Nat) : State :=
  let old := s.get F.SPN.STATUS.LEVEL
  if old = new then s else
    let s := s.set F.SPN.STATUS.LEVEL new
    (s.stepsShow old new cause (List.range s.ntask)).intervalNote 0

/-- SPN.DEMAND shows D (R338). -/
def State.demandShow (s : State) : State := s.set F.SPN.DEMAND.VALUE (min 0xFFFFFFFF (heldAt s.demand (2 ^ 96)).toNat)

/-- The envelope check (R338): D against P_plan and the horizon. -/
def State.envelope (s : State) : State :=
  let d := s.demand
  let p := s.pPlan
  let s := s.demandShow
  if p < d ∧ s.reserve - s.eFloor < (d - p) * s.get F.SPN.HORIZON.SECONDS * 1000 ∧ s.get F.SPN.STATUS.LEVEL < 5 then s.levelSet (s.levelUp (s.get F.SPN.STATUS.LEVEL)) 1 else s

/-- The heat rule at a fired instant: a step every 16 instants while WARM (R329, R338). -/
def State.heatRise (s : State) : State :=
  if s.get F.SPN.STATUS.THERM = 1 then
    let n := s.spn.heatN + 1
    let s := { s with spn := { s.spn with heatN := n % 16 } }
    if n = 16 ∧ s.get F.SPN.STATUS.LEVEL < 5 then s.levelSet (s.levelUp (s.get F.SPN.STATUS.LEVEL)) 4 else s
  else s

/-- The fall of the level after 16 instants that allow it (R339). The cause byte of a RESTORE entry is not stated (free, log entry 2). -/
def State.levelFall (s : State) : State :=
  let l := s.get F.SPN.STATUS.LEVEL
  if l = 0 then { s with spn := { s.spn with low := 0 } }
  else if s.demandAt (s.levelDown l) * 20 ≤ 19 * s.pPlan then
    let n := s.spn.low + 1
    if 16 ≤ n ∧ s.get F.SPN.STATUS.THERM = 0 then ({ s.free.2 with spn := { s.spn with low := 0 } }).levelSet (s.levelDown l) s.free.1.toNat
    else { s with spn := { s.spn with low := n } }
  else { s with spn := { s.spn with low := 0 } }

/-- Write ACQ.AVGn and ECHO.PATHSn for the task of a stream (R337). Paths no longer awaited may complete the stream (R157). -/
def State.applySteps (s : State) (k : Nat) : State :=
  let st := s.taskStream k
  if st = 0xFF ∨ s.homeTask st ≠ k then s
  else
    let l := s.get F.SPN.STATUS.LEVEL
    ((s.set (F.ACQ.AVG.AVG st) (s.avgAt l k)).set (F.ECHO.PATHS.MASK st) (s.pathsAt l k)).echoComplete st

/-! Units and gating (R334, R335). Units: region r is r, echo engine e is 8 + e, lane l is 16 + l, 32 the modulators of the task's chains, 33 PLL_ACQ, 34 the pulse receivers. -/

/-- Lanes used only by paths that step 4 drops. -/
def State.droppedLanes (s : State) (k : Nat) : List Nat :=
  if s.stepOn k 4 then
    let st := s.taskStream k
    let lanesOf := fun (ps : List Nat) => ps.flatMap fun p => [s.shotLane (s.pathF st p 0), s.shotLane (s.pathF st p 2)]
    let kept := lanesOf ((List.range (s.npath st)).filter fun p => s.pathF st p 6 != 0)
    (lanesOf ((List.range (s.npath st)).filter fun p => s.pathF st p 6 == 0)).filter fun l => !kept.contains l
  else []

/-- The regions of a stream. -/
def State.streamRegions (s : State) (st : Nat) : List Nat := if st = 0xFF then [] else s.homeRegion st :: (if s.guarded st then [s.partnerRegion st] else [])

/-- The units task k's job needs. -/
def State.unitsOf (s : State) (k : Nat) : List Nat :=
  let r := s.taskRes k
  let drop := s.droppedLanes k
  let lanes := (List.range 16).filter fun l => bitsOf r l l == 1 && !drop.contains l
  let engines := (List.range 4).filter fun e => bitsOf r (16 + e) (16 + e) == 1
  (s.taskRegion k :: s.streamRegions (s.taskStream k)) ++ engines.map (8 + ·) ++ lanes.map (16 + ·) ++ (if bitsOf r 21 21 = 1 then [32] else []) ++ (if bitsOf r 20 20 = 1 then [33] else []) ++
    (if bitsOf r 22 22 = 1 then [34] else [])

/-- The chains of a task: those its stream names, or with no stream those of its region (R82, R86). -/
def State.taskChains (s : State) (k : Nat) : List Nat :=
  let st := s.taskStream k
  if st = 0xFF then s.chainIds.filter fun c => s.chainRegion c == s.taskRegion k
  else s.chainIds.filter fun c => [8, 0x0A, 0x0C].any fun o => s.streamF st o 2 == c

/-- The modulators of a task's chains. -/
def State.taskModulators (s : State) (k : Nat) : List Nat := ((s.taskChains k).filter fun c => s.chainSrcKind c == 1).map s.chainSrc

/-- The pulse inputs that a task's stream names (R82). -/
def State.taskPulses (s : State) (k : Nat) : List Nat :=
  let st := s.taskStream k
  if st = 0xFF then [] else [s.streamF st 0x0E 1, s.streamF st 0x0F 1].filter fun n => decide (n < 32)

/-- Whether a unit is gated or off. -/
def State.unitGated (s : State) (k u : Nat) : Bool :=
  if u < 8 then s.regionGated u
  else if u < 12 then !(s.spn.thawed.contains u)
  else if u < 32 then !s.on (F.ACQ.LANE_STAT.PWR (u - 16))
  else if u = 32 then (s.taskModulators k).any fun n => !s.on (F.SDC.STATUS.PWR n)
  else if u = 33 then !s.on F.CLK.STATUS.ACQ_LOCK
  else (s.taskPulses k).any fun n => !s.on (F.PIN.STATUS.RXON n)

/-- The THAW lead of a gated unit in ns (R334). -/
def State.unitLead (s : State) (u : Nat) : Nat :=
  let clk := fun (f : Fld) => if s.on f then 0 else 20000
  if u < 8 then (if s.spn.cold.contains u then 3500000 else 10000) + clk F.CLK.STATUS.SYS_LOCK
  else if u < 12 then 2000 + clk F.CLK.STATUS.ACQ_LOCK
  else if u < 32 then 8000 + clk F.CLK.STATUS.ACQ_LOCK
  else if u = 32 then 100000 + clk F.CLK.STATUS.AUX_LOCK
  else if u = 33 then clk F.CLK.STATUS.ACQ_LOCK
  else 10000

/-- L of R330: the largest lead of the gated units of task k. -/
def State.leadOf (s : State) (k : Nat) : Nat := (((s.unitsOf k).filter (s.unitGated k)).map s.unitLead).foldl max 0

/-- The earliest instant at which a job released at cycle n needs a unit (R335). -/
def State.needAt (s : State) (k n : Nat) : Nat := n * s.cycleT + (if s.taskRes k = 0 ∧ s.taskStream k = 0xFF then s.taskOffset k * 65536 else 0)

/-- The admission instant of a release (R330); for a job whose units the alarm wakes it was fixed when the clocks stopped (R354). -/
def State.admitAt (s : State) (k n : Nat) : Nat := match s.season.plan with
  | some (k1, n1, ta) => if k1 = k ∧ n1 = n then ta else s.needAt k n - (s.leadOf k + 10000) * 65536
  | none => s.needAt k n - (s.leadOf k + 10000) * 65536

/-- The first release of a region after a class F start (R69): its fabric is loaded from the active slot, its state blocks and parameter page with it, and its chains are made ready. Its totals were restored when Spindle resumed,
since a commit that comes first must hold them (log entry 116). -/
def State.warm (s : State) (r : Nat) : State :=
  if s.spn.cold.contains r then
    let s := { s with spn := { s.spn with cold := s.spn.cold.filter (· != r) } }
    let s := (((s.loadBlocks [4 * r, 4 * r + 1, 4 * r + 2, 4 * r + 3]).codeLoad r).freshBlocks r).fillParams r
    s.chainsReady (s.chainIds.filter fun c => s.chainRegion c == r)
  else s

/-- Thaw a unit. -/
def State.thaw (s : State) (u : Nat) : State :=
  if u < 8 then
    let s := s.warm u
    let x := { s.spn with thawed := if s.spn.thawed.contains u then s.spn.thawed else u :: s.spn.thawed }
    (({ s with spn := x }).set F.CLK.STATUS.SYS_LOCK 1).regionWritten u
  else if u < 12 then
    let x := { s.spn with thawed := if s.spn.thawed.contains u then s.spn.thawed else u :: s.spn.thawed }
    ({ s with spn := x }).set F.CLK.STATUS.ACQ_LOCK 1
  else if u < 32 then (s.set (F.ACQ.LANE_STAT.PWR (u - 16)) 1).set F.CLK.STATUS.ACQ_LOCK 1
  else if u = 32 then s.set F.CLK.STATUS.AUX_LOCK 1
  else if u = 33 then s.set F.CLK.STATUS.ACQ_LOCK 1
  else s

/-- Thaw a list of units one after the other. -/
def State.thawList (s : State) : List Nat → State
  | [] => s
  | u :: us => (s.thaw u).thawList us

/-- Thaw a list of units: a region, engine or lane that was gated is ready its THAW lead from now (R334). -/
def State.thaws (s : State) (us : List Nat) : State :=
  let gated := us.filter fun u => decide (u < 32) && s.unitGated 0 u
  let ready := gated.foldl (fun (m : List (Nat × Nat)) u => alSet m u (s.time.t + s.unitLead u * 65536)) s.spn.ready
  (({ s with spn := { s.spn with ready := ready } }).thawList us).seasonUpdate

/-- The first cycle whose instant can release task k: one that lay its THAW lead ahead when Spindle started (R63). -/
def State.firstCycle (s : State) (k : Nat) : Nat := alGet 0 s.spn.first k

/-- Whether task k is released at cycle instant n (R63, R319). -/
def State.releasesAt (s : State) (k n : Nat) : Bool := n % (s.taskEvery k * max 1 (s.get (F.SPN.TASK.S k))) == 0 && decide (s.firstCycle k ≤ n)

/-- The number of a task's next release (R63, R319). -/
def State.nextRelease (s : State) (k : Nat) : Nat :=
  let p := s.taskEvery k * max 1 (s.get (F.SPN.TASK.S k))
  (max s.nextCycle (s.firstCycle k) + p - 1) / p * p

/-- Streams whose results an engine writes, with NPATH > 0. -/
def State.pathStreams (s : State) : List Nat := s.streams.filter fun st => s.npath st != 0

/-- The engine and the regions of a stream with paths stay thawed from a fired cycle instant until the stream is complete for that cycle (R157, R335). -/
def State.echoPending (s : State) (st : Nat) : Bool :=
  s.on F.SPN.STATUS.RUN && s.time.fired.1 == s.time.cycle && s.get (F.ECHO.PATHS.MASK st) != 0 &&
    (match s.echoOpen st with
     | some o => o.cycle != s.time.cycle || !o.full
     | none => true)

/-- Whether a unit is needed within `ns` from now, or held now: by an admitted or running job, by an unfinished echo cycle, or by the next need of some task or stream (R334, R335). -/
def State.unitBusy (s : State) (u ns : Nat) : Bool :=
  ((s.spn.jobs ++ s.spn.early).any fun (e : Nat × Job) => e.2.st != 0 && (s.unitsOf e.1).contains u) ||
  (List.range s.ntask).any (fun k => (s.unitsOf k).contains u && decide (s.needAt k (s.nextRelease k) < s.time.t + ns * 65536)) ||
  (s.pathStreams.any fun st => (8 + s.streamF st 0x11 1 == u || u == 33 || (s.streamRegions st).contains u) &&
    (decide (s.nextInstant < s.time.t + ns * 65536) || s.echoPending st || !(s.noticeQ (s.streamF st 0x11 1)).isEmpty)) ||
  (decide (u < 8) && s.streams.any fun st => s.pulseA st != 0xFF && (s.streamRegions st).contains u && decide (s.nextInstant < s.time.t + ns * 65536))

/-- Gate the regions, engines and lanes of a list that nothing needs (R334). -/
def State.gateList (s : State) : List Nat → State
  | [] => s
  | u :: us =>
    (if u < 8 then (if s.spn.thawed.contains u && bitsOf (s.img 2 u 1 1) 0 0 == 1 && !s.unitBusy u 200000 then { s with spn := { s.spn with thawed := s.spn.thawed.filter (· != u) } } else s)
     else if u < 12 then (if s.spn.thawed.contains u && !s.unitBusy u 20000 then { s with spn := { s.spn with thawed := s.spn.thawed.filter (· != u) } } else s)
     else if s.on (F.ACQ.LANE_STAT.PWR (u - 16)) && !(s.lane (u - 16)).fired && decide ((s.lane (u - 16)).upTo < s.time.t) && !s.unitBusy u 50000 then s.set (F.ACQ.LANE_STAT.PWR (u - 16)) 0
     else s).gateList us

/-- A running unit uses PLL_ACQ: an echo engine or a lane (R360). -/
def State.acqUsed (s : State) : Bool := s.spn.thawed.any (fun u => decide (8 ≤ u)) || (List.range 16).any fun l => s.on (F.ACQ.LANE_STAT.PWR l)

/-- A running unit uses PLL_AUX: a powered modulator, a MAC that sends or receives, or a CSP or two-wire port in a transfer (R360). -/
def State.auxUsed (s : State) : Bool :=
  (List.range 48).any (fun n => s.on (F.SDC.STATUS.PWR n)) || s.mac.any (fun (e : Nat × Mac) => e.2.txOn || e.2.rxOn) || (List.range 6).any (fun n => s.on (F.CSP.STATUS.BUSY n)) || s.cspx.sel ||
    (List.range 8).any fun n => s.on (F.TW.STATUS.BUSY n)

/-- AOC stops PLL_ACQ and PLL_AUX where no unit needs them within their break-even time (R334, R361). -/
def State.pllsIdle (s : State) : State :=
  let s := if s.acqUsed || s.unitBusy 33 100000 then s else s.set F.CLK.STATUS.ACQ_LOCK 0
  if s.auxUsed || s.unitBusy 32 100000 then s else s.set F.CLK.STATUS.AUX_LOCK 0

/-- Gate what nothing needs, the PLLs with it (R334, R361). -/
def State.gateIdle (s : State) : State := (s.gateList (List.range 32)).pllsIdle.seasonUpdate

/-- A job has ended: what waited for its end is written (R337), and what nothing needs is gated. -/
def State.taskDone (s : State) (k : Nat) : State :=
  let s := s.jobEnd k
  let s := if s.spn.pendSet.contains k then ({ s with spn := { s.spn with pendSet := s.spn.pendSet.filter (· != k) } }).applySteps k else s
  s.gateIdle

/-! Admission (R330, R331). -/

/-- A job in the region schedule: release, deadline, class, task and WCET, in ns. -/
structure Sched where
  rel : Nat
  dl : Nat
  cls : Nat
  k : Nat
  wcet : Nat

/-- Order of R331 and R332. -/
def Sched.before (a b : Sched) : Bool := decide (a.dl < b.dl) || (a.dl == b.dl && (decide (a.cls < b.cls) || (a.cls == b.cls && decide (a.k < b.k))))

/-- The first of a list in that order. -/
def Sched.first : List Sched → Option Sched
  | [] => none
  | x :: xs => match Sched.first xs with
    | some y => if y.before x then some y else some x
    | none => some x

/-- The region schedule of R330, from time t on; times in 2^-16 ns. -/
def schedule (allow : Nat) : Nat → Nat → List Sched → Bool
  | 0, _, l => l.isEmpty
  | n + 1, t, l =>
    if l.isEmpty then true
    else
      let t := if l.any (fun x => decide (x.rel ≤ t)) then t else l.foldl (fun (m : Nat) x => min m x.rel) (l.foldl (fun (m : Nat) x => max m x.rel) 0)
      match Sched.first (l.filter fun x => decide (x.rel ≤ t)) with
      | none => true
      | some j =>
        let t := t + (j.wcet + 100) * 65536
        if j.dl < t + allow then false else schedule allow n t (l.filter fun x => x.k != j.k || x.rel != j.rel)

/-- A job as the schedule sees it. -/
def State.sched (s : State) (k : Nat) (j : Job) : Sched := { rel := j.rel, dl := j.dl, cls := s.taskClass k, k := k, wcet := s.taskWcet k }

/-- Admitted jobs of a region that are not dispatched yet. -/
def State.waiting (s : State) (r : Nat) : List Sched :=
  ((s.spn.jobs ++ s.spn.early).filter fun (e : Nat × Job) => (e.2.st == 1 || e.2.st == 3) && s.taskRegion e.1 == r).map fun (e : Nat × Job) => s.sched e.1 e.2

/-- The instant at which a region's pair is free: the running task's bound, with its replay if it has rolled back (R333; the manual does not define pair_free_time, DEDUCED, log entry 181). -/
def State.pairFree (s : State) (r : Nat) : Nat := match (s.pair r).task with
  | some k => max s.time.t ((s.pair r).td + (if (s.pair r).rolled then 2 * s.taskWcet k + 300 else s.taskWcet k) * 65536)
  | none => s.time.t

/-- Test 1 of R330. -/
def State.timeTest (s : State) (k : Nat) (j : Job) : Bool :=
  let r := s.taskRegion k
  let l := s.sched k j :: s.waiting r
  let ready := if s.regionGated r then s.time.t + s.unitLead r * 65536 else max s.time.t (s.readyAt r)
  schedule ((l.foldl (fun (m : Nat) x => max m x.wcet) 0 + 300) * 65536) (l.length + 1) (max (s.pairFree r) ready) l

/-- Test 2 of R330 at one charge instant, over charges with their instants. -/
def State.energyAt (s : State) (e p : Int) (cs : List (Nat × Int)) (t : Nat) : Bool :=
  let sum := (cs.filter fun c => decide (c.1 ≤ t)).foldl (fun (n : Int) c => n + c.2) 0
  decide (s.eFloor ≤ e + p * ((t : Int) - s.time.t) / 65536000000 - s.scaled sum)

/-- Test 2 of R330 for a charge at an instant. -/
def State.energyTest (s : State) (t : Nat) (charge : Int) : Bool :=
  let cs := (t, charge) :: ((s.spn.jobs ++ s.spn.early).filter fun (e : Nat × Job) => e.2.st != 0).map fun (e : Nat × Job) => (e.2.ta, e.2.charge)
  let e := s.reserve
  let p := s.pPlan - s.scaled s.pBase
  (cs.map (·.1)).all (s.energyAt e p cs)

/-- Test 3 of R330. -/
def State.heatTest (s : State) : Bool := s.get F.SPN.STATUS.THERM != 2

/-- The candidate job of task k for cycle n, decided at ta, under the ladder as it stands (R319, R336 step 2). -/
def State.candidate (s : State) (k n ta : Nat) : Job :=
  let d := if s.stepOn k 2 then s.taskDefer k * 65536 else 0
  { cycle := n, st := if s.stepOn k 2 then 3 else 1, charge := s.chargeNow k, ta := ta + d, rel := n * s.cycleT + s.taskOffset k * 65536 + d, dl := n * s.cycleT + s.taskDeadline k * 65536 + d,
    deg := s.stepOn k 3 || s.stepOn k 4 }

/-- Put an admitted job in its place: before its cycle instant has fired it is early. -/
def State.admitted (s : State) (k : Nat) (j : Job) : State :=
  let s := { s with spn := { s.spn with chSec := s.spn.chSec + j.charge, decided := alSet s.spn.decided k j.cycle } }
  let s := if j.deg && !(s.isMirror k && s.regionUp (s.homeRegion (s.taskStream k))) then s.streamNote (s.taskStream k) j.cycle 0 1 0 else s
  let s := if s.time.cycle < j.cycle then ({ s with spn := { s.spn with early := alSet s.spn.early k j } }).jobShow k else s.jobSet k j
  s.thaws (s.unitsOf k)

/-- A job that is not admitted (R341, R343): `cause` as R340 numbers it. -/
def State.turnedAway (s : State) (k n cause : Nat) : State :=
  let s := { s with spn := { s.spn with decided := alSet s.spn.decided k n } }
  let s := if s.time.cycle < n then s else s.jobEnd k
  (s.releaseLost k n cause).gateIdle

/-- Write the averaging and paths of the new level, now or when a job of the task that is still unfinished ends (R337). -/
def State.stepsApply (s : State) (k n : Nat) : State := match alFind s.spn.jobs k with
  | some j => if j.cycle = n then s.applySteps k else { s with spn := { s.spn with pendSet := k :: s.spn.pendSet.filter (· != k) } }
  | none => s.applySteps k

/-- Decide one job (R330, R338, R341): the level rises until the job passes or the level is 5. -/
def State.decide_ (s : State) (k n ta : Nat) : Nat → State
  | 0 => s
  | fuel + 1 =>
    if s.stepOn k 1 then
      let s := (s.sat F.SPN.COUNT.DEFER 1)
      let s := { s with spn := { s.spn with decided := alSet s.spn.decided k n } }
      if s.time.cycle < n then s else s.jobEnd k
    else
      let s := s.stepsApply k n
      let j := s.candidate k n ta
      let t1 := s.timeTest k j
      let t2 := s.energyTest j.ta j.charge
      let t3 := s.heatTest
      let defer := fun (s : State) => if s.stepOn k 2 then s.sat F.SPN.COUNT.DEFER 1 else s
      if t1 && t2 && t3 then (defer s).admitted k j
      else
        let s := { s with spn := { s.spn with low := 0 } }
        let cause := if !t2 then 2 else 4
        if (!t2 || !t3) && decide (s.get F.SPN.STATUS.LEVEL < 5) then (s.levelSet (s.levelUp (s.get F.SPN.STATUS.LEVEL)) cause).decide_ k n ta fuel
        else if s.taskClass k == 1 && bitsOf (s.taskLadder k) 5 5 == 0 && t1 then (defer s).admitted k j
        else s.turnedAway k n (if !t1 then 3 else cause)

end Sys2Proof.Machine
end

