-- ==== Sys2Proof/Machine/Due.lean ====
section
/-! DEFINITION. What falls due as Heartwood time passes (log entry 7). -/

namespace Sys2Proof.Machine

/-- What a rollback count calls for when a replay ends (R379). -/
def State.afterReplay (s : State) (p k : Nat) : State :=
  if s.flt.after.contains p then ({ s with flt := { s.flt with after := s.flt.after.filter (· != p) } }).isolate p 2 k else s

/-- Steps 6 and 7 of R242 at their end: the commit is completed, and Spindle is told that the task has ended. -/
def State.commitEnd (s : State) (p : Nat) (l : CommitLog) : State := (((s.logApply p).pairStop p).taskDone l.task).afterReplay p l.task

/-- Complete the commits of a list of pairs that are due; an isolated region's log waits for its restart (R244). -/
def State.commitsDue (s : State) : List Nat → State
  | [] => s
  | p :: ps => (match (s.pair p).log with
      | some l => if l.due ≤ s.time.t ∧ (s.pair p).task = some l.task then s.commitEnd p l else s
      | none => s).commitsDue ps

/-- What falls due as Heartwood time passes: commits complete, windows open, modulators are warm, inputs are stuck, swaps take effect, regions and blocks restart (log entry 7). -/
def State.settle (s : State) : State :=
  let s := (((s.commitsDue (List.range 8)).windowsDue s.acq.lanes).warmsDue s.front.warmTo).stuckDue s.pulse
  ((s.swapsDue s.fabric.swaps).restartsDue (s.flt.restart.map fun (e : Nat × Nat) => e.1)).blocksDue s.flt.blockDue

end Sys2Proof.Machine
end

