-- ==== Sys2Proof/Machine/Chains.lean ====
section
/-! DEFINITION. The filter chains (R188 to R214): one meaning per command, and what a comparator match does to chains and pending swaps. -/

namespace Sys2Proof.Machine

/-! Matches. -/

/-- A later match of a triggered chain's comparator, with `e` the first modulator edge later than the match plus 20 ns (R199): where no window begins there, the window in progress is abandoned. -/
def State.chainMatch (s : State) (c : Nat) (e : Nat) : State := match alFind s.fabric.chains c with
  | none => s
  | some x =>
    let d := s.chainDecim c
    let q := ((e : Int) - x.e0).toNat
    let from_ := match x.skip with
      | some (a, l) => a + l
      | none => x.n
    if q < from_ ∨ (q - from_) % d = 0 then s
    else
      let skip := match x.skip with
        | some (a, _) => (a, q - a)
        | none => (x.n + (q - x.n) / d * d, (q - x.n) % d)
      (s.setChain c { x with skip := some skip, settle := q }).chainFlag F.CHAIN.STATUS.RESYNC c true

/-- The chains that name comparator n, at a match whose first edge is `e` (R196, R199): a waiting chain starts, a running one checks its window. -/
def State.chainMatches (s : State) (n e : Nat) : List Nat → State
  | [] => s
  | c :: cs =>
    (if s.chainEcho c || s.chainF c 0x14 1 != n then s
     else if s.fabric.armed.contains c then s.chainStart c e
     else s.chainMatch c e).chainMatches n e cs

/-- Pending swaps that name comparator n are due from its match on, at the next common window boundary (R209). -/
def State.swapsMatch (s : State) (n tm : Nat) : State :=
  { s with fabric := { s.fabric with swaps := s.fabric.swaps.map fun (e : Nat × SwapReq) => (e.1, if e.2.trig = n ∧ e.2.due = none then { e.2 with due := some tm } else e.2) } }

/-- Source samples keep their numbers when a step moves the modulator edges to a new scale (R199, R309): `e` and `e1` are the next edge on the old and on the new scale. -/
def State.chainsShift (s : State) (e e1 : Int) : State :=
  let d := e1 - e
  let quiet := s.front.quiet.map fun (q : Nat × (Int × Int)) => (q.1, (q.2.1 + d, q.2.2 + d))
  let seen := s.front.seen.map fun (q : Nat × (Int × List Nat)) => (q.1, (q.2.1 + d, q.2.2))
  { s with fabric := { s.fabric with chains := s.fabric.chains.map fun (x : Nat × Chain) => (x.1, { x.2 with e0 := x.2.e0 + d }) }, front := { s.front with quiet := quiet, seen := seen } }

/-- Source samples from number q on (`on`), or up to it, are the calibration's. -/
def Chain.hold (x : Chain) (q : Int) (on : Bool) : Chain :=
  { x with holds := if on then (q, none) :: x.holds else x.holds.map fun (h : Int × Option Int) => (h.1, some (h.2.getD q)) }

/-- The calibration engine takes (`on`) or leaves modulator n, from edge `e` or up to it (R206, R364). -/
def State.chainsHold (s : State) (n e : Nat) (on : Bool) : State :=
  let f := fun (x : Nat × Chain) => (x.1, if s.chainSrcKind x.1 == 1 && s.chainSrc x.1 == n then x.2.hold ((e : Int) - x.2.e0) on else x.2)
  ({ s with fabric := { s.fabric with chains := s.fabric.chains.map f } }).frozenShows (s.fabric.chains.map fun (e : Nat × Chain) => e.1)

/-! Samples. -/

/-- Values from edge `a` on, where those that a faster chain has taken already stand in place of one's own (R169). -/
def overlay (a : Int) (own : List Nat) (seg : Int × List Nat) : List Nat :=
  let lo := max a seg.1
  let hi := min (a + own.length) (seg.1 + seg.2.length)
  if hi ≤ lo then own else own.take (lo - a).toNat ++ (seg.2.drop (lo - seg.1).toNat).take (hi - lo).toNat ++ own.drop (hi - a).toNat

/-- The values of modulator or source `key` from edge `a` on: what is known of them, and one's own for the rest. -/
def State.seenVals (s : State) (key : Nat) (a : Int) (own : List Nat) : List Nat :=
  (s.front.seen.filter fun (e : Nat × (Int × List Nat)) => e.1 == key).foldl (fun (l : List Nat) e => overlay a l e.2) own

/-- Whether modulator n delivers an alternating bit at edge e (R171): its own 100 µs (`sort` n), or no PLL_AUX or VDDA_SD (48). -/
def State.quietAt (s : State) (sort : Nat) (e : Int) : Bool := s.front.quiet.any fun (q : Nat × (Int × Int)) => q.1 == sort && decide (q.2.1 ≤ e) && decide (e ≤ q.2.2)

/-- The next edge that some chain on modulator n, or on a channel that uses source n - 64, has yet to take; none without one. -/
def State.nextEdge (s : State) (key : Nat) : Option Int :=
  s.fabric.chains.foldl (fun (m : Option Int) e =>
    if s.chainSrcKind e.1 == 1 && (key == 48 || s.chainSrc e.1 == key || (decide (64 ≤ key) && (s.excUsed (s.chainSrc e.1)).contains (key - 64))) then
      some (match m with
        | some v => min v (e.2.e0 + e.2.n)
        | none => e.2.e0 + e.2.n)
    else m) none

/-- Forget what no chain has yet to take. -/
def State.frontTrim (s : State) : State :=
  let need := fun (key : Nat) (e : Int) => match s.nextEdge key with
    | some v => decide (v < e)
    | none => false
  { s with front := { s.front with seen := s.front.seen.filter (fun (x : Nat × (Int × List Nat)) => need x.1 (x.2.1 + x.2.2.length)),
                                   quiet := s.front.quiet.filter fun (q : Nat × (Int × Int)) => need q.1 (q.2.2 + 1) } }

/-- The bits that modulator n delivers from edge `a` on, each with whether it is marked (R169, R171, R172, R174, R175), and SDC.STATUS with what marked them. `bits` and the causes of `marks` (1 overload, 2 the channel's source out
of compliance, 4 its second source) hold where no faster chain has taken the bit before. Which level the alternation begins with is open (log entry 178). -/
def State.frontBits (s : State) (n : Nat) (a : Int) (bits : List Bool) (marks : List (Nat × Nat)) : State × List (Bool × Bool) :=
  let cause := fun (i b : Nat) => marks.any fun (e : Nat × Nat) => e.1 == i && bitsOf e.2 b b == 1
  let idx := List.range bits.length
  let vals := s.seenVals n a ((bits.zip idx).map fun (e : Bool × Nat) => (if e.1 then 1 else 0) + (if cause e.2 0 then 2 else 0))
  let outs := ((s.excUsed n).zip [1, 2]).map fun (e : Nat × Nat) => (e.1, s.seenVals (64 + e.1) a (idx.map fun i => if cause i e.2 then 1 else 0))
  let odd := s.excOdd n
  let row := (vals.zip idx).map fun (e : Nat × Nat) =>
    let q := s.quietAt n (a + e.2) || s.quietAt 48 (a + e.2)
    (if q then ((a + e.2) % 2 == 0) != Config.altPhase n else e.1 % 2 == 1,
     q || odd || decide (2 ≤ e.1) || outs.any fun (o : Nat × List Nat) => o.2[e.2]? == some 1)
  let s := if vals.any fun v => decide (2 ≤ v) then s.sdRaise F.SDC.STATUS.OVLD [n] else s
  let s := s.sdRaise F.SDC.STATUS.EXC_FLT ((if odd then [n] else []) ++ (outs.filter fun (o : Nat × List Nat) => o.2.contains 1).flatMap fun (o : Nat × List Nat) => s.excUsers o.1)
  let s := if idx.any fun i => s.quietAt 48 (a + i) then s.sdRaise F.SDC.STATUS.NOT_READY [n] else s
  ({ s with front := { s.front with seen := (n, (a, vals)) :: (outs.map fun (o : Nat × List Nat) => (64 + o.1, (a, o.2))) ++ s.front.seen } }, row)

/-- Spans of marked source samples from number q on, before older ones. -/
def markSpans (q : Int) : List Bool → List (Int × Int) → List (Int × Int)
  | [], ms => ms
  | b :: bs, ms => markSpans (q + 1) bs (if b then match ms with
      | (u, v) :: r => if v + 1 = q then (u, q) :: r else (q, q) :: ms
      | [] => [(q, q)]
    else ms)

/-- Bits of the window a chain awaits: the abandoned ones first. -/
def Chain.skipNow (x : Chain) : Nat := match x.skip with
  | some (a, l) => if a = x.n then l else 0
  | none => 0

/-- The phases of the cells as a new window begins after an abandoned one (R199): the rest of their state is kept. -/
def Chain.rephase (x : Chain) : Chain := { x with skip := none, resyncIn := true, cells := x.cells.map fun (c : Cell) => { c with ph := 0 } }

/-- The flags a sample carries of its own (R172, R198, R203, R206), its decimation window being the L source samples that end it (R197): SRC, SETTLE and HOLD, FAILED and LATE. -/
def State.ownFlags (s : State) (c : Nat) (x : Chain) (late : Bool) : Nat :=
  let lo := (x.n : Int) - s.chainSpan c
  (if x.markedIn lo (x.n - 1) then sfSRC else 0) + (if lo < x.settle || x.past.any (fun (e : Nat × Nat) => decide (lo < e.1) && decide (e.1 < x.n)) then sfSETTLE else 0) +
    (if x.heldIn lo (x.n - 1) then sfHOLD else 0) + (if s.on (F.CHAIN.STATUS.FAILED c) then sfFAILED else 0) + (if late then sfLATE else 0)

/-- CHAIN.STATUSc after samples (R190 to R203, R214): `fl` are the flags of all of them, `last` those of the last, `ovf` how many carried OVF, `run` the run of late samples. -/
def State.sampleShow (s : State) (c fl last ovf run : Nat) : State :=
  let has := fun (b : Nat) => Nat.land fl b != 0
  let s := ((s.chainFlag F.CHAIN.STATUS.OVF c (has sfOVF)).chainFlag F.CHAIN.STATUS.PAR c (has sfPAR)).chainFlag F.CHAIN.STATUS.LATE c (has sfLATE)
  let s := (s.chainFlag F.CHAIN.STATUS.SRC c (has sfSRC)).setB (F.CHAIN.STATUS.SETTLE c) (Nat.land last sfSETTLE != 0)
  ((s.sat (F.CHAIN.STATUS.OVFCNT c) ovf).set (F.CHAIN.STATUS.LATECNT c) run).frozenShow c

/-- What no later sample's decimation window holds is forgotten. -/
def Chain.trim (x : Chain) (span : Nat) : Chain :=
  let lo := (x.n : Int) - span
  { x with holds := x.holds.filter (fun (h : Int × Option Int) => match h.2 with
             | some e => decide (lo ≤ e)
             | none => true),
           marks := x.marks.filter (fun (m : Int × Int) => decide (lo ≤ m.2)), past := x.past.filter fun (e : Nat × Nat) => decide (lo < e.1) }

/-- The window of a chain is complete: `x0` is the chain before it, `x` after its bits with output `y` and flags `fl`, `w` the source number that began it. -/
def State.sampleEnd (s : State) (c w : Nat) (x0 x : Chain) (y : Int) (fl : Nat) (late : Bool) (bad : List (Nat × Nat)) : State :=
  let fl := flOr fl (s.ownFlags c x late)
  let hold := Nat.land fl sfHOLD != 0
  let v := if hold then x.good else y
  let e1 := x.e0 + x.n
  let cyc := s.edgeCycle (x.e0 + w)
  let swap := match x.swapIn with
    | some b => decide (b ≤ w)
    | none => false
  let all := fl + (if swap then 256 else 0) + (if x.resyncIn then 512 else 0)
  let bank := (s.bankAt (s.chainBlock c) x w).1
  let s := s.setChain c ((({ x with k := x.k + 1, good := v, swapIn := if swap then none else x.swapIn, resyncIn := false, rec_ := some cyc } : Chain).noted).trim (s.chainSpan c))
  let run := if late then min 3 (s.get (F.CHAIN.STATUS.LATECNT c) + 1) else 0
  let s := s.sampleShow c fl fl (if Nat.land fl sfOVF != 0 then 1 else 0) run
  let s := s.chainRecord c cyc x0.rec_ (decide (cyc < s.edgeSched e1) && decide (s.edgeSched (x.e0 + w) < s.edgeSched e1)) v all x.k
  let s := s.rampShow
  let s := s.parList c bank (twice x.cells) (bad.map (·.2))
  if run = 3 then s.blockFault (s.chainBlock c) 2 c else s

/-- The bytes of block memory that hold the delay lines of a chain's FIR cells (R194), as addresses among the words left uncorrectable. -/
def State.chainLines (s : State) (c : Nat) : List (Nat × Nat) :=
  ((List.range (s.chainCells c)).filter fun j => s.cellF c j 2 1 == 1).map fun j => (blockMem (s.chainBlock c) + s.lineOffset c j, 4 * s.cellF c j 8 2)

/-- The first uncorrectable word of block memory that a chain's cells read (R24, R33). -/
def State.lineBad (s : State) (c : Nat) : Option Nat := ((s.chainLines c).find? fun (e : Nat × Nat) => s.badIn e.1 e.2).map fun (e : Nat × Nat) => s.firstBad e.1 e.2

/-- An uncorrectable word of block memory meets a computation: it is reported and the block's fault passes to the region (R28, R381, R395). -/
def State.lineFault (s : State) (c a : Nat) : State :=
  let b := s.chainBlock c
  (s.eccUncorr 5 (2 ^ 24 * b + (a - blockMem b)) (b / 4)).blockFault b 1 c

/-- The sample of chain c over its bits, the front's place already at the last bit's edge: the bits the source gives, fed to the cells of each line's bank, and the sample's end. -/
def State.sampleFeed (s : State) (c : Nat) (x0 : Chain) (bits : List Bool) (marks bad : List (Nat × Nat)) (late : Nat) : State :=
  let l := x0.skipNow
  let r := s.frontBits (s.chainSrc c) (x0.e0 + x0.n) bits marks
  let s := r.1
  let x0 := { x0 with marks := markSpans x0.n (r.2.map (·.2)) x0.marks }
  let e : Int := x0.n + bits.length
  let span := s.chainSpan c
  let failed := s.on (F.CHAIN.STATUS.FAILED c)
  let q := fun (n : Nat) => ({ k := (s.bankAt (s.chainBlock c) x0 n).2, frozen := failed || x0.heldIn (e - 1) (e - 1), src := x0.markedIn (e - span) (e - 1) } : FeedCtx)
  let ramping := !x0.ramps.isEmpty
  let x0 := { x0 with ramps := rampStep (x0.heldIn (e - span) (e - 1)) x0.ramps }
  let a1 := s.feedBits c (q x0.n) bad 0 ((r.2.map (·.1)).take l) x0 none
  let x1 := if l = 0 then a1.1 else a1.1.rephase
  let b := s.feedBits c (q x1.n) bad l ((r.2.map (·.1)).drop l) x1 none
  let s := (s.advanceTo (s.time.t + late * 65536)).settle
  let s := if ramping then s.markReach (s.chainSrc c) else s
  (match b.2 with
  | some (y, fl) => s.sampleEnd c x1.n x0 b.1 y fl (decide (s.chainF c 0x10 4 < late)) bad
  | none => s.setChain c b.1).frontTrim

/-- The sample at its last bit's edge: a line memory that does not read true stops it (R28), else it is made. -/
def State.sampleAt (s : State) (c : Nat) (x0 : Chain) (bits : List Bool) (marks bad : List (Nat × Nat)) (late : Nat) : State :=
  match s.lineBad c with
  | some w => s.settle.lineFault c w
  | none => s.sampleFeed c x0 bits marks bad late

/-- A window's bits through the chain (R197): the sample is made at its nominal instant plus `late` ns. -/
def State.sampleRun (s : State) (c : Nat) (x0 : Chain) (bits : List Bool) (marks bad : List (Nat × Nat)) (late : Nat) : State :=
  (s.advanceTo (edgeT (x0.e0 + x0.n + bits.length - 1))).sampleAt c x0 bits marks bad late

/-- An ECHO-clear chain makes a sample (R197 to R206): `bits` are the source bits of its window, behind those of a window abandoned before it; `marks` gives positions of bits marked by the front end, each with its
causes (1 overload, 2 and 4 the channel's first and second source out of compliance); `bad` the coefficient words that fail parity in the computations made at a position; `late` how many ns after the nominal instant the sample is
written. -/
def execChainSampleWrite (c : Nat) (bits : List Bool) (marks bad : List (Nat × Nat)) (late : Nat) (s : State) : Host.Outcome State Fault Refusal :=
  guardUnit (Instr.wf (.chainSampleWrite c bits marks bad late)) (match alFind s.fabric.chains c with
    | some x => if !s.chainEcho c && bits.length == x.skipNow + s.chainDecim c then s.sampleRun c x bits marks bad late else s
    | none => s)

/-! Coefficient banks. -/

/-- ROM routine coef_load (R208, R211): `cut` says an HSC restart cuts the load off after its first write. -/
def execCoefLoad (block bank : Nat) (cut : Bool) (s : State) : Host.Outcome State Fault Refusal :=
  guardUnit (Instr.wf (.coefLoad block bank cut)) (if (s.sect 3 block).isSome then s.coefLoad block bank cut else s)

/-- ROM routine coef_swap (R209 to R211). -/
def execCoefSwap (target trig : Nat) (s : State) : Host.Outcome State Fault Refusal := .next (s.swapRequest target trig)

/-- A pending swap that is due takes effect at the first window boundary common to its target's chains (R209). -/
def execSwapTakeEffect (target : Nat) (s : State) : Host.Outcome State Fault Refusal :=
  .next (match (alFind s.fabric.swaps target).bind (s.swapAt target) with
    | some t => (s.advanceTo t).settle
    | none => s)

/-! ECHO chains (R207). -/

/-- Converter codes through an ECHO chain, each output saturated to 14 bits (R207), with the flags of each sample. -/
def State.feedCodes (s : State) (c : Nat) (bad : List (Nat × Nat)) (lates : List Nat) : Nat → List Int → Chain → Chain × List (Int × Nat)
  | _, [], x => (x, [])
  | i, v :: vs, x =>
    let q : FeedCtx := { k := (s.bankAt (s.chainBlock c) x i).2, frozen := s.on (F.CHAIN.STATUS.FAILED c), src := false }
    let r := s.feed1 c q x (badAt bad i) v
    let own := s.ownFlags c r.1 (lates.contains i)
    let y := match r.2 with
      | some (o, f) => (clampI (-8192) 8191 o, flOr own (flOr f (if clampI (-8192) 8191 o = o then 0 else sfOVF)))
      | none => (0, own)
    let t := s.feedCodes c bad lates (i + 1) vs r.1
    (t.1, y :: t.2)

/-- The longest and the last run of late samples, each up to 3 (R201). -/
def lateRuns : List Nat → Nat × Nat → Nat × Nat
  | [], r => r
  | f :: fs, (m, n) => let k := if Nat.land f sfLATE != 0 then min 3 (n + 1) else 0; lateRuns fs (max m k, k)

/-- A capture's codes as its lane's ECHO chain stores them (R196, R201, R207): the chain has started at the window's opening and ends its run here. `lates` numbers the samples written late. Without a running chain, or with an
uncorrectable word in its delay lines, the converter codes are stored (log entry 178). -/
def State.echoFilter (s : State) (lane : Nat) (codes : List Int) (bad : List (Nat × Nat)) (lates : List Nat) : State × List Int :=
  match (s.echoChain lane).bind fun c => (alFind s.fabric.chains c).map fun x => (c, x) with
  | none => (s, codes)
  | some (c, x) => match s.lineBad c with
    | some w => (s.lineFault c w, codes)
    | none =>
      let r := s.feedCodes c bad lates 0 codes x
      let fl := r.2.map (·.2)
      let late := lateRuns fl (0, 0)
      let m1 := match r.1.cells.getLast? with
        | some cell => cell.m
        | none => 0
      let s := { s with fabric := { s.fabric with dc := alSet s.fabric.dc c m1, chains := alSet s.fabric.chains c r.1 } }
      let s := s.sampleShow c (fl.foldl flOr 0) (fl.getLast?.getD 0) (fl.filter fun f => Nat.land f sfOVF != 0).length late.2
      let s := s.parList c (s.bankActive (s.chainBlock c)) (twice r.1.cells) (bad.map (·.2))
      let s := { s with fabric := { s.fabric with chains := alDel s.fabric.chains c } }
      let s := (s.set (F.CHAIN.STATUS.RUN c) 0).frozenShow c
      (if late.1 = 3 then s.blockFault (s.chainBlock c) 2 c else s, r.2.map (·.1))

end Sys2Proof.Machine
end

