-- ==== Sys2Proof/Machine/Acoustic.lean ====
section
/-! DEFINITION. Firings, the crosspoint, captures and their notices (R128 to R142). -/

namespace Sys2Proof.Machine

/-- Whether a reservation of a channel by a shot other than k covers an instant: a reservation lasts to the end of its last tick (R137, R138). -/
def State.chBusy (s : State) (k ch t : Nat) : Bool := match alFind s.acq.chTo ch with
  | some (u, o) => o != k && decide (t ≤ u)
  | none => false

/-- Reserve a channel for shot k to an instant. -/
def State.chReserve (s : State) (k ch t : Nat) : State :=
  let was := match alFind s.acq.chTo ch with
    | some (u, o) => if o = k then u else 0
    | none => 0
  { s with acq := { s.acq with chTo := alSet s.acq.chTo ch (max t was, k) } }

/-- The reason code of R137 for a firing of shot k at its transmit instant, 0 for none. -/
def State.fireCheck (s : State) (k t : Nat) : Nat :=
  let l := s.shotLane k
  if !s.on F.CLK.STATUS.ACQ_LOCK || !s.on (F.ACQ.LANE_STAT.PWR l) || decide (t < s.readyAt (16 + l)) then 1
  else if (s.lane l).fired || decide (t ≤ (s.lane l).upTo) then 2
  else if s.chBusy k (s.shotF k 1 1) t || s.chBusy k (s.shotF k 2 1) t then 3
  else if s.on (heldF l (s.get (F.ACQ.LANE_STAT.NEXTBUF l))) then 4
  else 0

/-- The ACQ.STATUS flag of a reason. -/
def reasonFlag (r : Nat) : Fld :=
  if r = 1 then F.ACQ.STATUS.NOT_READY else if r = 2 then F.ACQ.STATUS.LANE_BUSY else if r = 3 then F.ACQ.STATUS.XP_BUSY else F.ACQ.STATUS.BUF_BUSY

/-- The gain a shot is fired at (R131). -/
def State.fireGain (s : State) (k : Nat) : Nat := if s.shotPolicy k = 0 then s.shotF k 0x16 1 else s.get (F.ACQ.GAIN.GAIN k)

/-- A firing is skipped (R137): its flag, the count, and a notice with SKIP set. -/
def State.fireSkip (s : State) (q : ShotSeq) (k r : Nat) : State :=
  let s := (s.set (reasonFlag r) 1).sat F.ACQ.COUNT.SKIPPED 1
  s.deliver (s.shotEngine k) { shot := k, lane := s.shotLane k, flags := 16 + 32 * r + (if s.shotMute k then 8 else 0), nsamp := 0, gain := s.fireGain k, rep := q.rep, peak := 0, satcnt := 0,
                               cycle := q.cycle, tx := q.due, reps := q.reps, lost := false }

/-- The end of a shot's burst (R126). -/
def State.burstEnd (s : State) (k tx : Nat) : Nat := tx + 2 * s.shotF k 8 2 * s.shotF k 0x0A 1 * tickT

/-- When the crosspoint connects for a shot fired at `tx` (R128): 2 µs before the window opens, or at the first edge where DELAY is less than 320 ticks, and, where it receives on the channel it transmits on, not before 0.5 µs
after the burst. -/
def State.connectAt (s : State) (k tx : Nat) : Nat :=
  let t := if s.shotDelay k < 320 then tx else tx + (s.shotDelay k - 320) * tickT
  if s.shotF k 1 1 = s.shotF k 2 1 then max t (s.burstEnd k tx + 80 * tickT) else t

/-- The burst of a shot begins on its transmit channel (R126), unless MUTE is set (R137). -/
def State.burst (s : State) (k tx : Nat) : State :=
  if s.shotMute k then s
  else
    let b : Burst := { tx := tx, half := s.shotF k 8 2, cycles := s.shotF k 0x0A 1, code := if bitsOf (s.shotF k 0x0B 1) 6 6 = 1 then s.shotF k 0x0C 4 else 0 }
    { s with acq := { s.acq with bursts := alSet s.acq.bursts (s.shotF k 1 1) b } }

/-- Whether a burst is high at an instant (R126): a cycle is high and then low for HALF ticks each, an inverted one low and then high; before and after, the output is low. -/
def Burst.high (b : Burst) (t : Nat) : Bool :=
  let h := (t - b.tx) / (b.half * tickT)
  decide (b.tx ≤ t) && decide (h < 2 * b.cycles) && (bitsOf b.code (h / 2) (h / 2) == h % 2)

/-- The level of TXGn (R125, R126): true is high. -/
def State.txg (s : State) (n : Nat) : Bool := match alFind s.acq.bursts n with
  | some b => b.high s.time.t
  | none => false

/-- A firing that passes every check (R137): the lane, its buffer and the channels are reserved, and the burst begins. -/
def State.fireShot (s : State) (q : ShotSeq) (k : Nat) : State :=
  let l := s.shotLane k
  let opens := q.due + s.shotDelay k * tickT
  let close := opens + s.shotNsamp k * 2 ^ s.shotRate k * tickT
  let b := s.get (F.ACQ.LANE_STAT.NEXTBUF l)
  let s := s.setLane l { fired := true, shot := k, rep := q.rep, reps := q.reps, cycle := q.cycle, tx := q.due, buf := b, gain := s.fireGain k, conn := s.connectAt k q.due, opens := opens, close := close, upTo := close }
  let s := (s.set (heldF l b) 1).chReserve k (s.shotF k 2 1) close
  (s.chReserve k (s.shotF k 1 1) (s.burstEnd k q.due)).burst k q.due

/-- Whether sequence `seq` holds the firing that is due next: the earliest transmit instant, and on one tick the lowest shot index (R138). -/
def State.fireNext (s : State) (q : ShotSeq) : Bool :=
  s.acq.seqs.all fun (o : ShotSeq) => o.wait.isSome || decide (q.due < o.due) || (o.due == q.due && decide (s.seqShot q ≤ s.seqShot o))

/-- The next firing of a running sequence, at its transmit tick (R136, R137). A sequence whose last firing is skipped ends there; otherwise it runs until that window closes (R135). -/
def execFiring (seq : Nat) (s : State) : Host.Outcome State Fault Refusal :=
  guardUnit (Instr.wf (.firing seq)) (match s.acq.seqs[seq]? with
    | none => s
    | some q => if q.wait.isSome || !s.fireNext q then s else
        let s := (s.advanceTo q.due).settle
        let k := s.seqShot q
        let r := s.fireCheck k q.due
        let nx := s.seqAfter q
        let s := if r = 0 then (s.fireShot q k).settle else s.fireSkip q k r
        s.seqPut seq (match nx with
          | some x => some x
          | none => if r = 0 then some { q with wait := some (s.shotLane k) } else none))

/-- The crosspoint connects the receive channel of a fired shot to its lane at the instant that R128 gives; a window that has closed by then is never connected. -/
def execCrosspointConnect (lane : Nat) (s : State) : Host.Outcome State Fault Refusal :=
  guardUnit (Instr.wf (.crosspointConnect lane))
    (let l := s.lane lane
     if l.fired && decide (l.conn < l.close) then (s.advanceTo l.conn).settle else s)

/-- The codes a window captures: the sample taken at the window's opening plus k sample periods is the converter's code k, and 0 while the connection is open (R128, R129). -/
def captureCodes (l : Lane) (n per : Nat) (samples : List (BitVec 14)) : List Int :=
  (List.range n).map fun k => if l.opens + k * per < l.conn then 0 else match samples[k]? with
    | some w => sext 14 w.toNat
    | none => 0

/-- The next step of a lane's gain or skew ramp (R372). -/
def State.laneRampStep (s : State) (kind lane : Nat) : State := match alFind s.cal.laneRamps (256 * kind + lane) with
  | some r =>
    let r1 : Ramp := { r with done := r.done + 1 }
    let v := r1.now
    let s := if kind = 3 then s.setI (F.CAL.SKEW.S lane) (heldAt (v.1 * 65536) v.2) else s
    let m := match r.step with
      | some q => alSet s.cal.laneRamps (256 * kind + lane) q
      | none => alDel s.cal.laneRamps (256 * kind + lane)
    ({ s with cal := { s.cal with laneRamps := m } }).markReach (64 + lane)
  | none => s

/-- Sequences that wait for a lane's window end when it closes. -/
def State.seqsClose (s : State) (lane : Nat) : State := ({ s with acq := { s.acq with seqs := s.acq.seqs.filter fun (q : ShotSeq) => q.wait != some lane } }).seqShow

/-- A capture window closes (R128 to R132, R139): `samples` are the converter codes of the window; `bad` and
`lates` are for the lane's ECHO chain (R193, R201): words that fail parity at a sample, and the samples written late. -/
def execCaptureWindowClose (lane : Nat) (samples : List (BitVec 14)) (bad : List (Nat × Nat)) (lates : List Nat) (s : State) : Host.Outcome State Fault Refusal :=
  guardUnit (Instr.wf (.captureWindowClose lane samples bad lates))
    (let l := s.lane lane
     if !l.fired then s else
      let s := (s.advanceTo l.close).settle
      let k := l.shot
      let codes := captureCodes l (s.shotNsamp k) (2 ^ s.shotRate k * tickT) samples
      let peak := codes.foldl (fun (m : Nat) c => max m c.natAbs) 0
      let satcnt := min 65535 (codes.filter fun c => c == 8191 || c == -8192).length
      let low := decide (peak < 128) && l.gain == 120
      let r := s.echoFilter lane codes bad lates
      let s := r.1.stBytes (echoBase + 0x80000 * l.buf + 0x8000 * lane) (r.2.flatMap fun c => leBytes 2 (utwo 16 (4 * c)))
      let s := s.heal (echoBase + 0x80000 * l.buf + 0x8000 * lane) (2 * r.2.length / 8 * 8)
      let s := ((s.set (F.ACQ.LANE_STAT.CONN lane) 0).set (F.ACQ.LANE_STAT.CAPT lane) 0).set (F.ACQ.LANE_STAT.NEXTBUF lane) (1 - l.buf)
      let s := (s.set (F.ACQ.LANE_STAT.GAIN lane) l.gain).set (F.ACQ.LANE_STAT.RATE lane) (s.shotRate k)
      let s := s.set (F.ACQ.GAIN.GAIN k) (gainAfter (s.shotPolicy k) l.gain (s.shotF k 0x17 1) peak satcnt)
      let s := if satcnt = 0 then s else (s.set F.ACQ.STATUS.SAT 1).sat F.ACQ.COUNT.SATSHOT 1
      let s := if low then s.set F.ACQ.STATUS.LOWSIG 1 else s
      let s := ((s.laneRampStep 3 lane).laneRampStep 4 lane).rampShow
      let s := (s.setLane lane { l with fired := false }).seqsClose lane
      s.deliver (s.shotEngine k) { shot := k, lane := lane, flags := l.buf + (if satcnt = 0 then 0 else 2) + (if low then 4 else 0) + (if s.shotMute k then 8 else 0),
                                   nsamp := s.shotNsamp k, gain := l.gain, rep := l.rep, peak := peak, satcnt := satcnt, cycle := l.cycle, tx := l.tx, reps := l.reps, lost := false })

/-- The counters of ACQ.COUNT clear. -/
def State.acqClear (s : State) (value : Word) : State := if bitsOf value.toNat 0 0 = 1 then s.setW F.ACQ.COUNT.ALL.addr 0 else s

/-- A write of ACQ.CLR (R142). -/
def execAcqClr (value : Word) (s : State) : Host.Outcome State Fault Refusal := .next (s.acqClear value)

end Sys2Proof.Machine
end

