-- ==== Sys2Proof/Machine/Audit.lean ====
section
/-! DEFINITION. Programming of queued audit events and of the audit control record (R121, R407, R554). -/

namespace Sys2Proof.Machine

/-- Program an event whose programming fails `fails` times (R407): each failed slot is left and named by a TORN entry, where the trail has room for one; the fourth failure abandons the event. A trail without room for
the event any more logs neither (R123): no held entry is ever rewritten (R118). -/
def State.auditTry (s : State) (ev : AuditEvent) : Nat → Nat → State
  | _, 0 => if s.auditCount + evSize ev.data ≤ 16383 then s.auditProgram ev else s.auditLost
  | 0, _ + 1 => s.auditLost.enterSafe 3
  | k + 1, f + 1 =>
    if s.auditCount + 1 ≤ 16383 then
      let q := s.audit.nextSeq
      let s := (s.auditEntry ev.kind ev (ev.data.take 24) true).progFail (auditAddr q)
      let s := s.auditNow 0x82 0xFF (leBytes 4 q)
      if k = 0 then s.auditLost.enterSafe 3 else s.auditTry ev k f
    else s.auditLost

/-- The first queued event is programmed with its CONT entries (R121); during a start, events wait behind the START entry (R556). `fails` counts the PROG_FAILs it meets. -/
def execAuditEntryProgram (fails : Nat) (s : State) : Host.Outcome State Fault Refusal :=
  .next (match s.audit.queue with
    | e :: es => if s.audit.startOpen || s.pins.heldH then s else ((({ s with audit := { s.audit with queue := es } }).auditTry e 4 fails)).auditRelevel
    | [] => s)

/-- A pending copy of the audit control record is appended (R554). A copy abandoned after four PROG_FAILs leaves the previous one valid (R407). -/
def execAuditControlRecordCopy (fails : Nat) (s : State) : Host.Outcome State Fault Refusal :=
  .next (if s.audit.ctlPending && !s.pins.heldH then
    if 4 ≤ fails then
      let s := { s with audit := { s.audit with ctlPending := false } }
      (s.ctlWrites 4 (.audit ((s.audit.held.head?.map (·.seq)).getD s.audit.nextSeq) (s.get F.SEAL.STATUS.LEVEL) (s.get F.SEAL.UNLOGGED.COUNT)) 4).1.enterSafe 3
    else s.auditCtlCopy fails
    else s)

end Sys2Proof.Machine
end

