-- ==== Sys2Proof/Machine/BusOps.lean ====
section
/-! DEFINITION. Accesses of bus masters: which fail and why (R17, R34, R35, R145, R208, R357, R401, R421 to R426, R432, R488), and stores and loads of plain memory. -/

namespace Sys2Proof.Machine

/-- Peripheral and gateway addresses of a domain (R34, R35). -/
def isPeriph (a : Nat) : Bool := decide (0x40000000 ≤ a) && decide (a < 0x80000000)

/-- The external memory window of CSP5 (R35). -/
def isWindow (dom a : Nat) : Bool := dom == 1 && decide (0x30000000 ≤ a) && decide (a < 0x40000000)

/-- The end of the part of the window that is served: none while XIP_CFG.EN is 0 (R488). -/
def State.windowEnd (s : State) : Nat := if s.on F.CSP.XIP_CFG.EN then 0x30000000 + 2 ^ (s.get F.CSP.XIP_CFG.SIZE + 16) else 0x30000000

/-- Whether an address of a domain is mapped; a write to the window is refused as GATE and not as UNMAPPED (R488). -/
def State.mapped (s : State) (dom a : Nat) (write : Bool) : Bool :=
  if isPeriph a then isReg (tag dom (a / 4 * 4)) else if isWindow dom a then write || decide (a < s.windowEnd) else memMapped (tag dom a)

/-- Accesses that are refused as GATE (R432). -/
def gated (dom a : Nat) (write : Bool) : Bool :=
  if dom = 0 then
    (decide (0x08000000 ≤ a) && decide (a < 0x0A000000)) || (decide (0x40030000 ≤ a) && decide (a < 0x40040000)) ||
    (write && (decide (a < 0x00180000) || (decide (0x12100000 ≤ a) && decide (a < 0x12194000)) || (decide (0x1400E000 ≤ a) && decide (a < 0x14010000)) ||
      a / 4 == 0x400C0000 / 4 || a / 4 == 0x400C0008 / 4 || a / 4 == 0x400C000C / 4))
  else
    (decide (0x10000000 ≤ a) && decide (a < 0x10800000)) || (decide (0x40002000 ≤ a) && decide (a < 0x40003000)) ||
    (write && (decide (a < 0x00020000) || (decide (0x30000000 ≤ a) && decide (a < 0x40000000))))

/-- Whether a Heartwood master reaches an address of a memory (R33): HSC SRAM serves HSC, with the debug module that works for it, and in the outbound ring the gateway's Heartwood side (R114; DEDUCED, log entry 176). The
scrubber's reads are no accesses of this map. -/
def reaches (dom master a : Nat) : Bool :=
  if dom = 0 ∧ 0x13000000 ≤ a ∧ a < 0x13080000 then (if 0x13070000 ≤ a then master == 0 || master == 8 else master == 0 || master == 9) else true

/-- Why an access fails: 0 it does not, else KIND of R432. Where several failures apply the first of the table is taken, a refused debug access before all. -/
def State.accessKind (s : State) (dom master : Nat) (write : Bool) (addr size : Nat) : Nat :=
  if dom = 0 ∧ master = 9 ∧ s.on F.SEAL.STATUS.DEBUG_EN = false then 6
  else if s.mapped dom addr write = false ∨ reaches dom master addr = false ∨ 2 ^ 32 < addr + size then 1
  else if ¬ (size = 1 ∨ size = 2 ∨ size = 4 ∨ size = 8 ∨ size = 16) ∨ addr % size ≠ 0 ∨ (isPeriph addr = true ∧ size ≠ 4) then 2
  else if gated dom addr write then 3
  else if isPeriph addr = false ∧ (write = false ∨ size < 8) ∧ s.badIn (tag dom addr) size = true then 4
  else 0

/-- Why an access of AOC fails, by its own map (R423, R432): the retention SRAM at 0x6000_0000 and the always-on peripherals up to 0x6001_6FFF. -/
def State.aocKind (s : State) (addr size : Nat) (write : Bool) : Nat :=
  if addr < 0x60000000 ∨ 0x60017000 < addr + size then 1
  else if ¬ (size = 1 ∨ size = 2 ∨ size = 4 ∨ size = 8 ∨ size = 16) ∨ addr % size ≠ 0 ∨ (0x60010000 ≤ addr ∧ size ≠ 4) then 2
  else if addr < 0x60010000 ∧ (write = false ∨ size < 8) ∧ s.badIn (addr - 0x60000000 + 0x14000000) size = true then 4
  else 0

/-- Whether masters of a domain run: Heartwood (0) out of reset with PLL_SYS, Sapwood (1) supplied, out of reset and not gated with PLL_SYS, which runs on for it through a class H reset (R59), and AOC (2) while the
always-on domain is out of reset. -/
def State.domRuns (s : State) (dom : Nat) : Bool :=
  if dom = 0 then !s.pins.heldH && s.on F.CLK.STATUS.SYS_LOCK
  else if dom = 1 then !s.pins.heldS && s.pins.vddSw && !s.season.gated && s.time.sys
  else !s.pins.heldAo

/-- A store of a Sapwood master clears the reservations of the other core, or of both for a DMA store, on the 16-byte granule (R530). -/
def clearResv (master g : Nat) : List (Nat × Core) → List (Nat × Core)
  | [] => []
  | (c, x) :: cs => (c, if x.resv = some g ∧ c ≠ master then { x with resv := none } else x) :: clearResv master g cs

/-- Store bytes of one access at a plain memory address. -/
def State.busMem (s : State) (dom master addr : Nat) (bs : List Byte) : State :=
  let s := s.stBytes (tag dom addr) bs
  let s := if 8 ≤ bs.length then s.heal (tag dom addr) bs.length else s
  if dom = 0 then s.snapDrop master addr else { s with cores := clearResv master (addr / 16) s.cores }

/-- One store to memory: false says that it ended in a bus error (R426, R432). -/
def State.busStore (s : State) (dom master addr : Nat) (bs : List Byte) : State × Bool :=
  let k := s.accessKind dom master true addr bs.length
  if k = 0 then (s.busMem dom master addr bs, true)
  else
    let s := if k = 4 ∧ dom = 0 then s.eccSeen addr else s
    (s.busError dom k master true addr, false)

/-- Store 32-bit words from an address up, until one fails. -/
def State.busWords (s : State) (dom master addr : Nat) : List Word → State × Bool
  | [] => (s, true)
  | w :: ws =>
    let r := s.busStore dom master addr (leBytes 4 w.toNat)
    if r.2 then r.1.busWords dom master (addr + 4) ws else r

/-- The streams of a region's tasks, in increasing number (R239). -/
def State.ckptStreams (s : State) (r : Nat) : List Nat := (List.range 32).filter fun st => (s.tasksOf r).any fun k => s.taskStream k == st

/-- A byte of region r's SRAM at an offset as a master reads it: the commit mark, the commit log and the average accumulators stand in the CKPT area in the layout of the part (R239). -/
def State.regionView (s : State) (r off : Nat) : Byte :=
  let o := off - s.rawbuf r
  let x := s.pair r
  let b := 0x2C40 + 576 * (s.tasksOf r).length
  let i := (o - b) / 32
  if (s.sect 2 r).isNone || decide (off < s.rawbuf r) then s.ldB (rgnBase r + off)
  else if 0x800 ≤ o ∧ o < 0x840 then Config.markByte x.log.isSome (o - 0x800)
  else if 0x1440 ≤ o ∧ o < 0x2C40 then Config.logByte x.words (o - 0x1440)
  else if b ≤ o ∧ i < 64 * (s.ckptStreams r).length then Config.avgByte (alGet Avg.empty x.avgs (avgKey (listGet 0 (s.ckptStreams r) (i / 64)) (i / 32 % 2) (i % 32))).figures ((o - b) % 32)
  else s.ldB (rgnBase r + off)

/-- A byte as a master reads it: the areas whose layout is the part's own show what the engines hold (R145, R239); all else is memory. -/
def State.viewB (s : State) (a : Nat) : Byte :=
  let o := a - 0x12180000
  let k := (a - 0x12188000) / 32
  if 0x12180000 ≤ a ∧ a < 0x12188000 then
    (if o % 1024 / 64 < s.npath (o / 1024) then Config.pathDescByte (s.pathDesc (o / 1024) (o % 1024 / 64)) (o % 64) else s.ldB a)
  else if 0x12188000 ≤ a ∧ a < 0x12190000 then
    (if k < s.nshot then (let t := s.trackOf k; Config.trackByte t.locked t.kc t.tof t.fails (a % 32)) else s.ldB a)
  else if 0x10000000 ≤ a ∧ a < 0x11000000 then s.regionView ((a - 0x10000000) / 0x200000) (a % 0x200000)
  else s.ldB a

/-- Bytes as a master reads them. -/
def State.viewBytes (s : State) (a : Nat) : Nat → List Byte
  | 0 => []
  | n + 1 => s.viewB a :: s.viewBytes (a + 1) n

/-- Read `n` bytes of plain memory as 32-bit words: none where an access fails. What the external memory holds comes from outside (free, log entry 2). -/
def State.busLoad (s : State) (dom master addr n : Nat) : State × Option (List Byte) :=
  match (List.range (n / 4)).find? fun i => s.accessKind dom master false (addr + 4 * i) 4 != 0 || isPeriph (addr + 4 * i) with
  | some i => (s.busError dom (max 1 (s.accessKind dom master false (addr + 4 * i) 4)) master false (addr + 4 * i), none)
  | none =>
    if isWindow dom addr then
      ({ s with freeCtr := s.freeCtr + n }, some ((List.range n).map fun i => BitVec.ofNat 8 (Config.freeWord (s.freeCtr + i)).toNat))
    else (s, some (s.viewBytes (tag dom addr) n))


end Sys2Proof.Machine
end

