-- ==== Sys2Proof/Machine/TwoWire.lean ====
section
/-! DEFINITION. Two-wire ports and the management port TWM (R459 to R473). What other devices drive onto a bus is an operand. -/

namespace Sys2Proof.Machine

/-- Port n. -/
def State.twp (s : State) (n : Nat) : TwPort := alGet { tx := [], rx := [], run := false, retry := false, due := [], res := 0, sent := [], low := 0, high := 0 } s.tw n

/-- Replace port n. -/
def State.setTwp (s : State) (n : Nat) (x : TwPort) : State := { s with tw := alSet s.tw n x }

/-- The domain of port n. -/
def twDom (n : Nat) : Nat := if n < 4 then 0 else 1

/-- Sample port n's interrupt source (R446, R447). -/
def State.twIrq (s : State) (n : Nat) : State := if n < 4 then s.icSample 0 (240 + n) else s.icSample 1 (11 + n)

/-- A STATUS bit of port n is set. -/
def State.twFlag (s : State) (n : Nat) (f : Fld) : State := (s.set f 1).twIrq n

/-- PLL_AUX is started for a unit that needs it (R360, R361). -/
def State.auxOn (s : State) : State := s.set F.CLK.STATUS.AUX_LOCK 1

/-- CRC-8 of SMBus with x^8 + x^2 + x + 1 over one byte's bits, `n` of them to come (R459). -/
def crc8Bits : Nat → Nat → Nat
  | 0, c => c
  | n + 1, c => crc8Bits n (if 128 ≤ c then Nat.xor (2 * c % 256) 7 else 2 * c)

/-- CRC-8 of bytes. -/
def crc8 (bs : List Byte) : Nat := bs.foldl (fun (c : Nat) b => crc8Bits 8 (Nat.xor c b.toNat)) 0

/-! The transfer in TW.CMD (R461, R462). -/

/-- Bytes to write. -/
def State.twNw (s : State) (n : Nat) : Nat := s.get (F.TW.CMD.NW n)
/-- Whether the transfer reads. -/
def State.twReads (s : State) (n : Nat) : Bool := s.get (F.TW.CMD.NR n) != 0 || s.on (F.TW.CMD.BLOCK n)
/-- BYTE of the first read byte. -/
def State.twFirstRead (s : State) (n : Nat) : Nat := if s.twNw n = 0 then 1 else s.twNw n + 2
/-- BYTE of the last byte that the port sends. -/
def State.twLastSent (s : State) (n : Nat) : Nat := if s.twReads n then (if s.twNw n = 0 then 0 else s.twNw n + 1) else s.twNw n + s.get (F.TW.CMD.PEC n)

/-- The bytes that the transfer reads, out of what the target sends: a released line reads as ones. -/
def State.twRead (s : State) (n : Nat) (data : List Byte) : List Byte :=
  if !s.twReads n then []
  else
    let len := (if s.on (F.TW.CMD.BLOCK n) then 1 + (data.headD 0xFF).toNat else s.get (F.TW.CMD.NR n)) + s.get (F.TW.CMD.PEC n)
    (data ++ List.replicate len 0xFF).take len

/-- The bytes written: those the buffer lacks are not stated (free, log entry 2). -/
def State.twWritten (s : State) (n : Nat) : List Byte :=
  ((s.twp n).tx ++ (List.range (s.twNw n)).map fun i => BitVec.ofNat 8 (Config.freeWord (s.freeCtr + i)).toNat).take (s.twNw n)

/-- The PEC of a read transfer: over every byte with the address bytes. -/
def State.twPec (s : State) (n : Nat) (read : List Byte) : Nat :=
  let a := BitVec.ofNat 8 (2 * s.get (F.TW.CMD.ADDR n))
  crc8 ((if s.twNw n = 0 then [] else a :: s.twWritten n) ++ [a + 1] ++ read)

/-- The bytes that the port sends in a whole transfer: the address bytes, the written bytes and a written PEC (R461). -/
def State.twSends (s : State) (n : Nat) : List Byte :=
  let a := BitVec.ofNat 8 (2 * s.get (F.TW.CMD.ADDR n))
  let w := s.twWritten n
  let sent := if s.twNw n = 0 then [a + 1] else a :: w
  sent ++ if s.twReads n then (if s.twNw n = 0 then [] else [a + 1]) else if s.on (F.TW.CMD.PEC n) then [BitVec.ofNat 8 (crc8 sent)] else []

/-- The port has sent bytes of this transfer: the first `k` of them. -/
def State.twSentTo (s : State) (n k : Nat) : State := s.setTwp n { s.twp n with sent := (s.twSends n).take k }

/-- SCL low and high times in 50 ns units: what TW.TIMING asks, at least the minimum of the selected speed (R460). -/
def State.twTimes (s : State) (n : Nat) : Nat × Nat :=
  let least : Nat × Nat := match s.get (F.TW.CFG.SPEED n) with
    | 0 => (94, 80)
    | 1 => (26, 12)
    | _ => (10, 6)
  (max least.1 (s.get (F.TW.TIMING.TLOW n)), max least.2 (s.get (F.TW.TIMING.THIGH n)))

/-- The port takes its bit timing. -/
def State.twClock (s : State) (n : Nat) : State := s.setTwp n { s.twp n with low := (s.twTimes n).1, high := (s.twTimes n).2 }

/-- Load POS (R462). -/
def State.twPos (s : State) (n byte bit kind : Nat) : State := ((s.set (F.TW.POS.BYTE n) byte).set (F.TW.POS.BIT n) bit).set (F.TW.POS.KIND n) kind

/-- The transfer ends with a RESULT (R461 step 5, R463). -/
def State.twEnd (s : State) (n res : Nat) : State :=
  let s := s.setTwp n { s.twp n with tx := [], run := false, retry := false, due := [], res := 0 }
  let s := s.set (F.TW.TXDATA.COUNT n) 0
  let s := (({ s with freeCtr := s.freeCtr + 32 }.set (F.TW.STATUS.RESULT n) res).set (F.TW.STATUS.BUSY n) 0).set (F.TW.STATUS.DONE n) 1
  let s := if res = 1 then s.set (F.TW.STATUS.NACK n) 1 else if res = 4 then s.set (F.TW.STATUS.BUS_ERR n) 1 else if res = 5 then s.set (F.TW.STATUS.PEC_ERR n) 1 else s
  s.twIrq n

/-- Received bytes enter the buffer as far as it has room; what is left waits, and the port holds SCL low (R461). -/
def State.twPut (s : State) (n : Nat) (bs : List Byte) : State :=
  let x := s.twp n
  let room := 32 - x.rx.length
  s.setTwp n { x with rx := x.rx ++ bs.take room, due := bs.drop room }

/-- Bytes received before a transfer is cut short are kept as far as the buffer has room. -/
def State.twKeep (s : State) (n : Nat) (bs : List Byte) : State := s.setTwp n { s.twp n with rx := ((s.twp n).rx ++ bs).take 32 }

/-- Port and timeouts: released and reset with both buffers empty (R463, R465). -/
def State.twReset (s : State) (n : Nat) : State := (s.setTwp n { s.twp n with rx := [] }).twEnd n 3

/-- The bank of the port's pads is powered: an unpowered bank drives nothing and receives nothing (R44). -/
def State.twBank (s : State) (n : Nat) : Bool := if n < 4 then s.pins.vddioH else s.pins.vddioS

/-- A transfer is on the bus, and not waiting to start again or for room in the receive buffer. -/
def State.twOn (s : State) (n : Nat) : Bool := (s.twp n).run && !(s.twp n).retry && (s.twp n).due.isEmpty && s.domRuns (twDom n) && s.twBank n

/-- An Alert Response Address read is due, or waits to start again, with no transfer in progress (R469). -/
def State.twAlerting (s : State) (n : Nat) : Bool := s.on (F.TW.CFG.ALERT_EN n) && !s.on (F.TW.ALERTADDR.VALID n) && !(s.twp n).run && s.domRuns (twDom n) && s.twBank n

/-- A transfer runs, or an alert read waits to start again. -/
def State.twUsed (s : State) (n : Nat) : Bool := (s.twp n).run || (s.twp n).retry

/-! Commands (R461 to R469). -/

/-- The fields of a write to TW.CMD (R9): NW up to 32. -/
def State.twCmdFields (s : State) (n v : Nat) : State :=
  let s := s.set (F.TW.CMD.ADDR n) (bitsOf v 6 0)
  let s := if bitsOf v 13 8 ≤ 32 then s.set (F.TW.CMD.NW n) (bitsOf v 13 8) else s
  ((s.set (F.TW.CMD.NR n) (bitsOf v 23 16)).set (F.TW.CMD.PEC n) (bitsOf v 24 24)).set (F.TW.CMD.BLOCK n) (bitsOf v 25 25)

/-- A write of TW.CMD (R461): while a transfer runs it is ignored, and one with GO sets CMD_LOST. -/
def State.twCmd (s : State) (n v : Nat) : State :=
  if s.on (F.TW.STATUS.BUSY n) then (if bitsOf v 31 31 = 0 then s else s.twFlag n (F.TW.STATUS.CMD_LOST n))
  else if bitsOf v 31 31 = 0 then s.twCmdFields n v
  else
    let s := (s.twCmdFields n v).twClock n
    let s := s.setTwp n { s.twp n with run := true, retry := false, due := [], res := 0, sent := [] }
    ((s.set (F.TW.STATUS.BUSY n) 1).set (F.TW.POS.ATTEMPTS n) 0).auxOn

/-- TW_GO (R461). -/
def execTwGo (n : Nat) (value : Word) (s : State) : Host.Outcome State Fault Refusal :=
  guardUnit (Instr.wf (.twGo n value)) (if s.domRuns (twDom n) then s.twCmd n value.toNat else s)

/-- The transfer runs to its STOP (R461 to R463): `nack` is the BYTE that the target does not acknowledge, `data` what the target sends in the read phase. -/
def State.twRun (s : State) (n : Nat) (nack : Option Nat) (data : List Byte) : State :=
  match nack.filter (fun k => decide (k ≤ s.twLastSent n)) with
  | some k => ((s.twSentTo n (k + 1)).twPos n k 8 1).twEnd n 1
  | none =>
    let bs := s.twRead n data
    let bad := s.twReads n && s.on (F.TW.CMD.PEC n) && s.twPec n bs.dropLast != (bs.getLastD 0).toNat
    let res := if bad then 5 else 0
    let s := (s.twSentTo n 35).twPut n bs
    if (s.twp n).due.isEmpty then s.twEnd n res else s.setTwp n { s.twp n with res := res }

/-- TW_TRANSFER_END (R461, R463). -/
def execTwTransferEnd (n : Nat) (nack : Option Nat) (data : List Byte) (s : State) : Host.Outcome State Fault Refusal :=
  guardUnit (Instr.wf (.twTransferEnd n nack data)) (if s.twOn n then s.twRun n nack data else s)

/-- Whether a loss falls before the first read byte has been received (R464). -/
def State.twMayRetry (s : State) (n byte bit : Nat) : Bool := !s.twReads n || decide (byte < s.twFirstRead n) || (byte == s.twFirstRead n && decide (bit < 8))

/-- An alert read loses arbitration (R464, R469): the loss before its one byte has been received lets it start again, up to RETRY times; the first loss of a read begins the count. -/
def State.alertLost (s : State) (n byte bit : Nat) : State :=
  let s := (if (s.twp n).retry then s else s.set (F.TW.POS.ATTEMPTS n) 0).twPos n byte bit 2
  let s := (s.sat (F.TW.POS.ATTEMPTS n) 1).twFlag n (F.TW.STATUS.ARB_LOST n)
  if (byte = 0 ∨ byte = 1 ∧ bit < 8) ∧ s.get (F.TW.POS.ATTEMPTS n) ≤ s.get (F.TW.CFG.RETRY n) then (s.setTwp n { s.twp n with retry := true }).set (F.TW.STATUS.BUSY n) 1 else s.twEnd n 2

/-- The port loses arbitration at a byte and bit (R464): `data` is what it had received in the read phase. -/
def execArbLost (n byte bit : Nat) (data : List Byte) (s : State) : Host.Outcome State Fault Refusal :=
  guardUnit (Instr.wf (.arbLost n byte bit data)) (
    if s.twOn n then
      let s := (((s.twSentTo n byte).twPos n byte bit 2).sat (F.TW.POS.ATTEMPTS n) 1).twFlag n (F.TW.STATUS.ARB_LOST n)
      if s.twMayRetry n byte bit then
        (if s.get (F.TW.POS.ATTEMPTS n) ≤ s.get (F.TW.CFG.RETRY n) then s.setTwp n { s.twp n with retry := true } else s.twEnd n 2)
      else (s.twKeep n data).twEnd n 2
    else if s.twAlerting n then s.alertLost n byte bit else s)

/-- The other transfer has ended and tBUF has passed: the whole transfer starts again (R464). -/
def execArbitrationRetry (n : Nat) (s : State) : Host.Outcome State Fault Refusal :=
  guardUnit (Instr.wf (.arbitrationRetry n)) (if (s.twp n).run && (s.twp n).retry && s.domRuns (twDom n) then s.setTwp n { s.twp n with retry := false } else s)

/-- SCL has stayed low for STRETCH_MS during a transfer or an alert read (R465, R469); the port's own hold for room in its buffer is no stretch. -/
def execStretchTimeout (n : Nat) (s : State) : Host.Outcome State Fault Refusal :=
  guardUnit (Instr.wf (.stretchTimeout n)) (if s.twOn n || s.twAlerting n then (s.set (F.TW.STATUS.TIMEOUT n) 1).twReset n else s)

/-- SCL has stayed low for SCL_LOW_MS, whoever drives it (R465). -/
def execSclLowTimeout (n : Nat) (s : State) : Host.Outcome State Fault Refusal :=
  guardUnit (Instr.wf (.sclLowTimeout n)) (
    if s.get (F.TW.CFG.SCL_LOW_MS n) = 0 ∨ s.domRuns (twDom n) = false then s
    else
      let s := s.twFlag n (F.TW.STATUS.SCL_LOW n)
      if s.twUsed n then (s.set (F.TW.STATUS.TIMEOUT n) 1).twReset n else s)

/-- SDA has stayed low for SDA_LOW_MS with SCL high (R465). -/
def execSdaLowTimeout (n : Nat) (s : State) : Host.Outcome State Fault Refusal :=
  guardUnit (Instr.wf (.sdaLowTimeout n)) (
    if s.get (F.TW.CFG.SDA_LOW_MS n) = 0 ∨ s.domRuns (twDom n) = false then s
    else
      let s := s.twFlag n (F.TW.STATUS.SDA_LOW n)
      if s.twUsed n then s.twReset n else s)

/-- A START, repeated START or STOP of another device during a transfer (R466): `byte` is the byte in progress, `data` what had been received. -/
def execTwBusErr (n byte : Nat) (data : List Byte) (s : State) : Host.Outcome State Fault Refusal :=
  guardUnit (Instr.wf (.twBusErr n byte data)) (if s.twOn n then (((s.twSentTo n byte).twKeep n data).twPos n byte 9 3).twEnd n 4 else s)

/-- A write of TW.CTRL with ABORT (R463): `data` is what had been received and is not yet in the buffer. -/
def execTwAbort (n : Nat) (data : List Byte) (s : State) : Host.Outcome State Fault Refusal :=
  guardUnit (Instr.wf (.twAbort n data)) (if s.twUsed n && s.domRuns (twDom n) then (s.twKeep n data).twEnd n 6 else s)

/-- A write of TW.CTRL with RECOVER (R467): `freed` says SDA is or becomes high. -/
def execRecover (n : Nat) (freed : Bool) (s : State) : Host.Outcome State Fault Refusal :=
  guardUnit (Instr.wf (.recover n freed)) (if s.on (F.TW.STATUS.BUSY n) || freed || !s.domRuns (twDom n) then s else s.twFlag n (F.TW.STATUS.SDA_LOW n))

/-- A write of TW.TXDATA (R461). -/
def State.twTx (s : State) (n v : Nat) : State :=
  if s.on (F.TW.STATUS.BUSY n) || decide (32 ≤ (s.twp n).tx.length) then s.twFlag n (F.TW.STATUS.TXOVF n)
  else (s.setTwp n { s.twp n with tx := (s.twp n).tx ++ [BitVec.ofNat 8 v] }).set (F.TW.TXDATA.COUNT n) ((s.twp n).tx.length + 1)

/-- TW_TXDATA (R461). -/
def execTwTxdata (n : Nat) (value : Word) (s : State) : Host.Outcome State Fault Refusal :=
  guardUnit (Instr.wf (.twTxdata n value)) (if s.domRuns (twDom n) then s.twTx n value.toNat else s)

/-- A read of TW.RXDATA (R461): the register shows what the read returns; a byte that waited takes the room, and the last of them lets the transfer end. -/
def State.twRx (s : State) (n : Nat) : State :=
  let x := s.twp n
  let s := s.set (F.TW.RXDATA.COUNT n) x.rx.length
  match x.rx with
  | [] => (s.set (F.TW.RXDATA.DATA n) 0).set (F.TW.RXDATA.VALID n) 0
  | b :: rest =>
    let s := (s.set (F.TW.RXDATA.DATA n) b.toNat).set (F.TW.RXDATA.VALID n) 1
    let s := s.setTwp n { x with rx := rest ++ x.due.take 1, due := x.due.drop 1 }
    if x.due.length = 1 ∧ x.run = true then s.twEnd n x.res else s

/-- TW_RXDATA (R461). -/
def execTwRxdata (n : Nat) (s : State) : Host.Outcome State Fault Refusal := guardUnit (Instr.wf (.twRxdata n)) (if s.domRuns (twDom n) then s.twRx n else s)

/-- An Alert Response Address read (R469): `answer` is the lowest responding address, none without acknowledgement; `first` says it comes before a transfer whose GO has been written and which has not left step 1. -/
def execAlertResponseRead (n : Nat) (answer : Option Nat) (first : Bool) (s : State) : Host.Outcome State Fault Refusal :=
  guardUnit (Instr.wf (.alertResponseRead n answer first)) (
    if !s.twBank n || !s.on (F.TW.CFG.ALERT_EN n) || s.on (F.TW.ALERTADDR.VALID n) || (s.on (F.TW.STATUS.BUSY n) && !(first && s.twOn n) && !((s.twp n).retry && !(s.twp n).run)) || !s.domRuns (twDom n) then s
    else
      let s := if (s.twp n).run then s else (s.setTwp n { s.twp n with retry := false }).set (F.TW.STATUS.BUSY n) 0
      let s := match answer with
        | some a => (s.set (F.TW.ALERTADDR.ADDR n) a).set (F.TW.ALERTADDR.NOACK n) 0
        | none => s.set (F.TW.ALERTADDR.NOACK n) 1
      (((s.twClock n).set (F.TW.ALERTADDR.VALID n) 1).auxOn).twFlag n (F.TW.STATUS.ALERT n))

/-! TWM (R470 to R473). -/

/-- The eight TWM registers as a host reads them (R470). -/
def State.twmRegs (s : State) : List Byte :=
  [0x88, BitVec.ofNat 8 (s.get F.SEASON.STATE.SEASON + (if s.get F.GW.RING_STATUS.COUNT = 0 then 0 else 4) + 8 * s.get F.FLT.BOOT_STATUS.READY + 16 * s.get F.TWM.CTRL.ALERT), 0] ++
    (List.range 5).map fun k => BitVec.ofNat 8 (s.get (F.TWM.MB.MB k))

/-- Whether TWM is powered and answers its address. -/
def State.twmOn (s : State) : Bool := !s.pins.heldAo && s.on F.TWM.CFG.EN

/-- A host addresses TWM (R470, R473, R353): refused in FROST with a wake request, else acknowledged after any wake. -/
def execTwmAddressMatch (read : Bool) (s : State) : Host.Outcome State Fault Refusal :=
  .next (
    if !s.twmOn then s
    else
      let s := (s.set F.TWM.STAT.MATCH 1).icEdge 1 25
      if s.season.frost then ({ s with twm := { s.twm with active := false, wakeReq := true } }).set F.TWM.STAT.FROST_NACK 1
      else
        let s := if s.on F.SEASON.WAKE.TWM then s.wakeSapwood 5 else s
        { s with twm := { s.twm with active := true, read := read, ptrSet := false, snap := if read then s.twmRegs else [] } })

/-- One register written by the host: WAKE, a mailbox byte, or nothing (R470). `lost` says Sapwood wrote the same mailbox byte in the same cycle. -/
def State.twmPut (s : State) (r : Nat) (b : Byte) (lost : Bool) : State :=
  if r = 2 then (if bitsOf b.toNat 0 0 = 1 then s.wakeSapwood 5 else s)
  else if 3 ≤ r then (if lost then s.set F.TWM.STAT.COLL 1 else s.set (F.TWM.MB.MB (r - 3)) b.toNat)
  else s

/-- The pointer after one byte (R470). -/
def twmNext (r : Nat) : Nat := if r < 7 then r + 1 else 7

/-- Written bytes in order: the first of a transaction sets the pointer. -/
def State.twmPuts (s : State) (lost : List Nat) : Nat → List Byte → State
  | _, [] => s
  | i, b :: bs =>
    (if s.twm.ptrSet then (let t := s.twmPut s.twm.ptr b (lost.contains i); { t with twm := { t.twm with ptr := twmNext t.twm.ptr } })
     else { s with twm := { s.twm with ptr := min 7 b.toNat, ptrSet := true } }).twmPuts lost (i + 1) bs

/-- A host writes bytes after a matched write address (R470): `lost` holds the places of bytes that lose to a Sapwood write (R431). -/
def execTwmWrite (data : List Byte) (lost : List Nat) (s : State) : Host.Outcome State Fault Refusal :=
  .next (if s.twmOn && s.twm.active && !s.twm.read then s.twmPuts lost 0 data else s)

/-- A host reads n bytes after a matched read address (R470). -/
def execTwmRead (n : Nat) (s : State) : Host.Outcome State Fault Refusal :=
  .next (if s.twmOn && s.twm.active && s.twm.read then
    { s with twm := { s.twm with ptr := min 7 (s.twm.ptr + n), sent := (List.range n).map fun i => listGet 0 s.twm.snap (min 7 (s.twm.ptr + i)) } }
   else s)

/-- TWM answers an Alert Response Address read (R471): `won` says it sent the whole byte. -/
def execTwmAraAnswer (won : Bool) (s : State) : Host.Outcome State Fault Refusal :=
  .next (if !s.pins.heldAo && s.on F.TWM.CTRL.ALERT && won then (s.set F.TWM.STAT.ARA_WON 1).set F.TWM.CTRL.ALERT 0 else s)

/-- A misplaced START or repeated START (R472). -/
def execTwmBusErr (s : State) : Host.Outcome State Fault Refusal :=
  .next (if s.twmOn && s.twm.active then ({ s with twm := { s.twm with active := false } }).set F.TWM.STAT.BUS_ERR 1 else s)

end Sys2Proof.Machine
end

