-- ==== Sys2Proof/Machine/Csp.lean ====
section
/-! DEFINITION. Clocked serial ports CSP0 to CSP3 and CSP5 (R474 to R482, R485 to R489). What other devices drive onto a bus is an operand: `wire` is the list of data bytes that have passed on the wire since the port's last
command, as the port samples them; its length is how far the data phase has moved. -/

namespace Sys2Proof.Machine

/-- Port n. -/
def State.cspp (s : State) (n : Nat) : CspPort := alGet { tx := [], rx := [], run := false, left := 0, dma := none, dqs := false, sent := [], head := [], period := 0, skip := false } s.csp n

/-- Replace port n, and show its FIFO counts. -/
def State.setCspp (s : State) (n : Nat) (x : CspPort) : State :=
  (({ s with csp := alSet s.csp n x }).set (F.CSP.STATUS.TXCNT n) x.tx.length).set (F.CSP.STATUS.RXCNT n) x.rx.length

/-- The domain of port n. -/
def cspDom (n : Nat) : Nat := if n < 2 then 0 else 1

/-- Sample port n's interrupt source: HIC 244 and 245, SIC 19, 20 and 21 (R446, R447, R489; log entry 45). -/
def State.cspIrq (s : State) (n : Nat) : State := if n < 2 then s.icSample 0 (244 + n) else if n = 5 then s.icSample 1 21 else s.icSample 1 (17 + n)

/-- A STATUS bit of port n is set. -/
def State.cspFlag (s : State) (n : Nat) (f : Fld) : State := (s.set f 1).cspIrq n

/-- Lanes of a code (R474). -/
def cspLanes (code : Nat) : Nat := 2 ^ code

/-- The port is a target (R481, R482). -/
def State.cspTarget (s : State) (n : Nat) : Bool := (n == 2 || n == 3) && s.on (F.CSP.CFG.ROLE n)

/-- DDR, which only CSP5 offers (R475). -/
def State.cspDdr (s : State) (n : Nat) : Bool := n == 5 && s.on (F.CSP.CFG.DDR n)

/-- The bit counts of a frame fit its lanes (R475). Every port has eight data balls (R37). -/
def cspFits (ddr : Bool) (cmdBits cmdLanes addrBits addrLanes len dataLanes : Nat) : Bool :=
  let e := if ddr then 2 else 1
  cmdBits % (e * cspLanes cmdLanes) == 0 && addrBits % (e * cspLanes addrLanes) == 0 && (8 * len) % (e * cspLanes dataLanes) == 0

/-- A refused frame (R475). -/
def State.cspFormat (s : State) (n : Nat) : State := (((s.set (F.CSP.STATUS.FMT_ERR n) 1).set (F.CSP.STATUS.DONE n) 1).set (F.CSP.STATUS.RESULT n) 1).cspIrq n

/-- A frame ends with a RESULT (R477 step 4, R479, R481, R485, R486). -/
def State.cspEnd (s : State) (n res : Nat) : State :=
  let s := s.setCspp n { s.cspp n with run := false, left := 0, dma := none, dqs := false }
  (((s.set (F.CSP.STATUS.RESULT n) res).set (F.CSP.STATUS.BUSY n) 0).set (F.CSP.STATUS.DONE n) 1).cspIrq n

/-- The phases before the data phase; one whose width is 0 is left out (R474). -/
def cspHead (cmd cmdBits cmdLanes addr addrBits addrLanes dummy : Nat) : List CspPhase :=
  (if cmdBits = 0 then [] else [CspPhase.bits (cmd % 2 ^ cmdBits) cmdBits (cspLanes cmdLanes)]) ++
    (if addrBits = 0 then [] else [CspPhase.bits (addr % 2 ^ addrBits) addrBits (cspLanes addrLanes)]) ++ (if dummy = 0 then [] else [CspPhase.dummy dummy])

/-- Those of a register frame. -/
def State.cspHead (s : State) (n : Nat) : List CspPhase :=
  Sys2Proof.Machine.cspHead (s.get (F.CSP.CMD.VALUE n)) (s.get (F.CSP.FRAME.CMD_BITS n)) (s.get (F.CSP.FRAME.CMD_LANES n)) (s.get (F.CSP.ADDR.VALUE n)) (s.get (F.CSP.FRAME.ADDR_BITS n)) (s.get (F.CSP.FRAME.ADDR_LANES n))
    (s.get (F.CSP.FRAME.DUMMY n))

/-- The frame that port n last sent began with these phases. -/
def State.headed (s : State) (n : Nat) (h : List CspPhase) : State := s.setCspp n { s.cspp n with head := h }

/-- The SCK period T in 5 ns units (R477): every port but CSP5 takes a DIV below 3 as 3 (R480, R481, R486). -/
def State.cspPeriod (s : State) (n : Nat) : Nat := (if n = 5 then s.get (F.CSP.CFG.DIV n) else max 3 (s.get (F.CSP.CFG.DIV n))) + 1

/-- The port runs its next frame at this period. -/
def State.cspClock (s : State) (n t : Nat) : State := s.setCspp n { s.cspp n with period := t }

/-- GO (R475, R477, R479, R485, R488): the frame starts, is refused, or is ignored. -/
def State.cspGo (s : State) (n : Nat) : State :=
  let s := if n = 5 then { s with cspx := { s.cspx with lines := [] } } else s
  if s.on (F.CSP.STATUS.BUSY n) || s.cspTarget n then s.cspFlag n (F.CSP.STATUS.CMD_LOST n)
  else if !cspFits (s.cspDdr n) (s.get (F.CSP.FRAME.CMD_BITS n)) (s.get (F.CSP.FRAME.CMD_LANES n)) (s.get (F.CSP.FRAME.ADDR_BITS n)) (s.get (F.CSP.FRAME.ADDR_LANES n))
      (s.get (F.CSP.LEN.LEN n)) (s.get (F.CSP.FRAME.DATA_LANES n)) then s.cspFormat n
  else
    let s := if n = 5 then { s with cspx := { s.cspx with held := none } } else s
    let dma := if 2 ≤ n ∧ s.on (F.CSP.DMA_CTRL.EN n) = true then some (s.get (F.CSP.DMA_ADDR.ADDR n)) else none
    let s := s.setCspp n { s.cspp n with run := true, left := s.get (F.CSP.LEN.LEN n), dma := dma, dqs := false, sent := [], head := s.cspHead n, period := s.cspPeriod n }
    (s.set (F.CSP.STATUS.BUSY n) 1).auxOn

/-! Data bytes on the wire. -/

/-- The bank of the port's pads is powered (R44). -/
def State.cspBank (s : State) (n : Nat) : Bool := if n < 2 then s.pins.vddioH else s.pins.vddioS

/-- What a controller samples: an unpowered bank receives nothing, and what its receivers give is not stated (R44; free, log entry 2). -/
def State.cspWire (s : State) (n : Nat) (wire : List Byte) : List Byte :=
  if s.cspBank n then wire else (List.range wire.length).map fun i => BitVec.ofNat 8 (Config.freeWord (s.freeCtr + i)).toNat

/-- The free values that a stretch of `wire` bytes takes. -/
def State.cspFree (s : State) (n : Nat) (wire : List Byte) : State := if s.cspBank n then s else { s with freeCtr := s.freeCtr + wire.length }

/-- A byte sampled into the receive FIFO, which has room. -/
def State.cspTake (s : State) (n : Nat) (b : Byte) : State := s.setCspp n { s.cspp n with rx := (s.cspp n).rx ++ [b] }

/-- The clock need not stop before the next byte (R478): in DDR both bytes of a pair must have their place. -/
def State.cspCan (s : State) (n : Nat) : Bool :=
  let x := s.cspp n
  let need := if s.cspDdr n && (s.get (F.CSP.LEN.LEN n) - x.left) % 2 == 0 && decide (2 ≤ x.left) then 2 else 1
  if x.dma.isSome then true else if s.on (F.CSP.FRAME.READ n) then decide (x.rx.length + need ≤ 64) else decide (need ≤ x.tx.length)

/-- A byte of Sapwood memory that DMA reads: none where the access fails. -/
def State.cspLoad (s : State) (a : Nat) : State × Option Byte :=
  let k := s.accessKind 1 5 false a 1
  if k ≠ 0 then (s.busError 1 k 5 false a, none)
  else if isWindow 1 a then ({ s with freeCtr := s.freeCtr + 1 }, some (BitVec.ofNat 8 (Config.freeWord s.freeCtr).toNat))
  else (s, some (s.ldB (tag 1 a)))

/-- The byte that a 1-lane write phase samples meanwhile (R476); one that finds the FIFO full is lost (log entry 46). -/
def State.cspDuplex (s : State) (n : Nat) (b : Byte) : State :=
  if s.get (F.CSP.FRAME.DATA_LANES n) = 0 ∧ s.on (F.CSP.FRAME.DUPLEX n) = true ∧ (s.cspp n).rx.length < 64 then s.cspTake n b else s

/-- One byte of a controller's data phase (R474, R476, R485): `b` is what the port samples. -/
def State.cspByte (s : State) (n : Nat) (b : Byte) : State :=
  let x := s.cspp n
  match x.dma with
  | some a =>
    if s.on (F.CSP.FRAME.READ n) then
      let r := s.busStore 1 5 a [b]
      if r.2 then r.1.setCspp n { r.1.cspp n with left := x.left - 1, dma := some (a + 1) } else r.1.cspEnd n 4
    else
      let r := s.cspLoad a
      match r.2 with
      | some c => (r.1.setCspp n { r.1.cspp n with left := x.left - 1, dma := some (a + 1), sent := x.sent ++ [c] }).cspDuplex n b
      | none => r.1.cspEnd n 4
  | none =>
    if s.on (F.CSP.FRAME.READ n) then (s.setCspp n { x with left := x.left - 1 }).cspTake n b
    else (s.setCspp n { x with tx := x.tx.drop 1, left := x.left - 1, sent := x.sent ++ x.tx.take 1 }).cspDuplex n b

/-- One byte of a target's selection (R482): with more than one lane the balls carry one direction at a time. -/
def State.cspTargetByte (s : State) (n : Nat) (b : Byte) : State :=
  let read := s.on (F.CSP.FRAME.READ n)
  let s := if read = false then s
    else match (s.cspp n).tx with
      | [] => (s.setCspp n { s.cspp n with sent := (s.cspp n).sent ++ [0xFF] }).cspFlag n (F.CSP.STATUS.TXUNF n)
      | c :: cs => s.setCspp n { s.cspp n with tx := cs, sent := (s.cspp n).sent ++ [c] }
  if read = true ∧ s.get (F.CSP.FRAME.DATA_LANES n) ≠ 0 then s
  else if (s.cspp n).rx.length < 64 then s.cspTake n b else s.cspFlag n (F.CSP.STATUS.RXOVF n)

/-- The bytes that pass on the wire, as far as the port lets them (R478, R482). -/
def State.cspMove (s : State) (n : Nat) : List Byte → State
  | [] => s
  | b :: bs =>
    if s.cspTarget n then (if (s.cspp n).skip then s else (s.cspTargetByte n b).cspMove n bs)
    else if (s.cspp n).run && (s.cspp n).left != 0 && s.cspCan n then (s.cspByte n b).cspMove n bs else s

/-- The bytes that have passed since the port's last command. -/
def State.cspRun (s : State) (n : Nat) (wire : List Byte) : State :=
  if s.cspTarget n then (if s.cspBank n then (s.setCspp n { s.cspp n with sent := [] }).cspMove n wire else s) else (s.cspFree n wire).cspMove n (s.cspWire n wire)

/-- After a strobe failure the missing bytes read as 0xFF as room appears, and the frame ends with the last of them (R486). -/
def State.cspTail (s : State) (n : Nat) : State :=
  if (s.cspp n).run && (s.cspp n).dqs then
    let s := s.cspMove n (List.replicate (s.cspp n).left 0xFF)
    if (s.cspp n).run && (s.cspp n).left == 0 then s.cspEnd n 5 else s
  else s

/-! Commands. -/

/-- CSP_GO (R477). -/
def execCspGo (n : Nat) (s : State) : Host.Outcome State Fault Refusal :=
  guardUnit (Instr.wf (.cspGo n)) (if s.domRuns (cspDom n) then s.cspGo n else s)

/-- CSP_FRAME_END (R477, R486): the frame ends once all its data bytes have passed. -/
def execCspFrameEnd (n : Nat) (wire : List Byte) (dqsTo : Bool) (s : State) : Host.Outcome State Fault Refusal :=
  guardUnit (Instr.wf (.cspFrameEnd n wire dqsTo)) (
    if !s.domRuns (cspDom n) || !(s.cspp n).run then s
    else
      let s := (s.cspFree n wire).cspMove n (s.cspWire n wire)
      if !(s.cspp n).run then s
      else if (s.cspp n).left = 0 then s.cspEnd n 0
      else if dqsTo && n == 5 && s.on (F.CSP.CFG.DQS n) && s.on (F.CSP.FRAME.READ n) then ((s.setCspp n { s.cspp n with dqs := true }).cspFlag n (F.CSP.STATUS.DQS_TO n)).cspTail n
      else s)

/-- A write of TXDATA: four bytes, bits [7:0] first; bytes that find the FIFO full are discarded (R479). -/
def State.cspTx (s : State) (n v : Nat) : State :=
  let x := s.cspp n
  let bs := leBytes 4 v
  let s := s.setCspp n { x with tx := (x.tx ++ bs).take 64 }
  if 64 < x.tx.length + 4 then s.cspFlag n (F.CSP.STATUS.TXOVF n) else s

/-- CSP_TXDATA (R479). -/
def execCspTxdata (n : Nat) (wire : List Byte) (value : Word) (s : State) : Host.Outcome State Fault Refusal :=
  guardUnit (Instr.wf (.cspTxdata n wire value)) (if s.domRuns (cspDom n) then (s.cspRun n wire).cspTx n value.toNat else s)

/-- A read of RXDATA: up to four bytes, bits [7:0] first; the register shows what the read returns (R478). -/
def State.cspRx (s : State) (n : Nat) : State :=
  let x := s.cspp n
  let s := s.set (F.CSP.RXDATA.DATA n) (leNat (x.rx.take 4))
  let s := s.setCspp n { x with rx := x.rx.drop 4 }
  (if x.rx.isEmpty then s.cspFlag n (F.CSP.STATUS.RXUNF n) else s).cspTail n

/-- CSP_RXDATA (R478). -/
def execCspRxdata (n : Nat) (wire : List Byte) (s : State) : Host.Outcome State Fault Refusal :=
  guardUnit (Instr.wf (.cspRxdata n wire)) (if s.domRuns (cspDom n) then (s.cspRun n wire).cspRx n else s)

/-- ABORT (R479). -/
def State.cspAbort (s : State) (n : Nat) : State := if (s.cspp n).run then s.cspEnd n 2 else s

/-- CSP_ABORT (R479): `wire` counts the byte that was in progress. -/
def execCspAbort (n : Nat) (wire : List Byte) (s : State) : Host.Outcome State Fault Refusal :=
  guardUnit (Instr.wf (.cspAbort n wire)) (if s.domRuns (cspDom n) then (s.cspRun n wire).cspAbort n else s)

/-- MODE_FAULT (R481): SS0 is seen low at a controller with MULTI; the rest of that selection is not received. -/
def execModeFault (n : Nat) (wire : List Byte) (s : State) : Host.Outcome State Fault Refusal :=
  guardUnit (Instr.wf (.modeFault n wire)) (
    if !s.domRuns (cspDom n) || !s.cspBank n || s.cspTarget n || !s.on (F.CSP.CFG.MULTI n) then s
    else
      let s := s.cspMove n wire
      let s := if (s.cspp n).run then s.cspEnd n 3 else s
      let s := s.setCspp n { s.cspp n with skip := true }
      (((s.set (F.CSP.STATUS.MODE_FAULT n) 1).set (F.CSP.STATUS.DONE n) 1).set (F.CSP.CFG.ROLE n) 1).cspIrq n)

/-- TARGET_SELECTION_END (R482); the end of the selection that caused a mode fault ends none that was received (R481). -/
def execTargetSelectionEnd (n : Nat) (wire : List Byte) (s : State) : Host.Outcome State Fault Refusal :=
  guardUnit (Instr.wf (.targetSelectionEnd n wire)) (
    if s.domRuns (cspDom n) && s.cspBank n && s.cspTarget n then
      (if (s.cspp n).skip then s.setCspp n { s.cspp n with skip := false } else (s.cspRun n wire).cspFlag n (F.CSP.STATUS.DONE n))
    else s)

/-! CSP5 as memory port (R487 to R489). -/

/-- Place 64 SFDP words. -/
def State.sfdpPut (s : State) (bs : List Byte) : Nat → State
  | 0 => s
  | k + 1 => (s.sfdpPut bs k).set (F.CSP.SFDP.BYTES k) (leNat ((List.range 4).map fun i => listGet 0xFF bs (4 * k + i)))

/-- Byte k of the SFDP read. -/
def sfdpAt (bs : List Byte) (k : Nat) : Nat := (listGet 0xFF bs k).toNat

/-- Where the Basic Flash Parameter Table lies, if the signature is right and it lies within the 256 bytes (R487; JESD216 header layout, log entry 47). -/
def sfdpTable (bs : List Byte) : Option Nat :=
  let p := sfdpAt bs 12 + 256 * sfdpAt bs 13 + 65536 * sfdpAt bs 14
  if sfdpAt bs 0 = 0x53 ∧ sfdpAt bs 1 = 0x46 ∧ sfdpAt bs 2 = 0x44 ∧ sfdpAt bs 3 = 0x50 ∧ 2 ≤ sfdpAt bs 11 ∧ p + 4 * sfdpAt bs 11 ≤ 256 then some p else none

/-- Dword k of the table at p. -/
def sfdpDword (bs : List Byte) (p k : Nat) : Nat := sfdpAt bs (p + 4 * k) + 256 * sfdpAt bs (p + 4 * k + 1) + 65536 * sfdpAt bs (p + 4 * k + 2) + 16777216 * sfdpAt bs (p + 4 * k + 3)

/-- XIP_CFG.SIZE of a density dword (R487). -/
def sfdpSize (d : Nat) : Nat := min 12 ((if bitsOf d 31 31 = 1 then bitsOf d 30 0 else Nat.log2 (d + 1)) - 3 - 16)

/-- A discovery that reads `sfdp` (R487). -/
def State.discover (s : State) (sfdp : List Byte) : State :=
  if s.on (F.CSP.STATUS.BUSY 5) then s
  else
    let sfdp' := s.cspWire 5 sfdp
    let s := s.cspFree 5 sfdp
    let sfdp := sfdp'
    let s := (((({ s with cspx := { s.cspx with held := none } }).auxOn).headed 5 [.bits 0x5A 8 1, .bits 0 24 1, .dummy 8]).cspClock 5 (max 3 (s.get (F.CSP.CFG.DIV 5)) + 1)).sfdpPut sfdp 64
    let s := match sfdpTable sfdp with
      | some p => ((s.set F.CSP.XIP_CFG.SIZE (sfdpSize (sfdpDword sfdp p 1))).set F.CSP.XIP_FRAME.ADDR_BITS (if bitsOf (sfdpDword sfdp p 0) 18 17 = 0 then 24 else 32)).set (F.CSP.STATUS.RESULT 5) 0
      | none => s.set (F.CSP.STATUS.RESULT 5) 6
    s.cspFlag 5 (F.CSP.STATUS.DONE 5)

/-- DISCOVER (R487). -/
def execDiscover (sfdp : List Byte) (s : State) : Host.Outcome State Fault Refusal := .next (if s.domRuns 1 then s.discover sfdp else s)

/-- The phases of a fetch frame (R488): XIP_FRAME, XIP_CMD and the line's offset. -/
def State.xipHead (s : State) (ln : Nat) : List CspPhase :=
  Sys2Proof.Machine.cspHead (s.get F.CSP.XIP_CMD.CMD) (s.get F.CSP.XIP_FRAME.CMD_BITS) (s.get F.CSP.XIP_FRAME.CMD_LANES) (32 * ln) (s.get F.CSP.XIP_FRAME.ADDR_BITS) (s.get F.CSP.XIP_FRAME.ADDR_LANES)
    (s.get F.CSP.XIP_FRAME.DUMMY)

/-- A fetch frame fills a line (R486, R488, R489). -/
def State.xipFill (s : State) (ln how : Nat) (data : List Byte) (dqsTo : Bool) : State :=
  let bs := (List.range 32).map fun i => listGet 0xFF (s.cspWire 5 data) i
  let s := s.cspFree 5 data
  let x := s.cspx
  let s := { s with cspx := { x with lines := ((ln, bs) :: x.lines).take 2, held := if s.on F.CSP.XIP_CFG.CONT then some ln else none, line := bs, how := how } }
  let s := ((s.headed 5 (if how = 2 then [] else s.xipHead ln)).cspClock 5 (s.cspPeriod 5)).auxOn
  if dqsTo && s.on (F.CSP.CFG.DQS 5) then (s.set (F.CSP.STATUS.RESULT 5) 5).cspFlag 5 (F.CSP.STATUS.DQS_TO 5) else s

/-- XIP_FETCH (R488, R489): a master reads the window; `data` are the bytes of its line as the flash sends them, `dqsTo` says that the strobe ends early. A fetch that would wait for a register frame comes later. -/
def execXipFetch (master addr : Nat) (data : List Byte) (dqsTo : Bool) (s : State) : Host.Outcome State Fault Refusal :=
  guardUnit (Instr.wf (.xipFetch master addr data dqsTo)) (
    if !s.domRuns 1 then s
    else if s.accessKind 1 master false addr 1 ≠ 0 then s.busError 1 (s.accessKind 1 master false addr 1) master false addr
    else
      let ln := (addr - 0x30000000) / 32
      match s.cspx.lines.find? fun (e : Nat × List Byte) => e.1 == ln with
      | some e => { s with cspx := { s.cspx with line := e.2, how := 0 } }
      | none =>
        if s.on (F.CSP.STATUS.BUSY 5) then s
        else if s.on F.CSP.XIP_CFG.CONT && s.cspx.held == some (ln - 1) && ln != 0 then s.xipFill ln 2 data dqsTo
        else if !cspFits (s.cspDdr 5) (s.get F.CSP.XIP_FRAME.CMD_BITS) (s.get F.CSP.XIP_FRAME.CMD_LANES) (s.get F.CSP.XIP_FRAME.ADDR_BITS) (s.get F.CSP.XIP_FRAME.ADDR_LANES) 32 (s.get F.CSP.XIP_FRAME.DATA_LANES) then
          ({ s with cspx := { s.cspx with held := none, line := [] } }).cspFormat 5
        else s.xipFill ln 1 data dqsTo)

/-- CONT_MAX_EXPIRY (R489). -/
def execContMaxExpiry (s : State) : Host.Outcome State Fault Refusal := .next { s with cspx := { s.cspx with held := none } }

end Sys2Proof.Machine
end

