-- ==== Sys2Proof/Machine/Eth.lean ====
section
/-! DEFINITION. Ethernet ports ETH0 to ETH2: descriptors, frames, links, MDIO and the transmit time-stamp queues (R313 to R316, R490 to R496). -/

namespace Sys2Proof.Machine

/-- MAC n. -/
def State.macOf (s : State) (n : Nat) : Mac := alGet { fifo := [], tsq := [], txOn := false, rxOn := false, mdio := none, sent := [] } s.mac n

/-- Replace MAC n. -/
def State.setMac (s : State) (n : Nat) (m : Mac) : State := { s with mac := alSet s.mac n m }

/-- A STATUS bit of MAC n is set: RXDONE shows at SIC source 6 + n, the others at 9 + n. -/
def State.ethFlag (s : State) (n : Nat) (f : Fld) : State := ((s.set f 1).icSample 1 (6 + n)).icSample 1 (9 + n)

/-- Interconnect identifier of MAC n (R427). -/
def ethMaster (n : Nat) : Nat := 2 + n

/-! Sapwood memory as the MAC reads and writes it. -/

/-- A 32-bit word. -/
def State.ethWord (s : State) (n a : Nat) : State × Option Nat :=
  let r := s.busLoad 1 (ethMaster n) a 4
  (r.1, r.2.map leNat)

/-- Bytes, one access each: none where one fails. -/
def State.ethLoad (s : State) (n a : Nat) : Nat → State × Option (List Byte)
  | 0 => (s, some [])
  | k + 1 =>
    let r := s.ethLoad n a k
    match r.2 with
    | none => r
    | some bs =>
      let f := r.1.accessKind 1 (ethMaster n) false (a + k) 1
      if f ≠ 0 then (r.1.busError 1 f (ethMaster n) false (a + k), none)
      else if isWindow 1 (a + k) then ({ r.1 with freeCtr := r.1.freeCtr + 1 }, some (bs ++ [BitVec.ofNat 8 (Config.freeWord r.1.freeCtr).toNat]))
      else (r.1, some (bs ++ [r.1.ldB (tag 1 (a + k))]))

/-- Store bytes, one access each, until one fails. -/
def State.ethStore (s : State) (n a : Nat) : List Byte → State × Bool
  | [] => (s, true)
  | b :: bs =>
    let r := s.busStore 1 (ethMaster n) a [b]
    if r.2 then r.1.ethStore n (a + 1) bs else r

/-! Rings (R491). -/

/-- Descriptors of a ring from the SIZE of its control register. -/
def ringSize (size : Nat) : Nat := 2 ^ (size + 2)

/-- Address of the next transmit descriptor. -/
def State.txDesc (s : State) (n : Nat) : Nat := 32 * s.get (F.ETH.TXRING.BASE n) + 32 * s.get (F.ETH.TXCTL.NEXT n)
/-- Address of the next receive descriptor. -/
def State.rxDesc (s : State) (n : Nat) : Nat := 32 * s.get (F.ETH.RXRING.BASE n) + 32 * s.get (F.ETH.RXCTL.NEXT n)

/-- The MAC looks at the next transmit descriptor, and stops where OWN is 0. -/
def State.txLook (s : State) (n : Nat) : State :=
  let r := s.ethWord n (s.txDesc n + 4)
  let own := match r.2 with | some w => decide (2 ^ 31 ≤ w) | none => false
  r.1.setMac n { r.1.macOf n with txOn := own }

/-- The MAC looks at the next receive descriptor. -/
def State.rxLook (s : State) (n : Nat) : State :=
  let r := s.ethWord n (s.rxDesc n + 4)
  let own := match r.2 with | some w => decide (2 ^ 31 ≤ w) | none => false
  r.1.setMac n { r.1.macOf n with rxOn := own }

/-- A write of TXCTL (R491). -/
def State.ethTxctl (s : State) (n v : Nat) : State :=
  let s := if bitsOf v 3 0 ≤ 6 then s.set (F.ETH.TXCTL.SIZE n) (bitsOf v 3 0) else s
  if bitsOf v 8 8 = 1 ∧ s.on (F.ETH.CFG.TXEN n) = true then s.txLook n else s

/-- A write of RXCTL (R491). -/
def State.ethRxctl (s : State) (n v : Nat) : State :=
  let s := if bitsOf v 3 0 ≤ 6 then s.set (F.ETH.RXCTL.SIZE n) (bitsOf v 3 0) else s
  if bitsOf v 8 8 = 1 ∧ s.on (F.ETH.CFG.RXEN n) = true then s.rxLook n else s

/-- TXCTL_POLL (R491). -/
def execTxctlPoll (n : Nat) (value : Word) (s : State) : Host.Outcome State Fault Refusal :=
  guardUnit (Instr.wf (.txctlPoll n value)) (if s.domRuns 1 then s.ethTxctl n value.toNat else s)

/-- RXCTL_POLL (R491). -/
def execRxctlPoll (n : Nat) (value : Word) (s : State) : Host.Outcome State Fault Refusal :=
  guardUnit (Instr.wf (.rxctlPoll n value)) (if s.domRuns 1 then s.ethRxctl n value.toNat else s)

/-! Time stamps (R313 to R316). -/

/-- Nanoseconds that a stamp is counted in: 4 on ETH0 and ETH1, 20 on ETH2 (R313). -/
def stampStep (n : Nat) : Nat := if n < 2 then 4 else 20

/-- The stamp of a delimiter that passed `lag` (2^-16 ns) ago: seconds, nanoseconds and TINV. Which of the two neighbouring steps is taken is not stated, nor what a stamp without valid time holds (free, log
entry 2). -/
def State.ethStamp (s : State) (n lag : Nat) : Nat × (Nat × Bool) :=
  if s.timeValid then
    let t := (s.time.t - lag) / (65536 * stampStep n) * stampStep n + (if Config.freeBool s.freeCtr then stampStep n else 0)
    (t / 1000000000 % 2 ^ 48, (t % 1000000000, false))
  else (((Config.freeWord s.freeCtr).toNat + 2 ^ 32 * (Config.freeWord (s.freeCtr + 1)).toNat) % 2 ^ 48, ((Config.freeWord (s.freeCtr + 2)).toNat, true))

/-- Show the queue in TSQ_STAT. -/
def State.tsqShow (s : State) (n : Nat) : State := (s.set (F.ETH.TSQ_STAT.COUNT n) (s.macOf n).tsq.length).icSample 1 (12 + n)

/-- An entry enters the transmit time-stamp queue, or is dropped (R314, R315). -/
def State.tsqPut (s : State) (n : Nat) (e : Tsq) : State :=
  let m := s.macOf n
  if 16 ≤ m.tsq.length then ((s.set (F.ETH.TSQ_STAT.OVF n) 1).sat (F.ETH.TSQ_STAT.DROP n) 1).tsqShow n
  else (s.setMac n { m with tsq := m.tsq ++ [e] }).tsqShow n

/-- TSQ_READ (R316). -/
def State.tsqRead (s : State) (n : Nat) : State :=
  match (s.macOf n).tsq with
  | [] => (((s.set (F.ETH.TSQ.ALL n 0) 0).set (F.ETH.TSQ.ALL n 1) 0).set (F.ETH.TSQ.ALL n 2) 0).set (F.ETH.TSQ.ALL n 3) 0
  | e :: _ =>
    (((s.set (F.ETH.TSQ.ALL n 0) (e.msgid + 2 ^ 16 * e.gen + (if e.tinv then 2 ^ 30 else 0) + 2 ^ 31)).set (F.ETH.TSQ.ALL n 1) e.ns).set (F.ETH.TSQ.ALL n 2) (e.sec % 2 ^ 32)).set
      (F.ETH.TSQ.ALL n 3) (e.sec / 2 ^ 32 % 2 ^ 16)

/-- TSQ_READ (R316). -/
def execTsqRead (n : Nat) (s : State) : Host.Outcome State Fault Refusal := guardUnit (Instr.wf (.tsqRead n)) (if s.domRuns 1 then s.tsqRead n else s)

/-- A write of POP (R316). -/
def State.tsqPop (s : State) (n : Nat) : State := (s.setMac n { s.macOf n with tsq := (s.macOf n).tsq.drop 1 }).tsqShow n

/-- TSQ_POP (R316). -/
def execTsqPop (n : Nat) (s : State) : Host.Outcome State Fault Refusal := guardUnit (Instr.wf (.tsqPop n)) (if s.domRuns 1 then s.tsqPop n else s)

/-! Frames. -/

/-- `n` bit steps of the CRC-32 of IEEE 802.3 in reflected form (log entry 48). -/
def fcsStep : Nat → Nat → Nat
  | 0, c => c
  | n + 1, c => fcsStep n (if c % 2 = 1 then Nat.xor (c / 2) 0xEDB88320 else c / 2)

/-- The FCS of a frame. -/
def fcsOf (bs : List Byte) : Nat := Nat.xor (bs.foldl (fun (c : Nat) b => fcsStep 8 (Nat.xor c b.toNat)) 0xFFFFFFFF) 0xFFFFFFFF

/-- The frame carries a VLAN tag (R490, R491; the tag's type is that of IEEE 802.1Q, log entry 48). -/
def tagged (bs : List Byte) : Bool := listGet 0 bs 12 == 0x81 && listGet 0 bs 13 == 0x00 && decide (14 ≤ bs.length)

/-- The frame as it is sent: padded to 60 bytes, with its FCS (R492). -/
def ethFrame (bs : List Byte) : List Byte :=
  let p := bs ++ List.replicate (60 - bs.length) 0
  p ++ leBytes 4 (fcsOf p)

/-- The descriptor is written back: W3, then OWN cleared (R491). -/
def State.txBack (s : State) (n d w1 w3 : Nat) : State :=
  let r := s.busStore 1 (ethMaster n) (d + 12) (leBytes 4 w3)
  let s := if r.2 then (r.1.busStore 1 (ethMaster n) (d + 4) (leBytes 4 (w1 % 2 ^ 31))).1 else r.1
  let s := s.set (F.ETH.TXCTL.NEXT n) ((s.get (F.ETH.TXCTL.NEXT n) + 1) % ringSize (s.get (F.ETH.TXCTL.SIZE n)))
  if bitsOf w1 30 30 = 1 then s.ethFlag n (F.ETH.STATUS.TXDONE n) else s

/-- The next transmit descriptor with words w0 to w2 and frame bytes `bs` is worked off (R314, R491, R492): GEN of a submission without a stamp is not stated (free, log entry 2). -/
def State.txFrame (s : State) (n lag d w1 w2 : Nat) (bs : List Byte) : State :=
  let ts := bitsOf w1 29 29 == 1
  let long := if tagged bs then decide (1522 < bs.length) else decide (1518 < bs.length)
  let down := !s.on (F.ETH.PHY_STAT.LINK n)
  let gen := if ts then s.get (F.ETH.TSQ_STAT.NEXTGEN n) else (Config.freeWord (s.freeCtr + 3)).toNat % 16
  let st := s.ethStamp n lag
  let s := { s with freeCtr := s.freeCtr + 4 }
  let s := if ts then s.set (F.ETH.TSQ_STAT.NEXTGEN n) ((gen + 1) % 16) else s
  let s := if long || down then s
    else
      let s := (s.setMac n { s.macOf n with sent := ethFrame bs }).auxOn
      if ts then (let e : Tsq := { msgid := w2 % 65536, gen := gen, tinv := st.2.2, ns := st.2.1, sec := st.1 }; s.tsqPut n e) else s
  let s := s.txBack n d w1 (gen + (if long || down then 0 else 2 ^ 8) + (if long then 2 ^ 9 else 0) + (if down then 2 ^ 10 else 0))
  if long || down then s.ethFlag n (F.ETH.STATUS.TXERR n) else s

/-- The MAC stops at a failed access of its own (R432; log entry 49). -/
def State.txStop (s : State) (n : Nat) : State := s.setMac n { s.macOf n with txOn := false }

/-- ETH_TRANSMIT_FRAME (R491, R492): the delimiter passed `lag` (2^-16 ns) before the frame's end. -/
def State.transmit (s : State) (n lag : Nat) : State :=
  let d := s.txDesc n
  let r0 := s.ethWord n d
  let r1 := r0.1.ethWord n (d + 4)
  let r2 := r1.1.ethWord n (d + 8)
  match r0.2, r1.2, r2.2 with
  | some w0, some w1, some w2 =>
    if w1 < 2 ^ 31 then r2.1.txStop n
    else
      let r := r2.1.ethLoad n w0 (bitsOf w1 10 0)
      match r.2 with
      | some bs => (r.1.txFrame n lag d w1 w2 bs).txLook n
      | none => r.1.txStop n
  | _, _, _ => r2.1.txStop n

/-- The port's pads are powered: the two PHYs by VDDA_ACQ through a switch that opens with VDD_SW (R41), RMII by VDDIO_S (R44). Without its bank a port has no medium, no reference clock and no frames. -/
def State.ethBank (s : State) (n : Nat) : Bool := if n < 2 then s.pins.vddaAcq && s.pins.vddSw else s.pins.vddioS

/-- ETH_TRANSMIT_FRAME (R492). -/
def execEthTransmitFrame (n lag : Nat) (s : State) : Host.Outcome State Fault Refusal :=
  guardUnit (Instr.wf (.ethTransmitFrame n lag)) (if s.domRuns 1 && s.ethBank n && s.on (F.ETH.CFG.TXEN n) && (s.macOf n).txOn then s.transmit n lag else s)

/-- The MAC accepts the destination address (CFG.PROMISC, CFG.MCAST, MAC_LO, MAC_HI): the broadcast address is a multicast address. -/
def State.ethAccepts (s : State) (n : Nat) (bs : List Byte) : Bool :=
  s.on (F.ETH.CFG.PROMISC n) || (bs.headD 0).toNat % 2 == 1 && s.on (F.ETH.CFG.MCAST n) ||
    leNat (bs.take 6) == s.get (F.ETH.MAC_LO.ADDR n) + 2 ^ 32 * s.get (F.ETH.MAC_HI.ADDR n) && decide (6 ≤ bs.length)

/-- SEASON.REQ.LINKn. -/
def State.linkReq (s : State) (n : Nat) : Bool := if n = 0 then s.on F.SEASON.REQ.LINK0 else if n = 1 then s.on F.SEASON.REQ.LINK1 else s.on F.SEASON.REQ.LINK2

/-- A frame that the MAC accepts: stamped, and kept or dropped (R492, R493). -/
def State.ethKeep (s : State) (n lag : Nat) (frame : List Byte) (fcsOk : Bool) : State :=
  let m := s.macOf n
  if !fcsOk && !s.on (F.ETH.CFG.KEEPBAD n) then s.sat (F.ETH.CNT.BADFCS n) 1
  else if 4096 < (m.fifo.map fun (f : RxFrame) => f.bytes.length).foldl (fun (a b : Nat) => a + b) frame.length then s.sat (F.ETH.CNT.RXDROP n) 1
  else
    let st := s.ethStamp n lag
    let f : RxFrame := { bytes := frame, sec := st.1, ns := st.2.1, tinv := st.2.2, bad := !fcsOk }
    ({ s with freeCtr := s.freeCtr + 3 }).setMac n { m with fifo := m.fifo ++ [f] }

/-- ETH_RECEIVE_FRAME (R353, R492, R493): `frame` without its FCS. While Sapwood is gated the port receives only with LINKn set, and the frame wakes Sapwood where SEASON.WAKE asks for it. -/
def execEthReceiveFrame (n lag : Nat) (frame : List Byte) (fcsOk : Bool) (s : State) : Host.Outcome State Fault Refusal :=
  guardUnit (Instr.wf (.ethReceiveFrame n lag frame fcsOk)) (
    if s.pins.heldS || !s.pins.vddSw || !s.ethBank n || s.season.frost || !s.on (F.ETH.CFG.RXEN n) || !s.on (F.ETH.PHY_STAT.LINK n) || (s.season.gated && !s.linkReq n) then s
    else
      let s := if s.ethAccepts n frame then s.ethKeep n lag frame fcsOk else s
      if s.season.gated && bitsOf (s.get F.SEASON.WAKE.ETH) n n == 1 then s.wakeSapwood 7 else s)

/-- The receive descriptor's write-back (R491). -/
def State.rxBack (s : State) (n d : Nat) (f : RxFrame) : State × Bool :=
  let r := s.busStore 1 (ethMaster n) (d + 8) (leBytes 4 f.ns)
  if !r.2 then r else
  let r := r.1.busStore 1 (ethMaster n) (d + 12) (leBytes 4 (f.sec % 2 ^ 32))
  if !r.2 then r else
  let r := r.1.busStore 1 (ethMaster n) (d + 16) (leBytes 4 (f.sec / 2 ^ 32))
  if !r.2 then r else
  r.1.busStore 1 (ethMaster n) (d + 4) (leBytes 4 (f.bytes.length + (if f.tinv then 2 ^ 28 else 0) + (if tagged f.bytes then 2 ^ 29 else 0) + (if f.bad then 2 ^ 30 else 0)))

/-- The MAC stops at a failed access of its own. -/
def State.rxStop (s : State) (n : Nat) : State := s.setMac n { s.macOf n with rxOn := false }

/-- The oldest waiting frame goes into the next descriptor (R491, R492): a frame longer than the buffer is dropped and the descriptor stays. -/
def State.ethDeliver (s : State) (n : Nat) (f : RxFrame) : State :=
  let d := s.rxDesc n
  let r0 := s.ethWord n d
  let r1 := r0.1.ethWord n (d + 4)
  match r0.2, r1.2 with
  | some w0, some w1 =>
    let s := r1.1
    if w1 < 2 ^ 31 then s.rxStop n
    else
      let s := s.setMac n { s.macOf n with fifo := (s.macOf n).fifo.drop 1 }
      if bitsOf w1 10 0 < f.bytes.length then s.sat (F.ETH.CNT.OVERSIZE n) 1
      else
        let r := s.ethStore n w0 f.bytes
        let r := if r.2 then r.1.rxBack n d f else r
        if !r.2 then r.1.rxStop n
        else
          let s := r.1.set (F.ETH.RXCTL.NEXT n) ((r.1.get (F.ETH.RXCTL.NEXT n) + 1) % ringSize (r.1.get (F.ETH.RXCTL.SIZE n)))
          (s.ethFlag n (F.ETH.STATUS.RXDONE n)).rxLook n
  | _, _ => r1.1.rxStop n

/-- ETH_RECEIVE_DELIVER (R491). -/
def execEthReceiveDeliver (n : Nat) (s : State) : Host.Outcome State Fault Refusal :=
  guardUnit (Instr.wf (.ethReceiveDeliver n)) (
    match (s.macOf n).fifo with
    | [] => s
    | f :: _ => if s.domRuns 1 && (s.macOf n).rxOn then s.ethDeliver n f else s)

/-- What the PHY of ETH0 or ETH1 reports beside its link: a level that CFG.AMPL forces is the one in use, without auto-negotiation (R490). -/
def State.phyShow (s : State) (n stat : Nat) : State :=
  let a := s.get (F.ETH.CFG.AMPL n)
  ((s.set (F.ETH.PHY_STAT.ANEG n) (if a = 1 ∨ a = 2 then 0 else bitsOf stat 1 1)).set (F.ETH.PHY_STAT.LEVEL n) (if a = 1 then 0 else if a = 2 then 1 else bitsOf stat 2 2)).set (F.ETH.PHY_STAT.SQI n) (bitsOf stat 6 4)

/-- LINK_CHANGE (R494): `stat` holds ANEG, LEVEL and SQI where PHY_STAT has them; they may change while LINK stays. A port without its bank has no link to gain. -/
def execLinkChange (n : Nat) (up : Bool) (stat : Nat) (s : State) : Host.Outcome State Fault Refusal :=
  guardUnit (Instr.wf (.linkChange n up stat)) (
    if s.pins.heldS || !s.pins.vddSw || s.season.frost || (up && !s.ethBank n) then s
    else
      let s := if n < 2 then s.phyShow n stat else s
      if s.on (F.ETH.PHY_STAT.LINK n) == up then s
      else (s.setB (F.ETH.PHY_STAT.LINK n) up).ethFlag n (F.ETH.STATUS.LINKCHG n))

/-- A write of MDIO (R490): GO starts a Clause 22 frame. -/
def State.mdioWrite (s : State) (v : Nat) : State :=
  let s := (((s.set (F.ETH.MDIO.DATA 2) (bitsOf v 15 0)).set (F.ETH.MDIO.REG 2) (bitsOf v 20 16)).set (F.ETH.MDIO.PHYAD 2) (bitsOf v 25 21)).set (F.ETH.MDIO.READ 2) (bitsOf v 26 26)
  if bitsOf v 27 27 = 0 ∨ s.on (F.ETH.MDIO.BUSY 2) = true then s
  else (s.setMac 2 { s.macOf 2 with mdio := some (bitsOf v 25 21, (bitsOf v 20 16, (bitsOf v 26 26 == 1, bitsOf v 15 0))) }).set (F.ETH.MDIO.BUSY 2) 1

/-- MDIO_GO (R490). -/
def execMdioGo (value : Word) (s : State) : Host.Outcome State Fault Refusal := .next (if s.domRuns 1 then s.mdioWrite value.toNat else s)

/-- MDIO_FRAME_END (R490): `data` is what the PHY sends in a read frame; what an unpowered bank reads is not stated (R44; free, log entry 2). -/
def execMdioFrameEnd (data : BitVec 16) (s : State) : Host.Outcome State Fault Refusal :=
  .next (match (s.macOf 2).mdio with
    | none => s
    | some f =>
      if !s.domRuns 1 then s
      else
        let s := (s.setMac 2 { s.macOf 2 with mdio := none }).set (F.ETH.MDIO.BUSY 2) 0
        if !f.2.2.1 then s
        else if s.ethBank 2 then s.set (F.ETH.MDIO.DATA 2) data.toNat
        else ({ s with freeCtr := s.freeCtr + 1 }).set (F.ETH.MDIO.DATA 2) (Config.freeWord s.freeCtr).toNat)

end Sys2Proof.Machine
end

