-- ==== Sys2Proof/Machine/Matrix.lean ====
section
/-! DEFINITION. The trigger matrix, the Equinox grid and the application of time steps (R300 to R311, R319, R328, R335, R338, R339, R345). -/

namespace Sys2Proof.Machine

/-! Comparators (R303 to R306). -/

/-- ABS of comparator n (2^-16 ns). -/
def State.cmpAbs (s : State) (n : Nat) : Nat :=
  ((s.get (F.TIME.CMPABS.ALL n 1) + s.get (F.TIME.CMPABS.ALL n 2) * 2 ^ 32) * 1000000000 + s.get (F.TIME.CMPABS.ALL n 0)) * 65536

/-- The settings of comparator n as they stand. -/
def State.cmpSet (s : State) (n : Nat) : CmpOld :=
  { n := n, t := s.time.t, ctrl := (s.rw (F.TIME.CMPCTRL.ALL n).addr).toNat, ofs := s.get (F.TIME.CMPOFS.OFFSET n), ph := s.get (F.TIME.CMPPH.PHASE n), abs := s.cmpAbs n }

/-- MODE, IRQ, SPN and EVERY of settings. -/
def CmpOld.mode (c : CmpOld) : Nat := bitsOf c.ctrl 1 0
/-- IRQ. -/
def CmpOld.irq (c : CmpOld) : Bool := bitsOf c.ctrl 2 2 == 1
/-- SPN. -/
def CmpOld.spn (c : CmpOld) : Bool := bitsOf c.ctrl 3 3 == 1
/-- EVERY. -/
def CmpOld.every (c : CmpOld) : Nat := bitsOf c.ctrl 31 16

/-- The end of the microsecond in which replaced settings still govern (R305). -/
def CmpOld.until (c : CmpOld) : Nat := c.t + usT

/-- A compare time rounded up to a multiple of 6.25 ns since the epoch (R303). -/
def matchTick (t : Nat) : Nat := (t + tickT - 1) / tickT * tickT

/-- The first match that settings in effect since `since` give later than `lo`, with LATE (R303, R305, R310): a one-shot whose time has passed fires at once. -/
def CmpOld.nextOf (c : CmpOld) (cycleT since lo : Nat) : Option (Nat × Bool) :=
  if c.mode = 1 then (if c.abs ≤ since then some (matchTick (since + 1), true) else some (matchTick c.abs, false))
  else if c.mode = 2 ∧ cycleT ≠ 0 ∧ c.ph < c.every then
    let n0 := (lo - c.ofs * 65536) / cycleT
    let n := n0 + (c.ph + c.every - n0 % c.every) % c.every
    let t := matchTick (n * cycleT + c.ofs * 65536)
    if lo < t then some (t, false) else some (matchTick ((n + c.every) * cycleT + c.ofs * 65536), false)
  else none

/-- The next match of comparator n among replaced settings, oldest first, and the present ones: the settings that govern it, its instant, LATE. -/
def nextAmong (cycleT lo : Nat) (now : CmpOld) : Nat → List CmpOld → Option (CmpOld × Nat × Bool)
  | since, [] => (now.nextOf cycleT since (max lo since)).map fun r => (now, r)
  | since, c :: cs => match c.nextOf cycleT since (max lo since) with
    | some r => if r.1 ≤ c.until then some (c, r) else nextAmong cycleT lo now (max since c.until) cs
    | none => nextAmong cycleT lo now (max since c.until) cs

/-- The next match of comparator n (R303): later than its last match, the start of the grid, the last step and the last THAW; only while the fast time base runs. -/
def State.nextMatch (s : State) (n : Nat) : Option (CmpOld × Nat × Bool) :=
  if s.time.fast then nextAmong s.cycleT (max (alGet 0 s.time.last n) s.time.floor) (s.cmpSet n) s.time.floor (s.time.cmps.filter fun (c : CmpOld) => c.n == n) else none

/-- Spindle's envelope check at a match (R345). -/
def State.matchEnvelope (s : State) (c : CmpOld) : State := if c.spn && s.on F.SPN.STATUS.RUN && !s.spn.held then s.envelope else s

/-- What a match of comparator n at tm does (R303, R305, R306, R345). -/
def State.matchDo (s : State) (n : Nat) (c : CmpOld) (tm : Nat) (late : Bool) : State :=
  let s := (s.advanceTo tm).settle
  let s := { s with time := { s.time with last := alSet s.time.last n tm } }
  let s := s.set (F.TIME.CMPSTAT.FIRED n) 1
  let s := if late then s.set (F.TIME.CMPSTAT.LATE n) 1 else s
  let s := if c.mode = 1 then s.set (F.TIME.CMPCTRL.MODE n) 0 else s
  let s := s.seqStarts n tm (List.range s.nshot)
  let s := (s.chainMatches n (edgeAfter (tm + 1310720)) s.chainIds).swapsMatch n tm
  let s := if c.irq then s.icEdge 0 (32 + n) else s
  s.matchEnvelope c

/-- Comparator n matches (R303, R306). -/
def execTriggerMatch (n : Nat) (s : State) : Host.Outcome State Fault Refusal :=
  guardUnit (Instr.wf (.triggerMatch n)) (match s.nextMatch n with
    | some (c, tm, late) => s.matchDo n c tm late
    | none => s)

/-- The cycle period in ns. -/
def State.cycleNs (s : State) : Nat := s.cycleT / 65536

/-- A write of a register of comparator n as its fields take it (R9, R305): 0 CTRL, 1 OFS, 2 PH, 3 to 5 the words of ABS. -/
def State.cmpTake (s : State) (n reg v : Nat) : State :=
  if reg = 0 then
    let s := if bitsOf v 1 0 = 3 then s else s.set (F.TIME.CMPCTRL.MODE n) (bitsOf v 1 0)
    let s := (s.set (F.TIME.CMPCTRL.IRQ n) (bitsOf v 2 2)).set (F.TIME.CMPCTRL.SPN n) (bitsOf v 3 3)
    if bitsOf v 31 16 = 0 then s else s.set (F.TIME.CMPCTRL.EVERY n) (bitsOf v 31 16)
  else if reg = 1 then (if v < s.cycleNs then s.set (F.TIME.CMPOFS.OFFSET n) v else s)
  else if reg = 2 then (if bitsOf v 15 0 < s.get (F.TIME.CMPCTRL.EVERY n) then s.set (F.TIME.CMPPH.PHASE n) (bitsOf v 15 0) else s)
  else if reg = 3 then (if v < 1000000000 then s.set (F.TIME.CMPABS.ALL n 0) v else s)
  else s.set (F.TIME.CMPABS.ALL n (reg - 3)) v

/-- Replaced settings that govern no match any more are dropped, but for the newest of each comparator, which tells when the present ones took effect. -/
def State.cmpsKeep (s : State) (n : Nat) : List CmpOld :=
  let mine := s.time.cmps.filter fun (c : CmpOld) => c.n == n
  let last := (mine.map CmpOld.t).foldl max 0
  s.time.cmps.filter fun (c : CmpOld) => c.n != n || decide (s.time.t < c.until) || c.t == last

/-- A write of a register of comparator n (R304, R305): no effect while LOCK is set; it governs matches later than 1 µs after it. -/
def State.cmpWrite (s : State) (n reg v : Nat) : State :=
  if s.on (F.TIME.CMPCTRL.LOCK n) then s
  else
    let old := s.cmpSet n
    let keep := s.cmpsKeep n
    ({ s with time := { s.time with cmps := keep ++ [old] } }).cmpTake n reg v

/-- A write to a comparator (R304, R305). -/
def execComparatorWrite (n reg : Nat) (value : Word) (s : State) : Host.Outcome State Fault Refusal :=
  guardUnit (Instr.wf (.comparatorWrite n reg value)) (s.cmpWrite n reg value.toNat)

/-- How many periodic match instants of settings lie in (a, b] (R303: compare times rounded up to a lane clock tick's grid). -/
def CmpOld.countIn (c : CmpOld) (cycleT a b : Nat) : Nat :=
  if c.mode = 2 ∧ cycleT ≠ 0 ∧ c.ph < c.every then
    let upTo := fun (t : Nat) => if t / tickT * tickT < c.ofs * 65536 then 0 else
      let n := (t / tickT * tickT - c.ofs * 65536) / cycleT
      if n < c.ph then 0 else (n - c.ph) / c.every + 1
    upTo b - upTo a
  else 0

/-- Add the periodic instants passed over in (a, b] to MISSED of a list of comparators (R305, R310): those at or before a comparator's last match have fired. -/
def State.missedIn (s : State) (a b : Nat) : List Nat → State
  | [] => s
  | n :: ns =>
    let from_ := max a (alGet 0 s.time.last n)
    (s.sat (F.TIME.CMPSTAT.MISSED n) ((s.cmpSet n).countIn s.cycleT from_ b)).missedIn a b ns

/-! Cycle instants (R300 to R302). -/

/-- Clear ROLLBACKS of a list of regions (R378). -/
def State.rollbacksClear (s : State) : List Nat → State
  | [] => s
  | r :: rs => (s.set (F.FLT.REGION_STAT.ROLLBACKS r) 0).rollbacksClear rs

/-- The SL_REFUSED entry of an interval in which writes were refused (R109). -/
def State.slRefusedEntry (s : State) : State :=
  if s.get F.SEAL.REFUSED.COUNT = 0 then s
  else ({ s.auditPut 0x13 0xFF (leBytes 4 (s.get F.SEAL.REFUSED.COUNT) ++ leBytes 4 s.sealc.firstRefused.toNat) with sealc := { s.sealc with firstRefused := 0 } }).set F.SEAL.REFUSED.COUNT 0

/-- What the first fired instant of a record interval begins anew: fault counts and first occurrences (R378, R381, R385, R397), the first substitution of a task (R343), SL_REFUSED (R109). -/
def State.intervalRoll (s : State) (i : Nat) : State :=
  if s.flt.interval = i then s else
    let s := { s with flt := { s.flt with interval := i, iso := [], blockN := [], seen := [], safe1 := 0, safe3 := 0 }, spn := { s.spn with substSeen := [] } }
    (s.rollbacksClear (List.range 8)).slRefusedEntry

/-- The figures of the interval that an instant belongs to (R521): one more instant. An instant that class P makes fire a second time (R61) is counted once. -/
def State.instantCount (s : State) : State :=
  let s := s.intervalNote 0
  let i := s.intervalNum
  let x := s.intervalGet i
  let fired := if s.recs.fired.contains i then s.recs.fired else s.recs.fired ++ [i]
  { s with recs := { s.recs with cur := alSet s.recs.cur i (if s.time.cycle < x.after then x else { x with ncyc := min 0xFFFFFFFF (x.ncyc + 1), after := s.time.cycle + 1 }), fired := fired } }

/-- The job of task k released at instant N (R319, R330, R333): one decided before takes its place; one already turned away creates nothing; one left from an earlier release is abandoned first,
unless it runs. While Spindle holds after a power-fail commit the release is abandoned with cause 6 (R328). -/
def State.release1 (s : State) (n k : Nat) : State :=
  match alFind s.spn.early k with
  | some j => if j.cycle ≤ n then ({ s with spn := { s.spn with early := alDel s.spn.early k } }).jobSet k j else s
  | none =>
    if s.releasesAt k n = false ∨ alFind s.spn.decided k = some n then s
    else
      let new : Job := { cycle := n, st := 0, charge := 0, ta := s.time.t, rel := n * s.cycleT + s.taskOffset k * 65536, dl := n * s.cycleT + s.taskDeadline k * 65536, deg := false }
      let put := fun (s : State) => if s.spn.held then ({ s with spn := { s.spn with decided := alSet s.spn.decided k n } }).releaseLost k n 6 else s.jobSet k new
      match alFind s.spn.jobs k with
      | some j =>
        if j.st = 2 then s
        else if j.st = 0 then put ((s.jobEnd k).releaseLost k j.cycle 5)
        else put (((s.raise F.SPN.STATUS.MISS 0 9).taskDone k).releaseLost k j.cycle 5)
      | none => put s

/-- The releases of an instant, in task order. -/
def State.releases (s : State) (n : Nat) : List Nat → State
  | [] => s
  | k :: ks => (s.release1 n k).releases n ks

/-- Releases at the resuming instant whose admission instant lay before it are abandoned (R328). -/
def State.resumeLost (s : State) (n : Nat) : List Nat → State
  | [] => s
  | k :: ks =>
    (match alFind s.spn.jobs k with
      | some j => if j.st = 0 ∧ j.cycle = n ∧ s.admitAt k n < n * s.cycleT then (s.jobEnd k).releaseLost k n 6 else s
      | none => s).resumeLost n ks

/-- Units that streams need at every cycle instant (R335): engine and regions of a stream with paths, and regions that take a pulse block. -/
def State.instantUnits (s : State) : List Nat :=
  (s.pathStreams.flatMap fun st => (8 + s.streamF st 0x11 1) :: s.streamRegions st) ++ (s.streams.filter fun st => s.pulseA st != 0xFF).flatMap fun st => s.streamRegions st

/-- Spindle at a fired instant (R319, R328, R335, R338, R339). -/
def State.spindleInstant (s : State) (n : Nat) : State :=
  if !s.on F.SPN.STATUS.RUN then s
  else if s.spn.held && !s.spn.resume then s.releases n (List.range s.ntask)
  else
    let back := s.spn.held
    let s := { s with spn := { s.spn with held := false, resume := false } }
    let s := s.releases n (List.range s.ntask)
    let us := s.instantUnits ++ if back then (s.spn.jobs.filter fun (e : Nat × Job) => e.2.st != 0).flatMap fun (e : Nat × Job) => s.unitsOf e.1 else []
    let s := if back then (s.resumeLost n (List.range s.ntask)).commitResume.commitAhead else s
    ((s.thaws us).envelope.heatRise).levelFall

/-! Zero-flow runs (R375). -/

/-- Whether a stream's result page holds the complete half of a cycle. -/
def State.halfDone (s : State) (st cyc : Nat) : Bool :=
  let a := rgnBase (s.homeRegion st) + pageHalf st cyc
  s.ldN a 8 == cyc && s.ldN (a + 0x0A) 1 == 2

/-- Add the good paths of a half page to a run. -/
def State.zeroPaths (s : State) (a mask : Nat) (z : ZeroCal) : List Nat → ZeroCal
  | [] => z
  | p :: ps =>
    let e := a + 0x40 + 64 * p
    let y := if bitsOf mask p p = 1 ∧ s.ldN (e + 0x3D) 1 % 4 = 0 then { z with sum := z.sum + sext 64 (s.ldN (e + 0x30) 8), count := z.count + 1, paths := Nat.lor z.paths (2 ^ p) } else z
    s.zeroPaths a mask y ps

/-- What a zero-flow run reads at a fired instant: the half of the cycle before it (R375). -/
def State.zeroInstant (s : State) (prev : Nat) : State := match s.cal.zero with
  | some z =>
    if z.left = 0 then s
    else
      let mask := s.get (F.ECHO.PATHS.MASK z.stream)
      let y := { z with left := z.left - 1, possible := z.possible + popcount64 mask, changed := z.changed || mask != z.mask }
      let y := if s.halfDone z.stream prev then s.zeroPaths (rgnBase (s.homeRegion z.stream) + pageHalf z.stream prev) mask y (List.range (s.npath z.stream)) else y
      { s with cal := { s.cal with zero := some y } }
  | none => s

/-- Cycle instant N fires at its time (R300 to R302). -/
def State.instant (s : State) (n : Nat) : State :=
  let t := n * s.cycleT
  let s := (s.advanceTo t).settle
  let s := s.zeroInstant s.time.cycle
  let s := { s with time := { s.time with cycle := n, fired := (n, s.time.fired.1) } }
  let s := s.pulseCycle n t
  let s := s.intervalRoll (s.intervalOf n)
  s.instantCount.spindleInstant n

/-- Whether cycle instants fire: the fast time base runs and an image has been loaded. -/
def State.instantsRun (s : State) : Bool := s.time.fast && s.on F.FLT.BOOT_STATUS.SLOT && decide (5 ≤ s.get F.FLT.BOOT_STATUS.STEP) && s.cycleT != 0

/-- The next cycle instant fires (R300). -/
def execCycleInstant (s : State) : Host.Outcome State Fault Refusal := .next (if s.instantsRun then s.instant s.nextCycle else s)

/-- TIME.HOLD seconds since the last accepted correction have elapsed, in whichever season: SYNC becomes HOLDOVER; the other states do not time out (R299). -/
def execHoldoverTimeout (s : State) : Host.Outcome State Fault Refusal :=
  .next (if s.get F.TIME.STATUS.SYNC = 1 then
      let s := if s.time.fast then (s.advanceTo s.holdEnd).settle else s.sleepTo s.holdEnd
      (s.set F.TIME.STATUS.SYNC 2).intervalNote 0
    else s)

/-! Time steps (R309 to R311). -/

/-- The end of the first lane clock tick after an instant (R303, R309). -/
def laneTick (t : Nat) : Nat := if t < 81920 then 81920 else 81920 + ((t - 81920) / tickT + 1) * tickT

/-- Whether a comparator matches within 10 µs after an instant, or earlier (R309). -/
def State.matchNear (s : State) (t : Nat) : Bool := (List.range 32).any fun n => match s.nextMatch n with
  | some (_, tm, _) => decide (tm ≤ t + 10 * usT)
  | none => false

/-- Where a sequence's remaining firings end: each is skipped with NOT_READY (R137, R309). `fuel` bounds the firings of one sequence. -/
def State.seqSkip (s : State) : Nat → ShotSeq → State
  | 0, _ => s
  | n + 1, q =>
    if q.wait.isSome then s
    else
      let s := s.fireSkip q (s.seqShot q) 1
      match s.seqAfter q with
      | some x => s.seqSkip n x
      | none => s

/-- Stop every running sequence (R309). -/
def State.seqsSkip (s : State) : List ShotSeq → State
  | [] => ({ s with acq := { s.acq with seqs := [] } }).seqShow
  | q :: qs => (s.seqSkip 524288 q).seqsSkip qs

/-- An instant moved by a step. -/
def shiftT (d : Int) (t : Nat) : Nat := ((t : Int) + d).toNat

/-- Move the instants of a list of pairs. -/
def shiftTs (d : Int) (l : List (Nat × Nat)) : List (Nat × Nat) := l.map fun (e : Nat × Nat) => (e.1, shiftT d e.2)

/-- What is measured from a past instant keeps its length: restarts of regions and blocks, safe state, capture windows and reservations, the running tasks and commits, warm-up of modulators, a calibration's hold, pending swaps,
an image load, replaced comparator settings. -/
def State.elapsedShift (s : State) (d : Int) : State :=
  let f := { s.flt with restart := shiftTs d s.flt.restart, blockDue := shiftTs d s.flt.blockDue, safeAt := shiftT d s.flt.safeAt }
  let lanes := s.acq.lanes.map fun (e : Nat × Lane) => (e.1, { e.2 with conn := shiftT d e.2.conn, opens := shiftT d e.2.opens, close := shiftT d e.2.close, upTo := shiftT d e.2.upTo })
  let bursts := s.acq.bursts.map fun (e : Nat × Burst) => (e.1, { e.2 with tx := shiftT d e.2.tx })
  let pairs := s.pairs.map fun (e : Nat × Pair) => (e.1, { e.2 with td := shiftT d e.2.td, log := e.2.log.map fun (l : CommitLog) => { l with due := shiftT d l.due } })
  let cal := { s.cal with running := s.cal.running.map fun (j : CalJob) => { j with stop := shiftT d j.stop } }
  let swaps := s.fabric.swaps.map fun (e : Nat × SwapReq) => (e.1, { e.2 with due := e.2.due.map (shiftT d) })
  let gw := { s.gw with load := s.gw.load.map fun (l : ImgLoad) => { l with since := shiftT d l.since } }
  { s with flt := f, acq := { s.acq with lanes := lanes, chTo := s.acq.chTo.map (fun (e : Nat × (Nat × Nat)) => (e.1, (shiftT d e.2.1, e.2.2))), bursts := bursts }, pairs := pairs, cal := cal, gw := gw,
           front := { s.front with warmTo := shiftTs d s.front.warmTo }, fabric := { s.fabric with swaps := swaps }, wdt := { s.wdt with hscAt := shiftT d s.wdt.hscAt },
           host := { s.host with cur := s.host.cur.map fun (c : HostCmd) => { c with since := shiftT d c.since }, long := s.host.long.map fun (c : HostCmd) => { c with since := shiftT d c.since } },
           time := { s.time with cmps := s.time.cmps.map fun (c : CmpOld) => { c with t := shiftT d c.t } } }

/-- The time fields after a step of `d` (R309, R310). The modulator edges of the 2 µs after it deliver alternating bits. -/
def State.stepTime (s : State) (d : Int) : State :=
  let t1 := shiftT d s.time.t
  let old := s.time.t
  let s := s.intervalNote 16
  let s := ((s.pulseShift d).chainsShift (edgeAfter old) (edgeAfter t1)).elapsedShift d
  let c1 := s.cycleAt t1
  let pass := decide (0 < d) && decide (s.time.cycle < c1) && s.instantsRun
  let s := if 0 < d then s.missedIn old t1 (List.range 32) else s
  let s := { s with time := { s.time with t := t1, grid := c1, floor := t1, cycle := if pass then c1 else s.time.cycle, step := none } }
  let s := { s with spn := { s.spn with nSec := s.sec }, front := { s.front with quiet := quietAdd 48 (edgeAfter t1) ((edgeAfter (t1 + 2 * usT) : Int) - 1) s.front.quiet } }
  ((if pass then s.set F.TIME.STATUS.CYC_SKIP 1 else s).set F.TIME.STATUS.STEP_PEND 0).intervalNote 16

/-- The audit entry and the result of an applied step (R308, R311). -/
def State.stepReport (s : State) (x : TStep) : State :=
  let s := if s.chip 0x28 4 * 65536 < x.amount.natAbs then s.auditPutAs x.sealst 0x40 0xFF (leBytes 8 (utwo 64 (Int.tdiv x.amount 65536)) ++ leBytes 1 (x.slot.getD 0xFF)) else s
  s.result x.tag 8 0 (leBytes 8 s.sec ++ leBytes 4 s.ns)

/-- Apply a pending step at an instant of the old scale. -/
def State.stepAtT (s : State) (x : TStep) (t : Nat) : State := (((s.advanceTo t).settle).stepTime x.amount).stepReport x

/-- The 100 ms point of a step (R309). -/
def TStep.latest (x : TStep) : Nat := x.acceptedAt + 100000 * usT

/-- Whether a comparator matches at or before an instant. -/
def State.matchBy (s : State) (t : Nat) : Bool := (List.range 32).any fun n => match s.nextMatch n with
  | some (_, tm, _) => decide (tm ≤ t)
  | none => false

/-- Whether a running sequence fires, or the window of its last firing closes, at or before an instant. -/
def State.acqBy (s : State) (t : Nat) : Bool := s.acq.seqs.any fun (q : ShotSeq) => match q.wait with
  | some l => decide ((s.lane l).close ≤ t)
  | none => decide (q.due ≤ t)

/-- Whether something comes before a step's 100 ms point: a match, a firing, or the close of a window. -/
def State.stepWaits (s : State) (x : TStep) : Bool := (s.matchBy x.latest || s.acqBy x.latest) && decide (laneTick s.time.t ≤ x.latest)

/-- An accepted step is applied (R309): at the end of the next lane clock tick where no sequence runs and no match is near, else at the 100 ms point, where the running sequences are stopped. What comes before that point comes
first. -/
def execTimeStepApply (s : State) : Host.Outcome State Fault Refusal :=
  .next (match s.time.step with
    | some x =>
      let e := laneTick s.time.t
      if s.acq.seqs.isEmpty && !s.matchNear e && decide (e ≤ x.latest) then s.stepAtT x e
      else if s.stepWaits x then s
      else (((s.advanceTo x.latest).settle).seqsSkip s.acq.seqs).stepAtT x x.latest
    | none => s)

end Sys2Proof.Machine
end

