-- ==== Sys2Proof/Machine/Flash.lean ====
section
/-! DEFINITION. The calls of the flash service routine, the end of an erase and the margin scrub (R402 to R420). dom 0 is Heartwood, 1 Sapwood. -/

namespace Sys2Proof.Machine

/-! What every call shares (R402 to R405). -/

/-- What a call returns: the status in a0 and the value in a1, where the manual states one. -/
def State.flRet (s : State) (dom st : Nat) (a1 : Option Nat) : State := s.setFa dom { s.fa dom with ret := (st, a1) }

/-- Whether code of a domain can call the routine. -/
def State.flRuns (s : State) (dom : Nat) : Bool := if dom = 0 then s.hscRuns else s.domRuns 1 && s.cores.any fun (e : Nat × Core) => e.2.running

/-- A call: BUSY while another call of the domain runs (R402), else what the call does. -/
def State.flCall (s : State) (dom : Nat) (busy : Bool) (f : State → State) : State :=
  if !s.flRuns dom then s else if busy then s.flRet dom 0x20 none else f s

/-- The base of an array in its domain's own map. -/
def flBase (dom : Nat) : Nat := if dom = 0 then 0x08000000 else 0x10000000

/-- Whether a range lies in the array. -/
def inArray (dom addr n : Nat) : Bool := decide (flBase dom ≤ addr) && decide (addr + n ≤ flBase dom + arrSize dom)

/-- Sectors first to last of a range that a caller may program or erase (R405). -/
def flOpen (dom addr n : Nat) : Bool :=
  if dom = 0 then decide (0x08C00000 ≤ addr) && decide (addr + n ≤ 0x09000000) else decide (0x10002000 ≤ addr)

/-- Whether a range may be read by a caller (R405). -/
def flReadable (dom addr n : Nat) : Bool :=
  if dom = 0 then decide (0x08002000 ≤ addr) && (decide (addr + n ≤ 0x0800E000) || decide (0x08010000 ≤ addr)) else decide (0x10002000 ≤ addr)

/-- Whether any word of a range lies in a protected and locked area (R417). -/
def FlashArr.anyLocked (x : FlashArr) (off n : Nat) : Bool := (List.range (areaOf (off + n - 1) + 1 - areaOf off)).any fun i => x.locked (areaOf off + i)

/-- Whether a word is undefined (R413). -/
def FlashArr.isUndef (x : FlashArr) (a : Nat) : Bool := x.undef.any fun (r : Nat × Nat) => decide (r.1 < a + 16) && decide (a < r.1 + r.2)

/-- The tagged address of an address argument. -/
def flTag (dom addr : Nat) : Nat := if dom = 0 then addr else 2 ^ 32 + addr

/-- Sixteen bytes drawn from the free values. -/
def State.undefBytes (s : State) : List Byte := (List.range 4).flatMap fun i => leBytes 4 (Config.freeWord (s.freeCtr + i)).toNat

/-- The controller's registers after it has worked on a word. -/
def State.flShow (s : State) (dom addr : Nat) (bs : List Byte) : State :=
  let s := s.set (F.FLASH.ADDR.WORD dom) ((addr - flBase dom) / 16)
  (((s.setW (F.FLASH.DATA.LANE dom 0).addr (BitVec.ofNat 32 (leNat (bs.take 4)))).setW (F.FLASH.DATA.LANE dom 1).addr (BitVec.ofNat 32 (leNat ((bs.drop 4).take 4)))).setW (F.FLASH.DATA.LANE dom 2).addr
    (BitVec.ofNat 32 (leNat ((bs.drop 8).take 4)))).setW (F.FLASH.DATA.LANE dom 3).addr (BitVec.ofNat 32 (leNat ((bs.drop 12).take 4)))

/-! READ (R403, R404, R411, R413). -/

/-- The copy of a control record that covers an address of Heartwood flash, with its pair. -/
def State.ctlCover (s : State) (a : Nat) : Option (Nat × CtlCopy) :=
  ([0, 1, 2, 3, 4, 5, 7].flatMap fun p => (s.copies p).map fun c => (p, c)).find? fun e => decide (e.2.addr e.1 ≤ a) && decide (a < e.2.addr e.1 + ctlLen e.1)

/-- The bytes of a word of the control zone or of zone 3: the records whose layout the manual gives and the device certificate (R94, R514), free bytes in the other records (log entries 2 and 173), else what memory holds. -/
def State.ctlBytes (s : State) (a : Nat) : List Byte := match s.ctlCover a with
  | some (p, c) => (match c.val with
    | .sel _ => s.ldBytes a 16
    | .keys ks => ((keyTable c.gen ks).drop (a - c.addr p)).take 16
    | _ => s.undefBytes)
  | none =>
    if 0x08302000 ≤ a ∧ a < 0x08302000 + 4 + Config.certLen then
      (List.range 16).map fun i =>
        let o := a - 0x08302000 + i
        if o < 4 then (leBytes 4 Config.certLen).getD o 0 else if o < 4 + Config.certLen then Config.certByte (o - 4) else 0xFF
    else s.ldBytes a 16

/-- What reading a word gives: bytes and a status of R404. `i` is the word's index in the call; `corr` and `uncorr` are the indexes at which the array's check found errors. -/
def State.flWord (s : State) (dom addr i : Nat) (corr uncorr : List Nat) : List Byte × Nat :=
  let x := s.fa dom
  if x.inErase (addr - flBase dom) then (List.replicate 16 0, 3)
  else if x.isUndef (flTag dom addr) then (s.undefBytes, (Config.freeWord (s.freeCtr + 4)).toNat % 3)
  else if uncorr.contains i then (s.undefBytes, 2)
  else if dom = 0 ∧ (addr < 0x08100000 ∨ (0x08300000 ≤ addr ∧ addr < 0x08400000)) then (s.ctlBytes addr, if corr.contains i then 1 else 0)
  else (s.ldBytes (flTag dom addr) 16, if corr.contains i then 1 else 0)

/-- Statuses in the order of R404: 0x00, 0x01, 0x03, 0x02. -/
def flRank (st : Nat) : Nat := if st = 2 then 3 else if st = 3 then 2 else st

/-- Report a word of Heartwood flash (R395). -/
def State.flReport (s : State) (dom addr st : Nat) : State :=
  if dom ≠ 0 then s else if st = 1 then s.eccCorr else if st = 2 then s.eccUncorr 8 addr 0xFF else s

/-- FLASH.STATUS after a word has been read. -/
def State.flReadShow (s : State) (dom addr st : Nat) (bs : List Byte) : State :=
  let s := s.set (F.FLASH.STATUS.ECC dom) (if st = 3 then 0 else st)
  let s := s.setB (F.FLASH.STATUS.BLANK dom) (st == 0 && bs == List.replicate 16 0xFF && !(s.fa dom).ones.contains (flTag dom addr))
  let s := if st = 3 then s.set (F.FLASH.STATUS.ERS_SUSP dom) 1 else s
  s.flShow dom addr bs

/-- What a word read leaves in the registers: nothing where it is undefined, whose arbitrary value and status change no other state (R10, R413). -/
def State.flNote (s : State) (dom addr st : Nat) (bs : List Byte) : State :=
  let x := s.fa dom
  if x.isUndef (flTag dom addr) && !x.inErase (addr - flBase dom) then s else (s.flReport dom addr st).flReadShow dom addr st bs

/-- Read words in order: the worst status so far and its first index, and whether every store to the destination ended well. -/
def State.flReads (s : State) (dom core addr dest : Nat) (corr uncorr : List Nat) : Nat → Nat → Nat × Nat → State × (Nat × Nat) × Bool
  | 0, _, w => (s, w, true)
  | n + 1, i, w =>
    let r := s.flWord dom (addr + 16 * i) i corr uncorr
    let s := ({ s with freeCtr := s.freeCtr + 5 } : State).flNote dom (addr + 16 * i) r.2 r.1
    let q := s.busWords dom core (dest + 16 * i) (wordsOf r.1)
    if q.2 then q.1.flReads dom core addr dest corr uncorr n (i + 1) (if flRank w.1 < flRank r.2 then (r.2, i) else w) else (q.1, w, false)

/-- READ (R403, R405, R411): `corr` and `uncorr` are the indexes of words the check corrected or found uncorrectable. -/
def execFlashRead (dom core addr n dest : Nat) (corr uncorr : List Nat) (busy : Bool) (s : State) : Host.Outcome State Fault Refusal :=
  guardUnit (Instr.wf (.flashRead dom core addr n dest corr uncorr busy)) (s.flCall dom busy fun s =>
    if addr % 16 ≠ 0 ∨ n = 0 ∨ 256 < n ∨ inArray dom addr (16 * n) = false then s.flRet dom 0x26 none
    else if flReadable dom addr (16 * n) = false then s.flRet dom 0x25 none
    else
      let r := s.flReads dom core addr dest corr uncorr n 0 (0, 0)
      if r.2.2 then r.1.flRet dom r.2.1.1 (some r.2.1.2) else r.1)

/-! PROGRAM (R403, R406, R407, R413, R414). -/

/-- Whether a word is blank; an undefined word may read as blank (free, log entry 2). -/
def State.flBlank (s : State) (dom addr : Nat) : Bool :=
  let x := s.fa dom
  if x.isUndef (flTag dom addr) then Config.freeBool s.freeCtr
  else s.ldBytes (flTag dom addr) 16 == List.replicate 16 0xFF && !x.ones.contains (flTag dom addr)

/-- A word whose program was cut is undefined, and in a dense zone of Sapwood its partner with it (R413, R414). -/
def State.flCut (s : State) (dom addr : Nat) : State :=
  let x := s.fa dom
  let a := flTag dom addr
  let both := dom == 1 && x.dense.contains ((addr - flBase dom) / 0x100000)
  s.setFa dom { x with undef := (a, 16) :: (if both then (if a % 0x1000 < 0x800 then (a + 0x800, 16) else (a - 0x800, 16)) :: x.undef else x.undef) }

/-- Write one word. -/
def State.flPut (s : State) (dom addr : Nat) (bs : List Byte) : State :=
  let s := (s.stBytes (flTag dom addr) bs).flShow dom addr bs
  if bs == List.replicate 16 0xFF then s.setFa dom { s.fa dom with ones := flTag dom addr :: (s.fa dom).ones } else s

/-- Program words in order: the status, the number of words programmed, and false where the supply failed before the end of the call. -/
def State.flPrograms (s : State) (dom addr : Nat) (failAt cutAt : Option Nat) : List (List Byte) → Nat → State × (Nat × Nat) × Bool
  | [], i => (s, (0, i), true)
  | bs :: rest, i =>
    let a := addr + 16 * i
    let blank := s.flBlank dom a
    let s := { s with freeCtr := s.freeCtr + 1 }
    if !blank then (s, (0x21, i), true)
    else if cutAt = some i then (s.flCut dom a, (0, i), false)
    else if failAt = some i then
      let s := s.set (F.FLASH.STATUS.PROG_FAIL dom) 1
      (s.setFa dom { s.fa dom with undef := (flTag dom a, 16) :: (s.fa dom).undef }, (0x22, i), true)
    else (s.flPut dom a bs).flPrograms dom addr failAt cutAt rest (i + 1)

/-- Words of 16 bytes. -/
def words16 : Nat → List Byte → List (List Byte)
  | 0, _ => []
  | n + 1, bs => bs.take 16 :: words16 n (bs.drop 16)

/-- The status that refuses a program or erase of a range, if any (R404, R405, R411, R417); `erase` says an erase, which a suspended one also refuses. -/
def State.flRefuse (s : State) (dom addr n : Nat) (erase : Bool) : Option Nat :=
  let x := s.fa dom
  if flOpen dom addr n = false then some 0x25
  else if x.anyLocked (addr - flBase dom) n then some 0x24
  else if x.erasing then some 0x20
  else if x.erase.isSome && (erase || (List.range (n / 16)).any fun i => x.inErase (addr - flBase dom + 16 * i)) then some 0x28
  else none

/-- Refuse a call with a status; PROTECTED shows in FLASH.STATUS. -/
def State.flRefused (s : State) (dom st : Nat) : State := (if st = 0x24 then s.set (F.FLASH.STATUS.PROT dom) 1 else s).flRet dom st none

/-- PROGRAM (R403, R406): `failAt` is the index of a word that does not verify after 12 pulses, `cutAt` that of a word whose program a loss of the array's supply interrupts. -/
def execFlashProgram (dom core addr n src : Nat) (failAt cutAt : Option Nat) (busy : Bool) (s : State) : Host.Outcome State Fault Refusal :=
  guardUnit (Instr.wf (.flashProgram dom core addr n src failAt cutAt busy)) (s.flCall dom busy fun s =>
    if addr % 16 ≠ 0 ∨ n = 0 ∨ 256 < n ∨ inArray dom addr (16 * n) = false then s.flRet dom 0x26 none
    else match s.flRefuse dom addr (16 * n) false with
      | some st => s.flRefused dom st
      | none =>
        let q := s.busLoad dom core src (16 * n)
        match q.2 with
        | none => q.1
        | some bs =>
          let r := q.1.flPrograms dom addr failAt cutAt (words16 n bs) 0
          if r.2.2 then r.1.flRet dom r.2.1.1 (some r.2.1.2) else r.1)

/-! ERASE, its end, STATUS, SUSPEND and RESUME (R408 to R412). -/

/-- ERASE (R403, R408). -/
def execFlashErase (dom addr : Nat) (busy : Bool) (s : State) : Host.Outcome State Fault Refusal :=
  guardUnit (Instr.wf (.flashErase dom addr busy)) (s.flCall dom busy fun s =>
    if addr % 0x1000 ≠ 0 ∨ inArray dom addr 0x1000 = false then s.flRet dom 0x26 none
    else match s.flRefuse dom addr 0x1000 true with
      | some st => s.flRefused dom st
      | none => ((s.eraseStart dom ((addr - flBase dom) / 0x1000) 1 false false).set (F.FLASH.ADDR.WORD dom) ((addr - flBase dom) / 16)).flRet dom 0x10 none)

/-- An erase that has not verified (R410): its sector stays undefined; a ring sector of Heartwood is passed over from then on, any other device zone puts Heartwood in safe state. -/
def State.eraseFailed (s : State) (dom : Nat) (e : Erase) : State :=
  let x := s.fa dom
  let s := s.setFa dom { x.eraseLost dom e with lastResult := 0x23 }
  let s := (s.set (F.FLASH.STATUS.ERS_FAIL dom) 1).flashShow dom
  let z := sectorZone e.sector
  let s := if dom ≠ 0 ∨ (12 ≤ z ∧ z ≤ 15) then s
    else if 16 ≤ z then
      let s := { s with recs := { s.recs with badSectors := (e.sector - 4096) :: s.recs.badSectors.filter (· != e.sector - 4096) } }
      s.eraseWant (4096 + s.recSector ((s.recs.nextIndex + 7) / 8 * 8))
    else s.enterSafe 3
  s.eraseNext dom

/-- The running erase ends (R408 to R410, R414): `ok` says it verified. HIC source 6 or SIC source 24 follows. -/
def execEraseEnd (dom : Nat) (ok : Bool) (s : State) : Host.Outcome State Fault Refusal :=
  guardUnit (Instr.wf (.eraseEnd dom ok)) (match (s.fa dom).erase with
    | some e =>
      if e.susp then s
      else if dom = 0 then ((if ok then s.eraseDone 0 e else s.eraseFailed 0 e).icEdge 0 6).clearEnd
      else (if ok then s.eraseDone 1 e else s.eraseFailed 1 e).icEdge 1 24
    | none => s)

/-- The value STATUS returns. -/
def FlashArr.status (x : FlashArr) : Nat := (if x.erasing then 1 else if x.erase.isSome then 2 else 0) + 256 * x.lastResult

/-- STATUS (R403). -/
def execFlashStatus (dom : Nat) (busy : Bool) (s : State) : Host.Outcome State Fault Refusal :=
  guardUnit (Instr.wf (.flashStatus dom busy)) (s.flCall dom busy fun s => s.flRet dom 0 (some (s.fa dom).status))

/-- SUSPEND (R411): BAD_ARG with no erase to suspend. -/
def execSuspend (dom : Nat) (busy : Bool) (s : State) : Host.Outcome State Fault Refusal :=
  guardUnit (Instr.wf (.suspend dom busy)) (s.flCall dom busy fun s => match (s.fa dom).erase with
    | some e => if e.susp then s.flRet dom 0x26 none else ((s.setFa dom { s.fa dom with erase := some { e with susp := true } }).flashShow dom).flRet dom 0 none
    | none => s.flRet dom 0x26 none)

/-- RESUME (R411). -/
def execResume (dom : Nat) (busy : Bool) (s : State) : Host.Outcome State Fault Refusal :=
  guardUnit (Instr.wf (.resume dom busy)) (s.flCall dom busy fun s => match (s.fa dom).erase with
    | some e => if e.susp then ((s.setFa dom { s.fa dom with erase := some { e with susp := false, byCommit := false } }).flashShow dom).flRet dom 0 none else s.flRet dom 0x26 none
    | none => s.flRet dom 0x26 none)

/-! Protection (R416, R417). -/

/-- Why a protection call is refused: no such area, an area of a Heartwood device zone, a lockout. -/
def State.flArea (s : State) (dom area : Nat) (pass : Bool) : Option Nat :=
  if (if dom = 0 then 128 else 32) ≤ area then some 0x26
  else if dom = 0 ∧ (area < 48 ∨ 63 < area) then some 0x25
  else if pass = true ∧ 8 ≤ (s.fa dom).fails then some 0x27
  else none

/-- The password of an area: all ones where none is set. -/
def FlashArr.password (x : FlashArr) (area : Nat) : List Byte := alGet (List.replicate 16 0xFF) x.pass area

/-- A wrong password: one failure more. -/
def State.flWrong (s : State) (dom : Nat) : State := s.setFa dom { s.fa dom with fails := (s.fa dom).fails + 1 }

/-- UNLOCK (R417): `pw` is the address of the password. -/
def execUnlock (dom core area pw : Nat) (busy : Bool) (s : State) : Host.Outcome State Fault Refusal :=
  guardUnit (Instr.wf (.unlock dom core area pw busy)) (s.flCall dom busy fun s => match s.flArea dom area true with
    | some st => s.flRet dom st (if st = 0x27 then some 0 else none)
    | none =>
      let q := s.busLoad dom core pw 16
      let s := q.1
      match q.2 with
      | none => s
      | some bs =>
        if bs == (s.fa dom).password area then
          (s.setFa dom { s.fa dom with unlocked := area :: (s.fa dom).unlocked.filter (· != area), fails := 0 }).flRet dom 0 (some 8)
        else
          let s := s.flWrong dom
          s.flRet dom 0x24 (some (8 - (s.fa dom).fails)))

/-- LOCK (R417). -/
def execLock (dom area : Nat) (busy : Bool) (s : State) : Host.Outcome State Fault Refusal :=
  guardUnit (Instr.wf (.lock dom area busy)) (s.flCall dom busy fun s => match s.flArea dom area false with
    | some st => s.flRet dom st none
    | none => (s.setFa dom { s.fa dom with unlocked := (s.fa dom).unlocked.filter (· != area) }).flRet dom 0 none)

/-- SETPW (R417): `old` and `new` are the addresses of the passwords. -/
def execSetpw (dom core area old new : Nat) (busy : Bool) (s : State) : Host.Outcome State Fault Refusal :=
  guardUnit (Instr.wf (.setpw dom core area old new busy)) (s.flCall dom busy fun s => match s.flArea dom area true with
    | some st => s.flRet dom st none
    | none =>
      let q := s.busLoad dom core old 16
      let r := q.1.busLoad dom core new 16
      match q.2, r.2 with
      | some o, some n =>
        let s := r.1
        let x := s.fa dom
        if o == x.password area then
          (s.setFa dom { x with pass := if n == List.replicate 16 0xFF then alDel x.pass area else alSet x.pass area n, fails := 0 }).flRet dom 0 none
        else (s.flWrong dom).flRet dom 0x24 none
      | none, _ => q.1
      | some _, none => r.1)

/-! Sapwood's own calls (R414, R419, R420). -/

/-- ZONECFG (R414): the zone is erased under one journal entry, and its mode is recorded at the end of that erase. What the call answers for zone 0 is not stated (free, log entry 2). -/
def execZonecfg (dom zone mode : Nat) (busy : Bool) (s : State) : Host.Outcome State Fault Refusal :=
  guardUnit (Instr.wf (.zonecfg dom zone mode busy)) (s.flCall dom busy fun s =>
    if dom = 0 then s.flRet 0 0x25 none
    else if 8 ≤ zone ∨ 2 ≤ mode then s.flRet 1 0x26 none
    else if zone = 0 then s.free.2.flRet 1 s.free.1.toNat none
    else match s.flRefuse 1 (0x10000000 + 0x100000 * zone) 0x100000 true with
      | some st => s.flRefused 1 st
      | none => (s.eraseStart 1 (256 * zone) 2 false (mode == 1)).flRet 1 0x10 none)

/-- ECNT (R419). -/
def execEcnt (dom addr : Nat) (busy : Bool) (s : State) : Host.Outcome State Fault Refusal :=
  guardUnit (Instr.wf (.ecnt dom addr busy)) (s.flCall dom busy fun s =>
    if dom = 0 then s.flRet 0 0x25 none
    else if addr % 0x10000 ≠ 0 ∨ inArray 1 addr 0x10000 = false then s.flRet 1 0x26 none
    else if addr < 0x10100000 then s.flRet 1 0x25 none
    else s.flRet 1 0 (some (alGet 0 s.sflash.ecnt ((addr - 0x10000000) / 0x10000))))

/-- MARGIN (R420): `weak`, `corr` and `uncorr` count the words the margin reads found weak, corrected and uncorrectable. A sector being erased is passed over. -/
def execMargin (dom addr weak corr uncorr : Nat) (busy : Bool) (s : State) : Host.Outcome State Fault Refusal :=
  guardUnit (Instr.wf (.margin dom addr weak corr uncorr busy)) (s.flCall dom busy fun s =>
    if dom = 0 then s.flRet 0 0x25 none
    else if addr % 0x1000 ≠ 0 ∨ inArray 1 addr 0x1000 = false then s.flRet 1 0x26 none
    else if s.sflash.inErase (addr - 0x10000000) then s.flRet 1 0 (some 0)
    else s.flRet 1 (if 0 < uncorr then 2 else if 0 < corr then 1 else 0) (some (min 256 weak)))

/-- Seconds from one scrub pass to the next (R420). -/
def State.scrubPeriod (s : State) : Nat := if s.get F.SPN.STATUS.THERM ≠ 0 ∨ 1250 ≤ s.tmax then 21600 else 86400

/-- Whether the ROM scrubs a sector: a device zone, and not a sector whose erase runs or is suspended. -/
def State.scrubbed (s : State) (sec : Nat) : Bool := (decide (sec < 3072) || decide (4096 ≤ sec)) && !s.hflash.inErase (0x1000 * sec)

/-- MEM_ECC entries for the uncorrectable words of a pass. -/
def State.scrubUncorr (s : State) (lo hi : Nat) : List Nat → State
  | [] => s
  | a :: as => (if lo ≤ (a - 0x08000000) / 0x1000 ∧ (a - 0x08000000) / 0x1000 < hi ∧ 0x08000000 ≤ a ∧ s.scrubbed ((a - 0x08000000) / 0x1000) = true then s.eccUncorr 8 a 0xFF else s).scrubUncorr lo hi as

/-- A stretch of a margin scrub pass over the Heartwood device zones (R420), from the scrub position to sector `stop`: it begins a pass when that is due, and a pass that reaches the last sector ends.
`weak` counts the words found weak and `uncorr` holds the addresses of words that read UNCORR. -/
def execMarginScrubPass (stop weak : Nat) (uncorr : List Nat) (s : State) : Host.Outcome State Fault Refusal :=
  guardUnit (Instr.wf (.marginScrubPass stop weak uncorr)) (
    if !s.hscRuns || !s.time.fast then s
    else
      let x := s.hflash
      let s := if x.scrubPos = 0 then (s.advanceTo ((x.scrubAt + s.scrubPeriod) * secT)).settle else s
      let s := if x.scrubPos = 0 then { s with hflash := { s.hflash with scrubAt := s.sec, weak := 0 } } else s
      let s := s.scrubUncorr x.scrubPos stop uncorr
      { s with hflash := { s.hflash with scrubPos := if 8192 ≤ stop then 0 else max x.scrubPos stop, weak := s.hflash.weak + weak } })

end Sys2Proof.Machine
end

