-- ==== Sys2Proof/Machine/RegOps.lean ====
section
/-! DEFINITION. What a write to a register does to its fields by their access codes (R4, R5, R9). Hooks of single registers stand with their commands. -/

namespace Sys2Proof.Machine

/-- Whether a field takes a value: an empty list means all values (R9). -/
def FieldSpec.takes (f : FieldSpec) (v : Nat) : Bool := f.legal.isEmpty || f.legal.any fun r => decide (r.1 ≤ v) && decide (v ≤ r.2)

/-- A field after a write (R4): RW and SL take a permitted value, W1C and W1S clear and set the bits written 1, the others ignore the write. `sl` says an SL write takes effect. -/
def FieldSpec.write (f : FieldSpec) (sl : Bool) (old new : Nat) : Nat :=
  let o := bitsOf old f.hi f.lo
  let n := bitsOf new f.hi f.lo
  match f.acc with
  | .rw => if f.takes n then n else o
  | .sl => if sl && f.takes n then n else o
  | .w1c => o - Nat.land o n
  | .w1s => Nat.lor o n
  | .ro => o
  | .wo => o
  | .rs => o

/-- A register word after a write, field by field. -/
def fieldsWrite (sl : Bool) (old new : Nat) : List FieldSpec → Nat → Nat
  | [], v => v
  | f :: fs, v => fieldsWrite sl old new fs (setBits v f.hi f.lo (f.write sl old new))

/-- The word a register would hold after a write. -/
def State.written (s : State) (sl : Bool) (a : Nat) (w : Word) : Word := match findSpec regTable a with
  | some r => BitVec.ofNat 32 (fieldsWrite sl (s.rw a).toNat w.toNat r.fields (s.rw a).toNat)
  | none => s.rw a

end Sys2Proof.Machine
end

