-- ==== Sys2Proof/Machine/Front.lean ====
section
/-! DEFINITION. The precision converters and the pulse inputs (R167 to R187): one meaning per command. -/

namespace Sys2Proof.Machine

/-! Device settings (R109, R110, R176). -/

/-- The 100 µs of a powered modulator start again (R171). -/
def State.warmAgain (s : State) : List Nat → State
  | [] => s
  | n :: ns => (if s.on (F.SDC.STATUS.PWR n) then s.warmStart n else s).warmAgain ns

/-- The channels that a setting at an address governs: channel n for SDC.CFGn, for SDC.EXCk the users of the sources whose current its CODE sets (R175). -/
def State.settingChannels (s : State) (addr : Nat) : List Nat :=
  if addr < 0x400A0100 then [(addr - 0x400A0000) / 4]
  else if addr < 0x400B0000 then (List.range 48).filter fun n => (s.excUsed n).any fun k => s.excOwner k == (addr - 0x400A0100) / 4
  else []

/-- A setting comes into force (R171, R175); PIN.CFGn does at the next window start (R187). -/
def State.settingApply (s : State) (addr : Nat) (w : Word) : State :=
  let s := s.setW addr w
  let s := s.warmAgain (s.settingChannels addr)
  if addr < 0x400A0100 && s.excOdd ((addr - 0x400A0000) / 4) then s.raise (F.SDC.STATUS.EXC_FLT ((addr - 0x400A0000) / 4)) 0 (64 + (addr - 0x400A0000) / 4) else s

/-- Settings that waited for a calibration hold take effect (R176), those of channels no longer held. -/
def State.settingsRelease (s : State) : List (Nat × Word) → State
  | [] => s
  | (a, w) :: ds =>
    (if (s.settingChannels a).any fun n => s.on (F.SDC.STATUS.CAL n) then s
     else ({ s with front := { s.front with deferred := alDel s.front.deferred a } }).settingApply a w).settingsRelease ds

/-- A refused SL write (R109, R110): SL_REF, the count, and the address of the first since the last SL_REFUSED entry. -/
def State.slRefuse (s : State) (addr : Nat) : State :=
  let s := if s.get F.SEAL.REFUSED.COUNT = 0 then { s with sealc := { s.sealc with firstRefused := BitVec.ofNat 32 addr } } else s
  (s.set F.SEAL.STATUS.SL_REF 1).sat F.SEAL.REFUSED.COUNT 1

/-- The stored value of a setting: what waits for a hold, else the register. -/
def State.settingNow (s : State) (addr : Nat) : Word := (alFind s.front.deferred addr).getD (s.rw addr)

/-- A write to an SL register (R109, R110, R176): HSC knows the new value at once, and the copy of the record is programmed with the SL_WRITE entry (`State.frontAppend`). -/
def State.slDo (s : State) (addr : Nat) (value : Word) : State :=
  if s.on F.SEAL.STATUS.SEALED || !s.auditTakes 1 then s.slRefuse addr
  else
    let old := s.settingNow addr
    let new := match findSpec regTable addr with
      | some r => BitVec.ofNat 32 (fieldsWrite true old.toNat value.toNat r.fields old.toNat)
      | none => old
    let s := s.auditPut 0x12 0xFF (leBytes 4 addr ++ leBytes 4 old.toNat ++ leBytes 4 new.toNat)
    let s := { s with sealc := { s.sealc with slWrites := satAdd 0xFFFFFFFF s.sealc.slWrites 1 }, front := { s.front with fsValid := true, fs := alSet s.front.fs addr new } }
    if (s.settingChannels addr).any fun n => s.on (F.SDC.STATUS.CAL n) then { s with front := { s.front with deferred := alSet s.front.deferred addr new } }
    else s.settingApply addr new

/-- A write to SDC.CFGn, SDC.EXCk or PIN.CFGn by a Heartwood master (R110, R176), which runs only while Heartwood does. -/
def execSlWrite (addr : Nat) (value : Word) (s : State) : Host.Outcome State Fault Refusal :=
  guardUnit (Instr.wf (.slWrite addr value)) (if s.domRuns 0 then s.slDo addr value else s)

/-- The 100 µs of R171 end: the modulator's bits are valid. -/
def execModulatorWarmEnd (n : Nat) (s : State) : Host.Outcome State Fault Refusal :=
  guardUnit (Instr.wf (.modulatorWarmEnd n)) (match alFind s.front.warmTo n with
    | some t => (s.advanceTo t).settle
    | none => s)

/-! Pulse inputs. -/

/-- The polarity that input n counts: true for rising edges (R179, R183, R187). -/
def State.countsRise (s : State) (n : Nat) : Bool :=
  let h := s.pulseHead n
  if (s.pulseIn h).live then bitsOf (s.pulseIn h).cfg.toNat 2 2 == 0 else !s.on (F.PIN.CFG.EDGE h)

/-- An edge of the filtered input at an instant, to a level: counted or not by its polarity (R179, R185). -/
def State.pulseLevel (s : State) (n t : Nat) (level : Bool) : State :=
  let s := s.stampTo t
  if level = s.countsRise n then s.countedEdge n t else (s.anyEdge n t level).quadB n t (s.beyond t)

/-- A counted edge on input n, `d` steps of 125 ps after the present instant (R179). Edges while the receiver is off are lost (R187), and an edge that would end a phase below 8 ns never leaves the filter (R178). -/
def execPulseEdge (n d : Nat) (s : State) : Host.Outcome State Fault Refusal :=
  guardUnit (Instr.wf (.pulseEdge n d)) (
    let t := s.stampAt d
    if !s.on (F.PIN.STATUS.RXON n) then s.stampTo t else if s.phaseOk n t (s.countsRise n) then (s.pulseLevel n t (s.countsRise n)).settle else s)

/-- An edge of the uncounted polarity (R185). -/
def execPulseUncountedEdge (n d : Nat) (s : State) : Host.Outcome State Fault Refusal :=
  guardUnit (Instr.wf (.pulseUncountedEdge n d)) (
    let t := s.stampAt d
    if !s.on (F.PIN.STATUS.RXON n) then s.stampTo t else if s.phaseOk n t (!s.countsRise n) then (s.pulseLevel n t (!s.countsRise n)).settle else s)

/-- A phase of `w` steps of 125 ps meets the glitch filter, which removes it where it is shorter than 8 ns; one of 20 ns or longer passes, and one between may do either (R178, R184; free, log entry 57). One that passes is a pair of
edges. -/
def execPulsePhaseRemoved (n d w : Nat) (s : State) : Host.Outcome State Fault Refusal :=
  guardUnit (Instr.wf (.pulsePhaseRemoved n d w)) (
    let t := s.stampAt d
    let gone := decide (w < 64) || (decide (w < 160) && Config.freeBool s.freeCtr)
    let s := if 64 ≤ w ∧ w < 160 then { s with freeCtr := s.freeCtr + 1 } else s
    let b := s.beyond t
    if !s.on (F.PIN.STATUS.RXON n) then s.stampTo t
    else if gone then
      let s := (s.stampTo t).settle
      (s.setPulse n ((s.pulseIn n).at_ b fun x => { x with merge := satAdd 0xFFFF x.merge 1 })).overrate n b
    else
      let up := !s.on (F.PIN.STATUS.LEVEL n)
      ((s.pulseLevel n t up).pulseLevel n (t + 8192 * w) (!up)).settle)

/-- The input has stayed at the level ACTIVE names for TIMEOUT ms without an edge (R185). An input that has had no edge since its receiver was switched on shows here that it rests at that level (log entry 179). -/
def execPulseStuckTimeout (n : Nat) (s : State) : Host.Outcome State Fault Refusal :=
  guardUnit (Instr.wf (.pulseStuckTimeout n)) (
    let x := s.pulseIn n
    let c := x.cfg.toNat
    if s.on (F.PIN.STATUS.RXON n) && bitsOf c 19 4 != 0 && (x.edge.isNone || s.get (F.PIN.STATUS.LEVEL n) == bitsOf c 3 3) then
      let s := s.set (F.PIN.STATUS.LEVEL n) (bitsOf c 3 3)
      let s := (s.stampTo x.stuckAt.toNat).settle
      if s.on (F.PIN.STATUS.STUCK n) then s else s.stuckSet n
    else s)

/-- A read of PIN.RUNLOn: RUNLO and RUNHI hold the snapshot (R179, PIN registers). -/
def execPinRunloRead (n : Nat) (s : State) : Host.Outcome State Fault Refusal :=
  guardUnit (Instr.wf (.pinRunloRead n)) (
    let v := utwo 64 (s.pulseIn n).run
    (s.set (F.PIN.RUN.ALL n 0) v).set (F.PIN.RUN.ALL n 1) (v / 2 ^ 32))

/-- The record block of a closed window is written into the stream's page (R181, R182): STATE 1, the records, the header with CYCLE, STATE 2. -/
def State.pulseBlock (s : State) (st : Nat) (a : PulseRec) (b : Option PulseRec) : State :=
  let at_ := fun (off : Nat) => pageHalf st a.cycle + 0x600 + off
  let s := s.pageWrite st (at_ 9) [1]
  let s := s.pageWrite st (at_ 0x40) a.bytes
  let s := match b with
    | some r => s.pageWrite st (at_ 0x80) r.bytes
    | none => s
  let s := s.pageWrite st (at_ 0) (leBytes 8 a.cycle ++ leBytes 1 st)
  let s := s.pageWrite st (at_ 0x0A) (leBytes 1 a.mode ++ [0, 0, 0, 0, 0] ++ leBytes 8 (a.start / secT) ++ leBytes 4 (a.start % secT / 65536) ++ List.replicate 36 0)
  s.pageWrite st (at_ 9) [2]

/-- The pulse record block of a stream (R181). -/
def execPulseBlockWrite (stream : Nat) (s : State) : Host.Outcome State Fault Refusal :=
  guardUnit (Instr.wf (.pulseBlockWrite stream)) (
    if s.hasStream stream && s.pulseA stream != 0xFF then match (s.pulseIn (s.pulseA stream)).closed with
      | some a => s.pulseBlock stream a (if s.pulseB stream = 0xFF then none else (s.pulseIn (s.pulseB stream)).closed)
      | none => s
    else s)

end Sys2Proof.Machine
end

