-- ==== Sys2Proof/Machine/Calib.lean ====
section
/-! DEFINITION. Calibration and zero-flow runs, and changes of parameters (R100, R240, R363 to R376). -/

namespace Sys2Proof.Machine

/-! Parameters (R100, R240). -/

/-- Pages of regions whose pair is idle take a changed parameter now; a running pair's when its task has ended (R240). -/
def State.paramPages (s : State) (id : Nat) : List Nat → State
  | [] => s
  | r :: rs =>
    (if (s.pair r).task.isSome then s.setPair r { s.pair r with params := id :: (s.pair r).params.filter (· != id) }
     else s.paramPage r ((List.range s.nparam).filter fun j => s.paramF j 0 2 == id)).paramPages id rs

/-- The PARAM entry with a PARAM_ID. -/
def State.paramIndex (s : State) (id : Nat) : Option Nat := (List.range s.nparam).find? fun j => s.paramF j 0 2 == id

/-- A parameter takes a value (R100): its PARAM_CHANGE entry, the count since the opening, and the parameter pages. The entry names the stream of the parameter. `slot` is the key slot, 0xFF unsigned, and `acc` SEALST at the acceptance of
the command (R108). A new copy of the current values is appended (R95, R400). -/
def State.paramSet (s : State) (acc id slot old new : Nat) : State :=
  let st := match s.paramIndex id with
    | some j => s.paramF j 2 1
    | none => 0xFF
  let s := s.auditPutAs acc 0x20 st (leBytes 2 id ++ leBytes 1 slot ++ [0] ++ leBytes 8 old ++ leBytes 8 new)
  let s := { s with params := alSet s.params id new, sealc := { s.sealc with paramChanges := satAdd 0xFFFFFFFF s.sealc.paramChanges 1 } }
  (s.ctlWrite 5 (.params s.params)).paramPages id s.regions

/-! What a calibration is (R363). -/

/-- The sort of run that judges a CALLIM KIND: 1 sigma-delta, 2 lane, 3 excitation, 4 reference. -/
def calSort (kind : Nat) : Nat := if kind ≤ 2 then 1 else if kind ≤ 4 then 2 else kind - 2

/-- The KINDs that a sort of run judges. -/
def calKinds (sort : Nat) : List Nat := if sort = 1 then [1, 2] else if sort = 2 then [3, 4] else [sort + 2]

/-- Time out of service (2^-16 ns). -/
def calTime (sort : Nat) : Nat := (if sort = 1 then 6000 else if sort = 2 then 1800 else if sort = 3 then 3000 else 20000) * usT

/-- Energy charge (2^-96 nJ). -/
def calEnergy (sort : Nat) : Int := (if sort = 1 then 50000 else if sort = 3 then 30000 else 150000) * fpOne

/-- The place of a sort in the order of R366. -/
def calRank (sort : Nat) : Nat := if sort = 4 then 0 else if sort = 3 then 1 else if sort = 1 then 2 else 3

/-- The channels a run holds. -/
def State.calHolds (s : State) (sort ch : Nat) : List Nat :=
  if sort = 1 then [ch]
  else if sort = 3 then (List.range 48).filter fun n => (s.excUsed n).contains ch
  else if sort = 4 then (List.range 48).filter fun n => s.on (F.SDC.STATUS.PWR n)
  else []

/-- CAL.STATUS shows the running calibration, else a zero-flow run. -/
def State.calShow (s : State) : State := match s.cal.running, s.cal.zero with
  | some j, _ => ((s.set F.CAL.STATUS.BUSY 1).set F.CAL.STATUS.KIND j.sort).set F.CAL.STATUS.CHANNEL j.channel
  | none, some z => ((s.set F.CAL.STATUS.BUSY 1).set F.CAL.STATUS.KIND 5).set F.CAL.STATUS.CHANNEL z.stream
  | none, none => ((s.set F.CAL.STATUS.BUSY 0).set F.CAL.STATUS.KIND 0).set F.CAL.STATUS.CHANNEL 0

/-! Due (R365). -/

/-- Queue a run, or note on the queued one why it waits. -/
def calQueue (sort ch due : Nat) (byDue byCmd slept : Bool) : List CalJob → List CalJob
  | [] => [{ sort := sort, channel := ch, byDue := byDue, byCommand := byCmd, postponed := 0, due := due, after := 0, stop := 0, held := [], slept := slept }]
  | j :: js => if j.sort = sort ∧ j.channel = ch then { j with byDue := j.byDue || byDue, byCommand := j.byCommand || byCmd, slept := j.slept && slept } :: js else j :: calQueue sort ch due byDue byCmd slept js

/-- The second at which a kind is due on a channel: PERIOD_S after its last completion, or after the first fabric load at which its entry applied. -/
def State.calDueAt (s : State) (kind ch : Nat) : Option Nat := match s.calEntry kind ch, alFind s.cal.since (256 * kind + ch) with
  | some j, some t0 => if s.limF j 8 4 = 0 then none else some (s.limF j 8 4 + (alFind s.cal.doneAt (256 * kind + ch)).getD t0)
  | _, _ => none

/-- PERIOD_S has passed for a kind and channel (R365): the run is queued; one that falls due asleep waits for a THAW for a job (R368). -/
def execCalibrationDue (kind ch : Nat) (s : State) : Host.Outcome State Fault Refusal :=
  guardUnit (Instr.wf (.calibrationDue kind ch)) (match s.calDueAt kind ch with
    | some t =>
      let s := if s.time.fast then (s.advanceTo (t * secT)).settle else if s.boot.cls = 1 ∨ s.pins.heldAo = true then s else s.sleepTo (t * secT)
      if s.sec < t ∨ (match s.cal.running with
          | some j => j.sort == calSort kind && j.channel == ch
          | none => false) = true then s
      else { s with cal := { s.cal with queue := calQueue (calSort kind) ch s.time.t true false (!s.time.fast) s.cal.queue } }
    | none => s)

/-! Start (R366 to R368). -/

/-- The first of a list of runs in the order of R366. -/
def calFirst : List CalJob → Option CalJob
  | [] => none
  | j :: js => match calFirst js with
    | some k => if calRank k.sort * 256 + k.channel < calRank j.sort * 256 + j.channel then some k else some j
    | none => some j

/-- Whether a running sequence fires on a lane before an instant (R367); `fuel` bounds the firings looked at. -/
def State.seqOnLane (s : State) (lane t : Nat) : Nat → ShotSeq → Bool
  | 0, _ => false
  | n + 1, q =>
    if q.wait.isSome || decide (t ≤ q.due) then false
    else if s.shotLane (s.seqShot q) = lane then true
    else match s.seqAfter q with
      | some x => s.seqOnLane lane t n x
      | none => false

/-- Where a lane calibration may start: the next lane clock tick, forced or not (R367). -/
def State.laneSlot (s : State) (j : CalJob) : Option (Nat × Bool) :=
  let e := laneTick s.time.t
  if (s.lane j.channel).fired || decide (e ≤ (s.lane j.channel).upTo) then none
  else if s.acq.seqs.any (s.seqOnLane j.channel (e + 1802 * usT) 4096) then (if j.due + 2 * s.cycleT < e then some (e, true) else none)
  else some (e, false)

/-- Where a run may start: a lane's as above, another at the first modulator edge later than the last fired cycle instant plus 20 ns (R366). -/
def State.calSlot (s : State) (j : CalJob) : Option (Nat × Bool) :=
  if j.sort = 2 then s.laneSlot j
  else
    let e := edgeT (edgeAfter (s.time.fired.1 * s.cycleT + 1310720))
    if s.time.t ≤ e then some (e, false) else none

/-- Remove a run from the queue. -/
def calDrop (j : CalJob) (q : List CalJob) : List CalJob := q.filter fun (x : CalJob) => x.sort != j.sort || x.channel != j.channel

/-- CAL_RUN ends when none of its calibrations waits or runs (R374). -/
def State.calCmdEnd (s : State) : State := match s.cal.cmd with
  | some (tag, a, r, d) =>
    if s.cal.queue.any (fun (j : CalJob) => j.byCommand) || (match s.cal.running with
        | some j => j.byCommand
        | none => false) then s
    else
      let s := { s with cal := { s.cal with cmd := none }, gw := { s.gw with long := none } }
      s.result tag 0x0D (if r = 0 then 0 else 0x0201) (leBytes 2 a ++ leBytes 2 r ++ leBytes 2 d)
  | none => s

/-- A run that the reserve or the heat does not allow is postponed to the next fired instant; one postponed 64 times is dropped from its command (R368, R374). -/
def State.calPostpone (s : State) (j : CalJob) : State :=
  let s := s.set F.CAL.STATUS.POSTPONED 1
  let n := if j.byCommand then j.postponed + 1 else j.postponed
  if j.byCommand && decide (64 ≤ n) then
    let k : CalJob := { j with byCommand := false, postponed := 0, after := s.time.cycle }
    let q := calDrop j s.cal.queue ++ (if j.byDue then [k] else [])
    let cmd := s.cal.cmd.map fun (e : Nat × (Nat × Nat × Nat)) => (e.1, (e.2.1, e.2.2.1, e.2.2.2 + 1))
    ({ s with cal := { s.cal with queue := q, cmd := cmd } }).calCmdEnd
  else { s with cal := { s.cal with queue := calDrop j s.cal.queue ++ [{ j with postponed := n, after := s.time.cycle }] } }

/-- Hold a list of channels: CAL shows it, and the modulators are powered (R171, R364). -/
def State.calHold (s : State) (e : Nat) : List Nat → State
  | [] => s
  | n :: ns =>
    let s := s.set (F.SDC.STATUS.CAL n) 1
    let s := s.sdOn n
    (s.chainsHold n e true).calHold e ns

/-- A run starts at an instant (R363, R364, R366). -/
def State.calBegin (s : State) (j : CalJob) (t : Nat) (forced : Bool) : State :=
  let hs := s.calHolds j.sort j.channel
  let s := { s with cal := { s.cal with queue := calDrop j s.cal.queue, running := some { j with stop := t + calTime j.sort, held := hs } } }
  let s := if forced then s.set F.CAL.STATUS.FORCED 1 else s
  let s := if j.sort = 2 then s.setLane j.channel { s.lane j.channel with upTo := t + calTime 2 } else s.calHold (edgeAfter (t - 1)) hs
  s.calShow

/-- The next due calibration starts, if none runs and its instant has come (R366 to R368). -/
def execCalibrationStart (s : State) : Host.Outcome State Fault Refusal :=
  .next (
    if s.cal.running.isSome || !s.time.fast || !s.on F.SPN.STATUS.RUN || s.on F.SPN.STATUS.PFAIL || s.spn.held then s
    else match calFirst (s.cal.queue.filter fun (j : CalJob) => !j.slept && (j.after == 0 || decide (j.after < s.time.cycle))) with
      | none => s
      | some j => match s.calSlot j with
        | none => s
        | some (t, forced) =>
          let s := (s.advanceTo t).settle
          if s.energyTest t (calEnergy j.sort) && s.heatTest then s.calBegin j t forced else s.calPostpone j)

/-! Judgement (R369 to R373). -/

/-- The correction in a kind's unit, rounded away from zero (R370). -/
def awayFromZero (m : Int) : Int := if 0 ≤ m then (m + 65535) / 65536 else -((-m + 65535) / 65536)

/-- A ramp from the value in force to a new one in RAMP steps (R372). -/
def rampTo (now : Int × Nat) (m : Int) (ramp : Nat) : Ramp :=
  { src := now.1 * 65536, dst := m * now.2, den := now.2 * 65536, steps := if ramp = 0 then 64 else ramp, done := 0 }

/-- Whether a chain applies a correction of a kind and channel (R371). -/
def State.chainTakes (s : State) (c kind ch : Nat) : Bool :=
  s.chainSrcKind c == 1 && (if kind ≤ 2 then s.chainSrc c == ch else if kind = 5 then s.get (F.SDC.CFG.MODE (s.chainSrc c)) != 0 && s.get (F.SDC.CFG.EXC (s.chainSrc c)) == ch else true)

/-- Every running chain that applies the correction ramps to its new value. -/
def State.chainRamps (s : State) (kind ch : Nat) (m : Int) (ramp : Nat) : List (Nat × Chain) → List (Nat × Chain)
  | [] => []
  | (c, x) :: cs => (c, if s.chainTakes c kind ch then { x with ramps := alSet x.ramps kind (rampTo (s.corrNow x kind ch) m ramp) } else x) :: s.chainRamps kind ch m ramp cs

/-- The value of a lane's correction in force, with its denominator. -/
def State.laneNow (s : State) (kind lane : Nat) : Int × Nat := match alFind s.cal.laneRamps (256 * kind + lane) with
  | some r => r.now
  | none => (alGet 0 s.cal.corr (256 * kind + lane), 65536)

/-- The keys of R373 that a correction marks. -/
def State.markKeys (s : State) (kind ch : Nat) : List Nat :=
  if kind ≤ 2 then [ch] else if kind ≤ 4 then [64 + ch] else if kind = 5 then (List.range 48).filter fun n => s.get (F.SDC.CFG.MODE n) != 0 && s.get (F.SDC.CFG.EXC n) == ch else List.range 48

/-- Mark a list of keys. -/
def State.marksReach (s : State) : List Nat → State
  | [] => s
  | k :: ks => (s.markReach k).marksReach ks

/-- The register that shows the quality of a kind on a channel, as a field, and how many units of 0.01 make one of its steps. -/
def qualField (kind ch : Nat) : Fld × Nat :=
  if kind = 1 then (F.CAL.SDQ.RES0 ch, 100) else if kind = 2 then (F.CAL.SDQ.RES1 ch, 10) else if kind = 3 then (F.CAL.LANEQ.RES0 ch, 10) else if kind = 4 then (F.CAL.LANEQ.RES1 ch, 100)
  else if kind = 5 then (F.CAL.EXCQ.RES0 ch, 10) else (F.CAL.REFQ.RES0, 10)

/-- Show a quality figure and keep its register in the calibration record. -/
def State.qualSet (s : State) (kind ch : Nat) (res : Int) : State :=
  let f := qualField kind ch
  let s := s.setI f.1 (heldAt res f.2)
  { s with cal := { s.cal with qual := alSet s.cal.qual f.1.addr (s.rw f.1.addr) } }

/-- Program what is queued in the audit trail and then an entry of its own (R121, R369). -/
def State.auditAtOnce (s : State) (kind stream : Nat) (data : List Byte) : State :=
  let s := s.auditPut kind stream data
  let q := s.audit.queue
  ({ s with audit := { s.audit with queue := [] } }).auditPrograms q

/-- The DATA of CAL_ACCEPT and CAL_REJECT (R120, R370). -/
def calData (kind ch : Nat) (m : Int) (lim : Nat) (res : Int) : List Byte :=
  leBytes 1 kind ++ leBytes 1 ch ++ [0, 0] ++ leBytes 4 (utwo 32 (awayFromZero m)) ++ leBytes 4 lim ++ leBytes 4 (utwo 32 res)

/-- A correction is accepted (R369, R371 to R373): the copy of the record that holds it and its CAL_ACCEPT entry are programmed, and it enters service. -/
def State.calAccept (s : State) (kind ch j : Nat) (m res : Int) : State :=
  let ramp := s.limF j 2 2
  let chains := if kind = 3 ∨ kind = 4 then s.fabric.chains else s.chainRamps kind ch m ramp s.fabric.chains
  let lanes := if kind = 3 ∨ kind = 4 then alSet s.cal.laneRamps (256 * kind + ch) (rampTo (s.laneNow kind ch) m ramp) else s.cal.laneRamps
  let s := ({ s with cal := { s.cal with corr := alSet s.cal.corr (256 * kind + ch) m } } : State).qualSet kind ch res
  let s := s.calStore.auditAtOnce 0x50 0xFF (calData kind ch m (s.limF j 4 4) res)
  let s := { s with fabric := { s.fabric with chains := chains }, cal := { s.cal with laneRamps := lanes } }
  ((s.sat F.CAL.COUNT.ACCEPT 1).marksReach (s.markKeys kind ch)).rampShow

/-- One result of a run (R363, R369): judged under its own entry, discarded without one; the record keeps the time of its completion (R365). `m` is the new correction in 2^-16 of its unit and `res` the residual in 0.01 of it. -/
def State.calJudge (s : State) (valid cmd : Bool) (kind ch : Nat) (m res : Int) : State := match s.calEntry kind ch with
  | none => s
  | some j =>
    let ok := valid && decide (m.natAbs ≤ s.limF j 4 4 * 65536)
    let s := { s with cal := { s.cal with doneAt := alSet s.cal.doneAt (256 * kind + ch) s.sec } }
    let s := if ok then s.calAccept kind ch j m res
      else (((s.set F.CAL.STATUS.REJECT 1).sat F.CAL.COUNT.REJECT 1).calStore).auditPut 0x51 0xFF (calData kind ch m (s.limF j 4 4) res)
    let count := s.cal.cmd.map fun (e : Nat × (Nat × Nat × Nat)) => if ok then (e.1, (e.2.1 + 1, e.2.2)) else (e.1, (e.2.1, e.2.2.1 + 1, e.2.2.2))
    { s with cal := { s.cal with cmd := if cmd then count else s.cal.cmd } }

/-- Release a list of channels (R171, R364). -/
def State.calRelease (s : State) (e : Nat) : List Nat → State
  | [] => s
  | n :: ns =>
    let s := (s.set (F.SDC.STATUS.CAL n) 0).chainsHold n e false
    (if s.sdNeeded n then s else s.sdOff n).calRelease e ns

/-- The hold ends and each result is judged (R363, R369): `valid` says the measurement was valid; `m0` and `m1` are the new corrections of the run's first and second kind in 2^-16 of the unit, `res0` and `res1` their
residuals in 0.01 of it. No flash is written while HSC restarts, so the judgement waits for it (R392). -/
def execCalibrationHoldEnd (valid : Bool) (m0 m1 res0 res1 : Int) (s : State) : Host.Outcome State Fault Refusal :=
  .next (match s.cal.running with
    | none => s
    | some j =>
      if !s.hscRuns then s else
      let s := (s.advanceTo j.stop).settle
      let s := { s with cal := { s.cal with running := none } }
      let s := (s.calRelease (edgeAfter s.time.t - 1) j.held).settingsRelease s.front.deferred
      let ks := calKinds j.sort
      let s := s.calJudge valid j.byCommand (ks.headD 0) j.channel m0 res0
      let s := match ks with
        | [_, k] => s.calJudge valid j.byCommand k j.channel m1 res1
        | _ => s
      (s.calShow.icEdge 0 5).calCmdEnd)

/-! Zero flow (R375). -/

/-- Δt0 in Q32.32 ps (R375); without a path-cycle there is none (free, log entry 2). -/
def State.zeroMean (s : State) (z : ZeroCal) : Int := if z.count = 0 then sext 64 (Config.freeReal s.freeCtr).toNat else heldAt (z.sum * 65536) z.count

/-- The run is judged (R375): the parameter takes Δt0 and the stream carries CAL to the end of the interval, or only the ZERO_CAL entry is made. -/
def State.zeroJudge (s : State) (z : ZeroCal) : State :=
  let d := s.zeroMean z
  let s := { s with freeCtr := s.freeCtr + 1, cal := { s.cal with zero := none }, gw := { s.gw with long := none } }
  let changed := z.changed || s.get (F.ECHO.PATHS.MASK z.stream) != z.mask
  let ok := decide (0 < z.count) && decide (z.possible * 9 ≤ z.count * 10) && !changed && decide (d.natAbs ≤ z.limit * 2 ^ 32)
  let acc := s.gw.sealst
  let s := s.auditPutAs acc 0x52 z.stream (leBytes 1 z.slot ++ leBytes 1 (if ok then popcount64 z.paths else 0) ++ [0, 0] ++ leBytes 8 (utwo 64 d))
  let s := if ok then (match s.paramIndex z.param with
      | some j => (s.paramSet acc z.param z.slot (s.paramVal j) (utwo 64 d)).markReach (256 + z.stream)
      | none => s)
    else s
  (s.calShow.result z.tag 0x0E (if ok then 0 else 0x0203) (leBytes 8 (utwo 64 d)))

/-- NCYC fired instants have passed (R375); HSC judges the run when it runs (R392). -/
def execZeroCalEnd (s : State) : Host.Outcome State Fault Refusal :=
  .next (match s.cal.zero with
    | some z => if z.left = 0 ∧ s.hscRuns = true then s.zeroJudge z else s
    | none => s)

end Sys2Proof.Machine
end

