-- ==== Sys2Proof/Machine/Echo.lean ====
section
/-! DEFINITION. The commands of the echo engines (R142, R143, R165). -/

namespace Sys2Proof.Machine

/-- An engine takes its next notice and carries out its job (R143). -/
def execEchoJob (e : Nat) (s : State) : Host.Outcome State Fault Refusal := guardUnit (Instr.wf (.echoJob e)) (s.echoRun e 0)

/-- The watchdog expires during the job of the head notice (R165): the job is rejected with ENGINE and the fault recorded. -/
def execEchoWatchdog (e : Nat) (s : State) : Host.Outcome State Fault Refusal :=
  guardUnit (Instr.wf (.echoWatchdog e)) (match s.noticeQ e with
    | [] => s
    | x :: _ =>
      let st := match s.shotOwner x.shot with
        | some (st, _, _) => st
        | none => 0xFF
      ((s.echoRun e 9).raise (F.ECHO.ERR.WDOG e) 0 (12 + e)).fault 0x40 0xFF st (leBytes 1 e ++ [0] ++ leBytes 2 x.shot ++ leBytes 4 x.cycle))

/-- Clear the counters of engines named in a mask. -/
def State.echoClear (s : State) (mask : Nat) : List Nat → State
  | [] => s
  | e :: es => (if bitsOf mask e e = 1 then (s.setW (F.ECHO.COUNT.ALL e).addr 0).setW (F.ECHO.DROP.ALL e).addr 0 else s).echoClear mask es

/-- A write of ECHO.CLR. -/
def execEchoClr (value : Word) (s : State) : Host.Outcome State Fault Refusal := .next (s.echoClear (bitsOf value.toNat 3 0) [0, 1, 2, 3])

end Sys2Proof.Machine
end

