-- ==== Sys2Proof/Machine/Faults.lean ====
section
/-! DEFINITION. Chip faults and safe state, the HSC watchdog, the scrubber and register parity (R392 to R397). -/

namespace Sys2Proof.Machine

/-- Heartwood's interconnect runs: out of reset, with PLL_SYS locked. -/
def State.fabricClock (s : State) : Bool := !s.pins.heldH && s.on F.CLK.STATUS.SYS_LOCK

/-- A parity error on a transaction, or a transaction not retired within 100 µs (R392, R429): `master` is the identifier of R427. -/
def execInterconnectFault (master addr : Nat) (s : State) : Host.Outcome State Fault Refusal :=
  guardUnit (Instr.wf (.interconnectFault master addr)) (
    if s.fabricClock then (s.fault 0x50 0xFF 0xFF (leBytes 1 master ++ [0, 0, 0] ++ leBytes 4 addr)).enterSafe 1 else s)

/-- The 100 ms of the HSC watchdog in 2^-16 ns (R394). -/
def hscWdtT : Nat := 100000 * usT

/-- The fault of an HSC restart: 1 the watchdog, 2 an uncorrectable word of HSC SRAM at `addr`, 3 a parity error of its ROM code (R395, R397). -/
def State.hscFault (s : State) (cause addr : Nat) (pc : Word) : State :=
  if cause = 1 then s.fault 0x52 0xFF 0xFF (leBytes 1 1 ++ [0, 0, 0] ++ leBytes 4 pc.toNat)
  else if cause = 2 then (s.eccUncorr 3 addr 0xFF).fault 0x52 0xFF 0xFF (leBytes 1 2 ++ [0, 0, 0] ++ leBytes 4 pc.toNat)
  else ((((s.sat F.FLT.ECC.UNCORR 1).set F.FLT.ECC.MEM 7).set F.FLT.ECC_ADDR.ADDR addr).fault 0x31 0xFF 0xFF (leBytes 1 8 ++ [0, 0, 0] ++ leBytes 4 addr))

/-- Safe state with cause 0b011 (R392, R394, R395): HSC stops until SAFE_EXIT. `pc` is HSC's program counter. -/
def execHscWatchdogExpiry (cause addr : Nat) (pc : Word) (s : State) : Host.Outcome State Fault Refusal :=
  guardUnit (Instr.wf (.hscWatchdogExpiry cause addr pc)) (
    if s.hscRuns && s.time.fast && !(cause == 1 && s.hscHalted) then
      let s := if cause = 1 then (s.advanceTo (s.wdt.hscAt + hscWdtT)).settle else s
      ((s.hscFault cause addr pc).hscGo).enterSafe 3
    else s)

/-- HSC has restarted from ROM and reloaded HSCFW (R103, R392); an abandoned write of the seal control word is answered by the restore of R105 (R407). -/
def State.hscRestarted (s : State) : State :=
  let s := (s.loadHscfw).heal 0x13000000 0x80000
  let s := if s.sealc.wordLost then s.sealRestore else s
  ({ s with wdt := { s.wdt with hscAt := s.time.t } }).sealCatchUp.clearEnd.x32Log

/-- Whether the cause of safe state can clear now: a clock loss only once THAW has completed, no image only by reset. -/
def State.safeMayEnd (s : State) : Bool :=
  s.on F.FLT.STATUS.SAFE && (s.get F.FLT.STATUS.CAUSE == 1 || s.get F.FLT.STATUS.CAUSE == 3 || (s.get F.FLT.STATUS.CAUSE == 2 && s.time.fast))

/-- Heartwood leaves safe state `durUs` microseconds after it entered it (R392, R397). -/
def execSafeExit (durUs : Nat) (s : State) : Host.Outcome State Fault Refusal :=
  .next (
    if s.safeMayEnd then
      let c := s.get F.FLT.STATUS.CAUSE
      let s := (s.advanceTo (s.flt.safeAt + durUs * usT)).settle
      let s := s.intervalNote 2
      let s := s.fault 0x53 0xFF 0xFF (leBytes 1 c ++ [0, 0, 0] ++ leBytes 4 durUs)
      let s := (s.set F.FLT.STATUS.SAFE 0).set F.FLT.STATUS.CAUSE 0
      let s := if c = 3 then s.hscRestarted else s
      s.icSample 0 1
    else s)

/-- A write of FLT.HSC_WDT (R394). -/
def State.hscKick (s : State) (value : Word) : State :=
  if bitsOf value.toNat 15 0 = 0x4B1D then { s with wdt := { hscAt := s.time.t, hscPause := s.wdt.hscPause.map fun _ => s.time.t } } else s

/-- A write of 0x4B1D to FLT.HSC_WDT.KEY restarts the count (R394). -/
def execHscWdtKick (value : Word) (s : State) : Host.Outcome State Fault Refusal := .next (s.hscKick value)

/-- Where a word of a memory kind stands among the words left uncorrectable. -/
def scrubAt (mem addr : Nat) : Nat := if mem = 5 then blockMem (addr / 2 ^ 24) + addr % 2 ^ 24 else if mem = 6 then progAddr (addr / 2 ^ 24) 0 + addr % 2 ^ 24 else addr

/-- Whether the scrubber reads a memory: Heartwood's interconnect runs and a region, with its blocks and pair, is not gated (R396). -/
def State.scrubs (s : State) (mem addr : Nat) : Bool := s.fabricClock && (scrubRegion mem addr == 0xFF || !s.regionGated (scrubRegion mem addr))

/-- The scrubber reads a 64-bit word (R396): `err` is 0 no error, 1 corrected and written back, 2 uncorrectable, which is reported and left in place. -/
def execScrub (mem addr err : Nat) (s : State) : Host.Outcome State Fault Refusal :=
  guardUnit (Instr.wf (.scrub mem addr err)) (
    if !s.scrubs mem addr then s
    else if err = 1 then s.eccCorr
    else if err = 2 then
      let s := s.eccUncorr mem addr (scrubRegion mem addr)
      if s.badIn (scrubAt mem addr) 8 then s else { s with flt := { s.flt with uncorr := scrubAt mem addr :: s.flt.uncorr } }
    else s)

/-- The field a setting's bit lies in, among the fields of its register. -/
def fieldAt (bit : Nat) : List FieldSpec → Option (Nat × Nat)
  | [] => none
  | f :: fs => if f.lo ≤ bit ∧ bit ≤ f.hi then some (f.hi, f.lo) else fieldAt bit fs

/-- The value that the source of a sealed field holds, as a whole register word (R396): the image, the settings record or the calibration record. -/
def State.paritySource (s : State) (a : Nat) : Nat :=
  if 0x400F0300 ≤ a ∧ a < 0x400F0340 then utwo 32 (alGet 0 s.cal.corr (256 * 3 + (a - 0x400F0300) / 4))
  else if 0x40180080 ≤ a ∧ a < 0x40180100 then (let st := (a - 0x40180080) / 4; if s.hasStream st then s.streamF st 0x20 1 else 1)
  else if 0x40090100 ≤ a ∧ a < 0x40090180 then 2 ^ s.streamF ((a - 0x40090100) / 4) 0x10 1 - 1
  else if 0x400C0100 ≤ a ∧ a < 0x400C0180 then s.img 3 ((a - 0x400C0100) / 4) 1 1 % 2
  else if 0x40040100 ≤ a ∧ a < 0x40040500 then (if a % 32 = 0 ∧ s.trigNamed ((a - 0x40040100) / 32) then 2 + 16 + 2 ^ 16 else 0)
  else if s.front.fsValid then (alGet 0 s.front.fs a).toNat else 0

/-- Fields that are sealed only while LOCK is set carry parity then (R304, R396). -/
def State.parityKept (s : State) (a bit : Nat) : Bool := !(decide (0x40040100 ≤ a) && decide (a < 0x40040500)) || (a % 32 == 0 && bit == 4) || s.on (F.TIME.CMPCTRL.LOCK ((a - 0x40040100) / 32))

/-- A sealed field loaded from a source fails parity: it is reloaded and logged (R396, R397). -/
def execRegParity (addr bit : Nat) (s : State) : Host.Outcome State Fault Refusal :=
  guardUnit (Instr.wf (.regParity addr bit)) (
    if s.pins.heldH || s.get F.FLT.BOOT_STATUS.STEP < 5 || !s.parityKept addr bit then s
    else
      let s := match findSpec regTable addr with
        | some r => (match fieldAt bit r.fields with
          | some (hi, lo) => s.set ⟨addr, hi, lo⟩ (bitsOf (s.paritySource addr) hi lo)
          | none => s)
        | none => s
      s.fault 0x32 0xFF 0xFF (leBytes 1 ((addr - 0x40000000) / 65536) ++ [0] ++ leBytes 2 (addr % 65536) ++ leBytes 1 bit ++ [0, 0, 0]))

end Sys2Proof.Machine
end

