-- ==== Sys2Proof/Machine/Irq.lean ====
section
/-! DEFINITION. The interrupt controllers' commands (R434 to R447) and mret (R529). c = 0 is HIC, 1 is SIC. -/

namespace Sys2Proof.Machine

/-- Whether a controller is powered and its sources are latched: HIC with Heartwood out of reset, SIC with Sapwood supplied and out of reset, and neither in FROST (R444, R445). -/
def State.icUp (s : State) (c : Nat) : Bool := !s.season.frost && if c = 0 then !s.pins.heldH else !s.pins.heldS && s.pins.vddSw

/-- An edge arrives, or a level source takes a level: that of the GPIO sources comes from the pins, every other level is that of the status bits it shows (R435, R446, R447). -/
def State.sourceEvent (s : State) (c n : Nat) (level : Bool) : State :=
  if icLevelSense c n then
    let s := if c = 0 ∧ n = 246 then { s with gpioH := level }
      else if c = 1 ∧ 64 ≤ n ∧ n ≤ 87 then { s with gpioS := if level then (n - 64) :: s.gpioS.filter (· != n - 64) else s.gpioS.filter (· != n - 64) }
      else s
    s.icSample c n
  else s.icEdge c n

/-- INTERRUPT_SOURCE_EVENT (R435, R436, R440). -/
def execInterruptSourceEvent (c n : Nat) (level : Bool) (s : State) : Host.Outcome State Fault Refusal :=
  guardUnit (Instr.wf (.interruptSourceEvent c n level)) (if s.icUp c then s.sourceEvent c n level else s)

/-- The source that a claim of target t returns: fast class first, then the lowest number; one still active is delivered again after its completion (R435, R437). -/
def State.claimNext (s : State) (c t : Nat) : Option Nat :=
  let mine := ((s.ic c).asg.filter fun (e : Nat × Nat) => e.2 == t && !s.on (activeF c e.1)).map fun (e : Nat × Nat) => e.1
  match mine.find? fun n => s.on (F.IC.SRC_CFG.CLASS c n) with
  | some n => some n
  | none => mine.head?

/-- A read of CLAIMt (R437). -/
def State.claim (s : State) (c t : Nat) : State := match s.claimNext c t with
  | some n =>
    let x := s.ic c
    let s := ((s.set (pendF c n) 0).set (activeF c n) 1).setIc c { x with asg := alDel x.asg n, own := alSet x.own n t }
    let s := ((s.set (F.IC.CLAIM.ID c t) n).setB (F.IC.CLAIM.FAST c t) (s.on (F.IC.SRC_CFG.CLASS c n))).set (F.IC.CLAIM.VALID c t) 1
    s.icLines c t
  | none => s.setW (F.IC.CLAIM.ALL c t).addr 0

/-- CLAIM (R437): a read by a master of a domain that runs. -/
def execClaim (c t : Nat) (s : State) : Host.Outcome State Fault Refusal := guardUnit (Instr.wf (.claim c t)) (if s.icUp c && s.domRuns c then s.claim c t else s)

/-- The storm window of a source: its re-pends so far and its opening, in PLL_SYS ticks; a window that is over is clear (R443). -/
def State.stormWindow (s : State) (c n : Nat) : Nat × Nat := match alFind (s.ic c).storm n with
  | some w => if w.2 + 250 * s.get (F.IC.STORMCFG.WINDOW c) ≤ s.time.plls then (0, s.time.plls) else w
  | none => (0, s.time.plls)

/-- A level source pends again at its completion, under the storm limiter (R438, R443). -/
def State.repend (s : State) (c n : Nat) : State :=
  let lim := s.get (F.IC.STORMCFG.COUNT c)
  if !s.icLevel c n || s.on (stormF c n) || s.on (pendF c n) then s
  else if lim = 0 then s.icHigh c n
  else
    let w := s.stormWindow c n
    if lim ≤ w.1 then s.set (stormF c n) 1 else (s.setIc c { s.ic c with storm := alSet (s.ic c).storm n (w.1 + 1, w.2) }).icHigh c n

/-- A write of COMPLETEt (R438). -/
def State.complete (s : State) (c t n : Nat) : State :=
  if s.on (activeF c n) && alFind (s.ic c).own n == some t then
    let s := (s.set (activeF c n) 0).setIc c { s.ic c with own := alDel (s.ic c).own n }
    (s.repend c n).icUpdate c
  else s.set (F.IC.TSTAT.CPL_ERR c t) 1

/-- COMPLETE (R438, R443). -/
def execComplete (c t : Nat) (value : Word) (s : State) : Host.Outcome State Fault Refusal :=
  guardUnit (Instr.wf (.complete c t value)) (if s.icUp c && s.domRuns c then s.complete c t (bitsOf value.toNat 7 0) else s)

/-- The moderation timer of a target reaches TIME (R441). -/
def execModerationTimeout (c t : Nat) (s : State) : Host.Outcome State Fault Refusal :=
  guardUnit (Instr.wf (.moderationTimeout c t)) (
    match alFind (s.ic c).timer t with
    | some since =>
      let s := (s.advancePlls (since + 250 * s.get (F.IC.MOD.TIME c t) - s.time.plls)).settle
      let x := s.ic c
      if (alFind x.timer t).isSome then (s.setIc c { x with timer := alDel x.timer t, expired := t :: x.expired.filter (· != t) }).icLines c t else s
    | none => s)

/-- Unmask the sources of a list whose STORM bit is written 1 (R443). -/
def State.stormUnmask (s : State) (c : Nat) : List Nat → State
  | [] => s
  | n :: ns =>
    (if s.on (stormF c n) then ((s.set (stormF c n) 0).setIc c { s.ic c with storm := alDel (s.ic c).storm n }).icSample c n else s).stormUnmask c ns

/-- The sources that a word of 32 bits names. -/
def sourcesOf (k v : Nat) : List Nat := ((List.range 32).filter fun j => bitsOf v j j == 1).map (32 * k + ·)

/-- STORM_CLEAR (R443): a write to STORM word k. -/
def execStormClear (c k : Nat) (value : Word) (s : State) : Host.Outcome State Fault Refusal :=
  guardUnit (Instr.wf (.stormClear c k value)) (if s.icUp c && s.domRuns c then s.stormUnmask c (sourcesOf k value.toNat) else s)

/-- A storm window ends WINDOW µs after its opening (R443): the source's count clears. -/
def execStormWindowEnd (c n : Nat) (s : State) : Host.Outcome State Fault Refusal :=
  guardUnit (Instr.wf (.stormWindowEnd c n)) (match alFind (s.ic c).storm n with
    | some w =>
      let s := (s.advancePlls (w.2 + 250 * s.get (F.IC.STORMCFG.WINDOW c) - s.time.plls)).settle
      s.setIc c { s.ic c with storm := alDel (s.ic c).storm n }
    | none => s)

/-- mret with CUR at 1 restores the normal bank, and what was held is delivered (R529). -/
def execMret (core : Nat) (s : State) : Host.Outcome State Fault Refusal :=
  guardUnit (Instr.wf (.mret core)) (
    if s.domRuns 1 && s.on (F.SC.BANKCTL.CUR core) then (s.set (F.SC.BANKCTL.CUR core) 0).icLines 1 core else s)

/-! Writes of the configuration registers (R436, R442). -/

/-- Settle the assignment of source n after a change of its enables: a pending source moves to a target whose enable is set, or stays unassigned. -/
def State.reassign (s : State) (c n : Nat) : State :=
  if !s.on (pendF c n) then s
  else
    let x := s.ic c
    let ok := match alFind x.asg n with
      | some t => s.on (if t = 0 then F.IC.SRC_CFG.EN_T0 c n else F.IC.SRC_CFG.EN_T1 c n)
      | none => false
    if ok then s.icUpdate c else (s.setIc c { x with asg := alDel x.asg n }).icPend c n

/-- A write of 1 to PEND bits: the sources pend no more, but a level still asserted pends again (R431, PENDk). -/
def State.pendClear (s : State) (c : Nat) : List Nat → State
  | [] => s
  | n :: ns =>
    (if s.on (pendF c n) then (((s.set (pendF c n) 0).setIc c { s.ic c with asg := alDel (s.ic c).asg n }).icUpdate c).icSample c n else s).pendClear c ns

end Sys2Proof.Machine
end

