-- ==== Sys2Proof/Machine/HwWrite.lean ====
section
/-! DEFINITION. A 32-bit write to a Heartwood register, by whichever master makes it (R4, R5, R9, R431): its fields follow their access codes, and registers that act do what their
commands do. What a device outside would answer to such a write is free (log entry 2); the commands of those registers carry it as operands. -/

namespace Sys2Proof.Machine

/-- The unit of a list whose registers hold an address. -/
def unitAt (base : Nat → Nat) (size a : Nat) (ns : List Nat) : Option Nat := ns.find? fun n => decide (base n ≤ a) && decide (a < base n + size)

/-- A write that every field takes by its access code. -/
def State.plainWrite (s : State) (a : Nat) (w : Word) : State := s.setW a (s.written false a w)

/-- A write to an interrupt controller's register (R436, R438, R442, R443); the configuration of a reserved source reads 0 (R435). -/
def State.icWrite (s : State) (c a : Nat) (w : Word) : State :=
  let off := a - icBase c
  let k := off % 0x40 / 4
  if off < 0x400 then (if icListed c (off / 4) then (s.plainWrite a w).reassign c (off / 4) else s)
  else if off < 0x440 then s.pendClear c (sourcesOf k w.toNat)
  else if 0x480 ≤ off ∧ off < 0x4C0 then s.stormUnmask c (sourcesOf k w.toNat)
  else if 0x600 ≤ off ∧ off < 0x680 ∧ off % 0x40 = 4 then s.complete c ((off - 0x600) / 0x40) (bitsOf w.toNat 7 0)
  else (s.plainWrite a w).icUpdate c

/-- A write to a two-wire port's register (R461, R463, R467). Whether a recovery frees SDA is not for the part to say: it is free. -/
def State.twWrite (s : State) (n a : Nat) (w : Word) : State :=
  let off := a - twBase n
  let v := w.toNat
  if off = 0x08 then s.twCmd n v
  else if off = 0x0C then s.twTx n v
  else if off = 0x24 then
    let s := if bitsOf v 0 0 = 1 ∧ s.twUsed n = true then s.twEnd n 6 else s
    if bitsOf v 1 1 = 1 ∧ s.on (F.TW.STATUS.BUSY n) = false then
      let freed := Config.freeBool s.freeCtr
      let s := { s with freeCtr := s.freeCtr + 1 }
      if freed then s else s.twFlag n (F.TW.STATUS.SDA_LOW n)
    else s
  else (s.plainWrite a w).twIrq n

/-- Bytes that come from outside: `n` free values from a place of the counter (log entry 2). -/
def freeBytes (ctr n : Nat) : List Byte := (List.range n).map fun i => BitVec.ofNat 8 (Config.freeWord (ctr + i)).toNat

/-- A write to a clocked serial port's register (R477, R479, R487). What a discovery reads is free: the first 256 bytes that the memory could answer. -/
def State.cspWrite (s : State) (n a : Nat) (w : Word) : State :=
  let off := a - cspBase n
  let v := w.toNat
  if off = 0x14 then
    let s := if bitsOf v 1 1 = 1 then s.cspAbort n else s
    let s := if bitsOf v 2 2 = 1 ∧ n = 5 then ({ s with freeCtr := s.freeCtr + 256 }).discover (freeBytes s.freeCtr 256) else s
    if bitsOf v 0 0 = 1 then s.cspGo n else s
  else if off = 0x18 then s.cspTx n v
  else (s.plainWrite a w).cspIrq n

/-- A write to BUSERR: COUNT clears when VALID is written 1 (R433). -/
def State.busErrWrite (s : State) (d : Nat) (w : Word) : State :=
  let s := s.plainWrite (busErrBase d) w
  if bitsOf w.toNat 9 9 = 1 then s.set (F.BUS.ERR.COUNT d) 0 else s

/-- A write to a Heartwood register. -/
def State.hwWrite (s : State) (a : Nat) (w : Word) : State :=
  if slAddr a then s.slDo a w
  else if a = F.FLT.HSC_WDT.ALL.addr then s.hscKick w
  else if a = busErrBase 0 then s.busErrWrite 0 w
  else if a = F.TIME.STAMP.ALL.addr then s.timeStamp w
  else if a = F.ECHO.CLR.ALL.addr then s.echoClear (bitsOf w.toNat 3 0) [0, 1, 2, 3]
  else if a = F.ACQ.CLR.ALL.addr then s.acqClear w
  else if 0x40040100 ≤ a ∧ a < 0x40040500 ∧ (a - 0x40040100) % 0x20 / 4 < 6 then s.cmpWrite ((a - 0x40040100) / 0x20) ((a - 0x40040100) % 0x20 / 4) w.toNat
  else if 0x40100000 ≤ a ∧ a < 0x40101000 then s.icWrite 0 a w
  else match unitAt twBase 0x10000 a [0, 1, 2, 3] with
    | some n => s.twWrite n a w
    | none => match unitAt cspBase 0x10000 a [0, 1] with
      | some n => s.cspWrite n a w
      | none => s.plainWrite a w

end Sys2Proof.Machine
end

