-- ==== Sys2Proof/Machine/ImageCheck.lean ====
section
/-! DEFINITION. The checks of a Grain image (R71 to R92, R133, R177, R189, R195, R238, R239, R257, R258, R321, R386, R523, R553). An image is read through a function from offset and size to the little-endian number there. -/

namespace Sys2Proof.Machine

/-- Reads an image: the number of `n` bytes at an offset. -/
abbrev Img := Nat → Nat → Nat

/-- A section of the directory (R74). -/
structure Sec where
  ty : Nat
  inst : Nat
  off : Nat
  len : Nat
  deriving DecidableEq, Repr

/-- An image with its directory. -/
structure Image where
  im : Img
  secs : List Sec

/-- What IMG_CONTENT reports: TYPE, INSTANCE and byte offset (R553). -/
abbrev ImgFail := Nat × (Nat × Nat)

/-- A condition on an item of a section at an offset. -/
abbrev Cond := Sec × (Nat × Bool)

/-- The first condition that fails. -/
def firstFail (cs : List Cond) : Option ImgFail := (cs.find? fun (c : Cond) => !c.2.2).map fun (c : Cond) => (c.1.ty, (c.1.inst, c.2.1))

/-- The directory entries of an image (R73, R74). -/
def imgSecs (im : Img) : List Sec := (List.range (min 64 (im 0x10 2))).map fun i => { ty := im (64 + 16 * i) 2, inst := im (66 + 16 * i) 2, off := im (68 + 16 * i) 4, len := im (72 + 16 * i) 4 }

/-- The image at a reader. -/
def mkImage (im : Img) : Image := { im := im, secs := imgSecs im }

/-- Sections of a TYPE, in directory order. -/
def Image.all (x : Image) (ty : Nat) : List Sec := x.secs.filter fun (s : Sec) => s.ty == ty
/-- The section of a TYPE and INSTANCE. -/
def Image.find (x : Image) (ty inst : Nat) : Option Sec := x.secs.find? fun (s : Sec) => s.ty == ty && s.inst == inst
/-- Whether it exists. -/
def Image.has (x : Image) (ty inst : Nat) : Bool := (x.find ty inst).isSome
/-- A field of a section. -/
def Image.f (x : Image) (s : Sec) (off n : Nat) : Nat := x.im (s.off + off) n
/-- A field of the section of a TYPE and INSTANCE, 0 where there is none. -/
def Image.g (x : Image) (ty inst off n : Nat) : Nat := match x.find ty inst with
  | some s => x.f s off n
  | none => 0

/-- Round up to 16. -/
def up16 (n : Nat) : Nat := (n + 15) / 16 * 16

/-- Every byte from `a` up to below `b` is 0. -/
def Image.zero (x : Image) (s : Sec) (a b : Nat) : Bool := (List.range (b - a)).all fun i => x.f s (a + i) 1 == 0

/-! Checks 1 to 3 and 5. -/

/-- Check 1 (R73). -/
def imgFormat (im : Img) : Bool := im 0 4 == 0x314E5247 && im 4 2 == 1 && im 6 2 == 0 && im 8 4 == 0x880

/-- Check 2: LENGTH, and the bytes received. -/
def imgLengthOk (im : Img) (got : Nat) : Bool :=
  let n := im 0x0C 4
  decide (1024 ≤ n) && decide (n ≤ 4194304) && n % 16 == 0 && n == got

/-- TYPE and INSTANCE are known (R75). -/
def instOk (ty inst : Nat) : Bool :=
  if ty = 2 ∨ ty = 8 then decide (inst < 8) else if ty = 3 ∨ ty = 4 then decide (inst < 32) else decide (1 ≤ ty) && decide (ty ≤ 12) && inst == 0

/-- Directory order and uniqueness (R74). -/
def dirOrder : List Sec → Bool
  | a :: b :: r => (decide (a.ty < b.ty) || (a.ty == b.ty && decide (a.inst < b.inst))) && dirOrder (b :: r)
  | _ => true

/-- Sections follow one another from an offset, in whole 16-byte units, and end where the signature block begins (R72). -/
def placed (stop : Nat) : Nat → List Sec → Bool
  | a, [] => a == stop
  | a, s :: r => s.off == a && s.len % 16 == 0 && placed stop (a + s.len) r

/-- The LENGTH that a section's own counts give it, padded to 16 bytes (R72). -/
def Image.lenOf (x : Image) (s : Sec) : Nat :=
  if s.ty = 1 then 128 else if s.ty = 2 then 288 else if s.ty = 3 then up16 (4240 + x.f s 4 4) else if s.ty = 4 then up16 (64 + 8 * x.f s 0x10 1)
  else if s.ty = 5 ∨ s.ty = 7 then 16 + 32 * x.f s 0 2 else if s.ty = 6 then up16 (x.f s 4 4) else if s.ty = 8 then up16 (32 + 16 * x.f s 1 1 + 4 * x.f s 4 4)
  else if s.ty = 9 then 16 + 48 * x.f s 0 2 else if s.ty = 10 ∨ s.ty = 11 then 16 + 16 * x.f s 0 2 else s.len

/-- Offsets of the templates: `n` of them from offset `a` on, as far as they begin below `stop` (R84). -/
def Image.templGo (x : Image) (s : Sec) (stop : Nat) : Nat → Nat → List Nat
  | 0, _ => []
  | n + 1, a => if a + 16 ≤ stop then a :: x.templGo s stop n (a + 16 + 2 * x.f s (a + 2) 2) else []

/-- Offsets of the templates of a TEMPLATE section. -/
def Image.templs (x : Image) (s : Sec) : List Nat := x.templGo s (x.f s 4 4) (x.f s 0 2) 16

/-- Items of `size` bytes behind a head, as offsets. -/
def items (head size n : Nat) : List Nat := (List.range n).map fun i => head + size * i

/-- The reserved bytes and the padding of a section are 0 (R72). -/
def Image.secZero (x : Image) (s : Sec) : Bool :=
  if s.ty = 1 then x.zero s 0x0E 0x10 && x.zero s 0x22 0x24 && x.zero s 0x30 0x80
  else if s.ty = 2 then x.zero s 2 4 && x.zero s 0x0C 0x20
  else if s.ty = 3 then x.zero s 2 4 && x.zero s 8 16 && x.zero s (4240 + x.f s 4 4) s.len && (items 0x10 16 8).all fun a => x.zero s (a + 12) (a + 16)
  else if s.ty = 4 then x.zero s 0x12 0x14 && x.zero s 0x21 0x22 && x.zero s 0x2C 0x40 && x.zero s (64 + 8 * x.f s 0x10 1) s.len
  else if s.ty = 5 then x.zero s 2 16 && (items 16 32 (x.f s 0 2)).all fun a => x.zero s (a + 0x1A) (a + 0x1C)
  else if s.ty = 6 then x.zero s 2 4 && x.zero s 8 16 && ((x.templs s).all fun a => x.zero s (a + 4) (a + 16)) && x.zero s (x.f s 4 4) s.len
  else if s.ty = 7 then x.zero s 2 16 && (items 16 32 (x.f s 0 2)).all fun a => x.zero s (a + 0x15) (a + 0x20)
  else if s.ty = 8 then x.zero s 2 4 && x.zero s 0x0C 0x20 && ((items 32 16 (x.f s 1 1)).all fun a => x.zero s (a + 8) (a + 16)) && x.zero s (32 + 16 * x.f s 1 1 + 4 * x.f s 4 4) s.len
  else if s.ty = 9 then x.zero s 2 16 && (items 16 48 (x.f s 0 2)).all fun a => x.zero s (a + 6) (a + 8) && x.zero s (a + 0x25) (a + 0x30)
  else if s.ty = 10 then x.zero s 2 16 && (items 16 16 (x.f s 0 2)).all fun a => x.zero s (a + 12) (a + 16)
  else if s.ty = 11 then x.zero s 2 16 && (items 16 16 (x.f s 0 2)).all fun a => x.zero s (a + 4) (a + 8)
  else true

/-- Check 3 (R72 to R75, R89). R91 does not say where a LENGTH other than the section's own counts give fails: it fails here (DESIGN CHOICE, log entry 183). -/
def Image.layout (x : Image) : Bool :=
  let n := x.im 0x10 2
  let stop := x.im 0x0C 4 - 80
  decide (2 ≤ n) && decide (n ≤ 64) && dirOrder x.secs && (x.secs.all fun (s : Sec) => instOk s.ty s.inst) && x.has 1 0 && x.has 9 0 && placed stop (64 + 16 * n) x.secs &&
    (x.secs.all fun (s : Sec) => s.len == x.lenOf s) &&
    x.im 0x13 1 == 0 && ((List.range 14).all fun i => x.im (0x22 + i) 1 == 0) && ((List.range n).all fun i => x.im (64 + 16 * i + 12) 4 == 0) && (x.secs.all fun (s : Sec) => x.secZero s) &&
    x.im stop 4 == 0x47495347 && decide (x.im 0x12 1 < 4) && x.im (stop + 4) 1 == x.im 0x12 1 && (List.range 11).all fun i => x.im (stop + 5 + i) 1 == 0

/-- Check 5: the ROM and library versions of silicon revision 1 are 1 (R424). -/
def Image.romOk (x : Image) : Bool := decide (x.im 0x20 2 ≤ 1) && (x.all 8).all fun (s : Sec) => decide (x.f s 8 4 ≤ 1)

/-! Check 6, pass 1: field values. Each list holds offset and verdict in rising offset. -/

/-- A value lies in a range. -/
def within (lo hi v : Nat) : Bool := decide (lo ≤ v) && decide (v ≤ hi)
/-- A value is at most `hi` or all ones of `none`. -/
def upTo (hi no v : Nat) : Bool := decide (v ≤ hi) || v == no

/-- CHIP (R76). -/
def Image.chipFields (x : Image) (s : Sec) : List (Nat × Bool) :=
  let cyc := x.f s 0 4
  [(0x00, within 1000 3600000000 cyc && cyc % 1000 == 0), (0x04, within 1 86400 (x.f s 4 4) && decide (cyc ≠ 0) && x.f s 4 4 * 1000000 % cyc == 0), (0x08, x.f s 8 4 != 0), (0x0C, x.f s 0xC 2 != 0),
   (0x10, decide (65536 ≤ x.f s 0x10 4)), (0x1C, within 10000000 50000000 (x.f s 0x1C 4)), (0x20, decide (x.f s 0x20 1 ≤ 1)), (0x21, decide (x.f s 0x21 1 ≤ 1)),
   (0x24, if x.f s 0x21 1 = 1 then within 1000000 2500000 (x.f s 0x24 4) else x.f s 0x24 4 == 0), (0x28, within 1000 1000000000 (x.f s 0x28 4)), (0x2C, decide (x.f s 0x2C 2 ≤ 1500))]

/-- A totalizer descriptor (R77, R220). -/
def totDescOk (w : Nat) : Bool := if bitsOf w 11 11 = 0 then w == 0 else bitsOf w 31 14 == 0 && unitOk (bitsOf w 5 0)

/-- REGION (R77). The sum of RAWBUF and CKPT is tested here, at the second field (DESIGN CHOICE: no rule gives its pass; log entry 184). -/
def Image.regionFields (x : Image) (s : Sec) : List (Nat × Bool) :=
  [(0x00, x.f s 0 1 == s.inst), (0x01, decide (x.f s 1 1 < 4)), (0x08, decide (x.f s 4 4 + x.f s 8 4 ≤ 1572864))] ++
    (items 0x20 4 64).map fun a => (a, totDescOk (x.f s a 4))

/-- A cell descriptor at offset `a` (R79). -/
def Image.cellFields (x : Image) (s : Sec) (a : Nat) : List (Nat × Bool) :=
  let k := x.f s a 1
  let st := x.f s (a + 2) 1
  if k = 0 then [(a + 1, x.f s (a + 1) 1 == 0), (a + 2, st == 0), (a + 3, x.f s (a + 3) 1 == 0), (a + 4, x.f s (a + 4) 2 == 0), (a + 6, x.f s (a + 6) 2 == 0), (a + 8, x.f s (a + 8) 2 == 0),
    (a + 10, x.f s (a + 10) 1 == 0), (a + 11, x.f s (a + 11) 1 == 0)]
  else
    [(a, decide (k ≤ 3)), (a + 1, decide (x.f s (a + 1) 1 ≤ (if k = 1 then 47 else if k = 2 then 15 else 0))), (a + 2, decide (st ≤ 2)),
     (a + 3, if st = 0 then within 1 5 (x.f s (a + 3) 1) else x.f s (a + 3) 1 == 0), (a + 4, within 1 (if st = 0 then 4096 else if st = 1 then 16 else 1) (x.f s (a + 4) 2)),
     (a + 6, decide (x.f s (a + 6) 2 ≤ 511)), (a + 8, decide (x.f s (a + 6) 2 + x.f s (a + 8) 2 ≤ 512)), (a + 10, decide (x.f s (a + 10) 1 ≤ 47)),
     (a + 11, if st = 2 then within 4 20 (x.f s (a + 11) 1) else x.f s (a + 11) 1 == 0)]

/-- BLOCK (R78, R79). -/
def Image.blockFields (x : Image) (s : Sec) : List (Nat × Bool) :=
  [(0x00, x.f s 0 1 == s.inst), (0x01, decide (x.f s 1 1 ≤ 1)), (0x04, decide (x.f s 4 4 ≤ 65536) && x.f s 4 4 % 16 == 0)] ++ (items 0x10 16 8).flatMap (x.cellFields s) ++
    (items 0x90 4 1024).map fun a => (a, decide (x.f s a 4 < 2 ^ 24))

/-- STREAM (R81). Numbers of a region, a block, a stream or an instruction whose table states no range are tested here against what exists in the chip (DESIGN CHOICE, log entry 185). -/
def Image.streamFields (x : Image) (s : Sec) : List (Nat × Bool) :=
  let guarded := x.f s 4 1 == 1
  let np := x.f s 0x10 1
  [(0x00, x.f s 0 1 == s.inst), (0x01, within 1 5 (x.f s 1 1)), (0x02, within 1 4 (x.f s 2 1)), (0x03, decide (x.f s 3 1 < 8)), (0x04, decide (x.f s 4 1 < 2)),
   (0x05, if guarded then decide (x.f s 5 1 < 8) else x.f s 5 1 == 0xFF), (0x07, guarded || x.f s 7 1 == 0xFF), (0x0E, upTo 31 0xFF (x.f s 0xE 1)), (0x0F, upTo 31 0xFF (x.f s 0xF 1)),
   (0x10, decide (np ≤ 16) && (np == 0 || x.f s 1 1 == 1)), (0x11, if np = 0 then x.f s 0x11 1 == 0xFF else decide (x.f s 0x11 1 < 4)), (0x20, within 1 16 (x.f s 0x20 1)),
   (0x26, within 1 512 (x.f s 0x26 2))]

/-- Shot k at offset `a` (R133, R129, R131). -/
def Image.shotFields (x : Image) (s : Sec) (k a : Nat) : List (Nat × Bool) :=
  let m := x.f s (a + 0x0B) 1
  if x.f s a 1 % 2 = 0 then [(a, x.f s a 1 < 4)]
  else
    [(a, x.f s a 1 < 4), (a + 1, x.f s (a + 1) 1 ≤ 63), (a + 2, x.f s (a + 2) 1 ≤ 63), (a + 3, x.f s (a + 3) 1 < 64), (a + 4, upTo 1023 0xFFFF (x.f s (a + 4) 2)), (a + 8, within 20 4000 (x.f s (a + 8) 2)),
     (a + 10, within 1 32 (x.f s (a + 10) 1)), (a + 0x0B, m % 8 ≤ 4 && bitsOf m 3 3 == 0 && bitsOf m 5 4 ≤ 2 && m < 128),
     (a + 0x0C, x.f s (a + 0x0C) 4 % 2 == 0 && x.f s (a + 0x0C) 4 < 2 ^ x.f s (a + 10) 1),
     (a + 0x10, x.f s (a + 0x10) 4 % 2 ^ 24 ≤ 10485759 && upTo 31 0xFF (x.f s (a + 0x13) 1)), (a + 0x14, within 16 16384 (x.f s (a + 0x14) 2) && x.f s (a + 0x14) 2 % 16 == 0),
     (a + 0x16, x.f s (a + 0x16) 1 ≤ 120), (a + 0x17, within 64 240 (x.f s (a + 0x17) 1)), (a + 0x18, k < x.f s (a + 0x18) 2), (a + 0x1C, within 160 16777215 (x.f s (a + 0x1C) 4))]

/-- SHOT (R83). -/
def Image.shotsFields (x : Image) (s : Sec) : List (Nat × Bool) :=
  (0, within 1 1024 (x.f s 0 2)) :: (List.range (x.f s 0 2)).flatMap fun k => x.shotFields s k (16 + 32 * k)

/-- Bytes of the head and the templates (R84). -/
def Image.templTotal (x : Image) (s : Sec) : Nat := 16 + ((x.templs s).map fun a => 16 + 2 * x.f s (a + 2) 2).foldl (fun (p q : Nat) => p + q) 0

/-- TEMPLATE (R84): TOTAL is the size of the templates that NTEMPL counts. -/
def Image.templFields (x : Image) (s : Sec) : List (Nat × Bool) :=
  (4, (x.templs s).length == x.f s 0 2 && x.templTotal s == x.f s 4 4) :: (x.templs s).map fun a => (a + 2, within 16 4096 (x.f s (a + 2) 2) && x.f s (a + 2) 2 % 8 == 0)

/-- CHAIN (R80). -/
def Image.chainFields (x : Image) (s : Sec) : List (Nat × Bool) :=
  (0, within 1 96 (x.f s 0 2)) :: (List.range (x.f s 0 2)).flatMap fun i =>
    let a := 16 + 32 * i
    [(a, x.f s a 2 ≤ 95 && ((List.range i).all fun j => x.f s (16 + 32 * j) 2 != x.f s a 2)), (a + 2, x.f s (a + 2) 1 < 32), (a + 3, x.f s (a + 3) 1 ≤ 7),
     (a + 4, within 1 8 (x.f s (a + 4) 1) && x.f s (a + 3) 1 + x.f s (a + 4) 1 ≤ 8), (a + 5, upTo 15 0xFF (x.f s (a + 5) 1)), (a + 6, x.f s (a + 6) 2 < 2), (a + 0x14, upTo 31 0xFF (x.f s (a + 0x14) 1))]

/-- TALLY (R85). -/
def Image.tallyFields (x : Image) (s : Sec) : List (Nat × Bool) :=
  [(0, x.f s 0 1 == s.inst), (1, within 1 64 (x.f s 1 1)), (4, within 1 32768 (x.f s 4 4))] ++ (items 32 16 (x.f s 1 1)).map fun a => (a, decide (x.f s a 4 < x.f s 4 4))

/-- TASKS (R86). What a class permits in LADDER and DEFER_NS is tested here, at the field (DESIGN CHOICE: no rule gives its pass; log entry 184). -/
def Image.taskFields (x : Image) (s : Sec) : List (Nat × Bool) :=
  (0, within 1 256 (x.f s 0 2)) :: (List.range (x.f s 0 2)).flatMap fun k =>
    let a := 16 + 48 * k
    let c := x.f s (a + 1) 1
    let l := x.f s (a + 0x20) 1
    [(a, x.f s a 1 == k), (a + 1, within 1 3 c), (a + 2, x.f s (a + 2) 1 < 8), (a + 4, 1 ≤ x.f s (a + 4) 2), (a + 0x10, x.f s (a + 0x10) 4 ≤ 10000), (a + 0x18, x.f s (a + 0x18) 4 < 2 ^ 23),
     (a + 0x1C, c == 2 || x.f s (a + 0x1C) 4 == 0), (a + 0x20, l < 64 && (bitsOf l 0 0 == 0 || c == 3) && (bitsOf l 1 1 == 0 || c == 2) && (bitsOf l 5 5 == 0 || c == 1)),
     (a + 0x21, within 1 16 (x.f s (a + 0x21) 1)), (a + 0x22, within 1 16 (x.f s (a + 0x22) 2)), (a + 0x24, upTo 31 0xFF (x.f s (a + 0x24) 1))]

/-- Highest channel of a calibration KIND (R87). -/
def calimTop (kind : Nat) : Nat := if kind ≤ 2 then 47 else if kind ≤ 4 then 15 else if kind = 5 then 23 else 0

/-- CALLIM (R87). -/
def Image.calimFields (x : Image) (s : Sec) : List (Nat × Bool) :=
  (items 16 16 (x.f s 0 2)).flatMap fun a =>
    [(a, within 1 6 (x.f s a 1)), (a + 1, upTo (calimTop (x.f s a 1)) 0xFF (x.f s (a + 1) 1)), (a + 2, decide (x.f s (a + 2) 2 ≤ 4096))]

/-- PARAM (R88). -/
def Image.paramFields (x : Image) (s : Sec) : List (Nat × Bool) :=
  (0, decide (x.f s 0 2 ≤ 256)) :: (List.range (x.f s 0 2)).flatMap fun i =>
    let a := 16 + 16 * i
    [(a, x.f s a 2 ≤ 255 && ((List.range i).all fun j => x.f s (16 + 16 * j) 2 != x.f s a 2)), (a + 2, x.f s (a + 2) 1 < 32), (a + 3, x.f s (a + 3) 1 < 8)]

/-- The fields of a section, in rising offset. -/
def Image.fields (x : Image) (s : Sec) : List (Nat × Bool) :=
  if s.ty = 1 then x.chipFields s else if s.ty = 2 then x.regionFields s else if s.ty = 3 then x.blockFields s else if s.ty = 4 then x.streamFields s else if s.ty = 5 then x.shotsFields s
  else if s.ty = 6 then x.templFields s else if s.ty = 7 then x.chainFields s else if s.ty = 8 then x.tallyFields s else if s.ty = 9 then x.taskFields s else if s.ty = 10 then x.calimFields s
  else if s.ty = 11 then x.paramFields s else [(0, decide (s.len ≤ 262144))]

/-- Pass 1. -/
def Image.pass1 (x : Image) : List Cond := x.secs.flatMap fun (s : Sec) => (x.fields s).map fun (c : Nat × Bool) => (s, c)

/-! Objects of the image. -/

/-- The chain descriptors: section and offset. -/
def Image.chains (x : Image) : List (Sec × Nat) := (x.all 7).flatMap fun (s : Sec) => (items 16 32 (x.f s 0 2)).map fun a => (s, a)
/-- The task entries: section, index and offset. -/
def Image.tasks (x : Image) : List (Sec × (Nat × Nat)) := (x.all 9).flatMap fun (s : Sec) => (List.range (x.f s 0 2)).map fun k => (s, (k, 16 + 48 * k))
/-- Number of tasks. -/
def Image.ntask (x : Image) : Nat := x.g 9 0 0 2
/-- A field of task k. -/
def Image.taskG (x : Image) (k off n : Nat) : Nat := x.g 9 0 (16 + 48 * k + off) n
/-- A field of shot k. -/
def Image.shotG (x : Image) (k off n : Nat) : Nat := x.g 5 0 (16 + 32 * k + off) n
/-- A shot exists (R92). -/
def Image.shotOk (x : Image) (k : Nat) : Bool := decide (k < x.g 5 0 0 2) && x.shotG k 0 1 % 2 == 1
/-- A chain exists. -/
def Image.chainOk (x : Image) (c : Nat) : Bool := x.chains.any fun (e : Sec × Nat) => x.f e.1 e.2 2 == c
/-- A template exists. -/
def Image.templOk (x : Image) (t : Nat) : Bool := (x.all 6).any fun (s : Sec) => (x.templs s).any fun a => x.f s a 2 == t
/-- The cells of a chain: block section, offset. -/
def Image.cellsOf (x : Image) (e : Sec × Nat) : List (Sec × Nat) := match x.find 3 (x.f e.1 (e.2 + 2) 1) with
  | none => []
  | some b => (List.range (x.f e.1 (e.2 + 4) 1)).map fun j => (b, 0x10 + 16 * (x.f e.1 (e.2 + 3) 1 + j))
/-- A field of a cell. -/
def Image.c (x : Image) (e : Sec × Nat) (off n : Nat) : Nat := x.f e.1 (e.2 + off) n
/-- The first cell's SRC_KIND and SRC_INDEX. -/
def Image.srcOf (x : Image) (e : Sec × Nat) : Nat × Nat := match x.cellsOf e with
  | c :: _ => (x.c c 0 1, x.c c 1 1)
  | [] => (0, 0)
/-- Product of the DECIM values of cells. -/
def Image.decims (x : Image) (cs : List (Sec × Nat)) : Nat := cs.foldl (fun (p : Nat) c => p * x.c c 4 2) 1
/-- Paths of a stream: offsets. -/
def Image.paths (x : Image) (s : Sec) : List Nat := items 64 8 (x.f s 0x10 1)
/-- The cycle period in µs. -/
def Image.cyc (x : Image) : Nat := x.g 1 0 0 4

/-! Pass 2: the cross-checks of R92, in the order of its list. -/

/-- Each cell at most once; the kinds of a chain's cells; DC-blocking last (R92 item 1). -/
def Image.chainCells (x : Image) : List Cond :=
  let cs := x.chains
  (List.range cs.length).flatMap fun i => match cs[i]? with
    | none => []
    | some e =>
      let cells := x.cellsOf e
      let before := (cs.take i).flatMap x.cellsOf
      let kinds := cells.map fun c => x.c c 0 1
      [(e.1, (e.2, !(cells.any fun c => before.contains c) && (kinds.take 1).all (fun k => k == 1 || k == 2) && (kinds.drop 1).all (fun k => k == 3) && cells.dropLast.all fun c => x.c c 2 1 != 2))]

/-- Everything that a field names exists (R92 item 2), by sections in directory order. A BLOCK or TALLY section names its region by its own number (DESIGN CHOICE, log entry 186). -/
def Image.named (x : Image) (s : Sec) : List Cond :=
  if s.ty = 2 then (items 0x20 4 64).map fun a => (s, (a, bitsOf (x.f s a 4) 11 11 == 0 || x.has 4 (bitsOf (x.f s a 4) 10 6)))
  else if s.ty = 3 then [(s, (0, x.has 2 (s.inst / 4)))]
  else if s.ty = 4 then
    (s, (0, x.has 2 (x.f s 3 1) && (x.f s 4 1 == 0 || (x.has 2 (x.f s 5 1) && decide (x.f s 7 1 < x.ntask))) && decide (x.f s 6 1 < x.ntask) &&
      [0x08, 0x0A, 0x0C].all fun o => x.f s o 2 == 0xFFFF || x.chainOk (x.f s o 2))) ::
    (x.paths s).map fun a => (s, (a, x.shotOk (x.f s a 2) && x.shotOk (x.f s (a + 2) 2)))
  else if s.ty = 5 then (items 16 32 (x.f s 0 2)).map fun a => (s, (a, x.f s a 1 % 2 == 0 ||
      ((x.f s (a + 4) 2 == 0xFFFF || x.shotOk (x.f s (a + 4) 2)) && (x.f s (a + 6) 2 == 0xFFFF || x.templOk (x.f s (a + 6) 2)) && (x.f s (a + 0x18) 2 == 0xFFFF || x.shotOk (x.f s (a + 0x18) 2)))))
  else if s.ty = 7 then (items 16 32 (x.f s 0 2)).map fun a => (s, (a, x.has 3 (x.f s (a + 2) 1) && x.has 2 (x.f s (a + 2) 1 / 4)))
  else if s.ty = 8 then [(s, (0, x.has 2 s.inst))]
  else if s.ty = 9 then (items 16 48 (x.f s 0 2)).map fun a => (s, (a, x.has 2 (x.f s (a + 2) 1) && (x.f s (a + 0x24) 1 == 0xFF || x.has 4 (x.f s (a + 0x24) 1))))
  else if s.ty = 11 then (items 16 16 (x.f s 0 2)).map fun a => (s, (a, x.has 4 (x.f s (a + 2) 1) && x.has 2 (x.f s (a + 3) 1)))
  else []

/-- Template IDs are unique (R84). -/
def Image.templUnique (x : Image) (s : Sec) : List Cond :=
  let ts := x.templs s
  (List.range ts.length).map fun i => (s, (ts.getD i 0, (ts.take i).all fun b => x.f s b 2 != x.f s (ts.getD i 0) 2))

/-- A task's pair, entry, times (R92 item 4). -/
def Image.taskTimes (x : Image) (s : Sec) (a : Nat) : Bool :=
  match x.find 8 (x.f s (a + 2) 1) with
  | none => false
  | some t =>
    let e := x.f s (a + 3) 1
    decide (e < x.f t 1 1) && x.f s (a + 0x10) 4 == x.f t (32 + 16 * e + 4) 4 && decide (x.f s (a + 8) 4 + x.f s (a + 0x10) 4 ≤ x.f s (a + 0x0C) 4) &&
      decide (x.f s (a + 0x0C) 4 ≤ x.f s (a + 4) 2 * x.cyc * 1000)

/-- A task's averaging and its stream's path reduction (R82, R92 item 5). -/
def Image.taskAvg (x : Image) (s : Sec) (a : Nat) : Bool :=
  let st := x.f s (a + 0x24) 1
  match x.find 4 st with
  | none => true
  | some t => decide (x.f s (a + 0x21) 1 ≤ x.f t 0x20 1) && ((x.paths t).any (fun b => x.f t (b + 6) 2 != 0) || bitsOf (x.f s (a + 0x20) 1) 3 3 == 0)

/-- Units of a region's used registers of a stream that have a bit of the descriptor set, in increasing n. -/
def Image.unitsOf (x : Image) (r st bit : Nat) : List Nat :=
  ((List.range 64).filter fun n => let w := x.g 2 r (0x20 + 4 * n) 4; bitsOf w 11 11 == 1 && bitsOf w 10 6 == st && bitsOf w bit bit == 1).map fun n => bitsOf (x.g 2 r (0x20 + 4 * n) 4) 5 0

/-- A guarded stream's partner, mirror task and registers (R92 item 7). -/
def Image.guardedOk (x : Image) (s : Sec) : Bool :=
  x.f s 4 1 == 0 || (x.f s 5 1 != x.f s 3 1 && bitsOf (x.g 2 (x.f s 5 1) 1 1) 1 1 == 1 && x.taskG (x.f s 7 1) 2 1 == x.f s 5 1 &&
    x.unitsOf (x.f s 3 1) s.inst 12 == x.unitsOf (x.f s 5 1) s.inst 13)

/-- Bits set in a number of 64 bits. -/
def ones64 (v : Nat) : Nat := ((List.range 64).filter fun i => bitsOf v i i == 1).length

/-- ROM routines of library versions 0 and 1 (R245, R246, R288). -/
def romRoutine (id : Nat) : Bool := within 1 3 id || within 0x100 0x106 id

/-- A defined instruction encoding (R256, R257). -/
def codeOk (w : Nat) : Bool :=
  let op := bitsOf w 31 26
  let z := fun (hi lo : Nat) => bitsOf w hi lo == 0
  let d3 := bitsOf w 25 23 < 6
  if 1 ≤ op ∧ op ≤ 9 then z 16 0 && d3
  else if 10 ≤ op ∧ op ≤ 12 then z 19 16 && d3
  else if op = 13 ∨ op = 14 then z 22 16 && d3
  else if op = 0x10 ∨ op = 0x11 then z 10 1
  else if op = 0x12 ∨ op = 0x13 then z 4 1
  else if op = 0x14 ∨ op = 0x1C then z 15 11 && z 4 0
  else if op = 0x15 ∨ op = 0x16 ∨ op = 0x19 then z 15 0
  else if op = 0x17 ∨ op = 0x18 ∨ op = 0x1A then z 10 0
  else if op = 0x1B then z 6 0 && bitsOf w 12 7 ≤ 40
  else if op = 0x1D then z 5 0 && bitsOf w 11 6 ≤ 40
  else if op = 0x1E then z 11 0 && d3 && bitsOf w 17 12 ≤ 40
  else if op = 0x1F then z 15 10
  else if op = 0x20 then z 14 8
  else if op = 0x21 then z 9 0 && within 1 11 (bitsOf w 15 10) && bitsOf w 20 16 + propInputs (bitsOf w 15 10) - 1 ≤ 31
  else if op = 0x24 ∨ op = 0x25 then z 16 16
  else if op = 0x26 then z 16 16 && d3
  else if op = 0x28 then z 14 1
  else if op = 0x29 then z 14 0
  else if op = 0x2C then condOk (bitsOf w 25 22) (bitsOf w 21 17) (bitsOf w 16 12)
  else if op = 0x2D then d3 && 1 ≤ bitsOf w 11 0
  else if op = 0x2E then z 25 16 && romRoutine (bitsOf w 15 0)
  else if op = 0x2F then z 25 0
  else if op = 0x30 then z 20 0
  else if op = 0x31 then z 19 0
  else if op = 0x32 then z 20 12
  else if op = 0x33 then z 19 12
  else false

/-- Where the code of a TALLY section begins. -/
def Image.codeAt (x : Image) (s : Sec) : Nat := 32 + 16 * x.f s 1 1
/-- The code words of a TALLY section. -/
def Image.code (x : Image) (s : Sec) : List Nat := (List.range (x.f s 4 4)).map fun i => x.f s (x.codeAt s + 4 * i) 4

/-- Every word is defined, and every branch ends within CODE (R92 item 10, R271). A CODE word counts as a table entry, whose own offset is reported (DESIGN CHOICE, log entry 187). -/
def Image.codeConds (x : Image) (s : Sec) : List Cond :=
  let n := x.f s 4 4
  (List.range n).map fun i =>
    let w := x.f s (x.codeAt s + 4 * i) 4
    (s, (x.codeAt s + 4 * i, codeOk w && (bitsOf w 31 26 != 0x2C || decide (i + 1 + bitsOf w 11 0 < n))))

/-- Pass 2. -/
def Image.pass2 (x : Image) : List Cond :=
  x.chainCells ++ x.secs.flatMap x.named ++ (x.all 6).flatMap x.templUnique ++
  (x.tasks.map fun (e : Sec × (Nat × Nat)) => (e.1, (e.2.2, x.taskTimes e.1 e.2.2))) ++ (x.tasks.map fun (e : Sec × (Nat × Nat)) => (e.1, (e.2.2, x.taskAvg e.1 e.2.2))) ++
  ((x.all 4).flatMap fun (s : Sec) => (x.paths s).map fun a => (s, (a, x.shotG (x.f s a 2) 4 2 == x.f s (a + 2) 2 && x.shotG (x.f s (a + 2) 2) 4 2 == x.f s a 2))) ++
  ((x.all 4).map fun (s : Sec) => (s, (0, x.guardedOk s))) ++
  ((x.all 4).map fun (s : Sec) => (s, (0, decide (32 * ones64 (x.f s 0x14 8) + 16 * ones64 (x.f s 0x1C 4) ≤ 336)))) ++
  (x.all 8).flatMap x.codeConds ++
  (x.all 1).map fun (s : Sec) => (s, (0, x.f s 0x2E 2 == (x.all 4).length))

/-! Pass 3: conditions of other rules, in the order of their labels. -/

/-- Rate of a shot's RATE code in samples per second (R129). -/
def laneRate (code : Nat) : Nat := 160000000 / 2 ^ code

/-- Used shots of a lane. -/
def Image.laneShots (x : Image) (lane : Nat) : List Nat := (List.range (x.g 5 0 0 2)).filter fun k => x.shotG k 0 1 % 2 == 1 && x.shotG k 3 1 % 16 == lane

/-- R80: RATE is the source rate over the product of DECIM. A lane's source rate is that of its shots. -/
def Image.rateOk (x : Image) (e : Sec × Nat) : Bool :=
  let p := x.c e 8 4 * x.decims (x.cellsOf e)
  let src := x.srcOf e
  if src.1 = 1 then p == 4096000000 else (x.laneShots src.2).all fun k => p == laneRate (x.shotG k 0x0B 1 % 8) * 1000

/-- R82: the weights. -/
def Image.weightsOk (x : Image) (s : Sec) : Bool :=
  let sum := fun (o : Nat) => ((x.paths s).map fun a => x.f s (a + o) 2).foldl (fun (p q : Nat) => p + q) 0
  (x.paths s).isEmpty || (within 65532 65540 (sum 4) && (sum 6 == 0 || within 65532 65540 (sum 6)))

/-- R81: every recorded total has REC set in its descriptor. -/
def Image.recMaskOk (x : Image) (s : Sec) : Bool :=
  (List.range 64).all fun n => bitsOf (x.f s 0x14 8) n n == 0 || bitsOf (x.g 2 (x.f s 3 1) (0x20 + 4 * n) 4) 12 12 == 1

/-- R87: one entry per KIND and CHANNEL. -/
def Image.calimUnique (x : Image) (s : Sec) : List Cond :=
  (List.range (x.f s 0 2)).map fun i => (s, (16 + 16 * i, (List.range i).all fun j => x.f s (16 + 16 * j) 2 != x.f s (16 + 16 * i) 2))

/-- Least p with d ≤ 2^p. -/
def clog2 (d : Nat) : Nat := if d ≤ 1 then 0 else Nat.log2 (d - 1) + 1

/-- The comb-integrator width of a chain's cells (R189). -/
def Image.widthOk (x : Image) (e : Sec × Nat) : Bool :=
  let cs := x.cellsOf e
  let first := if (x.srcOf e).1 = 1 then 2 else 14
  let ok := fun (w : Nat) (c : Sec × Nat) => x.c c 2 1 != 0 || decide (w + x.c c 3 1 * clog2 (x.c c 4 2) ≤ 64)
  (cs.take 1).all (ok first) && (cs.drop 1).all (ok 24)

/-- TAPS times the output rate in 0.001 per second of each FIR cell of a chain, summed. -/
def Image.firLoad (x : Image) (e : Sec × Nat) : Nat :=
  let cs := x.cellsOf e
  (List.range cs.length).foldl (fun (acc : Nat) i => match cs[i]? with
    | some c => if x.c c 2 1 = 1 then acc + x.c c 8 2 * (x.c e 8 4 * x.decims (cs.drop (i + 1))) else acc
    | none => acc) 0

/-- The conditions of R195, each over all chains in order. -/
def Image.chainConds (x : Image) : List Cond :=
  let cs := x.chains
  let each := fun (ok : Sec × Nat → Bool) => cs.map fun (e : Sec × Nat) => ((e.1, (e.2, ok e)) : Cond)
  let blk := fun (e : Sec × Nat) => x.c e 2 1
  let mates := fun (e : Sec × Nat) => cs.filter fun (d : Sec × Nat) => blk d == blk e
  let echo := fun (e : Sec × Nat) => x.c e 6 2 == 1
  each (fun e => (mates e).length ≤ 3) ++
  each (fun e => ((mates e).all fun d => x.c d 5 1 == x.c e 5 1) && (x.c e 5 1 == 0xFF || (cs.filter fun d => x.c d 5 1 == x.c e 5 1).all fun d => x.c d 8 4 == x.c e 8 4 && x.c d 0x14 1 == x.c e 0x14 1)) ++
  each (fun e => echo e == ((x.srcOf e).1 == 2)) ++
  each (fun e => !echo e || (x.decims (x.cellsOf e) == 1 && x.c e 0x0C 4 == (x.srcOf e).2 * 0x8000 && (x.laneShots (x.srcOf e).2).all fun k => laneRate (x.shotG k 0x0B 1 % 8) * 1000 == x.c e 8 4)) ++
  each x.widthOk ++
  each (fun e => echo e || (decide (1000000000 ≤ x.c e 8 4 * x.cyc) && (x.c e 0x14 1 == 0xFF || x.cyc * x.c e 8 4 % 1000000000 == 0))) ++
  each (fun e => decide (((mates e).map x.firLoad).foldl (fun (p q : Nat) => p + q) 0 ≤ 500000000000))

/-- Numbers of a list without repeats. -/
def distinctN : List Nat → List Nat
  | [] => []
  | a :: l => if l.contains a then distinctN l else a :: distinctN l

/-- CKPT is large enough (R239). -/
def Image.ckptOk (x : Image) (s : Sec) : Bool :=
  let mine := x.tasks.filter fun (e : Sec × (Nat × Nat)) => x.f e.1 (e.2.2 + 2) 1 == s.inst
  let ss := distinctN ((mine.map fun (e : Sec × (Nat × Nat)) => x.f e.1 (e.2.2 + 0x24) 1).filter fun st => st != 0xFF)
  decide (11328 + 576 * mine.length + 2048 * ss.length ≤ x.f s 8 4)

/-- The loop bodies of a program as first and last index, with the index of their LOOP (R274). -/
def loopsOf (code : List Nat) : List (Nat × (Nat × Nat)) :=
  ((List.range code.length).filter fun i => bitsOf (code.getD i 0) 31 26 == 0x2D).map fun i => (i, (i + 1, i + bitsOf (code.getD i 0) 11 0))

/-- An index lies in a body. -/
def inBody (i : Nat) (b : Nat × (Nat × Nat)) : Bool := decide (b.2.1 ≤ i) && decide (i ≤ b.2.2)

/-- The loops of a program are nested as R258 states: bodies within CODE and wholly within any body that holds their LOOP, at most two deep. -/
def loopOk (n : Nat) (loops : List (Nat × (Nat × Nat))) (l : Nat × (Nat × Nat)) : Bool :=
  let outer := loops.filter (inBody l.1)
  decide (l.2.2 < n) && outer.all (fun b => decide (l.2.2 ≤ b.2.2)) && outer.length ≤ 1

/-- A branch at `i` to `t` (R258). -/
def branchOk (loops : List (Nat × (Nat × Nat))) (i t : Nat) : Bool :=
  let own := loops.filter (inBody i)
  let into := loops.filter (inBody t)
  let enters := into.any fun b => !own.contains b
  match own.reverse with
  | [] => !enters
  | b :: _ => t == b.2.2 + 1 && !(into.any fun c => !own.contains c) || (inBody t b && !enters)

/-- A program's well-formedness (R258): by words, then by entries. -/
def Image.progConds (x : Image) (s : Sec) : List Cond :=
  let code := x.code s
  let n := code.length
  let loops := loopsOf code
  let a := x.codeAt s
  [(s, (a + 4 * (n - 1), bitsOf (code.getD (n - 1) 0) 31 26 == 0x2F && !(loops.any (inBody (n - 1)))))] ++
  ((items 32 16 (x.f s 1 1)).map fun e => (s, (e, !(loops.any (inBody (x.f s e 4)))))) ++
  (loops.map fun l => (s, (a + 4 * l.1, loopOk n loops l))) ++
  (List.range n).map fun i => (s, (a + 4 * i, bitsOf (code.getD i 0) 31 26 != 0x2C || branchOk loops i (i + 1 + bitsOf (code.getD i 0) 11 0)))

/-- The resource bits that a task's stream needs (R321). -/
def Image.needs (x : Image) (t : Sec) : List Nat :=
  (if x.f t 0x10 1 = 0 then [] else 20 :: ((x.paths t).flatMap fun a => [x.f t a 2, x.f t (a + 2) 2]).flatMap fun k => [x.shotG k 3 1 % 16, 16 + x.shotG k 3 1 / 16 % 4]) ++
  (if [0x08, 0x0A, 0x0C].any (fun o => x.f t o 2 != 0xFFFF) then [21] else []) ++ (if x.f t 0x0E 1 != 0xFF || x.f t 0x0F 1 != 0xFF then [22] else [])

/-- The conditions of R321 on a task. -/
def Image.taskOk (x : Image) (s : Sec) (a : Nat) : Bool :=
  let c := x.f s (a + 1) 1
  let st := x.f s (a + 0x24) 1
  let res := x.f s (a + 0x18) 4
  (c != 3 || st == 0xFF) &&
  (c != 2 || bitsOf (x.f s (a + 0x20) 1) 1 1 == 0 || (res == 0 && decide (x.f s (a + 0x0C) 4 + x.f s (a + 0x1C) 4 ≤ x.f s (a + 4) 2 * x.cyc * 1000))) &&
  (match x.find 4 st with
   | some t => (x.needs t).all fun b => bitsOf res b b == 1
   | none => true)

/-- The conditions of R386 on a stream. -/
def Image.guardTasks (x : Image) (s : Sec) : Bool :=
  let h := x.f s 6 1
  let p := x.f s 7 1
  x.f s 4 1 == 0 || (x.taskG h 1 1 == 1 && x.taskG p 1 1 == 1 && ([(4, 2), (8, 4), (0x10, 4), (0x24, 1), (0x20, 1), (0x21, 1), (0x22, 2)].all fun (e : Nat × Nat) => x.taskG h e.1 e.2 == x.taskG p e.1 e.2) &&
    decide (x.taskG p 0x0C 4 ≤ x.taskG p 8 4 + 2 * x.taskG p 0x10 4 + 23300))

/-- Pass 3. -/
def Image.pass3 (x : Image) : List Cond :=
  (x.chains.map fun (e : Sec × Nat) => (e.1, (e.2, x.rateOk e))) ++
  ((x.all 4).map fun (s : Sec) => (s, (0, x.recMaskOk s))) ++ ((x.all 4).map fun (s : Sec) => (s, (0, x.weightsOk s))) ++
  ((x.all 6).map fun (s : Sec) => (s, (0, decide (x.f s 4 4 - 16 ≤ 524288)))) ++ (x.all 10).flatMap x.calimUnique ++
  (x.chains.map fun (e : Sec × Nat) => (e.1, (e.2, (x.srcOf e).1 != 1 || within 1000 32000000 (x.c e 8 4)))) ++ x.chainConds ++
  ((x.all 2).map fun (s : Sec) => (s, (0, !x.has 8 s.inst || decide (4096 ≤ x.f s 4 4)))) ++ ((x.all 2).map fun (s : Sec) => (s, (0, x.ckptOk s))) ++
  (x.all 8).flatMap x.progConds ++ (x.tasks.map fun (e : Sec × (Nat × Nat)) => (e.1, (e.2.2, x.taskOk e.1 e.2.2))) ++ (x.all 4).map fun (s : Sec) => (s, (0, x.guardTasks s))

/-- Check 6 in its three passes (R553). -/
def Image.content (x : Image) : Option ImgFail := (firstFail x.pass1).orElse fun _ => (firstFail x.pass2).orElse fun _ => firstFail x.pass3

/-- The verdict on an image of which `got` bytes were received (R91): the RESULT status and its data; `signed` is check 4. -/
def imageCheck (im : Img) (got : Nat) (signed : Bool) : Nat × List Byte :=
  let x := mkImage im
  if !imgFormat im then (0x0501, []) else if !imgLengthOk im got then (0x0502, []) else if !x.layout then (0x0503, []) else if !signed then (0x0504, []) else if !x.romOk then (0x0505, [])
  else match x.content with
    | some e => (0x0506, leBytes 2 e.1 ++ leBytes 2 e.2.1 ++ leBytes 4 e.2.2)
    | none => (0, [])

end Sys2Proof.Machine
end

