-- ==== Sys2Proof/Machine/GwOps.lean ====
section
/-! DEFINITION. The inbound command window's checks (R111 to R113, R515 to R519), one order for every command. Where the manual gives no place to an argument, log entry 50 names the one the model takes. -/

namespace Sys2Proof.Machine

/-- Argument i of a command, that is word 2 + i. -/
def gwArg (c : GwCmd) (i : Nat) : Nat := (listGet 0 c.args i).toNat

/-- LEN of a command (R111, R517). -/
def gwLen (c : GwCmd) : Nat := 2 + c.args.length + (if c.sig.isSome then 23 else 0)

/-- Whether a code is listed (R113). -/
def gwListed (code : Nat) : Bool := decide (1 ≤ code) && decide (code ≤ 0x12)

/-- Whether a code takes `n` argument words (check 2; R307, R308, R374, R375, R516, R526; log entry 50). -/
def gwArgsOk (code n : Nat) : Bool :=
  if code = 0x0A then decide (1 ≤ n) && decide (n ≤ 248)
  else n == (if code = 3 ∨ code = 0x0C ∨ code = 0x0D then 1 else if code = 4 ∨ code = 5 ∨ code = 9 then 2 else if code = 6 ∨ code = 7 ∨ code = 0x0E then 3
    else if code = 8 then 5 else if code = 0x0F then 9 else if code = 0x11 then 17 else 0)

/-- Codes that may carry a signature (R113). -/
def gwMaySign (code : Nat) : Bool := code == 6 || code == 8 || code == 0x0C || decide (0x0E ≤ code ∧ code ≤ 0x12)

/-- Codes that must carry one (R113, R517). -/
def gwMustSign (code : Nat) : Bool := gwMaySign code && code != 6 && code != 8 && code != 0x11

/-- Check 2 (R112, R517): LEN from 2 to 256 and the length that a listed code requires. -/
def gwFormat (code : Nat) (c : GwCmd) : Bool :=
  decide (gwLen c ≤ 256) && (!gwListed code || (gwArgsOk code c.args.length && (match c.sig with
    | some _ => gwMaySign code
    | none => !gwMustSign code)))

/-- Check 1 (R65, R68, R112, R392): start-up step 7 is completed, or Heartwood is in safe state with no image and the command is one it then answers. -/
def State.gwReady (s : State) (code : Nat) : Bool :=
  s.hscRuns && (s.on F.FLT.BOOT_STATUS.READY ||
    (s.boot.noImage && s.on F.FLT.STATUS.SAFE && s.get F.FLT.STATUS.CAUSE == 4 && (code == 1 || decide (9 ≤ code ∧ code ≤ 0x0C))))

/-- Check 4: a long command runs. -/
def State.gwBusy (s : State) (code : Nat) : Bool := match s.gw.load with
  | some _ => code != 1 && code != 0x0A && code != 0x0B
  | none => s.gw.long.isSome && code != 1

/-- The magnitude of a TIME_STEP in 2^-16 ns (R308). -/
def gwStep (c : GwCmd) : Nat := ((gwArg c 2 + 2 ^ 32 * gwArg c 3) * 1000000000 + gwArg c 4) * 65536 + bitsOf (gwArg c 1) 15 0

/-- The signed amount of a TIME_STEP. -/
def gwStepI (c : GwCmd) : Int := if bitsOf (gwArg c 0) 0 0 = 1 then -(gwStep c : Int) else (gwStep c : Int)

/-- Check 5 fails (R113, R308, R516): what needs an open seal or a signature has neither. -/
def State.gwSealed (s : State) (code : Nat) (c : GwCmd) : Bool :=
  let shut := s.on F.SEAL.STATUS.SEALED
  if code = 6 then c.sig.isNone && shut
  else if code = 8 then c.sig.isNone && shut && decide (1000 * 65536 < gwStep c)
  else if code = 0x11 then c.sig.isNone && (shut || (s.key (bitsOf (gwArg c 0) 1 0)).filled)
  else if code = 0x12 then shut
  else false

/-- The bit of PERM that authorises a code (R515). -/
def gwPerm (code : Nat) : Nat := if code = 0x0C then 0 else if code = 6 ∨ code = 0x0E then 1 else if code = 8 then 2 else if code = 0x0F then 3 else if code = 0x10 then 4 else if code = 0x11 then 5 else 6

/-- The signed message (R517, R518): W0 through the serial words without W1, each word with bits [7:0] first. -/
def gwMessage (code : Nat) (c : GwCmd) (g : Sig) : List Byte :=
  leBytes 4 (code + 65536 * gwLen c) ++ c.args.flatMap (fun (w : Word) => leBytes 4 w.toNat) ++ leBytes 4 g.slot ++ leBytes 8 g.counter ++ beBytes 16 g.serial

/-- Check 6 (R518). -/
def State.gwAuth (s : State) (code : Nat) (c : GwCmd) : Bool := match c.sig with
  | none => true
  | some g =>
    let k := g.slot % 4
    s.keyMay k (gwPerm code) && g.serial == s.sealc.serial.toNat && decide ((s.key k).counter < g.counter % 2 ^ 64) &&
      ecdsaVerify (s.key k).x (s.key k).y (sha256 (gwMessage code c g)) g.r g.s

/-- The slot an image load goes to (R97): the one that is not running, or the named one with no image. -/
def State.loadTarget (s : State) : Nat := if s.slot = 1 then 2 else 1

/-- A field that SET_FIELD may write: of a register that HSC's bus reaches, with a Seal column that reads No and an access code that a write acts on (R100, R113). -/
def State.mayField (s : State) (a : Nat) : Bool :=
  s.accessKind 0 0 true a 4 == 0 && isPeriph a && !slAddr a && (match findSpec regTable a with
    | some r => r.fields.any fun f => f.acc != .ro && f.acc != .rs
    | none => false) &&
  !(decide (0x40040100 ≤ a ∧ a < 0x40040500) && s.on (F.TIME.CMPCTRL.LOCK ((a - 0x40040100) / 0x20)))

/-- The PARAM entry of a PARAM_ID and stream. -/
def State.paramOf (s : State) (id st : Nat) : Option Nat := (s.paramIndex id).filter fun j => s.paramF j 2 1 == st

/-- Check 7 (R97, R308, R374, R375, R526). -/
def State.gwArgs (s : State) (code : Nat) (c : GwCmd) : Bool :=
  let a := gwArg c
  if code = 4 then (bitsOf (a 0) 7 0 == 1) || (bitsOf (a 0) 7 0 == 2 && a 1 == 0) || (bitsOf (a 0) 7 0 == 3 && a 1 % 256 == 0)
  else if code = 5 then s.mayField (a 0)
  else if code = 6 then (s.paramOf (bitsOf (a 0) 7 0) (bitsOf (a 0) 15 8)).isSome
  else if code = 7 then decide (a 2 ≤ 200000000)
  else if code = 8 then decide (a 4 < 1000000000) && decide (0 ≤ (s.time.t : Int) + gwStepI c) && s.time.step.isNone
  else if code = 9 then (a 0 == 1 || a 0 == 2) && (s.slot == 0 || a 0 == s.loadTarget) && decide (1 ≤ a 1) && decide (a 1 ≤ 4194304)
  else if code = 0x0A ∨ code = 0x0B then s.gw.load.isSome
  else if code = 0x0C then a 0 == 1 || a 0 == 2
  else if code = 0x0D then decide (bitsOf (a 0) 7 0 ≤ 6) && (bitsOf (a 0) 15 8 == 0xFF || decide (bitsOf (a 0) 15 8 < (if bitsOf (a 0) 7 0 = 0 then 48 else calChannels (bitsOf (a 0) 7 0))))
  else if code = 0x0E then decide (bitsOf (a 0) 7 0 < 32) && decide (0 < s.streamF (bitsOf (a 0) 7 0) 0x10 1) && decide (16 ≤ bitsOf (a 0) 31 16) && decide (bitsOf (a 0) 31 16 ≤ 4096) &&
    (s.paramOf (bitsOf (a 1) 7 0) (bitsOf (a 0) 7 0)).isSome
  else true

/-- Whether a signed command makes AUTH_CMD (R519). -/
def State.gwAuthCmd (s : State) (code : Nat) (c : GwCmd) : Bool :=
  c.sig.isSome && (code == 0x10 || code == 0x11 || code == 0x12 || (code == 8 && decide (gwStep c ≤ s.chip 0x28 4 * 65536)))

/-- Parameters that an image in a slot changes (R98, R100): PARAM_ID, the old and the new VALUE, of those whose PARAM_ID and STREAM both images hold. -/
def State.paramDiff (s : State) (slot : Nat) : List (Nat × (Nat × Nat)) := match s.sectAt (slotBase slot) 11 0 with
  | some (p, _) => (List.range (min 256 (s.ldN p 2))).filterMap fun j =>
      let e := p + 16 + 16 * j
      match s.paramOf (s.ldN e 2) (s.ldN (e + 2) 1) with
      | some i => if s.paramVal i = s.ldN (e + 8) 8 then none else some (s.ldN e 2, (s.paramVal i, s.ldN (e + 8) 8))
      | none => none
  | none => []

/-- The DATA of IMAGE_ACTIVATE (R98, R100, R120); the parameters that change follow the digests (log entry 51). -/
def State.activateData (s : State) (slot key : Nat) : List Byte :=
  leBytes 1 s.slot ++ leBytes 1 slot ++ leBytes 1 key ++ [0] ++ (s.boot.digest ++ List.replicate 32 0).take 32 ++ (s.slotDigest slot ++ List.replicate 32 0).take 32 ++
    (s.paramDiff slot).flatMap fun (e : Nat × (Nat × Nat)) => leBytes 2 e.1 ++ leBytes 8 e.2.1 ++ leBytes 8 e.2.2

/-- The entries that a command makes which check 8 must find room for (R123, R311, R519, R520): what the device cannot refuse is not among them. -/
def State.gwEntries (s : State) (code : Nat) (c : GwCmd) : Nat :=
  if code = 6 then 1
  else if code = 9 then 2
  else if code = 0x0C then evSize (s.activateData (gwArg c 0) 0)
  else if code = 0x0E then 2
  else if s.gwAuthCmd code c then 1
  else 0

/-- The REASON of R112, 0 where every check passes. IMAGE_DATA and IMAGE_END belong to a load that check 8 has passed, and AUDIT_CLEAR takes the slot that FULL keeps. -/
def State.gwReason (s : State) (code : Nat) (c : GwCmd) : Nat :=
  if !s.gwReady code then 1
  else if !gwFormat code c then 2
  else if !gwListed code then 3
  else if s.gwBusy code then 4
  else if s.gwSealed code c then 5
  else if !s.gwAuth code c then 6
  else if !s.gwArgs code c then 7
  else if !(if code = 0x0F then decide (s.auditCount ≤ 16383) else s.auditTakes (s.gwEntries code c)) then 8
  else 0

/-- CMD_STATE at the end of the check (R111): STATE, REASON and TAG; HIC source 3 and SIC source 4 see it end (R446, R447). -/
def State.gwShow (s : State) (st reason tag : Nat) : State :=
  let s := ((s.set F.GW.CMD_STATE.STATE st).set F.GW.CMD_STATE.REASON reason).set F.GW.CMD_STATE.TAG tag
  (if s.icUp 0 then s.icEdge 0 3 else s).icEdge 1 4

/-- The stored COUNTER takes the command's value before the command acts (R518). -/
def State.gwCounter (s : State) (c : GwCmd) : State := match c.sig with
  | some g => s.keysWrite (listSet s.keys (g.slot % 4) { s.key (g.slot % 4) with counter := g.counter % 2 ^ 64 })
  | none => s

/-- The key slot that signed, 0xFF unsigned. -/
def gwSlot (c : GwCmd) : Nat := match c.sig with
  | some g => g.slot % 4
  | none => 0xFF

/-- The AUTH_CMD entry of a signed command that makes one (R519). -/
def State.gwLog (s : State) (code : Nat) (c : GwCmd) : State := if s.gwAuthCmd code c then s.auditPut 0x90 0xFF (leBytes 2 code ++ leBytes 1 (gwSlot c)) else s

/-- Whether a code is a long command (R113). -/
def gwIsLong (code : Nat) : Bool := code == 9 || decide (0x0C ≤ code ∧ code ≤ 0x0F) || code == 0x11

/-- The seal state of the moment governs an accepted long command to its end (R108). -/
def State.gwHold (s : State) (code : Nat) : State := if gwIsLong code then { s with gw := { s.gw with sealst := s.sealst } } else s

/-- The signature that check 6 looked at was verified by the cryptographic unit, whose operation has ended (R446): `r` is the REASON. -/
def State.gwVerified (s : State) (c : GwCmd) (r : Nat) : State := if c.sig.isSome && (r == 0 || decide (6 ≤ r)) then s.icEdge 0 7 else s

/-- The doorbell: check a command and, where it is accepted, act on it (R111, R112). -/
def State.gwRun (s : State) (code : Nat) (c : GwCmd) (act : State → State) : State :=
  let r := s.gwReason code c
  let s := s.gwVerified c r
  if r = 0 then act ((((s.gwShow 2 0 c.tag).gwHold code).gwCounter c).gwLog code c) else s.gwShow 3 r c.tag

/-! The command buffer (R111). -/

/-- The words of a command. -/
def gwWords (code : Nat) (c : GwCmd) : List Word :=
  [BitVec.ofNat 32 (code + 65536 * gwLen c), BitVec.ofNat 32 (c.tag % 65536)] ++ c.args ++ (match c.sig with
    | some g => wordsOf (leBytes 4 g.slot ++ leBytes 8 g.counter ++ beBytes 16 g.serial ++ beBytes 32 g.r ++ beBytes 32 g.s)
    | none => [])

/-- Words enter the buffer from word k on; it has 256. -/
def State.gwPut (s : State) : Nat → List Word → State
  | _, [] => s
  | k, w :: ws => if k < 256 then (s.setW (F.GW.CMD_BUF.ALL k).addr w).gwPut (k + 1) ws else s

/-- The words of the buffer. -/
def State.gwBuf (s : State) : List Word := (List.range 256).map fun k => s.rw (F.GW.CMD_BUF.ALL k).addr

/-- A number from words whose bits [7:0] hold the first byte, the first byte the most significant. -/
def gwNum (ws : List Word) (i n : Nat) : Nat := beNat (bytesOf ((ws.drop i).take n))

/-- The command that LEN words spell: a code that may be signed has its signature after the arguments that the code takes (R517). A LEN that the code does not take leaves the words as arguments. -/
def gwParse (ws : List Word) : Nat × GwCmd :=
  let w0 := (listGet 0 ws 0).toNat
  let code := bitsOf w0 15 0
  let len := bitsOf w0 31 16
  let a := (ws.drop 2).take (len - 2)
  let n := len - 25
  let sig : Option Sig := if gwMaySign code ∧ 25 ≤ len ∧ gwArgsOk code n then
      some { slot := (listGet 0 a n).toNat, counter := (listGet 0 a (n + 1)).toNat + 2 ^ 32 * (listGet 0 a (n + 2)).toNat, serial := gwNum a (n + 3) 4, r := gwNum a (n + 7) 8, s := gwNum a (n + 15) 8 }
    else none
  (code, { tag := bitsOf (listGet 0 ws 1).toNat 15 0, args := if sig.isSome then a.take n else a, sig := sig })

/-- LEN of the command in the buffer; LEN below 2 and above 256 fails check 2 whatever the code (R112). -/
def gwShort (ws : List Word) : Bool := decide (bitsOf (listGet 0 ws 0).toNat 31 16 < 2) || decide (256 < bitsOf (listGet 0 ws 0).toNat 31 16)

/-- Sapwood may ring the doorbell (R504): it runs, and the host engine does not own the window. -/
def State.gwOpen (s : State) : Bool := s.domRuns 1 && !s.on F.HOST.CFG.EN

end Sys2Proof.Machine
end

