-- ==== Sys2Proof/Machine/Gateway.lean ====
section
/-! DEFINITION. What the commands of the inbound window do (R97, R98, R100, R113, R124, R307, R308, R374, R375, R516, R526, R534). -/

namespace Sys2Proof.Machine

/-- STATUS: seal state as SEALST has it, counter, level, FLT.BOOT_STATUS and running slot (R113; log entry 50). -/
def State.actStatus (c : GwCmd) (s : State) : State :=
  s.result c.tag 1 0 (leBytes 1 (if s.on F.SEAL.STATUS.SEALED then 1 else 2) ++ leBytes 4 (s.get F.SEAL.COUNTER.COUNT) ++ leBytes 1 (s.get F.SEAL.STATUS.LEVEL) ++
    leBytes 4 (s.rw F.FLT.BOOT_STATUS.ALL.addr).toNat ++ leBytes 1 s.slot)

/-- IDENT: the digest and the device serial (R513). -/
def State.actIdent (c : GwCmd) (s : State) : State := s.result c.tag 2 0 (s.boot.digest ++ beBytes 16 s.sealc.serial.toNat)

/-- AUDIT_READ: the entries held from a SEQ on, at most 16. -/
def State.actAuditRead (c : GwCmd) (s : State) : State :=
  let es := (s.audit.held.filter fun (e : AuditEntry) => decide (gwArg c 0 ≤ e.seq)).take 16
  s.result c.tag 3 0 (es.flatMap fun (e : AuditEntry) => s.ldBytes (auditAddr e.seq) 64)

/-- RECORD_READ of one record (R526); the bytes of a slot left not valid are undefined (R413). -/
def State.readRecord (c : GwCmd) (s : State) : State := match s.recs.ring.find? fun (e : RecEntry) => e.index == gwArg c 1 with
  | some e =>
    if e.bad then ({ s with freeCtr := s.freeCtr + 512 }).result c.tag 4 0x0302 (freeBytes s.freeCtr 512)
    else s.result c.tag 4 (if s.badIn e.addr 512 then 0x0302 else 0) (s.ldBytes e.addr 512)
  | none => s.result c.tag 4 0x0301 []

/-- RECORD_READ of the window (R526); with no record held its two indices are not stated (free, log entry 2). -/
def State.readWindow (c : GwCmd) (s : State) : State := match s.recs.ring.head?, s.recs.ring.getLast? with
  | some a, some b => s.result c.tag 4 0 (leBytes 4 a.index ++ leBytes 4 b.index ++ leBytes 4 s.goodSectors)
  | _, _ => ({ s with freeCtr := s.freeCtr + 8 }).result c.tag 4 0 (freeBytes s.freeCtr 8 ++ leBytes 4 s.goodSectors)

/-- RECORD_READ of the certificate (R526). -/
def State.readCert (c : GwCmd) (s : State) : State :=
  let o := gwArg c 1
  s.result c.tag 4 (if o < Config.certLen then 0 else 0x0303) (leBytes 4 Config.certLen ++ (List.range (min 256 (Config.certLen - o))).map fun i => Config.certByte (o + i))

/-- RECORD_READ (R526). -/
def State.actRecordRead (c : GwCmd) (s : State) : State :=
  if bitsOf (gwArg c 0) 7 0 = 1 then s.readRecord c else if bitsOf (gwArg c 0) 7 0 = 2 then s.readWindow c else s.readCert c

/-- SET_FIELD: HSC writes the register. -/
def State.actSetField (c : GwCmd) (s : State) : State := (s.hwWrite (gwArg c 0) (BitVec.ofNat 32 (gwArg c 1))).result c.tag 5 0 []

/-- SET_PARAM (R100). -/
def State.actSetParam (c : GwCmd) (s : State) : State :=
  let id := bitsOf (gwArg c 0) 7 0
  let old := match s.paramIndex id with
    | some j => s.paramVal j
    | none => 0
  (s.paramSet s.sealst id (gwSlot c) old (gwArg c 1 + 2 ^ 32 * gwArg c 2)).result c.tag 6 0 []

/-- TIME_SLEW (R307): FREQ and the phase are replaced; the RESULT names the phase the replaced command left. -/
def State.actTimeSlew (c : GwCmd) (s : State) : State :=
  let old := s.time.phaseNs
  let s := { s with time := { s.time with freq := sext 32 (gwArg c 0), phase := sext 32 (gwArg c 1) * 65536 * 1000000000000, rate := gwArg c 2 } }
  let limited := decide (rateLimit s.time.asked ≠ s.time.asked)
  (s.timeShow.corrected).result c.tag 7 (if limited then 1 else 0) (leBytes 4 (utwo 32 old))

/-- TIME_STEP (R308): the step waits for its place; its RESULT follows. -/
def State.actTimeStep (c : GwCmd) (s : State) : State :=
  let x : TStep := { amount := gwStepI c, slot := c.sig.map (fun (g : Sig) => g.slot % 4), tag := c.tag, acceptedAt := s.time.t, sealst := s.sealst }
  (({ s with time := { s.time with step := some x } }).set F.TIME.STATUS.STEP_PEND 1).corrected

/-! The image load (R97). -/

/-- IMAGE_BEGIN: the target slot's state is loading, and the sectors that the image takes are erased. -/
def State.actImageBegin (c : GwCmd) (s : State) : State :=
  let slot := gwArg c 0
  let s := (s.setSlot slot 1 (List.replicate 32 0)).erasesSync ((slotBase slot - 0x08000000) / 0x1000) ((gwArg c 1 + 4095) / 4096)
  let s := { s with gw := { s.gw with load := some { slot := slot, length := gwArg c 1, got := 0, since := s.time.t } } }
  s.result c.tag 9 0 []

/-- IMAGE_DATA: the words are programmed in order; what lies beyond LENGTH is counted and not programmed (log entry 52). -/
def State.actImageData (c : GwCmd) (s : State) : State := match s.gw.load with
  | some l =>
    let s := s.stBytes (slotBase l.slot + l.got) ((bytesOf c.args).take (l.length - l.got))
    let s := { s with gw := { s.gw with load := some { l with got := l.got + 4 * c.args.length, since := s.time.t } } }
    s.result c.tag 0x0A 0 []
  | none => s

/-- IMAGE_END: the checks of R91; the slot is checked with its digest, or empty. -/
def State.actImageEnd (c : GwCmd) (s : State) : State := match s.gw.load with
  | some l =>
    let r := imageCheck (fun off n => s.ldN (slotBase l.slot + off) n) l.got (s.imgSigned l.slot)
    let d := (s.imgDigest l.slot ++ List.replicate 32 0).take 32
    let s := ({ s with gw := { s.gw with load := none } }).cryptoEnd
    let s := if r.1 = 0 then (s.setSlot l.slot 2 d).auditPutAs s.gw.sealst 0x30 0xFF (leBytes 1 l.slot ++ [0, 0, 0] ++ d)
      else (s.setSlot l.slot 0 (List.replicate 32 0)).auditPutAs s.gw.sealst 0x32 0xFF (leBytes 1 l.slot ++ leBytes 1 (r.1 % 256) ++ d)
    s.result c.tag 0x0B r.1 r.2
  | none => s

/-- IMAGE_ACTIVATE (R98): the status of a command that changes nothing, 0 where it acts. -/
def State.activateStatus (s : State) (slot : Nat) : Nat :=
  if s.slotState slot ≠ 2 then 0x0507 else if s.slot = slot then 0x0508 else if s.imgSigned slot = false then 0x0504 else 0

/-- The selection word names a slot as active (R94, R95). -/
def State.setActive (s : State) (slot : Nat) : State := s.selWrite { s.sel with active := slot }

/-- IMAGE_ACTIVATE (R98, R100): the entry, the new selection word, the new image's parameters, and a class H reset by authority command after the commit of R60. A loss of power that cuts the selection word's copy is
shown by the start that follows it (`powerCut`): the old slot then stays active. -/
def State.actImageActivate (c : GwCmd) (us mv : Nat) (s : State) : State :=
  let slot := gwArg c 0
  let st := s.activateStatus slot
  if st ≠ 0 then s.result c.tag 0x0C st []
  else
    let s := (s.auditAtOnce 0x31 0xFF (s.activateData slot (gwSlot c))).setActive slot
    (({ s with params := [] } : State).ctlWrite 5 (.params [])).resetHCommit 2 us mv

/-! Calibration (R374, R375). -/

/-- The runs that CAL_RUN names and that an entry applies to. -/
def State.calNamed (s : State) (kind ch : Nat) : List (Nat × Nat) :=
  (if kind = 0 then [1, 2, 3, 4, 5, 6] else [kind]).flatMap fun k =>
    ((List.range (calChannels k)).filter fun n => (ch == 0xFF || ch == n) && (s.calEntry k n).isSome).map fun n => (calSort k, n)

/-- CAL_RUN (R374). -/
def State.actCalRun (c : GwCmd) (s : State) : State :=
  let js := s.calNamed (bitsOf (gwArg c 0) 7 0) (bitsOf (gwArg c 0) 15 8)
  if js.isEmpty then s.result c.tag 0x0D 0x0202 (List.replicate 6 0)
  else { s with cal := { s.cal with queue := js.foldl (fun (q : List CalJob) (e : Nat × Nat) => calQueue e.1 e.2 s.time.t false true false q) s.cal.queue, cmd := some (c.tag, (0, 0, 0)) },
                gw := { s.gw with long := some (0x0D, c.tag) } }

/-- ZERO_CAL (R375): the run begins. -/
def State.actZeroCal (c : GwCmd) (s : State) : State :=
  let st := bitsOf (gwArg c 0) 7 0
  let z : ZeroCal := { stream := st, param := bitsOf (gwArg c 1) 7 0, limit := gwArg c 2, left := bitsOf (gwArg c 0) 31 16, sum := 0, count := 0, possible := 0, paths := 0,
                       mask := s.get (F.ECHO.PATHS.MASK st), changed := false, slot := gwSlot c, tag := c.tag }
  ({ s with cal := { s.cal with zero := some z }, gw := { s.gw with long := some (0x0E, c.tag) } }).calShow

/-! The audit trail (R124). -/

/-- The digest of all held entries from the oldest to SEQ `n`, over their 64-byte images. -/
def State.archiveDigest (s : State) (n : Nat) : List Byte :=
  sha256 ((s.audit.held.filter fun (e : AuditEntry) => decide (e.seq ≤ n)).flatMap fun (e : AuditEntry) => s.ldBytes (auditAddr e.seq) 64)

/-- Sectors of the trail, by the number of 64 entries they hold first, whose entries all have SEQ up to `n`. -/
def clearedSectors (n : Nat) (held : List AuditEntry) : List Nat := ((held.filter fun (e : AuditEntry) => decide (e.seq / 64 * 64 + 63 ≤ n)).map fun (e : AuditEntry) => e.seq / 64).eraseDups

/-- What waits is programmed before the entry of a clear. -/
def State.auditFlush (s : State) : State := ({ s with audit := { s.audit with queue := [] } } : State).auditPrograms s.audit.queue

/-- Step 1 of a clear (R124): the entry, which has a slot at every level. -/
def State.clearEntry (s : State) (n : Nat) (c : GwCmd) (d : List Byte) : State :=
  let s := s.auditFlush
  s.auditProgram (s.mkEvent 0x80 0xFF (leBytes 4 n ++ leBytes 1 (gwSlot c) ++ [0, 0, 0] ++ d.take 16))

/-- AUDIT_CLEAR with a digest that matches (R124): the entry, then the erases of step 2, which the device waits for one after the other; it runs as a long command until they have ended. -/
def State.auditClear (s : State) (n : Nat) (c : GwCmd) (d : List Byte) : State :=
  let s := s.clearEntry n c d
  let s := { s with gw := { s.gw with long := some (0x0F, c.tag), clear := some c.tag } }
  (s.eraseWants ((clearedSectors n s.audit.held).map fun m => 0x200 + m % 256)).clearEnd

/-- AUDIT_CLEAR (R124). -/
def State.actAuditClear (c : GwCmd) (s : State) : State :=
  let n := gwArg c 0
  let d := s.archiveDigest n
  if (s.audit.held.any fun (e : AuditEntry) => e.seq == n) && d == bytesOf (c.args.drop 1) then s.auditClear n c d
  else s.result c.tag 0x0F 0x0101 []

/-! Authority commands. -/

/-- HRESET (R60). -/
def State.actHreset (c : GwCmd) (us mv : Nat) (s : State) : State := (s.result c.tag 0x10 0 []).resetHCommit 2 us mv

/-- The slot that KEY_SLOT would leave (R516): an all-zero key empties it; its COUNTER stays. -/
def State.newKey (s : State) (c : GwCmd) : KeySlot :=
  let x := gwNum c.args 1 8
  let y := gwNum c.args 9 8
  { filled := !(x == 0 && y == 0), perm := bitsOf (gwArg c 0) 15 8, counter := (s.key (bitsOf (gwArg c 0) 1 0)).counter, x := x, y := y }

/-- The status of KEY_SLOT (R516). -/
def State.keyStatus (s : State) (c : GwCmd) : Nat :=
  let t := bitsOf (gwArg c 0) 1 0
  let k := s.newKey c
  if (listSet s.keys t k).all (fun (e : KeySlot) => !(e.filled && bitsOf e.perm 5 5 == 1)) then 0x0401
  else if s.slot ≠ 0 ∧ s.imgSigslot s.slot = t ∧ s.on F.SEAL.STATUS.SEALED = true then 0x0402
  else if k.filled && !onP256 k.x k.y then 0x0403
  else 0

/-- KEY_SLOT ends (R516): the slot takes its key where the status is 0, and the RESULT follows. -/
def State.keyEnd (s : State) : State := match s.gw.key with
  | some c =>
    let st := s.keyStatus c
    let s := { s with gw := { s.gw with key := none, long := none } }
    let s := if st = 0 then s.keysWrite (listSet s.keys (bitsOf (gwArg c 0) 1 0) (s.newKey c)) else s
    s.result c.tag 0x11 st []
  | none => s

/-- Time passes with no command waiting: a tick, what has fallen due, and the end of a KEY_SLOT command. -/
def State.idle (s : State) : State := s.tick.settle.keyEnd

/-- KEY_SLOT is a long command (R113): it runs until the table's new copy is programmed, which the manual gives no time; the model ends it when the block next idles (DESIGN CHOICE, log entry 175). -/
def State.actKeySlot (c : GwCmd) (s : State) : State := { s with gw := { s.gw with key := some c, long := some (0x11, c.tag) } }

/-- DEBUG_ENABLE (R534). -/
def State.actDebugEnable (c : GwCmd) (s : State) : State := (s.set F.SEAL.STATUS.DEBUG_EN 1).result c.tag 0x12 0 []

/-! The commands, as Sapwood sends them: the words are placed in the buffer, the doorbell rings and the check ends (R111). A doorbell during a check is ignored, as are writes to the buffer, and sets DB_LOST. -/

/-- A command of Sapwood. -/
def State.gwRow (s : State) (code : Nat) (c : GwCmd) (act : State → State) : State :=
  if !s.gwOpen then s else if s.gw.check.isSome then s.set F.GW.CMD_STATE.DB_LOST 1 else (s.gwPut 0 (gwWords code c)).gwRun code c act

/-- STATUS. -/
def execStatus (c : GwCmd) (s : State) : Host.Outcome State Fault Refusal := .next (s.gwRow 1 c (State.actStatus c))
/-- IDENT. -/
def execIdent (c : GwCmd) (s : State) : Host.Outcome State Fault Refusal := .next (s.gwRow 2 c (State.actIdent c))
/-- AUDIT_READ. -/
def execAuditRead (c : GwCmd) (s : State) : Host.Outcome State Fault Refusal := .next (s.gwRow 3 c (State.actAuditRead c))
/-- RECORD_READ. -/
def execRecordRead (c : GwCmd) (s : State) : Host.Outcome State Fault Refusal := .next (s.gwRow 4 c (State.actRecordRead c))
/-- SET_FIELD. -/
def execSetField (c : GwCmd) (s : State) : Host.Outcome State Fault Refusal := .next (s.gwRow 5 c (State.actSetField c))
/-- SET_PARAM. -/
def execSetParam (c : GwCmd) (s : State) : Host.Outcome State Fault Refusal := .next (s.gwRow 6 c (State.actSetParam c))
/-- TIME_SLEW. -/
def execTimeSlew (c : GwCmd) (s : State) : Host.Outcome State Fault Refusal := .next (s.gwRow 7 c (State.actTimeSlew c))
/-- TIME_STEP. -/
def execTimeStep (c : GwCmd) (s : State) : Host.Outcome State Fault Refusal := .next (s.gwRow 8 c (State.actTimeStep c))
/-- IMAGE_BEGIN. -/
def execImageBegin (c : GwCmd) (s : State) : Host.Outcome State Fault Refusal := .next (s.gwRow 9 c (State.actImageBegin c))
/-- IMAGE_DATA. -/
def execImageData (c : GwCmd) (s : State) : Host.Outcome State Fault Refusal := .next (s.gwRow 0x0A c (State.actImageData c))
/-- IMAGE_END. -/
def execImageEnd (c : GwCmd) (s : State) : Host.Outcome State Fault Refusal := .next (s.gwRow 0x0B c (State.actImageEnd c))
/-- IMAGE_ACTIVATE: the commit takes `durUs` microseconds and finds VSTORE at `mv` millivolts. -/
def execImageActivate (c : GwCmd) (durUs mv : Nat) (s : State) : Host.Outcome State Fault Refusal := .next (s.gwRow 0x0C c (State.actImageActivate c durUs mv))
/-- CAL_RUN. -/
def execCalRun (c : GwCmd) (s : State) : Host.Outcome State Fault Refusal := .next (s.gwRow 0x0D c (State.actCalRun c))
/-- ZERO_CAL. -/
def execZeroCal (c : GwCmd) (s : State) : Host.Outcome State Fault Refusal := .next (s.gwRow 0x0E c (State.actZeroCal c))
/-- AUDIT_CLEAR. -/
def execAuditClear (c : GwCmd) (s : State) : Host.Outcome State Fault Refusal := .next (s.gwRow 0x0F c (State.actAuditClear c))
/-- HRESET, with the commit as IMAGE_ACTIVATE has it. -/
def execHreset (c : GwCmd) (durUs mv : Nat) (s : State) : Host.Outcome State Fault Refusal := .next (s.gwRow 0x10 c (State.actHreset c durUs mv))
/-- KEY_SLOT. -/
def execKeySlot (c : GwCmd) (s : State) : Host.Outcome State Fault Refusal := .next (s.gwRow 0x11 c (State.actKeySlot c))
/-- DEBUG_ENABLE. -/
def execDebugEnable (c : GwCmd) (s : State) : Host.Outcome State Fault Refusal := .next (s.gwRow 0x12 c (State.actDebugEnable c))

/-- What a listed code does; `us` and `mv` belong to a commit before a reset. -/
def gwAct (code : Nat) (c : GwCmd) (us mv : Nat) : State → State :=
  if code = 1 then State.actStatus c else if code = 2 then State.actIdent c else if code = 3 then State.actAuditRead c else if code = 4 then State.actRecordRead c
  else if code = 5 then State.actSetField c else if code = 6 then State.actSetParam c else if code = 7 then State.actTimeSlew c else if code = 8 then State.actTimeStep c
  else if code = 9 then State.actImageBegin c else if code = 0x0A then State.actImageData c else if code = 0x0B then State.actImageEnd c else if code = 0x0C then State.actImageActivate c us mv
  else if code = 0x0D then State.actCalRun c else if code = 0x0E then State.actZeroCal c else if code = 0x0F then State.actAuditClear c else if code = 0x10 then State.actHreset c us mv
  else if code = 0x11 then State.actKeySlot c else State.actDebugEnable c

/-- The check of the words of a command ends (R111). A commit that the command causes takes a time that is not stated (free, log entry 2) and finds VSTORE as the gauge last read it. -/
def State.gwRing (s : State) (ws : List Word) : State :=
  let p := gwParse ws
  if gwShort ws then s.gwShow 3 (if s.gwReady p.1 then 2 else 1) p.2.tag
  else
    let r := s.free
    r.2.gwRun p.1 p.2 (gwAct p.1 p.2 r.1.toNat (s.get F.GAUGE.VSTORE.MV))

/-- The doorbell rings (R111): LEN words are copied and STATE is CHECKING; while a check runs the doorbell is ignored and DB_LOST is set. -/
def State.gwBell (s : State) : State :=
  if s.gw.check.isSome then s.set F.GW.CMD_STATE.DB_LOST 1
  else ({ s with gw := { s.gw with check := some s.gwBuf } }).set F.GW.CMD_STATE.STATE 1

/-- The check that runs ends (R111). -/
def State.gwCheckEnd (s : State) : State := match s.gw.check with
  | some ws => ({ s with gw := { s.gw with check := none } } : State).gwRing ws
  | none => s

/-- A write of RING to GW.CMD_CTRL and the check that follows (R111). In phase 0 the words w0 and w1 enter the buffer, the doorbell rings, and the check of the command there ends before anything else happens; in phase 1 the doorbell
rings and the check goes on; in phase 2 the check that runs ends. -/
def execDoorbell (phase : Nat) (w0 w1 : Word) (s : State) : Host.Outcome State Fault Refusal :=
  guardUnit (Instr.wf (.doorbell phase w0 w1)) (
    if phase = 2 then s.gwCheckEnd
    else if !s.gwOpen then s
    else if s.gw.check.isSome then s.gwBell
    else
      let s := (s.gwPut 0 [w0, w1]).gwBell
      if phase = 0 then s.gwCheckEnd else s)

/-- A load has received nothing for 10 s (R113): it is ended and its slot is empty. -/
def execImageLoadTimeout (s : State) : Host.Outcome State Fault Refusal :=
  .next (match s.gw.load with
    | some l =>
      let s := if s.time.fast then (s.advanceTo (l.since + 10 * secT)).settle else s
      if s.time.t < l.since + 10 * secT then s else (({ s with gw := { s.gw with load := none } }).setSlot l.slot 0 (List.replicate 32 0)).hostDrop
    | none => s)

end Sys2Proof.Machine
end

