-- ==== Sys2Proof/Machine/HostOps.lean ====
section
/-! DEFINITION. The host engine (R483, R484, R497 to R511): messages, replies, the long command, and what the engine answers of itself. -/

namespace Sys2Proof.Machine

/-! Messages (R498 to R500). -/

/-- CODE of a message. -/
def HostIn.code (m : HostIn) : Nat := bitsOf (listGet 0 m.words 0).toNat 15 0
/-- TAG of a message. -/
def HostIn.tag (m : HostIn) : Nat := bitsOf (listGet 0 m.words 1).toNat 15 0
/-- LEN of a message. -/
def HostIn.len (m : HostIn) : Nat := bitsOf (listGet 0 m.words 0).toNat 26 16
/-- The arguments, W2 to LEN - 2. -/
def HostIn.args (m : HostIn) : List Word := (m.words.drop 2).dropLast
/-- Argument i, that is word 2 + i. -/
def HostIn.arg (m : HostIn) (i : Nat) : Nat := (listGet 0 m.args i).toNat
/-- Whether bit 31 of W0 marks it as a reply. -/
def HostIn.isReply (m : HostIn) : Bool := bitsOf (listGet 0 m.words 0).toNat 31 31 == 1
/-- Whether its CRC word matches. -/
def HostIn.crcOk (m : HostIn) : Bool := (m.words.getLastD 0).toNat == crc32c (bytesOf m.words.dropLast)

/-- The messages of a frame or payload (R499, R500): a word whose LEN is below 3 is skipped; a W0 with reserved bits set, or a LEN that runs past the end, ends it. Only firmware's replies on channel 2 carry bit 31. -/
def hostParse (chan : Nat) : Nat → List Word → List HostIn
  | 0, _ => []
  | _, [] => []
  | n + 1, w :: ws =>
    let len := bitsOf w.toNat 26 16
    if len < 3 then hostParse chan n ws
    else if bitsOf w.toNat 30 27 ≠ 0 ∨ (bitsOf w.toNat 31 31 = 1 ∧ chan ≠ 2) ∨ ws.length + 1 < len then [{ chan := chan, words := w :: ws.take 1, bad := true }]
    else { chan := chan, words := w :: ws.take (len - 1), bad := false } :: hostParse chan n (ws.drop (len - 1))

/-- A reply (R498). -/
def hostWords (code tag status : Nat) (data : List Word) : List Word :=
  let ws := [BitVec.ofNat 32 (code % 65536 + 65536 * (3 + data.length) + 2 ^ 31), BitVec.ofNat 32 (tag % 65536 + 65536 * status)] ++ data
  ws ++ [BitVec.ofNat 32 (crc32c (bytesOf ws))]

/-! Outbound (R483, R497, R510). -/

/-- Show what CSP4 and the two windows hold: RXWORDS and IN_BUSY, and the REPLY condition. -/
def State.hostShow (s : State) : State :=
  let s := s.set F.CSP4.STATUS.RXWORDS ((s.host.inq.filter fun (m : HostIn) => m.chan == 0).map fun (m : HostIn) => m.words.length).sum
  let s := s.setB F.HOST.FW_STAT.IN_BUSY (s.host.inq.any fun (m : HostIn) => m.chan != 0)
  if s.on (alertF 2) = !s.cspx.out.isEmpty then s else s.alertPend 2 (!s.cspx.out.isEmpty)

/-- Words enter HOST.FW_OUT from word k on; it has 256. -/
def State.fwPut (s : State) : Nat → List Word → State
  | _, [] => s
  | k, w :: ws => if k < 256 then (s.setW (F.HOST.FW_OUT.ALL k).addr w).fwPut (k + 1) ws else s

/-- FW_OUT takes the next message when it is free (R497, R507). -/
def State.fwShow (s : State) : State := match s.host.fwQueue with
  | m :: _ =>
    if s.on F.HOST.FW_STAT.OUT_VALID then s
    else ((((s.fwPut 0 m.words).set F.HOST.FW_STAT.OUT_CHAN m.chan).set F.HOST.FW_STAT.OUT_WORDS m.words.length).set F.HOST.FW_STAT.OUT_VALID 1).icSample 1 23
  | [] => s

/-- Queue a message on a channel; `long` marks the reply of a long command. -/
def State.hostPut (s : State) (chan : Nat) (ws : List Word) (long : Bool) : State :=
  if chan = 0 then
    let out := s.cspx.out ++ ws
    ({ s with cspx := { s.cspx with out := out, outRes := if long then some out.length else s.cspx.outRes } }).hostShow
  else
    let m : HostOut := { chan := chan, words := ws, long := long }
    ({ s with host := { s.host with fwQueue := s.host.fwQueue ++ [m] } }).fwShow

/-- A reply on the channel of its request (R501). -/
def State.hostReply (s : State) (chan code tag status : Nat) (data : List Word) : State := s.hostPut chan (hostWords code tag status data) false

/-! Lengths (R501, R503). -/

/-- Words of the longest reply of a forwarded code (R115, R505). -/
def gwLongest (code : Nat) : Nat := if code = 3 then 262 else if code = 4 then 134 else if code = 2 then 18 else 6

/-- Whether a code is an APP code. -/
def hostApp (code : Nat) : Bool := decide (0x200 ≤ code ∧ code ≤ 0x2FF)

/-- Whether the engine knows a code. -/
def hostKnown (code : Nat) : Bool := gwListed code || decide (0x100 ≤ code ∧ code ≤ 0x104) || hostApp code

/-- The gateway words of a message (R504): the gateway's W0 and W1, and the arguments. -/
def HostIn.gwWords (m : HostIn) : List Word := [BitVec.ofNat 32 (m.code + 65536 * (m.len - 1)), BitVec.ofNat 32 m.tag] ++ m.args

/-- Whether LEN is what the code requires (R503). -/
def HostIn.lenOk (m : HostIn) : Bool :=
  if gwListed m.code then !gwShort m.gwWords && gwFormat m.code (gwParse m.gwWords).2
  else if hostApp m.code then true
  else m.len == (if m.code = 0x102 then 4 else if m.code = 0x104 then 5 else 3)

/-- Words of the longest reply of a request. -/
def State.hostLongest (s : State) (m : HostIn) : Nat :=
  if gwListed m.code then gwLongest m.code
  else if m.code = 0x100 ∨ m.code = 0x103 then 7
  else if m.code = 0x101 then max 3 (s.host.result.getD []).length
  else if m.code = 0x102 then (if 1 ≤ m.arg 0 ∧ m.arg 0 ≤ 16 then 4 + 8 * m.arg 0 else 3)
  else if hostApp m.code then 256
  else 3

/-- Words that a channel must keep free for the long command's reply (R508). -/
def State.hostReserved (s : State) (chan : Nat) : Nat := match s.host.long with
  | some x => if x.chan = chan then (if hostApp x.code then 256 else gwLongest x.code) else 0
  | none => 0

/-- Free words of a channel's outbound queue. -/
def State.hostSpace (s : State) (chan : Nat) : Nat :=
  (if chan = 0 then 1024 - s.cspx.out.length else Config.fwQueueWords - ((s.host.fwQueue.filter fun (m : HostOut) => m.chan == chan).map fun (m : HostOut) => m.words.length).sum) - s.hostReserved chan

/-! Taking messages (R500, R501, R508). -/

/-- Whether a request is executed while a long command runs: HSTATUS, and on the channel that began an image load its parts. -/
def State.hostAllowed (s : State) (m : HostIn) : Bool := match s.host.long with
  | some x => m.code == 0x100 || (x.code == 9 && x.chan == m.chan && (m.code == 0x0A || m.code == 0x0B))
  | none => true

/-- Whether a request must wait for the one before it: the engine serves one at a time; while a long command runs, only a part of an image load waits for the part before it. -/
def State.hostWaits (s : State) (m : HostIn) : Bool := s.host.cur.isSome && (s.host.long.isNone || (s.hostAllowed m && m.code != 0x100))

/-- Remove the front message. -/
def State.hostPop (s : State) : State := ({ s with host := { s.host with inq := s.host.inq.drop 1 } }).hostShow

/-- Discard the front message for want of room for its reply (R501). -/
def State.hostFull (s : State) : State := s.hostPop.sat F.HOST.ERR.QFULL 1

/-- A taken message with a matching CRC clears REJ (R510). -/
def State.hostTake (s : State) : State := (if s.on (alertF 3) then s.alertPend 3 false else s).hostPop

/-- The front message where the engine answers or discards it of itself; none where its own command must serve it. TAG of a header that nothing follows is not stated (free, log entry 2). -/
def State.hostSelf (s : State) (m : HostIn) : Option State :=
  let room := s.hostSpace m.chan
  if s.host.cur.isSome && s.host.long.isNone then none
  else if m.bad then
    let tag := if m.words.length < 2 then (Config.freeWord s.freeCtr).toNat else m.tag
    let s := ({ s with freeCtr := s.freeCtr + 1 }).sat F.HOST.ERR.LEN 1
    some (if room < 3 then s.hostFull else s.hostPop.hostReply m.chan m.code tag 0xF003 [])
  else if !m.crcOk then
    let s := s.sat F.HOST.ERR.CRC 1
    some (if room < 3 then s.hostFull else (s.hostPop.hostReply m.chan m.code m.tag 0xF002 []).alertPend 3 true)
  else if s.hostWaits m then none
  else if room < (if s.hostAllowed m then s.hostLongest m else 3) then some s.hostFull
  else if !s.hostAllowed m then some (s.hostTake.hostReply m.chan m.code m.tag 0xF001 [])
  else if !hostKnown m.code then some (s.hostTake.hostReply m.chan m.code m.tag 0xF004 [])
  else if !m.lenOk then some (s.hostTake.hostReply m.chan m.code m.tag 0xF003 [])
  else none

/-- Serve what the engine answers of itself, up to the first message that waits for its command. -/
def State.hostDrainN (s : State) : Nat → State
  | 0 => s
  | n + 1 => match s.host.inq with
    | m :: _ => match s.hostSelf m with
      | some t => t.hostDrainN n
      | none => s
    | [] => s

/-- Serve the queue while the engine is on and Sapwood runs. -/
def State.hostDrain (s : State) : State := if s.on F.HOST.CFG.EN && s.domRuns 1 then s.hostDrainN s.host.inq.length else s

/-- The front message, where it is of a code that `p` accepts and is to be served now. -/
def State.hostNext (s : State) (p : Nat → Bool) : Option HostIn :=
  if s.on F.HOST.CFG.EN && s.domRuns 1 then (match s.host.inq.head? with
    | some m => if p m.code && !s.hostWaits m && (s.hostSelf m).isNone then some m else none
    | none => none)
  else none

/-! The long command (R508). -/


/-- A long command begins. -/
def State.hostBegin (s : State) (x : HostCmd) : State :=
  (({ s with host := { s.host with long := some x, result := none } }).set F.HOST.STATUS.BUSY 1).set F.HOST.STATUS.CODE x.code

/-- It ends: its reply is queued and kept, and RESULT is pending. -/
def State.hostEnd (s : State) (chan : Nat) (ws : List Word) : State :=
  let s := (({ s with host := { s.host with long := none, result := some ws } }).set F.HOST.STATUS.BUSY 0).set F.HOST.STATUS.CODE 0
  (s.hostPut chan ws true).alertPend 1 true

/-! Answers of firmware (R507). -/

/-- A reply that firmware supplies for an APP request; one that answers none is discarded. -/
def State.appReply (s : State) (code tag : Nat) (ws : List Word) : State :=
  match s.host.cur, s.host.long with
  | some x, l =>
    if hostApp x.code && x.code == code && x.tag == tag then ({ s with host := { s.host with cur := none } }).hostPut x.chan ws false
    else (match l with
      | some y => if hostApp y.code && y.code == code && y.tag == tag then s.hostEnd y.chan ws else s
      | none => s)
  | none, some y => if hostApp y.code && y.code == code && y.tag == tag then s.hostEnd y.chan ws else s
  | none, none => s

/-- Messages arrive: firmware's replies are taken at once, requests wait. -/
def State.hostArrive (s : State) : List HostIn → State
  | [] => s
  | m :: ms => (if m.isReply && !m.bad && m.crcOk then s.appReply m.code m.tag m.words else { s with host := { s.host with inq := s.host.inq ++ [m] } }).hostArrive ms

/-- A frame's or payload's words pass to the engine. -/
def State.hostInput (s : State) (chan : Nat) (ws : List Word) : State := ((s.hostArrive (hostParse chan ws.length ws)).hostShow).hostDrain

/-! The ring (R504, R505, R509). -/

/-- The engine moves the ring past its oldest entry. -/
def State.ringNext (s : State) : State :=
  let es := s.ring.entries.drop 1
  ({ s with ring := { s.ring with entries := es } }).set F.GW.RING_STATUS.COUNT es.length

/-- An entry enters the event queue of 256 entries. -/
def State.eventPut (s : State) (e : RingEntry) : State :=
  let q := s.host.events ++ [e]
  if 256 < q.length then { s with host := { s.host with events := q.drop 1, lost := satAdd 0xFFFF s.host.lost 1 } } else { s with host := { s.host with events := q } }

/-- The request whose RESULT the engine waits for. -/
def State.hostWants (s : State) : Option HostCmd := match s.host.cur with
  | some x => if hostApp x.code then none else some x
  | none => match s.host.long with
    | some x => if hostApp x.code || x.code == 9 then none else some x
    | none => none

/-- Whether an entry is part 0 of a request's RESULT. -/
def RingEntry.answers (e : RingEntry) (x : HostCmd) : Bool := e.kind == 6 && e.stream == 0 && e.src == x.tag && leNat (e.payload.take 2) == x.code

/-- The further parts of a RESULT at the head of the ring: their data and how many they are. -/
def resultMore (tag : Nat) : Nat → List RingEntry → List Byte × Nat
  | _, [] => ([], 0)
  | i, e :: es =>
    if e.kind = 6 ∧ e.src = tag ∧ e.stream = i then
      let r := resultMore tag (i + 1) es
      (e.payload.take 16 ++ r.1, r.2 + 1)
    else ([], 0)

/-- Move the ring past `n` entries. -/
def State.ringNexts (s : State) : Nat → State
  | 0 => s
  | n + 1 => s.ringNext.ringNexts n

/-- Move entries to the event queue up to the RESULT that is awaited. -/
def State.eventsUpTo (s : State) (x : HostCmd) : Nat → State
  | 0 => s
  | n + 1 => match s.ring.entries with
    | e :: _ => if e.answers x then s else ((s.eventPut e).ringNext).eventsUpTo x n
    | [] => s

/-- Answer a forwarded request: the one that ends a long command ends it (R508). -/
def State.hostAnswer (s : State) (x : HostCmd) (status : Nat) (data : List Word) : State :=
  let ws := hostWords x.code x.tag status data
  match s.host.cur, s.host.long with
  | some _, none => ({ s with host := { s.host with cur := none } }).hostPut x.chan ws false
  | some _, some _ =>
    let s := { s with host := { s.host with cur := none } }
    if x.code = 0x0B then s.hostEnd x.chan ws else s.hostPut x.chan ws false
  | none, _ => s.hostEnd x.chan ws

/-- The awaited RESULT stands at the head of the ring: gather it and answer (R505). -/
def State.hostGather (s : State) (x : HostCmd) : State := match s.ring.entries with
  | e :: es =>
    if e.answers x then
      let r := resultMore e.src 1 es
      ((s.ringNexts (r.2 + 1)).hostAnswer x (leNat ((e.payload.drop 2).take 2)) (wordsOf ((e.payload.drop 4).take 12 ++ r.1))).hostDrain
    else s
  | [] => s

/-- Time passes to an instant, while Heartwood keeps time; false says it has not come to it. -/
def State.passTo (s : State) (t : Nat) : State × Bool :=
  if s.time.fast then
    let s := (s.advanceTo t).settle
    (s, decide (t ≤ s.time.t))
  else (s, true)

/-- One millisecond in 2^-16 ns. -/
def msT : Nat := 1000000 * 65536

end Sys2Proof.Machine
end

