-- ==== Sys2Proof/Machine/Spindle.lean ====
section
/-! DEFINITION. Spindle and the gauge (R319 to R345): one meaning per command. TASK_DISPATCH stands with the tally engines. -/

namespace Sys2Proof.Machine

/-- Released jobs that await their decision, first of all by R331. -/
def State.firstUndecided (s : State) : Option Nat :=
  (Sched.first ((s.spn.jobs.filter fun (e : Nat × Job) => e.2.st == 0).map fun (e : Nat × Job) => s.sched e.1 e.2)).map Sched.k

/-- No other task whose job of cycle n is still to be decided at the same instant comes before task k in the order of R331. -/
def State.firstAt (s : State) (k n ta : Nat) : Bool :=
  (List.range s.ntask).all fun i => i == k || !s.releasesAt i n || alFind s.spn.decided i == some n || s.admitAt i n != ta || (s.sched k (s.candidate k n ta)).before (s.sched i (s.candidate i n ta))

/-- Whether task k's job of the next cycle instant can be decided now (R330, R331). -/
def State.decidesNext (s : State) (k : Nat) : Bool :=
  s.nextRelease k == s.nextCycle && alFind s.spn.decided k != some s.nextCycle && s.firstAt k s.nextCycle (s.admitAt k s.nextCycle)

/-- Decide task k's job for cycle n at instant ta (R330, R344); SPN.DEMAND shows the demand that results. -/
def State.admission (s : State) (k n ta : Nat) : State :=
  let s := (s.advanceTo ta).settle
  (if s.regionUp (s.taskRegion k) then s.decide_ k n ta 7 else s.turnedAway k n 7).demandShow

/-- The decision of task k's job at its admission instant (R330): the released job that awaits it, in the order of R331, or the job of the next cycle instant. -/
def execJobAdmission (k : Nat) (s : State) : Host.Outcome State Fault Refusal :=
  guardUnit (Instr.wf (.jobAdmission k)) (
    if !s.on F.SPN.STATUS.RUN || s.spn.held || decide (s.ntask ≤ k) then s
    else match alFind s.spn.jobs k with
      | some j =>
        if j.st = 0 then (if s.firstUndecided = some k then s.admission k j.cycle s.time.t else s)
        else if s.decidesNext k then s.admission k s.nextCycle (s.admitAt k s.nextCycle)
        else s
      | none =>
        if s.decidesNext k then s.admission k s.nextCycle (s.admitAt k s.nextCycle)
        else s)

/-- An admitted job that was not dispatched by its deadline less WCET is abandoned (R333). -/
def execJobAbandon (k : Nat) (s : State) : Host.Outcome State Fault Refusal :=
  guardUnit (Instr.wf (.jobAbandon k)) (match alFind s.spn.jobs k with
    | some j =>
      if j.st = 1 ∨ j.st = 3 then
        let s := (s.advanceTo (j.dl - s.taskWcet k * 65536)).settle
        let s := s.raise F.SPN.STATUS.MISS 0 9
        (s.taskDone k).releaseLost k j.cycle 5
      else s
    | none => s)

/-- ETH.PWR shows the last valid reading of VSTORE (R495). -/
def State.ethMv (s : State) : State := if s.pins.heldS then s else (s.set (F.ETH.PWR.MV 0) (s.get F.GAUGE.VSTORE.MV)).set (F.ETH.PWR.MV 1) (s.get F.GAUGE.VSTORE.MV)

/-- ETH.PWR shows the input current in mA, rounded down (R495); what a current below 0 shows is not stated (free, log entry 2). -/
def State.ethMa (s : State) : State :=
  if s.pins.heldS then s
  else
    let ua := s.getI F.GAUGE.IIN.UA
    let ma := if ua < 0 then (Config.freeWord s.freeCtr).toNat % 65536 else min 0xFFFF (ua.toNat / 1000)
    let s := if ua < 0 then { s with freeCtr := s.freeCtr + 1 } else s
    (s.set (F.ETH.PWR.MA 0) ma).set (F.ETH.PWR.MA 1) ma

/-- What a valid code changes (R47, R322, R323): the code, the reserve and the plan. -/
def State.gaugeTake (s : State) (code : Nat) (isns : Int) : State :=
  let s := { s with spn := { s.spn with codes := (code :: s.spn.codes).take 4 } }
  let s := ((s.set F.GAUGE.STATUS.VALID 1).set F.GAUGE.VSTORE.CODE code).set F.GAUGE.VSTORE.MV (min 0xFFFF (s.vstoreMv code))
  let s := s.ethMv
  let p := s.powerOf code isns
  let s := { s with spn := { s.spn with window := ((s.reserve, p) :: s.spn.window).take 1024, inSec := s.spn.inSec + p } }
  let e := s.reserve
  let uj := heldAt e (2 ^ 96 * 1000)
  (s.set F.SPN.RESERVE.VALUE (if uj < 0 then 0 else min 0xFFFFFFFF uj.toNat)).set F.SPN.PLAN.VALUE (min 0xFFFFFFFF (heldAt s.pPlan (2 ^ 96)).toNat)

/-- What Spindle does with the reserve of a valid sample (R327, R328); in FROST there is no trigger (R359). To resume from WINTER or FROST, AOC wakes Heartwood (DEDUCED from R328 and R352, log entry 181). -/
def State.gaugeAct (s : State) : State :=
  let e := s.reserve
  if s.spn.held then
    (if s.on F.SPN.STATUS.PFAIL && decide (s.eFloor + 100000000 * fpOne ≤ e) then
      let s := ({ s with spn := { s.spn with resume := true } }).set F.SPN.STATUS.PFAIL 0
      if s.time.fast then s else { s with season := { s.season with alarm := some s.time.t } }
     else s)
  else if s.on F.SPN.STATUS.RUN && !s.season.frost && s.spn.trig.isNone && decide (e ≤ s.eFloor) then
    ({ s with spn := { s.spn with trig := some (s.get F.GAUGE.VSTORE.MV) } }).icEdge 0 8
  else s

/-- A gauge sample of the always-on domain (R47, R48, R322): `code` is the VSTORE_SNS code and `isns` the signed ISNS code. A code at full scale is not valid: Spindle keeps the last valid code, and the sample adds no product
to the input energy nor to the mean of R323 (the manual does not say what it adds; DESIGN CHOICE, log entry 169). -/
def execGaugeSample (code : Nat) (isns : Int) (s : State) : Host.Outcome State Fault Refusal :=
  guardUnit (Instr.wf (.gaugeSample code isns)) (
    if s.pins.heldAo then s else
    let s := (s.setI F.GAUGE.IIN.UA (s.currentUa isns)).ethMa
    if code = 4095 then s.set F.GAUGE.STATUS.SNS_OVR 1 else (s.gaugeTake code isns).gaugeAct)

/-- The power-fail commit of a gauge trigger (R327), once HSC runs (R358, R392); `durUs` is its duration, `cut` says a rail falls while it is written. -/
def execPowerFailCommit (durUs : Nat) (cut : Bool) (s : State) : Host.Outcome State Fault Refusal :=
  .next (match s.spn.trig with
    | some mv => if s.hscRuns then s.powerFailStep durUs mv cut else s
    | none => s)

/-- The end of a Heartwood second (R325): the ratio of used to predicted energy moves the energy scale. -/
def execEnergyScaleUpdate (s : State) : Host.Outcome State Fault Refusal :=
  .next (
    if !s.on F.SPN.STATUS.RUN then s
    else
      let s := (s.advanceTo ((s.spn.nSec + 1) * secT)).settle
      let input : Int := if s.chip 0x14 4 = 0 then s.chip 0x18 4 * 1000 * fpOne else s.spn.inSec
      let used := input - (s.reserve - s.spn.eSec)
      let pred := s.pBase * 1000 + s.spn.chSec
      let k : Int := s.get F.SPN.ESCALE.K
      let k1 := if pred ≤ 0 then k else heldAt (7 * k * pred + 256 * used) (8 * pred).toNat
      ({ s with spn := { s.spn with nSec := s.sec, eSec := s.reserve, inSec := 0, chSec := 0 } }).set F.SPN.ESCALE.K (clampI 256 1024 k1).toNat)

/-- Store a list of temperatures. -/
def State.tempsSet (s : State) : Nat → List Int → State
  | _, [] => s
  | i, t :: ts => (s.setI (F.SPN.TEMP.TEMP i) t).tempsSet (i + 1) ts

/-- The thermal state after Tmax (R329). -/
def thermNext (old : Nat) (t lim : Int) : Nat :=
  if lim ≤ t then 2
  else if old = 2 then (if t < lim - 20 then 1 else 2)
  else if old = 1 then (if t < lim - 80 then 0 else 1)
  else if lim - 50 ≤ t then 1 else 0

/-- The twelve sensors report, while Heartwood is powered and out of reset (R54, R329). -/
def execTemperatureSample (temps : List Int) (s : State) : Host.Outcome State Fault Refusal :=
  guardUnit (Instr.wf (.temperatureSample temps)) (
    if s.pins.heldH || s.season.frost then s else
    let s := s.tempsSet 0 temps
    let old := s.get F.SPN.STATUS.THERM
    let new := thermNext old s.tmax (s.chip 0x2C 2)
    let s := if new = 1 ∧ old ≠ 1 then { s with spn := { s.spn with heatN := 0 } } else s
    s.set F.SPN.STATUS.THERM new)

end Sys2Proof.Machine
end

