-- ==== Sys2Proof/Machine/Power.lean ====
section
/-! DEFINITION. Supplies, reset inputs, reset classes, start-up and the Sapwood boot (R43 to R70, R531, R532). -/

namespace Sys2Proof.Machine

/-- What a supply monitor reads at a voltage in mV (R538), numbered as `execSupplyGood` numbers them: good above one threshold, not good below the other, and in between what it read before. The voltages themselves lie
outside the part: its commands are the changes of the reading. -/
def monitorReads (sup mv : Nat) (was : Bool) : Bool :=
  let t : Nat × Nat := if sup = 0 ∨ sup = 1 ∨ sup = 5 then (720, 700) else (1620, 1580)
  if t.1 < mv then true else if mv < t.2 then false else was

/-- Every Heartwood rail is good (R43). -/
def State.railsGood (s : State) : Bool := s.pins.vddHw && s.pins.vddaAcq && s.pins.vddaSd && s.pins.vddioH

/-- Which domains are held in reset by the supplies and TESTEN (R43, R54). VDDIO_S holds Sapwood until it is good; its removal after Sapwood has booted holds nothing (R19, R45, R59;
log entry 54). -/
def State.holds (s : State) : State :=
  { s with pins := { s.pins with heldAo := !s.pins.vddAo || s.pins.testen, heldH := !s.pins.vddAo || s.pins.testen || !s.railsGood,
                                 heldS := !s.pins.vddAo || s.pins.testen || !s.pins.vddSw || (!s.pins.vddioS && s.cores.isEmpty) } }

/-- Whether a low pulse of `us` whole microseconds acts (R51): below 1 µs it does not, from 10 µs it does, between it may (free, log entry 2). -/
def State.pulseActs (s : State) (us : Nat) : Bool := decide (10 ≤ us) || (decide (1 ≤ us) && Config.freeBool s.freeCtr)

/-- The state after a pulse's length has been judged. -/
def State.pulseJudged (s : State) (us : Nat) : State := if 1 ≤ us ∧ us < 10 then { s with freeCtr := s.freeCtr + 1 } else s

/-- PORn low (R51): class P reset. -/
def execPornLow (us : Nat) (s : State) : Host.Outcome State Fault Refusal :=
  .next (if s.pulseActs us then (s.pulseJudged us).resetP.holds else s.pulseJudged us)

/-- SRSTn wakes a gated Sapwood with the class S reset (R353): at once while PLL_SYS runs, else by the THAW that follows. -/
def State.srstnWake (s : State) : State :=
  if s.season.gated && !s.time.sys then
    let t := s.resetS 1
    ({ t with season := { t.season with gated := true, want := if s.season.want.contains 11 then s.season.want else 11 :: s.season.want } }).seasonUpdate
  else (s.wakeNow (2 ^ 11)).resetS 1

/-- SRSTn low (R51): class S reset while VDD_SW is good and no class P reset is held (R62). -/
def execSrstnLow (us : Nat) (s : State) : Host.Outcome State Fault Refusal :=
  .next (if s.pulseActs us && s.pins.vddSw && !s.pins.heldAo then (s.pulseJudged us).srstnWake else s.pulseJudged us)

/-- VDD_AO below its threshold (R59): class P reset, held until it is good. -/
def execVddAoFail (s : State) : Host.Outcome State Fault Refusal :=
  .next (({ s with pins := { s.pins with vddAo := false } }).resetP.holds)

/-- A rail's monitor reads not good. -/
def Pins.railLost (p : Pins) (rail : Nat) : Pins :=
  if rail = 0 then { p with vddHw := false } else if rail = 1 then { p with vddaAcq := false } else if rail = 2 then { p with vddaSd := false } else { p with vddioH := false }

/-- FROST ends without a THAW: the next start of Heartwood is that of its reset (R62, R63). Sapwood was powered down and wakes with nothing of its own (R59). -/
def State.frostLost (s : State) : State :=
  if s.season.frost then
    let s := s.clearSapwood
    let s := { s with regs := regsClass keepsS s.regs }
    { s with season := { s.season with gated := true, frost := false, alarm := none, plan := none, waking := false, retIntact := false } }
  else s

/-- Loss of a Heartwood rail while VDD_AO is good (R45): class H reset at once, without a commit; one that falls in FROST ends it. A rail that falls while Heartwood is held in reset changes its monitor alone. -/
def execHeartwoodRailLoss (rail : Nat) (s : State) : Host.Outcome State Fault Refusal :=
  guardUnit (Instr.wf (.heartwoodRailLoss rail))
    (let t := { s with pins := s.pins.railLost rail }
     if s.pins.heldH then t.holds else ((t.frostLost.resetH 3 rail false).holds).seasonUpdate)

/-- A monitor reads good. -/
def Pins.good (p : Pins) (sup : Nat) : Pins :=
  if sup = 0 then { p with vddAo := true } else if sup = 1 then { p with vddHw := true } else if sup = 2 then { p with vddaAcq := true }
  else if sup = 3 then { p with vddaSd := true } else if sup = 4 then { p with vddioH := true } else if sup = 5 then { p with vddSw := true } else { p with vddioS := true }

/-- VDD_SW returns good after a loss: class S reset (R59). The first rise of VDD_SW counts as such a return where the always-on domain is out of reset by then, and leaves POR where it is not: the manual does not say
which order of rise counts (R43, R59; DESIGN CHOICE, log entry 167). -/
def State.swReturns (s : State) : State :=
  if s.pins.vddSw then s
  else
    let t := { s with pins := { s.pins with vddSw := true } }
    (if s.pins.heldAo then t else t.resetS 4).holds.seasonUpdate

/-- A supply monitor reports good (R43): 0 VDD_AO, 1 VDD_HW, 2 VDDA_ACQ, 3 VDDA_SD, 4 VDDIO_H, 5 VDD_SW, 6 VDDIO_S. -/
def execSupplyGood (sup : Nat) (s : State) : Host.Outcome State Fault Refusal :=
  guardUnit (Instr.wf (.supplyGood sup)) (if sup = 5 then s.swReturns else ({ s with pins := s.pins.good sup }).holds.seasonUpdate)

/-- Loss of VDD_SW (R19, R20, R45): Sapwood stops; an erase that runs in its flash is cut; a command being checked is discarded. Its state is cleared when the supply returns. -/
def execVddSwLoss (s : State) : Host.Outcome State Fault Refusal :=
  .next (
    let s := ({ s with pins := { s.pins with vddSw := false }, cores := [] }).eraseCut 1
    let s := s.gwDiscard
    s.holds.seasonUpdate)

/-- Loss of VDDIO_S (R19, R44, R45): the Sapwood pads go high-impedance and HOST_ALERTn is not driven; nothing inside the part follows (log entry 54). -/
def execVddioSLoss (s : State) : Host.Outcome State Fault Refusal := .next (({ s with pins := { s.pins with vddioS := false } }).holds.seasonUpdate)

/-- The level of HOST_ALERTn, where VDDIO_S supplies it (R41, R510): it is driven low while an enabled condition is pending. -/
def State.hostAlertLow (s : State) : Bool := s.pins.vddioS && s.alerting

/-- VDD_SW returns good (R59). -/
def execVddSwReturn (s : State) : Host.Outcome State Fault Refusal := .next s.swReturns

/-- TESTEN changes (R54): high holds every domain in reset, with every reset state at its class P value. -/
def execTestenHigh (level : Bool) (s : State) : Host.Outcome State Fault Refusal :=
  .next (
    let t := { s with pins := { s.pins with testen := level } }
    if level then t.resetP.holds else t.holds)

/-- A class H reset by the fault manager (cause 0) or by authority command (1), preceded by the commit of R60; `durUs` is how long that commit takes and `mv` VSTORE at its
trigger. -/
def execClassHReset (cause durUs mv : Nat) (s : State) : Host.Outcome State Fault Refusal :=
  guardUnit (Instr.wf (.classHReset cause durUs mv)) (if s.pins.heldH then s else s.resetHCommit (cause + 1) durUs mv)

/-- Steps 1 to 5 of Heartwood's start (R63), when a class P or H start is due, or a class F start that needs steps 3 to 7 (R69), and the rails are good (R43). `seed` is the draw of
the random number generator for the seal pattern, `cut` names what the loss of power cut while it was being programmed (`powerCut`), `faults` counts the faults the fault manager reports during steps 5
and 6. -/
def execStartUpSequence (seed cut faults : Nat) (s : State) : Host.Outcome State Fault Refusal :=
  guardUnit (Instr.wf (.startUpSequence seed cut faults))
    (if s.boot.cls != 0 && decide (s.get F.FLT.BOOT_STATUS.STEP < 3) && !s.pins.heldH && !s.pins.heldAo then (s.startClocks.startRun seed cut faults).seasonUpdate else s)

/-- The verdict of the capacitance check (R66): GAUGE, the capacitance Spindle uses in 0.01 µF, and the measured one in µF. `dv` is V1² - V2² in 2^-56 mV² and `e` is E_load - E_in in 2^-96 nJ. C_meas is used rounded down to 0.01 µF, and
reported rounded to whole µF by the free rule of log entry 31: R66 states no rounding (DESIGN CHOICE, log entry 170). -/
def capCheck (declared : Nat) (dv e : Int) : Nat × Nat × Nat :=
  if dv ≤ 0 ∨ e ≤ 0 then (3, 85 * declared, 0)
  else
    let m := (heldAt (2000 * 2 ^ 56 * e) (dv * fpOne).toNat).toNat
    if 85 * (declared : Int) * dv * fpOne ≤ 200000 * 2 ^ 56 * e then (1, 100 * declared, m) else (2, (200000 * 2 ^ 56 * e / (dv * fpOne)).toNat, m)

/-- The gauge samples of the test's 5 ms, in order, and the input energy they add (R48, R66). -/
def State.capSamples (s : State) : List (Nat × Int) → Int → State × Int
  | [], e => (s, e)
  | (code, isns) :: xs, e =>
    if code = 4095 then (s.set F.GAUGE.STATUS.SNS_OVR 1).capSamples xs e else (s.gaugeTake code isns).capSamples xs (e + s.powerOf code isns)

/-- The last valid code. -/
def State.lastCode (s : State) : Nat := s.spn.codes.headD 0

/-- The check with its load applied (R66): V1 is the last valid sample before the load and V2 the last of it. -/
def State.capTest (s : State) (xs : List (Nat × Int)) : State × (Nat × Nat × Nat) :=
  let r := s.capSamples xs 0
  let d : Int := (s.lastCode * s.lastCode : Nat) - (r.1.lastCode * r.1.lastCode : Nat)
  (r.1, capCheck (s.chip 8 4) (d * ((s.chip 0x10 4 * s.chip 0x10 4 * 562500 : Nat) : Int)) ((Config.eLoad : Int) * fpOne - r.2))

/-- Whether the reserve with the declared capacitance has reached E_commit + 60 mJ (R66), which is E_floor + 40 mJ (R326). -/
def State.capReady (s : State) : Bool := decide (s.eFloor + 40000000 * fpOne ≤ ({ s with boot := { s.boot with cUse := 100 * s.chip 8 4 } }).reserve)

/-- For each task the first cycle instant that lies at least its THAW lead ahead (R63). -/
def State.firstInstants (s : State) : List (Nat × Nat) :=
  (List.range s.ntask).map fun k => (k, if s.cycleT = 0 then 0 else (s.time.t + s.leadOf k * 65536 + s.cycleT - 1) / s.cycleT)

/-- The end of step 6 and step 7 (R63, R66, R556): the capacitance is chosen, the start entry completed, and Spindle starts. The interval in which the start ends carries RESTART, as the one in which it began (R522). -/
def State.startEnd (s : State) (v : Nat × Nat × Nat) : State :=
  let s := ((s.set F.FLT.BOOT_STATUS.GAUGE v.1).set F.FLT.BOOT_STATUS.STEP 6).setB F.GAUGE.STATUS.SHUNT (s.chip 0x14 4 != 0)
  let s := ({ s with boot := { s.boot with cUse := v.2.1, cMeas := v.2.2 } }).startComplete.x32Log
  let s := ((s.set F.FLT.BOOT_STATUS.STEP 7).set F.FLT.BOOT_STATUS.READY 1).set F.SPN.STATUS.RUN 1
  let x := { s.spn with nSec := s.sec, eSec := s.reserve, inSec := 0, chSec := 0, first := s.firstInstants }
  (({ s with boot := { s.boot with cls := 0 }, wdt := { s.wdt with hscAt := s.time.t }, spn := x }).intervalNote 4).commitAhead

/-- Step 6 (R66): it waits until the reserve, with the declared capacitance, reaches E_commit + 60 mJ, and for 10 s at most; then the load of the ROM gauge test is applied, and `samples` are the gauge samples taken meanwhile
(VSTORE_SNS code and signed ISNS code). While neither has come about, nothing changes. With no shunt no load is applied, and the model waits for nothing (log entry 170). -/
def execBankCapacitanceCheck (samples : List (Nat × Int)) (s : State) : Host.Outcome State Fault Refusal :=
  guardUnit (Instr.wf (.bankCapacitanceCheck samples)) (
    if s.starting = false ∨ s.pins.heldH = true then s
    else if s.chip 0x14 4 = 0 then s.startEnd (3, 85 * s.chip 8 4, 0)
    else if s.capReady then
      let r := s.capTest samples
      r.1.startEnd r.2
    else if s.boot.waitAt + 10 * secT ≤ s.time.t then s.startEnd (3, 85 * s.chip 8 4, 0)
    else s)

/-! Sapwood boot (R67, R531, R532). -/

/-- The tagged base of a Sapwood firmware slot (R531). -/
def swSlotBase (slot : Nat) : Nat := if slot = 1 then 0x110100000 else 0x110300000

/-- Whether a Sapwood firmware slot is valid (R531, R532). -/
def State.swSlotValid (s : State) (slot : Nat) : Bool :=
  let b := swSlotBase slot
  let len := s.ldN (b + 8) 4
  let load := s.ldN (b + 12) 4
  let zones := if slot = 1 then [1, 2] else [3, 4]
  s.ldBytes b 4 == [0x53, 0x57, 0x46, 0x57] && len % 4 == 0 && load % 4 == 0 && decide (0x20000000 ≤ load) && decide (load + len ≤ 0x20180000) && s.ldN (b + 0x14) 8 == 0 &&
    s.ldN (b + 0x1C) 4 == crc32c (s.ldBytes b 28 ++ s.ldBytes (b + 32) len) && zones.all fun z => !s.sflash.dense.contains z

/-- AOC starts HFXO and PLL_SYS for Sapwood, whether or not Heartwood has started (R67, R361). -/
def State.sysOn (s : State) : State := { s.set F.CLK.STATUS.HFXO_ON 1 with time := { s.time with sys := true } }

/-- Start a core at an address. -/
def State.coreStart (s : State) (c addr : Nat) : State := { s with cores := alSet s.cores c { Core.reset with running := true, start := addr } }

/-- Whether a core runs. -/
def State.coreRuns (s : State) (c : Nat) : Bool := (alGet Core.reset s.cores c).running

/-- Load and start the firmware of a slot. -/
def State.swRun (s : State) (slot : Nat) : State :=
  let b := swSlotBase slot
  ((s.set F.SEASON.SBOOT.SLOT slot).copyMem (b + 32) (2 ^ 32 + s.ldN (b + 12) 4) (s.ldN (b + 8) 4)).coreStart 0 (s.ldN (b + 16) 4)

/-- Sapwood boot (R67, R532), when its supplies are good, no reset is held and SC0 does not run yet. -/
def execSapwoodBoot (s : State) : Host.Outcome State Fault Refusal :=
  .next (if s.pins.heldS || !s.pins.vddioS || s.pins.heldAo || s.season.gated || s.coreRuns 0 then s
    else
      let s := (s.sysOn.repair 1).1
      let a := s.swSlotValid 1
      let b := s.swSlotValid 2
      let s := (s.setB F.SEASON.SBOOT.A_BAD !a).setB F.SEASON.SBOOT.B_BAD !b
      let newer := decide (s.ldN (swSlotBase 1 + 4) 4 < s.ldN (swSlotBase 2 + 4) 4)
      let s := if a && !(b && newer) then s.swRun 1 else if b then s.swRun 2
        else ((s.set F.SEASON.SBOOT.SLOT 0).set F.HOST.CFG.EN 1).coreStart 0 0x4000
      s.seasonUpdate)

/-- GO with the key 0x5352 causes a class S reset (R70). -/
def State.srstReq (s : State) (value : Word) : State := if bitsOf value.toNat 0 0 = 1 ∧ bitsOf value.toNat 31 16 = 0x5352 then s.resetS 3 else s

/-- A write of SEASON.SRST_REQ by a Sapwood master, which runs (R70). -/
def execSrstReq (value : Word) (s : State) : Host.Outcome State Fault Refusal := .next (if s.domRuns 1 then s.srstReq value else s)

/-- ADDR is stored, and GO starts SC1 there unless it runs (R532). -/
def State.sc1Boot (s : State) (value : Word) : State :=
  let s := s.set F.SEASON.SC1_BOOT.ADDR (bitsOf value.toNat 31 2)
  if bitsOf value.toNat 0 0 = 1 ∧ s.coreRuns 1 = false then s.coreStart 1 (4 * bitsOf value.toNat 31 2) else s

/-- A write of SEASON.SC1_BOOT by a Sapwood master, which runs (R532). -/
def execSc1Boot (value : Word) (s : State) : Host.Outcome State Fault Refusal := .next (if s.domRuns 1 then s.sc1Boot value else s)

end Sys2Proof.Machine
end

