-- ==== Sys2Proof/Machine/Host.lean ====
section
/-! DEFINITION. The host port CSP4 and the commands of the host engine (R353, R483, R484, R497 to R511, R532). A request's command serves the message that stands first in the engine's queue, where that is of its code. -/

namespace Sys2Proof.Machine

/-! CSP4 (R483, R484). -/

/-- SS falls (R353, R484): CSP4 answers, or the selection wakes Sapwood and its frame is lost, or it is ignored. -/
def execCsp4SelectAsserted (s : State) : Host.Outcome State Fault Refusal :=
  .next (if s.season.gated then (if s.on F.SEASON.WAKE.CSP4 && s.pins.vddioS then s.wakeSapwood 6 else s)
    else if s.domRuns 1 && s.pins.vddioS && s.on F.CSP4.CFG.EN then ({ s with cspx := { s.cspx with sel := true } }).set F.CSP4.STATUS.SEL 1
    else s)

/-- Words that CSP4 sends in a frame of `n` words: every word on one lane, all but the header in a read frame, else none. -/
def State.csp4Sends (s : State) (n : Nat) (words : List Word) : Nat :=
  if s.get F.CSP4.CFG.LANES = 0 then n else if bitsOf (listGet 0 words 0).toNat 31 31 = 1 then n - 1 else 0

/-- Words that pass to the engine: the header of a read frame does not. -/
def State.csp4Gets (s : State) (n : Nat) (words : List Word) : List Word :=
  if s.get F.CSP4.CFG.LANES ≠ 0 ∧ bitsOf (listGet 0 words 0).toNat 31 31 = 1 then [] else (words ++ List.replicate n 0).take n

/-- What CSP4 sends: words that wait, then words of ones (R483). -/
def State.csp4Out (s : State) (n : Nat) : List Word := (s.cspx.out ++ List.replicate n (BitVec.ofNat 32 0xFFFFFFFF)).take n

/-- Why a frame is rejected: 1 SHORT, 2 LONG, 3 FULL, 0 it is not (R484). -/
def State.csp4Cause (s : State) (bits : Nat) (words : List Word) : Nat :=
  if bits % 32 ≠ 0 then 1 else if 1024 < bits / 32 then 2
  else if 1024 < s.get F.CSP4.STATUS.RXWORDS + (s.csp4Gets (bits / 32) words).length then 3 else 0

/-- A frame is rejected: its words are put back and REJ is pending (R484, R510). -/
def State.csp4Reject (s : State) (cause : Nat) : State := (((s.sat F.CSP4.REJ.COUNT 1).set F.CSP4.REJ.LAST cause).raise F.CSP4.STATUS.FRAME_REJ 1 22).alertPend 3 true

/-- An accepted frame has sent `n` words: RESULT clears with the last word of a long reply (R510). -/
def State.csp4Sent (s : State) (n : Nat) : State :=
  let s := { s with cspx := { s.cspx with out := s.cspx.out.drop n } }
  match s.cspx.outRes with
  | some k => if k ≤ n then ({ s with cspx := { s.cspx with outRes := none } }).alertPend 1 false else { s with cspx := { s.cspx with outRes := some (k - n) } }
  | none => s

/-- SS rises after `bits` bits without turnaround cycles (R484); `words` are the words received on the lanes. -/
def execCsp4Frame (bits : Nat) (words : List Word) (s : State) : Host.Outcome State Fault Refusal :=
  .next (if s.cspx.sel && s.domRuns 1 && s.pins.vddioS then
      let s := ({ s with cspx := { s.cspx with sel := false } }).set F.CSP4.STATUS.SEL 0
      if bits = 0 then s
      else
        let n := bits / 32
        let k := s.csp4Sends n words
        let cause := s.csp4Cause bits words
        let s := { s with cspx := { s.cspx with sent := s.csp4Out k } }
        if cause = 0 then (s.csp4Sent k).hostInput 0 (s.csp4Gets n words) else s.csp4Reject cause
    else s)

/-! Firmware's windows (R497, R507). -/

/-- The payload in FW_IN, at most 256 words. -/
def State.fwIn (s : State) (nbytes : Nat) : List Word := (List.range (min 256 (nbytes / 4))).map fun k => s.rw (F.HOST.FW_IN.ALL k).addr

/-- SUBMIT (R497, R500): the reserved CHAN codes and a count of 0 submit nothing. -/
def State.hostSubmit (s : State) (v : Nat) : State :=
  let n := bitsOf v 10 0
  let c := bitsOf v 12 11
  if bitsOf v 13 13 = 0 ∨ n = 0 ∨ (c ≠ 1 ∧ c ≠ 2) then s
  else if s.on F.HOST.FW_STAT.IN_BUSY then s.set F.HOST.FW_STAT.SUB_LOST 1
  else if n % 4 ≠ 0 ∨ 1024 < n then s.sat F.HOST.ERR.FRAME 1
  else s.hostInput c (s.fwIn n)

/-- A write of HOST.FW_CTRL with SUBMIT (R497). -/
def execSubmit (value : Word) (s : State) : Host.Outcome State Fault Refusal := .next (if s.domRuns 1 then s.hostSubmit value.toNat else s)

/-- LONG (R507, R508): the APP request with TAG is long from here on. -/
def State.hostLong (s : State) (v : Nat) : State := match s.host.cur with
  | some x =>
    if bitsOf v 14 14 = 1 ∧ hostApp x.code = true ∧ x.tag = bitsOf v 31 16 then (({ s with host := { s.host with cur := none } }).hostBegin { x with since := s.time.t }).hostDrain else s
  | none => s

/-- A write of HOST.FW_CTRL with LONG (R507). -/
def execLong (value : Word) (s : State) : Host.Outcome State Fault Refusal := .next (if s.domRuns 1 then s.hostLong value.toNat else s)

/-- POP (R497, R510). -/
def State.fwPop (s : State) : State := match s.host.fwQueue with
  | m :: q =>
    if s.on F.HOST.FW_STAT.OUT_VALID then
      let s := ({ s with host := { s.host with fwQueue := q } }).set F.HOST.FW_STAT.OUT_VALID 0
      (if m.long then s.alertPend 1 false else s).fwShow
    else s
  | [] => s

/-- A write of HOST.FW_STAT with POP. -/
def execFwOutPop (s : State) : Host.Outcome State Fault Refusal := .next (if s.domRuns 1 then s.fwPop else s)

/-! Requests. -/

/-- A gateway code is forwarded (R504, R505, R508). -/
def State.hostForward (s : State) (m : HostIn) : State :=
  let p := gwParse m.gwWords
  let s := s.hostTake.gwPut 0 m.gwWords
  let r := s.gwReason p.1 p.2
  if r ≠ 0 then (((s.gwVerified p.2 r).gwShow 3 r m.tag).hostReply m.chan m.code m.tag (0x8000 + r) []).hostDrain
  else
    let x : HostCmd := { code := m.code, tag := m.tag, chan := m.chan, since := s.time.t }
    let s := if gwIsLong m.code then s.hostBegin x else s
    let s := if gwIsLong m.code && m.code != 9 then s else { s with host := { s.host with cur := some x } }
    (s.gwRing m.gwWords).hostDrain

/-- HOST_FORWARD; a check that Sapwood's doorbell began ends first (R111). -/
def execHostForward (s : State) : Host.Outcome State Fault Refusal :=
  .next (match s.hostNext gwListed with
    | some m => if s.gw.check.isSome then s else s.hostForward m
    | none => s)

/-- A request that the engine answers at once. -/
def State.hostSay (s : State) (m : HostIn) (status : Nat) (data : List Nat) : State := ((s.hostTake).hostReply m.chan m.code m.tag status (data.map (BitVec.ofNat 32))).hostDrain

/-- The data of HSTATUS (R506). -/
def State.hstatusData (s : State) : List Nat :=
  (match s.host.long with
    | some x => [x.code + 65536 * x.tag, (s.time.t - x.since) / msT]
    | none => [0, 0]) ++
  [s.host.events.length + 65536 * s.host.lost,
   s.get F.TIME.STATUS.SYNC + 4 * s.get F.SEASON.STATE.SEASON + 16 * s.get F.FLT.BOOT_STATUS.READY + (if s.host.result.isSome then 32 else 0)]

/-- HSTATUS (R506). -/
def execHstatus (s : State) : Host.Outcome State Fault Refusal :=
  .next (match s.hostNext (· == 0x100) with
    | some m => s.hostSay m 0 s.hstatusData
    | none => s)

/-- GET_RESULT (R503). -/
def execGetResult (s : State) : Host.Outcome State Fault Refusal :=
  .next (match s.hostNext (· == 0x101) with
    | some m => (match s.host.result with
      | some ws => s.hostSay m (bitsOf (listGet 0 ws 1).toNat 31 16) ((ws.drop 2).dropLast.map BitVec.toNat)
      | none => s.hostSay m 0xF006 [])
    | none => s)

/-- The 8 words of a ring entry (R115). -/
def RingEntry.words (e : RingEntry) : List Nat :=
  (wordsOf (leBytes 4 e.seq ++ leBytes 1 e.kind ++ leBytes 1 e.stream ++ leBytes 2 e.src ++ leBytes 8 e.cycle ++ (e.payload ++ List.replicate 16 0).take 16)).map BitVec.toNat

/-- EVENTS (R503, R510): up to N entries leave the queue; EVQ clears when none of a KIND in KINDMASK is left. -/
def State.hostEvents (s : State) (m : HostIn) : State :=
  if m.arg 0 < 1 ∨ 16 < m.arg 0 then s.hostSay m 0xF007 []
  else
    let es := s.host.events.take (m.arg 0)
    let s := { s with host := { s.host with events := s.host.events.drop (m.arg 0) } }
    let s := if s.host.events.any (fun (e : RingEntry) => s.alertKind e.kind) then s else s.alertPend 0 false
    s.hostSay m 0 (es.length :: es.flatMap RingEntry.words)

/-- EVENTS. -/
def execEvents (s : State) : Host.Outcome State Fault Refusal :=
  .next (match s.hostNext (· == 0x102) with
    | some m => s.hostEvents m
    | none => s)

/-- TIME (R312, R503). -/
def execTime (s : State) : Host.Outcome State Fault Refusal :=
  .next (match s.hostNext (· == 0x103) with
    | some m => s.hostSay m 0 ((List.range 4).map s.gwTime)
    | none => s)

/-- A write to HOST.ALERT: the alert follows its new enables, and TWM_CTRL.ALERT with it (R510). -/
def State.alertWrite (s : State) (v : Nat) : State :=
  let s := ((s.set F.HOST.ALERT.KINDMASK (bitsOf v 6 0)).set F.HOST.ALERT.EN (bitsOf v 11 8)).set F.HOST.ALERT.TWM (bitsOf v 12 12)
  if s.on F.HOST.ALERT.TWM then s.setB F.TWM.CTRL.ALERT s.alerting else s

/-- A write to SEASON.WAKE. -/
def State.wakeMaskWrite (s : State) (v : Nat) : State := s.setW F.SEASON.WAKE.ALL.addr (BitVec.ofNat 32 (bitsOf v 7 0))

/-- WAKE_POLICY (R503). -/
def execWakePolicy (s : State) : Host.Outcome State Fault Refusal :=
  .next (match s.hostNext (· == 0x104) with
    | some m => ((((s.alertWrite (m.arg 0)).wakeMaskWrite (m.arg 1)).set F.SEASON.REQ.SLEEP (bitsOf (m.arg 1) 8 8)).hostSay m 0 [])
    | none => s)

/-- An APP request goes to firmware (R507). -/
def State.hostPass (s : State) (m : HostIn) : State :=
  let x : HostCmd := { code := m.code, tag := m.tag, chan := m.chan, since := s.time.t }
  let s := s.hostTake
  (({ s with host := { s.host with cur := some x } }).hostPut 2 m.words false).hostDrain

/-- APP. -/
def execApp (s : State) : Host.Outcome State Fault Refusal :=
  .next (match s.hostNext hostApp with
    | some m => s.hostPass m
    | none => s)

/-! Answers and timeouts (R505, R507, R509). -/

/-- HOST_RESULT_COLLECT (R505): entries before the awaited RESULT go to the event queue. -/
def execHostResultCollect (s : State) : Host.Outcome State Fault Refusal :=
  .next (if s.on F.HOST.CFG.EN && s.domRuns 1 then (match s.hostWants with
      | some x => if s.ring.entries.any fun (e : RingEntry) => e.answers x then (s.eventsUpTo x s.ring.entries.length).hostGather x else s
      | none => s)
    else s)

/-- HOST_GATEWAY_TIMEOUT (R505): a command that is not long has no part 0 after GW_TO milliseconds. -/
def execHostGatewayTimeout (s : State) : Host.Outcome State Fault Refusal :=
  .next (match s.host.cur with
    | some x =>
      if hostApp x.code || s.host.long.isSome || !s.domRuns 1 || s.ring.entries.any (fun (e : RingEntry) => e.answers x) then s
      else
        let r := s.passTo (x.since + s.get F.HOST.CFG.GW_TO * msT)
        if r.2 then (r.1.hostAnswer x 0xF005 []).hostDrain else r.1
    | none => s)

/-- APP_TIMEOUT (R507). -/
def execAppTimeout (s : State) : Host.Outcome State Fault Refusal :=
  .next (match s.host.cur with
    | some x =>
      if !hostApp x.code || !s.domRuns 1 then s
      else
        let r := s.passTo (x.since + s.get F.HOST.CFG.APP_TO * msT)
        if r.2 then (r.1.hostAnswer x 0xF005 []).hostDrain else r.1
    | none => s)

/-- EVENT_QUEUE_MOVE (R509): the oldest ring entry enters the event queue unless it is part of an awaited RESULT. -/
def execEventQueueMove (s : State) : Host.Outcome State Fault Refusal :=
  .next (if s.on F.HOST.CFG.EN && s.domRuns 1 then (match s.ring.entries with
      | e :: _ => if (match s.hostWants with
          | some x => e.answers x
          | none => false) then s else (s.eventPut e).ringNext
      | [] => s)
    else s)

/-! Recovery (R532). -/

/-- The APP request of a code that the boot ROM has in hand: SC0 is in recovery. -/
def State.recovery (s : State) (code : Nat) : Option HostCmd := match s.host.cur with
  | some x => if x.code = code ∧ s.get F.SEASON.SBOOT.SLOT = 0 ∧ s.coreRuns 0 = true ∧ s.domRuns 1 = true then some x else none
  | none => none

/-- The boot ROM takes the request from FW_OUT and answers it. -/
def State.romReply (s : State) (x : HostCmd) (status : Nat) : State := ((s.fwPop).appReply x.code x.tag (hostWords x.code x.tag status [])).hostDrain

/-- Erase `n` sectors of Sapwood flash from a sector up (R408). -/
def State.sapErase (s : State) (sector : Nat) : Nat → State
  | 0 => s
  | n + 1 =>
    let r := s.sflash.journalAdd 1 sector false
    (({ s with sflash := r.1 }).sectorErased 1 sector r.2).sapErase (sector + 1) n

/-- ERASE_SLOT: slot A, zones 1 and 2. -/
def execEraseSlot (s : State) : Host.Outcome State Fault Refusal :=
  .next (match s.recovery 0x2F0 with
    | some x => (s.sapErase 0x100 512).romReply x 0
    | none => s)

/-- WRITE: `offset` and `words` are what the request asks to be written (its layout is not stated); whole 16-byte words within slot A. What STATUS reports of a word that is not blank is not stated (free, log entry 2). -/
def execWrite (offset : Nat) (words : List Word) (s : State) : Host.Outcome State Fault Refusal :=
  .next (match s.recovery 0x2F1 with
    | some x =>
      if offset % 16 ≠ 0 ∨ words.length % 4 ≠ 0 ∨ 0x200000 < offset + 4 * words.length then s.romReply x 0xF007
      else
        let r := s.flPrograms 1 (0x10100000 + offset) none none (words16 (words.length / 4) (bytesOf words)) 0
        if r.2.1.1 = 0 then r.1.romReply x 0 else (({ r.1 with freeCtr := r.1.freeCtr + 1 }).romReply x ((Config.freeWord r.1.freeCtr).toNat % 65536))
    | none => s)

/-- DONE: a class S reset through SEASON.SRST_REQ. -/
def execDone (s : State) : Host.Outcome State Fault Refusal :=
  .next (match s.recovery 0x2F2 with
    | some _ => s.resetS 3
    | none => s)

end Sys2Proof.Machine
end

