-- ==== Sys2Proof/Machine/Seal.lean ====
section
/-! DEFINITION. The seal pattern and the filtered loop (R101 to R104), and the outbound ring's registers (R115 to R117). -/

namespace Sys2Proof.Machine

/-- The bit the pattern drives next and the register after it (R101). -/
def lfsrNext (r : BitVec 15) : Bool × BitVec 15 :=
  let f := (r.getLsbD 14) != (r.getLsbD 13)
  (f, (r <<< 1) ||| (if f then 1 else 0))

/-- The pattern advances and SEAL_B is sampled (R101, R102): `sample` is what SEAL_B reads. While Heartwood sleeps, the advance carries its 32 periods of XTAL32 into Heartwood time. -/
def execSealPatternAdvance (sample : Bool) (s : State) : Host.Outcome State Fault Refusal :=
  .next (if s.pins.heldAo then s
    else
      let s := s.passed { counts := 32, tao := [], hfxoNs := 0 }
      let r := lfsrNext s.sealc.lfsr
      let hit := sample == r.1
      let n1 := if r.1 then (if hit then 0 else s.sealc.n1 + 1) else s.sealc.n1
      let n0 := if r.1 then s.sealc.n0 else (if hit then 0 else s.sealc.n0 + 1)
      let run := if hit then min 256 (s.sealc.run + 1) else 0
      let s := { s with sealc := { s.sealc with lfsr := r.2, sealA := r.1, n1 := min 4 n1, n0 := min 4 n0, run := run } }
      let isOpen := s.sealc.verdict && !s.on F.SEAL.STATUS.LOOP
      let isClosed := s.sealc.verdict && s.on F.SEAL.STATUS.LOOP
      if !isOpen && (decide (4 ≤ n1) || decide (4 ≤ n0)) then s.loopOpen 0
      else if !isClosed && decide (256 ≤ run) then s.loopClosed 0
      else s)

/-- The filtered loop reads open (R103); a loop that already reads open changes nothing. `fails` counts the PROG_FAILs of the seal control word's write (R407), and `slept` is what the sleep counter has carried where Heartwood
sleeps (R106). -/
def execSealOpen (fails : Nat) (slept : Asleep) (s : State) : Host.Outcome State Fault Refusal :=
  .next (if s.pins.heldAo || (s.sealc.verdict && !s.on F.SEAL.STATUS.LOOP) then s else (s.passed slept).loopOpen fails)

/-- The filtered loop reads closed (R103). -/
def execSealClose (fails : Nat) (slept : Asleep) (s : State) : Host.Outcome State Fault Refusal :=
  .next (if s.pins.heldAo || (s.sealc.verdict && s.on F.SEAL.STATUS.LOOP) then s else (s.passed slept).loopClosed fails)

/-- The 32 bytes of a ring entry (R115). -/
def RingEntry.bytes (e : RingEntry) : List Byte := leBytes 4 e.seq ++ leBytes 1 e.kind ++ leBytes 1 e.stream ++ leBytes 2 e.src ++ leBytes 8 e.cycle ++ (e.payload ++ List.replicate 16 0).take 16

/-- Load GW.RING_ENTRY0 onwards with words. -/
def State.ringShow (s : State) : Nat → List Word → State
  | _, [] => s
  | k, w :: ws => (s.setW (F.GW.RING_ENTRY.ALL k).addr w).ringShow (k + 1) ws

/-- A read of GW.RING_ENTRY0 (R117): the entry at the read pointer, or zero words. -/
def execRingEntryRead (s : State) : Host.Outcome State Fault Refusal :=
  .next (match s.ring.entries with
    | e :: _ => { s.ringShow 0 (wordsOf e.bytes) with ring := { s.ring with snap := some e.seq } }
    | [] => s.ringShow 0 (List.replicate 8 0))

/-- The read pointer moves past the snapshot's entry, unless it already has (R117). -/
def State.ringPop (s : State) : State := match s.ring.entries with
  | e :: es => if s.ring.snap = some e.seq then ({ s with ring := { s.ring with entries := es } }).set F.GW.RING_STATUS.COUNT es.length else s
  | [] => s

/-- A write of POP (R117). -/
def execPop (s : State) : Host.Outcome State Fault Refusal := .next s.ringPop

/-- A write of CLR_OVR (R116, R117). -/
def execClrOvr (s : State) : Host.Outcome State Fault Refusal := .next (s.set F.GW.RING_STATUS.OVERRUN 0)

end Sys2Proof.Machine
end

