-- ==== Sys2Proof/Machine/Timers.lean ====
section
/-! DEFINITION. Sapwood's counters and watchdog (R448 to R458). -/

namespace Sys2Proof.Machine

/-- One counter as its registers hold it. -/
structure Tc where
  mode : Nat
  run : Bool
  cmpdir : Nat
  master : Nat
  slave : Nat
  mevt : Bool
  chain : Bool
  count : Nat
  top : Nat
  cmp : Nat
  sCmp : Bool
  sPer : Bool
  out : Bool
  dir : Bool
  deriving DecidableEq, Repr

/-- Counter i of group g. -/
def State.tcGet (s : State) (g i : Nat) : Tc :=
  { mode := s.get (F.TMR.CTRL.MODE g i), run := s.on (F.TMR.CTRL.RUN g i), cmpdir := s.get (F.TMR.CTRL.CMPDIR g i), master := s.get (F.TMR.CTRL.MASTER g i), slave := s.get (F.TMR.CTRL.SLAVE g i),
    mevt := s.on (F.TMR.CTRL.MEVT g i), chain := i % 2 == 1 && s.on (F.TMR.CTRL.CHAIN g i), count := s.get (F.TMR.COUNT.COUNT g i), top := s.get (F.TMR.TOP.TOP g i), cmp := s.get (F.TMR.CMP.CMP g i),
    sCmp := s.on (F.TMR.STATUS.CMP g i), sPer := s.on (F.TMR.STATUS.PER g i), out := s.on (F.TMR.STATUS.OUT g i), dir := s.on (F.TMR.STATUS.DIR g i) }

/-- What moves in a counter is written back. -/
def State.tcPut (s : State) (g i : Nat) (x : Tc) : State :=
  ((((s.set (F.TMR.COUNT.COUNT g i) x.count).setB (F.TMR.STATUS.CMP g i) x.sCmp).setB (F.TMR.STATUS.PER g i) x.sPer).setB (F.TMR.STATUS.OUT g i) x.out).setB (F.TMR.STATUS.DIR g i) x.dir

/-- A group as it moves: its counters, the events that reach slaves of lower index at the next tick, and the counters that matched and ended a period on the last tick. -/
structure TcGroup where
  cs : List Tc
  late : List Nat
  mat : List Nat
  per : List Nat
  deriving DecidableEq, Repr

/-- A counter's place in its group. -/
def TcGroup.c (x : TcGroup) (i : Nat) : Tc :=
  listGet { mode := 0, run := false, cmpdir := 3, master := 0, slave := 0, mevt := false, chain := false, count := 0, top := 0xFFFFFFFF, cmp := 0, sCmp := false, sPer := false, out := false, dir := false } x.cs i

/-- Whether counter i is the low half of a chained pair (R455). -/
def TcGroup.low (x : TcGroup) (i : Nat) : Bool := i % 2 == 0 && (x.c (i + 1)).chain

/-- One tick of a count in a mode with a TOP: the new count, whether a period ends, whether the tick is upward, and the direction of the next tick (R449). -/
def tcMove (mode top count : Nat) (down : Bool) : Nat × Bool × Bool × Bool :=
  if mode = 0 then (if count = top then 0 else (count + 1) % 2 ^ 32, count == top, true, down)
  else if mode = 1 then (if count = 0 then top else count - 1, count == 0, false, down)
  else if top = 0 then (0, true, false, false)
  else if (down = true ∧ count ≠ 0) ∨ (down = false ∧ top ≤ count) then (count - 1, count == 1, false, count != 1)
  else (count + 1, false, true, count + 1 == top)

/-- Move counter i one tick and note its match, its period end and its master event (R450, R453). `ev` holds the events of this tick. -/
def TcGroup.move (x : TcGroup) (i : Nat) (ev : List Nat) : TcGroup × List Nat :=
  let c := x.c i
  let low := x.low i
  let mode := if low then (x.c (i + 1)).mode else c.mode
  let top := if low then 0xFFFFFFFF else c.top
  let (n, per, up, dir) := tcMove mode top c.count c.dir
  let mat := n == c.cmp && decide (c.cmp ≤ top) && (mode != 2 || bitsOf c.cmpdir 0 0 == 1 && up || bitsOf c.cmpdir 1 1 == 1 && !up)
  let y : Tc := { c with count := n, dir := dir, sCmp := c.sCmp || mat, sPer := c.sPer || per, out := if per then false else c.out || mat }
  ({ x with cs := listSet x.cs i y, mat := if mat then i :: x.mat else x.mat, per := if per then i :: x.per else x.per }, if (if c.mevt then mat else per) then i :: ev else ev)

/-- A reset by a master (R453). -/
def TcGroup.zero (x : TcGroup) (i : Nat) : TcGroup :=
  let c := x.c i
  let mode := if x.low i then (x.c (i + 1)).mode else c.mode
  let top := if x.low i then 0xFFFFFFFF else c.top
  { x with cs := listSet x.cs i { c with count := if mode = 1 then top else 0, dir := false } }

/-- What a group tick does to counter i: it stays, is reset, or moves (R449, R453 to R455). The odd half of a pair governs RUN, gate and reset of both. -/
def TcGroup.act (x : TcGroup) (i : Nat) (ev : List Nat) : TcGroup × List Nat :=
  let o := if x.low i then i + 1 else i
  let g := x.c o
  let sl := if g.master = o ∨ (g.chain = true ∧ g.slave = 3) then 0 else g.slave
  let hit := if g.master < i then ev.contains g.master else x.late.contains g.master
  if !g.run then (x, ev)
  else if sl = 2 && hit then (x.zero i, ev)
  else if (x.c i).chain then (if x.per.contains (i - 1) then x.move i ev else (x, ev))
  else if sl = 1 && !(x.c g.master).out then (x, ev)
  else if sl = 3 && !hit then (x, ev)
  else x.move i ev

/-- Counters i, i + 1, … in index order. -/
def TcGroup.acts (x : TcGroup) : Nat → Nat → List Nat → TcGroup × List Nat
  | 0, _, ev => (x, ev)
  | n + 1, i, ev => (x.act i ev).1.acts n (i + 1) (x.act i ev).2

/-- One group tick (R448, R454). -/
def TcGroup.tick (x : TcGroup) : TcGroup :=
  let r := ({ x with mat := [], per := [] }).acts 8 0 []
  { r.1 with late := r.2 }

/-- `n` group ticks; a group that a tick leaves as it is stays so. -/
def TcGroup.ticks : Nat → TcGroup → TcGroup
  | 0, x => x
  | n + 1, x => if x.tick = x then x else TcGroup.ticks n x.tick

/-- The ticks up to and with the one on which counter i next matches (`per` false) or ends a period, with the group after it. -/
def TcGroup.find (per : Bool) (i : Nat) : Nat → Nat → TcGroup → Option (Nat × TcGroup)
  | 0, _, _ => none
  | f + 1, n, x =>
    if (if per then x.tick.per else x.tick.mat).contains i then some (n + 1, x.tick)
    else if x.tick = x then none
    else TcGroup.find per i f (n + 1) x.tick

/-- PLL_SYS ticks as Sapwood sees them: they stop while it is gated (R448). -/
def State.sapPlls (s : State) : Nat := if s.season.gated then s.tmr.gateAt else s.time.plls

/-- Group g's place. -/
def State.tmrGrp (s : State) (g : Nat) : TmrGrp := alGet { at_ := s.tmr.base, ph := 0, late := [] } s.tmr.grps g

/-- PLL_SYS ticks of one group tick. -/
def State.tmrDiv (s : State) (g : Nat) : Nat := s.get (F.TMR.PRESCALE.DIV g) + 1

/-- The counters of group g. -/
def State.tmrLoad (s : State) (g : Nat) : TcGroup := { cs := (List.range 8).map (s.tcGet g), late := (s.tmrGrp g).late, mat := [], per := [] }

/-- Write the counters of a list back, and sample their interrupt sources (R457). -/
def State.tcPuts (s : State) (g : Nat) (x : TcGroup) : List Nat → State
  | [] => s
  | i :: is => ((s.tcPut g i (x.c i)).icSample 1 (32 + 8 * g + i)).tcPuts g x is

/-- Group g stands at `at_` PLL_SYS ticks, `ph` of them into a group tick. -/
def State.tmrStore (s : State) (g at_ ph : Nat) (x : TcGroup) : State :=
  ({ s with tmr := { s.tmr with grps := alSet s.tmr.grps g { at_ := at_, ph := ph, late := x.late } } }).tcPuts g x (List.range 8)

/-- Bring group g up to the present (log entry 9). -/
def State.tmrSync (s : State) (g : Nat) : State :=
  let p := (s.tmrGrp g).ph + (s.sapPlls - (s.tmrGrp g).at_)
  s.tmrStore g s.sapPlls (p % s.tmrDiv g) ((s.tmrLoad g).ticks (p / s.tmrDiv g))

/-- Whether Sapwood's counters run. -/
def State.tmrRuns (s : State) : Bool := s.domRuns 1

/-- Run group g to the tick on which counter i next matches or ends a period, after the last tick that its registers show. -/
def State.tmrNext (s : State) (per : Bool) (g i : Nat) : State := match (s.tmrLoad g).find per i (2 ^ 80) 0 with
  | some (n, x) =>
    let due := (s.tmrGrp g).at_ + n * s.tmrDiv g - (s.tmrGrp g).ph
    ((s.advancePlls (due - s.sapPlls)).settle).tmrStore g due 0 x
  | none => s

/-- Counter i of group g matches (R450, R451). -/
def execCompareMatch (g i : Nat) (s : State) : Host.Outcome State Fault Refusal :=
  guardUnit (Instr.wf (.compareMatch g i)) (if s.tmrRuns then s.tmrNext false g i else s)

/-- Counter i of group g ends a period (R449). -/
def execPeriodEnd (g i : Nat) (s : State) : Host.Outcome State Fault Refusal :=
  guardUnit (Instr.wf (.periodEnd g i)) (if s.tmrRuns then s.tmrNext true g i else s)

/-- Set or clear RUN of the counters that a mask names. -/
def State.tmrRun (s : State) (g mask : Nat) (on : Bool) : List Nat → State
  | [] => s
  | i :: is => (if bitsOf mask i i = 1 then s.setB (F.TMR.CTRL.RUN g i) on else s).tmrRun g mask on is

/-- A write of TMR.START (R457). -/
def execTmrStart (g : Nat) (value : Word) (s : State) : Host.Outcome State Fault Refusal :=
  guardUnit (Instr.wf (.tmrStart g value)) (if s.domRuns 1 then (s.tmrSync g).tmrRun g (bitsOf value.toNat 7 0) true (List.range 8) else s)

/-- A write of TMR.STOP (R457). -/
def execTmrStop (g : Nat) (value : Word) (s : State) : Host.Outcome State Fault Refusal :=
  guardUnit (Instr.wf (.tmrStop g value)) (if s.domRuns 1 then (s.tmrSync g).tmrRun g (bitsOf value.toNat 7 0) false (List.range 8) else s)

/-! The Sapwood watchdog (R458, R535). -/

/-- One millisecond in PLL_SYS ticks. -/
def msPlls : Nat := 250000

/-- PLL_SYS ticks that the watchdog has counted. -/
def State.wdtTicks (s : State) : Nat := (match s.tmr.pauseAt with
  | some p => min p s.sapPlls
  | none => s.sapPlls) - s.tmr.wdtAt

/-- Show the elapsed milliseconds. -/
def State.wdtShow (s : State) : State := if s.on F.TMR.WDT_CTRL.EN then s.set F.TMR.WDT_STAT.ELAPSED (min 0xFFFF (s.wdtTicks / msPlls)) else s

/-- The count restarts from 0. -/
def State.wdtRestart (s : State) : State :=
  ({ s with tmr := { s.tmr with wdtAt := s.sapPlls, pauseAt := s.tmr.pauseAt.map fun _ => s.sapPlls } }).set F.TMR.WDT_STAT.ELAPSED 0

/-- A write of TMR.WDT_KICK (R458). -/
def execWdtKick (value : Word) (s : State) : Host.Outcome State Fault Refusal := .next (if bitsOf value.toNat 15 0 = 0x5744 ∧ s.domRuns 1 = true then s.wdtRestart else s)

/-- Whether the watchdog counts. -/
def State.wdtRuns (s : State) : Bool := s.tmrRuns && s.on F.TMR.WDT_CTRL.EN && s.tmr.pauseAt.isNone

/-- Run the watchdog to a count of milliseconds. -/
def State.wdtTo (s : State) (ms : Nat) : State := ((s.advancePlls (ms * msPlls - s.wdtTicks)).settle).set F.TMR.WDT_STAT.ELAPSED ms

/-- The count reaches WARN (R458), once in a count; SIC source 1 receives an edge. -/
def execWdtWarn (s : State) : Host.Outcome State Fault Refusal :=
  .next (
    let w := s.get F.TMR.WDT_CFG.WARN
    if s.wdtRuns && w != 0 && decide (w < s.get F.TMR.WDT_CFG.LIMIT) && decide (s.get F.TMR.WDT_STAT.ELAPSED < w) then
      ((s.wdtTo w).set F.TMR.WDT_STAT.WARNED 1).icEdge 1 1
    else s)

/-- The count reaches LIMIT (R458, R70). -/
def execWdtLimit (s : State) : Host.Outcome State Fault Refusal :=
  .next (if s.wdtRuns then (s.wdtTo (s.get F.TMR.WDT_CFG.LIMIT)).resetS 2 else s)

end Sys2Proof.Machine
end

