-- ==== Sys2Proof/Machine/Bus.lean ====
section
/-! DEFINITION. Accesses of bus masters (R4, R9, R17, R421 to R433): writes to Sapwood registers, register writes that have no row of their own, refused accesses, the debug modules
(R533 to R535) and the snapshot entries of 32-bit Heartwood masters (R230, R231). -/

namespace Sys2Proof.Machine

/-! Writes to Sapwood registers; `a` is the tagged address. -/

/-- Counter registers (R448 to R457): CTRL, COUNT, TOP, CMP or STATUS of counter i of group g. -/
def State.tcWrite (s : State) (g i reg : Nat) (a : Nat) (w : Word) : State :=
  let s := s.tmrSync g
  if reg = 1 then (if s.get (F.TMR.TOP.TOP g i) < w.toNat then s else s.plainWrite a w)
  else
    let t := s.plainWrite a w
    let t := if reg = 0 ∧ i % 2 = 1 ∧ t.get (F.TMR.CTRL.MODE g i) = 2 then t.set (F.TMR.CTRL.CHAIN g i) 0 else t
    t.icSample 1 (32 + 8 * g + i)

/-- The Sapwood watchdog's registers (R458). -/
def State.wdtWrite (s : State) (a : Nat) (w : Word) : State :=
  let en := s.on F.TMR.WDT_CTRL.EN
  if a = F.TMR.WDT_CTRL.ALL.addr then (if bitsOf w.toNat 0 0 = 1 ∧ en = false then (s.plainWrite a w).wdtRestart else s)
  else if a = F.TMR.WDT_CFG.ALL.addr then (if en then s else s.plainWrite a w)
  else if a = F.TMR.WDT_KICK.ALL.addr then (if bitsOf w.toNat 15 0 = 0x5744 then s.wdtRestart else s)
  else s.plainWrite a w

/-- A write in the slot of group g. -/
def State.tmrWrite (s : State) (g a : Nat) (w : Word) : State :=
  let off := a - tmrBase g
  if off < 0x100 then s.tcWrite g (off / 0x20) (off % 0x20 / 4) a w
  else if off = 0x100 then (s.tmrSync g).plainWrite a w
  else if off = 0x104 then (s.tmrSync g).tmrRun g (bitsOf w.toNat 7 0) true (List.range 8)
  else if off = 0x108 then (s.tmrSync g).tmrRun g (bitsOf w.toNat 7 0) false (List.range 8)
  else s.wdtWrite a w

/-- A write in the slot of ETHn (R490 to R496). -/
def State.ethWrite (s : State) (n a : Nat) (w : Word) : State :=
  let off := a - ethBase n
  if off = 0x14 then s.ethTxctl n w.toNat
  else if off = 0x1C then s.ethRxctl n w.toNat
  else if off = 0x304 then (if bitsOf w.toNat 0 0 = 1 then s.tsqPop n else s)
  else if off = 0x44 then s.mdioWrite w.toNat
  else (((s.plainWrite a w).icSample 1 (6 + n)).icSample 1 (9 + n)).icSample 1 (12 + n)

/-- A write in the HOST slot (R497, R498, R510). -/
def State.hostWrite (s : State) (a : Nat) (w : Word) : State :=
  if a = F.HOST.CFG.ALL.addr then ((s.plainWrite a w).icSample 1 23).hostDrain
  else if a = F.HOST.ALERT.ALL.addr then s.alertWrite w.toNat
  else if a = F.HOST.FW_CTRL.ALL.addr then (s.hostLong w.toNat).hostSubmit w.toNat
  else if a = F.HOST.FW_STAT.ALL.addr then (if bitsOf w.toNat 5 5 = 1 then (s.plainWrite a w).fwPop else s.plainWrite a w)
  else s.plainWrite a w

/-- A write in the gateway's window (R111, R117). While the host engine owns the gateway, the command buffer and the ring are the engine's. -/
def State.gwWrite (s : State) (a : Nat) (w : Word) : State :=
  let host := s.on F.HOST.CFG.EN
  if a = F.GW.CMD_CTRL.ALL.addr then (if bitsOf w.toNat 0 0 = 1 ∧ host = false then s.gwBell else s)
  else if a = F.GW.RING_POP.ALL.addr then
    (if host then s else
      let s := if bitsOf w.toNat 0 0 = 1 then s.ringPop else s
      if bitsOf w.toNat 1 1 = 1 then s.set F.GW.RING_STATUS.OVERRUN 0 else s)
  else if 0x150000400 ≤ a then (if host || s.gw.check.isSome then s else s.plainWrite a w)
  else s.plainWrite a w

/-- A write in the always-on request window (R353, R70, R532). -/
def State.seasonWrite (s : State) (a : Nat) (w : Word) : State :=
  if a = F.SEASON.SRST_REQ.ALL.addr then s.srstReq w
  else if a = F.SEASON.SC1_BOOT.ALL.addr then s.sc1Boot w
  else (s.plainWrite a w).seasonUpdate

/-- A write to a Sapwood register. -/
def State.sapWrite (s : State) (a : Nat) (w : Word) : State :=
  if a < 0x140001000 then s.seasonWrite a w
  else if a = busErrBase 1 then s.busErrWrite 1 w
  else if a < 0x140002000 then s.icWrite 1 a w
  else if 0x150000000 ≤ a then s.gwWrite a w
  else match unitAt ethBase 0x1000 a [0, 1, 2] with
    | some n => s.ethWrite n a w
    | none => match unitAt twBase 0x1000 a [4, 5, 6, 7] with
      | some n => s.twWrite n a w
      | none => match unitAt cspBase 0x1000 a [2, 3, 5] with
        | some n => s.cspWrite n a w
        | none => match unitAt tmrBase 0x1000 a [0, 1, 2, 3] with
          | some g => s.tmrWrite g a w
          | none => if 0x140012000 ≤ a then s.hostWrite a w else s.plainWrite a w

/-- The bankctl CSR of a core (R529): a write of SEL, bit 1, selects the bank that the next instruction uses, which CUR then shows; CUR itself is read-only. A core on bank 0 takes a waiting line. -/
def State.bankWrite (s : State) (c : Nat) (w : Word) : State :=
  let s := (s.set (F.SC.BANKCTL.SEL c) (bitsOf w.toNat 1 1)).set (F.SC.BANKCTL.CUR c) (bitsOf w.toNat 1 1)
  s.icLines 1 c

/-- The address by which the model names bankctl of core c: a CSR has no bus address (log entry 55). -/
def csrAddr (c : Nat) : Nat := 0x1000007C0 + 0x1000 * c

/-- An uncorrectable word that an access meets (R395). A word of Sapwood is no matter of Heartwood's fault registers (R19). The echo and retention memories and regions are reported; in HSC SRAM safe state 0b011 follows. The PC that its entry holds is HSC's own (free, log entry 2). -/
def State.eccHit (s : State) (dom addr : Nat) : State :=
  if dom = 1 then s
  else if 0x13000000 ≤ addr ∧ addr < 0x13070000 then (({ s with freeCtr := s.freeCtr + 1 }).hscFault 2 addr (Config.freeWord s.freeCtr)).enterSafe 3
  else s.eccSeen addr

/-- The uncorrectable codewords that an access of `size` bytes meets: each of 64 bits is checked and reported on its own (R426). -/
def State.badWords (s : State) (dom addr size : Nat) : List Nat :=
  match ((List.range ((addr % 8 + size + 7) / 8)).map fun i => addr / 8 * 8 + 8 * i).filter fun a => s.badIn (tag dom a) 8 with
  | [] => [addr]
  | ws => ws.map (max addr)

/-- The reports of a list of codewords. -/
def State.eccHits (s : State) (dom : Nat) : List Nat → State
  | [] => s
  | a :: as => (s.eccHit dom a).eccHits dom as

/-- A failed access of `size` bytes (R432, R433). -/
def State.accessFail (s : State) (dom kind master : Nat) (write : Bool) (addr size : Nat) : State :=
  (if kind = 4 then s.eccHits dom (s.badWords dom addr size) else s).busError dom kind master write addr

/-- A write of `size` bytes by a master: to a register, a CSR or plain memory. -/
def State.busWrite (s : State) (dom master addr size : Nat) (value : W128) : State :=
  if dom = 1 ∧ master < 2 ∧ addr = csrAddr master then s.bankWrite master (BitVec.ofNat 32 value.toNat)
  else
    let k := s.accessKind dom master true addr size
    if k ≠ 0 then s.accessFail dom k master true addr size
    else if isPeriph addr then (if dom = 0 then (s.hwWrite addr (BitVec.ofNat 32 value.toNat)).snapDrop master addr else s.sapWrite (tag 1 addr) (BitVec.ofNat 32 value.toNat))
    else s.busMem dom master addr (leBytes size value.toNat)

/-- A write by AOC (R22, R423): to the retention SRAM, which a Heartwood master sees at 0x1400_0000. What its writes to the always-on peripherals do the manual gives only as the always-on functions' own behaviour, which has
rows of its own; the write itself then changes nothing more. AOC's domain has no registers that capture an access error (R433); an uncorrectable word is reported to Heartwood where that runs (R395). -/
def State.aocWrite (s : State) (addr size : Nat) (value : W128) : State :=
  let k := s.aocKind addr size true
  let a := addr - 0x60000000 + 0x14000000
  if k = 4 then (if s.domRuns 0 then s.eccSeen a else s)
  else if k ≠ 0 ∨ 0x60010000 ≤ addr then s
  else
    let s := s.stBytes a (leBytes size value.toNat)
    if 8 ≤ size then s.heal a size else s

/-- Whether HSC's physical memory protection refuses a write of its firmware: to the code it runs from and to the outbound ring (R114, R528). The access fault is the core's own and no transaction is made. -/
def pmpRefuses (dom master addr : Nat) : Bool := dom == 0 && master == 0 && (decide (0x13000000 ≤ addr ∧ addr < 0x13040000) || decide (0x13070000 ≤ addr ∧ addr < 0x13080000))

/-- REGISTER_WRITE (R4, R5, R9): a write by master `master` of domain `dom`: 0 Heartwood, 1 Sapwood, 2 the always-on domain, whose master is AOC. -/
def execRegisterWrite (dom master addr size : Nat) (value : BitVec 128) (s : State) : Host.Outcome State Fault Refusal :=
  guardUnit (Instr.wf (.registerWrite dom master addr size value)) (
    if !s.domRuns dom || pmpRefuses dom master addr then s else if dom = 2 then s.aocWrite addr size value else s.busWrite dom master addr size value)

/-- BUS_ACCESS_ERROR (R432, R433): an access of `size` bytes fails. SIZE, ECC and RESET can fail an access for reasons that the address alone does not show; the others are checked against the map. No register
captures an error of AOC (R433). -/
def execBusAccessError (dom kind master : Nat) (write : Bool) (addr size : Nat) (s : State) : Host.Outcome State Fault Refusal :=
  guardUnit (Instr.wf (.busAccessError dom kind master write addr size)) (
    if dom != 2 && s.domRuns dom && (kind == 2 || kind == 4 || kind == 5 || s.accessKind dom master write addr size == kind) then s.accessFail dom kind master write addr size else s)

/-! The debug modules (R533 to R535). -/

/-- The Heartwood module while DEBUG_EN is 1: 0 a system bus access, 1 halt HSC, 2 resume it. -/
def State.hwDebug (s : State) (op : Nat) (write : Bool) (addr size : Nat) (value : W128) : State :=
  if op = 0 then
    (if write then s.busWrite 0 9 addr size value
     else if s.accessKind 0 9 false addr size ≠ 0 then s.accessFail 0 (s.accessKind 0 9 false addr size) 9 false addr size else s)
  else if op = 1 then (if s.hscHalted || !s.hscUp then s else { s with hscHalted := true, wdt := { s.wdt with hscPause := some s.time.t } })
  else s.hscGo

/-- Whether a debugger halts a Sapwood core. -/
def State.sapHalted (s : State) : Bool := s.cores.any fun (e : Nat × Core) => e.2.halted

/-- Halt a Sapwood core: the watchdog pauses. -/
def State.sapHalt (s : State) (c : Nat) : State := match alFind s.cores c with
  | some x =>
    if x.running && !x.halted then
      { s with cores := alSet s.cores c { x with halted := true }, tmr := { s.tmr with pauseAt := match s.tmr.pauseAt with | some p => some p | none => some s.sapPlls } }
    else s
  | none => s

/-- Resume a Sapwood core: the watchdog counts on once no core is halted, and the core takes what waits for it. -/
def State.sapResume (s : State) (c : Nat) : State := match alFind s.cores c with
  | some x =>
    if x.halted then
      let s := { s with cores := alSet s.cores c { x with halted := false } }
      let s := if s.sapHalted then s else match s.tmr.pauseAt with
        | some p => { s with tmr := { s.tmr with wdtAt := s.tmr.wdtAt + (s.sapPlls - p), pauseAt := none } }
        | none => s
      s.icLines 1 c
    else s
  | none => s

/-- The Sapwood module, which works whenever VDD_SW is good. -/
def State.sapDebug (s : State) (op hart : Nat) (write : Bool) (addr size : Nat) (value : W128) : State :=
  if op = 0 then
    (if !s.domRuns 1 then s
     else if write then s.busWrite 1 7 addr size value
     else if s.accessKind 1 7 false addr size ≠ 0 then s.accessFail 1 (s.accessKind 1 7 false addr size) 7 false addr size else s)
  else if op = 1 then s.sapHalt hart
  else s.sapResume hart

/-- Every supply is good (R53). -/
def State.allGood (s : State) : Bool := s.pins.vddAo && s.railsGood && s.pins.vddSw && s.pins.vddioS

/-- An instruction of the test access port (R533, R535): 3 EXTEST and 4 INTEST act only while DEBUG_EN is 1, and boundary scan only with every supply good (R53); otherwise they act as BYPASS. IDCODE selects the identification, SAMPLE
the boundary register, whose content the balls give, and EXTEST and INTEST the boundary register with what was shifted in: `value` carries both. -/
def State.tapLoad (s : State) (ir : Nat) (value : W128) : State :=
  let ir := if 2 ≤ ir ∧ ir ≤ 4 ∧ !s.allGood then 0 else if 3 ≤ ir ∧ !s.on F.SEAL.STATUS.DEBUG_EN then 0 else ir
  { s with tap := { ir := ir, dr := if ir = 0 then 0 else if ir = 1 then 0x10880E2F else value.toNat } }

/-- DEBUG_ACCESS (R432, R533 to R535): `op` is 0 a system bus access, 1 a halt, 2 a resume of hart `hart`, 3 an instruction of the test access port, which `hart` then names. While DEBUG_EN is 0, an access to the Heartwood
module does nothing and is captured as DEBUG. JTAG lies in the VDDIO_S bank (R53). -/
def execDebugAccess (dom op hart : Nat) (write : Bool) (addr size : Nat) (value : BitVec 128) (s : State) : Host.Outcome State Fault Refusal :=
  guardUnit (Instr.wf (.debugAccess dom op hart write addr size value)) (
    if !s.pins.vddioS then s
    else if op = 3 then s.tapLoad hart value
    else if dom = 0 then
      (if s.pins.heldH || !s.domRuns 0 then s
       else if s.on F.SEAL.STATUS.DEBUG_EN then s.hwDebug op write addr size value
       else s.busError 0 6 9 (op != 0 || write) addr)
    else if s.pins.vddSw && !s.pins.heldS then s.sapDebug op hart write addr size value else s)

/-! Snapshot entries (R230, R231). -/

/-- The TALLY window of TOT, CMP0 or CMP1 words that an address lies in: pair, which and n. -/
def tallyWindow (a : Nat) : Option (Nat × (Nat × Nat)) :=
  let o := (a - 0x400D0000) % 0x2000
  let p := (a - 0x400D0000) / 0x2000
  if 0x400D0000 ≤ a ∧ p < 8 ∧ 0x400 ≤ o ∧ o < 0x1000 ∧ o % 0x400 < 0x100 then some (p, (o / 0x400, o % 0x400 / 0x10)) else none

/-- Whether a 16-byte group lies in a Heartwood SRAM (R33, R34). -/
def hwSram (a : Nat) : Bool := isHRam a || isRet a

/-- The four lanes of a group, and the number of free values used: the outbound ring's own bytes are not for software to interpret (free, log entry 2). -/
def State.group (s : State) (a : Nat) : Nat × Nat := match tallyWindow a with
  | some (p, (k, n)) => ((if k = 1 then (s.pair p).totW n else s.cmpW p (k - 2) n).toNat, 0)
  | none =>
    if 0x13070000 ≤ a ∧ a < 0x13080000 then (leNat (Sys2Proof.Machine.freeBytes s.freeCtr 16), 16) else (leNat (s.viewBytes a 16), 0)

/-- The entries of a master after it has read W0 of a group: the entry filled least recently gives way to a fifth group. -/
def snapFill (es : List SnapEntry) (a g : Nat) : List SnapEntry :=
  let es := es.filter fun x => x.addr != a
  (if 4 ≤ es.length then es.drop (es.length - 3) else es) ++ [{ addr := a, w1 := BitVec.ofNat 32 (g / 2 ^ 32), w2 := BitVec.ofNat 32 (g / 2 ^ 64), w3 := BitVec.ofNat 32 (g / 2 ^ 96) }]

/-- Lane 1, 2 or 3 that an entry holds. -/
def SnapEntry.lane (e : SnapEntry) (i : Nat) : Word := if i = 1 then e.w1 else if i = 2 then e.w2 else e.w3

/-- What a master last read. -/
def State.gave (s : State) (master : Nat) (w : Word) : State := { s with reads := alSet s.reads master w }

/-- A 32-bit read of a group (R230, R231): W0 reads all 16 bytes, returns W0 and fills an entry; the others return the lane that an entry of the master holds, or the current one. -/
def State.groupRead (s : State) (master addr : Nat) : State :=
  let a := addr / 16 * 16
  let i := addr % 16 / 4
  let g := s.group a
  let s := { s with freeCtr := s.freeCtr + g.2 }
  let now : Word := BitVec.ofNat 32 (g.1 / 2 ^ (32 * i))
  if i = 0 then ({ s with snaps := alSet s.snaps master (snapFill (alGet [] s.snaps master) a g.1) }).gave master now
  else match (alGet [] s.snaps master).find? fun e => e.addr == a with
    | some e => s.gave master (e.lane i)
    | none => s.gave master now

/-- W0_SNAPSHOT_READ (R230, R231): a 32-bit read by a Heartwood master in an SRAM or a TALLY window, at any of the four offsets of a group. A read that fails returns 0 (R432). -/
def execW0SnapshotRead (master addr : Nat) (s : State) : Host.Outcome State Fault Refusal :=
  guardUnit (Instr.wf (.w0SnapshotRead master addr)) (
    if !s.domRuns 0 then s
    else
      let size := if isPeriph addr || addr % 16 != 0 then 4 else 16
      let k := s.accessKind 0 master false addr size
      if k ≠ 0 then (s.accessFail 0 k master false addr size).gave master 0
      else if hwSram addr || (tallyWindow (addr / 16 * 16)).isSome then s.groupRead master addr
      else s)

end Sys2Proof.Machine
end

