-- ==== Sys2Proof/Machine/Program.lean ====
section
/-! DEFINITION. Words of tally programs (R256, R257): the instruction a word of program memory stands for, the word of an instruction, and the word at a pair's PC. -/

namespace Sys2Proof.Machine

/-- The routine that a CALL names (R246, R275). -/
def callDecode (p id par : Nat) : Option Instr :=
  if id = 0x1 then some (.inChain p)
  else if id = 0x2 then some (.inPath p)
  else if id = 0x3 then some (.inPulse p)
  else if id = 0x100 then some (.orifice p)
  else if id = 0x101 then some (.venturi p)
  else if id = 0x102 then some (.upath p)
  else if id = 0x103 then some (.kfactor p)
  else if id = 0x104 then some (.freq p)
  else if id = 0x105 then some (.normvol p par)
  else if id = 0x106 then some (.density p par)
  else none

/-- The instruction that a defined word of pair p's program stands for (R256, R257). What the word does not give is given beside it: `par` the patch reads that meet a parity error (R286). -/
def progInstr (p w par : Nat) : Instr :=
  let f := bitsOf w
  let op := f 31 26
  let d := f 25 21
  let a := f 20 16
  let b := f 15 11
  let unit := f 10 5
  let v := f 0 0
  let d3 := f 25 23
  let a3 := f 22 20
  let b3 := f 19 17
  let t := f 25 20
  let nb := f 17 17 == 1
  let imm := BitVec.ofNat 16 (f 15 0)
  if op = 1 then .add p d3 a3 b3
  else if op = 2 then .sub p d3 a3 b3
  else if op = 3 then .and p d3 a3 b3
  else if op = 4 then .or p d3 a3 b3
  else if op = 5 then .xor p d3 a3 b3
  else if op = 6 then .sll p d3 a3 b3
  else if op = 7 then .srl p d3 a3 b3
  else if op = 8 then .sra p d3 a3 b3
  else if op = 9 then .mul p d3 a3 b3
  else if op = 10 then .addi p d3 a3 imm
  else if op = 11 then .andi p d3 a3 imm
  else if op = 12 then .ori p d3 a3 imm
  else if op = 13 then .lui p d3 imm
  else if op = 14 then .li p d3 imm
  else if op = 0x10 then (if v = 0 then .addC p d a b else .addU p d a b)
  else if op = 0x11 then (if v = 0 then .subC p d a b else .subU p d a b)
  else if op = 0x12 then (if v = 0 then .mulC p d a b unit else .mulU p d a b unit)
  else if op = 0x13 then (if v = 0 then .divC p d a b unit else .divU p d a b unit)
  else if op = 0x14 then .sqrt p d a unit
  else if op = 0x15 then .neg p d a
  else if op = 0x16 then .abs p d a
  else if op = 0x17 then .min p d a b
  else if op = 0x18 then .max p d a b
  else if op = 0x19 then .mov p d a
  else if op = 0x1A then .uwid p d a b
  else if op = 0x1B then .scli p d a (f 15 13) (f 12 7)
  else if op = 0x1C then .cvu p d a unit
  else if op = 0x1D then .cvt p d (f 20 18) (f 17 12) (f 11 6)
  else if op = 0x1E then .cvi p d3 (f 22 18) (f 17 12)
  else if op = 0x1F then .setf p d a (f 9 4) (f 3 0)
  else if op = 0x20 then .ldp p d (f 7 0) (f 20 15)
  else if op = 0x21 then .prop p d a (f 15 10) (par != 0)
  else if op = 0x24 then .ld p d nb (f 20 18) (f 15 0)
  else if op = 0x25 then .st p d nb (f 20 18) (f 15 0)
  else if op = 0x26 then .ldl p d3 (f 19 19 == 1) a3 (f 15 0) (f 18 17)
  else if op = 0x28 then .tacc p t (f 19 15) (v == 1)
  else if op = 0x29 then .trdc p d (f 20 15)
  else if op = 0x2C then .br p (f 25 22) (f 21 17) (f 16 12) (f 11 0)
  else if op = 0x2D then .loop p d3 (f 22 12) (f 11 0)
  else if op = 0x2F then .tend p true
  else if op = 0x30 then .emitv p d
  else if op = 0x31 then .emitt p t
  else if op = 0x32 then .emite p d (f 11 0)
  else .emiti p d3 a3 (f 11 0)

/-- The instruction of a word of pair p's program: none where the word is no defined encoding. -/
def progDecode (p w par : Nat) : Option Instr := if codeOk w then (if bitsOf w 31 26 = 0x2E then callDecode p (bitsOf w 15 0) par else some (progInstr p w par)) else none

/-- Format I: D, A, B and IMM. -/
def fmtI (op d a b imm : Nat) : Nat := op * 2 ^ 26 + d * 2 ^ 23 + a * 2 ^ 20 + b * 2 ^ 17 + imm
/-- The opcode and a five-bit first field. -/
def fmtD (op d : Nat) : Nat := op * 2 ^ 26 + d * 2 ^ 21
/-- Format A: D, A, B, UNIT and V. -/
def fmtA (op d a b unit v : Nat) : Nat := fmtD op d + a * 2 ^ 16 + b * 2 ^ 11 + unit * 2 ^ 5 + v

/-- The word of an instruction (R256); a command that is no tally instruction has none. -/
def progEncode : Instr → Option Nat
  | .add _ rd ra rb => some (fmtI 1 rd ra rb 0)
  | .sub _ rd ra rb => some (fmtI 2 rd ra rb 0)
  | .and _ rd ra rb => some (fmtI 3 rd ra rb 0)
  | .or _ rd ra rb => some (fmtI 4 rd ra rb 0)
  | .xor _ rd ra rb => some (fmtI 5 rd ra rb 0)
  | .sll _ rd ra rb => some (fmtI 6 rd ra rb 0)
  | .srl _ rd ra rb => some (fmtI 7 rd ra rb 0)
  | .sra _ rd ra rb => some (fmtI 8 rd ra rb 0)
  | .mul _ rd ra rb => some (fmtI 9 rd ra rb 0)
  | .addi _ rd ra imm => some (fmtI 10 rd ra 0 imm.toNat)
  | .andi _ rd ra imm => some (fmtI 11 rd ra 0 imm.toNat)
  | .ori _ rd ra imm => some (fmtI 12 rd ra 0 imm.toNat)
  | .lui _ rd imm => some (fmtI 13 rd 0 0 imm.toNat)
  | .li _ rd imm => some (fmtI 14 rd 0 0 imm.toNat)
  | .addC _ md ma mb => some (fmtA 0x10 md ma mb 0 0)
  | .addU _ md ma mb => some (fmtA 0x10 md ma mb 0 1)
  | .subC _ md ma mb => some (fmtA 0x11 md ma mb 0 0)
  | .subU _ md ma mb => some (fmtA 0x11 md ma mb 0 1)
  | .mulC _ md ma mb unit => some (fmtA 0x12 md ma mb unit 0)
  | .mulU _ md ma mb unit => some (fmtA 0x12 md ma mb unit 1)
  | .divC _ md ma mb unit => some (fmtA 0x13 md ma mb unit 0)
  | .divU _ md ma mb unit => some (fmtA 0x13 md ma mb unit 1)
  | .sqrt _ md ma unit => some (fmtA 0x14 md ma 0 unit 0)
  | .neg _ md ma => some (fmtA 0x15 md ma 0 0 0)
  | .abs _ md ma => some (fmtA 0x16 md ma 0 0 0)
  | .min _ md ma mb => some (fmtA 0x17 md ma mb 0 0)
  | .max _ md ma mb => some (fmtA 0x18 md ma mb 0 0)
  | .mov _ md ma => some (fmtA 0x19 md ma 0 0 0)
  | .uwid _ md ma mb => some (fmtA 0x1A md ma mb 0 0)
  | .scli _ md ma ib sh => some (fmtD 0x1B md + ma * 2 ^ 16 + ib * 2 ^ 13 + sh * 2 ^ 7)
  | .cvu _ md ma unit => some (fmtA 0x1C md ma 0 unit 0)
  | .cvt _ md ia unit sh => some (fmtD 0x1D md + ia * 2 ^ 18 + unit * 2 ^ 12 + sh * 2 ^ 6)
  | .cvi _ id ma sh => some (0x1E * 2 ^ 26 + id * 2 ^ 23 + ma * 2 ^ 18 + sh * 2 ^ 12)
  | .setf _ md ma mask qual => some (fmtD 0x1F md + ma * 2 ^ 16 + mask * 2 ^ 4 + qual)
  | .ldp _ md param unit => some (fmtD 0x20 md + unit * 2 ^ 15 + param)
  | .prop _ md ma tbl _ => some (fmtD 0x21 md + ma * 2 ^ 16 + tbl * 2 ^ 10)
  | .ld _ md nb base idx => some (fmtD 0x24 md + base * 2 ^ 18 + nb.toNat * 2 ^ 17 + idx)
  | .st _ ma nb base idx => some (fmtD 0x25 ma + base * 2 ^ 18 + nb.toNat * 2 ^ 17 + idx)
  | .ldl _ id nb base idx lane => some (0x26 * 2 ^ 26 + id * 2 ^ 23 + base * 2 ^ 20 + nb.toNat * 2 ^ 19 + lane * 2 ^ 17 + idx)
  | .tacc _ tn ma neg => some (0x28 * 2 ^ 26 + tn * 2 ^ 20 + ma * 2 ^ 15 + neg.toNat)
  | .trdc _ md tn => some (fmtD 0x29 md + tn * 2 ^ 15)
  | .br _ cond ra rb off => some (0x2C * 2 ^ 26 + cond * 2 ^ 22 + ra * 2 ^ 17 + rb * 2 ^ 12 + off)
  | .loop _ x count len => some (0x2D * 2 ^ 26 + x * 2 ^ 23 + count * 2 ^ 12 + len)
  | .inChain _ => some (0x2E * 2 ^ 26 + 0x1)
  | .inPath _ => some (0x2E * 2 ^ 26 + 0x2)
  | .inPulse _ => some (0x2E * 2 ^ 26 + 0x3)
  | .orifice _ => some (0x2E * 2 ^ 26 + 0x100)
  | .venturi _ => some (0x2E * 2 ^ 26 + 0x101)
  | .upath _ => some (0x2E * 2 ^ 26 + 0x102)
  | .kfactor _ => some (0x2E * 2 ^ 26 + 0x103)
  | .freq _ => some (0x2E * 2 ^ 26 + 0x104)
  | .normvol _ _ => some (0x2E * 2 ^ 26 + 0x105)
  | .density _ _ => some (0x2E * 2 ^ 26 + 0x106)
  | .tend _ _ => some (0x2F * 2 ^ 26)
  | .emitv _ m => some (fmtD 0x30 m)
  | .emitt _ t => some (0x31 * 2 ^ 26 + t * 2 ^ 20)
  | .emite _ m code => some (fmtD 0x32 m + code)
  | .emiti _ x y code => some (0x33 * 2 ^ 26 + x * 2 ^ 23 + y * 2 ^ 20 + code)
  | _ => none

/-- What an instruction meets that its word does not give: the patch reads with a parity error (R286). -/
def Instr.par : Instr → Nat
  | .prop _ _ _ _ b => b.toNat
  | .normvol _ n => n
  | .density _ n => n
  | _ => 0

/-- The word of program memory at the PC of pair p (R85, R253). -/
def State.progWord (s : State) (p : Nat) : Nat := s.ldN (progAddr p (s.pair p).pc) 4

/-- Whether the instruction i is the word at the PC of pair p, whose engines are not past the commit point. -/
def State.atPc (s : State) (p : Nat) (i : Instr) : Bool := (s.pair p).log.isNone && progDecode p (s.progWord p) (Instr.par i) == some i

/-- A tally instruction command: it has the effect s' where it is the instruction at the pair's PC, and none elsewhere (log entry 29). -/
def State.tally (s : State) (p : Nat) (i : Instr) (s' : State) : Host.Outcome State Fault Refusal := guardUnit (Instr.wf i) (if s.atPc p i then s' else s)

end Sys2Proof.Machine
end

