-- ==== Sys2Proof/Machine/TallyOps.lean ====
section
/-! DEFINITION. The tally engines (R232 to R252, R274, R379): what an instruction reads and writes of its pair, loads and stores of region SRAM, traps, dispatch, rollback and
commit. -/

namespace Sys2Proof.Machine

/-! What a program sees (R235, R254, R255). -/

/-- M register n taken apart. -/
def Pair.mq (x : Pair) (n : Nat) : Mq := Mq.ofWord (x.mr n)
/-- I7.UNS (R236). -/
def Pair.isUns (x : Pair) : Bool := bitsOf (x.ir 7).toNat 2 2 == 1
/-- Write I register n. -/
def Pair.setI (x : Pair) (n : Nat) (w : Word) : Pair := { x with i := alSet x.i n w }
/-- Write M register n; UNS is set when I7.UNS is 1 (R255). -/
def Pair.setM (x : Pair) (n : Nat) (w : W128) : Pair := { x with m := alSet x.m n (if x.isUns then w ||| BitVec.ofNat 128 (flUNS * 16) else w) }
/-- Write an MQ into M register n. -/
def Pair.setMq (x : Pair) (n : Nat) (a : Mq) : Pair := x.setM n a.word

/-- What an instruction comes to: it completes with a result, raises trap UNIT (1), ADDR (2) or LIMIT (3), or meets an uncorrectable word at an address of memory kind `mem` (FLT.ECC.MEM), which
isolates the region with a cause (R247, R382). -/
inductive Tr (α : Type) where
  | ok (a : α) (s : State)
  | trap (code : Nat)
  | ecc (addr mem cause : Nat)

/-- What follows a completed part. -/
def Tr.bind {α β : Type} (x : Tr α) (f : α → State → Tr β) : Tr β := match x with
  | .ok a s => f a s
  | .trap c => .trap c
  | .ecc a m c => .ecc a m c

/-! Loops and the PC (R271, R274). -/

/-- Where control goes on reaching position `pc`: at the position after a body the next iteration begins while any is left, the inner loop resolved first. -/
def landGo (x : Pair) (pc : Nat) : List LoopFrame → Pair
  | [] => { x with pc := pc, loops := [] }
  | f :: fs =>
    if pc = f.stop then
      if f.left = 0 then landGo x pc fs
      else { (x.setI f.x (BitVec.ofNat 32 (f.idx + 1))) with pc := f.start, cyc := x.cyc + 1, loops := { f with left := f.left - 1, idx := f.idx + 1 } :: fs }
    else { x with pc := pc, loops := f :: fs }

/-- Move on to a position after an instruction of `n` cycles. -/
def Pair.land (x : Pair) (pc n : Nat) : Pair := landGo { x with cyc := x.cyc + n } pc x.loops

/-! Region SRAM (R237, R238, R267, R269). -/

/-- The offset that NB, BASE and IDX name (R267). -/
def Pair.offset (x : Pair) (nb : Bool) (base idx : Nat) : Nat := if nb then idx * 16 else ((x.ir base).toNat + idx * 16) % 2 ^ 32

/-- Whether an access may be made at an offset (R237, R267). -/
def State.offOk (s : State) (p off : Nat) (store : Bool) : Bool :=
  off % 16 == 0 && decide (off < (if store then 0x160000 else 0x180000)) && decide (s.rawbuf p ≤ off) && !(decide (s.rawbuf p + 0x800 ≤ off) && decide (off < s.rawbuf p + s.ckpt p))

/-- The words a load returns, before it is journaled: the task's own buffered word, or the word in memory. -/
def State.fetchWord (s : State) (p off : Nat) : Tr W128 := match alFind (s.pair p).stores off with
  | some w => .ok w s
  | none => if s.badIn (rgnBase p + off) 16 then .ecc (s.firstBad (rgnBase p + off) 16) 1 (if off < s.rawbuf p + s.ckpt p then 5 else 3) else .ok (s.ld128 (rgnBase p + off)) s

/-- One load (R237, R238): a replay takes the next word of the journal, and any other load appends its word. -/
def State.load (s : State) (p off : Nat) : Tr W128 :=
  let x := s.pair p
  let j := rgnBase p + 16 * x.jpos
  if !s.offOk p off false then .trap 2
  else if 256 ≤ x.loads then .trap 3
  else if x.jpos < x.journal then
    if s.badIn j 16 then .ecc (s.firstBad j 16) 1 5 else .ok (s.ld128 j) (s.setPair p { x with jpos := x.jpos + 1, loads := x.loads + 1 })
  else (s.fetchWord p off).bind fun w s =>
    .ok w (((s.st128 j w).heal j 16).setPair p { x with jpos := x.jpos + 1, journal := x.journal + 1, loads := x.loads + 1 })

/-- `n` loads of consecutive words. -/
def State.loadN (s : State) (p off : Nat) : Nat → Tr (List Byte)
  | 0 => .ok [] s
  | n + 1 => (s.load p (off % 2 ^ 32)).bind fun w s => (s.loadN p (off + 16) n).bind fun bs s => .ok (leBytes 16 w.toNat ++ bs) s

/-- The parameter with an ID, signed Q32.32, as one load reads it (R263): 0 for an ID that has no entry for the pair's region. -/
def State.loadParam (s : State) (p id : Nat) : Tr Int :=
  (s.load p (s.rawbuf p + 16 * (id / 2))).bind fun w s =>
    if (List.range s.nparam).any fun j => s.paramF j 0 2 == id && s.paramF j 3 1 == p then .ok (sext 64 (w.toNat / 2 ^ (64 * (id % 2)))) s else .ok 0 s

/-- `n` parameters from an ID on. -/
def State.loadParams (s : State) (p id : Nat) : Nat → Tr (List Int)
  | 0 => .ok [] s
  | n + 1 => (s.loadParam p id).bind fun v s => (s.loadParams p (id + 1) n).bind fun vs s => .ok (v :: vs) s

/-! Totalizers (R248, R270). -/

/-- The interval bank of the running release. -/
def State.bank (s : State) (p : Nat) : Nat := s.bankOf (s.pair p).cycle

/-- Whether the running task may use Tn (R270). -/
def State.totMay (s : State) (p n : Nat) (st : Nat) : Bool := s.totUsed p n && st != 0xFF && s.totStream p n == st

/-- The TOT word of Tn with the task's accumulations so far. -/
def State.totNow (s : State) (p n : Nat) : W128 := (alFind (s.pair p).pend n).getD ((s.pair p).totW n)

/-- The companion of the release's bank with the task's accumulations so far. -/
def State.cmpNow (s : State) (p n : Nat) : W128 := (alFind (s.pair p).pendC n).getD (s.cmpW p (s.bank p) n)

/-! The end of a task. -/

/-- The instant that the pair's cycles have reached. -/
def State.tallyTime (s : State) (p extra : Nat) : Nat := (s.pair p).td + ((s.pair p).cyc + extra) * 131072

/-- TALLY.TRAP, TALLY.STATUS.TRAP and the trap count, with the FAULT entry of the task's first trap in the interval (R247, R397): later ones are counted in TRAPS only. -/
def State.trapShow (s : State) (p k code : Nat) : State :=
  let x := s.pair p
  let s := ((s.set (F.TALLY.TRAP.CODE p) code).set (F.TALLY.TRAP.TASK p) k).set (F.TALLY.TRAP.PC p) x.pc
  let s := (s.raise (F.TALLY.STATUS.TRAP p) 0 (16 + p)).sat (F.TALLY.COUNT.TRAPS p) 1
  if s.flt.seen.contains (0x10, k) then s else s.faultKey 0x10 p (s.taskStream k) k (leBytes 1 k ++ leBytes 1 code ++ leBytes 2 x.pc ++ leBytes 4 x.cycle)

/-- Trap UNIT, ADDR or LIMIT (R244, R247): the task ends without commit, and the companions and accumulators of its stream carry SUB. -/
def State.tallyTrap (s : State) (p k code : Nat) : State :=
  let cycle := (s.pair p).cycle
  let s := (s.advanceTo (s.tallyTime p 0)).settle
  let s := s.trapShow p k code
  let s := if s.taskClass k = 3 then s else s.markStream p (s.taskStream k) cycle flSUB
  ((s.pairStop p).taskDone k).afterReplay p k

/-- Trap ECC (R247, R382, R395). -/
def State.tallyEcc (s : State) (p k addr mem cause : Nat) : State :=
  let s := (s.advanceTo (s.tallyTime p 0)).settle
  ((s.trapShow p k 4).eccUncorr mem addr p).isolate p cause k

/-- Run an instruction of `n` cycles on pair p: `f` gets the running task and answers the next position. Nothing happens on a pair that runs no task. -/
def State.instrAt (s : State) (p n : Nat) (f : Nat → State → Tr Nat) : State := match (s.pair p).task with
  | none => s
  | some k =>
    if s.badIn (progAddr p (s.pair p).pc) 4 then s.tallyEcc p k (progShow p (s.pair p).pc) 6 3
    else match f k s with
      | .ok pc s' => s'.setPair p ((s'.pair p).land pc n)
      | .trap c => s.tallyTrap p k c
      | .ecc a m c => s.tallyEcc p k a m c

/-- An instruction that goes on at the next position with a new pair. -/
def State.instr (s : State) (p n : Nat) (f : Nat → State → Tr Pair) : State :=
  s.instrAt p n fun k s => (f k s).bind fun x s => .ok (x.pc + 1) (s.setPair p x)

/-- An integer instruction: one cycle, no trap (R254, R259). -/
def State.intOp (s : State) (p rd : Nat) (f : Pair → Word) : State := s.instr p 1 fun _ s => .ok ((s.pair p).setI rd (f (s.pair p))) s

/-- An instruction that writes M register md from registers alone, with trap UNIT where it has no result (R255). -/
def State.mqOp (s : State) (p md n : Nat) (f : Pair → Option Mq) : State :=
  s.instr p n fun _ s => match f (s.pair p) with
    | some a => .ok ((s.pair p).setMq md a) s
    | none => .trap 1

/-- An emission (R277). -/
def State.emitOp (s : State) (p : Nat) (f : Nat → State → Option (Nat × Nat × List Byte)) : State :=
  s.instr p 2 fun k s => match f k s with
    | none => .trap 2
    | some (kind, src, pl) =>
      let x := s.pair p
      if 48 ≤ x.emits.length then .trap 3
      else
        let e : Emission := { kind := kind, stream := s.taskStream k, src := src, payload := pl }
        .ok { x with emits := x.emits ++ [e] } s

/-! Dispatch, rollback and commit (R234, R242). -/

/-- M registers from a state block (R239); those of a task dispatched UNSEALED carry UNS (R222, R236). -/
def State.blockM (s : State) (a : Nat) (uns : Bool) : List (Nat × W128) :=
  (List.range 32).map fun n => (n, if uns then s.ld128 (a + 16 * n) ||| BitVec.ofNat 128 (flUNS * 16) else s.ld128 (a + 16 * n))
/-- I0 to I5 from a state block, then I6 and I7. -/
def State.blockI (s : State) (a : Nat) (i6 i7 : Word) : List (Nat × Word) := ((List.range 6).map fun n => (n, BitVec.ofNat 32 (s.ldN (a + 0x200 + 4 * n) 4))) ++ [(6, i6), (7, i7)]

/-- START of task k's entry (R85, R86). -/
def State.taskStart (s : State) (k : Nat) : Nat := s.img 8 (s.taskRegion k) (0x20 + 16 * s.taskF k 3 1) 4

/-- The release flags of I7 (R236). -/
def State.releaseFlags (s : State) (k cycle : Nat) : Word :=
  let x := s.pair (s.taskRegion k)
  BitVec.ofNat 32 ((if x.written.contains k then 0 else 1) + (if s.intervalOf (cycle + 1) = s.intervalOf cycle then 0 else 2) + (if s.on F.SEAL.STATUS.SEALED then 0 else 4) +
    (if s.isMirror k then 8 else 0))

/-- The pair at the start of a run: buffers empty, registers loaded (R234, R242 step 1). -/
def State.runStart (s : State) (p k : Nat) (i6 i7 : Word) : State :=
  let a := s.blockBase k
  let x := { s.pair p with pc := s.taskStart k, m := s.blockM a (bitsOf i7.toNat 2 2 == 1), i := s.blockI a i6 i7, loops := [], pend := [], pendC := [], stores := [], nstores := 0, jpos := 0, loads := 0 }
  s.setPair p { x with emits := [], propSt := (0, 0), propN := (0, 0) }

/-- Start task k's job on its pair (R242 step 1): 100 cycles (R243). -/
def State.dispatch (s : State) (k : Nat) (j : Job) : State :=
  let p := s.taskRegion k
  let s := s.jobSet k { j with st := 2 }
  let s := (s.set (F.TALLY.STATUS.TASK p) k).set (F.TALLY.STATUS.RUN p) 1
  let i7 := s.releaseFlags k j.cycle
  let s := s.setPair p { s.pair p with task := some k, cycle := j.cycle, td := s.time.t, cyc := 100, journal := 0, rolled := false }
  let s := s.runStart p k (BitVec.ofNat 32 j.cycle) i7
  if s.badIn (s.blockBase k) 576 then s.tallyEcc p k (s.firstBad (s.blockBase k) 576) 1 5 else s

/-- Whether task k's job may be dispatched at instant t (R332): in service, the pair free, and first of those released. -/
def State.mayDispatch (s : State) (k t : Nat) (j : Job) : Bool :=
  let r := s.taskRegion k
  (j.st == 1 || j.st == 3) && (s.pair r).task.isNone && s.regionUp r && !s.regionGated r && decide (s.readyAt r ≤ t) && !s.spn.held && decide (t + s.taskWcet k * 65536 ≤ j.dl) &&
    ((Sched.first ((s.waiting r).filter fun x => decide (x.rel ≤ t))).map Sched.k) == some k

/-- A disagreement of the engines (R233, R234, R379): rolled back and replayed once; in the replay the region is isolated. -/
def State.disagree (s : State) (p k : Nat) : State :=
  let s := (s.advanceTo (s.tallyTime p 0)).settle
  let x := s.pair p
  if x.rolled then s.isolate p 1 k
  else
    let s := s.sat (F.FLT.REGION_STAT.ROLLBACKS p) 1
    let n := s.get (F.FLT.REGION_STAT.ROLLBACKS p)
    let s := s.fault 1 p (s.taskStream k) (leBytes 1 k ++ leBytes 1 n ++ [0, 0] ++ leBytes 4 x.cycle)
    let s := if 17 ≤ n then { s with flt := { s.flt with after := p :: s.flt.after.filter (· != p) } } else s
    let s := s.setPair p { s.pair p with rolled := true, cyc := x.cyc + 150 }
    if s.badIn (s.blockBase k) 576 then s.tallyEcc p k (s.firstBad (s.blockBase k) 576) 1 5 else s.runStart p k (x.ir 6) (x.ir 7)

/-- The accumulators with the averaged registers added, unless a unit differs (R229, R276). -/
def addAvgs (x : Pair) (stream b : Nat) (m : List (Nat × Avg)) : List Nat → Option (List (Nat × Avg))
  | [] => some m
  | n :: ns =>
    let a := alGet Avg.empty m (avgKey stream b n)
    let w := x.mq n
    if unitOk w.unit && (a.unit == none || a.unit == some w.unit) then
      let a' : Avg := { sum := a.sum + w.v, usum := a.usum + w.u, n := a.n + 1, fl := flOr a.fl w.fl, q := max a.q w.q, unit := some w.unit }
      addAvgs x stream b (alSet m (avgKey stream b n) a') ns
    else none

/-- The figures of the commit log in order (R242 step 4): stores, the TOT word and companion of each accumulated Tn, the engines' registers, and the updated accumulators. -/
def CommitLog.figures (l : CommitLog) (as : List Avg) : List Nat :=
  (l.stores.map fun (e : Nat × W128) => e.2.toNat) ++ (l.tots.flatMap fun (e : Nat × (W128 × W128)) => [e.2.1.toNat, e.2.2.toNat]) ++ (List.range 32).map (fun n => (alGet 0 l.m n).toNat) ++
    (List.range 6).map (fun n => (alGet 0 l.i n).toNat) ++ as.flatMap Avg.figures

/-- The number of 128-bit log words of a commit (R242 step 4, R243): the stores, two for each Tn, 36 for the state block, two for each accumulator. -/
def Pair.logLen (x : Pair) (navg : Nat) : Nat := x.stores.length + 2 * x.pend.length + 36 + 2 * navg

/-- Steps 3 to 5 of R242: the log is written and the mark is set. Steps 6 and 7 follow as time passes. -/
def State.commit (s : State) (p k : Nat) (avgs : List (Nat × Avg)) (ns : List Nat) : State :=
  let x := s.pair p
  let n := x.logLen ns.length
  let due := s.tallyTime p (60 + 4 * n)
  let s := (s.advanceTo (s.tallyTime p (50 + 2 * n))).settle
  let deg := match alFind s.spn.jobs k with
    | some j => j.deg
    | none => false
  let l : CommitLog := { task := k, cycle := x.cycle, due := due, stores := x.stores, tots := x.pend.map fun (e : Nat × W128) => (e.1, (e.2, alGet 0 x.pendC e.1)), m := x.m, i := x.i, avgs := avgs,
                         emits := x.emits, propSt := x.propSt, propN := x.propN, deg := deg }
  let as := ns.map fun n => alGet Avg.empty avgs (avgKey (s.taskStream k) (s.bankOf x.cycle) n)
  if (s.pair p).task = some k then (s.setPair p { s.pair p with log := some l, words := l.figures as }).set (F.TALLY.STATUS.MARK p) 1 else s

/-- TEND (R276): UNIT where an averaged word's unit differs, else the commit. -/
def State.tend (s : State) (p k : Nat) : State :=
  let st := s.taskStream k
  let ns := if st = 0xFF then [] else s.avgRegs st
  match addAvgs (s.pair p) st (s.bank p) (s.pair p).avgs ns with
  | none => s.tallyTrap p k 1
  | some a => s.commit p k a ns

end Sys2Proof.Machine
end

