-- ==== Sys2Proof/Machine/Property.lean ====
section
/-! DEFINITION. The property unit (R264 to R266, R280 to R287): domains, moves, the saturation boundary and PROP. The contents of the tables are the opaque constants of Config. -/

namespace Sys2Proof.Machine

/-- The value of an MQ (R216). -/
def Mq.real (a : Mq) : Rat := mkRat a.v (2 ^ 40)

/-- The uncertainty of an MQ (R217). -/
def Mq.unc (a : Mq) : Rat := mkRat a.u (2 ^ 128)

/-- An MQ from a value and an uncertainty before R225 and R218 (R216, R218, R225). -/
def ratMq (unit : Nat) (x u : Rat) (fl q : Nat) : Mq := Mq.form unit (x.num * 2 ^ 40) x.den (uUp u) fl q

/-- Units of the inputs of a table (R266). -/
def propUnits (t : Nat) : List Nat := if t = 5 then [0x1C] else if 6 ≤ t ∧ t ≤ 8 then [0x18] else if 9 ≤ t then [0x18, 0x1C, 0] else [0x18, 0x1C]

/-- Unit of the result of a table (R266). -/
def propUnit (t : Nat) : Nat := if t = 1 ∨ t = 3 ∨ t = 11 then 0x28 else if t = 5 then 0x18 else if t = 6 then 0x1C else if t = 9 then 0 else 0x2B

/-- Range of the pressure of a table (R283). -/
def pRange (t : Nat) : Rat × Rat :=
  if t = 3 ∨ t = 4 then (100, 10000000) else if 9 ≤ t then (50000, 2500000) else (611657 / 1000, 10000000)

/-- Range of the temperature of a table (R283). -/
def tRange (t : Nat) : Rat × Rat :=
  if t = 3 ∨ t = 4 then (27316 / 100, 87315 / 100) else if 9 ≤ t then (23315 / 100, 42315 / 100) else (27316 / 100, 584149 / 1000)

/-- The grid Nu x NT of a two-input table, and the number of segments of a one-input table (R283). -/
def propGrid (t : Nat) : Nat × Nat := if t = 1 ∨ t = 2 then (24, 48) else if t = 3 ∨ t = 4 then (32, 80) else if 9 ≤ t then (12, 24) else (512, 1)

/-! Patches (R280, R281). A patch is given by what it shares with its neighbours at its corners, so that neighbours agree in value and in first derivative along their edge. -/

/-- The coefficients of the cubic on [0, 1] with given value and derivative at 0 and at 1. -/
def cubic (f0 d0 f1 d1 : Rat) : List Rat := [f0, d0, 3 * (f1 - f0) - 2 * d0 - d1, 2 * (f0 - f1) + d0 + d1]

/-- A polynomial from its coefficients, lowest first. -/
def poly (x : Rat) (c : List Rat) : Rat := c.foldr (fun (k : Rat) acc => k + x * acc) 0

/-- Its derivative. -/
def dpoly (x : Rat) : List Rat → Rat
  | [_, c1, c2, c3] => c1 + 2 * c2 * x + 3 * c3 * x * x
  | _ => 0

/-- The cell of a coordinate on an axis of n cells, the position within it, and the step (R280). -/
def cellOf (lo hi : Rat) (n : Nat) (x : Rat) : Nat × (Rat × Rat) :=
  let step := (hi - lo) / n
  let y := (x - lo) / step
  let i := min (n - 1) y.floor.toNat
  (i, (y - i, step))

/-- The coordinate u of a pressure and the ends of its range (R280). -/
def uCell (t : Nat) (p : Rat) : Nat × (Rat × Rat) := cellOf (rLn (pRange t).1) (rLn (pRange t).2) (propGrid t).1 (rLn p)

/-- The coefficients c_jk of surface i of a patch, as the list by k of the lists by j (R280). -/
def patchOf (t i iu iT : Nat) : List (List Rat) :=
  let nd := fun (a b d : Nat) => ratFp (Config.node t i (iu + a) (iT + b) d)
  let row := fun (a d : Nat) => cubic (nd a 0 d) (nd a 0 (d + 2)) (nd a 1 d) (nd a 1 (d + 2))
  let col := fun (k : Nat) => cubic (listGet 0 (row 0 0) k) (listGet 0 (row 0 1) k) (listGet 0 (row 1 0) k) (listGet 0 (row 1 1) k)
  [col 0, col 1, col 2, col 3]

/-- A surface of a table at (p, T): the value and the derivatives by p and by T (R280, R282). -/
def surface (t i : Nat) (p tt : Rat) : Rat × (Rat × Rat) :=
  let cu := uCell t p
  let ct := cellOf (tRange t).1 (tRange t).2 (propGrid t).2 tt
  let cs := patchOf t i cu.1 ct.1
  let a := cu.2.1
  let b := ct.2.1
  (poly b (cs.map (poly a)), (poly b (cs.map (dpoly a)) / cu.2.2 / p, dpoly b (cs.map (poly a)) / ct.2.2))

/-- A one-input table over T (0x05) or over u (0x06 to 0x08): the value and the derivative by its input (R280, R282). -/
def curveAt (t : Nat) (x : Rat) : Rat × Rat :=
  let c := if t = 5 then cellOf (tRange 5).1 (tRange 5).2 512 x else uCell t x
  let nd := fun (a d : Nat) => ratFp (Config.node t 0 (c.1 + a) 0 d)
  let cs := cubic (nd 0 0) (nd 0 1) (nd 1 0) (nd 1 1)
  (poly c.2.1 cs, dpoly c.2.1 cs / c.2.2 / (if t = 5 then 1 else x))

/-- The value of a table at a point of its range and its derivatives by the inputs (R280, R282). -/
def tableAt (t : Nat) : List Rat → Rat × List Rat
  | [x] => ((curveAt t x).1, [(curveAt t x).2])
  | [p, tt] => ((surface t 0 p tt).1, [(surface t 0 p tt).2.1, (surface t 0 p tt).2.2])
  | [p, tt, x] =>
    let f0 := surface t 0 p tt
    let f1 := surface t 1 p tt
    let f2 := surface t 2 p tt
    (f0.1 + x * f1.1 + x * x * f2.1, [f0.2.1 + x * f1.2.1 + x * x * f2.2.1, f0.2.2 + x * f1.2.2 + x * x * f2.2.2, f1.1 + 2 * x * f2.1])
  | _ => (0, [])

/-- The worst-case bound of a table for a result (R283). -/
def worstB (t : Nat) (f : Rat) : Rat :=
  if t = 1 then 2 / 1000 else if t = 2 ∨ t = 8 then 20 else if t = 3 ∨ t = 11 then 2 * rAbs f / 100000 else if t = 4 then 50 else if t = 5 then 5 * rAbs f / 1000000 else if t = 6 then 1 / 1000
  else if t = 7 then 10 else if t = 9 then 2 / 100000 else 30

/-- The bound B stored with the patch that holds a point, which the worst case limits (R282, R283). -/
def boundAt (t : Nat) (pt : List Rat) (f : Rat) : Rat :=
  let cell := match pt with
    | [x] => ((if t = 5 then cellOf (tRange 5).1 (tRange 5).2 512 x else uCell t x).1, 0)
    | p :: tt :: _ => ((uCell t p).1, (cellOf (tRange t).1 (tRange t).2 (propGrid t).2 tt).1)
    | [] => (0, 0)
  let b := mkRat (Config.patchBound t cell.1 cell.2) (2 ^ 96)
  if b < worstB t f then b else worstB t f

/-! Domains (R283 to R285). -/

/-- The mole fraction of saturated humid air (R283): the saturation pressure of table 0x05, at T moved into its range (DEDUCED, log entry 32), over p, with the enhancement factor. -/
def xSat (p tt : Rat) : Rat := mkRat (Config.enhance (fpOf p) (fpOf tt)) (2 ^ 96) * rAbs (curveAt 5 (rClamp (tRange 5).1 (tRange 5).2 tt)).1 / p

/-- Inputs moved to the nearest point of their ranges (R284 steps 1 and 2). -/
def propMove (t : Nat) : List Rat → List Rat
  | [a] => if t = 5 then [rClamp (tRange t).1 (tRange t).2 a] else [rClamp (pRange t).1 (pRange t).2 a]
  | [p, tt] => [rClamp (pRange t).1 (pRange t).2 p, rClamp (tRange t).1 (tRange t).2 tt]
  | [p, tt, x] =>
    let p' := rClamp (pRange t).1 (pRange t).2 p
    let t' := rClamp (tRange t).1 (tRange t).2 tt
    let x' := rClamp 0 (1 / 5) x
    [p', t', if xSat p' t' < x' then xSat p' t' else x']
  | l => l

/-- Ts: table 0x06 at a pressure, itself moved into that table's range (R284 step 1; DEDUCED, log entry 32). -/
def satT (p : Rat) : Rat := (curveAt 6 (rClamp (pRange 6).1 (pRange 6).2 p)).1

/-- The saturation boundary of tables 0x01 to 0x04 (R285), on inputs already moved: the temperature evaluated, and the status bits DOM 1, WET 2, SATLIQ 4. The last is whether QUAL rises. -/
def satRule (t : Nat) (p tt : Rat) : Rat × Nat × Bool :=
  let ts := satT p
  let d := if t = 3 ∨ t = 4 then tt - ts else ts - tt
  let b := if t = 3 ∨ t = 4 then 2 else 4
  if 1 ≤ d then (tt, 0, false) else if 0 ≤ d then (tt, b, true) else if -1 ≤ d then (ts, b, true) else (ts, b + 1, true)

/-- The point a table is evaluated at and its status bits, from the inputs (R284, R285). The temperature that the boundary gives lies on the table's own rectangle. -/
def propPoint (t : Nat) (l : List Rat) : List Rat × Nat × Bool :=
  let m := propMove t l
  let out := decide (m ≠ l)
  match m with
  | [p, tt] =>
    let r := satRule t p tt
    ([p, r.1], Nat.lor r.2.1 (if out then 1 else 0), r.2.2 || out)
  | _ => (m, if out then 1 else 0, out)

/-- Sensitivities times figures, one product for each input. -/
def sensTimes (ds us : List Rat) : List Rat := List.zipWith (fun (d : Rat) (u : Rat) => rAbs d * u) ds us

/-- An evaluation on given inputs: values, uncertainties, flags and QUAL (R280 to R286). `par` says a patch read met a parity error. The coordinate u is the one figure that is not exact (log entry 30). -/
def propRun (t : Nat) (l us : List Rat) (fl q : Nat) (par : Bool) : Mq × Nat :=
  let pt := propPoint t l
  if par then ({ v := 0, u := uMax, unit := propUnit t, fl := flOr fl flSUB, q := 15 }, Nat.lor pt.2.1 8)
  else
    let f := tableAt t pt.1
    let add := (sensTimes f.2 (List.zipWith (fun (x : Rat) (y : Rat) => rAbs (x - y)) l pt.1)).foldl (· + ·) 0
    let u := rss (sensTimes f.2 us) + boundAt t pt.1 f.1 + add
    (ratMq (propUnit t) f.1 (if u = 0 then 0 else above u) (flOr fl (if pt.2.1 % 2 = 1 then flOOR else 0)) (if pt.2.2 then max q 8 else q), pt.2.1)

/-- An evaluation on MQ words (R264, R280 to R286). -/
def propEval (t : Nat) (ins : List Mq) (par : Bool) : Mq × Nat :=
  propRun t (ins.map Mq.real) (ins.map Mq.unc) (ins.foldl (fun (n : Nat) a => flOr n a.fl) 0) (ins.foldl (fun (n : Nat) a => max n a.q) 0) par

/-- Note an evaluation for PROP.STATUS and PROP.COUNT (R287). -/
def Pair.propNote (x : Pair) (t st : Nat) : Pair :=
  { x with propSt := if st = 0 then x.propSt else (Nat.lor x.propSt.1 st, t), propN := (x.propN.1 + st % 2, x.propN.2 + (if st / 2 % 4 = 0 then 0 else 1)) }

/-- Parity errors of property patches, each recorded at once (R286, R395, R397): counted as an uncorrectable error of the ROM, and logged as ROM_PARITY. The address is not stated (free, log entry 2). -/
def State.romParity (s : State) (p : Nat) : Nat → State
  | 0 => s
  | n + 1 =>
    let a := s.free.1.toNat
    let s := (((s.free.2).sat F.FLT.ECC.UNCORR 1).set F.FLT.ECC.MEM 7).set F.FLT.ECC_ADDR.ADDR a
    (s.fault 0x31 p 0xFF (leBytes 1 p ++ [0, 0, 0] ++ leBytes 4 a)).romParity p n

/-- Whether operands carry a list of units, none of them reserved. -/
def unitsAre (l : List Mq) (us : List Nat) : Bool := l.map Mq.unit == us

/-- PROP (R264 to R266). -/
def execProp (p md ma tbl : Nat) (par : Bool) (s : State) : Host.Outcome State Fault Refusal :=
  s.tally p (.prop p md ma tbl par) (
    s.instr p (if 9 ≤ tbl then 60 else 40) fun _ s =>
      let x := s.pair p
      let ins := (List.range (propInputs tbl)).map fun i => x.mq (ma + i)
      if unitsAre ins (propUnits tbl) then
        let r := propEval tbl ins par
        let s := s.romParity p (if par then 1 else 0)
        .ok (((s.pair p).setMq md r.1).propNote tbl r.2) s
      else .trap 1)

end Sys2Proof.Machine
end

