-- ==== Sys2Proof/Machine/Records.lean ====
section
/-! DEFINITION. Record snapshots and interval records (R249, R387, R391, R407, R520 to R525): one meaning per command. -/

namespace Sys2Proof.Machine

/-- The interval whose snapshot is due next for region p: the least one that is not taken and in which an instant has fired (R249, R302). -/
def State.dueInterval (s : State) (p : Nat) : Option Nat :=
  let lo := alGet 0 s.recs.snapNext p
  (s.recs.fired.filter fun i => decide (lo ≤ i)).foldl (fun (m : Option Nat) i => match m with
    | some j => some (min i j)
    | none => some i) none

/-- Whether an interval has ended for region p: its last instant has fired, or one after its end where that did not (a committed release tells that its instant fired before a reset), and every release of the region in it has committed,
trapped or been abandoned (R249, R302). -/
def State.intervalEnded (s : State) (p i : Nat) : Bool :=
  decide ((i + 1) * s.cyclesPerInterval ≤ max s.time.fired.1 s.recs.lastRelease + 1) &&
    !((s.spn.jobs ++ s.spn.early).any fun (e : Nat × Job) => s.taskRegion e.1 == p && decide (s.intervalOf e.2.cycle ≤ i)) &&
    ((s.pair p).task.isNone || decide (i < s.intervalOf (s.pair p).cycle)) && (s.pair p).log.all fun l => decide (i < s.intervalOf l.cycle)

/-- The registers of a mirror that stand for a stream's recorded totals (R92). -/
def State.mirrorTots (s : State) (st : Nat) : List Nat := (s.recTots st).map fun n => ((s.mirrorPairs st).find? fun (e : Nat × Nat) => e.1 == n).elim n Prod.snd

/-- Keep what the records of guarded streams will take from a partner region, before its bank is reset. -/
def State.keepMirrors (s : State) (p i : Nat) : List Nat → State
  | [] => s
  | st :: sts => (if s.guarded st && s.partnerRegion st == p then
      { s with recs := { s.recs with mirror := alSet s.recs.mirror st (i, s.snapWords p st i (s.mirrorTots st)) } } else s).keepMirrors p i sts

/-- The words of a stream's record: from its home region, or from the mirror while that publishes (R387, R520). -/
def State.recWords (s : State) (p st i : Nat) : List W128 :=
  if s.guarded st && s.get (F.FLT.GUARD.STATE st) == 2 then
    match alFind s.recs.mirror st with
    | some (j, ws) => if j = i then ws else s.snapWords (s.partnerRegion st) st i (s.mirrorTots st)
    | none => s.snapWords (s.partnerRegion st) st i (s.mirrorTots st)
  else s.snapWords p st i (s.recTots st)

/-- The first recorded register of a guarded stream whose total differs between home and mirror, as the snapshot forms them, while both regions run (R391). -/
def State.diverging (s : State) (st i : Nat) : List Nat :=
  let h := s.homeRegion st
  let m := s.partnerRegion st
  let b := 1 - i % 2
  if s.guarded st && s.regionUp h && s.regionUp m then
    ((s.mirrorPairs st).filter fun (e : Nat × Nat) => totLess ((s.pair h).totW e.1) (s.cmpW h b e.1) != totLess ((s.pair m).totW e.2) (s.cmpW m b e.2)).map Prod.fst
  else []

/-- GUARDn.DIVERGE and the DIVERGE entries (R391, R397). -/
def State.diverges (s : State) (st i : Nat) : List Nat → State
  | [] => s
  | n :: ns => ((s.set (F.FLT.GUARD.DIVERGE st) 1).fault 6 (s.homeRegion st) st (leBytes 1 n ++ [0, 0, 0] ++ leBytes 4 i)).diverges st i ns

/-- The snapshot of one recording stream. -/
def State.snapStream (s : State) (p i st : Nat) : State :=
  let ns := s.diverging st i
  let s := s.diverges st i ns
  let x := s.streamGet st i
  let str : StreamInterval := { x with flags := Nat.lor x.flags (if ns.isEmpty then 0 else 64) }
  let snap : Snapshot := { region := p, stream := st, num := i, closeS := s.sec, closeNs := s.ns, sealctr := s.get F.SEAL.COUNTER.COUNT, words := s.recWords p st i, chip := s.intervalGet i, str := str }
  { s with recs := { s.recs with snaps := s.recs.snaps ++ [snap] } }

/-- The snapshots of the recording streams of region p, in increasing number. -/
def State.snapStreams (s : State) (p i : Nat) : List Nat → State
  | [] => s
  | st :: sts => (if s.recording st && s.homeRegion st == p then s.snapStream p i st else s).snapStreams p i sts

/-- Interval figures that no snapshot needs any more are dropped. -/
def State.figuresDrop (s : State) : State :=
  let lo := s.recs.snapNext.foldl (fun (m : Nat) e => min m e.2) ((s.recs.snapNext.map Prod.snd).foldl max 0)
  let r := { s.recs with fired := s.recs.fired.filter (fun i => decide (lo ≤ i)), cur := s.recs.cur.filter (fun (e : Nat × Interval) => decide (lo ≤ e.1)) }
  { s with recs := { r with str := s.recs.str.filter (fun (e : Nat × StreamInterval) => decide (lo ≤ e.1 / 32)) } }

/-- RECORD_SNAPSHOT (R249): the snapshot of the interval due for pair p. -/
def execRecordSnapshot (p : Nat) (s : State) : Host.Outcome State Fault Refusal :=
  guardUnit (Instr.wf (.recordSnapshot p)) (
    match s.dueInterval p with
    | none => s
    | some i =>
      if s.regions.contains p && s.intervalEnded p i then
        let s := s.keepMirrors p i s.streams
        let s := (s.snapStreams p i s.streams).resetBank p (i % 2)
        ({ s with recs := { s.recs with snapNext := alSet s.recs.snapNext p (i + 1) } }).figuresDrop
      else s)

/-- What a record takes from its snapshot (R521, R522). -/
def State.headOf (s : State) (x : Snapshot) : RecHead :=
  { stream := x.stream, flags := Nat.lor x.chip.flags x.str.flags, sync := if x.chip.unsync then 0 else if x.chip.holdover then 2 else 1, level := x.chip.level, interval := x.num,
    first := x.num * s.cyclesPerInterval, last := (x.num + 1) * s.cyclesPerInterval - 1, closeS := x.closeS, closeNs := x.closeNs, sealctr := x.sealctr, ncyc := x.chip.ncyc, nsub := x.str.nsub,
    ndeg := x.str.ndeg }

/-- A totalizer commit whose programming fails `f` times: each copy goes behind the failed one with the next GEN, and the fourth failure abandons it (R407). True says a commit stands. -/
def State.commitTry (s : State) (kind : Nat) : Nat → Nat → State × Bool
  | 0, _ => (s.enterSafe 3, false)
  | _ + 1, 0 => ((s.totCommit kind).commitAhead, true)
  | k + 1, f + 1 => (((s.totCommit kind).commitCut).progFail s.commitAddr).commitTry kind k f

/-- INTERVAL_RECORD (R520): the record of the oldest snapshot is built, signed and placed, with its commit and its RECORD entry. `fails` and `cfails` count failures of programming the record and the commit. -/
def execIntervalRecord (fails cfails : Nat) (s : State) : Host.Outcome State Fault Refusal :=
  .next (match s.recs.snaps with
    | [] => s
    | x :: xs =>
      if !s.hscUp || s.hscHalted || s.spn.held || s.spn.trig.isSome || (s.on F.FLT.STATUS.SAFE && s.get F.FLT.STATUS.CAUSE == 3) || decide (s.space < s.spaceNeeded) then s
      else
        let s := { s with recs := { s.recs with snaps := xs } }
        let h := s.headOf x
        let r := s.recWrite h x.words 4 fails
        if r.2 then
          let c := r.1.commitTry 1 4 cfails
          if c.1.slot = 0 then c.1 else c.1.recAnnounce h
        else r.1)

end Sys2Proof.Machine
end

