-- ==== Sys2Proof/Machine/Rom.lean ====
section
/-! DEFINITION. The ROM input routines (R245) and flow routines (R288 to R294). Figures are exact rationals but for roots, powers and logarithms (log entry 30); what the manual does not state is free (log entries 2, 32). -/

namespace Sys2Proof.Machine

/-! Calibration marks (R373). Keys: modulator n is n, lane l is 64 + l, stream st is 256 + st. -/

/-- Whether a key carries the CAL mark for a release of an interval. -/
def State.calMark (s : State) (key num : Nat) : Bool := match alFind s.cal.marks key with
  | some m => decide (num ≤ m)
  | none => false

/-- The CAL flag of a list of keys for the running release. -/
def State.calFl (s : State) (p : Nat) (keys : List Nat) : Nat := if keys.any fun k => s.calMark k (s.intervalOf (s.pair p).cycle) then flCAL else 0

/-- Keys of the chains of region p that write at an offset. -/
def State.destKeys (s : State) (p off : Nat) : List Nat :=
  (s.chainIds.filter fun c => s.chainRegion c == p && !s.chainEcho c && s.chainF c 0x0C 4 == off && s.chainSrcKind c == 1).map s.chainSrc

/-- Keys of path i of a stream: the lanes of its shots, and the stream itself (R375). -/
def State.pathKeys (s : State) (st i : Nat) : List Nat := [64 + s.shotLane (s.pathF st i 0), 64 + s.shotLane (s.pathF st i 2), 256 + st]

/-! Shared parts. -/

/-- A field of a record. -/
def recF (r : List Byte) (off n : Nat) : Nat := leNat ((r.drop off).take n)

/-- The result registers of a call, in order. -/
def Pair.results (x : Pair) : Nat → List Mq → Pair
  | _, [] => x
  | n, a :: as => (x.setMq n a).results (n + 1) as

/-- A result whose value is a fraction, U 0 but for R225. -/
def rawMq (unit : Nat) (num : Int) (den : Nat) (fl q : Nat) : Mq := Mq.form unit (num * 2 ^ 40) den 0 fl q

/-- A substitute: value 0, U 0, SUB, QUAL 0xF (R245). -/
def subMq (unit : Nat) : Mq := { v := 0, u := 0, unit := unit, fl := flSUB, q := 15 }

/-- The record used: the expected one of cycle c, or the complete one of the cycle before, which is stale (R245). -/
def pick (c : Nat) (ok : List Byte → Nat → Bool) (r0 r1 : List Byte) : Option (List Byte × Bool) :=
  let at_ := fun (n : Nat) => if n % 2 = 0 then r0 else r1
  if ok (at_ c) c then some (at_ c, false)
  else if 0 < c ∧ ok (at_ (c - 1)) (c - 1) = true then some (at_ (c - 1), true) else none

/-- The flags that stale data adds, and its QUAL. -/
def staleFl (b : Bool) : Nat := if b then flSUB else 0
/-- QUAL of stale data. -/
def staleQ (b : Bool) : Nat := if b then 0xC else 0

/-- MQ flags for sample flags (R205). -/
def chainFl (f : Nat) : Nat := flOr (flOr (if Nat.land f 1 = 0 then 0 else flOOR) (if Nat.land f 2 = 0 then 0 else flLIM)) (if Nat.land f 0x74 = 0 then 0 else flSUB)

/-- MQ flags for the FLAGS of a pulse record (R186, R245). -/
def pulseFl (f : Nat) : Nat := flOr (if Nat.land f 5 = 0 then 0 else flOOR) (if Nat.land f 0x1A = 0 then 0 else flSUB)

/-- Whether a chain record is the complete record of cycle c (R245). -/
def chainOk (r : List Byte) (c : Nat) : Bool := recF r 0 8 == c && recF r 0x1A 1 == 2 && recF r 0x14 2 != 0

/-- The page of a stream (R159). -/
def pageOff (st : Nat) : Nat := 0x160000 + 0x1000 * st

/-! Input routines (R245). -/

/-- The results of IN_CHAIN from its two records. -/
def inChain (c fl : Nat) (r0 r1 : List Byte) : List Mq := match if c = 0 then none else pick (c - 1) chainOk r0 r1 with
  | none => [subMq 0, subMq 0]
  | some (r, st) =>
    [rawMq 0 (sext 64 (recF r 8 8)) (recF r 0x14 2) (flOr fl (flOr (staleFl st) (chainFl (recF r 0x16 2)))) (staleQ st),
     rawMq 0 (sext 32 (recF r 0x10 4)) 1 (flOr fl (flOr (staleFl st) (chainFl (recF r 0x1B 1)))) (staleQ st)]

/-- IN_CHAIN: I4 is DEST of the chain. -/
def execInChain (p : Nat) (s : State) : Host.Outcome State Fault Refusal :=
  s.tally p (.inChain p) (
    s.instr p 40 fun _ s =>
      let d := ((s.pair p).ir 4).toNat
      (s.loadN p d 4).bind fun bs s =>
        .ok ((s.pair p).results 24 (inChain (s.pair p).cycle (s.calFl p (s.destKeys p d)) (bs.take 32) (bs.drop 32))) s)

/-- Whether header word 0 and the pair entry of path i are those of cycle c (R245). -/
def pathOk (i : Nat) (r : List Byte) (c : Nat) : Bool := recF r 0 8 == c && recF r 0x0C 2 / 2 ^ i % 2 == 1

/-- Loads of one half for a path: word 0 of the header and the four words of the pair entry. -/
def State.loadPath (s : State) (p st half i : Nat) : Tr (List Byte) :=
  (s.loadN p (pageOff st + 0x800 * half) 1).bind fun h s => (s.loadN p (pageOff st + 0x800 * half + 0x40 + 64 * i) 4).bind fun e s => .ok (h ++ e) s

/-- The results of IN_PATH and I4. -/
def inPath (c i fl : Nat) (r0 r1 : List Byte) : List Mq × Nat := match pick c (pathOk i) r0 r1 with
  | none => ([subMq 0x22, subMq 0x23, subMq 0x22, subMq 0x22], 2)
  | some (r, st) =>
    let e := r.drop 16
    let h := recF e 0x3D 1
    if 2 ≤ h % 4 then ([subMq 0x22, subMq 0x23, subMq 0x22, subMq 0x22], h)
    else
      let f := flOr fl (staleFl st)
      let q := max (staleQ st) (if h % 4 = 1 then 4 else 0)
      ([rawMq 0x22 (sext 64 (recF e 0x30 8)) 65536 f q, rawMq 0x23 (recF e 0x38 4) 65536 f q, rawMq 0x22 (recF e 0 8) 65536 f q, rawMq 0x22 (recF e 0x18 8) 65536 f q], h)

/-- IN_PATH: I4 is the path of the task's stream, and HEALTH on return. -/
def execInPath (p : Nat) (s : State) : Host.Outcome State Fault Refusal :=
  s.tally p (.inPath p) (
    s.instr p 60 fun k s =>
      let i := ((s.pair p).ir 4).toNat
      let st := s.taskStream k
      if st = 0xFF ∨ s.npath st ≤ i then .trap 2
      else (s.loadPath p st 0 i).bind fun r0 s => (s.loadPath p st 1 i).bind fun r1 s =>
        let r := inPath (s.pair p).cycle i (s.calFl p (s.pathKeys st i)) r0 r1
        .ok (((s.pair p).results 24 r.1).setI 4 (BitVec.ofNat 32 r.2)) s)

/-- Whether a pulse block is the complete block of window c (R182). -/
def pulseOk (r : List Byte) (c : Nat) : Bool := recF r 0 8 == c && recF r 9 1 == 2

/-- Loads of one half for a pulse record: word 0 of the block header and the four words of the record. -/
def State.loadPulse (s : State) (p st half i : Nat) : Tr (List Byte) :=
  let a := pageOff st + 0x800 * half + 0x600
  (s.loadN p a 1).bind fun h s => (s.loadN p (a + 0x40 + 64 * i) 4).bind fun e s => .ok (h ++ e) s

/-- Both halves. -/
def State.loadPulses (s : State) (p st i : Nat) : Tr (List Byte × List Byte) :=
  (s.loadPulse p st 0 i).bind fun r0 s => (s.loadPulse p st 1 i).bind fun r1 s => .ok (r0, r1) s

/-- Whether the task may read pulse input A (0) or B (1) of its stream (R245). -/
def State.pulseMay (s : State) (st i : Nat) : Bool := st != 0xFF && decide (i < 2) && (if i = 0 then s.pulseA st else s.pulseB st) != 0xFF

/-- COUNT of a pulse record: signed in quadrature for A (R182, R183). -/
def pulseCount (r : List Byte) (i : Nat) : Int := if i = 0 ∧ recF r 0x0A 1 % 4 = 1 then sext 32 (recF (r.drop 16) 0 4) else (recF (r.drop 16) 0 4 : Nat)

/-- The results of IN_PULSE. -/
def inPulse (c i : Nat) (r0 r1 : List Byte) : List Mq := match if c = 0 then none else pick (c - 1) pulseOk r0 r1 with
  | none => [subMq 0, subMq 0x21, subMq 0x21]
  | some (r, st) =>
    let e := r.drop 16
    let f := flOr (staleFl st) (pulseFl (recF e 4 2))
    [rawMq 0 (pulseCount r i) 1 f (staleQ st), rawMq 0x21 ((recF e 0x18 8 : Int) - recF e 0x10 8) 65536 f (staleQ st), rawMq 0x21 (recF e 0x20 8) 65536 f (staleQ st)]

/-- IN_PULSE: I4 names PULSE_A or PULSE_B. -/
def execInPulse (p : Nat) (s : State) : Host.Outcome State Fault Refusal :=
  s.tally p (.inPulse p) (
    s.instr p 50 fun k s =>
      let i := ((s.pair p).ir 4).toNat
      let st := s.taskStream k
      if s.pulseMay st i then (s.loadPulses p st i).bind fun r s => .ok ((s.pair p).results 24 (inPulse (s.pair p).cycle i r.1 r.2)) s
      else .trap 2)

/-! Differential pressure (R289, R290). The spec names the standards and prints neither their equations nor their limits; those of ISO 5167-2:2003 and ISO 5167-4:2003 as generally known stand here (PRESUMED, log entry 32). -/

/-- Use up the free values of one call. -/
def State.freeUsed (s : State) : State := { s with freeCtr := s.freeCtr + 16 }

/-- Open value i of a call. -/
def openReal (s : State) (i : Nat) : Rat := ratFp (Config.freeReal (s.freeCtr + i))

/-- Open uncertainty i of a call. -/
def openU (s : State) (i : Nat) : Rat := mkRat (Config.freeU (s.freeCtr + i)) (2 ^ 128)

/-- A result whose value and U the manual leaves open. -/
def openMq (s : State) (i unit fl q : Nat) : Mq := ratMq unit (openReal s i) (openU s i) fl q

/-- The arguments of ORIFICE and VENTURI. -/
structure Dp where
  dp : Rat
  rho : Rat
  mu : Rat
  ka : Rat
  p1 : Rat
  d : Rat
  dd : Rat

/-- β of a differential device. -/
def Dp.beta (a : Dp) : Rat := a.d / a.dd
/-- β to the fourth power. -/
def Dp.b4 (a : Dp) : Rat := a.beta * a.beta * a.beta * a.beta
/-- p2/p1. -/
def Dp.ratio (a : Dp) : Rat := (a.p1 - a.dp) / a.p1
/-- qm for a C and an ε (R289). -/
def Dp.flow (a : Dp) (c e : Rat) : Rat := c * e / rSqrt (1 - a.b4) * (rPi / 4) * a.d * a.d * rSqrt (2 * a.dp * a.rho)
/-- Re_D for a flow. -/
def Dp.re (a : Dp) (q : Rat) : Rat := 4 * q / (rPi * a.mu * a.dd)
/-- Whether the relations have a real value: R289 states none elsewhere. -/
def Dp.real (a : Dp) : Bool := decide (0 < a.dd) && decide (0 < a.d) && decide (a.b4 < 1) && decide (0 ≤ a.rho) && decide (0 < a.p1) && decide (0 < a.ka)
/-- The relative U of qm: the terms that both devices share, of C, ε, Δp, ρ, d and D (R289). -/
def Dp.relU (a : Dp) (us : List Rat) (rc re : Rat) : Rat :=
  let g := 1 - a.b4
  let u := fun (i : Nat) => listGet 0 us i
  rss [rc, re, u 0 / a.dp / 2, u 1 / a.rho / 2, 2 / g * (u 5 / a.d), 2 * a.b4 / g * (u 6 / a.dd)]

/-- M24 to M30 as the arguments. -/
def Pair.dpArgs (x : Pair) : Dp :=
  { dp := (x.mq 24).real, rho := (x.mq 25).real, mu := (x.mq 26).real, ka := (x.mq 27).real, p1 := (x.mq 28).real, d := (x.mq 29).real, dd := (x.mq 30).real }
/-- Their uncertainties: Δp, ρ, μ, κ, p1, d, D. -/
def Pair.dpUs (x : Pair) : List Rat := (List.range 7).map fun i => (x.mq (24 + i)).unc
/-- Flags and QUAL of a list of arguments. -/
def Pair.flqOf (x : Pair) (l : List Nat) : Nat × Nat := l.foldl (fun (f : Nat × Nat) n => (flOr f.1 (x.mq n).fl, max f.2 (x.mq n).q)) (0, 0)

/-- L1 and L2' of the tappings: 0 corner, 1 D and D/2, 2 flange, 25.4 mm / D (R289). -/
def tapL (taps : Nat) (dd : Rat) : Rat × Rat := if taps = 0 then (0, 0) else if taps = 1 then (1, 47 / 100) else (254 / 10000 / dd, 254 / 10000 / dd)

/-- The Reader-Harris/Gallagher equation of ISO 5167-2 (PRESUMED, log entry 32). -/
def isoC (taps : Nat) (b re dd : Rat) : Rat :=
  let l := tapL taps dd
  let a := rPow (19000 * b / re) (8 / 10)
  let m2 := 2 * l.2 / (1 - b)
  let b4 := b * b * b * b
  5961 / 10000 + 261 / 10000 * b * b - 216 / 1000 * b4 * b4 + 521 / 1000000 * rPow (1000000 * b / re) (7 / 10) + (188 / 10000 + 63 / 10000 * a) * rPow b (7 / 2) * rPow (1000000 / re) (3 / 10) +
    (43 / 1000 + 80 / 1000 * rExp (-10 * l.1) - 123 / 1000 * rExp (-7 * l.1)) * (1 - 11 / 100 * a) * b4 / (1 - b4) - 31 / 1000 * (m2 - 8 / 10 * rPow m2 (11 / 10)) * rPow b (13 / 10) +
    (if dd < 7112 / 100000 then 11 / 1000 * (3 / 4 - b) * (28 / 10 - dd / (254 / 10000)) else 0)

/-- The relative U of C of ISO 5167-2, for β from 0.1 to 0.75; elsewhere the standard gives none (PRESUMED, log entry 32). -/
def isoUc (b re dd : Rat) : Option Rat :=
  if b < 1 / 10 ∨ 3 / 4 < b then none
  else some ((if b < 1 / 5 then 7 / 10 - b else if b ≤ 3 / 5 then 1 / 2 else 1667 / 1000 * b - 1 / 2) / 100 +
    (if dd < 7112 / 100000 then 9 / 1000 * (3 / 4 - b) * (28 / 10 - dd / (254 / 10000)) else 0) + (if 1 / 2 < b ∧ re < 10000 then 5 / 1000 else 0))

/-- ε of ISO 5167-2 (PRESUMED, log entry 32). -/
def isoEps (b4 ratio ka : Rat) : Rat := 1 - (351 / 1000 + 256 / 1000 * b4 + 93 / 100 * b4 * b4) * (1 - rPow ratio (1 / ka))

/-- The lower limit of Re_D of ISO 5167-2 (PRESUMED, log entry 32). -/
def isoReMin (taps : Nat) (b dd : Rat) : Rat :=
  if taps = 2 then (if 5000 < 170000 * b * b * dd then 170000 * b * b * dd else 5000) else if b ≤ 56 / 100 then 5000 else 16000 * b * b

/-- ε of ISO 5167-4, the isentropic expression; at κ = 1 and at p2 = p1 it has no value of its own (PRESUMED, log entry 32). -/
def isoEpsV (b4 ratio ka : Rat) : Rat :=
  let t := rPow ratio (2 / ka)
  rSqrt (ka * t / (ka - 1) * ((1 - b4) / (1 - b4 * t)) * ((1 - rPow ratio ((ka - 1) / ka)) / (1 - ratio)))

/-- Whether D, β and, where it is known, Re_D lie outside the limits of ISO 5167-4 for a kind: 0 as-cast, 1 machined, 2 welded (PRESUMED, log entry 32). -/
def isoVOut (kind : Nat) (dd b : Rat) (re : Option Rat) : Bool :=
  let within := fun (lo hi x : Rat) => decide (lo ≤ x) && decide (x ≤ hi)
  let reIn := fun (lo hi : Rat) => re.elim true (within lo hi)
  if kind = 0 then !(within (1 / 10) (8 / 10) dd && within (3 / 10) (3 / 4) b && reIn 200000 2000000)
  else if kind = 1 then !(within (5 / 100) (1 / 4) dd && within (4 / 10) (3 / 4) b && reIn 200000 1000000)
  else !(within (2 / 10) (12 / 10) dd && within (4 / 10) (7 / 10) b && reIn 200000 2000000)

/-- Rounds of the iteration (R289): qm and Re_D of the last round, C before and after it. C of tappings that the list of R288 lacks is open. -/
def orificeGo (s : State) (taps : Nat) (a : Dp) (e : Rat) : Nat → Rat × Rat × Rat × Rat → Rat × Rat × Rat × Rat
  | 0, r => r
  | n + 1, (_, _, _, c) =>
    let q := a.flow c e
    let re := a.re q
    orificeGo s taps a e n (q, re, c, if taps < 3 then ratFp (fpOf (isoC taps a.beta re a.dd)) else openReal s 1)

/-- The geometry limits of R289. -/
def Dp.geoOut (a : Dp) : Bool :=
  decide (a.beta < 1 / 10) || decide (3 / 4 < a.beta) || decide (a.d < 125 / 10000) || decide (a.dd < 5 / 100) || decide (1 < a.dd) || decide (4 * a.ratio < 3)

/-- What ORIFICE and VENTURI give for Δp of 0 or less: qm 0, C 0.6 and Re_D 0, with OOR for Δp below 0 alone (R289, R290). With p2 = p1 the expression for ε is 1, and its U is 0. -/
def dpNone (s : State) (a : Dp) (uc : Rat) (f : Nat × Nat) : List Mq :=
  let o := flOr f.1 (if a.dp < 0 then flOOR else 0)
  [ratMq 7 0 (openU s 0) o f.2, ratMq 0 (6 / 10) (uc * (6 / 10)) o f.2, ratMq 0 1 0 o f.2, ratMq 0 0 (openU s 3) o f.2]

/-- The results of ORIFICE and I4 (R289). -/
def orifice (s : State) (taps : Nat) (x : Pair) : List Mq × Nat :=
  let a := x.dpArgs
  let f := x.flqOf [24, 25, 26, 27, 28, 29, 30]
  let uc := fun (re : Rat) => (isoUc a.beta re a.dd).getD (openU s 4)
  if a.dp ≤ 0 then (dpNone s a (uc 0) f, 0)
  else if !a.real || decide (a.mu ≤ 0) || a.rho == 0 || decide (a.ratio < 0) then
    let o := flOr f.1 (if a.geoOut then flOOR else 0)
    ([openMq s 0 7 o f.2, openMq s 1 0 o f.2, openMq s 2 0 o f.2, openMq s 3 0 o f.2], (s.free.1).toNat % 2)
  else
    let e := isoEps a.b4 a.ratio a.ka
    let (q, re, c0, c) := orificeGo s taps a e 6 (0, 0, 0, 6 / 10)
    let ch := rAbs (c - c0)
    let conv := decide (ch * 1000000 ≤ c)
    let u := above (uc re * c + (if conv then 0 else ch))
    let ue := 35 / 1000 * a.dp / (a.ka * a.p1)
    let o := flOr f.1 (if a.geoOut || decide (re < isoReMin taps a.beta a.dd) then flOOR else 0)
    ([ratMq 7 q (above (q * a.relU x.dpUs (u / c) ue)) o f.2, ratMq 0 c u o f.2, ratMq 0 e (above (e * ue)) o f.2, ratMq 0 re (openU s 3) o f.2], if conv then 0 else 1)

/-- ORIFICE (R289). -/
def execOrifice (p : Nat) (s : State) : Host.Outcome State Fault Refusal :=
  s.tally p (.orifice p) (
    s.instr p 1140 fun _ s =>
      let x := s.pair p
      if unitsAre ((List.range 7).map fun i => x.mq (24 + i)) [0x18, 0x28, 0x2F, 0, 0x18, 0x24, 0x24] then
        let r := orifice s (x.ir 4).toNat x
        .ok ((x.results 24 r.1).setI 4 (BitVec.ofNat 32 r.2)) s.freeUsed
      else .trap 1)

/-- C and its relative U for a kind of Venturi tube (R290). -/
def venturiC (kind : Nat) : Option (Rat × Rat) :=
  if kind = 0 then some (984 / 1000, 7 / 1000) else if kind = 1 then some (995 / 1000, 10 / 1000) else if kind = 2 then some (985 / 1000, 15 / 1000) else none

/-- The results of VENTURI (R290); M26 is absent unless it holds a viscosity above 0. C of a kind that the list of R288 lacks is open. -/
def venturi (s : State) (kind : Nat) (x : Pair) : List Mq :=
  let a := x.dpArgs
  let mu := decide ((x.mq 26).unit = 0x2F) && decide (0 < a.mu)
  let f := x.flqOf (if mu then [24, 25, 26, 27, 28, 29, 30] else [24, 25, 27, 28, 29, 30])
  let cc := (venturiC kind).getD (openReal s 1, openU s 4)
  let oor := fun (re : Option Rat) => flOr f.1 (if isoVOut kind a.dd a.beta re || decide (4 * a.ratio < 3) then flOOR else 0)
  if a.dp ≤ 0 then dpNone s a cc.2 f
  else if !a.real || a.rho == 0 || decide (a.ratio < 0) then
    let o := oor none
    [openMq s 0 7 o f.2, ratMq 0 cc.1 (cc.1 * cc.2) o f.2, openMq s 2 0 o f.2, openMq s 3 0 o f.2]
  else
    let e := if a.ka = 1 then openReal s 2 else isoEpsV a.b4 a.ratio a.ka
    let q := a.flow cc.1 e
    let re := if mu then some (a.re q) else none
    let ue := (4 + 100 * a.b4 * a.b4) * a.dp / a.p1 / 100
    let o := oor re
    [ratMq 7 q (above (q * a.relU x.dpUs cc.2 ue)) o f.2, ratMq 0 cc.1 (cc.1 * cc.2) o f.2, ratMq 0 e (above (e * ue)) o f.2, ratMq 0 (re.getD 0) (if mu then openU s 3 else 0) o f.2]

/-- VENTURI (R290). M26 is no argument that must carry a unit, but its unit is read: a reserved code raises UNIT (R220). -/
def execVenturi (p : Nat) (s : State) : Host.Outcome State Fault Refusal :=
  s.tally p (.venturi p) (
    s.instr p 260 fun _ s =>
      let x := s.pair p
      if unitsAre ([24, 25, 27, 28, 29, 30].map x.mq) [0x18, 0x28, 0, 0x18, 0x24, 0x24] && unitOk (x.mq 26).unit then .ok (x.results 24 (venturi s (x.ir 4).toNat x)) s.freeUsed else .trap 1)

/-! Transit time (R291). Parameters are signed Q32.32. -/

/-- The value of a parameter. -/
def parR (n : Int) : Rat := mkRat n (2 ^ 32)

/-- What one used path gives: weight, velocity in m/s, the square of its derivative by DT times U(DT), and speed of sound. -/
structure PathV where
  w : Rat
  v : Rat
  var : Rat
  c : Rat

/-- The figures of path i from its pair entry (R291): `dt0` and `uf` in ps, `l` and `x` chord length and projection. Where NPAIR is 0, or X or a TOF is 0, the rule gives no value. -/
def pathV (s : State) (i : Nat) (w : Rat) (e : List Byte) (dt0 uf l x : Rat) : PathV :=
  let ps := fun (n : Int) => mkRat n 65536
  let ta := ps (recF e 0 8)
  let tb := ps (recF e 0x18 8)
  let np := recF e 0x3C 1
  let tsd := fun (o : Nat) => ps (recF e o 4) * ps (recF e o 4)
  let udt := if np = 0 then openU s i else uf * uf + 4 * (tsd 8 + tsd 0x20) / np
  let k := l * l / (2 * x) / (ta * tb) * 1000000000000
  let bad := x = 0 ∨ ta = 0 ∨ tb = 0
  { w := w, v := if bad then openReal s i else k * (ps (sext 64 (recF e 0x30 8)) - dt0), var := if bad then openU s (16 + i) else k * k * udt, c := l * mkRat (recF e 0x38 4) 65536 }

/-- The pair entries of a stream's paths in one half. -/
def State.loadEntries (s : State) (p a : Nat) : Nat → Tr (List (List Byte))
  | 0 => .ok [] s
  | n + 1 => (s.loadN p a 4).bind fun e s => (s.loadEntries p (a + 64) n).bind fun es s => .ok (e :: es) s

/-- Sum over paths. -/
def sumR (l : List Rat) : Rat := l.foldl (· + ·) 0

/-- The results of UPATH and the mask of paths used (R291). -/
def upath (s : State) (st c : Nat) (fl : Nat → Nat) (head : List Byte) (es : List (List Byte)) (ps : List Int) : List Mq × Nat :=
  let n := s.npath st
  let mask := s.get (F.ECHO.PATHS.MASK st)
  let all := decide (mask = 2 ^ n - 1)
  let used := (List.range n).filter fun i => mask / 2 ^ i % 2 == 1 && recF head 0 8 == c && recF (listGet [] es i) 0x3D 1 % 4 < 2
  let pr := fun (i : Nat) => parR (listGet 0 ps i)
  let one := fun (i : Nat) => pathV s i (mkRat (s.pathF st i (if all then 4 else 6)) 65536) (listGet [] es i) (pr 0) (pr 1) (pr (4 + 2 * i)) (pr (5 + 2 * i))
  let vs := used.map one
  let sw := sumR (vs.map PathV.w)
  let missing := decide (used.length < popcount64 mask)
  let f := used.foldl (fun (m : Nat) i => flOr m (fl i)) (if all then 0 else flDEG)
  let q := if missing then 4 else 0
  let bits := (used.map fun i => 2 ^ i).foldl (· + ·) 0
  if used.isEmpty then
    let z := fun (unit i : Nat) => (ratMq unit 0 (openU s i) (flOr f flSUB) 15 : Mq)
    ([z 0x0B 0, z 0x27 1, z 0x27 2, z 0 3], 0)
  else if sw = 0 then ([openMq s 0 0x0B f q, openMq s 1 0x27 f q, openMq s 2 0x27 f q, ratMq 0 0 0 f q], bits)
  else
    let v := sumR (vs.map fun y => y.w * y.v) / sw
    let c_ := sumR (vs.map fun y => y.w * y.c) / sw
    let r := rAbs (pr 3) * (if missing then 2 else 1)
    let uv := rootUp (sumR (vs.map fun y => y.w * y.w * y.var)) / sw + r * rAbs v
    ([ratMq 0x0B (pr 2 * v) (rAbs (pr 2) * uv) f q, ratMq 0x27 v uv f q, ratMq 0x27 c_ (openU s 2) f q, ratMq 0 sw 0 f q], bits)

/-- UPATH (R291). A task whose STREAM is 0xFF has no page: ADDR, as for IN_PATH. -/
def execUpath (p : Nat) (s : State) : Host.Outcome State Fault Refusal :=
  s.tally p (.upath p) (
    match (s.pair p).task with
    | none => s
    | some k0 => s.instr p (120 + 170 * s.npath (s.taskStream k0)) fun k s =>
      let st := s.taskStream k
      let c := (s.pair p).cycle
      let a := pageOff st + 0x800 * (c % 2)
      if st = 0xFF then .trap 2
      else (s.loadN p a 1).bind fun h s => (s.loadEntries p (a + 0x40) (s.npath st)).bind fun es s =>
        (s.loadParams p ((s.pair p).ir 5).toNat (4 + 2 * s.npath st)).bind fun ps s =>
          let r := upath s st c (fun i => s.calFl p (s.pathKeys st i)) h es ps
          .ok (((s.pair p).results 24 r.1).setI 4 (BitVec.ofNat 32 r.2)) { s with freeCtr := s.freeCtr + 32 })

/-! Pulses (R292, R293). -/

/-- What KFACTOR and FREQ take from a pulse record: COUNT, flags of the record, staleness, and f (R292). -/
structure PulseF where
  count : Int
  fl : Nat
  raw : Nat
  q : Nat
  f : Rat

/-- Read the record (R245, R292); f is open where LAST equals FIRST with COUNT at least 2. -/
def pulseF (s : State) (c i : Nat) (r0 r1 : List Byte) : Option PulseF := match if c = 0 then none else pick (c - 1) pulseOk r0 r1 with
  | none => none
  | some (r, st) =>
    let e := r.drop 16
    let n := pulseCount r i
    let span : Int := (recF e 0x18 8 : Int) - recF e 0x10 8
    let per := recF e 0x20 8
    let hz := fun (n : Int) => mkRat (n * 65536000000000)
    let f := if 2 ≤ n then (if span = 0 then openReal s 0 else if 0 < span then hz (n - 1) span.natAbs else hz (1 - n) span.natAbs)
      else if per ≠ 0 ∧ recF e 0x28 8 < per then hz 1 per else 0
    some { count := n, fl := flOr (staleFl st) (pulseFl (recF e 4 2)), raw := recF e 4 2, q := staleQ st, f := f }

/-- K at a frequency: constant outside the points, linear between (R292). -/
def curve (f : Rat) : List (Rat × Rat) → Rat
  | [] => 0
  | [(_, k)] => k
  | (f0, k0) :: (f1, k1) :: l => if f ≤ f0 then k0 else if f < f1 then k0 + (f - f0) / (f1 - f0) * (k1 - k0) else curve f ((f1, k1) :: l)

/-- A quotient as an MQ, with R224 for a divisor of 0. -/
def divMq (unit : Nat) (a b u : Rat) (fl q : Nat) : Mq :=
  if b = 0 then { v := if 0 < a then mqMax else if a < 0 then mqMin else 0, u := uMax, unit := unit, fl := flOr fl (flOr flOOR flLIM), q := q }
  else ratMq unit (a / b) u fl q

/-- The cycle period in s. -/
def State.periodR (s : State) : Rat := mkRat s.cycleUs 1000000

/-- The substitute results of R293: M31 times the period and M31, U the magnitude. -/
def State.m31Subst (s : State) (x : Pair) (ua ub fl q : Nat) : Mq × Mq :=
  let v := (x.mq 31).real
  let w := v * s.periodR
  let f := flOr (flOr fl flSUB) (x.mq 31).fl
  (ratMq ua w (rAbs w) f (max (max q 8) (x.mq 31).q), ratMq ub v (rAbs v) f (max (max q 8) (x.mq 31).q))

/-- Write M24, M25, perhaps M26, M27, and M31 with a good flow (R293). -/
def Pair.pulseOut (x : Pair) (v q : Mq) (k : Option Mq) (f : Mq) : Pair :=
  let x := (x.setMq 24 v).setMq 25 q
  let x := match k with
    | some a => x.setMq 26 a
    | none => x
  let x := x.setMq 27 f
  if Nat.land q.fl (flSUB + flOOR) = 0 then x.setMq 31 q else x

/-- Whether a record calls for the substitute results of R293, which read M31. -/
def PulseF.sub (y : PulseF) : Bool := Nat.land y.raw 0x1A != 0

/-- Whether M31 may be read where the record calls for it: a reserved unit code raises UNIT (R220). -/
def m31Ok (s : State) (x : Pair) (i : Nat) (r : List Byte × List Byte) : Bool := match pulseF s x.cycle i r.1 r.2 with
  | some y => !y.sub || unitOk (x.mq 31).unit
  | none => true

/-- The results of KFACTOR (R292, R293). -/
def kfactor (s : State) (x : Pair) (i : Nat) (r : List Byte × List Byte) (ps : List Int) : Pair := match pulseF s x.cycle i r.1 r.2 with
  | none => x.pulseOut (subMq 9) (subMq 0x0B) (some (subMq 3)) (subMq 0x23)
  | some y =>
    let n := (listGet 0 ps 0 / 2 ^ 32).toNat
    let pts := (List.range (min n 12)).map fun (j : Nat) => (parR (listGet 0 ps (2 + 2 * j)), parR (listGet 0 ps (3 + 2 * j)))
    let k := if n = 0 ∨ 12 < n then openReal s 1 else curve y.f pts
    let lo := (pts.head?.map Prod.fst).getD 0
    let hi := (pts.getLast?.map Prod.fst).getD 0
    let out := decide (0 < y.f) && (decide (y.f < lo) || decide (hi < y.f))
    let uk := rAbs (parR (listGet 0 ps 1))
    let fl := flOr y.fl (if out then flOOR else 0)
    let q := if y.sub then max y.q 8 else y.q
    let m := s.m31Subst x 9 0x0B fl q
    let v := if y.sub then m.1 else divMq 9 y.count k ((y.count.natAbs * uk + 1) / rAbs k) fl q
    let qv := if y.sub then m.2 else divMq 0x0B y.f k (rAbs y.f * uk / rAbs k) fl q
    x.pulseOut v qv (some (ratMq 3 k (rAbs k * uk) fl q)) (ratMq 0x23 y.f 0 fl q)

/-- KFACTOR (R292): I4 bit 0 selects the input, I5 is the first parameter of the curve. -/
def execKfactor (p : Nat) (s : State) : Host.Outcome State Fault Refusal :=
  s.tally p (.kfactor p) (
    s.instr p 230 fun k s =>
      let i := ((s.pair p).ir 4).toNat % 2
      let st := s.taskStream k
      if s.pulseMay st i then (s.loadPulses p st i).bind fun r s => (s.loadParams p ((s.pair p).ir 5).toNat 26).bind fun ps s =>
        if m31Ok s (s.pair p) i r then .ok (kfactor s (s.pair p) i r ps) s.freeUsed else .trap 1
      else .trap 2)

/-- The results of FREQ (R292, R293). -/
def freqRun (s : State) (x : Pair) (i : Nat) (r : List Byte × List Byte) (ps : List Int) : Pair := match pulseF s x.cycle i r.1 r.2 with
  | none => x.pulseOut (subMq 4) (subMq 7) none (subMq 0x23)
  | some y =>
    let sc := parR (listGet 0 ps 1)
    let us := rAbs (parR (listGet 0 ps 2))
    let q := if y.sub then max y.q 8 else y.q
    let qm := (y.f - parR (listGet 0 ps 0)) * sc
    let m := qm * s.periodR
    let z := s.m31Subst x 4 7 y.fl q
    let vm := if y.sub then z.1 else ratMq 4 m (rAbs m * us + rAbs sc) y.fl q
    let vq := if y.sub then z.2 else ratMq 7 qm (rAbs qm * us) y.fl q
    x.pulseOut vm vq none (ratMq 0x23 y.f 0 y.fl q)

/-- FREQ (R292). -/
def execFreq (p : Nat) (s : State) : Host.Outcome State Fault Refusal :=
  s.tally p (.freq p) (
    s.instr p 150 fun k s =>
      let i := ((s.pair p).ir 4).toNat % 2
      let st := s.taskStream k
      if s.pulseMay st i then (s.loadPulses p st i).bind fun r s => (s.loadParams p ((s.pair p).ir 5).toNat 3).bind fun ps s =>
        if m31Ok s (s.pair p) i r then .ok (freqRun s (s.pair p) i r ps) s.freeUsed else .trap 1
      else .trap 2)

/-! Properties (R294). -/

/-- Unit of the converted value (R294). -/
def normUnit (u : Nat) (std : Bool) : Nat := if u = 0x0B then (if std then 0x10 else 0x0E) else (if std then 0x0F else 0x0D)

/-- Note evaluations in order. -/
def Pair.propNotes (x : Pair) : List (Nat × Nat) → Pair
  | [] => x
  | (t, st) :: l => (x.propNote t st).propNotes l

/-- The results of NORMVOL (R294) and the status of its evaluations; `par` marks those that meet a parity error. The mole fraction at the reference point is limited exactly, so that no flag comes of it. -/
def normvol (s : State) (i4 par : Nat) (x : Pair) : List Mq × List (Nat × Nat) :=
  let dry := i4 / 2 % 2 == 1
  let tref : Rat := if i4 % 2 = 1 then 28815 / 100 else 27315 / 100
  let pref : Rat := 101325
  let q := x.mq 24
  let ins := [x.mq 25, x.mq 26, x.mq 27]
  let z := propEval 9 ins (par % 2 == 1)
  let rho := propEval 11 ins (par / 2 % 2 == 1)
  let p := (x.mq 25).real
  let t := (x.mq 26).real
  let xx := (x.mq 27).real
  let xr := if dry then 0 else if xSat pref tref < xx then xSat pref tref else xx
  let zr := propRun 9 [pref, tref, xr] [0, 0, if dry then 0 else (x.mq 27).unc] 0 0 (par / 4 % 2 == 1)
  let zz := z.1.real
  let zf := zr.1.real
  let g := p / pref * (zf / zz) * (if dry then 1 - xx else 1) * tref
  let fl := flOr (flOr (flOr q.fl ((x.mq 25).fl)) (flOr (x.mq 26).fl (x.mq 27).fl)) (flOr (flOr z.1.fl rho.1.fl) zr.1.fl)
  let ql := max (max q.q (x.mq 25).q) (max (max (x.mq 26).q (x.mq 27).q) (max (max z.1.q rho.1.q) zr.1.q))
  let unit := normUnit q.unit (i4 % 2 == 1)
  let v := q.real * g / t
  let others := [(x.mq 25).unc / p, (x.mq 26).unc / t, z.1.unc / zz, zr.1.unc / zf] ++ (if dry then [(x.mq 27).unc / (1 - xx)] else [])
  let r := if zz = 0 ∨ (p = 0 ∨ zf = 0 ∨ (dry = true ∧ xx = 1)) ∧ t ≠ 0 then ratMq unit (if zz = 0 then openReal s 0 else v) (openU s 0) fl ql
    else if t = 0 then divMq unit (q.real * g) 0 0 fl ql
    else ratMq unit v (rss (g / t * q.unc :: others.map (v * ·))) fl ql
  ([r, z.1, zr.1, rho.1], [(9, z.2), (11, rho.2), (9, zr.2)])

/-- NORMVOL (R294): I4 bit 0 standard, bit 1 dry basis. -/
def execNormvol (p par : Nat) (s : State) : Host.Outcome State Fault Refusal :=
  s.tally p (.normvol p par) (
    s.instr p 280 fun _ s =>
      let x := s.pair p
      if unitsAre ([25, 26, 27].map x.mq) [0x18, 0x1C, 0] && ((x.mq 24).unit == 0x0B || (x.mq 24).unit == 9) then
        let r := normvol s (x.ir 4).toNat par x
        .ok ((x.results 24 r.1).propNotes r.2) (s.romParity p (popcount64 (par % 8))).freeUsed
      else .trap 1)

/-- The tables of a medium: density, enthalpy and the inputs (R294). -/
def mediumTables (m : Nat) : Option (Nat × Nat × Nat) := if m = 1 then some (1, 2, 2) else if m = 2 then some (3, 4, 2) else if m = 3 then some (11, 10, 3) else none

/-- DENSITY (R294): I4 is the MEDIUM code. -/
def execDensity (p par : Nat) (s : State) : Host.Outcome State Fault Refusal :=
  s.tally p (.density p par) (
    s.instr p 180 fun _ s =>
      let x := s.pair p
      let n := match mediumTables (x.ir 4).toNat with
        | some (_, _, n) => n
        | none => 2
      let ins := (List.range n).map fun i => x.mq (24 + i)
      if unitsAre ins ([0x18, 0x1C, 0].take n) then
        match mediumTables (x.ir 4).toNat with
        | some (td, th, _) =>
          let d := propEval td ins (par % 2 == 1)
          let h := propEval th ins (par / 2 % 2 == 1)
          .ok ((x.results 24 [d.1, h.1]).propNotes [(td, d.2), (th, h.2)]) (s.romParity p (popcount64 (par % 4)))
        | none =>
          let f := x.flqOf [24, 25]
          let z := fun (unit i : Nat) => (ratMq unit 0 (openU s i) (flOr f.1 (flSUB + flOOR)) 15 : Mq)
          .ok (x.results 24 [z 0x28 0, z 0x2B 1]) s.freeUsed
      else .trap 1)

end Sys2Proof.Machine
end

