-- ==== Sys2Proof/Machine/Pads.lean ====
section
/-! DEFINITION. The states of the balls (R44, R50, R53, R56): what the part drives at each, in every season and reset, and the pad retention latches of FROST. -/

namespace Sys2Proof.Machine

/-- The domain of a ball: 0 Heartwood, 1 Sapwood, 2 always-on. -/
def Ball.dom : Ball → Nat
  | .txg _ | .ax _ | .sd _ | .exc _ | .pi _ | .gpioH _ => 0
  | .twScl n | .twSda n => if n < 4 then 0 else 1
  | .cspSck n | .cspSs n _ | .cspD n _ => if n < 2 then 0 else 1
  | .gpioS _ | .line _ | .rmii | .tdo => 1
  | .hostAlert | .twm | .sealA | .sealB => 2

/-- Whether the bank that feeds a ball is powered (R40 to R44): the crosspoint and lanes by VDDA_ACQ, modulators and excitation by VDDA_SD, the digital west area by VDDIO_H, the east area by VDDIO_S, the 10BASE-T1L lines by VDDA_ACQ
through a switch that opens with VDD_SW. -/
def State.bankOn (s : State) : Ball → Bool
  | .ax _ => s.pins.vddaAcq
  | .sd _ | .exc _ => s.pins.vddaSd
  | .line _ => s.pins.vddaAcq && s.pins.vddSw
  | .twm | .sealA | .sealB => s.pins.vddAo
  | b => if b.dom = 0 then s.pins.vddioH else s.pins.vddioS

/-- Whether a ball's domain is in reset. -/
def State.domHeld (s : State) (b : Ball) : Bool := if b.dom = 0 then s.pins.heldH else if b.dom = 1 then s.pins.heldS else s.pins.heldAo

/-- The state of a ball while its domain is in reset, and before its port is configured. -/
def Ball.inReset : Ball → Level
  | .cspSck 4 | .cspSs 4 _ => .hiZ
  | .txg _ | .cspSck _ | .rmii | .sealA => .low
  | .exc _ => .zero
  | .cspSs _ _ => .high
  | .twScl _ | .twSda _ | .hostAlert | .twm => .released
  | _ => .hiZ

/-- The state of a ball of a running domain: as its function has it. -/
def State.ballNow (s : State) : Ball → Level
  | .txg n => if s.txg n then .high else .low
  | .ax n => if (List.range 16).any fun l => s.on (F.ACQ.LANE_STAT.CONN l) && s.get (F.ACQ.LANE_STAT.CH l) == n then .busy else .hiZ
  | .sd n => if s.on (F.SDC.STATUS.PWR n) then .busy else .hiZ
  | .exc k => if s.excOn k then .busy else .zero
  | .twScl n => if !(s.twp n).due.isEmpty then .low else if (s.twp n).run then .busy else .released
  | .twSda n => if (s.twp n).run then .busy else .released
  | .cspSck 4 | .cspSs 4 _ => .hiZ
  | .cspD 4 _ => if s.cspx.sel then .busy else .hiZ
  | .cspSck n => if s.on (F.CSP.STATUS.BUSY n) then .busy else if s.on (F.CSP.CFG.ROLE n) then .hiZ else if s.on (F.CSP.CFG.MODE3 n) then .high else .low
  | .cspSs n k =>
    if s.on (F.CSP.CFG.ROLE n) || (s.on (F.CSP.CFG.MULTI n) && k == 0) then .hiZ
    else if s.on (F.CSP.STATUS.BUSY n) && s.get (F.CSP.FRAME.SS n) == k then .busy
    else if n == 5 && k == 0 && s.cspx.held.isSome then .low else .high
  | .cspD n _ => if s.on (F.CSP.STATUS.BUSY n) then .busy else .hiZ
  | .line _ => .busy
  | .rmii => if s.mac.any fun (e : Nat × Mac) => e.1 == 2 && e.2.txOn then .busy else .low
  | .hostAlert => if s.alerting then .low else .released
  | .twm => if s.twm.active then .busy else .released
  | .sealA => if s.sealc.sealA then .high else .low
  | _ => .hiZ

/-- Whether R56 keeps a ball's level and direction in FROST. -/
def Ball.kept : Ball → Bool
  | .twScl _ | .twSda _ | .cspSck _ | .cspSs _ _ | .cspD _ _ | .gpioH _ | .gpioS _ => true
  | _ => false

/-- The level of a ball (R44, R56): high-impedance in an unpowered bank, the reset state in a reset of its domain; in FROST the latched state where it is kept, else the state that the table gives, which is that of a reset; the
always-on balls stay active. In WINTER a gated domain drives what it drove. TDO is not driven outside a scan. -/
def State.ball (s : State) (b : Ball) : Level :=
  if !s.bankOn b then .hiZ
  else if s.domHeld b then b.inReset
  else if s.season.frost && b.dom != 2 then (if b.kept then (match s.kept.find? fun e => e.1 == b with
    | some e => e.2
    | none => b.inReset) else b.inReset)
  else s.ballNow b

/-- The kept balls. -/
def keptBalls : List Ball :=
  ((List.range 8).flatMap fun n => [Ball.twScl n, Ball.twSda n]) ++ ((List.range 6).flatMap fun n => Ball.cspSck n :: ((List.range 4).map (Ball.cspSs n) ++ (List.range 8).map (Ball.cspD n))) ++
    (List.range 24).map Ball.gpioH ++ (List.range 24).map Ball.gpioS

/-- FROST entry latches the kept pads (R56). -/
def State.padsKeep (s : State) : State := { s with kept := keptBalls.map fun b => (b, s.ball b) }

end Sys2Proof.Machine
end

