-- ==== Sys2Proof/Machine/Season.lean ====
section
/-! DEFINITION. Power states and clocks (R69, R106, R297, R298, R346 to R362): sleeping, waking, retention and clock failures. -/

namespace Sys2Proof.Machine

/-! Conditions. -/

/-- A core that runs does not wait for interrupt. -/
def State.coreAwake (s : State) (t : Nat) : Bool := s.coreRuns t && !s.on (F.IC.TSTAT.WFI 1 t)

/-- A MAC, a CSP or a Sapwood DMA transfer is in progress (R348). -/
def State.sapwoodBusy (s : State) : Bool := [2, 3, 5].any (fun n => s.on (F.CSP.STATUS.BUSY n)) || s.cspx.sel || [4, 5, 6, 7].any (fun n => s.on (F.TW.STATUS.BUSY n)) || s.mac.any fun (e : Nat × Mac) => e.2.txOn || (e.2.rxOn && !e.2.fifo.isEmpty)

/-- Some source of controller c that targets AOC is pending (R440). -/
def State.aocPending (s : State) (c : Nat) : Bool := (List.range 256).any fun n => s.on (F.IC.SRC_CFG.EN_AOC c n) && s.on (pendF c n)

/-- Sapwood's cores wait for interrupt (R348); a core whose line is raised does not wait. -/
def State.coresWait (s : State) : State :=
  let s := if s.coreRuns 0 then s.set (F.IC.TSTAT.WFI 1 0) 1 else s
  (if s.coreRuns 1 then s.set (F.IC.TSTAT.WFI 1 1) 1 else s).icUpdate 1

/-- Both Sapwood cores wait for interrupt; Sapwood is gated where R348 allows it. -/
def execSapwoodGate (s : State) : Host.Outcome State Fault Refusal :=
  .next (if s.pins.heldS || s.pins.heldAo || s.season.gated || !s.coreRuns 0 then s
    else
      let s := s.coresWait
      if s.on F.SEASON.REQ.SLEEP && !s.coreAwake 0 && !s.coreAwake 1 && !s.sapwoodBusy && !s.aocPending 1 then ({ s with season := { s.season with gated := true }, tmr := { s.tmr with gateAt := s.time.plls }, cspx := { s.cspx with held := none } }).pllsIdle.seasonUpdate else s)

/-- Sapwood is gated, or has no supply or is in reset (R346). -/
def State.sapwoodOff (s : State) : Bool := s.season.gated || s.pins.heldS || !s.pins.vddSw

/-- No region, lane or echo engine is thawed and no PLL is needed within its break-even time (R349, R334). -/
def State.unitsIdle (s : State) : Bool :=
  (List.range 8).all (fun r => s.regionGated r && !s.unitBusy r 100000) && !(s.spn.thawed.any fun u => decide (8 ≤ u)) && (List.range 16).all (fun l => !s.on (F.ACQ.LANE_STAT.PWR l)) &&
    !s.unitBusy 33 100000

/-- HSC has nothing to do (R349): no flash operation, no queued entry, no record to write, no command checked or running. -/
def State.hscIdle (s : State) : Bool :=
  !([0, 1, 2, 3].any fun n => s.on (F.TW.STATUS.BUSY n)) && !([0, 1].any fun n => s.on (F.CSP.STATUS.BUSY n)) && !s.hflash.erasing && s.audit.queue.isEmpty && s.recs.snaps.isEmpty && s.gw.check.isNone && !s.audit.ctlPending && s.gw.long.isNone && s.gw.load.isNone && s.cal.running.isNone && s.spn.trig.isNone &&
    s.time.step.isNone

/-- Heartwood is in safe state with no image (R65). -/
def State.noImageSafe (s : State) : Bool := s.boot.noImage && s.on F.FLT.STATUS.SAFE && s.get F.FLT.STATUS.CAUSE == 4

/-- The conditions of R349 but for the carrier of time. A Sapwood without supply or in reset is taken as gated (DEDUCED from R346, log entry 181). -/
def State.winterOk (s : State) : Bool :=
  s.sapwoodOff && s.fabric.chains.all (fun (e : Nat × Chain) => s.chainEcho e.1 || !s.on (F.CHAIN.STATUS.RUN e.1)) && s.unitsIdle && s.hscIdle && !s.pins.heldH && s.boot.cls == 0 && (!s.on F.FLT.STATUS.SAFE || s.noImageSafe)

/-! The Spindle alarm (R354). -/

/-- Task k's next job as R354 passes it: its admission instant with every unit that is gated now at its full lead and `extra` ns more. -/
def State.planOf (s : State) (extra k : Nat) : Nat × (Nat × Nat) := (k, (s.nextRelease k, s.needAt k (s.nextRelease k) - (s.leadOf k + extra + 10000) * 65536))

/-- The earliest of a list of plans. -/
def firstPlan : List (Nat × (Nat × Nat)) → Option (Nat × (Nat × Nat))
  | [] => none
  | p :: ps => match firstPlan ps with
    | some q => if p.2.2 ≤ q.2.2 then some p else some q
    | none => some p

/-- Set AOC's alarm for the next job. -/
def State.alarmSet (s : State) (extra : Nat) : State :=
  let p := if s.on F.SPN.STATUS.RUN && !s.spn.held then firstPlan ((List.range s.ntask).map (s.planOf extra)) else none
  { s with season := { s.season with plan := p, alarm := p.map fun (e : Nat × (Nat × Nat)) => e.2.2, waking := false, late := false } }

/-! Going to sleep. -/

/-- The sleep counter carries time and every PLL stops (R298, R349). -/
def State.pllsOff (s : State) : State :=
  let s := ((s.set F.CLK.STATUS.SYS_LOCK 0).set F.CLK.STATUS.ACQ_LOCK 0).set F.CLK.STATUS.AUX_LOCK 0
  ({ s with time := { s.time with fast := false, sys := false } }).set F.TIME.STATUS.SRC 1

/-- Moderation timers and storm windows start afresh after a sleep (R445). -/
def Ic.afresh (x : Ic) : Ic := { x with storm := [], timer := [], expired := [] }

/-- AUTUMN to WINTER (R349). -/
def execWinterEntry (s : State) : Host.Outcome State Fault Refusal :=
  .next (if s.time.fast && s.winterOk then
      let s := (s.pllsOff.set (F.IC.TSTAT.WFI 0 0) 1).alarmSet 0
      ({ s with hic := s.hic.afresh, sic := s.sic.afresh }).seasonUpdate
    else s)

/-- Spindle's next need lies at least T_FROST ahead (R350). -/
def State.needFar (s : State) : Bool :=
  let x := s.get F.SPN.FLOOR.VALUE - 20000 + 2000
  (List.range s.ntask).all fun k =>
    let gap := (s.needAt k (s.nextRelease k) - s.time.t) / 65536
    decide (5004700000 ≤ gap) && decide (x * 10000000 + 84600000 ≤ gap * 18)

/-- The conditions of R350. -/
def State.frostOk (s : State) : Bool :=
  s.on F.SEASON.REQ.FROST_OK && !s.season.frost && s.on F.CLK.STATUS.HFXO_ON &&
    (if s.noImageSafe then s.sapwoodOff
     else s.winterOk && !s.pulseNamed && !s.on F.SPN.STATUS.PFAIL && decide (s.eFloor + 100000000 * fpOne ≤ s.reserve) && s.needFar)

/-- What follows the commit of a power-fail trigger that meets a FROST entry (R327 steps 4 and 5, R352). -/
def State.frostTrigger (s : State) (us mv : Nat) : State :=
  let s := s.auditNow 2 0xFF (leBytes 2 mv ++ [1, 0] ++ leBytes 4 us)
  let s := ((s.auditCtlCopy 0).intervalNote 8).set F.SPN.STATUS.PFAIL 1
  { s with spn := { s.spn with held := true, trig := none } }

/-- Steps 1 to 4 of R351. -/
def State.frostEnter (s : State) (trig us mv : Nat) : State :=
  let s := if trig = 1 then s.powerFailStep us mv false
    else
      let s := if s.slot = 0 then s else s.totCommit 3
      if trig = 2 then s.frostTrigger us mv else s
  let cut := s.hflash.erase.isSome
  let s := s.padsKeep.pulseRx false (s.pulse.map fun (e : Nat × Pulse) => e.1)
  let s := (s.pllsOff.set F.CLK.STATUS.HFXO_ON 0).sat F.SEASON.COUNT.FROSTS 1
  let s := ({ s with spn := { s.spn with cold := List.range 8 } }).alarmSet 1200000
  ({ s with season := { s.season with frost := true, gated := true, retIntact := !cut && s.slot != 0 } }).seasonUpdate

/-- FROST entry (R350 to R352): `slept` is what passed since WINTER began; `trig` is 0 without a gauge trigger, 1 for one before step 2, 2 for one during
step 2; `us` and `mv` are the duration and VSTORE that POWER_FAIL reports. -/
def execFrostEntry (slept : Asleep) (trig durUs mv : Nat) (s : State) : Host.Outcome State Fault Refusal :=
  guardUnit (Instr.wf (.frostEntry slept trig durUs mv)) (
    let t := s.passed slept
    if t.frostOk then t.frostEnter trig durUs mv else s)

/-- A wake: SEASON.STATE.LAST and WAKESRC (R353). -/
def State.wakeMark (s : State) (src : Nat) : State := (s.set F.SEASON.STATE.LAST (s.get F.SEASON.STATE.SEASON)).set F.SEASON.WAKESRC.SRC (2 ^ src)

/-- In FROST AOC postpones every alarm while the reserve is below E_floor + 100 mJ (R359). -/
def State.alarmsWait (s : State) : Bool := s.season.frost && decide (s.reserve < s.eFloor + 100000000 * fpOne)

/-- AOC's alarm comes (R354, R359): at the last XTAL32 edge at or before ta, `lag` (2^-16 ns) before it. In FROST it is postponed while the reserve is too low. -/
def execSpindleAlarm (lag : Nat) (s : State) : Host.Outcome State Fault Refusal :=
  .next (match s.season.alarm with
    | some ta =>
      if s.time.fast || decide (s.sleepPeriod ≤ lag) then s
      else
        let s := s.sleepTo (ta - lag)
        if s.alarmsWait then { s with season := { s.season with late := true } }
        else ({ s with season := { s.season with alarm := none, waking := true } }).wakeMark 0
    | none => s)

/-! Waking. -/

/-- XTAL32 is used again from a THAW after it has run valid for 1 s (R362). -/
def State.xtalBack (s : State) (x32 : Bool) : State :=
  if s.season.lfrc && x32 then ({ s with season := { s.season with lfrc := false } }).set F.CLK.STATUS.X32_OK 1 else s

/-- Time passes from the sleep counter to the fast time base (R298, R300, R303): instants and matches passed meanwhile are not fired. `slept` is what the sleep counter carried. -/
def State.timeBack (s : State) (slept : Asleep) : State :=
  let t0 := s.time.t
  let s := s.asleep slept
  let t1 := s.time.t
  let s := (s.missedIn t0 t1 (List.range 32)).chainsShift (edgeAfter t0) (edgeAfter t1)
  let s := { s with time := { s.time with fast := true, sys := true, cycle := max s.time.cycle (s.cycleAt t1) } }
  ((s.set F.TIME.STATUS.SRC 0).gridHere).settle

/-- HSC resumes (R103, R106, R355, R362). -/
def State.hscResume (s : State) : State := (({ s with wdt := { s.wdt with hscAt := s.time.t } }.set (F.IC.TSTAT.WFI 0 0) 0).sealCatchUp).x32Log

/-- After a wake: the plan of R354 holds for the job that the alarm woke (`due`), unless a postponed alarm let its instant pass, when it releases nothing (R359). A job whose units are not all ready at its need instant is
abandoned (R347). -/
def State.lateWake (s : State) (due : Bool) : State := match s.season.plan with
  | some (k, n, _) =>
    if !due || (s.season.late && decide (n * s.cycleT ≤ s.time.t)) then { s with season := { s.season with plan := none } }
    else if s.needAt k n < s.time.t + s.leadOf k * 65536 && alFind s.spn.decided k != some n then
      let s := (s.set F.SEASON.STATE.LATE_WAKE 1).raise F.CLK.FAIL.LATE_WAKE 0 10
      ({ s with spn := { s.spn with decided := alSet s.spn.decided k n }, season := { s.season with plan := none } }).releaseLost k n 5
    else s
  | none => s

/-- The seal loop asks for a wake: an opening is latched, or the filtered loop differs from the state (R106, R353). -/
def State.sealWakes (s : State) : Bool := s.sealc.latched.isSome || (s.sealc.verdict && s.on F.SEAL.STATUS.LOOP != s.on F.SEAL.STATUS.SEALED)

/-- The mask bit of SEASON.WAKE for a Sapwood source of R353. -/
def State.wakeMask (s : State) (src : Nat) : Bool :=
  if src = 5 then s.on F.SEASON.WAKE.TWM || s.twm.wakeReq else if src = 6 then s.on F.SEASON.WAKE.CSP4
  else if src = 7 then [(F.SEASON.REQ.LINK0, 0), (F.SEASON.REQ.LINK1, 1), (F.SEASON.REQ.LINK2, 2)].any fun (e : Fld × Nat) => s.on e.1 && bitsOf (s.get F.SEASON.WAKE.ETH) e.2 e.2 == 1
  else if src = 8 then s.on F.SEASON.WAKE.GPIO else if src = 9 then s.on F.SEASON.WAKE.RING else if src = 10 then s.on F.SEASON.WAKE.ALARM else true

/-- Whether a source wakes the chip now (R353): the alarm, the seal loop, a gauge trigger, a pending source with AOC target, or a Sapwood source whose event has come or comes now and is enabled. -/
def State.wakes (s : State) (src : Nat) : Bool :=
  if src = 0 then s.season.waking
  else if src = 1 then s.sealWakes
  else if src = 2 then s.spn.trig.isSome && !s.season.frost
  else if src = 3 then s.on (F.IC.CTRL.EN 0) && s.aocPending 0
  else if src = 10 ∧ s.alarmsWait = true then false
  else s.season.want.contains src || (if src = 4 then s.on (F.IC.CTRL.EN 1) && s.aocPending 1 else s.wakeMask src)

/-- The sources of R353 that a THAW by `src` serves, as the bits of WAKESRC: that source and the events that wait. -/
def State.wakeBits (s : State) (src : Nat) : Nat := (s.season.want.filter (· != src)).foldl (fun (m : Nat) b => m + 2 ^ b) (2 ^ src)

/-- A THAW by `src` wakes Sapwood too: one of its sources calls, and Sapwood is gated with its supply and out of reset. -/
def State.wakesSap (s : State) (src : Nat) : Bool := (decide (4 ≤ src) || !s.season.want.isEmpty) && s.season.gated && !s.pins.heldS

/-- The marks of a wake by a source: the alarm has made its own. -/
def State.wakeBy (s : State) (src : Nat) : State :=
  let t : State := { s with season := { s.season with want := [] } }
  if s.wakesSap src then t.wakeNow (s.wakeBits src) else if 0 < src ∧ src < 4 then t.wakeMark src else t

/-- A THAW for a job: calibrations that fell due asleep may start at the first instant that fires after it (R368). -/
def State.calWoken (s : State) : State := { s with cal := { s.cal with queue := s.cal.queue.map fun (j : CalJob) => if j.slept then { j with slept := false, after := max j.after s.time.cycle } else j } }

/-- The units that a wake thaws (R353, R358): those of the alarm's job; for a gauge trigger every region that holds a used totalizer register. -/
def State.wakeUnits (s : State) (src : Nat) : List Nat :=
  if src = 0 then (match s.season.plan with
    | some (k, _, _) => if s.season.waking then s.unitsOf k else []
    | none => [])
  else if src = 2 then s.regions.filter fun r => !(s.totsUsed r).isEmpty
  else []

/-- PLLs that units in use need lock again (R361). -/
def State.pllsNeeded (s : State) : State :=
  let s := if s.acqUsed then s.set F.CLK.STATUS.ACQ_LOCK 1 else s
  if s.auxUsed then s.set F.CLK.STATUS.AUX_LOCK 1 else s

/-- W1 to W4 of R355. -/
def State.thawWinter (s : State) (src : Nat) (slept : Asleep) (x32 : Bool) : State :=
  let due := s.season.waking || (s.on F.FLT.STATUS.SAFE && s.get F.FLT.STATUS.CAUSE == 2)
  let s := (((s.wakeBy src).set F.CLK.STATUS.SYS_LOCK 1).xtalBack x32).timeBack slept
  let s := (s.pllsNeeded.hscResume).lateWake due
  let s := if due then s.calWoken else s
  let us := s.wakeUnits src
  ({ s with season := { s.season with waking := false, alarm := none } }).thaws us

/-- Waking from WINTER, or the restart of Heartwood's clocks after the loss of a PLL (R355, R392): `src` is the source in the order of R353, `slept` what the sleep counter and HFXO counted up to W2 since time was last
shown; `x32` says XTAL32 has run valid for 1 s. -/
def execThawWinter (src : Nat) (slept : Asleep) (x32 : Bool) (s : State) : Host.Outcome State Fault Refusal :=
  guardUnit (Instr.wf (.thawWinter src slept x32)) (
    if s.time.fast || s.season.frost || !s.on F.CLK.STATUS.HFXO_ON || s.pins.heldH || s.boot.cls != 0 then s
    else if s.wakes src then s.thawWinter src slept x32
    else if s.on F.FLT.STATUS.SAFE && s.get F.FLT.STATUS.CAUSE == 2 then s.thawWinter 0 slept x32
    else s)

/-! Class F (R7, R59, R69, R356). -/

/-- The registers of an interrupt controller, by their offset in its slot, that R445 saves: SRC_CFGn, PEND, ACTIVE, STORM, CTRL, STORMCFG and MODt. -/
def icKept (off : Nat) : Bool := decide (off < 0x4C0) || off == 0x500 || off == 0x504 || off == 0x608 || off == 0x648

/-- Fields that R356 lists and a class does not keep. -/
def listedF (a : Nat) (f : FieldSpec) : Bool :=
  (decide (0x140000000 ≤ a) && decide (a < 0x140000050)) ||
  (decide (0x40100000 ≤ a) && icKept (a - 0x40100000)) || (decide (0x140001000 ≤ a) && icKept (a - 0x140001000)) ||
  (decide (0x40040100 ≤ a) && decide (a < 0x40040500) && a % 0x20 != 0x1C) ||
  a == 0x40050020 || (a == 0x40050000 && decide (f.hi < 6)) || (decide (0x40050400 ≤ a) && decide (a < 0x40050800) && decide (2 ≤ f.lo)) ||
  a == 0x40000004 || (decide (0x40180080 ≤ a) && decide (a < 0x40180100)) || (decide (0x40090100 ≤ a) && decide (a < 0x40090180))

/-- Kept at class F: what the always-on domain or retention holds (R7, R356). -/
def keepsF (a : Nat) (f : FieldSpec) : Bool := listedF a f || (!sapFlash a && f.keepH && f.keepS)

/-- The regions left isolated until class H or P (R385). -/
def State.heldRegionsF (s : State) : List Nat := (List.range 8).filter fun r => s.get (F.FLT.REGION_STAT.STATE r) == 3

/-- Show the regions that stay isolated. -/
def State.regionsStay (s : State) : List Nat → State
  | [] => s
  | r :: rs => ((s.set (F.FLT.REGION_STAT.STATE r) 3).isoShow r).regionsStay rs

/-- Class F reset of Heartwood and Sapwood (R7, R59): both were powered down; what R356 lists is restored. -/
def State.resetF (s : State) : State :=
  let out := s.heldRegionsF
  let spn := { State.reset.spn with codes := s.spn.codes, held := s.spn.held, resume := s.spn.resume, cold := List.range 8 }
  let t := s.clearSapwood.clearHeartwood
  let t : State :=
    { t with boot := s.boot, audit := s.audit, hic := s.hic.afresh, sic := s.sic.afresh, spn := spn, time := { s.time with step := none, fast := false }, cal := { t.cal with queue := s.cal.queue.filter fun (j : CalJob) => j.slept },
             season := { s.season with gated := true, frost := false } }
  let t := { t with regs := regsClass keepsF t.regs }
  let t := (((t.relock 0).relock 1).set (F.IC.TSTAT.WFI 0 0) 0)
  t.regionsStay out

/-- Pairs as new with their totals from the last commit (R252). -/
def State.loadTots (s : State) (c : Option Commit) : List Nat → State
  | [] => s
  | r :: rs => ((s.setPair r Pair.fresh).restoreTots c r (s.totsUsed r)).loadTots c rs

/-- What Spindle resumes with after FROST (R69, R252, R356): the totals, and everything of the fabric that belongs to no region, but for the comparators and the settings that retention holds. Each region's fabric is
loaded when Spindle first releases the region. -/
def State.reloadF (s : State) : State :=
  let c := s.validCommit
  let s := ((s.loadTots c s.regions).settingsLoad).pulseLoad
  let s := ((s.loadHscfw).loadTemplates).loadGains (List.range s.nshot)
  let s := { s with echo := State.reset.echo }
  let s := (s.loadGuards s.streams).setB F.SEASON.STATE.FROST_BLOCK s.pulseNamed
  let s := if c.isNone then s.fault 0x61 0xFF 0xFF [] else s
  let s := s.set F.SPN.FLOOR.VALUE (24000 + 30 * s.usedAll.length)
  let s := { s.calLoad with flt := { s.flt with interval := s.intervalNum } }
  ((s.snapsDue c).set F.SPN.STATUS.RUN 1).commitAhead

/-- The seal registers as the stored state and the audit trail give them (R103, R123, R554). -/
def State.sealShow (s : State) : State :=
  let s := (s.setB F.SEAL.STATUS.SEALED s.sealc.stSealed).set F.SEAL.COUNTER.COUNT s.sealc.stCount
  (s.set F.SEAL.UNLOGGED.COUNT s.audit.ctlUnlogged).set F.SEAL.STATUS.LEVEL (auditLevelOf s.audit.held.length)

/-- F1 to F6 of R355. An integrity word that is not intact makes Heartwood repeat its start from step 3, as class F (R69, R412). -/
def State.thawFrost (s : State) (src : Nat) (slept : Asleep) (intact x32 : Bool) : State :=
  let ok := intact && s.season.retIntact && !s.badIn 0x1400E000 0x2000
  let due := s.season.waking
  let sap := (decide (4 ≤ src) || !s.season.want.isEmpty) && !s.pins.heldS
  let bits := s.wakeBits src
  let s := (s.wakeMark src).resetF
  let s := { s with twm := { s.twm with wakeReq := false } }
  let s := ((s.set F.CLK.STATUS.HFXO_ON 1).set F.CLK.STATUS.SYS_LOCK 1).xtalBack x32
  let s := (s.timeBack slept).syncLost
  let s := s.sealShow
  let s :=
    if ok then
      let s := (s.reloadF.hscResume).lateWake due
      let s := if due then s.calWoken else s
      let s := { s with spn := { s.spn with nSec := s.sec, eSec := s.reserve } }
      s.thaws (s.wakeUnits src)
    else ({ s with boot := { s.boot with cls := 3 } }).setW F.FLT.BOOT_STATUS.ALL.addr 0
  let s := { s with season := { s.season with waking := false, alarm := none, want := [] }, kept := [] }
  let s := if sap then (s.wakeNow bits).set F.SEASON.STATE.LAST 3 else s
  ((s.icUpdate 0).icUpdate 1).seasonUpdate

/-- Waking from FROST (R355): `slept` is what the sleep counter counted since FROST was entered; `intact` says the integrity word reads intact; `x32` as in THAW_WINTER. -/
def execThawFrost (src : Nat) (slept : Asleep) (intact x32 : Bool) (s : State) : Host.Outcome State Fault Refusal :=
  guardUnit (Instr.wf (.thawFrost src slept intact x32)) (if s.season.frost && s.wakes src && !s.pins.heldH then s.thawFrost src slept intact x32 else s)

/-- SEASON.ALARM is reached (R353, R447): the Heartwood second whose low 32 bits it names. -/
def execSeasonAlarm (s : State) : Host.Outcome State Fault Refusal :=
  .next (
    let d := (s.get F.SEASON.ALARM.SEC + 2 ^ 32 - s.sec % 2 ^ 32) % 2 ^ 32
    let t := (s.sec + d) * secT
    let s := if s.time.fast then (s.advanceTo t).settle else s.sleepTo t
    let s := s.icEdge 1 26
    if s.on F.SEASON.WAKE.ALARM then s.wakeSapwood 10 else s)

/-! Clock failures (R362). -/

/-- XTAL32 fails: the sleep counter and the seal pattern move to LFRC. -/
def execXtal32Fail (s : State) : Host.Outcome State Fault Refusal :=
  .next (if s.season.lfrc then s
    else
      let s := (s.raise F.CLK.FAIL.X32_FAIL 0 10).set F.CLK.STATUS.X32_OK 0
      let s := { s with season := { s.season with lfrc := true, x32Due := true } }
      if s.hscRuns then s.x32Log else s)

/-- HFRC fails: class P reset (R59). -/
def execHfrcFail (s : State) : Host.Outcome State Fault Refusal := .next s.resetP.holds

/-- Running tasks stop and their releases are lost when Heartwood's clocks stop (R347, R392); a commit past its commit point is completed (R244). -/
def State.clockTasks (s : State) : List Nat → State
  | [] => s
  | r :: rs => (match (s.pair r).task with
      | some k => if (s.pair r).log.isSome then (((s.logApply r).pairStop r).jobEnd k) else ((s.pairStop r).jobEnd k).releaseLost k (s.pair r).cycle 5
      | none => s).clockTasks rs

/-- Loss of a clock (R28, R392): the FAULT entry, safe state with cause 0b010, and time carried by the sleep counter. -/
def State.clockLoss (s : State) (clock : Nat) : State :=
  let s := s.fault 0x51 0xFF 0xFF (leBytes 1 clock ++ List.replicate 7 0)
  let s := s.clockTasks (List.range 8)
  let s := ({ s with time := { s.time with fast := false } }).set F.TIME.STATUS.SRC 1
  (s.enterSafe 2).seasonUpdate

/-- HFXO fails (R362). -/
def execHfxoFail (s : State) : Host.Outcome State Fault Refusal :=
  .next (if s.on F.CLK.STATUS.HFXO_ON && !s.pins.heldAo then
      let s := ((s.raise F.CLK.FAIL.HFXO_FAIL 0 10).set F.CLK.STATUS.HFXO_ON 0).pllsOff
      s.clockLoss 2
    else s)

/-- AOC tries HFXO again, once per second (R362): `ok` says it starts; a successful restart is a THAW. -/
def execHfxoRestart (ok : Bool) (slept : Asleep) (x32 : Bool) (s : State) : Host.Outcome State Fault Refusal :=
  .next (if ok && !s.on F.CLK.STATUS.HFXO_ON && !s.season.frost && !s.time.fast && !s.pins.heldH && s.boot.cls == 0 then
      (s.set F.CLK.STATUS.HFXO_ON 1).thawWinter 0 slept x32
    else s)

/-- LOCK of a PLL in CLK.STATUS: 0 PLL_SYS, 1 PLL_ACQ, 2 PLL_AUX. -/
def pllLock (p : Nat) : Fld := if p = 0 then F.CLK.STATUS.SYS_LOCK else if p = 1 then F.CLK.STATUS.ACQ_LOCK else F.CLK.STATUS.AUX_LOCK
/-- The UNLOCK flag of a PLL. -/
def pllFlag (p : Nat) : Fld := if p = 0 then F.CLK.FAIL.SYS_UNLOCK else if p = 1 then F.CLK.FAIL.ACQ_UNLOCK else F.CLK.FAIL.AUX_UNLOCK

/-- Whether a running unit uses a PLL (R360, R362). -/
def State.pllUsed (s : State) (p : Nat) : Bool :=
  if p = 0 then true
  else if p = 1 then s.acqUsed
  else s.auxUsed

/-- A PLL loses lock, or (`freq`) leaves its window (R362): its output stops; in use, this is loss of a clock. -/
def execPllUnlock (pll : Nat) (freq : Bool) (s : State) : Host.Outcome State Fault Refusal :=
  guardUnit (Instr.wf (.pllUnlock pll freq)) (
    if s.on (pllLock pll) then
      let s := (s.raise (if freq then F.CLK.FAIL.FREQ else pllFlag pll) 0 10).set (pllLock pll) 0
      let s := if pll = 0 then { s with time := { s.time with sys := false } } else s
      if s.pllUsed pll then s.clockLoss (3 + pll) else s.seasonUpdate
    else s)

end Sys2Proof.Machine
end

