-- ==== Sys2Proof/Machine/Tally.lean ====
section
/-! DEFINITION. The tally instruction set (R253 to R277), TASK_DISPATCH, TEND and the region watchdog: one meaning per command. An instruction command carries the pair and the decoded fields of the word
at that pair's PC; on a pair that runs no task it does nothing. -/

namespace Sys2Proof.Machine

/-! Integer instructions (R259). -/

/-- ADD (R259): Id = Ia + Ib. -/
def execAdd (p rd ra rb : Nat) (s : State) : Host.Outcome State Fault Refusal :=
  s.tally p (.add p rd ra rb) (s.intOp p rd fun x => x.ir ra + x.ir rb)

/-- SUB (R259): Id = Ia - Ib. -/
def execSub (p rd ra rb : Nat) (s : State) : Host.Outcome State Fault Refusal :=
  s.tally p (.sub p rd ra rb) (s.intOp p rd fun x => x.ir ra - x.ir rb)

/-- AND (R259): Bitwise AND. -/
def execAnd (p rd ra rb : Nat) (s : State) : Host.Outcome State Fault Refusal :=
  s.tally p (.and p rd ra rb) (s.intOp p rd fun x => x.ir ra &&& x.ir rb)

/-- OR (R259): Bitwise OR. -/
def execOr (p rd ra rb : Nat) (s : State) : Host.Outcome State Fault Refusal :=
  s.tally p (.or p rd ra rb) (s.intOp p rd fun x => x.ir ra ||| x.ir rb)

/-- XOR (R259): Bitwise exclusive OR. -/
def execXor (p rd ra rb : Nat) (s : State) : Host.Outcome State Fault Refusal :=
  s.tally p (.xor p rd ra rb) (s.intOp p rd fun x => x.ir ra ^^^ x.ir rb)

/-- SLL (R259): Ia shifted left by Ib[4:0]. -/
def execSll (p rd ra rb : Nat) (s : State) : Host.Outcome State Fault Refusal :=
  s.tally p (.sll p rd ra rb) (s.intOp p rd fun x => x.ir ra <<< ((x.ir rb).toNat % 32))

/-- SRL (R259): Ia shifted right logically by Ib[4:0]. -/
def execSrl (p rd ra rb : Nat) (s : State) : Host.Outcome State Fault Refusal :=
  s.tally p (.srl p rd ra rb) (s.intOp p rd fun x => x.ir ra >>> ((x.ir rb).toNat % 32))

/-- SRA (R259): Ia shifted right arithmetically by Ib[4:0]. -/
def execSra (p rd ra rb : Nat) (s : State) : Host.Outcome State Fault Refusal :=
  s.tally p (.sra p rd ra rb) (s.intOp p rd fun x => (x.ir ra).sshiftRight ((x.ir rb).toNat % 32))

/-- MUL (R259): Low 32 bits of Ia * Ib. -/
def execMul (p rd ra rb : Nat) (s : State) : Host.Outcome State Fault Refusal :=
  s.tally p (.mul p rd ra rb) (s.intOp p rd fun x => x.ir ra * x.ir rb)

/-- ADDI (R259): Id = Ia + sext(IMM). -/
def execAddi (p rd ra : Nat) (imm : BitVec 16) (s : State) : Host.Outcome State Fault Refusal :=
  s.tally p (.addi p rd ra imm) (s.intOp p rd fun x => x.ir ra + imm.signExtend 32)

/-- ANDI (R259): Id = Ia AND zext(IMM). -/
def execAndi (p rd ra : Nat) (imm : BitVec 16) (s : State) : Host.Outcome State Fault Refusal :=
  s.tally p (.andi p rd ra imm) (s.intOp p rd fun x => x.ir ra &&& imm.zeroExtend 32)

/-- ORI (R259): Id = Ia OR zext(IMM). -/
def execOri (p rd ra : Nat) (imm : BitVec 16) (s : State) : Host.Outcome State Fault Refusal :=
  s.tally p (.ori p rd ra imm) (s.intOp p rd fun x => x.ir ra ||| imm.zeroExtend 32)

/-- LUI (R259): Id = IMM * 2^16. -/
def execLui (p rd : Nat) (imm : BitVec 16) (s : State) : Host.Outcome State Fault Refusal :=
  s.tally p (.lui p rd imm) (s.intOp p rd fun _ => imm.zeroExtend 32 <<< 16)

/-- LI (R259): Id = sext(IMM). -/
def execLi (p rd : Nat) (imm : BitVec 16) (s : State) : Host.Outcome State Fault Refusal :=
  s.tally p (.li p rd imm) (s.intOp p rd fun _ => imm.signExtend 32)

/-! MQ arithmetic (R260). -/

/-- ADD.C (R260, R223). -/
def execAddC (p md ma mb : Nat) (s : State) : Host.Outcome State Fault Refusal :=
  s.tally p (.addC p md ma mb) (s.mqOp p md 3 fun x => Mq.add false (x.mq ma) (x.mq mb))

/-- ADD.U (R260, R223). -/
def execAddU (p md ma mb : Nat) (s : State) : Host.Outcome State Fault Refusal :=
  s.tally p (.addU p md ma mb) (s.mqOp p md 6 fun x => Mq.add true (x.mq ma) (x.mq mb))

/-- SUB.C (R260, R223). -/
def execSubC (p md ma mb : Nat) (s : State) : Host.Outcome State Fault Refusal :=
  s.tally p (.subC p md ma mb) (s.mqOp p md 3 fun x => Mq.sub false (x.mq ma) (x.mq mb))

/-- SUB.U (R260, R223). -/
def execSubU (p md ma mb : Nat) (s : State) : Host.Outcome State Fault Refusal :=
  s.tally p (.subU p md ma mb) (s.mqOp p md 6 fun x => Mq.sub true (x.mq ma) (x.mq mb))

/-- MUL.C (R260, R223). -/
def execMulC (p md ma mb unit : Nat) (s : State) : Host.Outcome State Fault Refusal :=
  s.tally p (.mulC p md ma mb unit) (s.mqOp p md 4 fun x => Mq.mul false unit (x.mq ma) (x.mq mb))

/-- MUL.U (R260, R223). -/
def execMulU (p md ma mb unit : Nat) (s : State) : Host.Outcome State Fault Refusal :=
  s.tally p (.mulU p md ma mb unit) (s.mqOp p md 8 fun x => Mq.mul true unit (x.mq ma) (x.mq mb))

/-- DIV.C (R260, R223, R224). -/
def execDivC (p md ma mb unit : Nat) (s : State) : Host.Outcome State Fault Refusal :=
  s.tally p (.divC p md ma mb unit) (s.mqOp p md 24 fun x => Mq.div false unit (x.mq ma) (x.mq mb))

/-- DIV.U (R260, R223, R224). -/
def execDivU (p md ma mb unit : Nat) (s : State) : Host.Outcome State Fault Refusal :=
  s.tally p (.divU p md ma mb unit) (s.mqOp p md 28 fun x => Mq.div true unit (x.mq ma) (x.mq mb))

/-- SQRT (R260, R223, R224). -/
def execSqrt (p md ma unit : Nat) (s : State) : Host.Outcome State Fault Refusal :=
  s.tally p (.sqrt p md ma unit) (s.mqOp p md 24 fun x => Mq.sqrt unit (x.mq ma))

/-- NEG (R260). -/
def execNeg (p md ma : Nat) (s : State) : Host.Outcome State Fault Refusal :=
  s.tally p (.neg p md ma) (s.mqOp p md 2 fun x => Mq.neg (x.mq ma))

/-- ABS (R260). -/
def execAbs (p md ma : Nat) (s : State) : Host.Outcome State Fault Refusal :=
  s.tally p (.abs p md ma) (s.mqOp p md 2 fun x => Mq.abs (x.mq ma))

/-- MOV (R260). -/
def execMov (p md ma : Nat) (s : State) : Host.Outcome State Fault Refusal :=
  s.tally p (.mov p md ma) (s.mqOp p md 2 fun x => Mq.mov (x.mq ma))

/-- MIN (R260): Ma on a tie. -/
def execMin (p md ma mb : Nat) (s : State) : Host.Outcome State Fault Refusal :=
  s.tally p (.min p md ma mb) (s.mqOp p md 2 fun x => Mq.pick false (x.mq ma) (x.mq mb))

/-- MAX (R260): Ma on a tie. -/
def execMax (p md ma mb : Nat) (s : State) : Host.Outcome State Fault Refusal :=
  s.tally p (.max p md ma mb) (s.mqOp p md 2 fun x => Mq.pick true (x.mq ma) (x.mq mb))

/-- UWID (R260). -/
def execUwid (p md ma mb : Nat) (s : State) : Host.Outcome State Fault Refusal :=
  s.tally p (.uwid p md ma mb) (s.mqOp p md 3 fun x => Mq.uwid (x.mq ma) (x.mq mb))

/-- SCLI (R260): times Ib (signed) * 2^-SH, exact. -/
def execScli (p md ma ib sh : Nat) (s : State) : Host.Outcome State Fault Refusal :=
  s.tally p (.scli p md ma ib sh) (s.mqOp p md 4 fun x => Mq.scli (x.mq ma) (x.ir ib).toInt sh)

/-! Conversion, flags and parameters (R261 to R263). -/

/-- CVU (R261): unit conversion. -/
def execCvu (p md ma unit : Nat) (s : State) : Host.Outcome State Fault Refusal :=
  s.tally p (.cvu p md ma unit) (s.mqOp p md 6 fun x => Mq.cvu (x.mq ma) unit)

/-- CVT (R261): Ia (signed) * 2^-SH. -/
def execCvt (p md ia unit sh : Nat) (s : State) : Host.Outcome State Fault Refusal :=
  s.tally p (.cvt p md ia unit sh) (s.mqOp p md 2 fun x => Mq.cvt unit (x.ir ia).toInt sh)

/-- CVI (R261, R262): an integer, rounded and saturated, with no flags. -/
def execCvi (p id ma sh : Nat) (s : State) : Host.Outcome State Fault Refusal :=
  s.tally p (.cvi p id ma sh) (
    s.instr p 2 fun _ s => match Mq.cvi ((s.pair p).mq ma) sh with
      | some v => .ok ((s.pair p).setI id (BitVec.ofInt 32 v)) s
      | none => .trap 1)

/-- SETF (R261): flags ORed and QUAL raised. -/
def execSetf (p md ma mask qual : Nat) (s : State) : Host.Outcome State Fault Refusal :=
  s.tally p (.setf p md ma mask qual) (s.mqOp p md 2 fun x => Mq.setf (x.mq ma) mask qual)

/-- LDP (R261, R263): a parameter, exact. -/
def execLdp (p md param unit : Nat) (s : State) : Host.Outcome State Fault Refusal :=
  s.tally p (.ldp p md param unit) (
    s.instr p 8 fun _ s => (s.loadParam p param).bind fun v s => match Mq.cvt unit v 32 with
      | some a => .ok ((s.pair p).setMq md a) s
      | none => .trap 1)

/-! Region memory (R267 to R269). -/

/-- LD (R269): the word as it stands, with UNS under R255. -/
def execLd (p md : Nat) (nb : Bool) (base idx : Nat) (s : State) : Host.Outcome State Fault Refusal :=
  s.tally p (.ld p md nb base idx) (s.instr p 8 fun _ s => (s.load p ((s.pair p).offset nb base idx)).bind fun w s => .ok ((s.pair p).setM md w) s)

/-- Buffer a store (R237, R269). -/
def State.store (s : State) (p off : Nat) (w : W128) : Tr Pair :=
  let x := s.pair p
  if !s.offOk p off true then .trap 2
  else if 128 ≤ x.nstores then .trap 3
  else .ok { x with stores := alSet x.stores off w, nstores := x.nstores + 1 } s

/-- ST (R269): the word Ma is buffered for the offset. -/
def execSt (p ma : Nat) (nb : Bool) (base idx : Nat) (s : State) : Host.Outcome State Fault Refusal :=
  s.tally p (.st p ma nb base idx) (s.instr p 2 fun _ s => s.store p ((s.pair p).offset nb base idx) ((s.pair p).mr ma))

/-- LDL (R269): one lane of the word. -/
def execLdl (p id : Nat) (nb : Bool) (base idx lane : Nat) (s : State) : Host.Outcome State Fault Refusal :=
  s.tally p (.ldl p id nb base idx lane) (
    s.instr p 8 fun _ s => (s.load p ((s.pair p).offset nb base idx)).bind fun w s => .ok ((s.pair p).setI id (BitVec.ofNat 32 (w.toNat / 2 ^ (32 * lane)))) s)

/-! Totalizer access (R270). -/

/-- One accumulation (R227, R228): the pending TOT word and companion. -/
def State.accumulate (s : State) (p tn : Nat) (a : Mq) : Pair :=
  let x := s.pair p
  let t := totAdd (s.totNow p tn) (totCounts a.v)
  let c := cmpAdd (s.totUnit p tn) (Mq.ofWord (s.cmpNow p tn)) a (totInt t.1 - totInt (s.totNow p tn)) t.2
  { x with pend := alSet x.pend tn t.1, pendC := alSet x.pendC tn (Mq.uns x.isUns c).word }

/-- TACC (R270): Ma or -Ma into Tn and its companion of the release's bank, pending until commit. -/
def execTacc (p tn ma : Nat) (neg : Bool) (s : State) : Host.Outcome State Fault Refusal :=
  s.tally p (.tacc p tn ma neg) (
    s.instr p 4 fun k s =>
      if s.totMay p tn (s.taskStream k) then
        match Mq.taken neg ((s.pair p).mq ma) with
        | some a => if a.unit = s.totUnit p tn then .ok (s.accumulate p tn a) s else .trap 1
        | none => .trap 1
      else .trap 2)

/-- TRDC (R270): the companion of the release's bank, with this task's accumulations. -/
def execTrdc (p md tn : Nat) (s : State) : Host.Outcome State Fault Refusal :=
  s.tally p (.trdc p md tn) (s.instr p 4 fun k s => if s.totMay p tn (s.taskStream k) then .ok ((s.pair p).setM md (s.cmpNow p tn)) s else .trap 2)

/-! Control (R271 to R276). -/

/-- A branch condition (R272, R273); none is trap UNIT. -/
def Pair.cond (x : Pair) (c a b : Nat) : Option Bool :=
  let m := x.mq a
  let one := fun (t : Bool) => if unitOk m.unit then some t else none
  let two := fun (t : Bool) => if unitOk m.unit && m.unit == (x.mq b).unit then some t else none
  if c = 0 then some true
  else if c = 1 then some (x.ir a == x.ir b)
  else if c = 2 then some (x.ir a != x.ir b)
  else if c = 3 then some ((x.ir a).slt (x.ir b))
  else if c = 4 then some (!(x.ir a).slt (x.ir b))
  else if c = 5 then some ((x.ir a).ult (x.ir b))
  else if c = 6 then some (!(x.ir a).ult (x.ir b))
  else if c = 7 then some ((x.ir a).getLsbD b)
  else if c = 8 then two (decide (m.v < (x.mq b).v))
  else if c = 9 then two (decide ((x.mq b).v ≤ m.v))
  else if c = 10 then one (bitsOf m.fl b b == 1)
  else if c = 11 then one (decide (b ≤ m.q))
  else if c = 12 then one (m.v == 0)
  else one (decide (m.v < 0))

/-- BR (R271, R273). -/
def execBr (p cond ra rb off : Nat) (s : State) : Host.Outcome State Fault Refusal :=
  s.tally p (.br p cond ra rb off) (
    s.instrAt p 2 fun _ s => match (s.pair p).cond cond ra rb with
      | some t => .ok ((s.pair p).pc + 1 + (if t then off else 0)) s
      | none => .trap 1)

/-- The frame of a loop that begins at the next position (R274). -/
def Pair.loopFrame (x : Pair) (ix count len : Nat) : LoopFrame := { start := x.pc + 1, stop := x.pc + 1 + len, left := count, idx := 0, x := ix }

/-- LOOP (R274): the body runs COUNT + 1 times, its index in IX. -/
def execLoop (p x count len : Nat) (s : State) : Host.Outcome State Fault Refusal :=
  s.tally p (.loop p x count len) (
    s.instr p 2 fun _ s => .ok { (s.pair p).setI x 0 with loops := (s.pair p).loopFrame x count len :: (s.pair p).loops } s)

/-- TEND (R276, R242): the last comparison and the commit, to its commit point. `agree` false is a disagreement of the engines at the present PC, of whatever item is compared there (R233). -/
def execTend (p : Nat) (agree : Bool) (s : State) : Host.Outcome State Fault Refusal :=
  guardUnit (Instr.wf (.tend p agree)) (
    match (s.pair p).task with
    | none => s
    | some k =>
      if !agree then (if (s.pair p).log.isNone then s.disagree p k else s)
      else if s.atPc p (.tend p true) then (if s.badIn (progAddr p (s.pair p).pc) 4 then s.tallyEcc p k (progShow p (s.pair p).pc) 6 3 else s.tend p k)
      else s)

/-! Emissions (R277). -/

/-- EMITV (R277). -/
def execEmitv (p m : Nat) (s : State) : Host.Outcome State Fault Refusal :=
  s.tally p (.emitv p m) (s.emitOp p fun _ s => some (1, m, leBytes 16 ((s.pair p).mr m).toNat))

/-- EMITT (R277). -/
def execEmitt (p t : Nat) (s : State) : Host.Outcome State Fault Refusal :=
  s.tally p (.emitt p t) (s.emitOp p fun k s => if s.totMay p t (s.taskStream k) then some (2, t, leBytes 16 (s.totNow p t).toNat) else none)

/-- EMITE (R277). -/
def execEmite (p m code : Nat) (s : State) : Host.Outcome State Fault Refusal :=
  s.tally p (.emite p m code) (s.emitOp p fun _ s => some (3, 0x8000 + code, leBytes 16 ((s.pair p).mr m).toNat))

/-- EMITI (R277). -/
def execEmiti (p i j code : Nat) (s : State) : Host.Outcome State Fault Refusal :=
  s.tally p (.emiti p i j code) (s.emitOp p fun k s => some (3, 0x8000 + code, leBytes 4 ((s.pair p).ir i).toNat ++ leBytes 4 ((s.pair p).ir j).toNat ++ leBytes 1 k ++ leBytes 1 p ++ List.replicate 6 0))

/-! Dispatch and the watchdog. -/

/-- TASK_DISPATCH (R232, R242): task k's admitted job starts on its pair at its release, or now if that has passed. -/
def execTaskDispatch (k : Nat) (s : State) : Host.Outcome State Fault Refusal :=
  guardUnit (Instr.wf (.taskDispatch k)) (
    match alFind s.spn.jobs k with
    | some j =>
      let t := (s.advanceTo (max j.rel (s.readyAt (s.taskRegion k)))).settle
      if t.mayDispatch k t.time.t j && alFind t.spn.jobs k == some j then t.dispatch k j else s
    | none => s)

/-- The region watchdog of a running task (R333, R380): OVERRUN, and the region is isolated. -/
def State.overrun (s : State) (n k : Nat) : State :=
  let x := s.pair n
  let t := (s.advanceTo (x.td + (if x.rolled then 2 * s.taskWcet k + 300 else s.taskWcet k) * 65536)).settle
  if (t.pair n).task = some k then
    let t := t.raise F.SPN.STATUS.OVERRUN 0 9
    let t := t.fault 0x11 n (t.taskStream k) (leBytes 1 k ++ leBytes 1 (if x.rolled then 1 else 0) ++ [0, 0] ++ leBytes 4 x.cycle)
    t.isolate n 4 k
  else s

/-- The region watchdog of a restart (R380, R384): 5 ms after the restart began. -/
def State.restartLate (s : State) (n t : Nat) : State :=
  let s := (s.advanceTo (t + 327680000000)).settle
  if s.get (F.FLT.REGION_STAT.STATE n) = 2 then s.isolate n 4 0xFF else s

/-- REGION_WATCHDOG_EXPIRY (R380). -/
def execRegionWatchdogExpiry (n : Nat) (s : State) : Host.Outcome State Fault Refusal :=
  guardUnit (Instr.wf (.regionWatchdogExpiry n)) (
    match (s.pair n).task with
    | some k => s.overrun n k
    | none => match alFind s.flt.restart n with
      | some t => s.restartLate n t
      | none => s)

end Sys2Proof.Machine
end

