-- ==== Sys2Proof/Machine/Dispatch.lean ====
section
/-! DEFINITION. Dispatch: one arm per command, each one direct call of its meaning. -/

namespace Sys2Proof.Machine

/-- The effect of a command on everything but the queue. -/
def exec (i : Instr) (s : State) : Host.Outcome State Fault Refusal :=
  match i with
  | .pornLow us => Sys2Proof.Machine.execPornLow us s
  | .srstnLow us => Sys2Proof.Machine.execSrstnLow us s
  | .heartwoodRailLoss rail => Sys2Proof.Machine.execHeartwoodRailLoss rail s
  | .supplyGood sup => Sys2Proof.Machine.execSupplyGood sup s
  | .testenHigh level => Sys2Proof.Machine.execTestenHigh level s
  | .classHReset cause durUs mv => Sys2Proof.Machine.execClassHReset cause durUs mv s
  | .startUpSequence seed cut faults => Sys2Proof.Machine.execStartUpSequence seed cut faults s
  | .bankCapacitanceCheck samples => Sys2Proof.Machine.execBankCapacitanceCheck samples s
  | .srstReq value => Sys2Proof.Machine.execSrstReq value s
  | .sc1Boot value => Sys2Proof.Machine.execSc1Boot value s
  | .sealPatternAdvance sample => Sys2Proof.Machine.execSealPatternAdvance sample s
  | .slWrite addr value => Sys2Proof.Machine.execSlWrite addr value s
  | .status c => Sys2Proof.Machine.execStatus c s
  | .ident c => Sys2Proof.Machine.execIdent c s
  | .auditRead c => Sys2Proof.Machine.execAuditRead c s
  | .recordRead c => Sys2Proof.Machine.execRecordRead c s
  | .setField c => Sys2Proof.Machine.execSetField c s
  | .setParam c => Sys2Proof.Machine.execSetParam c s
  | .timeSlew c => Sys2Proof.Machine.execTimeSlew c s
  | .timeStep c => Sys2Proof.Machine.execTimeStep c s
  | .imageBegin c => Sys2Proof.Machine.execImageBegin c s
  | .imageData c => Sys2Proof.Machine.execImageData c s
  | .imageEnd c => Sys2Proof.Machine.execImageEnd c s
  | .imageActivate c durUs mv => Sys2Proof.Machine.execImageActivate c durUs mv s
  | .calRun c => Sys2Proof.Machine.execCalRun c s
  | .zeroCal c => Sys2Proof.Machine.execZeroCal c s
  | .auditClear c => Sys2Proof.Machine.execAuditClear c s
  | .hreset c durUs mv => Sys2Proof.Machine.execHreset c durUs mv s
  | .keySlot c => Sys2Proof.Machine.execKeySlot c s
  | .debugEnable c => Sys2Proof.Machine.execDebugEnable c s
  | .auditEntryProgram fails => Sys2Proof.Machine.execAuditEntryProgram fails s
  | .auditControlRecordCopy fails => Sys2Proof.Machine.execAuditControlRecordCopy fails s
  | .triggerMatch n => Sys2Proof.Machine.execTriggerMatch n s
  | .comparatorWrite n reg value => Sys2Proof.Machine.execComparatorWrite n reg value s
  | .firing seq => Sys2Proof.Machine.execFiring seq s
  | .crosspointConnect lane => Sys2Proof.Machine.execCrosspointConnect lane s
  | .captureWindowClose lane samples bad late => Sys2Proof.Machine.execCaptureWindowClose lane samples bad late s
  | .acqClr value => Sys2Proof.Machine.execAcqClr value s
  | .echoJob e => Sys2Proof.Machine.execEchoJob e s
  | .echoWatchdog e => Sys2Proof.Machine.execEchoWatchdog e s
  | .echoClr value => Sys2Proof.Machine.execEchoClr value s
  | .modulatorWarmEnd n => Sys2Proof.Machine.execModulatorWarmEnd n s
  | .pulseEdge n d => Sys2Proof.Machine.execPulseEdge n d s
  | .pulseBlockWrite stream => Sys2Proof.Machine.execPulseBlockWrite stream s
  | .pulseStuckTimeout n => Sys2Proof.Machine.execPulseStuckTimeout n s
  | .pinRunloRead n => Sys2Proof.Machine.execPinRunloRead n s
  | .chainSampleWrite c bits marks bad late => Sys2Proof.Machine.execChainSampleWrite c bits marks bad late s
  | .coefLoad block bank cut => Sys2Proof.Machine.execCoefLoad block bank cut s
  | .coefSwap target trig => Sys2Proof.Machine.execCoefSwap target trig s
  | .swapTakeEffect target => Sys2Proof.Machine.execSwapTakeEffect target s
  | .jobAdmission k => Sys2Proof.Machine.execJobAdmission k s
  | .taskDispatch k => Sys2Proof.Machine.execTaskDispatch k s
  | .jobAbandon k => Sys2Proof.Machine.execJobAbandon k s
  | .regionWatchdogExpiry n => Sys2Proof.Machine.execRegionWatchdogExpiry n s
  | .add p rd ra rb => Sys2Proof.Machine.execAdd p rd ra rb s
  | .sub p rd ra rb => Sys2Proof.Machine.execSub p rd ra rb s
  | .and p rd ra rb => Sys2Proof.Machine.execAnd p rd ra rb s
  | .or p rd ra rb => Sys2Proof.Machine.execOr p rd ra rb s
  | .xor p rd ra rb => Sys2Proof.Machine.execXor p rd ra rb s
  | .sll p rd ra rb => Sys2Proof.Machine.execSll p rd ra rb s
  | .srl p rd ra rb => Sys2Proof.Machine.execSrl p rd ra rb s
  | .sra p rd ra rb => Sys2Proof.Machine.execSra p rd ra rb s
  | .mul p rd ra rb => Sys2Proof.Machine.execMul p rd ra rb s
  | .addi p rd ra imm => Sys2Proof.Machine.execAddi p rd ra imm s
  | .andi p rd ra imm => Sys2Proof.Machine.execAndi p rd ra imm s
  | .ori p rd ra imm => Sys2Proof.Machine.execOri p rd ra imm s
  | .lui p rd imm => Sys2Proof.Machine.execLui p rd imm s
  | .li p rd imm => Sys2Proof.Machine.execLi p rd imm s
  | .addC p md ma mb => Sys2Proof.Machine.execAddC p md ma mb s
  | .addU p md ma mb => Sys2Proof.Machine.execAddU p md ma mb s
  | .subC p md ma mb => Sys2Proof.Machine.execSubC p md ma mb s
  | .subU p md ma mb => Sys2Proof.Machine.execSubU p md ma mb s
  | .mulC p md ma mb unit => Sys2Proof.Machine.execMulC p md ma mb unit s
  | .mulU p md ma mb unit => Sys2Proof.Machine.execMulU p md ma mb unit s
  | .divC p md ma mb unit => Sys2Proof.Machine.execDivC p md ma mb unit s
  | .divU p md ma mb unit => Sys2Proof.Machine.execDivU p md ma mb unit s
  | .sqrt p md ma unit => Sys2Proof.Machine.execSqrt p md ma unit s
  | .neg p md ma => Sys2Proof.Machine.execNeg p md ma s
  | .abs p md ma => Sys2Proof.Machine.execAbs p md ma s
  | .min p md ma mb => Sys2Proof.Machine.execMin p md ma mb s
  | .max p md ma mb => Sys2Proof.Machine.execMax p md ma mb s
  | .mov p md ma => Sys2Proof.Machine.execMov p md ma s
  | .uwid p md ma mb => Sys2Proof.Machine.execUwid p md ma mb s
  | .scli p md ma ib sh => Sys2Proof.Machine.execScli p md ma ib sh s
  | .cvu p md ma unit => Sys2Proof.Machine.execCvu p md ma unit s
  | .cvt p md ia unit sh => Sys2Proof.Machine.execCvt p md ia unit sh s
  | .cvi p id ma sh => Sys2Proof.Machine.execCvi p id ma sh s
  | .setf p md ma mask qual => Sys2Proof.Machine.execSetf p md ma mask qual s
  | .ldp p md param unit => Sys2Proof.Machine.execLdp p md param unit s
  | .prop p md ma tbl par => Sys2Proof.Machine.execProp p md ma tbl par s
  | .ld p md nb base idx => Sys2Proof.Machine.execLd p md nb base idx s
  | .st p ma nb base idx => Sys2Proof.Machine.execSt p ma nb base idx s
  | .ldl p id nb base idx lane => Sys2Proof.Machine.execLdl p id nb base idx lane s
  | .tacc p tn ma neg => Sys2Proof.Machine.execTacc p tn ma neg s
  | .trdc p md tn => Sys2Proof.Machine.execTrdc p md tn s
  | .br p cond ra rb off => Sys2Proof.Machine.execBr p cond ra rb off s
  | .loop p x count len => Sys2Proof.Machine.execLoop p x count len s
  | .inChain p => Sys2Proof.Machine.execInChain p s
  | .inPath p => Sys2Proof.Machine.execInPath p s
  | .inPulse p => Sys2Proof.Machine.execInPulse p s
  | .orifice p => Sys2Proof.Machine.execOrifice p s
  | .venturi p => Sys2Proof.Machine.execVenturi p s
  | .upath p => Sys2Proof.Machine.execUpath p s
  | .kfactor p => Sys2Proof.Machine.execKfactor p s
  | .freq p => Sys2Proof.Machine.execFreq p s
  | .normvol p par => Sys2Proof.Machine.execNormvol p par s
  | .density p par => Sys2Proof.Machine.execDensity p par s
  | .tend p agree => Sys2Proof.Machine.execTend p agree s
  | .emitv p m => Sys2Proof.Machine.execEmitv p m s
  | .emitt p t => Sys2Proof.Machine.execEmitt p t s
  | .emite p m code => Sys2Proof.Machine.execEmite p m code s
  | .emiti p x y code => Sys2Proof.Machine.execEmiti p x y code s
  | .recordSnapshot p => Sys2Proof.Machine.execRecordSnapshot p s
  | .intervalRecord fails cfails => Sys2Proof.Machine.execIntervalRecord fails cfails s
  | .xofsLearn measured => Sys2Proof.Machine.execXofsLearn measured s
  | .timeStampGo value => Sys2Proof.Machine.execTimeStampGo value s
  | .gaugeSample code isns => Sys2Proof.Machine.execGaugeSample code isns s
  | .powerFailCommit durUs cut => Sys2Proof.Machine.execPowerFailCommit durUs cut s
  | .temperatureSample temps => Sys2Proof.Machine.execTemperatureSample temps s
  | .frostEntry slept trig durUs mv => Sys2Proof.Machine.execFrostEntry slept trig durUs mv s
  | .spindleAlarm lag => Sys2Proof.Machine.execSpindleAlarm lag s
  | .thawWinter src slept x32 => Sys2Proof.Machine.execThawWinter src slept x32 s
  | .thawFrost src slept intact x32 => Sys2Proof.Machine.execThawFrost src slept intact x32 s
  | .hfxoRestart ok slept x32 => Sys2Proof.Machine.execHfxoRestart ok slept x32 s
  | .pllUnlock pll freq => Sys2Proof.Machine.execPllUnlock pll freq s
  | .calibrationDue kind ch => Sys2Proof.Machine.execCalibrationDue kind ch s
  | .calibrationHoldEnd valid m0 m1 res0 res1 => Sys2Proof.Machine.execCalibrationHoldEnd valid m0 m1 res0 res1 s
  | .interconnectFault master addr => Sys2Proof.Machine.execInterconnectFault master addr s
  | .hscWatchdogExpiry cause addr pc => Sys2Proof.Machine.execHscWatchdogExpiry cause addr pc s
  | .safeExit durUs => Sys2Proof.Machine.execSafeExit durUs s
  | .hscWdtKick value => Sys2Proof.Machine.execHscWdtKick value s
  | .scrub mem addr err => Sys2Proof.Machine.execScrub mem addr err s
  | .regParity addr bit => Sys2Proof.Machine.execRegParity addr bit s
  | .flashRead dom core addr n dest corr uncorr busy => Sys2Proof.Machine.execFlashRead dom core addr n dest corr uncorr busy s
  | .flashProgram dom core addr n src failAt cutAt busy => Sys2Proof.Machine.execFlashProgram dom core addr n src failAt cutAt busy s
  | .flashErase dom addr busy => Sys2Proof.Machine.execFlashErase dom addr busy s
  | .eraseEnd dom ok => Sys2Proof.Machine.execEraseEnd dom ok s
  | .flashStatus dom busy => Sys2Proof.Machine.execFlashStatus dom busy s
  | .suspend dom busy => Sys2Proof.Machine.execSuspend dom busy s
  | .resume dom busy => Sys2Proof.Machine.execResume dom busy s
  | .unlock dom core area pw busy => Sys2Proof.Machine.execUnlock dom core area pw busy s
  | .lock dom area busy => Sys2Proof.Machine.execLock dom area busy s
  | .setpw dom core area old new busy => Sys2Proof.Machine.execSetpw dom core area old new busy s
  | .zonecfg dom zone mode busy => Sys2Proof.Machine.execZonecfg dom zone mode busy s
  | .ecnt dom addr busy => Sys2Proof.Machine.execEcnt dom addr busy s
  | .margin dom addr weak corr uncorr busy => Sys2Proof.Machine.execMargin dom addr weak corr uncorr busy s
  | .marginScrubPass stop weak uncorr => Sys2Proof.Machine.execMarginScrubPass stop weak uncorr s
  | .interruptSourceEvent c n level => Sys2Proof.Machine.execInterruptSourceEvent c n level s
  | .claim c t => Sys2Proof.Machine.execClaim c t s
  | .complete c t value => Sys2Proof.Machine.execComplete c t value s
  | .moderationTimeout c t => Sys2Proof.Machine.execModerationTimeout c t s
  | .stormClear c k value => Sys2Proof.Machine.execStormClear c k value s
  | .stormWindowEnd c n => Sys2Proof.Machine.execStormWindowEnd c n s
  | .compareMatch g k => Sys2Proof.Machine.execCompareMatch g k s
  | .periodEnd g k => Sys2Proof.Machine.execPeriodEnd g k s
  | .tmrStart g value => Sys2Proof.Machine.execTmrStart g value s
  | .tmrStop g value => Sys2Proof.Machine.execTmrStop g value s
  | .wdtKick value => Sys2Proof.Machine.execWdtKick value s
  | .twGo n value => Sys2Proof.Machine.execTwGo n value s
  | .twTransferEnd n nack data => Sys2Proof.Machine.execTwTransferEnd n nack data s
  | .arbLost n byte bit data => Sys2Proof.Machine.execArbLost n byte bit data s
  | .arbitrationRetry n => Sys2Proof.Machine.execArbitrationRetry n s
  | .stretchTimeout n => Sys2Proof.Machine.execStretchTimeout n s
  | .sclLowTimeout n => Sys2Proof.Machine.execSclLowTimeout n s
  | .sdaLowTimeout n => Sys2Proof.Machine.execSdaLowTimeout n s
  | .twBusErr n byte data => Sys2Proof.Machine.execTwBusErr n byte data s
  | .twAbort n data => Sys2Proof.Machine.execTwAbort n data s
  | .recover n freed => Sys2Proof.Machine.execRecover n freed s
  | .twTxdata n value => Sys2Proof.Machine.execTwTxdata n value s
  | .twRxdata n => Sys2Proof.Machine.execTwRxdata n s
  | .alertResponseRead n answer first => Sys2Proof.Machine.execAlertResponseRead n answer first s
  | .twmAddressMatch read => Sys2Proof.Machine.execTwmAddressMatch read s
  | .twmWrite data lost => Sys2Proof.Machine.execTwmWrite data lost s
  | .twmRead n => Sys2Proof.Machine.execTwmRead n s
  | .twmAraAnswer won => Sys2Proof.Machine.execTwmAraAnswer won s
  | .cspGo n => Sys2Proof.Machine.execCspGo n s
  | .cspFrameEnd n wire dqsTo => Sys2Proof.Machine.execCspFrameEnd n wire dqsTo s
  | .cspTxdata n wire value => Sys2Proof.Machine.execCspTxdata n wire value s
  | .cspRxdata n wire => Sys2Proof.Machine.execCspRxdata n wire s
  | .cspAbort n wire => Sys2Proof.Machine.execCspAbort n wire s
  | .modeFault n wire => Sys2Proof.Machine.execModeFault n wire s
  | .targetSelectionEnd n wire => Sys2Proof.Machine.execTargetSelectionEnd n wire s
  | .csp4Frame bits words => Sys2Proof.Machine.execCsp4Frame bits words s
  | .discover sfdp => Sys2Proof.Machine.execDiscover sfdp s
  | .xipFetch master addr data dqsTo => Sys2Proof.Machine.execXipFetch master addr data dqsTo s
  | .ethTransmitFrame n lag => Sys2Proof.Machine.execEthTransmitFrame n lag s
  | .ethReceiveFrame n lag frame fcsOk => Sys2Proof.Machine.execEthReceiveFrame n lag frame fcsOk s
  | .ethReceiveDeliver n => Sys2Proof.Machine.execEthReceiveDeliver n s
  | .txctlPoll n value => Sys2Proof.Machine.execTxctlPoll n value s
  | .rxctlPoll n value => Sys2Proof.Machine.execRxctlPoll n value s
  | .linkChange n up stat => Sys2Proof.Machine.execLinkChange n up stat s
  | .mdioGo value => Sys2Proof.Machine.execMdioGo value s
  | .tsqRead n => Sys2Proof.Machine.execTsqRead n s
  | .tsqPop n => Sys2Proof.Machine.execTsqPop n s
  | .submit value => Sys2Proof.Machine.execSubmit value s
  | .long value => Sys2Proof.Machine.execLong value s
  | .write offset words => Sys2Proof.Machine.execWrite offset words s
  | .debugAccess dom op hart write addr size value => Sys2Proof.Machine.execDebugAccess dom op hart write addr size value s
  | .busAccessError dom kind master write addr size => Sys2Proof.Machine.execBusAccessError dom kind master write addr size s
  | .registerWrite dom master addr size value => Sys2Proof.Machine.execRegisterWrite dom master addr size value s
  | .doorbell phase w0 w1 => Sys2Proof.Machine.execDoorbell phase w0 w1 s
  | .pulsePhaseRemoved n d w => Sys2Proof.Machine.execPulsePhaseRemoved n d w s
  | .pulseUncountedEdge n d => Sys2Proof.Machine.execPulseUncountedEdge n d s
  | .mdioFrameEnd data => Sys2Proof.Machine.execMdioFrameEnd data s
  | .w0SnapshotRead master addr => Sys2Proof.Machine.execW0SnapshotRead master addr s
  | .mret core => Sys2Proof.Machine.execMret core s
  | .vddAoFail => Sys2Proof.Machine.execVddAoFail s
  | .vddSwLoss => Sys2Proof.Machine.execVddSwLoss s
  | .vddSwReturn => Sys2Proof.Machine.execVddSwReturn s
  | .sapwoodBoot => Sys2Proof.Machine.execSapwoodBoot s
  | .sealOpen fails slept => Sys2Proof.Machine.execSealOpen fails slept s
  | .sealClose fails slept => Sys2Proof.Machine.execSealClose fails slept s
  | .imageLoadTimeout => Sys2Proof.Machine.execImageLoadTimeout s
  | .zeroCalEnd => Sys2Proof.Machine.execZeroCalEnd s
  | .ringEntryRead => Sys2Proof.Machine.execRingEntryRead s
  | .pop => Sys2Proof.Machine.execPop s
  | .clrOvr => Sys2Proof.Machine.execClrOvr s
  | .cycleInstant => Sys2Proof.Machine.execCycleInstant s
  | .timeStepApply => Sys2Proof.Machine.execTimeStepApply s
  | .holdoverTimeout => Sys2Proof.Machine.execHoldoverTimeout s
  | .gwTimeRead => Sys2Proof.Machine.execGwTimeRead s
  | .timeNowRead => Sys2Proof.Machine.execTimeNowRead s
  | .timeCycleRead => Sys2Proof.Machine.execTimeCycleRead s
  | .energyScaleUpdate => Sys2Proof.Machine.execEnergyScaleUpdate s
  | .sapwoodGate => Sys2Proof.Machine.execSapwoodGate s
  | .winterEntry => Sys2Proof.Machine.execWinterEntry s
  | .seasonAlarm => Sys2Proof.Machine.execSeasonAlarm s
  | .xtal32Fail => Sys2Proof.Machine.execXtal32Fail s
  | .hfrcFail => Sys2Proof.Machine.execHfrcFail s
  | .hfxoFail => Sys2Proof.Machine.execHfxoFail s
  | .calibrationStart => Sys2Proof.Machine.execCalibrationStart s
  | .wdtWarn => Sys2Proof.Machine.execWdtWarn s
  | .wdtLimit => Sys2Proof.Machine.execWdtLimit s
  | .twmBusErr => Sys2Proof.Machine.execTwmBusErr s
  | .contMaxExpiry => Sys2Proof.Machine.execContMaxExpiry s
  | .fwOutPop => Sys2Proof.Machine.execFwOutPop s
  | .hostForward => Sys2Proof.Machine.execHostForward s
  | .hostResultCollect => Sys2Proof.Machine.execHostResultCollect s
  | .hostGatewayTimeout => Sys2Proof.Machine.execHostGatewayTimeout s
  | .hstatus => Sys2Proof.Machine.execHstatus s
  | .getResult => Sys2Proof.Machine.execGetResult s
  | .events => Sys2Proof.Machine.execEvents s
  | .time => Sys2Proof.Machine.execTime s
  | .wakePolicy => Sys2Proof.Machine.execWakePolicy s
  | .app => Sys2Proof.Machine.execApp s
  | .appTimeout => Sys2Proof.Machine.execAppTimeout s
  | .eventQueueMove => Sys2Proof.Machine.execEventQueueMove s
  | .eraseSlot => Sys2Proof.Machine.execEraseSlot s
  | .done => Sys2Proof.Machine.execDone s
  | .phaseAmortised => Sys2Proof.Machine.execPhaseAmortised s
  | .csp4SelectAsserted => Sys2Proof.Machine.execCsp4SelectAsserted s
  | .vddioSLoss => Sys2Proof.Machine.execVddioSLoss s

end Sys2Proof.Machine
end

