-- ==== Sys2Proof/Safety.lean ====
section
/-! DEFINITION. What counts as a well-kept state, and the words in which the statements speak of commands that complete. -/

namespace Sys2Proof.Machine

/-- The register file is in canonical form: addresses rise and no entry equals the class P value. -/
def Regs.wf (m : List (Nat × Word)) : Bool := spWf regDefault m

/-- The invariant of the two canonical maps. -/
def State.Canonical (s : State) : Prop := Memory.wf s.mem = true ∧ Regs.wf s.regs = true

/-- A command completes at a state, with a next state that meets P. -/
def State.Completes (s : State) (c : Instr) (P : State → Prop) : Prop := ∃ t, exec c s = .next t ∧ P t

/-- Pair p runs task k, and the program word at its PC can be read. -/
def State.Runs (s : State) (p k : Nat) : Prop := (s.pair p).task = some k ∧ s.badIn (progAddr p (s.pair p).pc) 4 = false

/-- No commit that writes memory is open and no region restarts: the passing of time alone changes no byte (R29, R242). -/
def State.NoneDue (s : State) : Prop := (∀ p, (s.pair p).log = none) ∧ s.flt.restart = []

/-- The state in which pair p goes on as x, at the next position, n cycles later. -/
def State.goesOn (s : State) (p : Nat) (x : Pair) (n : Nat) : State := s.setPair p (x.land (x.pc + 1) n)

/-- A host request is answered on channel `chan` with the message `ws`: it joins what waits there, before anything the engine answers after it. -/
def State.Answered (s t : State) (chan : Nat) (ws : List Word) : Prop :=
  if chan = 0 then ∃ more, t.cspx.out = s.cspx.out ++ ws ++ more else ∃ more, t.host.fwQueue = s.host.fwQueue ++ { chan := chan, words := ws, long := false } :: more

/-- The newest entries of the outbound ring are the parts of a RESULT. -/
def State.Resulted (t : State) (tag code st : Nat) (data : List Byte) : Prop :=
  ∃ old, t.ring.entries.map (fun e => (e.kind, e.stream, e.src, e.payload)) = old ++ (resultParts code st data).zipIdx.map fun p => (6, p.2, tag, (p.1 ++ List.replicate 16 0).take 16)

/-- The inbound command of a code (R113); `us` and `mv` belong to a commit before a reset. -/
def gwInstr (code : Nat) (c : GwCmd) (us mv : Nat) : Instr :=
  if code = 1 then .status c else if code = 2 then .ident c else if code = 3 then .auditRead c else if code = 4 then .recordRead c else if code = 5 then .setField c else if code = 6 then .setParam c
  else if code = 7 then .timeSlew c else if code = 8 then .timeStep c else if code = 9 then .imageBegin c else if code = 10 then .imageData c else if code = 11 then .imageEnd c
  else if code = 12 then .imageActivate c us mv else if code = 13 then .calRun c else if code = 14 then .zeroCal c else if code = 15 then .auditClear c else if code = 16 then .hreset c us mv
  else if code = 17 then .keySlot c else .debugEnable c

/-- A command that Sapwood sends is accepted; `a` is the state in which it acts: the command is shown, the seal state of the
moment holds for a long one, its COUNTER is stored, and what R519 asks for logged (a signature raises its own HIC source, R446). -/
def State.Accepted (s : State) (code : Nat) (c : GwCmd) (a : State) : Prop :=
  let u := s.gwPut 0 (gwWords code c)
  s.gwOpen = true ∧ s.gw.check = none ∧ u.gwReason code c = 0 ∧ a = ((((u.gwVerified c 0).gwShow 2 0 c.tag).gwHold code).gwCounter c).gwLog code c

/-- Registers that an interrupt, a wake and a core that takes a line may write. -/
def icRegs (a : Nat) : Bool :=
  (decide (0x40100000 ≤ a) && decide (a < 0x40100700)) || (decide (0x140001000 ≤ a) && decide (a < 0x140001700)) || a == 0x40070000 ||
  a == 0x140000000 || a == 0x140000010 || a == 0x140000014 || (decide (0x2000007c0 ≤ a) && decide (a ≤ 0x2000017c0))

end Sys2Proof.Machine
end

