-- ==== Sys2Proof/Certificates/Slice0/Obligations.lean ====
section
/-! DEFINITION. The statements for the provers. "Completes" statements say that a command answers a next state, under hypotheses on the state and the operands alone. -/

open Sys2Proof Sys2Proof.Machine

/-! The machine as a whole. -/

/-- A step runs the command at the front of the queue on the state with the queue's rest. -/
def Obligations.StepRunsFront : Prop := ∀ (c : Instr) (rest : List Instr) (s : State), s.pending = c :: rest → step s = exec c { s with pending := rest }

/-- With nothing waiting the block idles for one tick (log entry 1), then settles what has fallen due and ends a KEY_SLOT (log entry 175): with the fast time base the tick is 4 ns at the rate in force and
adds one to the count of PLL_SYS ticks; with the PLLs off it is one period of the sleep clock at the rate of R297; in reset time stands still. -/
def Obligations.IdleStepTicks : Prop := ∀ s : State, s.pending = [] → step s = .next s.tick.settle.keyEnd ∧
  (s.time.fast = true → s.tick.time.plls = s.time.plls + 1 ∧
    s.tick.time.t = s.time.t + (s.time.acc + (262144 * (1000000000000 + rateLimit s.time.asked)).toNat) / 1000000000000) ∧
  (s.time.fast = false → s.time.sys = false → s.boot.cls ≠ 1 → s.pins.heldAo = false → s.tick.time.plls = s.time.plls ∧
    s.tick.time.t = s.time.t + (s.time.acc + s.sleepPeriod * 1000000000000000000000000 / (max 1 (1000000000000 + s.sleepRate)).toNat) / 1000000000000) ∧
  (s.time.fast = false → s.time.sys = false → (s.boot.cls = 1 ∨ s.pins.heldAo = true) → s.tick = s)

/-- A command stops only where an operand names a unit the part does not have, and then by that name; any other answers a next state, and none touches the queue, which is the sender's. -/
def Obligations.CommandsComplete : Prop := ∀ (c : Instr) (s : State),
  (c.wf = true → ∃ t, exec c s = .next t ∧ t.pending = s.pending) ∧ (c.wf = false → exec c s = .fault .noSuchUnit)

/-- R256 and R257, both ways: the word of a tally instruction (one that its engines agree on) has 32 bits and decodes to it, with every operand at every value the encoding admits; and a word that decodes is the
word of its instruction, so that no bit of it is dropped. -/
def Obligations.ProgramWordsRoundTrip : Prop := ∀ (i : Instr) (w : Nat),
  (i.wf = true → (∀ n, i ≠ .tend n false) → progEncode i = some w → w < 2 ^ 32 ∧ ∃ p, p < 8 ∧ progDecode p w (Instr.par i) = some i) ∧
  (∀ p par, p < 8 → w < 2 ^ 32 → progDecode p w par = some i → i.wf = true ∧ progEncode i = some w)

/-- What reset leaves, class P (R59, R70, R444): the cause bits, nothing waiting, nothing running, both controllers quiet, memory as `memDefault` has it (log entry 4), in canonical form. -/
def Obligations.ResetCanonical : Prop := State.reset.Canonical ∧ State.reset.pending = [] ∧ State.reset.on F.FLT.RST_CAUSE.POR = true ∧ State.reset.on F.SEASON.SRST_CAUSE.POR = true ∧
  State.reset.on F.FLT.RST_CAUSE.FAULT = false ∧ State.reset.on F.FLT.RST_CAUSE.AUTH = false ∧ State.reset.on F.FLT.RST_CAUSE.SUPPLY = false ∧ State.reset.on F.FLT.BOOT_STATUS.READY = false ∧
  State.reset.ring.entries = [] ∧ State.reset.pairs = [] ∧ State.reset.cores = [] ∧ State.reset.hic = Ic.reset ∧ State.reset.sic = Ic.reset ∧ (∀ a, State.reset.ldB a = memDefault a)

/-- Every step keeps the canonical forms of memory and of the register file. -/
def Obligations.StepKeepsCanonical : Prop := ∀ s t : State, s.Canonical → step s = .next t → t.Canonical

/-- No step lowers the SEQ of the audit trail, the fuses of the seal counter, the INDEX of the interval records or the generation of the totalizer commits. -/
def Obligations.StepLowersNoCounter : Prop := ∀ s t : State, step s = .next t →
  s.audit.nextSeq ≤ t.audit.nextSeq ∧ s.sealc.fuses ≤ t.sealc.fuses ∧ s.recs.nextIndex ≤ t.recs.nextIndex ∧ s.recs.gen ≤ t.recs.gen

/-! Tally engines: a pair p that runs task k, with a sound program word at its PC; each instruction is the one that word stands for. -/

/-- The integer instructions (R259): Id takes the result, which wraps modulo 2^32, and the pair goes on at the next position after one cycle; nothing else changes. -/
def Obligations.IntegerResult : Prop := ∀ (s : State) (p k rd ra rb : Nat) (imm : BitVec 16), s.Runs p k → p < 8 → rd < 6 → ra < 8 → rb < 8 →
  let x := s.pair p
  let becomes := fun (c : Instr) (w : Word) => s.atPc p c = true → exec c s = .next (s.goesOn p (x.setI rd w) 1)
  becomes (.add p rd ra rb) (x.ir ra + x.ir rb) ∧ becomes (.sub p rd ra rb) (x.ir ra - x.ir rb) ∧
  becomes (.and p rd ra rb) (x.ir ra &&& x.ir rb) ∧ becomes (.or p rd ra rb) (x.ir ra ||| x.ir rb) ∧ becomes (.xor p rd ra rb) (x.ir ra ^^^ x.ir rb) ∧
  becomes (.sll p rd ra rb) (x.ir ra <<< ((x.ir rb).toNat % 32)) ∧ becomes (.srl p rd ra rb) (x.ir ra >>> ((x.ir rb).toNat % 32)) ∧
  becomes (.sra p rd ra rb) ((x.ir ra).sshiftRight ((x.ir rb).toNat % 32)) ∧ becomes (.mul p rd ra rb) (x.ir ra * x.ir rb) ∧
  becomes (.addi p rd ra imm) (x.ir ra + imm.signExtend 32) ∧ becomes (.andi p rd ra imm) (x.ir ra &&& imm.zeroExtend 32) ∧
  becomes (.ori p rd ra imm) (x.ir ra ||| imm.zeroExtend 32) ∧ becomes (.lui p rd imm) (imm.zeroExtend 32 <<< 16) ∧ becomes (.li p rd imm) (imm.signExtend 32)

/-- The instructions that write an M register from registers (R260, R261): where the operation has a result, Md takes it, with UNS under I7.UNS, and the pair goes on after the cycles of
the table. -/
def Obligations.MeasuredResult : Prop := ∀ (s : State) (p k md ma mb ib unit sh mask qual : Nat) (a : Mq), s.Runs p k → p < 8 → md < 32 → ma < 32 → mb < 32 → ib < 8 → unit < 64 →
  sh ≤ 40 → mask < 64 → qual < 16 →
  let x := s.pair p
  let is := fun (c : Instr) (r : Option Mq) (n : Nat) => s.atPc p c = true → r = some a → exec c s = .next (s.goesOn p (x.setMq md a) n)
  is (.addC p md ma mb) (Mq.add false (x.mq ma) (x.mq mb)) 3 ∧ is (.addU p md ma mb) (Mq.add true (x.mq ma) (x.mq mb)) 6 ∧
  is (.subC p md ma mb) (Mq.sub false (x.mq ma) (x.mq mb)) 3 ∧ is (.subU p md ma mb) (Mq.sub true (x.mq ma) (x.mq mb)) 6 ∧
  is (.mulC p md ma mb unit) (Mq.mul false unit (x.mq ma) (x.mq mb)) 4 ∧ is (.mulU p md ma mb unit) (Mq.mul true unit (x.mq ma) (x.mq mb)) 8 ∧
  is (.divC p md ma mb unit) (Mq.div false unit (x.mq ma) (x.mq mb)) 24 ∧ is (.divU p md ma mb unit) (Mq.div true unit (x.mq ma) (x.mq mb)) 28 ∧
  is (.sqrt p md ma unit) (Mq.sqrt unit (x.mq ma)) 24 ∧ is (.neg p md ma) (Mq.neg (x.mq ma)) 2 ∧ is (.abs p md ma) (Mq.abs (x.mq ma)) 2 ∧
  is (.min p md ma mb) (Mq.pick false (x.mq ma) (x.mq mb)) 2 ∧ is (.max p md ma mb) (Mq.pick true (x.mq ma) (x.mq mb)) 2 ∧ is (.mov p md ma) (Mq.mov (x.mq ma)) 2 ∧
  is (.uwid p md ma mb) (Mq.uwid (x.mq ma) (x.mq mb)) 3 ∧ is (.scli p md ma ib sh) (Mq.scli (x.mq ma) (x.ir ib).toInt sh) 4 ∧
  is (.cvu p md ma unit) (Mq.cvu (x.mq ma) unit) 6 ∧ is (.cvt p md ib unit sh) (Mq.cvt unit (x.ir ib).toInt sh) 2 ∧ is (.setf p md ma mask qual) (Mq.setf (x.mq ma) mask qual) 2

/-- Sums and differences of words of one unit (R223, R222): the value is exact where it fits R216 and saturates with LIM where it does not; the flags are those of both operands, QUAL the
greater; the uncertainty of a correlated sum is no smaller than the sum of the operands' where that is representable. Different units have no result (R220). -/
def Obligations.MeasuredSum : Prop := ∀ (a b : Mq) (unc : Bool), unitOk a.unit = true →
  (a.unit ≠ b.unit → Mq.add unc a b = none ∧ Mq.sub unc a b = none) ∧
  (a.unit = b.unit → ∃ r d, Mq.add unc a b = some r ∧ Mq.sub unc a b = some d ∧
    r.v = clampI mqMin mqMax (a.v + b.v) ∧ d.v = clampI mqMin mqMax (a.v - b.v) ∧ r.unit = a.unit ∧ d.unit = a.unit ∧ r.q = max a.q b.q ∧ d.q = r.q ∧
    (∀ i, i < 6 → i ≠ 0 → i ≠ 4 → r.fl.testBit i = (a.fl.testBit i || b.fl.testBit i)) ∧
    (mqMax < a.v + b.v → r.fl.testBit 0 = true) ∧ (unc = false → a.u + b.u ≤ uMax → a.u + b.u ≤ r.u))

/-- CVI, LD, LDL and LDP (R261, R263, R269): the word a load returns reaches the register, with UNS under I7.UNS for an M register, and a load leaves the flags of the word as they stand. -/
def Obligations.LoadsAndIntegers : Prop := ∀ (s : State) (p k md id ma base idx lane param unit sh : Nat) (nb : Bool), s.Runs p k → p < 8 → md < 32 → id < 6 → ma < 32 → base < 8 →
  idx < 65536 → lane < 4 → param < 256 → unit < 60 → sh ≤ 40 →
  let off := if nb then idx * 16 else (((s.pair p).ir base).toNat + idx * 16) % 2 ^ 32
  (s.atPc p (.cvi p id ma sh) = true → unitOk ((s.pair p).mq ma).unit = true → exec (.cvi p id ma sh) s =
    .next (s.goesOn p ((s.pair p).setI id (BitVec.ofInt 32 (clampI (-(2 ^ 31)) (2 ^ 31 - 1) (divEven (((s.pair p).mq ma).v * 2 ^ sh) (2 ^ 40))))) 2)) ∧
  (∀ w t, s.load p off = .ok w t → (s.atPc p (.ld p md nb base idx) = true → exec (.ld p md nb base idx) s = .next (t.goesOn p ((t.pair p).setM md w) 8)) ∧
    (s.atPc p (.ldl p id nb base idx lane) = true → exec (.ldl p id nb base idx lane) s = .next (t.goesOn p ((t.pair p).setI id (w.extractLsb' (32 * lane) 32)) 8))) ∧
  (∀ v t, s.atPc p (.ldp p md param unit) = true → s.loadParam p param = .ok v t → ∃ a, Mq.cvt unit v 32 = some a ∧ exec (.ldp p md param unit) s = .next (t.goesOn p ((t.pair p).setMq md a) 8))

/-- A load that is not a replay (R237, R238): at an aligned offset the task may read, with a load left and no error, it returns the task's own buffered store or else the word in memory, and
appends that word to the journal; it leaves every byte of memory outside the journal's word.
ST (R237, R269): within the task's own memory and its 128 stores the word Ma is buffered for its offset, where a later load of the task finds it; no byte of memory changes. -/
def Obligations.LoadsAndStoresJournal : Prop :=
 (∀ (s : State) (p off : Nat), s.offOk p off false = true → (s.pair p).loads < 256 → (s.pair p).journal ≤ (s.pair p).jpos →
   s.badIn (rgnBase p + off) 16 = false →
   let w := (alFind (s.pair p).stores off).getD (s.ld128 (rgnBase p + off))
   let j := rgnBase p + 16 * (s.pair p).jpos
   ∃ t, s.load p off = .ok w t ∧ t.ld128 j = w ∧ (∀ a, a < j ∨ j + 16 ≤ a → t.ldB a = s.ldB a) ∧
     (t.pair p).loads = (s.pair p).loads + 1 ∧ (t.pair p).jpos = (s.pair p).jpos + 1 ∧ t.regs = s.regs) ∧
 (∀ (s : State) (p k ma base idx : Nat) (nb : Bool), s.Runs p k → s.atPc p (.st p ma nb base idx) = true → p < 8 → ma < 32 → base < 8 → idx < 65536 →
   let off := if nb then idx * 16 else (((s.pair p).ir base).toNat + idx * 16) % 2 ^ 32
   s.offOk p off true = true → (s.pair p).nstores < 128 →
   s.Completes (.st p ma nb base idx) fun t => alFind (t.pair p).stores off = some ((s.pair p).mr ma) ∧ (t.pair p).nstores = (s.pair p).nstores + 1 ∧
     (∀ a, a ≠ off → alFind (t.pair p).stores a = alFind (s.pair p).stores a) ∧ t.mem = s.mem ∧ t.regs = s.regs ∧ ∀ n, n ≠ p → t.pair n = s.pair n)

/-- TACC and TRDC (R270, R227, R228): a task that may use Tn adds the word's counts to what it has pending for Tn, and reads the companion with what it has pending; no totalizer register
changes before the commit. -/
def Obligations.TotalizerAccess : Prop := ∀ (s : State) (p k tn ma md : Nat) (neg : Bool), s.Runs p k → p < 8 → tn < 64 → ma < 32 → md < 32 → s.totMay p tn (s.taskStream k) = true →
  (s.atPc p (.tacc p tn ma neg) = true → ((s.pair p).mq ma).unit = s.totUnit p tn → unitOk (s.totUnit p tn) = true →
    ∃ a, Mq.taken neg ((s.pair p).mq ma) = some a ∧ a.v = (if neg then clampI mqMin mqMax (-((s.pair p).mq ma).v) else ((s.pair p).mq ma).v) ∧ a.u = ((s.pair p).mq ma).u ∧
      s.Completes (.tacc p tn ma neg) fun t => t.totNow p tn = (totAdd (s.totNow p tn) (totCounts a.v)).1 ∧ (t.pair p).tot = (s.pair p).tot ∧
        (∀ m, m ≠ tn → t.totNow p m = s.totNow p m) ∧ t.mem = s.mem ∧ t.regs = s.regs) ∧
  (s.atPc p (.trdc p md tn) = true → exec (.trdc p md tn) s = .next (s.goesOn p ((s.pair p).setM md (s.cmpNow p tn)) 4))

/-- BR and LOOP (R271 to R274): a branch whose condition can be read goes on after its offset or at the next position; a loop begins with index 0 and its count. -/
def Obligations.ControlGoesOn : Prop := ∀ (s : State) (p k cond ra rb off x count len : Nat) (taken : Bool), s.Runs p k → p < 8 → off < 4096 → x < 6 → count < 2048 → 1 ≤ len → len < 4096 →
  condOk cond ra rb = true →
  (s.atPc p (.br p cond ra rb off) = true → (s.pair p).cond cond ra rb = some taken → exec (.br p cond ra rb off) s = .next (s.setPair p ((s.pair p).land ((s.pair p).pc + 1 + (if taken then off else 0)) 2))) ∧
  (s.atPc p (.loop p x count len) = true → s.Completes (.loop p x count len) fun t => (t.pair p).pc = (s.pair p).pc + 1 ∧ (t.pair p).ir x = 0 ∧ t.regs = s.regs ∧ t.mem = s.mem ∧
    (t.pair p).loops = { start := (s.pair p).pc + 1, stop := (s.pair p).pc + 1 + len, left := count, idx := 0, x := x } :: (s.pair p).loops)

/-- EMITV, EMITT, EMITE and EMITI (R277): with fewer than 48 emissions so far the task's emission joins its buffer, where the commit finds it; nothing is published now. -/
def Obligations.EmissionsBuffer : Prop := ∀ (s : State) (p k m n x y code : Nat), s.Runs p k → p < 8 → m < 32 → n < 64 → x < 8 → y < 8 → code < 4096 → (s.pair p).emits.length < 48 →
  let out := fun (c : Instr) (kind src : Nat) (pl : List Byte) => s.atPc p c = true → s.Completes c fun t =>
    (t.pair p).emits = (s.pair p).emits ++ [{ kind := kind, stream := s.taskStream k, src := src, payload := pl }] ∧ t.ring = s.ring ∧ t.regs = s.regs ∧ t.mem = s.mem
  out (.emitv p m) 1 m (leBytes 16 ((s.pair p).mr m).toNat) ∧
  (s.totMay p n (s.taskStream k) = true → out (.emitt p n) 2 n (leBytes 16 (s.totNow p n).toNat)) ∧
  out (.emite p m code) 3 (0x8000 + code) (leBytes 16 ((s.pair p).mr m).toNat) ∧
  out (.emiti p x y code) 3 (0x8000 + code)
    (leBytes 4 ((s.pair p).ir x).toNat ++ leBytes 4 ((s.pair p).ir y).toNat ++ leBytes 1 k ++ leBytes 1 p ++ List.replicate 6 0)

/-- TASK_DISPATCH (R242, R332): what falls due before a job's release, and before its region's THAW is complete (log entry 194), is settled first (log entry 7); a job that may then be dispatched starts on its region's pair: the pair runs the task at its START with
the job's cycle, empty buffers and 100 cycles spent, and TALLY.STATUS shows it.
TEND and REGION_WATCHDOG_EXPIRY (R242, R276, R380): at the commit point a task whose averages can be taken has its commit log, its mark shown, and the instant at which its homes will have been written; then the
commit ends it: its pair is free and the log gone. Averages of different units are trap UNIT. Where the region watchdog of a running task expires the region is no longer in service. -/
def Obligations.TasksRun : Prop :=
 (∀ (s : State) (k : Nat) (j : Job), k < 256 → alFind s.spn.jobs k = some j →
   let u := (s.advanceTo (max j.rel (s.readyAt (s.taskRegion k)))).settle
   let p := u.taskRegion k
   alFind u.spn.jobs k = some j → u.mayDispatch k u.time.t j = true → u.badIn (u.blockBase k) 576 = false →
   s.Completes (.taskDispatch k) fun t => (t.pair p).task = some k ∧ (t.pair p).pc = u.taskStart k ∧ (t.pair p).cycle = j.cycle ∧ (t.pair p).cyc = 100 ∧ (t.pair p).journal = 0 ∧
     (t.pair p).stores = [] ∧ (t.pair p).emits = [] ∧ (t.pair p).ir 6 = BitVec.ofNat 32 j.cycle ∧ t.get (F.TALLY.STATUS.RUN p) = 1 ∧ t.get (F.TALLY.STATUS.TASK p) = k ∧
     alFind t.spn.jobs k = some { j with st := 2 }) ∧
 (∀ (s : State) (p k : Nat), s.Runs p k → p < 8 →
   let x := s.pair p
   let st := s.taskStream k
   let ns := if st = 0xFF then [] else s.avgRegs st
   let u := (s.advanceTo (s.tallyTime p (50 + 2 * x.logLen ns.length))).settle
   let v := (s.advanceTo (x.td + (if x.rolled then 2 * s.taskWcet k + 300 else s.taskWcet k) * 65536)).settle
   (∀ a, s.atPc p (.tend p true) = true → addAvgs x st (s.bank p) x.avgs ns = some a → (u.pair p).task = some k →
     s.Completes (.tend p true) fun t => t.on (F.TALLY.STATUS.MARK p) = true ∧ t.mem = u.mem ∧ t.ring = u.ring ∧ t.params = s.params ∧
       ∃ l, (t.pair p).log = some l ∧ l.task = k ∧ l.cycle = x.cycle ∧ l.due = s.tallyTime p (60 + 4 * x.logLen ns.length) ∧ l.stores = x.stores ∧ l.emits = x.emits ∧ l.m = x.m ∧ l.i = x.i ∧
         l.tots.map (fun e => (e.1, e.2.1)) = x.pend) ∧
   (s.atPc p (.tend p true) = true → addAvgs x st (s.bank p) x.avgs ns = none → s.Completes (.tend p true) fun t => (t.pair p).task = none ∧ t.params = s.params ∧ t.pins = s.pins) ∧
   (∀ l, x.log = some l → l.task = k → l.due ≤ s.time.t → s.commitsDue [p] = s.commitEnd p l ∧ ((s.commitEnd p l).pair p).task = none ∧ ((s.commitEnd p l).pair p).log = none) ∧
   ((v.pair p).task = some k → s.Completes (.regionWatchdogExpiry p) fun t => t.get (F.FLT.REGION_STAT.STATE p) ≠ 0 ∧ t.params = s.params ∧ t.pins = s.pins))

/-- PROP (R264 to R266, R280): operands in the table's units give Md the evaluation, noted in PROP.STATUS at the commit; a parity error gives 0 with the largest U, SUB and QUAL 0xF, and
sets bit 3. -/
def Obligations.PropertyEvaluates : Prop := ∀ (s : State) (p k md ma tbl : Nat), s.Runs p k → p < 8 → md < 32 → 1 ≤ tbl → tbl < 12 → ma + propInputs tbl ≤ 32 →
  let ins := (List.range (propInputs tbl)).map fun n => (s.pair p).mq (ma + n)
  ins.map Mq.unit = propUnits tbl →
  (s.atPc p (.prop p md ma tbl false) = true → exec (.prop p md ma tbl false) s = .next (s.goesOn p (((s.pair p).setMq md (propEval tbl ins false).1).propNote tbl (propEval tbl ins false).2) (if 9 ≤ tbl then 60 else 40))) ∧
  (s.atPc p (.prop p md ma tbl true) = true → s.Completes (.prop p md ma tbl true) fun t => t.freeCtr = s.freeCtr + 1 ∧
    t.get F.FLT.ECC.UNCORR = min F.FLT.ECC.UNCORR.max (s.get F.FLT.ECC.UNCORR + 1) ∧ t.get F.FLT.ECC.MEM = 7) ∧
  (propEval tbl ins true).1.v = 0 ∧ (propEval tbl ins true).1.u = uMax ∧ (propEval tbl ins true).1.q = 15 ∧ (propEval tbl ins true).1.fl.testBit 5 = true ∧
  (propEval tbl ins true).2.testBit 3 = true

/-- IN_CHAIN, IN_PATH and IN_PULSE (R245): their loads done, the results of the records loaded stand in M24 onwards, and HEALTH in I4.
Which record an input routine takes (R245): the complete one of the cycle before the release, with no SUB of its own; else the complete one of the cycle before that, marked SUB with
QUAL 0xC; else value 0, U 0, SUB and QUAL 0xF. -/
def Obligations.InputsAndStaleness : Prop :=
 (∀ (s : State) (p k : Nat), s.Runs p k → p < 8 →
   let d := ((s.pair p).ir 4).toNat
   let st := s.taskStream k
   (∀ bs t, s.loadN p d 4 = .ok bs t →
     s.atPc p (.inChain p) = true → exec (.inChain p) s = .next (t.goesOn p ((t.pair p).results 24 (inChain (t.pair p).cycle (t.calFl p (t.destKeys p d)) (bs.take 32) (bs.drop 32))) 40)) ∧
   (∀ r0 r1 t u, st ≠ 0xFF → d < s.npath st → s.loadPath p st 0 d = .ok r0 t → t.loadPath p st 1 d = .ok r1 u →
     let r := inPath (u.pair p).cycle d (u.calFl p (u.pathKeys st d)) r0 r1
     s.atPc p (.inPath p) = true → exec (.inPath p) s = .next (u.goesOn p (((u.pair p).results 24 r.1).setI 4 (BitVec.ofNat 32 r.2)) 60)) ∧
   (∀ r t, s.pulseMay st d = true → s.loadPulses p st d = .ok r t → s.atPc p (.inPulse p) = true → exec (.inPulse p) s = .next (t.goesOn p ((t.pair p).results 24 (inPulse (t.pair p).cycle d r.1 r.2)) 50))) ∧
 (∀ (c fl : Nat) (r0 r1 : List Byte),
   let at_ := fun (n : Nat) => if n % 2 = 0 then r0 else r1
   (chainOk (at_ (c + 1)) (c + 1) = true → ∃ a b, inChain (c + 2) fl r0 r1 = [a, b] ∧ a.q = 0 ∧ b.q = 0 ∧ a.unit = 0 ∧
     a.v = clampI mqMin mqMax (divEven (sext 64 (recF (at_ (c + 1)) 8 8) * 2 ^ 40) (recF (at_ (c + 1)) 0x14 2))) ∧
   (chainOk (at_ (c + 1)) (c + 1) = false → chainOk (at_ c) c = true → ∃ a b, inChain (c + 2) fl r0 r1 = [a, b] ∧ a.q = 0xC ∧ b.q = 0xC ∧ a.fl.testBit 5 = true ∧ b.fl.testBit 5 = true ∧
     a.v = clampI mqMin mqMax (divEven (sext 64 (recF (at_ c) 8 8) * 2 ^ 40) (recF (at_ c) 0x14 2))) ∧
   (chainOk (at_ (c + 1)) (c + 1) = false → chainOk (at_ c) c = false → inChain (c + 2) fl r0 r1 = [subMq 0, subMq 0]))

/-- ORIFICE, VENTURI, NORMVOL and DENSITY (R289, R290, R294): arguments in the units stated give the results in M24 onwards (and the status in I4 for ORIFICE) after the cycles stated, and
no trap is taken whatever their values; values the manual does not state are free (log entries 2, 32). -/
def Obligations.FlowRoutines : Prop := ∀ (s : State) (p k : Nat), s.Runs p k → p < 8 →
  let x := s.pair p
  let i4 := (x.ir 4).toNat
  (([24, 25, 26, 27, 28, 29, 30].map fun n => (x.mq n).unit) = [0x18, 0x28, 0x2F, 0, 0x18, 0x24, 0x24] →
    s.atPc p (.orifice p) = true → exec (.orifice p) s = .next (s.freeUsed.goesOn p ((x.results 24 (orifice s i4 x).1).setI 4 (BitVec.ofNat 32 (orifice s i4 x).2)) 1140)) ∧
  (([24, 25, 27, 28, 29, 30].map fun n => (x.mq n).unit) = [0x18, 0x28, 0, 0x18, 0x24, 0x24] → unitOk (x.mq 26).unit = true →
    s.atPc p (.venturi p) = true → exec (.venturi p) s = .next (s.freeUsed.goesOn p (x.results 24 (venturi s i4 x)) 260)) ∧
  (([25, 26, 27].map fun n => (x.mq n).unit) = [0x18, 0x1C, 0] → ((x.mq 24).unit = 0x0B ∨ (x.mq 24).unit = 9) →
    s.atPc p (.normvol p 0) = true → exec (.normvol p 0) s = .next (s.freeUsed.goesOn p ((x.results 24 (normvol s i4 0 x).1).propNotes (normvol s i4 0 x).2) 280)) ∧
  (s.atPc p (.density p 0) = true → (x.mq 24).unit = 0x18 → (x.mq 25).unit = 0x1C → (∀ td th n, mediumTables i4 = some (td, th, n) → (n = 3 → (x.mq 26).unit = 0) →
    let ins := (List.range n).map fun m => x.mq (24 + m)
    exec (.density p 0) s = .next (s.goesOn p ((x.results 24 [(propEval td ins false).1, (propEval th ins false).1]).propNotes [(td, (propEval td ins false).2), (th, (propEval th ins false).2)]) 180)) ∧
    (mediumTables i4 = none → s.Completes (.density p 0) fun t => (t.pair p).pc = ((s.freeUsed).goesOn p x 180 |>.pair p).pc ∧ t.mem = s.mem ∧ t.regs = s.regs))

/-- UPATH, KFACTOR and FREQ (R291 to R293): a task with a stream, whose loads succeed, gets their results in M24 onwards. -/
def Obligations.MeterRoutines : Prop := ∀ (s : State) (p k : Nat), s.Runs p k → p < 8 →
  let st := s.taskStream k
  let i4 := ((s.pair p).ir 4).toNat
  let half := pageOff st + 0x800 * ((s.pair p).cycle % 2)
  (∀ h es ps t u v, st ≠ 0xFF → s.loadN p half 1 = .ok h t → t.loadEntries p (half + 0x40) (t.npath st) = .ok es u →
    u.loadParams p ((u.pair p).ir 5).toNat (4 + 2 * u.npath st) = .ok ps v →
    let r := upath v st (s.pair p).cycle (fun n => v.calFl p (v.pathKeys st n)) h es ps
    s.atPc p (.upath p) = true → exec (.upath p) s = .next (({ v with freeCtr := v.freeCtr + 32 } : State).goesOn p (((v.pair p).results 24 r.1).setI 4 (BitVec.ofNat 32 r.2)) (120 + 170 * s.npath st))) ∧
  (∀ r ps t u, s.pulseMay st (i4 % 2) = true → s.loadPulses p st (i4 % 2) = .ok r t →
    (t.loadParams p ((t.pair p).ir 5).toNat 26 = .ok ps u → m31Ok u (u.pair p) (i4 % 2) r = true → s.atPc p (.kfactor p) = true → exec (.kfactor p) s = .next (u.freeUsed.goesOn p (kfactor u (u.pair p) (i4 % 2) r ps) 230)) ∧
    (t.loadParams p ((t.pair p).ir 5).toNat 3 = .ok ps u → m31Ok u (u.pair p) (i4 % 2) r = true → s.atPc p (.freq p) = true → exec (.freq p) s = .next (u.freeUsed.goesOn p (freqRun u (u.pair p) (i4 % 2) r ps) 150)))

/-! The seal, the ring and the audit trail. -/

/-- SEAL_PATTERN_ADVANCE (R101, R102): the register shifts in the XOR of its two highest bits, which SEAL_A drives; a match goes on with the run of matches, a mismatch ends it. A loop that
reads open or is undecided reads closed after 256 matches, one that reads closed or is undecided reads open at the fourth mismatch of either value. Without VDD_AO's domain nothing moves.
SEAL_OPEN and SEAL_CLOSE (R103 to R106, R407): with HSC running, an opening of the sealed loop raises the counter by one before the state, writes the seal control word (one of its four attempts good) and blows
the fuse of every sixteenth count, and a closing seals and ends Heartwood debug; no byte outside the two sectors of the word changes. Without HSC the opening is latched with its time, marked SLEEP where
Heartwood is gated or in reset, and a closing only shows. -/
def Obligations.SealMoves : Prop :=
 (∀ (s : State) (sample : Bool),
   let f := s.sealc.lfsr.getLsbD 14 != s.sealc.lfsr.getLsbD 13
   let isOpen := s.sealc.verdict && !s.on F.SEAL.STATUS.LOOP
   (s.pins.heldAo = false → s.Completes (.sealPatternAdvance sample) fun t => t.sealc.lfsr = (s.sealc.lfsr <<< 1) ||| (if f then 1 else 0) ∧ t.sealc.sealA = f ∧
     (sample ≠ f → t.sealc.run = 0) ∧
     (sample = f → s.sealc.run < 255 → (isOpen = true ∨ s.sealc.n1 < 4 ∧ s.sealc.n0 < 4) → t.sealc.run = s.sealc.run + 1 ∧ t.sealc.verdict = s.sealc.verdict ∧
       t.on F.SEAL.STATUS.LOOP = s.on F.SEAL.STATUS.LOOP) ∧
     (sample ≠ f → (if f then s.sealc.n1 else s.sealc.n0) = 3 → t.sealc.verdict = true ∧ t.on F.SEAL.STATUS.LOOP = false) ∧
     (sample = f → s.sealc.run = 255 → (isOpen = true ∨ s.sealc.n1 < 4 ∧ s.sealc.n0 < 4) → t.sealc.verdict = true ∧ t.on F.SEAL.STATUS.LOOP = true)) ∧
   (s.pins.heldAo = true → exec (.sealPatternAdvance sample) s = .next s)) ∧
 (∀ (s : State) (fails : Nat) (slept : Asleep), s.pins.heldAo = false → fails < 4 →
   let keeps := fun (t : State) => ∀ a, (∀ h, h < 2 → a < sectorAddr 0 (ctlSector 1 h) ∨ sectorAddr 0 (ctlSector 1 h) + 0x1000 ≤ a) → t.ldB a = s.ldB a
   (s.hscRuns = true → s.on F.SEAL.STATUS.SEALED = true → (s.sealc.verdict = true → s.on F.SEAL.STATUS.LOOP = true) → s.get F.SEAL.COUNTER.COUNT < 0xFFFFFFFF →
     s.Completes (.sealOpen fails slept) fun t => t.get F.SEAL.COUNTER.COUNT = s.get F.SEAL.COUNTER.COUNT + 1 ∧ t.on F.SEAL.STATUS.SEALED = false ∧ t.sealc.stSealed = false ∧
       t.sealc.stCount = s.get F.SEAL.COUNTER.COUNT + 1 ∧ t.sealc.fuses = max s.sealc.fuses (min 4096 ((s.get F.SEAL.COUNTER.COUNT + 1) / 16)) ∧ t.sealc.verdict = true ∧ t.params = s.params ∧ keeps t) ∧
   (s.hscRuns = false → s.on F.SEAL.STATUS.SEALED = true → (s.sealc.verdict = true → s.on F.SEAL.STATUS.LOOP = true) → s.sealc.latched = none →
     s.Completes (.sealOpen fails slept) fun t => t.sealc.latched = some (if s.hscUp then 0 else 1, (t.sec, t.ns)) ∧ t.on F.SEAL.STATUS.LOOP = false ∧ t.on F.SEAL.STATUS.SEALED = true ∧ t.audit = s.audit ∧
       t.mem = s.mem) ∧
   (s.hscRuns = true → s.on F.SEAL.STATUS.SEALED = false → (s.sealc.verdict = true → s.on F.SEAL.STATUS.LOOP = false) →
     s.Completes (.sealClose fails slept) fun t => t.on F.SEAL.STATUS.SEALED = true ∧ t.sealc.stSealed = true ∧ t.on F.SEAL.STATUS.DEBUG_EN = false ∧ t.hscHalted = false ∧
       t.get F.SEAL.COUNTER.COUNT = s.get F.SEAL.COUNTER.COUNT ∧ t.sealc.verdict = true ∧ keeps t) ∧
   (s.hscRuns = false → (s.sealc.verdict = true → s.on F.SEAL.STATUS.LOOP = false) →
     s.Completes (.sealClose fails slept) fun t => t.on F.SEAL.STATUS.LOOP = true ∧ t.on F.SEAL.STATUS.SEALED = s.on F.SEAL.STATUS.SEALED ∧ t.sealc.verdict = true ∧ t.audit = s.audit ∧ t.mem = s.mem))

/-- RING_ENTRY_READ, POP and CLR_OVR (R115 to R117): the oldest entry is shown and remembered; a pop takes away the entry shown, and none other; clearing OVERRUN changes nothing else. -/
def Obligations.RingReads : Prop := ∀ (s : State),
  (∀ e es, s.ring.entries = e :: es → s.Completes .ringEntryRead fun t => t.ring.entries = s.ring.entries ∧ t.ring.snap = some e.seq ∧
    (∀ k w, (wordsOf e.bytes)[k]? = some w → t.rw (F.GW.RING_ENTRY.ALL k).addr = w) ∧ t.mem = s.mem) ∧
  (s.ring.entries = [] → s.Completes .ringEntryRead fun t => t.ring = s.ring ∧ ∀ k, k < 8 → t.rw (F.GW.RING_ENTRY.ALL k).addr = 0) ∧
  (∀ e es, s.ring.entries = e :: es → s.ring.snap = some e.seq → s.Completes .pop fun t => t.ring = { s.ring with entries := es } ∧ t.get F.GW.RING_STATUS.COUNT = es.length % 4096 ∧
    t.get F.GW.RING_STATUS.OVERRUN = s.get F.GW.RING_STATUS.OVERRUN) ∧
  (∀ e es, s.ring.entries = e :: es → s.ring.snap ≠ some e.seq → exec .pop s = .next s) ∧
  (s.Completes .clrOvr fun t => t.get F.GW.RING_STATUS.OVERRUN = 0 ∧ t.get F.GW.RING_STATUS.COUNT = s.get F.GW.RING_STATUS.COUNT ∧ t = { s with regs := t.regs } ∧
    ∀ a, a ≠ F.GW.RING_STATUS.ALL.addr → t.rw a = s.rw a)

/-- AUDIT_ENTRY_PROGRAM and AUDIT_CONTROL_RECORD_COPY (R118 to R121, R554): the first queued event takes the next SEQ, the chain of the digest of the entry before it, and its place in the
trail; every event takes as many entries as its data needs, and a settings write joins the settings word too. A pending copy records the level, the losses and the oldest entry in its two sectors. -/
def Obligations.AuditPrograms : Prop := ∀ s : State, s.pins.heldH = false →
  (∀ e es, s.audit.queue = e :: es → s.audit.startOpen = false → s.auditCount ≤ 16383 → s.Completes (.auditEntryProgram 0) fun t =>
    t.audit.queue = es ∧ t.audit.nextSeq = s.audit.nextSeq + evSize e.data ∧ t.sealc = s.sealc ∧ t.params = s.params ∧
    (e.data.length ≤ 24 →
      let x : AuditEntry := { seq := s.audit.nextSeq, kind := e.kind, sealst := e.sealst, stream := e.stream, sec := e.sec, ns := e.ns, sealctr := e.sealctr, digest := e.digest, data := e.data,
                              chain := s.auditChain, bad := false }
      t.audit.held = s.audit.held ++ [x] ∧ t.ldBytes (auditAddr s.audit.nextSeq) 64 = x.bytes ∧ t.audit.lastDigest = (sha256 x.bytes).take 8 ∧
      (e.kind ≠ 0x12 → ∀ a, a < auditAddr s.audit.nextSeq ∨ auditAddr s.audit.nextSeq + 64 ≤ a → t.ldB a = s.ldB a))) ∧
  (s.audit.ctlPending = true → s.Completes (.auditControlRecordCopy 0) fun t => t.audit.ctlPending = false ∧ t.audit.ctlLevel = s.get F.SEAL.STATUS.LEVEL ∧
    t.audit.ctlUnlogged = s.get F.SEAL.UNLOGGED.COUNT ∧ t.audit.held = s.audit.held ∧ t.audit.nextSeq = s.audit.nextSeq ∧ t.regs = s.regs ∧
    ∀ a, (∀ h, h < 2 → a < sectorAddr 0 (ctlSector 4 h) ∨ sectorAddr 0 (ctlSector 4 h) + 0x1000 ≤ a) → t.ldB a = s.ldB a)

/-! Time. -/

/-- TIME_NOW_READ, TIME_STAMP_GO, GW_TIME_READ and TIME_CYCLE_READ (R295, R300, R312, R317): all words of a snapshot are of the instant of the read; through the gateway they read 0 until
Heartwood time is valid; nothing else changes.
HOLDOVER_TIMEOUT, XOFS_LEARN and PHASE_AMORTISED (R297, R299, R307): SYNC that TIME.HOLD seconds bring no correction falls to HOLDOVER at that instant, awake or asleep; after 100 ms awake in SYNC XOFS moves
an eighth of the way to the measured offset, to a whole unit; once the phase of a slew is spent the rate is FREQ alone and SLEWING clears. -/
def Obligations.TimeAndRate : Prop :=
 (∀ (s : State) (v : Word),
   let only := fun (t : State) (as : List Nat) => t = { s with regs := t.regs } ∧ ∀ a, a ∉ as → t.rw a = s.rw a
   let four := fun (t : State) (f : Nat → Fld) => t.get (f 0) = s.time.t % (1000000000 * 65536) / 65536 ∧ t.get (f 1) = s.time.t / (1000000000 * 65536) % 2 ^ 32 ∧
     t.get (f 2) = s.time.t / (1000000000 * 65536) / 2 ^ 32 % 2 ^ 32
   let places := fun (f : Nat → Fld) => [(f 0).addr, (f 1).addr, (f 2).addr, (f 3).addr]
   (s.Completes .timeNowRead fun t => four t F.TIME.NOW.ALL ∧ t.get (F.TIME.NOW.ALL 3) = s.time.t % 65536 ∧ only t (places F.TIME.NOW.ALL)) ∧
   (v.getLsbD 0 = true → s.Completes (.timeStampGo v) fun t => four t F.TIME.STAMPW.ALL ∧ t.get (F.TIME.STAMPW.ALL 3) = s.time.t % 65536 ∧ only t (places F.TIME.STAMPW.ALL)) ∧
   (v.getLsbD 0 = false → exec (.timeStampGo v) s = .next s) ∧
   (s.on F.FLT.BOOT_STATUS.READY = true → s.pins.heldH = false → s.Completes .gwTimeRead fun t => four t F.GW.TIME.ALL ∧
     t.get (F.GW.TIME.ALL 3) = s.time.t % 65536 + s.get F.TIME.STATUS.SYNC * 2 ^ 16 + 2 ^ 31 ∧ only t (places F.GW.TIME.ALL)) ∧
   ((s.on F.FLT.BOOT_STATUS.READY = false ∨ s.pins.heldH = true) → s.Completes .gwTimeRead fun t => (∀ k, k < 4 → t.get (F.GW.TIME.ALL k) = 0) ∧ only t (places F.GW.TIME.ALL)) ∧
   (s.Completes .timeCycleRead fun t => t.get (F.TIME.CYCLE.CYCLE 0) = s.time.cycle % 2 ^ 32 ∧ t.get (F.TIME.CYCLE.CYCLE 1) = s.time.cycle / 2 ^ 32 % 2 ^ 32 ∧
     only t [(F.TIME.CYCLE.CYCLE 0).addr, (F.TIME.CYCLE.CYCLE 1).addr])) ∧
 (∀ (s : State) (m : Int),
   (s.get F.TIME.STATUS.SYNC = 1 → s.time.fast = true → let u := (s.advanceTo s.holdEnd).settle
     s.Completes .holdoverTimeout fun t => t.get F.TIME.STATUS.SYNC = 2 ∧ t.time = u.time ∧ t.mem = u.mem ∧ (∀ a, a ≠ F.TIME.STATUS.ALL.addr → t.rw a = u.rw a)) ∧
   (s.get F.TIME.STATUS.SYNC = 1 → s.time.fast = false → s.Completes .holdoverTimeout fun t => t.get F.TIME.STATUS.SYNC = 2 ∧ t.time.t = max s.time.t s.holdEnd ∧ t.mem = s.mem ∧
     ∀ a, a ≠ F.TIME.STATUS.ALL.addr → t.rw a = s.rw a) ∧
   (s.get F.TIME.STATUS.SYNC ≠ 1 → exec .holdoverTimeout s = .next s) ∧
   (s.time.fast = true → s.get F.TIME.STATUS.SYNC = 1 → 100000000 * 65536 ≤ s.time.awake → -128 ≤ m → m < 128 → s.Completes (.xofsLearn m) fun t =>
     (t.getI F.TIME.XTAL.XOFS = s.getI F.TIME.XTAL.XOFS + (m - s.getI F.TIME.XTAL.XOFS) / 8 ∨
       ((m - s.getI F.TIME.XTAL.XOFS) % 8 ≠ 0 ∧ t.getI F.TIME.XTAL.XOFS = s.getI F.TIME.XTAL.XOFS + (m - s.getI F.TIME.XTAL.XOFS) / 8 + 1)) ∧ t.time.learned = true) ∧
   (s.time.phase ≠ 0 → rateLimit s.time.asked ≠ rateLimit s.time.freq → s.Completes .phaseAmortised fun t => t.time = { s.time with phase := 0 } ∧ t.on F.TIME.STATUS.SLEWING = false ∧
     t.getI F.TIME.FREQ.VALUE = rateLimit s.time.freq ∧ t.getI F.TIME.PHASE.VALUE = 0))

/-! Interrupts. -/

/-- INTERRUPT_SOURCE_EVENT, CLAIM and COMPLETE (R435 to R438): an edge on a listed, unmasked source pends; a claim answers the source, and makes it active and no longer pending; a completion by
the target that claimed it ends it, any other sets CPL_ERR.
MODERATION_TIMEOUT, STORM_CLEAR, STORM_WINDOW_END and MRET (R441, R443, R529): at the end of its time a moderated line that still has a source to show rises; a masked source whose STORM bit is
written 1 is unmasked; a window's end comes at its instant and forgets its count; mret takes the core back to the normal bank. -/
def Obligations.Interrupts : Prop :=
 (∀ (s : State) (c n t : Nat) (level : Bool) (v : Word), c < 2 → n < 256 → t ≤ c → s.icUp c = true →
   (icListed c n = true → icLevelSense c n = false → s.on (stormF c n) = false → s.Completes (.interruptSourceEvent c n level) fun u => u.on (pendF c n) = true ∧ u.mem = s.mem) ∧
   (s.domRuns c = true → s.claimNext c t = some n → s.Completes (.claim c t) fun u => u.get (F.IC.CLAIM.ID c t) = n ∧ u.get (F.IC.CLAIM.VALID c t) = 1 ∧ u.on (pendF c n) = false ∧ u.on (activeF c n) = true ∧
     alFind (u.ic c).own n = some t ∧ alFind (u.ic c).asg n = none) ∧
   (s.domRuns c = true → s.claimNext c t = none → s.Completes (.claim c t) fun u => u.rw (F.IC.CLAIM.ALL c t).addr = 0 ∧ u.ic c = s.ic c) ∧
   (s.domRuns c = true → bitsOf v.toNat 7 0 = n → s.on (activeF c n) = true → alFind (s.ic c).own n = some t → s.Completes (.complete c t v) fun u => u.on (activeF c n) = false ∧ alFind (u.ic c).own n = none) ∧
   (s.domRuns c = true → bitsOf v.toNat 7 0 = n → (s.on (activeF c n) = false ∨ alFind (s.ic c).own n ≠ some t) → s.Completes (.complete c t v) fun u => u.on (F.IC.TSTAT.CPL_ERR c t) = true ∧ u.ic c = s.ic c)) ∧
 (∀ (s : State) (c n t k j core since : Nat) (w : Nat × Nat), c < 2 → n < 256 → t ≤ c → k < 8 → j < 32 → core < 2 →
   (alFind (s.ic c).timer t = some since →
     let u := (s.advancePlls (since + 250 * s.get (F.IC.MOD.TIME c t) - s.time.plls)).settle
     (alFind (u.ic c).timer t).isSome = true → u.on (F.IC.CTRL.EN c) = true → (n, t) ∈ (u.ic c).asg → u.on (activeF c n) = false → u.on (F.IC.SRC_CFG.CLASS c n) = false →
     s.Completes (.moderationTimeout c t) fun v => t ∈ (v.ic c).normal ∧ alFind (v.ic c).timer t = none ∧ v.mem = u.mem ∧ v.time = u.time) ∧
   (s.icUp c = true → s.domRuns c = true → s.Completes (.stormClear c k (1 <<< j)) fun u => u.on (stormF c (32 * k + j)) = false) ∧
   (alFind (s.ic c).storm n = some w →
     let u := (s.advancePlls (w.2 + 250 * s.get (F.IC.STORMCFG.WINDOW c) - s.time.plls)).settle
     s.Completes (.stormWindowEnd c n) fun v => alFind (v.ic c).storm n = none ∧ (∀ m, m ≠ n → alFind (v.ic c).storm m = alFind (u.ic c).storm m) ∧ v.regs = u.regs ∧ v.time = u.time) ∧
   (alFind (s.ic c).storm n = none → exec (.stormWindowEnd c n) s = .next s) ∧
   (s.domRuns 1 = true → s.on (F.SC.BANKCTL.CUR core) = true → s.sic.asg = [] → s.Completes (.mret core) fun u => u.on (F.SC.BANKCTL.CUR core) = false) ∧
   (s.on (F.SC.BANKCTL.CUR core) = false → exec (.mret core) s = .next s))

/-! Supplies, resets and start-up. -/

/-- PORN_LOW, VDDAO_FAIL, TESTEN_HIGH and HFRC_FAIL (R51, R54, R59): a class P reset. Every register takes its class P value, but the seal registers, which show the stored state; RAM reads as
unwritten; flash, keys, parameters, the slot selection, the audit trail and the records stay. Without VDD_AO, or with TESTEN high, every domain is held in reset. -/
def Obligations.ClassPReset : Prop := ∀ (s : State) (us : Nat), 10 ≤ us →
  let isP := fun (t : State) => (∀ a, a ≠ F.SEAL.STATUS.ALL.addr → a ≠ F.SEAL.COUNTER.ALL.addr → t.rw a = State.reset.rw a) ∧ t.on F.SEAL.STATUS.SEALED = s.sealc.stSealed ∧
    t.get F.SEAL.COUNTER.COUNT = s.sealc.stCount % 2 ^ 32 ∧ (∀ a, (isHRam a || isRet a || isSRam a) = true → t.ldB a = memDefault a) ∧
    (∀ a, (isHRam a || isRet a || isSRam a) = false → t.ldB a = s.ldB a) ∧ t.keys = s.keys ∧ t.sel = s.sel ∧ t.params = s.params ∧ t.audit.held = s.audit.held ∧
    t.audit.nextSeq = s.audit.nextSeq ∧ t.recs.ring = s.recs.ring ∧ t.sealc.fuses = s.sealc.fuses ∧ t.pairs = [] ∧ t.spn.jobs = [] ∧ t.cores = [] ∧
    t.time.t = 0 ∧ t.ctl = s.ctl ∧ t.kept = []
  s.Completes (.pornLow us) isP ∧ s.Completes .hfrcFail isP ∧ s.Completes .vddAoFail (fun t => isP t ∧ t.pins.vddAo = false ∧ t.pins.heldAo = true ∧ t.pins.heldH = true ∧ t.pins.heldS = true) ∧
  s.Completes (.testenHigh true) (fun t => isP t ∧ t.pins.heldAo = true ∧ t.pins.heldH = true ∧ t.pins.heldS = true) ∧
  exec (.pornLow 0) s = .next s

/-- HEARTWOOD_RAIL_LOSS and CLASS_H_RESET (R45, R59, R60, R70): Heartwood's state is cleared and a start becomes due; RST_CAUSE counts the reset and shows its cause, and COMMIT whether the
commit came first; the stored seal state applies. Sapwood runs on through the loss of a rail, and FROST, where it does not run, ends with it. -/
def Obligations.ClassHReset : Prop := ∀ (s : State) (rail cause us mv : Nat), s.pins.heldH = false → rail < 4 → cause < 2 →
  let cleared := fun (t : State) => t.pairs = [] ∧ t.spn.jobs = [] ∧ t.hic = Ic.reset ∧ t.time.fast = false ∧ t.boot.cls = 2 ∧ t.acq.seqs = [] ∧ t.fabric.chains = [] ∧ t.ring.entries = [] ∧
    t.gw.long = none ∧ (∀ a, isHRam a = true → t.ldB a = memDefault a) ∧ t.keys = s.keys ∧ t.params = s.params ∧ t.sealc = s.sealc ∧ t.on F.SEAL.STATUS.SEALED = s.sealc.stSealed
  s.Completes (.heartwoodRailLoss rail) (fun t => cleared t ∧ t.get F.FLT.RST_CAUSE.HCOUNT = min 0xFFFF (s.get F.FLT.RST_CAUSE.HCOUNT + 1) ∧ t.on F.FLT.RST_CAUSE.SUPPLY = true ∧
    t.get F.FLT.RST_CAUSE.RAIL = rail ∧ t.on F.FLT.RST_CAUSE.COMMIT = false ∧ t.pins.heldH = true ∧ t.season.frost = false ∧
    (s.season.frost = false → t.cores = s.cores ∧ t.tmr = s.tmr ∧ t.mac = s.mac ∧ t.sic = s.sic ∧ ∀ a, isSRam a = true → t.ldB a = s.ldB a)) ∧
  s.Completes (.classHReset cause us mv) (fun t => cleared t ∧ (cause = 1 → t.on F.FLT.RST_CAUSE.AUTH = true ∧ t.on F.FLT.RST_CAUSE.COMMIT = true) ∧ 
    (cause = 0 → t.on F.FLT.RST_CAUSE.FAULT = true ∧ t.on F.FLT.RST_CAUSE.COMMIT = decide (us ≤ 5000)))

/-- SRSTN_LOW, SRST_REQ and VDDSW_RETURN (R51, R59, R70): Sapwood's state and RAM are cleared, SRST_CAUSE counts the reset and shows its cause, and Heartwood runs on. -/
def Obligations.ClassSReset : Prop := ∀ (s : State) (us : Nat) (v : Word), 10 ≤ us → s.pins.heldAo = false →
  let isS := fun (f : Fld) (t : State) => t.get F.SEASON.SRST_CAUSE.SCOUNT = min 0xFFFF (s.get F.SEASON.SRST_CAUSE.SCOUNT + 1) ∧ t.on f = true ∧ t.cores = [] ∧ t.mac = [] ∧ t.sic = Ic.reset ∧
    t.host = State.reset.host ∧ t.tmr.grps = [] ∧ (∀ a, isSRam a = true → t.ldB a = memDefault a) ∧ (∀ a, isSRam a = false → t.ldB a = s.ldB a) ∧
    t.pairs = s.pairs ∧ t.spn = s.spn ∧ t.time = s.time ∧ t.audit = s.audit ∧ t.hic = s.hic ∧ t.sealc = s.sealc ∧ t.ring = s.ring
  (s.pins.vddSw = true → s.Completes (.srstnLow us) (isS F.SEASON.SRST_CAUSE.PIN)) ∧
  (s.domRuns 1 = true → v.toNat % 2 = 1 → v.toNat / 65536 = 0x5352 → s.Completes (.srstReq v) (isS F.SEASON.SRST_CAUSE.SW)) ∧
  ((s.domRuns 1 = false ∨ v.toNat % 2 = 0 ∨ v.toNat / 65536 ≠ 0x5352) → exec (.srstReq v) s = .next s) ∧
  (s.pins.vddSw = false → exec (.srstnLow us) s = .next s) ∧
  (s.pins.vddSw = false → s.Completes .vddSwReturn fun t => isS F.SEASON.SRST_CAUSE.SUPPLY t ∧ t.pins.vddSw = true)

/-- SUPPLY_GOOD, VDDSW_LOSS and VDDIOS_LOSS (R43 to R45, R54): the monitors' verdicts, and the domains they hold in reset; no memory, time or Heartwood state is touched. -/
def Obligations.SuppliesHold : Prop := ∀ (s : State) (sup : Nat), sup < 7 →
  let same := fun (t : State) => t.mem = s.mem ∧ t.time = s.time ∧ t.pairs = s.pairs ∧ t.spn = s.spn ∧ t.sealc = s.sealc ∧ t.audit = s.audit ∧ t.params = s.params
  let held := fun (t : State) => t.pins.heldAo = (!t.pins.vddAo || t.pins.testen) ∧ t.pins.heldH = (t.pins.heldAo || !(t.pins.vddHw && t.pins.vddaAcq && t.pins.vddaSd && t.pins.vddioH))
  (sup ≠ 5 → s.Completes (.supplyGood sup) fun t => same t ∧ held t ∧ t.pins.vddAo = (sup == 0 || s.pins.vddAo) ∧ t.pins.vddHw = (sup == 1 || s.pins.vddHw) ∧
    t.pins.vddaAcq = (sup == 2 || s.pins.vddaAcq) ∧ t.pins.vddaSd = (sup == 3 || s.pins.vddaSd) ∧ t.pins.vddioH = (sup == 4 || s.pins.vddioH) ∧ t.pins.vddSw = s.pins.vddSw ∧
    t.pins.vddioS = (sup == 6 || s.pins.vddioS) ∧ t.pins.testen = s.pins.testen) ∧
  (s.Completes .vddSwLoss fun t => same t ∧ held t ∧ t.pins.vddSw = false ∧ t.pins.heldS = true ∧ t.cores = [] ∧ t.pins.vddHw = s.pins.vddHw ∧
    (s.gw.check ≠ none → t.gw.check = none ∧ t.get F.GW.CMD_STATE.STATE = 0)) ∧
  (s.Completes .vddioSLoss fun t => same t ∧ held t ∧ t.pins.vddioS = false ∧ t.pins.vddSw = s.pins.vddSw ∧ t.cores = s.cores ∧ t.host = s.host)

/-- START_UP_SEQUENCE and BANK_CAPACITANCE_CHECK (R63 to R66, R101, R556): a start that is due reseeds the seal pattern, runs the fast time base and comes to step 5, or to step 4 without an image. Its end, when
the reserve reaches its threshold, or after 10 s, or at once without a shunt, shows the verdict on the bank, takes its capacitance, and lets Spindle run.
SAPWOOD_BOOT and SC1_BOOT (R67, R531, R532): after the repair of its flash Sapwood runs the newer of its valid firmware slots, or its ROM with the host engine enabled; SC1 starts where
software asks, unless it runs. A domain that is held or gated does neither. -/
def Obligations.StartUpAndBoot : Prop :=
 (∀ (s : State) (seed cut faults : Nat) (samples : List (Nat × Int)), s.pins.heldH = false →
   let ended := fun (v : Nat × (Nat × Nat)) (t : State) => t.get F.FLT.BOOT_STATUS.GAUGE = v.1 ∧ t.boot.cUse = v.2.1 ∧ t.boot.cMeas = v.2.2 ∧ t.get F.FLT.BOOT_STATUS.STEP = 7 ∧
     t.on F.FLT.BOOT_STATUS.READY = true ∧ t.on F.SPN.STATUS.RUN = true ∧ t.boot.cls = 0 ∧ t.audit.startOpen = false ∧ t.time = s.time ∧ t.pairs = s.pairs ∧ t.sealc = s.sealc
   (s.boot.cls ≠ 0 → s.get F.FLT.BOOT_STATUS.STEP < 3 → s.pins.heldAo = false → cut ≤ 12 → s.Completes (.startUpSequence seed cut faults) fun t => t.time.fast = true ∧
     t.sealc.lfsr = (if seed % 2 ^ 15 = 0 then 1 else BitVec.ofNat 15 seed) ∧ t.pins = s.pins ∧
     (t.get F.FLT.BOOT_STATUS.STEP = 5 ∨ t.get F.FLT.BOOT_STATUS.STEP = 4 ∧ t.boot.noImage = true ∧ t.get F.FLT.BOOT_STATUS.SLOT = 0)) ∧
   (s.starting = true →
     (s.chip 0x14 4 = 0 ∨ s.capReady = false ∧ s.boot.waitAt + 10 * secT ≤ s.time.t → s.Completes (.bankCapacitanceCheck samples) (ended (3, 85 * s.chip 8 4, 0))) ∧
     (s.chip 0x14 4 ≠ 0 → s.capReady = true → s.Completes (.bankCapacitanceCheck samples) (ended (s.capTest samples).2)) ∧
     (s.chip 0x14 4 ≠ 0 → s.capReady = false → s.time.t < s.boot.waitAt + 10 * secT → exec (.bankCapacitanceCheck samples) s = .next s))) ∧
 (∀ (s : State) (v : Word),
   (s.pins.heldS = false → s.pins.vddioS = true → s.pins.heldAo = false → s.season.gated = false → s.coreRuns 0 = false →
     let u := (s.sysOn.repair 1).1
     let newer := decide (u.ldN (swSlotBase 1 + 4) 4 < u.ldN (swSlotBase 2 + 4) 4)
     let slot := if u.swSlotValid 1 && !(u.swSlotValid 2 && newer) then 1 else if u.swSlotValid 2 then 2 else 0
     s.Completes .sapwoodBoot fun t => t.coreRuns 0 = true ∧ t.get F.SEASON.SBOOT.SLOT = slot ∧ (alGet Core.reset t.cores 0).start = (if slot = 0 then 0x4000 else u.ldN (swSlotBase slot + 16) 4) ∧
       t.on F.SEASON.SBOOT.A_BAD = !u.swSlotValid 1 ∧ t.on F.SEASON.SBOOT.B_BAD = !u.swSlotValid 2 ∧ (slot = 0 → t.on F.HOST.CFG.EN = true) ∧ t.time.sys = true) ∧
   ((s.pins.heldS = true ∨ s.pins.vddioS = false ∨ s.season.gated = true) → exec .sapwoodBoot s = .next s) ∧
   (s.domRuns 1 = true → v.toNat % 2 = 1 → s.coreRuns 1 = false → s.Completes (.sc1Boot v) fun t => t.coreRuns 1 = true ∧ (alGet Core.reset t.cores 1).start = v.toNat / 4 * 4 ∧
     t.get F.SEASON.SC1_BOOT.ADDR = v.toNat / 4 ∧ t.coreRuns 0 = s.coreRuns 0) ∧
   (s.domRuns 1 = true → (v.toNat % 2 = 0 ∨ s.coreRuns 1 = true) → s.Completes (.sc1Boot v) fun t => t.cores = s.cores ∧ t.get F.SEASON.SC1_BOOT.ADDR = v.toNat / 4) ∧
   (s.domRuns 1 = false → exec (.sc1Boot v) s = .next s))

/-! Seasons and clocks. -/

/-- SAPWOOD_GATE, WINTER_ENTRY and FROST_ENTRY (R56, R346 to R352, R441, R443): where the conditions of the manual hold, Sapwood is gated; the PLLs stop and the sleep counter carries time; Heartwood and
Sapwood are powered down with HFXO off, the balls keeping their levels. -/
def Obligations.GoingToSleep : Prop := ∀ (s : State) (slept : Asleep) (trig us mv : Nat), trig < 3 →
  (s.pins.heldS = false → s.pins.heldAo = false → s.season.gated = false → s.coreRuns 0 = true →
    let u := s.coresWait
    u.on F.SEASON.REQ.SLEEP = true → u.coreAwake 0 = false → u.coreAwake 1 = false → u.sapwoodBusy = false → u.aocPending 1 = false →
    s.Completes .sapwoodGate fun t => t.season.gated = true ∧ t.tmr.gateAt = s.time.plls ∧ t.time = s.time ∧ t.mem = s.mem ∧ t.pairs = s.pairs) ∧
  (s.time.fast = true → s.winterOk = true → s.Completes .winterEntry fun t => t.time = { s.time with fast := false, sys := false } ∧ t.on F.CLK.STATUS.SYS_LOCK = false ∧ t.on F.CLK.STATUS.ACQ_LOCK = false ∧
    t.on F.CLK.STATUS.AUX_LOCK = false ∧ t.on F.TIME.STATUS.SRC = true ∧ t.hic.storm = [] ∧ t.hic.timer = [] ∧ t.season.waking = false ∧ t.mem = s.mem ∧ t.pairs = s.pairs) ∧
  ((s.passed slept).frostOk = true → s.Completes (.frostEntry slept trig us mv) fun t =>
    t.season.frost = true ∧ t.season.gated = true ∧ t.time.fast = false ∧ t.time.sys = false ∧ t.on F.CLK.STATUS.HFXO_ON = false ∧ t.spn.cold = List.range 8 ∧ t.kept.map Prod.fst = keptBalls ∧ t.pins = s.pins ∧
      t.keys = s.keys)

/-- SPINDLE_ALARM, SEASON_ALARM, THAW_WINTER and THAW_FROST (R298, R353 to R356, R447): an alarm comes by the sleep counter; a wake by a source that may wake brings the fast time base
back, with the time the sleep counter and HFXO carried, and clears the alarm. -/
def Obligations.Waking : Prop := ∀ (s : State) (src lag ta : Nat) (slept : Asleep) (intact x32 : Bool), src < 12 →
  let clock := fun (t : State) => ((t.set F.CLK.STATUS.SYS_LOCK 1).xtalBack x32).asleep slept
  let u := s.sleepTo (ta - lag)
  let d := (s.get F.SEASON.ALARM.SEC + 2 ^ 32 - s.sec % 2 ^ 32) % 2 ^ 32
  (s.season.alarm = some ta → s.time.fast = false → lag < s.sleepPeriod → (s.season.frost = false ∨ u.eFloor + 100000000 * fpOne ≤ u.reserve) →
    s.Completes (.spindleAlarm lag) fun t => t.time.t = max s.time.t (ta - lag) ∧
      t.season.alarm = none ∧ t.season.waking = true ∧ t.get F.SEASON.WAKESRC.SRC = 1 ∧ t.get F.SEASON.STATE.LAST = s.get F.SEASON.STATE.SEASON ∧ t.mem = s.mem ∧ t.pairs = s.pairs) ∧
  (s.time.fast = false → s.on (stormF 1 26) = false → s.Completes .seasonAlarm fun t => t.time.t = max s.time.t ((s.sec + d) * secT) ∧ t.on (pendF 1 26) = true ∧ t.pairs = s.pairs) ∧
  (s.time.fast = false → s.season.frost = false → s.on F.CLK.STATUS.HFXO_ON = true → s.pins.heldH = false → s.boot.cls = 0 → s.wakes src = true →
    s.Completes (.thawWinter src slept x32) fun t => t.time.fast = true ∧ t.time.t = (clock (s.wakeBy src)).time.t ∧ t.season.waking = false ∧ t.season.alarm = none ∧ t.pins = s.pins ∧ t.params = s.params) ∧
  (s.season.frost = true → s.wakes src = true → s.pins.heldH = false → s.Completes (.thawFrost src slept intact x32) fun t => t.time.fast = true ∧ s.time.t ≤ t.time.t ∧ t.season.frost = false ∧
    t.season.waking = false ∧ t.season.alarm = none ∧ t.kept = [] ∧ t.pins = s.pins ∧ t.params = s.params)

/-- XTAL32_FAIL, HFXO_FAIL, HFXO_RESTART and PLL_UNLOCK (R28, R362, R392): a failed crystal is shown and LFRC takes over; the loss of a clock that is in use is safe state with cause 0b010 and
time on the sleep counter, once Heartwood has started; a restart of HFXO is a wake.
INTERCONNECT_FAULT, HSC_WATCHDOG_EXPIRY and SAFE_EXIT (R392 to R394, R429): a fault of the interconnect or of HSC is safe state with its cause, below the count that R393 answers with a
reset; safe state ends where its cause can clear. -/
def Obligations.ClocksAndSafeState : Prop :=
 (∀ (s : State) (pll : Nat) (slept : Asleep) (freq x32 : Bool), pll < 3 →
   let lost := fun (t : State) => t.on F.FLT.STATUS.SAFE = true ∧ t.get F.FLT.STATUS.CAUSE = 2 ∧ t.time.fast = false ∧ t.pins = s.pins ∧ t.params = s.params
   (s.season.lfrc = false → s.Completes .xtal32Fail fun t => t.season.lfrc = true ∧ t.get F.CLK.FAIL.X32_FAIL = 1 ∧ t.time = s.time ∧ t.mem = s.mem) ∧
   (s.on F.CLK.STATUS.HFXO_ON = true → s.pins.heldAo = false → s.boot.cls = 0 → s.Completes .hfxoFail lost) ∧
   (s.on F.CLK.STATUS.HFXO_ON = false → s.season.frost = false → s.time.fast = false → s.pins.heldH = false → s.boot.cls = 0 →
     s.Completes (.hfxoRestart true slept x32) fun t => t.time.fast = true ∧
       t.time.t = ((((s.set F.CLK.STATUS.HFXO_ON 1).set F.CLK.STATUS.SYS_LOCK 1).xtalBack x32).asleep slept).time.t ∧ t.season.alarm = none) ∧
   (s.on (pllLock pll) = true → s.pllUsed pll = true → s.boot.cls = 0 → s.Completes (.pllUnlock pll freq) lost) ∧
   (s.on (pllLock pll) = true → s.pllUsed pll = false → s.Completes (.pllUnlock pll freq) fun t => t.get (if freq then F.CLK.FAIL.FREQ else pllFlag pll) = 1 ∧ t.on (pllLock pll) = false ∧
     t.time = s.time ∧ t.mem = s.mem)) ∧
 (∀ (s : State) (master addr cause us : Nat) (pc : Word),
   let safe := fun (c : Nat) (t : State) => t.on F.FLT.STATUS.SAFE = true ∧ t.get F.FLT.STATUS.CAUSE = c ∧ t.pins = s.pins ∧ t.keys = s.keys ∧ t.params = s.params
   (Instr.wf (.interconnectFault master addr) = true → s.fabricClock = true → s.boot.cls = 0 → s.flt.safe1 < 2 → s.Completes (.interconnectFault master addr) fun t => safe 1 t ∧ t.flt.safe1 = s.flt.safe1 + 1 ∧
     t.flt.safeAt = s.time.t) ∧
   (Instr.wf (.hscWatchdogExpiry cause addr pc) = true → s.hscRuns = true → s.time.fast = true → (cause = 1 → s.hscHalted = false) → s.boot.cls = 0 → s.flt.safe3 = 0 →
     s.Completes (.hscWatchdogExpiry cause addr pc) fun t => safe 3 t ∧ t.hscHalted = false) ∧
   (s.safeMayEnd = true → s.Completes (.safeExit us) fun t => t.on F.FLT.STATUS.SAFE = false ∧ t.get F.FLT.STATUS.CAUSE = 0 ∧ t.pins = s.pins ∧ t.keys = s.keys))

/-! Chip faults. -/

/-- HSC_WDT_KICK, SCRUB and REG_PARITY (R394 to R397): the key restarts the watchdog and another value does nothing; a corrected word is counted, an uncorrectable one stays bad; a
sealed field that fails parity is reloaded from its source. -/
def Obligations.ScrubAndParity : Prop := ∀ (s : State) (mem addr bit hi lo : Nat) (r : RegSpec) (v : Word),
  (v.toNat % 65536 = 0x4B1D → s.Completes (.hscWdtKick v) fun t => t.wdt.hscAt = s.time.t ∧ t = { s with wdt := t.wdt }) ∧
  (v.toNat % 65536 ≠ 0x4B1D → exec (.hscWdtKick v) s = .next s) ∧
  (Instr.wf (.scrub mem addr 1) = true → s.scrubs mem addr = true → s.Completes (.scrub mem addr 1) fun t => t.get F.FLT.ECC.CORR = min F.FLT.ECC.CORR.max (s.get F.FLT.ECC.CORR + 1) ∧
    t = { s with regs := t.regs } ∧ ∀ a, a ≠ F.FLT.ECC.CORR.addr → t.rw a = s.rw a) ∧
  (Instr.wf (.scrub mem addr 2) = true → s.scrubs mem addr = true → s.Completes (.scrub mem addr 2) fun t => t.badIn (scrubAt mem addr) 8 = true ∧ t.mem = s.mem ∧ t.pairs = s.pairs) ∧
  (Instr.wf (.regParity addr bit) = true → s.pins.heldH = false → 5 ≤ s.get F.FLT.BOOT_STATUS.STEP → s.parityKept addr bit = true → findSpec regTable addr = some r → fieldAt bit r.fields = some (hi, lo) → hi < 32 →
    s.Completes (.regParity addr bit) fun t => t.get ⟨addr, hi, lo⟩ = bitsOf (s.paritySource addr) hi lo % 2 ^ (hi + 1 - lo) ∧ t.mem = s.mem ∧ t.time = s.time ∧ t.pairs = s.pairs)

/-! Spindle, the trigger matrix and the records. -/

/-- JOB_ADMISSION and JOB_ABANDON (R330, R331, R333, R341): the job that is decided first, released or (at its own admission instant) before its cycle, is admitted where its three tests pass, and is turned
away where its region is down; a job that was not dispatched by its deadline less WCET is gone at that instant.
RECORD_SNAPSHOT and INTERVAL_RECORD (R249, R407, R520): the interval that is due for a region is taken, its snapshots joining those that wait; the oldest of these becomes a record at the
next index, after one index for each failure. -/
def Obligations.SpindleAndRecords : Prop :=
 (∀ (s : State) (k n ta : Nat) (j : Job), k < 256 →
   (s.on F.SPN.STATUS.RUN = true → s.spn.held = false → k < s.ntask →
     (alFind s.spn.jobs k = some j ∧ j.st = 0 ∧ s.firstUndecided = some k ∧ n = j.cycle ∧ ta = s.time.t ∨
      alFind s.spn.jobs k = none ∧ s.decidesNext k = true ∧ n = s.nextCycle ∧ ta = s.admitAt k s.nextCycle) →
     let u := (s.advanceTo ta).settle
     let v := u.stepsApply k n
     let c := v.candidate k n ta
     (u.regionUp (u.taskRegion k) = true → u.stepOn k 1 = false → v.timeTest k c = true → v.energyTest c.ta c.charge = true → v.heatTest = true →
       s.Completes (.jobAdmission k) fun t => alFind t.spn.decided k = some n ∧ t.time = u.time ∧
         (if n ≤ s.time.cycle then alFind t.spn.jobs k = some c else alFind t.spn.early k = some c)) ∧
     (u.regionUp (u.taskRegion k) = false → s.Completes (.jobAdmission k) fun t => alFind t.spn.decided k = some n ∧ (n ≤ s.time.cycle → alFind t.spn.jobs k = none))) ∧
   (alFind s.spn.jobs k = some j → (j.st = 1 ∨ j.st = 3) → s.Completes (.jobAbandon k) fun t => alFind t.spn.jobs k = none ∧ t.time.t = max s.time.t (j.dl - s.taskWcet k * 65536))) ∧
 (∀ (s : State) (p i fails cfails : Nat) (x : Snapshot) (xs : List Snapshot), p < 8 →
   (s.dueInterval p = some i → s.regions.contains p = true → s.intervalEnded p i = true → s.Completes (.recordSnapshot p) fun t => alFind t.recs.snapNext p = some (i + 1) ∧
     (∃ new, t.recs.snaps = s.recs.snaps ++ new ∧ ∀ y, y ∈ new → y.region = p ∧ y.num = i) ∧ t.time = s.time ∧ t.sealc = s.sealc) ∧
   (s.recs.snaps = x :: xs → (!s.hscUp || s.hscHalted || s.spn.held || s.spn.trig.isSome || (s.on F.FLT.STATUS.SAFE && s.get F.FLT.STATUS.CAUSE == 3) || decide (s.space < s.spaceNeeded)) = false →
     fails < 4 → cfails < 4 → s.Completes (.intervalRecord fails cfails) fun t => t.recs.nextIndex = s.recs.nextIndex + fails + 1 ∧ t.recs.snaps = xs ∧ t.recs.gen = s.recs.gen + cfails + 1 ∧ t.time = s.time))

/-- GAUGE_SAMPLE, POWER_FAIL_COMMIT, ENERGY_SCALE_UPDATE and TEMPERATURE_SAMPLE (R47, R48, R322, R325, R327, R329): a valid code is kept among the last four and shown; at the floor it is the
trigger; a power-fail commit stops acquisition and sets PFAIL; a Heartwood second begins new sums and keeps K between 1/1 and 4/1; twelve temperatures are shown and move the thermal state. -/
def Obligations.SpindleMeasures : Prop := ∀ (s : State) (code us : Nat) (isns : Int) (cut : Bool) (temps : List Int) (mv : Nat),
  (s.pins.heldAo = false → code < 4095 → -2048 ≤ isns → isns < 2048 →
    let v := (s.setI F.GAUGE.IIN.UA (s.currentUa isns)).ethMa.gaugeTake code isns
    s.Completes (.gaugeSample code isns) fun t => t.spn.codes = (code :: s.spn.codes).take 4 ∧ t.get F.GAUGE.VSTORE.CODE = code ∧ t.on F.GAUGE.STATUS.VALID = true ∧ t.mem = s.mem ∧ t.pairs = s.pairs ∧
      (s.on F.SPN.STATUS.RUN = true → s.spn.held = false → s.season.frost = false → s.spn.trig = none → v.reserve ≤ v.eFloor → t.spn.trig = some (v.get F.GAUGE.VSTORE.MV)) ∧
      (s.spn.held = false → v.eFloor < v.reserve → t.spn.trig = s.spn.trig)) ∧
  (s.pins.heldAo = false → -2048 ≤ isns → isns < 2048 → s.Completes (.gaugeSample 4095 isns) fun t => t.on F.GAUGE.STATUS.SNS_OVR = true ∧ t.spn = s.spn) ∧
  (s.spn.trig = some mv → s.hscRuns = true → s.Completes (.powerFailCommit us cut) fun t => t.on F.SPN.STATUS.PFAIL = true ∧ t.acq = { s.acq with seqs := [], lanes := [], chTo := [], bursts := [] } ∧
    t.time = s.time ∧ t.sealc = s.sealc) ∧
  (s.on F.SPN.STATUS.RUN = true → s.Completes .energyScaleUpdate fun t => t.time.t = max s.time.t ((s.spn.nSec + 1) * secT) ∧ t.spn.nSec = t.sec ∧ t.spn.inSec = 0 ∧ t.spn.chSec = 0 ∧
    256 ≤ t.get F.SPN.ESCALE.K ∧ t.get F.SPN.ESCALE.K ≤ 1024) ∧
  (temps.length = 12 → s.pins.heldH = false → s.season.frost = false → s.Completes (.temperatureSample temps) fun t => (∀ n, n < 12 → t.get (F.SPN.TEMP.TEMP n) = utwo 16 (temps.getD n 0)) ∧
    t.get F.SPN.STATUS.THERM = thermNext (s.get F.SPN.STATUS.THERM) t.tmax (s.chip 0x2C 2) ∧ t.mem = s.mem ∧ t.time = s.time)

/-- TRIGGER_MATCH, COMPARATOR_WRITE, CYCLE_INSTANT and TIME_STEP_APPLY (R300, R303 to R305, R309): the next match and the next instant come at their times; a comparator's write takes effect
unless it is locked, and what it replaced is kept for the microsecond it still governs; a step moves time by its amount, at the end of a lane tick or at the 100 ms point; it waits while a match comes first. -/
def Obligations.GridAndMatches : Prop := ∀ (s : State) (n reg tm : Nat) (c : CmpOld) (late : Bool) (x : TStep) (v : Word), n < 32 → reg < 6 →
  (s.nextMatch n = some (c, tm, late) → s.Completes (.triggerMatch n) fun t => alFind t.time.last n = some tm ∧ t.time.t = max s.time.t tm) ∧
  (s.nextMatch n = none → exec (.triggerMatch n) s = .next s) ∧
  (s.on (F.TIME.CMPCTRL.LOCK n) = true → exec (.comparatorWrite n reg v) s = .next s) ∧
  (s.on (F.TIME.CMPCTRL.LOCK n) = false → s.Completes (.comparatorWrite n reg v) fun t => s.cmpSet n ∈ t.time.cmps ∧ t.time.t = s.time.t ∧ t.mem = s.mem ∧
    (reg = 0 → bitsOf v.toNat 1 0 ≠ 3 → t.get (F.TIME.CMPCTRL.MODE n) = bitsOf v.toNat 1 0) ∧
    (reg = 0 → bitsOf v.toNat 1 0 = 3 → t.get (F.TIME.CMPCTRL.MODE n) = s.get (F.TIME.CMPCTRL.MODE n)) ∧
    (reg = 0 → t.get (F.TIME.CMPCTRL.IRQ n) = bitsOf v.toNat 2 2 ∧ t.get (F.TIME.CMPCTRL.SPN n) = bitsOf v.toNat 3 3) ∧
    (reg = 1 → t.get (F.TIME.CMPOFS.OFFSET n) = if v.toNat < s.cycleNs then v.toNat else s.get (F.TIME.CMPOFS.OFFSET n)) ∧
    (3 < reg → t.get (F.TIME.CMPABS.ALL n (reg - 3)) = v.toNat)) ∧
  (s.instantsRun = true → s.Completes .cycleInstant fun t => t.time.cycle = s.nextCycle ∧ t.time.t = max s.time.t (s.nextCycle * s.cycleT)) ∧
  (s.instantsRun = false → exec .cycleInstant s = .next s) ∧
  (s.time.step = some x → (s.acq.seqs.isEmpty && !s.matchNear (laneTick s.time.t) && decide (laneTick s.time.t ≤ x.latest)) = true →
    s.Completes .timeStepApply fun t => t.time.t = shiftT x.amount (laneTick s.time.t) ∧ t.time.step = none ∧ t.time.floor = t.time.t) ∧
  (s.time.step = some x → (s.acq.seqs.isEmpty && !s.matchNear (laneTick s.time.t) && decide (laneTick s.time.t ≤ x.latest)) = false →
    s.stepWaits x = true → exec .timeStepApply s = .next s) ∧
  (s.time.step = some x → (s.acq.seqs.isEmpty && !s.matchNear (laneTick s.time.t) && decide (laneTick s.time.t ≤ x.latest)) = false →
    s.stepWaits x = false →
    s.Completes .timeStepApply fun t => t.time.t = shiftT x.amount (max s.time.t x.latest) ∧ t.time.step = none ∧ t.acq.seqs = []) ∧
  (s.time.step = none → exec .timeStepApply s = .next s)

/-! Timers. -/

/-- COMPARE_MATCH, PERIOD_END, TMR_START and TMR_STOP (R449 to R451, R454, R457): the group moves to the tick on which the counter next matches or ends a period, and the registers show every
counter as it then stands; START and STOP set and clear RUN of the counters named.
WDT_KICK, WDT_WARN and WDT_LIMIT (R458): the key restarts the count and another value does nothing; the warning shows once; the limit is a class S reset with its cause. -/
def Obligations.Counters : Prop :=
 (∀ (s : State) (g i n m : Nat) (x : TcGroup) (v : Word), g < 4 → i < 8 → m < 8 →
   let shown := fun (t : State) => t.get (F.TMR.COUNT.COUNT g m) = (x.c m).count % 2 ^ 32 ∧ t.on (F.TMR.STATUS.CMP g m) = (x.c m).sCmp ∧ t.on (F.TMR.STATUS.PER g m) = (x.c m).sPer ∧
     t.on (F.TMR.STATUS.OUT g m) = (x.c m).out ∧ t.on (F.TMR.STATUS.DIR g m) = (x.c m).dir
   (s.tmrRuns = true → (s.tmrLoad g).find false i (2 ^ 80) 0 = some (n, x) → s.Completes (.compareMatch g i) fun t => shown t ∧ t.on (F.TMR.STATUS.CMP g i) = true) ∧
   (s.tmrRuns = true → (s.tmrLoad g).find true i (2 ^ 80) 0 = some (n, x) → s.Completes (.periodEnd g i) fun t => shown t ∧ t.on (F.TMR.STATUS.PER g i) = true) ∧
   (s.domRuns 1 = true → s.Completes (.tmrStart g v) fun t => t.on (F.TMR.CTRL.RUN g m) = (v.toNat.testBit m || s.on (F.TMR.CTRL.RUN g m)) ∧ t.mem = s.mem ∧ t.time = s.time) ∧
   (s.domRuns 1 = true → s.Completes (.tmrStop g v) fun t => t.on (F.TMR.CTRL.RUN g m) = (!v.toNat.testBit m && s.on (F.TMR.CTRL.RUN g m)) ∧ t.mem = s.mem ∧ t.time = s.time)) ∧
 (∀ (s : State) (v : Word),
   (v.toNat % 65536 = 0x5744 → s.domRuns 1 = true → s.Completes (.wdtKick v) fun t => t.get F.TMR.WDT_STAT.ELAPSED = 0 ∧ t.tmr.wdtAt = s.sapPlls ∧ t.tmr.grps = s.tmr.grps ∧ t.mem = s.mem) ∧
   ((v.toNat % 65536 ≠ 0x5744 ∨ s.domRuns 1 = false) → exec (.wdtKick v) s = .next s) ∧
   (s.wdtRuns = true → s.get F.TMR.WDT_CFG.WARN ≠ 0 → s.get F.TMR.WDT_CFG.WARN < s.get F.TMR.WDT_CFG.LIMIT → s.get F.TMR.WDT_STAT.ELAPSED < s.get F.TMR.WDT_CFG.WARN →
     s.Completes .wdtWarn fun t => t.on F.TMR.WDT_STAT.WARNED = true ∧ t.get F.TMR.WDT_STAT.ELAPSED = s.get F.TMR.WDT_CFG.WARN) ∧
   (s.wdtRuns = true → s.Completes .wdtLimit fun t => t.on F.SEASON.SRST_CAUSE.WDT = true ∧ t.cores = [] ∧ t.mac = [] ∧ t.sic = Ic.reset ∧ t.host = State.reset.host ∧
     (∀ a, isSRam a = true → t.ldB a = memDefault a) ∧ t.sealc = s.sealc))

/-! Flash service routines: dom 0 is Heartwood, 1 Sapwood. -/

/-- FLASH_READ and FLASH_PROGRAM (R403 to R407): a call returns what its words gave; a word that reads soundly reaches its destination; a blank word takes the word programmed, one that is not
blank keeps its bytes, and one that fails to verify shows PROG_FAIL. Bad arguments are refused. -/
def Obligations.FlashWords : Prop := ∀ (s u : State) (dom core addr n buf : Nat) (corr uncorr : List Nat) (fail cut : Option Nat) (bs : List Byte),
  dom < 2 → core < 2 → (dom = 1 ∨ core = 0) → s.flRuns dom = true →
  let ret := fun (t : State) (st : Nat) (a1 : Option Nat) => (t.fa dom).ret = (st, a1)
  let good := addr % 16 = 0 ∧ 0 < n ∧ n ≤ 256 ∧ inArray dom addr (16 * n) = true
  (¬ good → (s.Completes (.flashRead dom core addr n buf corr uncorr false) fun t => ret t 0x26 none ∧ t.mem = s.mem) ∧
    (s.Completes (.flashProgram dom core addr n buf fail cut false) fun t => ret t 0x26 none ∧ t.mem = s.mem)) ∧
  (good → flReadable dom addr (16 * n) = true →
    let r := s.flReads dom core addr buf corr uncorr n 0 (0, 0)
    r.2.2 = true → s.Completes (.flashRead dom core addr n buf corr uncorr false) fun t => ret t r.2.1.1 (some r.2.1.2) ∧ t.mem = r.1.mem) ∧
  (good → n = 1 → flReadable dom addr 16 = true → (s.fa dom).isUndef (flTag dom addr) = false → (s.fa dom).inErase (addr - flBase dom) = false → (dom = 1 ∨ 0x08100000 ≤ addr ∧ addr < 0x08300000 ∨ 0x08400000 ≤ addr) →
    (∀ w, w < 4 → s.accessKind dom core true (buf + 4 * w) 4 = 0) →
    s.Completes (.flashRead dom core addr n buf [] [] false) fun t => ret t 0 (some 0) ∧ t.ldBytes (tag dom buf) 16 = s.ldBytes (flTag dom addr) 16) ∧
  (good → s.flRefuse dom addr (16 * n) false = none → s.busLoad dom core buf (16 * n) = (u, some bs) →
    let r := u.flPrograms dom addr fail cut (words16 n bs) 0
    r.2.2 = true → s.Completes (.flashProgram dom core addr n buf fail cut false) fun t => ret t r.2.1.1 (some r.2.1.2) ∧ t.mem = r.1.mem) ∧
  (good → n = 1 → s.flRefuse dom addr 16 false = none → s.busLoad dom core buf 16 = (u, some bs) →
    (u.flBlank dom addr = true → s.Completes (.flashProgram dom core addr n buf none none false) fun t => ret t 0 (some 1) ∧ t.ldBytes (flTag dom addr) 16 = bs ∧
      ∀ a, a < flTag dom addr ∨ flTag dom addr + 16 ≤ a → t.ldB a = s.ldB a) ∧
    (u.flBlank dom addr = false → s.Completes (.flashProgram dom core addr n buf none none false) fun t => ret t 0x21 (some 0) ∧ t.mem = s.mem) ∧
    (u.flBlank dom addr = true → s.Completes (.flashProgram dom core addr n buf (some 0) none false) fun t => ret t 0x22 (some 0) ∧ t.on (F.FLASH.STATUS.PROG_FAIL dom) = true ∧ t.mem = s.mem))

/-- FLASH_ERASE, ERASE_END, FLASH_STATUS, SUSPEND and RESUME (R403, R408 to R411): an erase begins and is pending; its end leaves the sector's bytes erased and every other byte, or undefined with
its result; STATUS reports the erase; an erase is suspended and resumed.
UNLOCK, LOCK, SETPW, ZONECFG, ECNT, MARGIN and MARGIN_SCRUB_PASS (R402, R414, R417, R419, R420): the password of an area unlocks it and another counts as a failure; LOCK locks it; the old
password sets a new one; Sapwood's own calls; a scrub pass moves on. A call made while another runs is BUSY. -/
def Obligations.FlashErasesAndAreas : Prop :=
 (∀ (s : State) (dom addr : Nat) (e : Erase), dom < 2 →
   let ret := fun (t : State) (st : Nat) (a1 : Option Nat) => (t.fa dom).ret = (st, a1)
   (s.flRuns dom = true → addr % 0x1000 = 0 → inArray dom addr 0x1000 = true → s.flRefuse dom addr 0x1000 true = none → s.Completes (.flashErase dom addr false) fun t => ret t 0x10 none ∧
     (∃ x, (t.fa dom).erase = some x ∧ x.sector = (addr - flBase dom) / 0x1000 ∧ x.kind = 1 ∧ x.susp = false) ∧ t.mem = s.mem) ∧
   ((s.fa dom).erase = some e → e.susp = false → (dom = 0 → s.gw.clear = none) → s.Completes (.eraseEnd dom true) fun t => (t.fa dom).lastResult = 0 ∧
     (∀ z a, z ∈ eraseSectors e.kind e.sector → sectorAddr dom z ≤ a → a < sectorAddr dom z + 0x1000 → t.ldB a = memDefault a) ∧
     (∀ a, (∀ z, z ∈ eraseSectors e.kind e.sector → a < sectorAddr dom z ∨ sectorAddr dom z + 0x1000 ≤ a) → t.ldB a = s.ldB a)) ∧
   ((s.fa dom).erase = some e → e.susp = false → (dom = 1 ∨ 12 ≤ sectorZone e.sector) → s.Completes (.eraseEnd dom false) fun t => (t.fa dom).lastResult = 0x23 ∧
     ∀ z, z ∈ eraseSectors e.kind e.sector → (sectorAddr dom z, 0x1000) ∈ (t.fa dom).undef) ∧
   (s.flRuns dom = true → s.Completes (.flashStatus dom false) fun t =>
     ret t 0 (some ((if (s.fa dom).erasing then 1 else if (s.fa dom).erase.isSome then 2 else 0) + 256 * (s.fa dom).lastResult)) ∧ t.mem = s.mem) ∧
   (s.flRuns dom = true → (s.fa dom).erase = some e → e.susp = false → s.Completes (.suspend dom false) fun t => ret t 0 none ∧ (t.fa dom).erase = some { e with susp := true } ∧ t.mem = s.mem) ∧
   (s.flRuns dom = true → (s.fa dom).erase = some e → e.susp = true → s.Completes (.resume dom false) fun t => ret t 0 none ∧ (t.fa dom).erase = some { e with susp := false, byCommit := false } ∧ t.mem = s.mem) ∧
   (s.flRuns dom = true → (s.fa dom).erase = none → (s.Completes (.suspend dom false) fun t => ret t 0x26 none) ∧ s.Completes (.resume dom false) fun t => ret t 0x26 none)) ∧
 (∀ (s u v : State) (dom core area buf old zone mode addr weak corr uncorr stop : Nat) (bs os : List Byte) (us : List Nat),
   dom < 2 → core < 2 → (dom = 1 ∨ core = 0) → s.flRuns dom = true →
   let ret := fun (t : State) (st : Nat) (a1 : Option Nat) => (t.fa dom).ret = (st, a1)
   (s.flArea dom area true = none → s.busLoad dom core buf 16 = (u, some bs) →
     (bs = (u.fa dom).password area → s.Completes (.unlock dom core area buf false) fun t => ret t 0 (some 8) ∧ (t.fa dom).locked area = false ∧ (t.fa dom).fails = 0 ∧ t.mem = s.mem) ∧
     (bs ≠ (u.fa dom).password area → s.Completes (.unlock dom core area buf false) fun t => ret t 0x24 (some (8 - ((u.fa dom).fails + 1))) ∧ (t.fa dom).fails = (u.fa dom).fails + 1 ∧ t.mem = s.mem)) ∧
   (s.flArea dom area false = none → s.Completes (.lock dom area false) fun t => ret t 0 none ∧ area ∉ (t.fa dom).unlocked ∧
     (∀ a, a ≠ area → (a ∈ (t.fa dom).unlocked ↔ a ∈ (s.fa dom).unlocked)) ∧ t.mem = s.mem) ∧
   (s.flArea dom area true = none → s.busLoad dom core old 16 = (u, some os) → u.busLoad dom core buf 16 = (v, some bs) →
     (os = (v.fa dom).password area → s.Completes (.setpw dom core area old buf false) fun t => ret t 0 none ∧ (t.fa dom).password area = bs ∧ t.mem = s.mem) ∧
     (os ≠ (v.fa dom).password area → s.Completes (.setpw dom core area old buf false) fun t => ret t 0x24 none ∧ (t.fa dom).password area = (v.fa dom).password area ∧ t.mem = s.mem)) ∧
   (dom = 0 → (s.Completes (.zonecfg dom zone mode false) fun t => ret t 0x25 none) ∧ (s.Completes (.ecnt dom addr false) fun t => ret t 0x25 none) ∧
     s.Completes (.margin dom addr weak corr uncorr false) fun t => ret t 0x25 none) ∧
   (dom = 1 → 1 ≤ zone → zone < 8 → mode < 2 → s.flRefuse 1 (0x10000000 + 0x100000 * zone) 0x100000 true = none → s.Completes (.zonecfg dom zone mode false) fun t => ret t 0x10 none ∧
     (∃ x, t.sflash.erase = some x ∧ x.sector = 256 * zone ∧ x.kind = 2 ∧ x.dense = (mode == 1)) ∧ t.mem = s.mem) ∧
   (dom = 1 → addr % 0x10000 = 0 → inArray 1 addr 0x10000 = true → 0x10100000 ≤ addr → s.Completes (.ecnt dom addr false) fun t =>
     ret t 0 (some (alGet 0 s.sflash.ecnt ((addr - 0x10000000) / 0x10000))) ∧ t.mem = s.mem) ∧
   (dom = 1 → addr % 0x1000 = 0 → inArray 1 addr 0x1000 = true → s.Completes (.margin dom addr weak corr uncorr false) fun t =>
     (if s.sflash.inErase (addr - 0x10000000) then ret t 0 (some 0) else ret t (if 0 < uncorr then 2 else if 0 < corr then 1 else 0) (some (min 256 weak))) ∧ t.mem = s.mem) ∧
   (s.hscRuns = true → s.time.fast = true → s.Completes (.marginScrubPass stop weak us) fun t => t.hflash.scrubPos = (if 8192 ≤ stop then 0 else max s.hflash.scrubPos stop) ∧
     t.hflash.weak = (if s.hflash.scrubPos = 0 then 0 else s.hflash.weak) + weak) ∧
   (s.Completes (.unlock dom core area buf true) fun t => ret t 0x20 none ∧ t.mem = s.mem) ∧ s.Completes (.flashErase dom addr true) fun t => ret t 0x20 none ∧ t.mem = s.mem)

/-! Serial ports. -/

/-- TW_GO, TW_TRANSFER_END, ARB_LOST, ARBITRATION_RETRY, TW_BUS_ERR and TW_ABORT (R461 to R464, R466): GO starts a transfer, a GO during one is lost, and each way of ending it shows its RESULT and
frees the port; a transfer that lost arbitration early starts again while its attempts last.
STRETCH_TIMEOUT, SCL_LOW_TIMEOUT, SDA_LOW_TIMEOUT, RECOVER, TW_TXDATA, TW_RXDATA and ALERT_RESPONSE_READ (R461, R465, R467, R469): the timeouts release and reset the port; a line that stays low
is shown; the buffers take and give their bytes in order; an alert's answer is shown once. -/
def Obligations.TwoWire : Prop :=
 (∀ (s : State) (n k byte bit : Nat) (data : List Byte) (v : Word), n < 8 → s.domRuns (twDom n) = true →
   let ended := fun (res : Nat) (t : State) => t.get (F.TW.STATUS.RESULT n) = res ∧ t.on (F.TW.STATUS.BUSY n) = false ∧ t.on (F.TW.STATUS.DONE n) = true ∧ (t.twp n).run = false ∧ (t.twp n).tx = []
   (v.toNat.testBit 31 = true → s.on (F.TW.STATUS.BUSY n) = false → s.Completes (.twGo n v) fun t => (t.twp n).run = true ∧ (t.twp n).tx = (s.twp n).tx ∧ t.on (F.TW.STATUS.BUSY n) = true ∧
     t.get (F.TW.POS.ATTEMPTS n) = 0 ∧ t.get (F.TW.CMD.ADDR n) = v.toNat % 128 ∧ t.mem = s.mem) ∧
   (v.toNat.testBit 31 = true → s.on (F.TW.STATUS.BUSY n) = true → s.Completes (.twGo n v) fun t => t.on (F.TW.STATUS.CMD_LOST n) = true ∧ t.tw = s.tw) ∧
   (v.toNat.testBit 31 = false → s.on (F.TW.STATUS.BUSY n) = false → s.Completes (.twGo n v) fun t => t.get (F.TW.CMD.ADDR n) = v.toNat % 128 ∧ t.tw = s.tw) ∧
   (v.toNat.testBit 31 = false → s.on (F.TW.STATUS.BUSY n) = true → exec (.twGo n v) s = .next s) ∧
   (s.twOn n = true → k ≤ s.twLastSent n → s.Completes (.twTransferEnd n (some k) data) fun t => ended 1 t ∧ t.on (F.TW.STATUS.NACK n) = true ∧ t.get (F.TW.POS.BYTE n) = k % 512) ∧
   (s.twOn n = true → (s.twp n).rx.length + (s.twRead n data).length ≤ 32 → s.Completes (.twTransferEnd n none data) fun t => (ended 0 t ∨ ended 5 t) ∧ (t.twp n).rx = (s.twp n).rx ++ s.twRead n data) ∧
   (s.twOn n = true → s.Completes (.arbLost n byte bit data) fun t => t.on (F.TW.STATUS.ARB_LOST n) = true ∧
     (s.twMayRetry n byte bit = true → min 31 (s.get (F.TW.POS.ATTEMPTS n) + 1) ≤ s.get (F.TW.CFG.RETRY n) → (t.twp n).retry = true ∧ (t.twp n).run = true) ∧
     (s.twMayRetry n byte bit = true → s.get (F.TW.CFG.RETRY n) < min 31 (s.get (F.TW.POS.ATTEMPTS n) + 1) → ended 2 t) ∧
     (s.twMayRetry n byte bit = false → ended 2 t)) ∧
   ((s.twp n).run = true → (s.twp n).retry = true → s.Completes (.arbitrationRetry n) fun t => t.twp n = { s.twp n with retry := false } ∧ t.regs = s.regs ∧ t.mem = s.mem) ∧
   (s.twOn n = true → s.Completes (.twBusErr n byte data) fun t => ended 4 t ∧ t.on (F.TW.STATUS.BUS_ERR n) = true ∧ (t.twp n).rx = ((s.twp n).rx ++ data).take 32) ∧
   ((s.twp n).run = true → s.Completes (.twAbort n data) fun t => ended 6 t ∧ (t.twp n).rx = ((s.twp n).rx ++ data).take 32)) ∧
 (∀ (s : State) (n a : Nat) (first : Bool) (b : Byte) (rest : List Byte) (v : Word), n < 8 → s.domRuns (twDom n) = true →
   let reset := fun (t : State) => t.get (F.TW.STATUS.RESULT n) = 3 ∧ t.on (F.TW.STATUS.BUSY n) = false ∧ (t.twp n).run = false ∧ (t.twp n).tx = [] ∧ (t.twp n).rx = []
   (s.twOn n = true → s.Completes (.stretchTimeout n) fun t => reset t ∧ t.on (F.TW.STATUS.TIMEOUT n) = true) ∧
   (s.get (F.TW.CFG.SCL_LOW_MS n) ≠ 0 → s.Completes (.sclLowTimeout n) fun t => t.on (F.TW.STATUS.SCL_LOW n) = true ∧ ((s.twp n).run = true → reset t ∧ t.on (F.TW.STATUS.TIMEOUT n) = true)) ∧
   (s.get (F.TW.CFG.SDA_LOW_MS n) ≠ 0 → s.Completes (.sdaLowTimeout n) fun t => t.on (F.TW.STATUS.SDA_LOW n) = true ∧ ((s.twp n).run = true → reset t)) ∧
   (s.on (F.TW.STATUS.BUSY n) = false → s.Completes (.recover n false) fun t => t.on (F.TW.STATUS.SDA_LOW n) = true ∧ t.tw = s.tw) ∧
   (exec (.recover n true) s = .next s) ∧
   (s.on (F.TW.STATUS.BUSY n) = false → (s.twp n).tx.length < 32 → s.Completes (.twTxdata n v) fun t => (t.twp n).tx = (s.twp n).tx ++ [BitVec.ofNat 8 v.toNat] ∧
     t.get (F.TW.TXDATA.COUNT n) = (s.twp n).tx.length + 1 ∧ t.mem = s.mem) ∧
   ((s.on (F.TW.STATUS.BUSY n) = true ∨ 32 ≤ (s.twp n).tx.length) → s.Completes (.twTxdata n v) fun t => t.on (F.TW.STATUS.TXOVF n) = true ∧ t.tw = s.tw) ∧
   ((s.twp n).rx = b :: rest → s.Completes (.twRxdata n) fun t => t.get (F.TW.RXDATA.DATA n) = b.toNat ∧ t.on (F.TW.RXDATA.VALID n) = true ∧ (t.twp n).rx = rest ++ (s.twp n).due.take 1) ∧
   ((s.twp n).rx = [] → s.Completes (.twRxdata n) fun t => t.get (F.TW.RXDATA.DATA n) = 0 ∧ t.on (F.TW.RXDATA.VALID n) = false ∧ t.tw = s.tw) ∧
   (s.twBank n = true → s.on (F.TW.CFG.ALERT_EN n) = true → s.on (F.TW.ALERTADDR.VALID n) = false → s.on (F.TW.STATUS.BUSY n) = false →
     (s.Completes (.alertResponseRead n (some a) first) fun t => t.get (F.TW.ALERTADDR.ADDR n) = a % 128 ∧ t.on (F.TW.ALERTADDR.NOACK n) = false ∧ t.on (F.TW.ALERTADDR.VALID n) = true ∧
       t.on (F.TW.STATUS.ALERT n) = true) ∧
     s.Completes (.alertResponseRead n none first) fun t => t.on (F.TW.ALERTADDR.NOACK n) = true ∧ t.on (F.TW.ALERTADDR.VALID n) = true ∧ t.on (F.TW.STATUS.ALERT n) = true))

/-- TWM_ADDRESS_MATCH, TWM_WRITE, TWM_READ, TWM_ARA_ANSWER and TWM_BUS_ERR (R353, R470 to R473): an addressed port answers, but for FROST, where it refuses and asks for a wake; the first byte written
sets the pointer and the next ones the registers; a read sends the snapshot from the pointer on; a won alert answer clears the alert. -/
def Obligations.ManagementPort : Prop := ∀ (s : State) (read : Bool) (b : Byte) (n : Nat), s.twmOn = true →
  (s.season.frost = true → s.Completes (.twmAddressMatch read) fun t => t.twm.active = false ∧ t.twm.wakeReq = true ∧ t.on F.TWM.STAT.FROST_NACK = true ∧ t.on F.TWM.STAT.MATCH = true) ∧
  (s.season.frost = false → s.Completes (.twmAddressMatch read) fun t => t.twm.active = true ∧ t.twm.read = read ∧ t.twm.ptrSet = false ∧ t.twm.snap = (if read then t.twmRegs else []) ∧
    t.on F.TWM.STAT.MATCH = true) ∧
  (s.twm.active = true → s.twm.read = false → s.twm.ptrSet = false → s.Completes (.twmWrite [b] []) fun t => t.twm = { s.twm with ptr := min 7 b.toNat, ptrSet := true } ∧ t.regs = s.regs) ∧
  (s.twm.active = true → s.twm.read = false → s.twm.ptrSet = true → 3 ≤ s.twm.ptr → s.twm.ptr ≤ 7 → s.Completes (.twmWrite [b] []) fun t =>
    t.get (F.TWM.MB.MB (s.twm.ptr - 3)) = b.toNat ∧ t.twm.ptr = min 7 (s.twm.ptr + 1) ∧ t.mem = s.mem) ∧
  (s.twm.active = true → s.twm.read = true → s.Completes (.twmRead n) fun t => t.twm.sent = (List.range n).map (fun i => listGet 0 s.twm.snap (min 7 (s.twm.ptr + i))) ∧
    t.twm.ptr = min 7 (s.twm.ptr + n) ∧ t.regs = s.regs ∧ t.mem = s.mem) ∧
  (s.on F.TWM.CTRL.ALERT = true → s.Completes (.twmAraAnswer true) fun t => t.on F.TWM.STAT.ARA_WON = true ∧ t.on F.TWM.CTRL.ALERT = false ∧ t.twm = s.twm) ∧
  (s.twm.active = true → s.Completes .twmBusErr fun t => t.on F.TWM.STAT.BUS_ERR = true ∧ t.twm.active = false)

/-- CSP_GO, CSP_FRAME_END, CSP_TXDATA, CSP_RXDATA, CSP_ABORT, MODE_FAULT and TARGET_SELECTION_END (R475, R477 to R482): GO starts a frame that fits its lanes, refuses one that does not, and is lost
while one runs; the bytes that pass on the wire move the FIFOs, and the frame ends with the last of them.
DISCOVER, XIP_FETCH and CONT_MAX_EXPIRY (R487 to R489): the 64 words of a discovery are shown, and a table with the right signature sets SIZE; a fetch takes its line from the two that are kept,
or reads it; the held selection ends. -/
def Obligations.ClockedAndMemoryPorts : Prop :=
 (∀ (s : State) (n : Nat) (wire : List Byte) (v : Word), cspExists n = true → s.domRuns (cspDom n) = true →
   let fits := cspFits (s.cspDdr n) (s.get (F.CSP.FRAME.CMD_BITS n)) (s.get (F.CSP.FRAME.CMD_LANES n)) (s.get (F.CSP.FRAME.ADDR_BITS n)) (s.get (F.CSP.FRAME.ADDR_LANES n))
     (s.get (F.CSP.LEN.LEN n)) (s.get (F.CSP.FRAME.DATA_LANES n))
   let ended := fun (res : Nat) (t : State) => t.get (F.CSP.STATUS.RESULT n) = res ∧ t.on (F.CSP.STATUS.BUSY n) = false ∧ t.on (F.CSP.STATUS.DONE n) = true ∧ (t.cspp n).run = false
   let w := s.cspRun n wire
   let m := (s.cspFree n wire).cspMove n (s.cspWire n wire)
   ((s.on (F.CSP.STATUS.BUSY n) || s.cspTarget n) = true → s.Completes (.cspGo n) fun t => t.on (F.CSP.STATUS.CMD_LOST n) = true ∧ t.csp = s.csp) ∧
   ((s.on (F.CSP.STATUS.BUSY n) || s.cspTarget n) = false → fits = false → s.Completes (.cspGo n) fun t => t.on (F.CSP.STATUS.FMT_ERR n) = true ∧ t.get (F.CSP.STATUS.RESULT n) = 1 ∧
     t.on (F.CSP.STATUS.DONE n) = true ∧ t.csp = s.csp) ∧
   ((s.on (F.CSP.STATUS.BUSY n) || s.cspTarget n) = false → fits = true → s.Completes (.cspGo n) fun t => (t.cspp n).run = true ∧ (t.cspp n).left = s.get (F.CSP.LEN.LEN n) ∧
     (t.cspp n).tx = (s.cspp n).tx ∧ t.on (F.CSP.STATUS.BUSY n) = true ∧ t.mem = s.mem) ∧
   ((s.cspp n).run = true → (m.cspp n).run = true → (m.cspp n).left = 0 → s.Completes (.cspFrameEnd n wire false) fun t => ended 0 t ∧ t.mem = m.mem ∧ (t.cspp n).rx = (m.cspp n).rx) ∧
   ((s.cspp n).run = true → (m.cspp n).run = true → (m.cspp n).left ≠ 0 → exec (.cspFrameEnd n wire false) s = .next m) ∧
   (s.Completes (.cspTxdata n wire v) fun t => (t.cspp n).tx = ((w.cspp n).tx ++ leBytes 4 v.toNat).take 64 ∧ (64 < (w.cspp n).tx.length + 4 → t.on (F.CSP.STATUS.TXOVF n) = true) ∧ t.mem = w.mem) ∧
   ((w.cspp n).dqs = false → s.Completes (.cspRxdata n wire) fun t => t.get (F.CSP.RXDATA.DATA n) = leNat ((w.cspp n).rx.take 4) % 2 ^ 32 ∧ (t.cspp n).rx = (w.cspp n).rx.drop 4 ∧
     ((w.cspp n).rx = [] → t.on (F.CSP.STATUS.RXUNF n) = true) ∧ t.mem = w.mem) ∧
   ((w.cspp n).run = true → s.Completes (.cspAbort n wire) fun t => ended 2 t ∧ t.mem = w.mem) ∧
   ((n = 2 ∨ n = 3) → s.cspBank n = true → s.cspTarget n = false → s.on (F.CSP.CFG.MULTI n) = true → s.Completes (.modeFault n wire) fun t => t.on (F.CSP.STATUS.MODE_FAULT n) = true ∧ t.on (F.CSP.STATUS.DONE n) = true ∧
     t.on (F.CSP.CFG.ROLE n) = true ∧ (t.cspp n).run = false ∧ (t.cspp n).skip = true ∧ ((m.cspp n).run = true → t.get (F.CSP.STATUS.RESULT n) = 3)) ∧
   ((n = 2 ∨ n = 3) → s.cspBank n = true → s.cspTarget n = true → (s.cspp n).skip = false → s.Completes (.targetSelectionEnd n wire) fun t => t.on (F.CSP.STATUS.DONE n) = true ∧ t.mem = w.mem ∧
     (t.cspp n).rx = (w.cspp n).rx) ∧
   ((n = 2 ∨ n = 3) → s.cspBank n = true → s.cspTarget n = true → (s.cspp n).skip = true → s.Completes (.targetSelectionEnd n wire) fun t => t.cspp n = { s.cspp n with skip := false } ∧ t.regs = s.regs)) ∧
 (∀ (s : State) (bs : List Byte) (p k master addr : Nat) (l : Nat × List Byte) (dqs : Bool), k < 64 →
   let d := s.cspWire 5 bs
   let ln := (addr - 0x30000000) / 32
   let fits := cspFits (s.cspDdr 5) (s.get F.CSP.XIP_FRAME.CMD_BITS) (s.get F.CSP.XIP_FRAME.CMD_LANES) (s.get F.CSP.XIP_FRAME.ADDR_BITS) (s.get F.CSP.XIP_FRAME.ADDR_LANES) 32 (s.get F.CSP.XIP_FRAME.DATA_LANES)
   let goesOn := s.on F.CSP.XIP_CFG.CONT && s.cspx.held == some (ln - 1) && ln != 0
   (s.domRuns 1 = true → s.on (F.CSP.STATUS.BUSY 5) = false → s.Completes (.discover bs) fun t => t.get (F.CSP.SFDP.BYTES k) = leNat ((List.range 4).map fun i => listGet 0xFF d (4 * k + i)) ∧
     t.on (F.CSP.STATUS.DONE 5) = true ∧ t.cspx.held = none ∧
     (sfdpTable d = none → t.get (F.CSP.STATUS.RESULT 5) = 6) ∧ (sfdpTable d = some p → t.get (F.CSP.STATUS.RESULT 5) = 0 ∧ t.get F.CSP.XIP_CFG.SIZE = sfdpSize (sfdpDword d p 1))) ∧
   (0x30000000 ≤ addr → addr < 0x40000000 → s.domRuns 1 = true → s.accessKind 1 master false addr 1 = 0 →
     (s.cspx.lines.find? (fun e => e.1 == ln) = some l → s.Completes (.xipFetch master addr bs dqs) fun t => t.cspx.line = l.2 ∧ t.cspx.how = 0 ∧ t.cspx.lines = s.cspx.lines ∧
       t.mem = s.mem ∧ t.regs = s.regs) ∧
     (s.cspx.lines.find? (fun e => e.1 == ln) = none → s.on (F.CSP.STATUS.BUSY 5) = false →
       (goesOn = true ∨ fits = true) →
       s.Completes (.xipFetch master addr bs dqs) fun t => t.cspx.line = (List.range 32).map (fun i => listGet 0xFF d i) ∧
         t.cspx.lines = ((ln, t.cspx.line) :: s.cspx.lines).take 2 ∧ t.mem = s.mem) ∧
     (s.cspx.lines.find? (fun e => e.1 == ln) = none → s.on (F.CSP.STATUS.BUSY 5) = false → goesOn = false → fits = false →
       s.Completes (.xipFetch master addr bs dqs) fun t => t.on (F.CSP.STATUS.FMT_ERR 5) = true ∧ t.get (F.CSP.STATUS.RESULT 5) = 1 ∧ t.cspx.lines = s.cspx.lines ∧ t.mem = s.mem)) ∧
   (s.Completes .contMaxExpiry fun t => t = { s with cspx := { s.cspx with held := none } }))

/-! Ethernet. -/

/-- ETH_TRANSMIT_FRAME, ETH_RECEIVE_FRAME and ETH_RECEIVE_DELIVER (R491 to R493): the frame of the next descriptor is sent, padded and with its FCS, and NEXT moves on; an accepted frame waits in
the buffer, a bad or late one is counted; a waiting frame goes into the next descriptor or is dropped as too long.
TXCTL_POLL, RXCTL_POLL, LINK_CHANGE, MDIO_GO, MDIO_FRAME_END, TSQ_READ and TSQ_POP (R316, R490, R491, R494): POLL looks at OWN of the next descriptor; a link change is shown and signalled; a GO
starts one MDIO frame and its end takes what the PHY sent; the oldest time stamp is shown, and POP removes it. -/
def Obligations.Ethernet : Prop :=
 (∀ (s a b c u : State) (n lag w0 w1 w2 : Nat) (bs frame : List Byte) (f : RxFrame) (rest : List RxFrame) (ok : Bool), n < 3 →
   (s.domRuns 1 = true → s.ethBank n = true → s.on (F.ETH.CFG.TXEN n) = true → (s.macOf n).txOn = true → s.ethWord n (s.txDesc n) = (a, some w0) → a.ethWord n (s.txDesc n + 4) = (b, some w1) →
     b.ethWord n (s.txDesc n + 8) = (c, some w2) → 2 ^ 31 ≤ w1 → c.ethLoad n w0 (bitsOf w1 10 0) = (u, some bs) →
     s.Completes (.ethTransmitFrame n lag) fun t => t.get (F.ETH.TXCTL.NEXT n) = (u.get (F.ETH.TXCTL.NEXT n) + 1) % ringSize (u.get (F.ETH.TXCTL.SIZE n)) % 256 ∧
       (bitsOf w1 30 30 = 1 → t.on (F.ETH.STATUS.TXDONE n) = true) ∧
       (u.on (F.ETH.PHY_STAT.LINK n) = true → bs.length ≤ 1518 → (t.macOf n).sent = ethFrame bs) ∧ (u.on (F.ETH.PHY_STAT.LINK n) = false → t.on (F.ETH.STATUS.TXERR n) = true)) ∧
   ((s.pins.heldS || !s.pins.vddSw || !s.ethBank n || s.season.frost || !s.on (F.ETH.CFG.RXEN n) || !s.on (F.ETH.PHY_STAT.LINK n) || (s.season.gated && !s.linkReq n)) = false →
     let len := ((s.macOf n).fifo.map fun x => x.bytes.length).foldl (fun x y => x + y) frame.length
     (s.ethAccepts n frame = false → s.Completes (.ethReceiveFrame n lag frame ok) fun t => t.mac = s.mac) ∧
     (s.ethAccepts n frame = true → (ok = true ∨ s.on (F.ETH.CFG.KEEPBAD n) = true) → len ≤ 4096 → s.Completes (.ethReceiveFrame n lag frame ok) fun t =>
       ∃ x, (t.macOf n).fifo = (s.macOf n).fifo ++ [x] ∧ x.bytes = frame ∧ x.bad = !ok) ∧
     (s.ethAccepts n frame = true → ok = false → s.on (F.ETH.CFG.KEEPBAD n) = false → s.Completes (.ethReceiveFrame n lag frame ok) fun t =>
       t.mac = s.mac ∧ t.get (F.ETH.CNT.BADFCS n) = min 0xFF (s.get (F.ETH.CNT.BADFCS n) + 1)) ∧
     (s.ethAccepts n frame = true → (ok = true ∨ s.on (F.ETH.CFG.KEEPBAD n) = true) → 4096 < len → s.Completes (.ethReceiveFrame n lag frame ok) fun t =>
       t.mac = s.mac ∧ t.get (F.ETH.CNT.RXDROP n) = min 0xFFFF (s.get (F.ETH.CNT.RXDROP n) + 1))) ∧
   ((s.macOf n).fifo = f :: rest → s.domRuns 1 = true → (s.macOf n).rxOn = true → s.ethWord n (s.rxDesc n) = (a, some w0) → a.ethWord n (s.rxDesc n + 4) = (u, some w1) → 2 ^ 31 ≤ w1 →
     let v := u.setMac n { u.macOf n with fifo := (u.macOf n).fifo.drop 1 }
     (bitsOf w1 10 0 < f.bytes.length → s.Completes (.ethReceiveDeliver n) fun t => (t.macOf n).fifo = rest ∧ t.get (F.ETH.CNT.OVERSIZE n) = min 0xFF (u.get (F.ETH.CNT.OVERSIZE n) + 1) ∧ t.mem = s.mem) ∧
     (f.bytes.length ≤ bitsOf w1 10 0 → v.ethStore n w0 f.bytes = (b, true) → b.rxBack n (s.rxDesc n) f = (c, true) → s.Completes (.ethReceiveDeliver n) fun t => (t.macOf n).fifo = rest ∧
       t.on (F.ETH.STATUS.RXDONE n) = true ∧ t.get (F.ETH.RXCTL.NEXT n) = (c.get (F.ETH.RXCTL.NEXT n) + 1) % ringSize (c.get (F.ETH.RXCTL.SIZE n)) % 256 ∧ t.mem = c.mem))) ∧
 (∀ (s : State) (n w stat : Nat) (up : Bool) (e : Tsq) (es : List Tsq) (v : Word) (d : BitVec 16) (f : Nat × (Nat × (Bool × Nat))), n < 3 → s.domRuns 1 = true →
   let tx := if bitsOf v.toNat 3 0 ≤ 6 then s.set (F.ETH.TXCTL.SIZE n) (bitsOf v.toNat 3 0) else s
   let rx := if bitsOf v.toNat 3 0 ≤ 6 then s.set (F.ETH.RXCTL.SIZE n) (bitsOf v.toNat 3 0) else s
   let ampl := s.get (F.ETH.CFG.AMPL n)
   (v.toNat.testBit 8 = true → s.on (F.ETH.CFG.TXEN n) = true → (tx.ethWord n (tx.txDesc n + 4)).2 = some w → s.Completes (.txctlPoll n v) fun t => (t.macOf n).txOn = decide (2 ^ 31 ≤ w) ∧ t.mem = s.mem) ∧
   (v.toNat.testBit 8 = false → bitsOf v.toNat 3 0 ≤ 6 → s.Completes (.txctlPoll n v) fun t => t.get (F.ETH.TXCTL.SIZE n) = bitsOf v.toNat 3 0 ∧ t.mac = s.mac) ∧
   (v.toNat.testBit 8 = true → s.on (F.ETH.CFG.RXEN n) = true → (rx.ethWord n (rx.rxDesc n + 4)).2 = some w → s.Completes (.rxctlPoll n v) fun t => (t.macOf n).rxOn = decide (2 ^ 31 ≤ w) ∧ t.mem = s.mem) ∧
   (v.toNat.testBit 8 = false → bitsOf v.toNat 3 0 ≤ 6 → s.Completes (.rxctlPoll n v) fun t => t.get (F.ETH.RXCTL.SIZE n) = bitsOf v.toNat 3 0 ∧ t.mac = s.mac) ∧
   (s.season.frost = false → (up = true → s.ethBank n = true) → s.Completes (.linkChange n up stat) fun t => t.on (F.ETH.PHY_STAT.LINK n) = up ∧
     (s.on (F.ETH.PHY_STAT.LINK n) ≠ up → t.on (F.ETH.STATUS.LINKCHG n) = true) ∧ t.mac = s.mac ∧ (n < 2 → t.get (F.ETH.PHY_STAT.SQI n) = bitsOf stat 6 4 ∧
       t.get (F.ETH.PHY_STAT.ANEG n) = (if ampl = 1 ∨ ampl = 2 then 0 else bitsOf stat 1 1) ∧ t.get (F.ETH.PHY_STAT.LEVEL n) = (if ampl = 1 then 0 else if ampl = 2 then 1 else bitsOf stat 2 2))) ∧
   (s.on (F.ETH.MDIO.BUSY 2) = false → v.toNat.testBit 27 = true → s.Completes (.mdioGo v) fun t => t.on (F.ETH.MDIO.BUSY 2) = true ∧
     (t.macOf 2).mdio = some (bitsOf v.toNat 25 21, (bitsOf v.toNat 20 16, (v.toNat.testBit 26, bitsOf v.toNat 15 0))) ∧ t.mem = s.mem) ∧
   (v.toNat.testBit 27 = false → s.Completes (.mdioGo v) fun t => t.get (F.ETH.MDIO.DATA 2) = v.toNat % 65536 ∧ t.mac = s.mac) ∧
   ((s.macOf 2).mdio = some f → s.Completes (.mdioFrameEnd d) fun t => t.on (F.ETH.MDIO.BUSY 2) = false ∧ (t.macOf 2).mdio = none ∧ (f.2.2.1 = true → s.ethBank 2 = true → t.get (F.ETH.MDIO.DATA 2) = d.toNat)) ∧
   ((s.macOf n).tsq = e :: es → s.Completes (.tsqRead n) fun t => t.get (F.ETH.TSQ.ALL n 1) = e.ns % 2 ^ 32 ∧ t.get (F.ETH.TSQ.ALL n 2) = e.sec % 2 ^ 32 ∧
     t.get (F.ETH.TSQ.ALL n 3) = e.sec / 2 ^ 32 % 2 ^ 16 ∧ t.mac = s.mac) ∧
   ((s.macOf n).tsq = [] → s.Completes (.tsqRead n) fun t => t.get (F.ETH.TSQ.ALL n 0) = 0 ∧ t.mac = s.mac) ∧
   (s.Completes (.tsqPop n) fun t => (t.macOf n).tsq = (s.macOf n).tsq.drop 1 ∧ t.get (F.ETH.TSQ_STAT.COUNT n) = ((s.macOf n).tsq.length - 1) % 32 ∧ t.mem = s.mem))

/-! The host port. -/

/-- CSP4_SELECT_ASSERTED, CSP4_FRAME, SUBMIT, LONG and FW_OUT_POP (R353, R483, R484, R497, R500, R507): a selection opens a frame or wakes Sapwood; a frame of whole words passes its messages
to the engine and sends what waits, another is rejected; firmware submits, declares a request long, and takes its messages in order. -/
def Obligations.HostPort : Prop := ∀ (s : State) (bits : Nat) (words : List Word) (v : Word) (x : HostCmd) (m : HostOut) (q : List HostOut),
  (s.season.gated = false → s.domRuns 1 = true → s.pins.vddioS = true → s.on F.CSP4.CFG.EN = true → s.Completes .csp4SelectAsserted fun t => t.cspx.sel = true ∧ t.on F.CSP4.STATUS.SEL = true ∧ t.host = s.host) ∧
  (s.season.gated = true → s.time.sys = true → s.pins.vddioS = true → s.on F.SEASON.WAKE.CSP4 = true → s.Completes .csp4SelectAsserted fun t => t.season.gated = false ∧ t.cspx = s.cspx) ∧
  (s.season.gated = true → s.time.sys = false → s.pins.vddioS = true → s.on F.SEASON.WAKE.CSP4 = true → s.Completes .csp4SelectAsserted fun t => t.season.want.contains 6 = true ∧ t.cspx = s.cspx ∧ t.regs = s.regs) ∧
  (s.cspx.sel = true → s.domRuns 1 = true → s.pins.vddioS = true → s.Completes (.csp4Frame 0 words) fun t => t.cspx = { s.cspx with sel := false } ∧ t.host = s.host) ∧
  (s.cspx.sel = true → s.domRuns 1 = true → s.pins.vddioS = true → bits ≠ 0 → s.csp4Cause bits words ≠ 0 → s.Completes (.csp4Frame bits words) fun t => t.cspx.sel = false ∧ t.on F.CSP4.STATUS.FRAME_REJ = true ∧
    t.get F.CSP4.REJ.COUNT = min 0xFFFF (s.get F.CSP4.REJ.COUNT + 1) ∧ t.get F.CSP4.REJ.LAST = s.csp4Cause bits words ∧ t.cspx.out = s.cspx.out ∧ t.host = s.host) ∧
  (s.cspx.sel = true → s.domRuns 1 = true → s.pins.vddioS = true → bits ≠ 0 → s.csp4Cause bits words = 0 → s.Completes (.csp4Frame bits words) fun t => t.cspx.sel = false ∧
    t.cspx.sent = s.csp4Out (s.csp4Sends (bits / 32) words) ∧
    (s.on F.HOST.CFG.EN = false → t.host.inq = s.host.inq ++ hostParse 0 (s.csp4Gets (bits / 32) words).length (s.csp4Gets (bits / 32) words))) ∧
  (s.domRuns 1 = true → bitsOf v.toNat 13 13 = 1 → bitsOf v.toNat 10 0 ≠ 0 → (bitsOf v.toNat 12 11 = 1 ∨ bitsOf v.toNat 12 11 = 2) →
    (s.on F.HOST.FW_STAT.IN_BUSY = true → s.Completes (.submit v) fun t => t.on F.HOST.FW_STAT.SUB_LOST = true ∧ t.host = s.host) ∧
    (s.on F.HOST.FW_STAT.IN_BUSY = false → (bitsOf v.toNat 10 0 % 4 ≠ 0 ∨ 1024 < bitsOf v.toNat 10 0) → s.Completes (.submit v) fun t => t.get F.HOST.ERR.FRAME = min 0xFF (s.get F.HOST.ERR.FRAME + 1) ∧
      t.host = s.host) ∧
    (s.on F.HOST.FW_STAT.IN_BUSY = false → bitsOf v.toNat 10 0 % 4 = 0 → bitsOf v.toNat 10 0 ≤ 1024 → exec (.submit v) s = .next (s.hostInput (bitsOf v.toNat 12 11) (s.fwIn (bitsOf v.toNat 10 0))))) ∧
  (s.domRuns 1 = true → s.host.cur = some x → bitsOf v.toNat 14 14 = 1 → hostApp x.code = true → x.tag = bitsOf v.toNat 31 16 → s.Completes (.long v) fun t =>
    t.host.long = some { x with since := s.time.t } ∧ t.host.cur = none ∧ t.ring = s.ring) ∧
  (s.domRuns 1 = true → s.host.fwQueue = m :: q → s.on F.HOST.FW_STAT.OUT_VALID = true → s.Completes .fwOutPop fun t => t.host.fwQueue = q ∧ (q = [] → t.on F.HOST.FW_STAT.OUT_VALID = false) ∧
    t.mem = s.mem)

/-- HOST_FORWARD, HSTATUS, GET_RESULT, EVENTS, TIME, WAKE_POLICY and APP (R501 to R507, R312): the engine serves the request whose turn it is: a gateway code is checked and forwarded, an APP code goes to
firmware, and every other is answered on its channel. -/
def Obligations.HostRequests : Prop := ∀ (s : State) (m : HostIn) (ws : List Word),
  let reply_ := fun (t : State) (st : Nat) (data : List Nat) => s.Answered t m.chan (hostWords m.code m.tag st (data.map (BitVec.ofNat 32)))
  let u := s.hostTake.gwPut 0 m.gwWords
  let p := gwParse m.gwWords
  let x : HostCmd := { code := m.code, tag := m.tag, chan := m.chan, since := s.time.t }
  (s.gw.check = none → s.hostNext gwListed = some m → u.gwReason p.1 p.2 ≠ 0 → s.Completes .hostForward fun t => reply_ t (0x8000 + u.gwReason p.1 p.2) [] ∧ t.ring = s.ring ∧ t.keys = s.keys ∧ t.params = s.params) ∧
  (s.gw.check = none → s.hostNext gwListed = some m → u.gwReason p.1 p.2 = 0 → gwIsLong m.code = false →
    exec .hostForward s = .next (({ u with host := { u.host with cur := some x } }).gwRing m.gwWords).hostDrain) ∧
  (s.gw.check = none → s.hostNext gwListed = some m → u.gwReason p.1 p.2 = 0 → gwIsLong m.code = true → m.code ≠ 9 → exec .hostForward s = .next ((u.hostBegin x).gwRing m.gwWords).hostDrain) ∧
  (s.gw.check = none → s.hostNext gwListed = some m → u.gwReason p.1 p.2 = 0 → m.code = 9 →
    exec .hostForward s = .next (({ u.hostBegin x with host := { (u.hostBegin x).host with cur := some x } }).gwRing m.gwWords).hostDrain) ∧
  (s.hostNext (· == 0x100) = some m → s.Completes .hstatus fun t => reply_ t 0 s.hstatusData ∧ t.ring = s.ring ∧ t.mem = s.mem) ∧
  (s.hostNext (· == 0x101) = some m → s.host.result = none → s.Completes .getResult fun t => reply_ t 0xF006 [] ∧ t.mem = s.mem) ∧
  (s.hostNext (· == 0x101) = some m → s.host.result = some ws → s.Completes .getResult fun t =>
    reply_ t (bitsOf (listGet 0 ws 1).toNat 31 16) ((ws.drop 2).dropLast.map BitVec.toNat) ∧ t.mem = s.mem) ∧
  (s.hostNext (· == 0x102) = some m → 1 ≤ m.arg 0 → m.arg 0 ≤ 16 → s.Completes .events fun t => t.host.events = s.host.events.drop (m.arg 0) ∧
    reply_ t 0 ((s.host.events.take (m.arg 0)).length :: (s.host.events.take (m.arg 0)).flatMap RingEntry.words)) ∧
  (s.hostNext (· == 0x102) = some m → (m.arg 0 < 1 ∨ 16 < m.arg 0) → s.Completes .events fun t => reply_ t 0xF007 [] ∧ t.host.events = s.host.events) ∧
  (s.hostNext (· == 0x103) = some m → s.Completes .time fun t => reply_ t 0 ((List.range 4).map s.gwTime) ∧ t.time = s.time) ∧
  (s.hostNext (· == 0x104) = some m → s.Completes .wakePolicy fun t => reply_ t 0 [] ∧ t.rw F.SEASON.WAKE.ALL.addr = BitVec.ofNat 32 (m.arg 1 % 256) ∧ t.on F.SEASON.REQ.SLEEP = (m.arg 1).testBit 8) ∧
  (s.hostNext hostApp = some m → s.Completes .app fun t => t.host.cur = some x ∧ s.Answered t 2 m.words ∧ t.ring = s.ring)

/-- HOST_RESULT_COLLECT, HOST_GATEWAY_TIMEOUT, APP_TIMEOUT, EVENT_QUEUE_MOVE, ERASE_SLOT, WRITE and DONE (R505, R507, R509, R532): the RESULT that heads the ring answers the request that waits for it; a request
that waits too long is answered with the timeout; other entries move to the event queue; in recovery slot A is erased and written, and DONE is a class S reset. -/
def Obligations.HostAnswers : Prop := ∀ (s : State) (x : HostCmd) (e : RingEntry) (es : List RingEntry) (off : Nat) (ws : List Word), s.domRuns 1 = true →
  let r := resultMore e.src 1 es
  let data := hostWords x.code x.tag (leNat ((e.payload.drop 2).take 2)) (wordsOf ((e.payload.drop 4).take 12 ++ r.1))
  (s.on F.HOST.CFG.EN = true → s.host.cur = some x → s.host.long = none → hostApp x.code = false → s.ring.entries = e :: es → e.answers x = true →
    s.Completes .hostResultCollect fun t => s.Answered t x.chan data ∧ t.host.cur = none ∧ t.ring.entries = es.drop r.2) ∧
  (s.on F.HOST.CFG.EN = true → s.host.cur = none → s.host.long = some x → hostApp x.code = false → x.code ≠ 9 → s.ring.entries = e :: es → e.answers x = true →
    s.Completes .hostResultCollect fun t => t.host.long = none ∧ t.host.result = some data ∧ t.ring.entries = es.drop r.2) ∧
  (s.host.cur = some x → s.host.long = none → hostApp x.code = false → (s.ring.entries.any fun n => n.answers x) = false → s.Completes .hostGatewayTimeout fun t =>
    s.Answered t x.chan (hostWords x.code x.tag 0xF005 []) ∧ t.host.cur = none ∧ (s.time.fast = true → t.time.t = max s.time.t (x.since + s.get F.HOST.CFG.GW_TO * msT))) ∧
  (s.host.cur = some x → hostApp x.code = true → s.Completes .appTimeout fun t =>
    s.Answered t x.chan (hostWords x.code x.tag 0xF005 []) ∧ t.host.cur = none ∧ (s.time.fast = true → t.time.t = max s.time.t (x.since + s.get F.HOST.CFG.APP_TO * msT))) ∧
  (s.on F.HOST.CFG.EN = true → s.hostWants = none → s.ring.entries = e :: es → s.Completes .eventQueueMove fun t => t.ring.entries = es ∧
    t.host.events = (if 256 < s.host.events.length + 1 then (s.host.events ++ [e]).drop 1 else s.host.events ++ [e]) ∧ t.get F.GW.RING_STATUS.COUNT = es.length % 4096) ∧
  (s.recovery 0x2F0 = some x → s.Completes .eraseSlot fun t => t.host.cur = none ∧ (∀ a, 0x110100000 ≤ a → a < 0x110300000 → t.ldB a = 0xFF) ∧
    (∀ a, (a < 0x110100000 ∨ 0x110300000 ≤ a) → t.ldB a = s.ldB a)) ∧
  (s.recovery 0x2F1 = some x → (off % 16 ≠ 0 ∨ ws.length % 4 ≠ 0 ∨ 0x200000 < off + 4 * ws.length) → s.Completes (.write off ws) fun t => t.host.cur = none ∧ t.mem = s.mem) ∧
  (s.recovery 0x2F1 = some x → off % 16 = 0 → ws.length % 4 = 0 → off + 4 * ws.length ≤ 0x200000 → s.Completes (.write off ws) fun t => t.host.cur = none ∧
    t.mem = (s.flPrograms 1 (0x10100000 + off) none none (words16 (ws.length / 4) (bytesOf ws)) 0).1.mem) ∧
  (s.recovery 0x2F2 = some x → s.Completes .done fun t => t.on F.SEASON.SRST_CAUSE.SW = true ∧ t.cores = [] ∧ t.host = State.reset.host ∧ t.ring = s.ring)

/-! Converters and pulse inputs. -/

/-- SL_WRITE and MODULATOR_WARM_END (R107, R109, R110, R171, R176): while Heartwood runs, a write behind an open seal with room in the trail is logged, counted and takes effect, or waits for the calibration that
holds its channel; otherwise it is refused and counted; the bits of a modulator are valid when it has warmed.
PULSE_EDGE, PULSE_UNCOUNTED_EDGE, PULSE_PHASE_REMOVED, PULSE_STUCK_TIMEOUT, PIN_RUNLO_READ and PULSE_BLOCK_WRITE (R178 to R185): a counted edge moves the running count by its step; any edge ends STUCK; a phase
under 8 ns is removed and counted, and one of 20 ns or more is not; a read shows the running count; a block ends with STATE 2 under its cycle, at once or, in a gated region, when that is ready. -/
def Obligations.SettingsAndPulses : Prop :=
 (∀ (s : State) (addr n w : Nat) (v : Word) (r : RegSpec), slAddr addr = true → n < 48 →
   (s.domRuns 0 = false → exec (.slWrite addr v) s = .next s) ∧
   (s.domRuns 0 = true → (s.on F.SEAL.STATUS.SEALED || !s.auditTakes 1) = true → s.Completes (.slWrite addr v) fun t => t.on F.SEAL.STATUS.SL_REF = true ∧ t.rw addr = s.rw addr ∧
     t.get F.SEAL.REFUSED.COUNT = min 0xFFFF (s.get F.SEAL.REFUSED.COUNT + 1) ∧ t.audit = s.audit ∧ t.front = s.front) ∧
   (s.domRuns 0 = true → (s.on F.SEAL.STATUS.SEALED || !s.auditTakes 1) = false → findSpec regTable addr = some r →
     let busy := (s.settingChannels addr).any fun m => s.on (F.SDC.STATUS.CAL m)
     let old := (s.settingNow addr).toNat
     let new := BitVec.ofNat 32 (fieldsWrite true old v.toNat r.fields old)
     s.Completes (.slWrite addr v) fun t => t.sealc.slWrites = satAdd 0xFFFFFFFF s.sealc.slWrites 1 ∧ alFind t.front.fs addr = some new ∧ t.mem = s.mem ∧
       (busy = false → t.rw addr = new) ∧ (busy = true → t.rw addr = s.rw addr ∧ alFind t.front.deferred addr = some new)) ∧
   (alFind s.front.warmTo n = some w → s.flt.restart = [] → s.flt.blockDue = [] → s.Completes (.modulatorWarmEnd n) fun t => t.on (F.SDC.STATUS.WARM n) = false ∧ alFind t.front.warmTo n = none ∧
     t.time.t = max s.time.t w ∧ t.sealc = s.sealc) ∧
   (alFind s.front.warmTo n = none → exec (.modulatorWarmEnd n) s = .next s)) ∧
 (∀ (s : State) (n d w st : Nat) (a : PulseRec), n < 32 → st < 32 →
   let at_ := s.stampAt d
   let u := s.stampTo at_
   let v := u.settle
   let b := s.beyond at_
   let rise := s.countsRise n
   let gone := fun (t : State) => ((t.pulseIn n).win b).merge = satAdd 0xFFFF ((v.pulseIn n).win b).merge 1 ∧ (t.pulseIn n).run = (s.pulseIn n).run ∧ t.on (F.PIN.STATUS.OVERRATE n) = true
   let stays := fun (t : State) => (t.pulseIn n).edge = some (at_ + 8192 * w : Int) ∧ t.time.t = max s.time.t (at_ + 8192 * w)
   (s.on (F.PIN.STATUS.RXON n) = true → s.phaseOk n at_ rise = true → s.Completes (.pulseEdge n d) fun t => (t.pulseIn n).run = (s.pulseIn n).run + (u.edgeStep n at_).1 ∧ (t.pulseIn n).edge = some (at_ : Int) ∧
     t.on (F.PIN.STATUS.STUCK n) = false ∧ t.time.t = max s.time.t at_ ∧ (s.NoneDue → t.mem = s.mem)) ∧
   (s.on (F.PIN.STATUS.RXON n) = true → s.phaseOk n at_ (!rise) = true → s.Completes (.pulseUncountedEdge n d) fun t => (t.pulseIn n).run = (s.pulseIn n).run ∧ (t.pulseIn n).edge = some (at_ : Int) ∧
     t.on (F.PIN.STATUS.STUCK n) = false ∧ t.time.t = max s.time.t at_ ∧ (s.NoneDue → t.mem = s.mem)) ∧
   (s.on (F.PIN.STATUS.RXON n) = true → (s.phaseOk n at_ rise = false → exec (.pulseEdge n d) s = .next s) ∧ (s.phaseOk n at_ (!rise) = false → exec (.pulseUncountedEdge n d) s = .next s)) ∧
   (s.on (F.PIN.STATUS.RXON n) = false → exec (.pulseEdge n d) s = .next u ∧ exec (.pulseUncountedEdge n d) s = .next u) ∧
   (s.on (F.PIN.STATUS.RXON n) = true → (w < 64 → s.Completes (.pulsePhaseRemoved n d w) gone) ∧ (160 ≤ w → s.Completes (.pulsePhaseRemoved n d w) stays) ∧
     s.Completes (.pulsePhaseRemoved n d w) fun t => gone t ∨ stays t) ∧
   (s.on (F.PIN.STATUS.RXON n) = true → bitsOf (s.pulseIn n).cfg.toNat 19 4 ≠ 0 → ((s.pulseIn n).edge = none ∨ s.get (F.PIN.STATUS.LEVEL n) = bitsOf (s.pulseIn n).cfg.toNat 3 3) →
     s.Completes (.pulseStuckTimeout n) fun t => t.on (F.PIN.STATUS.STUCK n) = true ∧ (t.pulseIn n).run = (s.pulseIn n).run ∧ t.time.t = max s.time.t (s.pulseIn n).stuckAt.toNat ∧ (s.NoneDue → t.mem = s.mem)) ∧
   (s.Completes (.pinRunloRead n) fun t => t.get (F.PIN.RUN.ALL n 0) = utwo 64 (s.pulseIn n).run % 2 ^ 32 ∧ t.get (F.PIN.RUN.ALL n 1) = utwo 64 (s.pulseIn n).run / 2 ^ 32 % 2 ^ 32 ∧ t.pulse = s.pulse) ∧
   (s.hasStream st = true → s.pulseA st ≠ 0xFF → (s.pulseIn (s.pulseA st)).closed = some a → s.regionUp (s.homeRegion st) = true → s.guarded st = false →
     let page := rgnBase (s.homeRegion st) + pageHalf st a.cycle + 0x600
     (s.regionGated (s.homeRegion st) = false → s.Completes (.pulseBlockWrite st) fun t => t.ldB (page + 9) = 2 ∧ t.ldN page 8 = a.cycle % 2 ^ 64 ∧ t.regs = s.regs) ∧
     (s.regionGated (s.homeRegion st) = true → s.Completes (.pulseBlockWrite st) fun t => (∃ ws, t.echo.waiting = s.echo.waiting ++ ws ∧ ws ≠ []) ∧ t.mem = s.mem ∧ t.regs = s.regs)))

/-! Acquisition and echo engines. -/

/-- FIRING, CROSSPOINT_CONNECT, CAPTURE_WINDOW_CLOSE, ACQ_CLR, ECHO_JOB, ECHO_WATCHDOG and ECHO_CLR (R126, R128, R132, R137, R139, R142, R143, R146, R165): the firing that is due takes its lane and buffer and begins its
burst, or is skipped with its reason; the receive channel connects at its instant; a window closes with a notice to its engine; an engine takes its notices in order. -/
def Obligations.Acquisition : Prop := ∀ (s : State) (seq lane e : Nat) (q : ShotSeq) (samples : List (BitVec 14)) (bad : List (Nat × Nat)) (lates : List Nat) (x : Notice) (xs : List Notice) (v : Word),
  seq < 32 → lane < 16 → e < 4 →
  let u := (s.advanceTo q.due).settle
  let k := u.seqShot q
  let l := s.lane lane
  (s.acq.seqs[seq]? = some q → q.wait = none → s.fireNext q = true → u.fireCheck k q.due = 0 → s.Completes (.firing seq) fun t => (t.lane (u.shotLane k)).fired = true ∧
    (t.lane (u.shotLane k)).shot = k ∧ (t.lane (u.shotLane k)).tx = q.due ∧ (u.shotMute k = false → ∃ b, alFind t.acq.bursts (u.shotF k 1 1) = some b ∧ b.tx = q.due) ∧ (s.NoneDue → t.echo = s.echo ∧ t.mem = s.mem)) ∧
  (s.acq.seqs[seq]? = some q → q.wait = none → s.fireNext q = true → u.fireCheck k q.due ≠ 0 → s.Completes (.firing seq) fun t => t.on (reasonFlag (u.fireCheck k q.due)) = true ∧
    t.get F.ACQ.COUNT.SKIPPED = min 0xFFFF (u.get F.ACQ.COUNT.SKIPPED + 1) ∧ t.acq.lanes = s.acq.lanes ∧ t.acq.bursts = s.acq.bursts) ∧
  (l.fired = true → l.conn < l.close → s.Completes (.crosspointConnect lane) fun t => t.on (F.ACQ.LANE_STAT.CONN lane) = true ∧ (l.opens ≤ l.conn → t.on (F.ACQ.LANE_STAT.CAPT lane) = true) ∧
    (s.on (F.ACQ.LANE_STAT.CONN lane) = false → t.get (F.ACQ.LANE_STAT.CH lane) = s.shotF l.shot 2 1 % 64) ∧ t.time.t = max s.time.t l.conn ∧ t.acq = s.acq) ∧
  (l.close ≤ l.conn → exec (.crosspointConnect lane) s = .next s) ∧
  (l.fired = true → s.Completes (.captureWindowClose lane samples bad lates) fun t => (t.lane lane).fired = false ∧ t.time.t = max s.time.t l.close ∧
    ∃ g n, t.noticeQ g = s.noticeQ g ++ [n] ∧ n.shot = l.shot ∧ n.lane = lane ∧ n.tx = l.tx) ∧
  (v.toNat % 2 = 1 → s.Completes (.acqClr v) fun t => t.get F.ACQ.COUNT.SKIPPED = 0 ∧ t.get F.ACQ.COUNT.SATSHOT = 0 ∧ t.acq = s.acq ∧ t.mem = s.mem) ∧
  (s.noticeQ e = x :: xs → s.Completes (.echoJob e) fun t => t.noticeQ e = xs.dropWhile Notice.lost ∧ (x.lost = false → t.get (F.ECHO.STATUS.SHOT e) = x.shot % 1024) ∧ t.acq = s.acq ∧ t.time = s.time) ∧
  (s.noticeQ e = x :: xs → s.Completes (.echoWatchdog e) fun t => t.noticeQ e = xs.dropWhile Notice.lost ∧ t.on (F.ECHO.ERR.WDOG e) = true ∧ t.acq = s.acq) ∧
  (s.noticeQ e = [] → exec (.echoJob e) s = .next s) ∧
  (s.Completes (.echoClr v) fun t => t.rw (F.ECHO.COUNT.ALL e).addr = (if v.toNat.testBit e then 0 else s.rw (F.ECHO.COUNT.ALL e).addr) ∧
    t.rw (F.ECHO.DROP.ALL e).addr = (if v.toNat.testBit e then 0 else s.rw (F.ECHO.DROP.ALL e).addr) ∧ t.echo = s.echo ∧ t.mem = s.mem)

/-! Chains and calibration. -/

/-- CHAIN_SAMPLE_WRITE, COEF_LOAD, COEF_SWAP and SWAP_TAKE_EFFECT (R197, R208 to R211): the bits of a window move the chain on by their number; a load writes the shadow bank unless a swap is pending; a swap is
requested, or found busy, and takes effect at its boundary; each routine returns the flags its request raised. -/
def Obligations.ChainsAndBanks : Prop := ∀ (s : State) (c block bank target trig at_ late : Nat) (cut : Bool) (bits : List Bool) (marks : List (Nat × Nat)) (x : Chain), c < 96 → block < 32 → bank < 2 →
  let busy := (alFind s.fabric.swaps target).isSome || (s.targetBlocks target).any (fun b => s.on (F.CHAIN.BANK.PEND b)) || (s.targetBlocks target).any (fun b => s.bankCont b (1 - s.bankActive b) == 2)
  let due := (alFind s.fabric.swaps target).bind (s.swapAt target)
  (alFind s.fabric.chains c = some x → s.chainEcho c = false → s.lineBad c = none → late ≤ s.chainF c 0x10 4 → bits.length = x.skipNow + s.chainDecim c → s.Completes (.chainSampleWrite c bits marks [] late) fun t =>
    ∃ y, alFind t.fabric.chains c = some y ∧ y.n = x.n + bits.length ∧ y.e0 = x.e0) ∧
  ((s.sect 3 block).isSome = true → s.on (F.CHAIN.BANK.PEND block) = true → s.Completes (.coefLoad block bank cut) fun t => t.on F.CHAIN.SWAP_STATUS.WR_BLOCKED = true ∧
    t.rw (F.CHAIN.BANK.ALL block).addr = s.rw (F.CHAIN.BANK.ALL block).addr ∧ t.fabric = { s.fabric with ret := 2 ^ 17 }) ∧
  ((s.sect 3 block).isSome = true → s.on (F.CHAIN.BANK.PEND block) = false → s.Completes (.coefLoad block bank cut) fun t => t.bankCont block (1 - s.bankActive block) = (if cut then 2 else bank) ∧
    t.bankActive block = s.bankActive block ∧ t.mem = s.mem ∧ t.fabric = { s.fabric with ret := 0 }) ∧
  ((s.sect 3 block).isNone = true → exec (.coefLoad block bank cut) s = .next s) ∧
  (s.targetOk target = true → (trig < 32 ∨ trig = 0xFF) → busy = true → s.Completes (.coefSwap target trig) fun t => t.on F.CHAIN.SWAP_STATUS.SWAP_BUSY = true ∧ t.fabric = { s.fabric with ret := 2 ^ 16 }) ∧
  (s.targetOk target = true → (trig < 32 ∨ trig = 0xFF) → busy = false → s.targetRuns target = true → s.Completes (.coefSwap target trig) fun t =>
    alFind t.fabric.swaps target = some { trig := trig, due := if trig = 0xFF then some s.time.t else none } ∧ (∀ b, b ∈ s.targetBlocks target → t.on (F.CHAIN.BANK.PEND b) = true) ∧
      t.fabric.chains = s.fabric.chains ∧ t.fabric.ret = 0) ∧
  (s.targetOk target = true → (trig < 32 ∨ trig = 0xFF) → busy = false → s.targetRuns target = false → s.Completes (.coefSwap target trig) fun t =>
    alFind t.fabric.swaps target = none ∧ t.fabric.ret = 0 ∧ t.mem = s.mem) ∧
  (s.targetOk target = false → exec (.coefSwap target trig) s = .next s) ∧
  (due = some at_ → s.NoneDue → s.acq.lanes = [] → s.Completes (.swapTakeEffect target) fun t => alFind t.fabric.swaps target = none ∧ t.time.t = max s.time.t at_ ∧ t.mem = s.mem ∧ t.acq = s.acq) ∧
  (due = none → exec (.swapTakeEffect target) s = .next s)

/-- CALIBRATION_DUE, CALIBRATION_START, CALIBRATION_HOLD_END and ZERO_CAL_END (R365 to R369, R375): a run that is due is queued, in sleep too; the first of the queue starts where the reserve and the heat allow; a run
ends when its hold ends; a zero-flow run ends when its instants have passed. -/
def Obligations.CalibrationRuns : Prop := ∀ (s : State) (kind ch due start : Nat) (j : CalJob) (z : ZeroCal) (valid forced : Bool) (m0 m1 r0 r1 : Int), 1 ≤ kind → kind < 7 → ch < 48 →
  (s.calDueAt kind ch = some due → (s.time.fast = true ∨ s.boot.cls ≠ 1 ∧ s.pins.heldAo = false) → s.cal.running = none → s.Completes (.calibrationDue kind ch) fun t => t.time.t = max s.time.t (due * secT) ∧
    t.cal.queue = calQueue (calSort kind) ch t.time.t true false (!s.time.fast) s.cal.queue) ∧
  (s.cal.running = none → s.time.fast = true → s.on F.SPN.STATUS.RUN = true → s.on F.SPN.STATUS.PFAIL = false → s.spn.held = false →
    calFirst (s.cal.queue.filter fun (i : CalJob) => !i.slept && (i.after == 0 || decide (i.after < s.time.cycle))) = some j → s.calSlot j = some (start, forced) →
    let u := (s.advanceTo start).settle
    (u.energyTest start (calEnergy j.sort) = true → u.heatTest = true → s.Completes .calibrationStart fun t =>
      t.cal.running = some { j with stop := start + calTime j.sort, held := u.calHolds j.sort j.channel } ∧ t.on F.CAL.STATUS.BUSY = true ∧ t.cal.queue = calDrop j s.cal.queue) ∧
    ((u.energyTest start (calEnergy j.sort) && u.heatTest) = false → s.Completes .calibrationStart fun t => t.cal.running = none ∧ t.on F.CAL.STATUS.POSTPONED = true)) ∧
  (s.cal.running = some j → s.hscRuns = true → s.Completes (.calibrationHoldEnd valid m0 m1 r0 r1) fun t => t.cal.running = none ∧ t.time.t = max s.time.t j.stop ∧ t.sealc = s.sealc ∧ t.params = s.params) ∧
  (s.cal.zero = some z → z.left = 0 → s.hscRuns = true → s.Completes .zeroCalEnd fun t => t.cal.zero = none ∧ t.gw.long = none ∧ t.time = s.time) ∧
  (s.cal.zero = some z → z.left ≠ 0 → exec .zeroCalEnd s = .next s)

/-! Bus masters. -/

/-- REGISTER_WRITE, BUS_ACCESS_ERROR, DEBUG_ACCESS and W0_SNAPSHOT_READ (R22, R230, R231, R421, R426, R432 to R435, R528, R533 to R535): a store to memory writes its bytes and no others, AOC's too, one to a register goes to its
unit, and one that fails is captured; the debug modules and the test access port act only where they may; a read of W0 gives it and keeps the words of its group, which the reads of the others then give. -/
def Obligations.BusAccesses : Prop := ∀ (s : State) (dom master addr size kind op hart i : Nat) (write : Bool) (v : BitVec 128) (x : Core) (e : SnapEntry), dom < 2 → master < (if dom = 0 then 10 else 8) →
  ¬ (dom = 1 ∧ master < 2 ∧ addr = csrAddr master) →
  let aoc := addr - 0x60000000 + 0x14000000
  (s.domRuns dom = true → pmpRefuses dom master addr = false → s.accessKind dom master true addr size = 0 →
    (isPeriph addr = false → s.Completes (.registerWrite dom master addr size v) fun t =>
      t.ldBytes (tag dom addr) size = leBytes size v.toNat ∧ (∀ a, (a < tag dom addr ∨ tag dom addr + size ≤ a) → t.ldB a = s.ldB a) ∧ t.regs = s.regs) ∧
    (isPeriph addr = true → exec (.registerWrite dom master addr size v) s =
      .next (if dom = 0 then (s.hwWrite addr (BitVec.ofNat 32 v.toNat)).snapDrop master addr else s.sapWrite (tag 1 addr) (BitVec.ofNat 32 v.toNat)))) ∧
  (s.domRuns dom = true → pmpRefuses dom master addr = true → exec (.registerWrite dom master addr size v) s = .next s) ∧
  (s.pins.heldAo = false → s.aocKind addr size true = 0 → addr < 0x60010000 → s.Completes (.registerWrite 2 0 addr size v) fun t =>
    t.ldBytes aoc size = leBytes size v.toNat ∧ (∀ a, (a < aoc ∨ aoc + size ≤ a) → t.ldB a = s.ldB a) ∧ t.regs = s.regs) ∧
  (s.domRuns dom = true → 1 ≤ kind → kind < 7 → (kind ≠ 4 ∨ dom = 1) → (kind = 2 ∨ kind = 4 ∨ kind = 5 ∨ s.accessKind dom master write addr size = kind) →
    s.Completes (.busAccessError dom kind master write addr size) fun t => t.on (F.BUS.ERR.VALID dom) = true ∧ t.get (F.BUS.ERR.COUNT dom) = min 0xFFFF (s.get (F.BUS.ERR.COUNT dom) + 1) ∧
      (s.on (F.BUS.ERR.VALID dom) = false → t.get (F.BUS.ERR.KIND dom) = kind ∧ t.get (F.BUS.ERR.MASTER dom) = master ∧ t.get (F.BUS.ADDR.ADDR dom) = addr % 2 ^ 32) ∧
      (s.on (F.BUS.ERR.VALID dom) = true → t.on (F.BUS.ERR.MULTI dom) = true ∧ t.get (F.BUS.ERR.KIND dom) = s.get (F.BUS.ERR.KIND dom)) ∧ t.mem = s.mem) ∧
  (s.pins.vddioS = true → s.domRuns 0 = true → op < 3 → s.on F.SEAL.STATUS.DEBUG_EN = false → s.Completes (.debugAccess 0 op 0 write addr size v) fun t =>
    t.on (F.BUS.ERR.VALID 0) = true ∧ t.mem = s.mem ∧ t.hscHalted = s.hscHalted ∧ t.wdt = s.wdt) ∧
  (s.pins.vddioS = true → s.domRuns 0 = true → s.on F.SEAL.STATUS.DEBUG_EN = true → s.hscUp = true →
    (s.Completes (.debugAccess 0 1 0 write addr size v) fun t => t.hscHalted = true ∧ t.mem = s.mem) ∧ s.Completes (.debugAccess 0 2 0 write addr size v) fun t => t.hscHalted = false ∧ t.mem = s.mem) ∧
  (s.pins.vddioS = true → s.pins.vddSw = true → s.pins.heldS = false → hart < 2 → alFind s.cores hart = some x →
    (x.running = true → x.halted = false → s.Completes (.debugAccess 1 1 hart write addr size v) fun t => alFind t.cores hart = some { x with halted := true } ∧ t.mem = s.mem) ∧
    (x.halted = true → s.Completes (.debugAccess 1 2 hart write addr size v) fun t => (∃ y, alFind t.cores hart = some y ∧ y.halted = false) ∧ t.mem = s.mem)) ∧
  (s.pins.vddioS = true → hart < 5 → s.Completes (.debugAccess dom 3 hart write addr size v) fun t => t = { s with tap := t.tap } ∧ (hart = 1 → t.tap.ir = 1 ∧ t.tap.dr = 0x10880E2F) ∧
    (3 ≤ hart → t.tap.ir = (if s.allGood && s.on F.SEAL.STATUS.DEBUG_EN then hart else 0))) ∧
  (s.pins.vddioS = false → op < 3 → exec (.debugAccess dom op 0 write addr size v) s = .next s) ∧
  (dom = 0 → s.domRuns 0 = true → s.accessKind 0 master false addr (if isPeriph addr then 4 else 16) = 0 → addr % 16 = 0 → (hwSram addr || (tallyWindow addr).isSome) = true →
    s.Completes (.w0SnapshotRead master addr) fun t => (∃ e, e ∈ alGet [] t.snaps master ∧ e.addr = addr ∧ e.w1 = BitVec.ofNat 32 ((s.group addr).1 / 2 ^ 32)) ∧
      alFind t.reads master = some (BitVec.ofNat 32 (s.group addr).1) ∧ t.mem = s.mem ∧ t.regs = s.regs) ∧
  (dom = 0 → s.domRuns 0 = true → s.accessKind 0 master false (addr + 4 * i) 4 = 0 → addr % 16 = 0 → 1 ≤ i → i < 4 → (hwSram (addr + 4 * i) || (tallyWindow addr).isSome) = true →
    (alGet [] s.snaps master).find? (fun e => e.addr == addr) = some e → s.Completes (.w0SnapshotRead master (addr + 4 * i)) fun t => alFind t.reads master = some (e.lane i) ∧ t.snaps = s.snaps ∧ t.mem = s.mem ∧ t.regs = s.regs)

/-! The gateway. -/

/-- The 18 inbound commands (R111, R112, R517, R518): a command that fails a check is refused with the reason of the first check it fails, and nothing else of the gateway changes; one that is signed and accepted
has its COUNTER stored, whatever it then does; during the check of another the doorbell is lost. -/
def Obligations.GatewayChecks : Prop := ∀ (s : State) (code us mv : Nat) (c : GwCmd), 1 ≤ code → code ≤ 18 → s.gwOpen = true →
  let u := s.gwPut 0 (gwWords code c)
  (s.gw.check = none → u.gwReason code c ≠ 0 → s.Completes (gwInstr code c us mv) fun t => t.get F.GW.CMD_STATE.STATE = 3 ∧ t.get F.GW.CMD_STATE.REASON = u.gwReason code c ∧ t.get F.GW.CMD_STATE.TAG = c.tag % 2 ^ 16 ∧
    t.keys = s.keys ∧ t.params = s.params ∧ t.sel = s.sel ∧ t.time = s.time ∧ t.mem = s.mem ∧ t.ring = s.ring ∧ t.audit = s.audit) ∧
  (∀ g, s.gw.check = none → u.gwReason code c = 0 → c.sig = some g → s.keys.length = 4 → s.Completes (gwInstr code c us mv) fun t => (t.key (g.slot % 4)).counter = g.counter % 2 ^ 64) ∧
  (s.gw.check ≠ none → s.Completes (gwInstr code c us mv) fun t => t.on F.GW.CMD_STATE.DB_LOST = true ∧ t.gw = s.gw ∧ t.mem = s.mem ∧ t.ring = s.ring)

/-- STATUS, IDENT, AUDIT_READ, RECORD_READ, SET_FIELD, SET_PARAM, TIME_SLEW, TIME_STEP, CAL_RUN, ZERO_CAL and AUDIT_CLEAR, accepted (R97, R100, R113, R124, R307, R308, R374, R375, R526): each has its effect and
answers with its RESULT, or becomes the long command that answers later. -/
def Obligations.GatewayActs : Prop := ∀ (s a : State) (c : GwCmd),
  (s.Accepted 1 c a → s.Completes (.status c) fun t => t.Resulted c.tag 1 0 (leBytes 1 (if a.on F.SEAL.STATUS.SEALED then 1 else 2) ++ leBytes 4 (a.get F.SEAL.COUNTER.COUNT) ++
    leBytes 1 (a.get F.SEAL.STATUS.LEVEL) ++ leBytes 4 (a.rw F.FLT.BOOT_STATUS.ALL.addr).toNat ++ leBytes 1 a.slot) ∧ t.mem = a.mem) ∧
  (s.Accepted 2 c a → s.Completes (.ident c) fun t => t.Resulted c.tag 2 0 (a.boot.digest ++ beBytes 16 a.sealc.serial.toNat) ∧ t.mem = a.mem) ∧
  (s.Accepted 3 c a → s.Completes (.auditRead c) fun t =>
    t.Resulted c.tag 3 0 (((a.audit.held.filter fun e => decide (gwArg c 0 ≤ e.seq)).take 16).flatMap fun e => a.ldBytes (auditAddr e.seq) 64) ∧ t.mem = a.mem ∧ t.audit.held = s.audit.held) ∧
  (s.Accepted 4 c a → s.Completes (.recordRead c) fun t => (∃ st data, t.Resulted c.tag 4 st data) ∧ t.mem = a.mem ∧ t.recs = s.recs ∧
    (∀ e, bitsOf (gwArg c 0) 7 0 = 1 → a.recs.ring.find? (fun e => e.index == gwArg c 1) = some e → e.bad = false → a.badIn e.addr 512 = false → t.Resulted c.tag 4 0 (a.ldBytes e.addr 512))) ∧
  (s.Accepted 5 c a → s.Completes (.setField c) fun t => t.Resulted c.tag 5 0 [] ∧ t.time.t = s.time.t) ∧
  (s.Accepted 6 c a → s.Completes (.setParam c) fun t => alFind t.params (bitsOf (gwArg c 0) 7 0) = some (gwArg c 1 + 2 ^ 32 * gwArg c 2) ∧ t.Resulted c.tag 6 0 [] ∧ t.time = s.time) ∧
  (s.Accepted 7 c a → s.Completes (.timeSlew c) fun t => t.time.freq = sext 32 (gwArg c 0) ∧ t.time.phase = sext 32 (gwArg c 1) * 65536 * 1000000000000 ∧ t.time.rate = gwArg c 2 ∧
    t.get F.TIME.STATUS.SYNC = 1 ∧ t.time.t = s.time.t ∧ ∃ st, t.Resulted c.tag 7 st (leBytes 4 (utwo 32 s.time.phaseNs))) ∧
  (s.Accepted 8 c a → s.Completes (.timeStep c) fun t => (∃ x, t.time.step = some x ∧ x.amount = gwStepI c ∧ x.tag = c.tag ∧ x.acceptedAt = s.time.t) ∧ t.on F.TIME.STATUS.STEP_PEND = true ∧
    t.get F.TIME.STATUS.SYNC = 1 ∧ t.time.t = s.time.t) ∧
  (s.Accepted 13 c a → (a.calNamed (bitsOf (gwArg c 0) 7 0) (bitsOf (gwArg c 0) 15 8)).isEmpty = true → s.Completes (.calRun c) fun t => t.Resulted c.tag 13 0x0202 (List.replicate 6 0) ∧ t.cal = s.cal) ∧
  (s.Accepted 13 c a → (a.calNamed (bitsOf (gwArg c 0) 7 0) (bitsOf (gwArg c 0) 15 8)).isEmpty = false → s.Completes (.calRun c) fun t => t.gw.long = some (13, c.tag) ∧
    t.cal.cmd = some (c.tag, (0, 0, 0)) ∧ t.mem = a.mem) ∧
  (s.Accepted 14 c a → s.Completes (.zeroCal c) fun t => t.gw.long = some (14, c.tag) ∧ (∃ z, t.cal.zero = some z ∧ z.stream = bitsOf (gwArg c 0) 7 0 ∧ z.left = bitsOf (gwArg c 0) 31 16 ∧ z.count = 0) ∧
    t.mem = a.mem) ∧
  (s.Accepted 15 c a →
    let ok := (a.audit.held.any fun e => e.seq == gwArg c 0) && a.archiveDigest (gwArg c 0) == bytesOf (c.args.drop 1)
    (ok = false → s.Completes (.auditClear c) fun t => t.Resulted c.tag 15 0x0101 [] ∧ t.mem = a.mem ∧ t.audit.held = s.audit.held) ∧
    (ok = true → s.Completes (.auditClear c) fun t => (∃ e, e ∈ t.audit.held ∧ e.kind = 0x80) ∧ t.keys = a.keys ∧ t.params = s.params ∧
      (t.gw.clear = some c.tag ∧ t.gw.long = some (15, c.tag) ∨ t.gw.clear = none ∧ t.gw.long = none ∧ t.Resulted c.tag 15 0 [])))

/-- IMAGE_BEGIN, IMAGE_DATA, IMAGE_END, IMAGE_ACTIVATE, HRESET, KEY_SLOT, DEBUG_ENABLE, DOORBELL and IMAGE_LOAD_TIMEOUT (R60, R91, R95, R97, R98, R111, R113, R516, R534): a load erases its slot, takes its words in order, and ends
checked or empty; an activation names the slot and resets Heartwood; a key slot changes when the command ends; debug opens; the doorbell starts a check, which ends later. -/
def Obligations.GatewayLoads : Prop := ∀ (s a : State) (c : GwCmd) (us mv : Nat) (l : ImgLoad) (w0 w1 : Word) (ws : List Word),
  (s.Accepted 9 c a → s.Completes (.imageBegin c) fun t => t.gw.load = some { slot := gwArg c 0, length := gwArg c 1, got := 0, since := s.time.t } ∧ t.slotState (gwArg c 0) = 1 ∧
    (∀ b, slotBase (gwArg c 0) ≤ b → b < slotBase (gwArg c 0) + gwArg c 1 → t.ldB b = 0xFF) ∧ t.Resulted c.tag 9 0 []) ∧
  (s.Accepted 10 c a → s.gw.load = some l → s.Completes (.imageData c) fun t => t.gw.load = some { l with got := l.got + 4 * c.args.length, since := s.time.t } ∧
    (let bs := (bytesOf c.args).take (l.length - l.got)
     t.ldBytes (slotBase l.slot + l.got) bs.length = bs ∧ ∀ b, (b < slotBase l.slot + l.got ∨ slotBase l.slot + l.got + bs.length ≤ b) → t.ldB b = a.ldB b) ∧ t.Resulted c.tag 10 0 []) ∧
  (s.Accepted 11 c a → s.gw.load = some l → (l.slot = 1 ∨ l.slot = 2) →
    let r := imageCheck (fun off n => a.ldN (slotBase l.slot + off) n) l.got (a.imgSigned l.slot)
    s.Completes (.imageEnd c) fun t => t.gw.load = none ∧ t.slotState l.slot = (if r.1 = 0 then 2 else 0) ∧ t.Resulted c.tag 11 r.1 r.2 ∧ ∀ b, (b < 0x08002000 ∨ 0x08004000 ≤ b) → t.ldB b = a.ldB b) ∧
  (s.Accepted 12 c a → a.activateStatus (gwArg c 0) ≠ 0 → s.Completes (.imageActivate c us mv) fun t => t.Resulted c.tag 12 (a.activateStatus (gwArg c 0)) [] ∧ t.sel = s.sel ∧ t.pairs = s.pairs) ∧
  (s.Accepted 12 c a → a.activateStatus (gwArg c 0) = 0 → s.Completes (.imageActivate c us mv) fun t => t.sel.active = gwArg c 0 ∧ t.sel.valid = true ∧ t.sel.gen = a.ctlGen 0 ∧ t.params = [] ∧
    t.on F.FLT.RST_CAUSE.AUTH = true ∧ t.pairs = [] ∧ t.boot.cls = 2) ∧
  (s.Accepted 16 c a → s.Completes (.hreset c us mv) fun t => t.on F.FLT.RST_CAUSE.AUTH = true ∧ t.pairs = [] ∧ t.boot.cls = 2 ∧ t.sel = s.sel ∧ t.params = s.params) ∧
  (s.Accepted 17 c a → s.Completes (.keySlot c) fun t => t.gw.key = some c ∧ t.gw.long = some (17, c.tag) ∧ t.keys = a.keys ∧ t.mem = a.mem) ∧
  (s.pending = [] → s.gw.key = some c → let u := s.tick.settle
    ∃ t, step s = .next t ∧ t.gw.key = none ∧ t.gw.long = none ∧ t.keys = (if u.keyStatus c = 0 then listSet s.keys (bitsOf (gwArg c 0) 1 0) (u.newKey c) else s.keys) ∧ t.Resulted c.tag 17 (u.keyStatus c) []) ∧
  (s.Accepted 18 c a → s.Completes (.debugEnable c) fun t => t.on F.SEAL.STATUS.DEBUG_EN = true ∧ t.Resulted c.tag 18 0 [] ∧ t.mem = a.mem) ∧
  (s.gwOpen = true → s.gw.check = none → (let u := s.gwPut 0 [w0, w1]
    (s.Completes (.doorbell 1 w0 w1) fun t => t.gw.check = some u.gwBuf ∧ t.get F.GW.CMD_STATE.STATE = 1 ∧ t.keys = s.keys ∧ t.mem = s.mem) ∧
    (∃ v, exec (.doorbell 1 w0 w1) s = .next v ∧ exec (.doorbell 0 w0 w1) s = exec (.doorbell 2 w0 w1) v) ∧
    (gwShort u.gwBuf = true → s.Completes (.doorbell 0 w0 w1) fun t => t.get F.GW.CMD_STATE.STATE = 3 ∧ (t.get F.GW.CMD_STATE.REASON = 1 ∨ t.get F.GW.CMD_STATE.REASON = 2)))) ∧
  (s.gwOpen = true → s.gw.check = some ws → (s.Completes (.doorbell 1 w0 w1) fun t => t.on F.GW.CMD_STATE.DB_LOST = true ∧ t.gw = s.gw ∧ t.keys = s.keys ∧ t.mem = s.mem) ∧
    exec (.doorbell 0 w0 w1) s = exec (.doorbell 1 w0 w1) s) ∧
  (s.gw.check = some ws → exec (.doorbell 2 w0 w1) s = .next (({ s with gw := { s.gw with check := none } }).gwRing ws)) ∧
  (s.gw.load = some l → s.time.fast = true → s.Completes .imageLoadTimeout fun t => t.gw.load = none ∧ t.time.t = max s.time.t (l.since + 10 * secT) ∧ t.keys = s.keys ∧
    ((l.slot = 1 ∨ l.slot = 2) → t.slotState l.slot = 0))

/-! What no command but those named may change. -/

/-- FRAME, authority: only the commands named move the supplies' and pins' state, the key slots, the slot selection, the legally relevant parameters, the seal (its fuses and state, not the registers that show
it), the control records, the start-up, the window's load and long command, the debug taps and the levels that the balls keep (R43, R53, R56, R94, R95, R98, R100, R103, R112, R375, R516). -/
def Obligations.OnlyTheseChangeAuthority : Prop := ∀ (c : Instr) (s t : State), exec c s = .next t →
  (match c with
    | .pornLow .. | .heartwoodRailLoss .. | .supplyGood .. | .testenHigh .. | .vddAoFail .. | .vddSwLoss .. | .vddSwReturn .. | .hfrcFail .. | .vddioSLoss .. => True
    | _ => t.pins = s.pins) ∧
  (match c with
    | .startUpSequence .. | .status .. | .ident .. | .auditRead .. | .recordRead .. | .setField .. | .setParam .. | .timeSlew .. | .timeStep .. | .imageBegin .. | .imageData .. | .imageEnd ..
    | .imageActivate .. | .calRun .. | .zeroCal .. | .auditClear .. | .hreset .. | .keySlot .. | .debugEnable .. | .doorbell .. | .hostForward .. => True
    | _ => t.keys = s.keys ∧ t.keysGen = s.keysGen) ∧
  (match c with
    | .startUpSequence .. | .imageBegin .. | .imageEnd .. | .imageActivate .. | .doorbell .. | .imageLoadTimeout .. | .hostForward .. => True
    | _ => t.sel = s.sel) ∧
  (match c with
    | .startUpSequence .. | .setParam .. | .imageActivate .. | .doorbell .. | .zeroCalEnd .. | .hostForward .. => True
    | _ => t.params = s.params) ∧
  (match c with
    | .pornLow .. | .testenHigh .. | .startUpSequence .. | .sealPatternAdvance .. | .slWrite .. | .setField .. | .setParam .. | .thawWinter .. | .thawFrost .. | .hfxoRestart .. | .safeExit ..
    | .debugAccess .. | .registerWrite .. | .doorbell .. | .vddAoFail .. | .sealOpen .. | .sealClose .. | .zeroCalEnd .. | .cycleInstant .. | .hfrcFail .. | .hostForward .. => True
    | _ => t.sealc = s.sealc) ∧
  (match c with
    | .classHReset .. | .startUpSequence .. | .bankCapacitanceCheck .. | .sealPatternAdvance .. | .status .. | .ident .. | .auditRead .. | .recordRead .. | .setField .. | .setParam ..
    | .timeSlew .. | .timeStep .. | .imageBegin .. | .imageData .. | .imageEnd .. | .imageActivate .. | .calRun .. | .zeroCal .. | .auditClear .. | .hreset .. | .keySlot .. | .debugEnable ..
    | .auditEntryProgram .. | .auditControlRecordCopy .. | .intervalRecord .. | .powerFailCommit .. | .frostEntry .. | .thawWinter .. | .thawFrost .. | .hfxoRestart .. | .pllUnlock ..
    | .calibrationHoldEnd .. | .interconnectFault .. | .hscWatchdogExpiry .. | .safeExit .. | .eraseEnd .. | .debugAccess .. | .busAccessError .. | .registerWrite .. | .doorbell ..
    | .w0SnapshotRead .. | .sealOpen .. | .sealClose .. | .imageLoadTimeout .. | .zeroCalEnd .. | .hfxoFail .. | .hostForward .. => True
    | _ => t.ctl = s.ctl) ∧
  (match c with
    | .pornLow .. | .heartwoodRailLoss .. | .testenHigh .. | .classHReset .. | .startUpSequence .. | .bankCapacitanceCheck .. | .sealPatternAdvance .. | .imageActivate .. | .hreset ..
    | .auditEntryProgram .. | .auditControlRecordCopy .. | .intervalRecord .. | .thawWinter .. | .thawFrost .. | .hfxoRestart .. | .pllUnlock .. | .interconnectFault .. | .hscWatchdogExpiry ..
    | .safeExit .. | .eraseEnd .. | .debugAccess .. | .busAccessError .. | .registerWrite .. | .doorbell .. | .w0SnapshotRead .. | .vddAoFail .. | .sealOpen .. | .sealClose .. | .hfrcFail ..
    | .hfxoFail .. | .hostForward .. => True
    | _ => t.boot = s.boot) ∧
  (match c with
    | .pornLow .. | .srstnLow .. | .heartwoodRailLoss .. | .supplyGood .. | .testenHigh .. | .classHReset .. | .startUpSequence .. | .srstReq .. | .sealPatternAdvance .. | .status ..
    | .ident .. | .auditRead .. | .recordRead .. | .setField .. | .setParam .. | .timeSlew .. | .timeStep .. | .imageBegin .. | .imageData .. | .imageEnd .. | .imageActivate .. | .calRun ..
    | .zeroCal .. | .auditClear .. | .hreset .. | .keySlot .. | .debugEnable .. | .auditEntryProgram .. | .auditControlRecordCopy .. | .intervalRecord .. | .thawWinter .. | .thawFrost ..
    | .hfxoRestart .. | .pllUnlock .. | .calibrationHoldEnd .. | .interconnectFault .. | .hscWatchdogExpiry .. | .safeExit .. | .eraseEnd .. | .debugAccess .. | .busAccessError ..
    | .registerWrite .. | .doorbell .. | .w0SnapshotRead .. | .vddAoFail .. | .vddSwLoss .. | .vddSwReturn .. | .sealOpen .. | .sealClose .. | .imageLoadTimeout .. | .zeroCalEnd ..
    | .timeStepApply .. | .hfrcFail .. | .hfxoFail .. | .calibrationStart .. | .wdtLimit .. | .hostForward .. | .done .. => True
    | _ => t.gw = s.gw) ∧
  (match c with
    | .pornLow .. | .testenHigh .. | .debugAccess .. | .vddAoFail .. | .hfrcFail .. => True
    | _ => t.tap = s.tap) ∧
  (match c with
    | .pornLow .. | .testenHigh .. | .frostEntry .. | .thawFrost .. | .vddAoFail .. | .hfrcFail .. => True
    | _ => t.kept = s.kept)

/-- FRAME, units: only the commands named change the state of TWM, the MACs, CSP4 and CSP5, the serial ports, the GPIO levels, the front end of the acoustic channels, the engines, the sources and modulators, the
pulse inputs, the calibration, the two-wire ports, the HSC halt, the snapshot entries and the groups being read; the commands of the last list leave every byte of memory, and those of the list before it do so, and
leave engines, pairs and snapshot entries, where no commit and no restart is pending (R141, R166, R187, R230, R242, R376, R387, R447, R473, R490). -/
def Obligations.OnlyTheseChangeUnits : Prop := ∀ (c : Instr) (s t : State), exec c s = .next t →
  (match c with
    | .pornLow .. | .testenHigh .. | .thawFrost .. | .twmAddressMatch .. | .twmWrite .. | .twmRead .. | .vddAoFail .. | .hfrcFail .. | .twmBusErr .. => True
    | _ => t.twm = s.twm) ∧
  (match c with
    | .pornLow .. | .srstnLow .. | .heartwoodRailLoss .. | .supplyGood .. | .testenHigh .. | .srstReq .. | .thawFrost .. | .ethTransmitFrame .. | .ethReceiveFrame .. | .ethReceiveDeliver ..
    | .txctlPoll .. | .rxctlPoll .. | .mdioGo .. | .tsqPop .. | .debugAccess .. | .registerWrite .. | .mdioFrameEnd .. | .vddAoFail .. | .vddSwReturn .. | .hfrcFail .. | .wdtLimit .. | .done .. => True
    | _ => t.mac = s.mac) ∧
  (match c with
    | .pornLow .. | .srstnLow .. | .heartwoodRailLoss .. | .supplyGood .. | .testenHigh .. | .srstReq .. | .setField .. | .thawFrost .. | .cspGo .. | .csp4Frame .. | .discover .. | .xipFetch ..
    | .submit .. | .long .. | .write .. | .debugAccess .. | .registerWrite .. | .doorbell .. | .vddAoFail .. | .vddSwReturn .. | .sapwoodGate .. | .hfrcFail .. | .wdtLimit ..
    | .contMaxExpiry .. | .hostForward .. | .hostResultCollect .. | .hostGatewayTimeout .. | .hstatus .. | .getResult .. | .events .. | .time .. | .wakePolicy .. | .app .. | .appTimeout ..
    | .eraseSlot .. | .done .. | .csp4SelectAsserted .. => True
    | _ => t.cspx = s.cspx) ∧
  (match c with
    | .pornLow .. | .srstnLow .. | .heartwoodRailLoss .. | .supplyGood .. | .testenHigh .. | .classHReset .. | .startUpSequence .. | .srstReq .. | .sealPatternAdvance .. | .setField ..
    | .imageActivate .. | .hreset .. | .auditEntryProgram .. | .auditControlRecordCopy .. | .intervalRecord .. | .thawWinter .. | .thawFrost .. | .hfxoRestart .. | .pllUnlock ..
    | .interconnectFault .. | .hscWatchdogExpiry .. | .safeExit .. | .eraseEnd .. | .cspGo .. | .cspFrameEnd .. | .cspTxdata .. | .cspRxdata .. | .cspAbort .. | .modeFault ..
    | .targetSelectionEnd .. | .discover .. | .xipFetch .. | .debugAccess .. | .busAccessError .. | .registerWrite .. | .doorbell .. | .w0SnapshotRead .. | .vddAoFail .. | .vddSwReturn ..
    | .sealOpen .. | .sealClose .. | .hfrcFail .. | .hfxoFail .. | .wdtLimit .. | .hostForward .. | .done .. => True
    | _ => t.csp = s.csp) ∧
  (match c with
    | .pornLow .. | .srstnLow .. | .heartwoodRailLoss .. | .supplyGood .. | .testenHigh .. | .srstReq .. | .thawFrost .. | .interruptSourceEvent .. | .debugAccess .. | .registerWrite ..
    | .vddAoFail .. | .vddSwReturn .. | .hfrcFail .. | .wdtLimit .. | .done .. => True
    | _ => t.gpioS = s.gpioS) ∧
  (match c with
    | .pornLow .. | .heartwoodRailLoss .. | .testenHigh .. | .classHReset .. | .startUpSequence .. | .sealPatternAdvance .. | .imageActivate .. | .hreset .. | .auditEntryProgram ..
    | .auditControlRecordCopy .. | .triggerMatch .. | .firing .. | .captureWindowClose .. | .intervalRecord .. | .powerFailCommit .. | .frostEntry .. | .thawWinter .. | .thawFrost ..
    | .hfxoRestart .. | .pllUnlock .. | .interconnectFault .. | .hscWatchdogExpiry .. | .safeExit .. | .eraseEnd .. | .debugAccess .. | .busAccessError .. | .registerWrite .. | .doorbell ..
    | .w0SnapshotRead .. | .vddAoFail .. | .sealOpen .. | .sealClose .. | .timeStepApply .. | .hfrcFail .. | .hfxoFail .. | .calibrationStart .. | .hostForward .. => True
    | _ => t.acq = s.acq) ∧
  (match c with
    | .pornLow .. | .heartwoodRailLoss .. | .testenHigh .. | .classHReset .. | .startUpSequence .. | .sealPatternAdvance .. | .imageActivate .. | .hreset .. | .auditEntryProgram ..
    | .auditControlRecordCopy .. | .triggerMatch .. | .firing .. | .crosspointConnect .. | .captureWindowClose .. | .echoJob .. | .echoWatchdog .. | .modulatorWarmEnd .. | .pulseEdge ..
    | .pulseBlockWrite .. | .pulseStuckTimeout .. | .chainSampleWrite .. | .swapTakeEffect .. | .jobAdmission .. | .taskDispatch .. | .jobAbandon .. | .regionWatchdogExpiry .. | .add ..
    | .sub .. | .and .. | .or .. | .xor .. | .sll .. | .srl .. | .sra .. | .mul .. | .addi .. | .andi .. | .ori .. | .lui .. | .li .. | .addC .. | .addU .. | .subC .. | .subU .. | .mulC ..
    | .mulU .. | .divC .. | .divU .. | .sqrt .. | .neg .. | .abs .. | .min .. | .max .. | .mov .. | .uwid .. | .scli .. | .cvu .. | .cvt .. | .cvi .. | .setf .. | .ldp .. | .prop .. | .ld ..
    | .st .. | .ldl .. | .tacc .. | .trdc .. | .br .. | .loop .. | .inChain .. | .inPath .. | .inPulse .. | .orifice .. | .venturi .. | .upath .. | .kfactor .. | .freq .. | .normvol ..
    | .density .. | .tend .. | .emitv .. | .emitt .. | .emite .. | .emiti .. | .intervalRecord .. | .thawWinter .. | .thawFrost .. | .hfxoRestart .. | .pllUnlock .. | .calibrationDue ..
    | .calibrationHoldEnd .. | .interconnectFault .. | .hscWatchdogExpiry .. | .safeExit .. | .eraseEnd .. | .marginScrubPass .. | .moderationTimeout .. | .stormWindowEnd .. | .compareMatch ..
    | .periodEnd .. | .debugAccess .. | .busAccessError .. | .registerWrite .. | .doorbell .. | .pulsePhaseRemoved .. | .pulseUncountedEdge .. | .w0SnapshotRead .. | .vddAoFail ..
    | .sealOpen .. | .sealClose .. | .imageLoadTimeout .. | .cycleInstant .. | .timeStepApply .. | .holdoverTimeout .. | .energyScaleUpdate .. | .seasonAlarm .. | .hfrcFail .. | .hfxoFail ..
    | .calibrationStart .. | .wdtWarn .. | .wdtLimit .. | .hostForward .. | .hostGatewayTimeout .. | .appTimeout .. => True
    | _ => t.echo = s.echo) ∧
  (match c with
    | .pornLow .. | .heartwoodRailLoss .. | .testenHigh .. | .classHReset .. | .startUpSequence .. | .sealPatternAdvance .. | .slWrite .. | .setField .. | .imageActivate .. | .hreset ..
    | .auditEntryProgram .. | .auditControlRecordCopy .. | .triggerMatch .. | .firing .. | .crosspointConnect .. | .captureWindowClose .. | .modulatorWarmEnd .. | .pulseEdge ..
    | .pulseStuckTimeout .. | .chainSampleWrite .. | .swapTakeEffect .. | .jobAdmission .. | .taskDispatch .. | .jobAbandon .. | .regionWatchdogExpiry .. | .add .. | .sub .. | .and .. | .or ..
    | .xor .. | .sll .. | .srl .. | .sra .. | .mul .. | .addi .. | .andi .. | .ori .. | .lui .. | .li .. | .addC .. | .addU .. | .subC .. | .subU .. | .mulC .. | .mulU .. | .divC .. | .divU ..
    | .sqrt .. | .neg .. | .abs .. | .min .. | .max .. | .mov .. | .uwid .. | .scli .. | .cvu .. | .cvt .. | .cvi .. | .setf .. | .ldp .. | .prop .. | .ld .. | .st .. | .ldl .. | .tacc ..
    | .trdc .. | .br .. | .loop .. | .inChain .. | .inPath .. | .inPulse .. | .orifice .. | .venturi .. | .upath .. | .kfactor .. | .freq .. | .normvol .. | .density .. | .tend .. | .emitv ..
    | .emitt .. | .emite .. | .emiti .. | .intervalRecord .. | .thawWinter .. | .thawFrost .. | .hfxoRestart .. | .pllUnlock .. | .calibrationDue .. | .calibrationHoldEnd ..
    | .interconnectFault .. | .hscWatchdogExpiry .. | .safeExit .. | .flashRead .. | .eraseEnd .. | .marginScrubPass .. | .moderationTimeout .. | .stormWindowEnd .. | .compareMatch ..
    | .periodEnd .. | .cspFrameEnd .. | .cspTxdata .. | .cspRxdata .. | .cspAbort .. | .modeFault .. | .targetSelectionEnd .. | .ethTransmitFrame .. | .ethReceiveDeliver .. | .debugAccess ..
    | .busAccessError .. | .registerWrite .. | .doorbell .. | .pulsePhaseRemoved .. | .pulseUncountedEdge .. | .w0SnapshotRead .. | .vddAoFail .. | .sealOpen .. | .sealClose ..
    | .imageLoadTimeout .. | .cycleInstant .. | .timeStepApply .. | .holdoverTimeout .. | .energyScaleUpdate .. | .seasonAlarm .. | .hfrcFail .. | .hfxoFail .. | .calibrationStart ..
    | .wdtWarn .. | .wdtLimit .. | .hostForward .. | .hostGatewayTimeout .. | .appTimeout .. => True
    | _ => t.front = s.front) ∧
  (match c with
    | .pornLow .. | .heartwoodRailLoss .. | .testenHigh .. | .classHReset .. | .startUpSequence .. | .sealPatternAdvance .. | .imageActivate .. | .hreset .. | .auditEntryProgram ..
    | .auditControlRecordCopy .. | .triggerMatch .. | .firing .. | .crosspointConnect .. | .captureWindowClose .. | .modulatorWarmEnd .. | .pulseEdge .. | .pulseStuckTimeout ..
    | .chainSampleWrite .. | .swapTakeEffect .. | .jobAdmission .. | .taskDispatch .. | .jobAbandon .. | .regionWatchdogExpiry .. | .add .. | .sub .. | .and .. | .or .. | .xor .. | .sll ..
    | .srl .. | .sra .. | .mul .. | .addi .. | .andi .. | .ori .. | .lui .. | .li .. | .addC .. | .addU .. | .subC .. | .subU .. | .mulC .. | .mulU .. | .divC .. | .divU .. | .sqrt .. | .neg ..
    | .abs .. | .min .. | .max .. | .mov .. | .uwid .. | .scli .. | .cvu .. | .cvt .. | .cvi .. | .setf .. | .ldp .. | .prop .. | .ld .. | .st .. | .ldl .. | .tacc .. | .trdc .. | .br ..
    | .loop .. | .inChain .. | .inPath .. | .inPulse .. | .orifice .. | .venturi .. | .upath .. | .kfactor .. | .freq .. | .normvol .. | .density .. | .tend .. | .emitv .. | .emitt ..
    | .emite .. | .emiti .. | .intervalRecord .. | .frostEntry .. | .thawWinter .. | .thawFrost .. | .hfxoRestart .. | .pllUnlock .. | .calibrationDue .. | .calibrationHoldEnd ..
    | .interconnectFault .. | .hscWatchdogExpiry .. | .safeExit .. | .eraseEnd .. | .marginScrubPass .. | .moderationTimeout .. | .stormWindowEnd .. | .compareMatch .. | .periodEnd ..
    | .debugAccess .. | .busAccessError .. | .registerWrite .. | .doorbell .. | .pulsePhaseRemoved .. | .pulseUncountedEdge .. | .w0SnapshotRead .. | .vddAoFail .. | .sealOpen ..
    | .sealClose .. | .imageLoadTimeout .. | .cycleInstant .. | .timeStepApply .. | .holdoverTimeout .. | .energyScaleUpdate .. | .seasonAlarm .. | .hfrcFail .. | .hfxoFail ..
    | .calibrationStart .. | .wdtWarn .. | .wdtLimit .. | .hostForward .. | .hostGatewayTimeout .. | .appTimeout .. => True
    | _ => t.pulse = s.pulse) ∧
  (match c with
    | .pornLow .. | .heartwoodRailLoss .. | .testenHigh .. | .classHReset .. | .startUpSequence .. | .sealPatternAdvance .. | .imageActivate .. | .calRun .. | .zeroCal .. | .hreset ..
    | .auditEntryProgram .. | .auditControlRecordCopy .. | .captureWindowClose .. | .chainSampleWrite .. | .intervalRecord .. | .thawWinter .. | .thawFrost .. | .hfxoRestart .. | .pllUnlock ..
    | .calibrationDue .. | .calibrationHoldEnd .. | .interconnectFault .. | .hscWatchdogExpiry .. | .safeExit .. | .eraseEnd .. | .debugAccess .. | .busAccessError .. | .registerWrite ..
    | .doorbell .. | .w0SnapshotRead .. | .vddAoFail .. | .sealOpen .. | .sealClose .. | .zeroCalEnd .. | .cycleInstant .. | .timeStepApply .. | .hfrcFail .. | .hfxoFail ..
    | .calibrationStart .. | .hostForward .. => True
    | _ => t.cal = s.cal) ∧
  (match c with
    | .pornLow .. | .srstnLow .. | .heartwoodRailLoss .. | .supplyGood .. | .testenHigh .. | .classHReset .. | .startUpSequence .. | .srstReq .. | .sealPatternAdvance .. | .setField ..
    | .imageActivate .. | .hreset .. | .auditEntryProgram .. | .auditControlRecordCopy .. | .intervalRecord .. | .thawWinter .. | .thawFrost .. | .hfxoRestart .. | .pllUnlock ..
    | .interconnectFault .. | .hscWatchdogExpiry .. | .safeExit .. | .eraseEnd .. | .twGo .. | .twTransferEnd .. | .arbLost .. | .arbitrationRetry .. | .stretchTimeout .. | .sclLowTimeout ..
    | .sdaLowTimeout .. | .twBusErr .. | .twAbort .. | .twTxdata .. | .twRxdata .. | .alertResponseRead .. | .debugAccess .. | .busAccessError .. | .registerWrite .. | .doorbell ..
    | .w0SnapshotRead .. | .vddAoFail .. | .vddSwReturn .. | .sealOpen .. | .sealClose .. | .hfrcFail .. | .hfxoFail .. | .wdtLimit .. | .hostForward .. | .done .. => True
    | _ => t.tw = s.tw) ∧
  (match c with
    | .pornLow .. | .heartwoodRailLoss .. | .testenHigh .. | .classHReset .. | .startUpSequence .. | .sealPatternAdvance .. | .imageActivate .. | .hreset .. | .auditEntryProgram ..
    | .auditControlRecordCopy .. | .intervalRecord .. | .thawWinter .. | .thawFrost .. | .hfxoRestart .. | .pllUnlock .. | .interconnectFault .. | .hscWatchdogExpiry .. | .safeExit ..
    | .eraseEnd .. | .debugAccess .. | .busAccessError .. | .registerWrite .. | .doorbell .. | .w0SnapshotRead .. | .vddAoFail .. | .sealOpen .. | .sealClose .. | .hfrcFail .. | .hfxoFail ..
    | .hostForward .. => True
    | _ => t.hscHalted = s.hscHalted) ∧
  (match c with
    | .pornLow .. | .heartwoodRailLoss .. | .testenHigh .. | .classHReset .. | .startUpSequence .. | .sealPatternAdvance .. | .setParam .. | .imageActivate .. | .hreset ..
    | .auditEntryProgram .. | .auditControlRecordCopy .. | .triggerMatch .. | .firing .. | .crosspointConnect .. | .captureWindowClose .. | .modulatorWarmEnd .. | .pulseEdge ..
    | .pulseStuckTimeout .. | .chainSampleWrite .. | .swapTakeEffect .. | .jobAdmission .. | .taskDispatch .. | .jobAbandon .. | .regionWatchdogExpiry .. | .add .. | .sub .. | .and .. | .or ..
    | .xor .. | .sll .. | .srl .. | .sra .. | .mul .. | .addi .. | .andi .. | .ori .. | .lui .. | .li .. | .addC .. | .addU .. | .subC .. | .subU .. | .mulC .. | .mulU .. | .divC .. | .divU ..
    | .sqrt .. | .neg .. | .abs .. | .min .. | .max .. | .mov .. | .uwid .. | .scli .. | .cvu .. | .cvt .. | .cvi .. | .setf .. | .ldp .. | .prop .. | .ld .. | .st .. | .ldl .. | .tacc ..
    | .trdc .. | .br .. | .loop .. | .inChain .. | .inPath .. | .inPulse .. | .orifice .. | .venturi .. | .upath .. | .kfactor .. | .freq .. | .normvol .. | .density .. | .tend .. | .emitv ..
    | .emitt .. | .emite .. | .emiti .. | .intervalRecord .. | .powerFailCommit .. | .frostEntry .. | .thawWinter .. | .thawFrost .. | .hfxoRestart .. | .pllUnlock .. | .calibrationDue ..
    | .calibrationHoldEnd .. | .interconnectFault .. | .hscWatchdogExpiry .. | .safeExit .. | .flashRead .. | .eraseEnd .. | .marginScrubPass .. | .moderationTimeout .. | .stormWindowEnd ..
    | .compareMatch .. | .periodEnd .. | .cspFrameEnd .. | .cspTxdata .. | .cspRxdata .. | .cspAbort .. | .modeFault .. | .targetSelectionEnd .. | .ethTransmitFrame .. | .ethReceiveDeliver ..
    | .debugAccess .. | .busAccessError .. | .registerWrite .. | .doorbell .. | .pulsePhaseRemoved .. | .pulseUncountedEdge .. | .w0SnapshotRead .. | .vddAoFail .. | .sealOpen ..
    | .sealClose .. | .imageLoadTimeout .. | .zeroCalEnd .. | .cycleInstant .. | .timeStepApply .. | .holdoverTimeout .. | .energyScaleUpdate .. | .seasonAlarm .. | .hfrcFail .. | .hfxoFail ..
    | .calibrationStart .. | .wdtWarn .. | .wdtLimit .. | .hostForward .. | .hostGatewayTimeout .. | .appTimeout .. => True
    | _ => t.snaps = s.snaps) ∧
  (match c with
    | .pornLow .. | .heartwoodRailLoss .. | .testenHigh .. | .classHReset .. | .startUpSequence .. | .sealPatternAdvance .. | .imageActivate .. | .hreset .. | .auditEntryProgram ..
    | .auditControlRecordCopy .. | .intervalRecord .. | .thawWinter .. | .thawFrost .. | .hfxoRestart .. | .pllUnlock .. | .interconnectFault .. | .hscWatchdogExpiry .. | .safeExit ..
    | .eraseEnd .. | .debugAccess .. | .busAccessError .. | .registerWrite .. | .doorbell .. | .w0SnapshotRead .. | .vddAoFail .. | .sealOpen .. | .sealClose .. | .hfrcFail .. | .hfxoFail ..
    | .hostForward .. => True
    | _ => t.reads = s.reads) ∧
  (s.NoneDue → match c with
    | .triggerMatch .. | .crosspointConnect .. | .modulatorWarmEnd .. | .pulseEdge .. | .pulseStuckTimeout .. | .swapTakeEffect .. | .calibrationDue .. | .moderationTimeout ..
    | .stormWindowEnd .. | .compareMatch .. | .periodEnd .. | .pulsePhaseRemoved .. | .pulseUncountedEdge .. | .holdoverTimeout .. | .energyScaleUpdate .. | .seasonAlarm ..
    | .calibrationStart .. | .wdtWarn .. | .hostGatewayTimeout .. | .appTimeout .. =>
      t.echo = s.echo ∧ t.pairs = s.pairs ∧ t.snaps = s.snaps ∧ ∀ a, t.ldB a = s.ldB a
    | _ => True) ∧
  (match c with
    | .sc1Boot .. | .slWrite .. | .comparatorWrite .. | .acqClr .. | .echoClr .. | .pinRunloRead .. | .coefLoad .. | .coefSwap .. | .xofsLearn .. | .timeStampGo .. | .gaugeSample ..
    | .temperatureSample .. | .spindleAlarm .. | .hscWdtKick .. | .scrub .. | .regParity .. | .flashErase .. | .flashStatus .. | .suspend .. | .resume .. | .unlock .. | .lock .. | .setpw ..
    | .zonecfg .. | .ecnt .. | .margin .. | .interruptSourceEvent .. | .claim .. | .complete .. | .stormClear .. | .tmrStart .. | .tmrStop .. | .wdtKick .. | .twGo .. | .twTransferEnd ..
    | .arbLost .. | .arbitrationRetry .. | .stretchTimeout .. | .sclLowTimeout .. | .sdaLowTimeout .. | .twBusErr .. | .twAbort .. | .recover .. | .twTxdata .. | .twRxdata ..
    | .alertResponseRead .. | .twmAddressMatch .. | .twmWrite .. | .twmRead .. | .twmAraAnswer .. | .cspGo .. | .csp4Frame .. | .discover .. | .xipFetch .. | .ethReceiveFrame .. | .txctlPoll ..
    | .rxctlPoll .. | .linkChange .. | .mdioGo .. | .tsqRead .. | .tsqPop .. | .submit .. | .long .. | .mdioFrameEnd .. | .mret .. | .vddSwLoss .. | .ringEntryRead .. | .pop .. | .clrOvr ..
    | .gwTimeRead .. | .timeNowRead .. | .timeCycleRead .. | .sapwoodGate .. | .winterEntry .. | .xtal32Fail .. | .twmBusErr .. | .contMaxExpiry .. | .fwOutPop .. | .hostResultCollect ..
    | .hstatus .. | .getResult .. | .events .. | .time .. | .wakePolicy .. | .app .. | .eventQueueMove .. | .phaseAmortised .. | .csp4SelectAsserted .. | .vddioSLoss .. => ∀ a, t.ldB a = s.ldB a
    | _ => True)

/-- FRAME, registers: beside the registers that an interrupt or a wake writes (`icRegs`), a command of two-wire port n changes registers of that port alone, one of TWM those of TWM, one of an interrupt
controller none, and TMR.START and TMR.STOP those of their group; WDT_KICK changes the watchdog's count alone (R437, R438, R443, R457, R458, R461 to R473). -/
def Obligations.RegisterFrames : Prop := ∀ (s t : State) (c : Instr) (a n i j : Nat) (v : Word) (x : Option Nat) (b : Bool) (bs : List Byte) (ls : List Nat), exec c s = .next t →
  (c ∈ ([.twGo n v, .twTransferEnd n x bs, .arbLost n i j bs, .arbitrationRetry n, .stretchTimeout n, .sclLowTimeout n, .sdaLowTimeout n,
      .twBusErr n i bs, .twAbort n bs, .recover n b, .twTxdata n v, .twRxdata n, .alertResponseRead n x b] : List Instr) → icRegs a = false → (a < twBase n ∨ twBase n + 0x1000 ≤ a) → t.rw a = s.rw a) ∧
  (c ∈ ([.twmAddressMatch b, .twmWrite bs ls, .twmRead n, .twmAraAnswer b, .twmBusErr] : List Instr) → s.twm.ptr ≤ 7 → icRegs a = false → (a < 0x140000080 ∨ 0x1400000B4 ≤ a) →
    t.rw a = s.rw a) ∧
  (c ∈ ([.interruptSourceEvent i j b, .claim i j, .complete i j v, .stormClear i j v, .mret i] : List Instr) → icRegs a = false → t.rw a = s.rw a) ∧
  (c ∈ ([.tmrStart n v, .tmrStop n v] : List Instr) → icRegs a = false → (a < tmrBase n ∨ tmrBase n + 0x100 ≤ a) → t.rw a = s.rw a) ∧
  (c = .wdtKick v → a ≠ F.TMR.WDT_STAT.ALL.addr → t.rw a = s.rw a)

/-! Rules of one operation. -/

/-- R116, the only fill rule of the outbound ring: an entry joins a ring with room; in a full ring the oldest entry gives way, OVERRUN rises, and the read pointer stands at the next entry. No state of
Sapwood is asked for. -/
def Obligations.RingDiscardsOldest : Prop := ∀ (s : State) (x : RingEntry),
  let t := s.ringEnter x
  let e : RingEntry := { x with seq := s.ring.nextSeq % 2 ^ 32 }
  t.ring.nextSeq = s.ring.nextSeq + 1 ∧
  (s.ring.entries.length < 2048 → t.ring.entries = s.ring.entries ++ [e] ∧ t.get F.GW.RING_STATUS.OVERRUN = s.get F.GW.RING_STATUS.OVERRUN) ∧
  (∀ old rest, s.ring.entries = old :: rest → rest.length = 2047 → t.ring.entries = rest ++ [e] ∧ t.get F.GW.RING_STATUS.OVERRUN = min 0xFFFF (s.get F.GW.RING_STATUS.OVERRUN + 1))

/-- R444: classes P and H reset HIC, classes P and S reset SIC, and neither class H nor class S touches the other controller. -/
def Obligations.ControllersReset : Prop := ∀ (s : State) (cause rail : Nat) (commit : Bool), s.Canonical →
  let quiet := fun (t : State) (c : Nat) => t.ic c = Ic.reset ∧ t.on (F.IC.CTRL.EN c) = false ∧ ∀ n, n < 256 → t.on (pendF c n) = false ∧ t.on (activeF c n) = false ∧ t.on (stormF c n) = false ∧
    t.on (F.IC.SRC_CFG.EN_T0 c n) = false ∧ t.on (F.IC.SRC_CFG.EN_T1 c n) = false ∧ t.on (F.IC.SRC_CFG.EN_AOC c n) = false
  let same := fun (t : State) (c : Nat) => t.ic c = s.ic c ∧ ∀ a r f, icBase c ≤ a → a < icBase c + 0x1000 → findSpec regTable a = some r → f ∈ r.fields →
    bitsOf (t.rw a).toNat f.hi f.lo = bitsOf (s.rw a).toNat f.hi f.lo
  quiet s.resetP 0 ∧ quiet s.resetP 1 ∧ quiet (s.resetH cause rail commit) 0 ∧ same (s.resetH cause rail commit) 1 ∧ quiet (s.resetS cause) 1 ∧ same (s.resetS cause) 0
end

