-- ==== Sys2Proof/Laws/Maps.lean ====
section
/-! SUPPORT. Laws of the finite maps and of bit fields: read after write, and that a canonical map stays canonical. -/

namespace Sys2Proof.Machine

theorem alFind_alSet {α : Type} (m : List (Nat × α)) (k : Nat) (v : α) (j : Nat) :
    alFind (alSet m k v) j = if j = k then some v else alFind m j := by
  induction m with
  | nil => by_cases h : j = k <;> simp [alSet, alFind, h]
  | cons e m ih =>
    obtain ⟨a, b⟩ := e
    unfold alSet
    split
    · by_cases h : j = k <;> simp [alFind, h]
    · split
      · by_cases h : j = k
        · simp [alFind, h]
        · have : j ≠ a := by omega
          simp [alFind, h, this]
      · by_cases h : j = a
        · have : j ≠ k := by omega
          simp [alFind, h, show a ≠ k by omega]
        · simp [alFind, h, ih]

theorem alFind_alDel {α : Type} (m : List (Nat × α)) (k j : Nat) :
    alFind (alDel m k) j = if j = k then none else alFind m j := by
  induction m with
  | nil => simp [alDel, alFind]
  | cons e m ih =>
    obtain ⟨a, b⟩ := e
    unfold alDel
    split
    · rw [ih]
      by_cases h : j = k
      · simp [h]
      · simp [h, alFind, show j ≠ a by omega]
    · by_cases h : j = k
      · subst h
        simp only [if_true] at ih
        simp [alFind, show j ≠ a by omega, ih]
      · by_cases h2 : j = a <;> simp [alFind, h, h2, ih]
        simp [show a ≠ k by omega]

@[simp] theorem alFind_alSet_same {α : Type} (m : List (Nat × α)) (k : Nat) (v : α) : alFind (alSet m k v) k = some v := by
  simp [alFind_alSet]

@[simp] theorem alGet_alSet_same {α : Type} (d : α) (m : List (Nat × α)) (k : Nat) (v : α) : alGet d (alSet m k v) k = v := by
  simp [alGet]

theorem alGet_alSet_ne {α : Type} (d : α) (m : List (Nat × α)) {k j : Nat} (v : α) (h : j ≠ k) : alGet d (alSet m k v) j = alGet d m j := by
  simp [alGet, alFind_alSet, h]

/-- Read after write of a canonical map, at the key written and at every other. -/
theorem spGet_spSet {α : Type} [DecidableEq α] (d : Nat → α) (m : List (Nat × α)) (k : Nat) (v : α) (j : Nat) :
    spGet d (spSet d m k v) j = if j = k then v else spGet d m j := by
  unfold spSet spGet
  split
  · rw [alFind_alDel]
    by_cases h : j = k <;> simp_all
  · rw [alFind_alSet]
    by_cases h : j = k <;> simp_all

theorem alSorted_cons {α : Type} (e : Nat × α) (m : List (Nat × α)) :
    alSorted (e :: m) = true ↔ alSorted m = true ∧ ∀ x ∈ m, e.1 < x.1 := by
  induction m generalizing e with
  | nil => simp [alSorted]
  | cons f m ih =>
    obtain ⟨a, b⟩ := e
    obtain ⟨c, d⟩ := f
    rw [alSorted, Bool.and_eq_true, decide_eq_true_eq, ih]
    constructor
    · rintro ⟨h1, h2, h3⟩
      refine ⟨⟨h2, h3⟩, ?_⟩
      intro x hx
      rcases List.mem_cons.1 hx with rfl | hx
      · exact h1
      · exact Nat.lt_trans h1 (h3 x hx)
    · rintro ⟨⟨h2, h3⟩, h4⟩
      exact ⟨h4 _ (List.mem_cons_self ..), h2, h3⟩

theorem mem_alDel {α : Type} {m : List (Nat × α)} {k : Nat} {x : Nat × α} (h : x ∈ alDel m k) : x ∈ m := by
  induction m with
  | nil => simp [alDel] at h
  | cons e m ih =>
    obtain ⟨a, b⟩ := e
    unfold alDel at h
    split at h
    · exact List.mem_cons_of_mem _ (ih h)
    · rcases List.mem_cons.1 h with rfl | h
      · simp
      · exact List.mem_cons_of_mem _ (ih h)

theorem mem_alSet {α : Type} {m : List (Nat × α)} {k : Nat} {v : α} {x : Nat × α} (h : x ∈ alSet m k v) : x = (k, v) ∨ x ∈ m := by
  induction m with
  | nil => simpa [alSet] using h
  | cons e m ih =>
    obtain ⟨a, b⟩ := e
    unfold alSet at h
    split at h
    · simpa using h
    · split at h
      · rcases List.mem_cons.1 h with rfl | h
        · simp
        · exact .inr (List.mem_cons_of_mem _ h)
      · rcases List.mem_cons.1 h with rfl | h
        · simp
        · rcases ih h with h | h
          · exact .inl h
          · exact .inr (List.mem_cons_of_mem _ h)

theorem alSorted_alDel {α : Type} {m : List (Nat × α)} (k : Nat) (h : alSorted m = true) : alSorted (alDel m k) = true := by
  induction m with
  | nil => simpa [alDel] using h
  | cons e m ih =>
    have h' := (alSorted_cons _ _).1 h
    obtain ⟨a, b⟩ := e
    unfold alDel
    split
    · exact ih h'.1
    · exact (alSorted_cons _ _).2 ⟨ih h'.1, fun x hx => h'.2 x (mem_alDel hx)⟩

theorem alSorted_alSet {α : Type} {m : List (Nat × α)} (k : Nat) (v : α) (h : alSorted m = true) : alSorted (alSet m k v) = true := by
  induction m with
  | nil => simp [alSet, alSorted]
  | cons e m ih =>
    have h' := (alSorted_cons _ _).1 h
    obtain ⟨a, b⟩ := e
    unfold alSet
    split
    · rename_i hk
      refine (alSorted_cons _ _).2 ⟨h, fun x hx => ?_⟩
      rcases List.mem_cons.1 hx with rfl | hx
      · exact hk
      · exact Nat.lt_trans hk (h'.2 x hx)
    · split
      · rename_i hk
        refine (alSorted_cons _ _).2 ⟨h'.1, fun x hx => ?_⟩
        have := h'.2 x hx
        simp only at this ⊢
        omega
      · refine (alSorted_cons _ _).2 ⟨ih h'.1, fun x hx => ?_⟩
        rcases mem_alSet hx with rfl | hx
        · simp only
          omega
        · exact h'.2 x hx

theorem spWf_iff {α : Type} [DecidableEq α] (d : Nat → α) (m : List (Nat × α)) :
    spWf d m = true ↔ alSorted m = true ∧ ∀ x ∈ m, x.2 ≠ d x.1 := by
  simp [spWf, List.all_eq_true]

/-- A store keeps the canonical form. -/
theorem spWf_spSet {α : Type} [DecidableEq α] {d : Nat → α} {m : List (Nat × α)} (k : Nat) (v : α) (h : spWf d m = true) :
    spWf d (spSet d m k v) = true := by
  have h' := (spWf_iff d m).1 h
  unfold spSet
  split
  · exact (spWf_iff _ _).2 ⟨alSorted_alDel k h'.1, fun x hx => h'.2 x (mem_alDel hx)⟩
  · rename_i hv
    refine (spWf_iff _ _).2 ⟨alSorted_alSet k v h'.1, fun x hx => ?_⟩
    rcases mem_alSet hx with rfl | hx
    · exact hv
    · exact h'.2 x hx

theorem alSorted_filter {α : Type} {m : List (Nat × α)} (p : Nat × α → Bool) (h : alSorted m = true) : alSorted (m.filter p) = true := by
  induction m with
  | nil => simpa using h
  | cons e m ih =>
    have h' := (alSorted_cons _ _).1 h
    rw [List.filter_cons]
    split
    · exact (alSorted_cons _ _).2 ⟨ih h'.1, fun x hx => h'.2 x (List.mem_filter.1 hx).1⟩
    · exact ih h'.1

/-- Dropping entries keeps the canonical form. -/
theorem spWf_filter {α : Type} [DecidableEq α] {d : Nat → α} {m : List (Nat × α)} (p : Nat × α → Bool) (h : spWf d m = true) :
    spWf d (m.filter p) = true := by
  have h' := (spWf_iff d m).1 h
  exact (spWf_iff _ _).2 ⟨alSorted_filter p h'.1, fun x hx => h'.2 x (List.mem_filter.1 hx).1⟩

/-- Bits of a field. -/
theorem testBit_bitsOf (v hi lo i : Nat) : (bitsOf v hi lo).testBit i = (decide (i < hi + 1 - lo) && v.testBit (lo + i)) := by
  rw [bitsOf, Nat.testBit_mod_two_pow, Nat.testBit_div_two_pow, Nat.add_comm i]

/-- A number in which a field is replaced, as its parts above, in and below the field. -/
theorem setBits_parts (v hi lo x : Nat) :
    setBits v hi lo x = 2 ^ lo * (2 ^ (hi + 1 - lo) * (v / 2 ^ lo / 2 ^ (hi + 1 - lo)) + x % 2 ^ (hi + 1 - lo)) + v % 2 ^ lo := by
  unfold setBits bitsOf
  generalize hi + 1 - lo = w
  have h1 := Nat.div_add_mod v (2 ^ lo)
  have h2 := Nat.div_add_mod (v / 2 ^ lo) (2 ^ w)
  have h3 : 2 ^ lo * (v / 2 ^ lo) = 2 ^ lo * (2 ^ w * (v / 2 ^ lo / 2 ^ w)) + 2 ^ lo * (v / 2 ^ lo % 2 ^ w) := by
    rw [← Nat.mul_add, h2]
  rw [Nat.mul_comm (v / 2 ^ lo % 2 ^ w), Nat.mul_comm (x % 2 ^ w), Nat.mul_add]
  omega

/-- Bits of a number in which a field is replaced. -/
theorem testBit_setBits (v hi lo x i : Nat) :
    (setBits v hi lo x).testBit i = if lo ≤ i ∧ i < lo + (hi + 1 - lo) then x.testBit (i - lo) else v.testBit i := by
  rw [setBits_parts, Nat.testBit_two_pow_mul_add _ (Nat.mod_lt _ (Nat.two_pow_pos _)), Nat.testBit_mod_two_pow]
  by_cases h : i < lo
  · simp [h, show ¬ lo ≤ i by omega]
  · simp only [h, if_false]
    rw [Nat.testBit_two_pow_mul_add _ (Nat.mod_lt _ (Nat.two_pow_pos _)), Nat.testBit_mod_two_pow]
    by_cases h2 : i - lo < hi + 1 - lo
    · simp [h2, show lo ≤ i by omega, show i < lo + (hi + 1 - lo) by omega]
    · rw [Nat.testBit_div_two_pow, Nat.testBit_div_two_pow]
      simp [h2, show ¬ i < lo + (hi + 1 - lo) by omega]
      congr 1
      omega

theorem bitsOf_lt (v hi lo : Nat) : bitsOf v hi lo < 2 ^ (hi + 1 - lo) := Nat.mod_lt _ (Nat.two_pow_pos _)

end Sys2Proof.Machine
end

