-- ==== Sys2Proof/Laws/Registers.lean ====
section
/-! SUPPORT. Laws of the register file and of memory: read after write, disjoint fields, and that every store keeps the canonical form. -/

namespace Sys2Proof.Machine

theorem rw_setW (s : State) (a : Nat) (w : Word) (b : Nat) : (s.setW a w).rw b = if b = a then w else s.rw b := by
  simp [State.rw, State.setW, spGet_spSet]

@[simp] theorem rw_setW_same (s : State) (a : Nat) (w : Word) : (s.setW a w).rw a = w := by simp [rw_setW]

theorem rw_setW_ne (s : State) {a b : Nat} (w : Word) (h : b ≠ a) : (s.setW a w).rw b = s.rw b := by simp [rw_setW, h]

/-- A field set is a field read, for a field inside the word. -/
theorem get_set (s : State) (f : Fld) (v : Nat) (h : f.hi < 32) : (s.set f v).get f = v % 2 ^ (f.hi + 1 - f.lo) := by
  apply Nat.eq_of_testBit_eq
  intro i
  rw [State.get, State.set, rw_setW_same, testBit_bitsOf, BitVec.toNat_ofNat, Nat.testBit_mod_two_pow, testBit_setBits, Nat.testBit_mod_two_pow]
  by_cases hi : i < f.hi + 1 - f.lo
  · simp [hi, show f.lo + i < 32 by omega, show f.lo ≤ f.lo + i by omega, show f.lo + i - f.lo = i by omega]
  · simp [hi]

/-- Setting a field leaves a field of another register. -/
theorem get_set_addr (s : State) {f g : Fld} (v : Nat) (h : g.addr ≠ f.addr) : (s.set f v).get g = s.get g := by
  simp [State.get, State.set, rw_setW_ne, h]

/-- Setting a field leaves a field of the same register that shares no bit with it. -/
theorem get_set_disj (s : State) {f g : Fld} (v : Nat) (hg : g.hi < 32) (h : g.hi < f.lo ∨ f.hi < g.lo) : (s.set f v).get g = s.get g := by
  by_cases ha : g.addr = f.addr
  · apply Nat.eq_of_testBit_eq
    intro i
    rw [State.get, State.get, State.set, ha, rw_setW_same, testBit_bitsOf, testBit_bitsOf, BitVec.toNat_ofNat, Nat.testBit_mod_two_pow, testBit_setBits]
    by_cases hi : i < g.hi + 1 - g.lo
    · have : ¬ (f.lo ≤ g.lo + i ∧ g.lo + i < f.lo + (f.hi + 1 - f.lo)) := by omega
      simp [hi, show g.lo + i < 32 by omega, this]
    · simp [hi]
  · exact get_set_addr s v ha

/-- A word of another register is as before. -/
theorem rw_set (s : State) (f : Fld) (v : Nat) {a : Nat} (h : a ≠ f.addr) : (s.set f v).rw a = s.rw a := rw_setW_ne s _ h

theorem on_set_one (s : State) (f : Fld) (h : f.hi < 32) (hl : f.lo = f.hi) : (s.set f 1).on f = true := by
  rw [State.on, get_set s f 1 h, hl]
  simp [show f.hi + 1 - f.hi = 1 by omega]

theorem on_set_zero (s : State) (f : Fld) (h : f.hi < 32) : (s.set f 0).on f = false := by
  rw [State.on, get_set s f 0 h]
  simp

theorem on_setB (s : State) (f : Fld) (b : Bool) (h : f.hi < 32) (hl : f.lo = f.hi) : (s.setB f b).on f = b := by
  cases b
  · simpa [State.setB] using on_set_zero s f h
  · simpa [State.setB] using on_set_one s f h hl

/-! Memory. -/

theorem ldB_stB (s : State) (a : Nat) (b : Byte) (c : Nat) : (s.stB a b).ldB c = if c = a then b else s.ldB c := by
  simp [State.ldB, State.stB, spGet_spSet]

/-- Bytes stored from an address up leave every address outside them. -/
theorem ldB_stBytes_out (s : State) (a : Nat) (bs : List Byte) {c : Nat} (h : c < a ∨ a + bs.length ≤ c) : (s.stBytes a bs).ldB c = s.ldB c := by
  induction bs generalizing s a with
  | nil => rfl
  | cons b bs ih =>
    rw [List.length_cons] at h
    rw [State.stBytes, ih (s.stB a b) (a + 1) (by omega), ldB_stB, if_neg (by omega)]

/-- Bytes stored are bytes read. -/
theorem ldB_stBytes_in (s : State) (a : Nat) (bs : List Byte) {i : Nat} (h : i < bs.length) : (s.stBytes a bs).ldB (a + i) = bs[i] := by
  induction bs generalizing s a i with
  | nil => simp at h
  | cons b bs ih =>
    cases i with
    | zero => rw [State.stBytes, ldB_stBytes_out _ _ _ (by omega), Nat.add_zero, ldB_stB, if_pos rfl]; rfl
    | succ i =>
      rw [State.stBytes, show a + (i + 1) = a + 1 + i by omega, ih _ _ (by simpa using h)]
      rfl

@[simp] theorem length_leBytes (n v : Nat) : (leBytes n v).length = n := by
  induction n generalizing v with
  | zero => rfl
  | succ n ih => simp [leBytes, ih]

theorem leNat_leBytes (n v : Nat) : leNat (leBytes n v) = v % 256 ^ n := by
  induction n generalizing v with
  | zero => simp [leBytes, leNat, Nat.mod_one]
  | succ n ih =>
    rw [leBytes, leNat, ih, BitVec.toNat_ofNat, Nat.pow_succ 256 n, Nat.mul_comm (256 ^ n) 256, Nat.mod_mul]

/-- The bytes stored are read back. -/
theorem ldBytes_stBytes (s : State) (a : Nat) (bs : List Byte) : (s.stBytes a bs).ldBytes a bs.length = bs := by
  suffices h : ∀ (cs : List Byte) (t : State) (b : Nat), (∀ i (_ : i < cs.length), t.ldB (b + i) = cs[i]) → t.ldBytes b cs.length = cs from
    h bs _ a fun i hi => ldB_stBytes_in s a bs hi
  intro cs
  induction cs with
  | nil => intros; rfl
  | cons c cs ih =>
    intro t b h
    rw [List.length_cons, State.ldBytes, ih t (b + 1) fun i hi => by
      have := h (i + 1) (by simpa using hi)
      rw [show b + 1 + i = b + (i + 1) by omega, this]
      rfl]
    have := h 0 (by simp)
    rw [Nat.add_zero] at this
    rw [this]
    rfl

theorem ldN_stN (s : State) (a n v : Nat) : (s.stN a n v).ldN a n = v % 256 ^ n := by
  have h := ldBytes_stBytes s a (leBytes n v)
  rw [length_leBytes] at h
  rw [State.stN, State.ldN, h, leNat_leBytes]

/-- A 128-bit word stored is the word read. -/
theorem ld128_st128 (s : State) (a : Nat) (w : W128) : (s.st128 a w).ld128 a = w := by
  rw [State.ld128, State.st128, ldN_stN]
  apply BitVec.eq_of_toNat_eq
  have := w.isLt
  rw [BitVec.toNat_ofNat]
  omega

theorem ldB_st128_out (s : State) (a : Nat) (w : W128) {c : Nat} (h : c < a ∨ a + 16 ≤ c) : (s.st128 a w).ldB c = s.ldB c :=
  ldB_stBytes_out s a _ (by simpa using h)

/-! The canonical forms. -/

theorem canonical_setW {s : State} (a : Nat) (w : Word) (h : s.Canonical) : (s.setW a w).Canonical := ⟨h.1, spWf_spSet a w h.2⟩

theorem canonical_set {s : State} (f : Fld) (v : Nat) (h : s.Canonical) : (s.set f v).Canonical := canonical_setW _ _ h

theorem canonical_stB {s : State} (a : Nat) (b : Byte) (h : s.Canonical) : (s.stB a b).Canonical := ⟨spWf_spSet a b h.1, h.2⟩

theorem canonical_wipe {s : State} (a n : Nat) (h : s.Canonical) : (s.wipe a n).Canonical := ⟨spWf_filter _ h.1, h.2⟩

end Sys2Proof.Machine
end

