-- ==== Sys2Proof/Laws/Effect.lean ====
section
/-! SUPPORT. What an operation may change, said once per operation: `Eff F s t` says that going from s to t changes at most the parts of the state whose bit is 1 in the mask F (bit k is
the k-th field of State), keeps the canonical forms, and never lowers the counters that the manual only raises: the audit SEQ (R119), the seal counter's one-time-programmable fuses (R105), the
record index and the commit generation (R520, R251), the count of key replacements, and the model's own counter of free values. -/

namespace Sys2Proof.Machine

/-- At most the parts of F change, the canonical forms are kept, and the rising counters do not fall. -/
structure Eff (F : Nat) (s t : State) : Prop where
  pending : F.testBit 0 = false → t.pending = s.pending
  freeCtr : F.testBit 1 = false → t.freeCtr = s.freeCtr
  regs : F.testBit 2 = false → t.regs = s.regs
  mem : F.testBit 3 = false → t.mem = s.mem
  pins : F.testBit 4 = false → t.pins = s.pins
  boot : F.testBit 5 = false → t.boot = s.boot
  sealc : F.testBit 6 = false → t.sealc = s.sealc
  audit : F.testBit 7 = false → t.audit = s.audit
  ring : F.testBit 8 = false → t.ring = s.ring
  gw : F.testBit 9 = false → t.gw = s.gw
  keys : F.testBit 10 = false → t.keys = s.keys
  keysGen : F.testBit 11 = false → t.keysGen = s.keysGen
  sel : F.testBit 12 = false → t.sel = s.sel
  params : F.testBit 13 = false → t.params = s.params
  hflash : F.testBit 14 = false → t.hflash = s.hflash
  sflash : F.testBit 15 = false → t.sflash = s.sflash
  hic : F.testBit 16 = false → t.hic = s.hic
  sic : F.testBit 17 = false → t.sic = s.sic
  gpioH : F.testBit 18 = false → t.gpioH = s.gpioH
  gpioS : F.testBit 19 = false → t.gpioS = s.gpioS
  acq : F.testBit 20 = false → t.acq = s.acq
  echo : F.testBit 21 = false → t.echo = s.echo
  front : F.testBit 22 = false → t.front = s.front
  pulse : F.testBit 23 = false → t.pulse = s.pulse
  fabric : F.testBit 24 = false → t.fabric = s.fabric
  pairs : F.testBit 25 = false → t.pairs = s.pairs
  recs : F.testBit 26 = false → t.recs = s.recs
  time : F.testBit 27 = false → t.time = s.time
  spn : F.testBit 28 = false → t.spn = s.spn
  season : F.testBit 29 = false → t.season = s.season
  cal : F.testBit 30 = false → t.cal = s.cal
  flt : F.testBit 31 = false → t.flt = s.flt
  tw : F.testBit 32 = false → t.tw = s.tw
  twm : F.testBit 33 = false → t.twm = s.twm
  csp : F.testBit 34 = false → t.csp = s.csp
  cspx : F.testBit 35 = false → t.cspx = s.cspx
  mac : F.testBit 36 = false → t.mac = s.mac
  host : F.testBit 37 = false → t.host = s.host
  cores : F.testBit 38 = false → t.cores = s.cores
  hscHalted : F.testBit 39 = false → t.hscHalted = s.hscHalted
  snaps : F.testBit 40 = false → t.snaps = s.snaps
  wdt : F.testBit 41 = false → t.wdt = s.wdt
  tmr : F.testBit 42 = false → t.tmr = s.tmr
  ctl : F.testBit 43 = false → t.ctl = s.ctl
  reads : F.testBit 44 = false → t.reads = s.reads
  tap : F.testBit 45 = false → t.tap = s.tap
  kept : F.testBit 46 = false → t.kept = s.kept
  canonical : s.Canonical → t.Canonical
  freeUp : s.freeCtr ≤ t.freeCtr
  seqUp : s.audit.nextSeq ≤ t.audit.nextSeq
  fusesUp : s.sealc.fuses ≤ t.sealc.fuses
  keysUp : s.keysGen ≤ t.keysGen
  indexUp : s.recs.nextIndex ≤ t.recs.nextIndex
  commitUp : s.recs.gen ≤ t.recs.gen

theorem Eff.refl (F : Nat) (s : State) : Eff F s s := by
  constructor <;> intros <;> first | rfl | assumption | exact Nat.le_refl _

theorem Eff.sub {g F k : Nat} (h : F.land g = g) (hF : F.testBit k = false) : g.testBit k = false := by
  rw [← h, show F.land g = F &&& g from rfl, Nat.testBit_and, hF, Bool.false_and]

/-- What follows an operation whose parts are among F. -/
theorem Eff.step {g F : Nat} {b s t : State} (h2 : Eff g s t) (hm : F.land g = g) (h1 : Eff F b s) : Eff F b t where
  pending h := (h2.pending (Eff.sub hm h)).trans (h1.pending h)
  freeCtr h := (h2.freeCtr (Eff.sub hm h)).trans (h1.freeCtr h)
  regs h := (h2.regs (Eff.sub hm h)).trans (h1.regs h)
  mem h := (h2.mem (Eff.sub hm h)).trans (h1.mem h)
  pins h := (h2.pins (Eff.sub hm h)).trans (h1.pins h)
  boot h := (h2.boot (Eff.sub hm h)).trans (h1.boot h)
  sealc h := (h2.sealc (Eff.sub hm h)).trans (h1.sealc h)
  audit h := (h2.audit (Eff.sub hm h)).trans (h1.audit h)
  ring h := (h2.ring (Eff.sub hm h)).trans (h1.ring h)
  gw h := (h2.gw (Eff.sub hm h)).trans (h1.gw h)
  keys h := (h2.keys (Eff.sub hm h)).trans (h1.keys h)
  keysGen h := (h2.keysGen (Eff.sub hm h)).trans (h1.keysGen h)
  sel h := (h2.sel (Eff.sub hm h)).trans (h1.sel h)
  params h := (h2.params (Eff.sub hm h)).trans (h1.params h)
  hflash h := (h2.hflash (Eff.sub hm h)).trans (h1.hflash h)
  sflash h := (h2.sflash (Eff.sub hm h)).trans (h1.sflash h)
  hic h := (h2.hic (Eff.sub hm h)).trans (h1.hic h)
  sic h := (h2.sic (Eff.sub hm h)).trans (h1.sic h)
  gpioH h := (h2.gpioH (Eff.sub hm h)).trans (h1.gpioH h)
  gpioS h := (h2.gpioS (Eff.sub hm h)).trans (h1.gpioS h)
  acq h := (h2.acq (Eff.sub hm h)).trans (h1.acq h)
  echo h := (h2.echo (Eff.sub hm h)).trans (h1.echo h)
  front h := (h2.front (Eff.sub hm h)).trans (h1.front h)
  pulse h := (h2.pulse (Eff.sub hm h)).trans (h1.pulse h)
  fabric h := (h2.fabric (Eff.sub hm h)).trans (h1.fabric h)
  pairs h := (h2.pairs (Eff.sub hm h)).trans (h1.pairs h)
  recs h := (h2.recs (Eff.sub hm h)).trans (h1.recs h)
  time h := (h2.time (Eff.sub hm h)).trans (h1.time h)
  spn h := (h2.spn (Eff.sub hm h)).trans (h1.spn h)
  season h := (h2.season (Eff.sub hm h)).trans (h1.season h)
  cal h := (h2.cal (Eff.sub hm h)).trans (h1.cal h)
  flt h := (h2.flt (Eff.sub hm h)).trans (h1.flt h)
  tw h := (h2.tw (Eff.sub hm h)).trans (h1.tw h)
  twm h := (h2.twm (Eff.sub hm h)).trans (h1.twm h)
  csp h := (h2.csp (Eff.sub hm h)).trans (h1.csp h)
  cspx h := (h2.cspx (Eff.sub hm h)).trans (h1.cspx h)
  mac h := (h2.mac (Eff.sub hm h)).trans (h1.mac h)
  host h := (h2.host (Eff.sub hm h)).trans (h1.host h)
  cores h := (h2.cores (Eff.sub hm h)).trans (h1.cores h)
  hscHalted h := (h2.hscHalted (Eff.sub hm h)).trans (h1.hscHalted h)
  snaps h := (h2.snaps (Eff.sub hm h)).trans (h1.snaps h)
  wdt h := (h2.wdt (Eff.sub hm h)).trans (h1.wdt h)
  tmr h := (h2.tmr (Eff.sub hm h)).trans (h1.tmr h)
  ctl h := (h2.ctl (Eff.sub hm h)).trans (h1.ctl h)
  reads h := (h2.reads (Eff.sub hm h)).trans (h1.reads h)
  tap h := (h2.tap (Eff.sub hm h)).trans (h1.tap h)
  kept h := (h2.kept (Eff.sub hm h)).trans (h1.kept h)
  canonical h := h2.canonical (h1.canonical h)
  freeUp := Nat.le_trans h1.freeUp h2.freeUp
  seqUp := Nat.le_trans h1.seqUp h2.seqUp
  fusesUp := Nat.le_trans h1.fusesUp h2.fusesUp
  keysUp := Nat.le_trans h1.keysUp h2.keysUp
  indexUp := Nat.le_trans h1.indexUp h2.indexUp
  commitUp := Nat.le_trans h1.commitUp h2.commitUp

/-- An operation whose parts are among F. -/
theorem Eff.mono {g F : Nat} {s t : State} (h : Eff g s t) (hm : F.land g = g) : Eff F s t := Eff.step h hm (Eff.refl F s)

theorem Eff.ite {F : Nat} {b x y : State} {c : Prop} [Decidable c] (hx : Eff F b x) (hy : Eff F b y) : Eff F b (if c then x else y) := by
  split
  · exact hx
  · exact hy

theorem Eff.upd_freeCtr {F : Nat} {b s : State} {v : Nat} (h : Eff F b s) (hF : F.testBit 1 = true) (hv : s.freeCtr ≤ v) : Eff F b { s with freeCtr := v } :=
  { h with
    freeCtr := fun e => absurd (e.symm.trans hF) (by decide)
    freeUp := Nat.le_trans h.freeUp hv }

theorem Eff.upd_regs {F : Nat} {b s : State} {v : List (Nat × Word)} (h : Eff F b s) (hF : F.testBit 2 = true) (hw : Regs.wf s.regs = true → Regs.wf v = true) : Eff F b { s with regs := v } :=
  { h with
    regs := fun e => absurd (e.symm.trans hF) (by decide)
    canonical := fun c => ⟨(h.canonical c).1, hw (h.canonical c).2⟩ }

theorem Eff.upd_mem {F : Nat} {b s : State} {v : List Host.Cell} (h : Eff F b s) (hF : F.testBit 3 = true) (hw : Memory.wf s.mem = true → Memory.wf v = true) : Eff F b { s with mem := v } :=
  { h with
    mem := fun e => absurd (e.symm.trans hF) (by decide)
    canonical := fun c => ⟨hw (h.canonical c).1, (h.canonical c).2⟩ }

theorem Eff.upd_pins {F : Nat} {b s : State} {v : Pins} (h : Eff F b s) (hF : F.testBit 4 = true) : Eff F b { s with pins := v } :=
  { h with pins := fun e => absurd (e.symm.trans hF) (by decide) }

theorem Eff.upd_boot {F : Nat} {b s : State} {v : Boot} (h : Eff F b s) (hF : F.testBit 5 = true) : Eff F b { s with boot := v } :=
  { h with boot := fun e => absurd (e.symm.trans hF) (by decide) }

theorem Eff.upd_sealc {F : Nat} {b s : State} {v : Seal} (h : Eff F b s) (hF : F.testBit 6 = true) (hv : s.sealc.fuses ≤ v.fuses) : Eff F b { s with sealc := v } :=
  { h with
    sealc := fun e => absurd (e.symm.trans hF) (by decide)
    fusesUp := Nat.le_trans h.fusesUp hv }

theorem Eff.upd_audit {F : Nat} {b s : State} {v : Audit} (h : Eff F b s) (hF : F.testBit 7 = true) (hv : s.audit.nextSeq ≤ v.nextSeq) : Eff F b { s with audit := v } :=
  { h with
    audit := fun e => absurd (e.symm.trans hF) (by decide)
    seqUp := Nat.le_trans h.seqUp hv }

theorem Eff.upd_ring {F : Nat} {b s : State} {v : Ring} (h : Eff F b s) (hF : F.testBit 8 = true) : Eff F b { s with ring := v } :=
  { h with ring := fun e => absurd (e.symm.trans hF) (by decide) }

theorem Eff.upd_gw {F : Nat} {b s : State} {v : Gw} (h : Eff F b s) (hF : F.testBit 9 = true) : Eff F b { s with gw := v } :=
  { h with gw := fun e => absurd (e.symm.trans hF) (by decide) }

theorem Eff.upd_keys {F : Nat} {b s : State} {v : List KeySlot} (h : Eff F b s) (hF : F.testBit 10 = true) : Eff F b { s with keys := v } :=
  { h with keys := fun e => absurd (e.symm.trans hF) (by decide) }

theorem Eff.upd_keysGen {F : Nat} {b s : State} {v : Nat} (h : Eff F b s) (hF : F.testBit 11 = true) (hv : s.keysGen ≤ v) : Eff F b { s with keysGen := v } :=
  { h with
    keysGen := fun e => absurd (e.symm.trans hF) (by decide)
    keysUp := Nat.le_trans h.keysUp hv }

theorem Eff.upd_sel {F : Nat} {b s : State} {v : SelWord} (h : Eff F b s) (hF : F.testBit 12 = true) : Eff F b { s with sel := v } :=
  { h with sel := fun e => absurd (e.symm.trans hF) (by decide) }

theorem Eff.upd_params {F : Nat} {b s : State} {v : List (Nat × Nat)} (h : Eff F b s) (hF : F.testBit 13 = true) : Eff F b { s with params := v } :=
  { h with params := fun e => absurd (e.symm.trans hF) (by decide) }

theorem Eff.upd_hflash {F : Nat} {b s : State} {v : FlashArr} (h : Eff F b s) (hF : F.testBit 14 = true) : Eff F b { s with hflash := v } :=
  { h with hflash := fun e => absurd (e.symm.trans hF) (by decide) }

theorem Eff.upd_sflash {F : Nat} {b s : State} {v : FlashArr} (h : Eff F b s) (hF : F.testBit 15 = true) : Eff F b { s with sflash := v } :=
  { h with sflash := fun e => absurd (e.symm.trans hF) (by decide) }

theorem Eff.upd_hic {F : Nat} {b s : State} {v : Ic} (h : Eff F b s) (hF : F.testBit 16 = true) : Eff F b { s with hic := v } :=
  { h with hic := fun e => absurd (e.symm.trans hF) (by decide) }

theorem Eff.upd_sic {F : Nat} {b s : State} {v : Ic} (h : Eff F b s) (hF : F.testBit 17 = true) : Eff F b { s with sic := v } :=
  { h with sic := fun e => absurd (e.symm.trans hF) (by decide) }

theorem Eff.upd_gpioH {F : Nat} {b s : State} {v : Bool} (h : Eff F b s) (hF : F.testBit 18 = true) : Eff F b { s with gpioH := v } :=
  { h with gpioH := fun e => absurd (e.symm.trans hF) (by decide) }

theorem Eff.upd_gpioS {F : Nat} {b s : State} {v : List Nat} (h : Eff F b s) (hF : F.testBit 19 = true) : Eff F b { s with gpioS := v } :=
  { h with gpioS := fun e => absurd (e.symm.trans hF) (by decide) }

theorem Eff.upd_acq {F : Nat} {b s : State} {v : Acq} (h : Eff F b s) (hF : F.testBit 20 = true) : Eff F b { s with acq := v } :=
  { h with acq := fun e => absurd (e.symm.trans hF) (by decide) }

theorem Eff.upd_echo {F : Nat} {b s : State} {v : Echo} (h : Eff F b s) (hF : F.testBit 21 = true) : Eff F b { s with echo := v } :=
  { h with echo := fun e => absurd (e.symm.trans hF) (by decide) }

theorem Eff.upd_front {F : Nat} {b s : State} {v : Front} (h : Eff F b s) (hF : F.testBit 22 = true) : Eff F b { s with front := v } :=
  { h with front := fun e => absurd (e.symm.trans hF) (by decide) }

theorem Eff.upd_pulse {F : Nat} {b s : State} {v : List (Nat × Pulse)} (h : Eff F b s) (hF : F.testBit 23 = true) : Eff F b { s with pulse := v } :=
  { h with pulse := fun e => absurd (e.symm.trans hF) (by decide) }

theorem Eff.upd_fabric {F : Nat} {b s : State} {v : Fabric} (h : Eff F b s) (hF : F.testBit 24 = true) : Eff F b { s with fabric := v } :=
  { h with fabric := fun e => absurd (e.symm.trans hF) (by decide) }

theorem Eff.upd_pairs {F : Nat} {b s : State} {v : List (Nat × Pair)} (h : Eff F b s) (hF : F.testBit 25 = true) : Eff F b { s with pairs := v } :=
  { h with pairs := fun e => absurd (e.symm.trans hF) (by decide) }

theorem Eff.upd_recs {F : Nat} {b s : State} {v : Recs} (h : Eff F b s) (hF : F.testBit 26 = true) (hv : s.recs.nextIndex ≤ v.nextIndex ∧ s.recs.gen ≤ v.gen) :
    Eff F b { s with recs := v } :=
  { h with
    recs := fun e => absurd (e.symm.trans hF) (by decide)
    indexUp := Nat.le_trans h.indexUp hv.1
    commitUp := Nat.le_trans h.commitUp hv.2 }

theorem Eff.upd_time {F : Nat} {b s : State} {v : TimeBase} (h : Eff F b s) (hF : F.testBit 27 = true) : Eff F b { s with time := v } :=
  { h with time := fun e => absurd (e.symm.trans hF) (by decide) }

theorem Eff.upd_spn {F : Nat} {b s : State} {v : Spindle} (h : Eff F b s) (hF : F.testBit 28 = true) : Eff F b { s with spn := v } :=
  { h with spn := fun e => absurd (e.symm.trans hF) (by decide) }

theorem Eff.upd_season {F : Nat} {b s : State} {v : Season} (h : Eff F b s) (hF : F.testBit 29 = true) : Eff F b { s with season := v } :=
  { h with season := fun e => absurd (e.symm.trans hF) (by decide) }

theorem Eff.upd_cal {F : Nat} {b s : State} {v : Calib} (h : Eff F b s) (hF : F.testBit 30 = true) : Eff F b { s with cal := v } :=
  { h with cal := fun e => absurd (e.symm.trans hF) (by decide) }

theorem Eff.upd_flt {F : Nat} {b s : State} {v : Faults} (h : Eff F b s) (hF : F.testBit 31 = true) : Eff F b { s with flt := v } :=
  { h with flt := fun e => absurd (e.symm.trans hF) (by decide) }

theorem Eff.upd_tw {F : Nat} {b s : State} {v : List (Nat × TwPort)} (h : Eff F b s) (hF : F.testBit 32 = true) : Eff F b { s with tw := v } :=
  { h with tw := fun e => absurd (e.symm.trans hF) (by decide) }

theorem Eff.upd_twm {F : Nat} {b s : State} {v : Twm} (h : Eff F b s) (hF : F.testBit 33 = true) : Eff F b { s with twm := v } :=
  { h with twm := fun e => absurd (e.symm.trans hF) (by decide) }

theorem Eff.upd_csp {F : Nat} {b s : State} {v : List (Nat × CspPort)} (h : Eff F b s) (hF : F.testBit 34 = true) : Eff F b { s with csp := v } :=
  { h with csp := fun e => absurd (e.symm.trans hF) (by decide) }

theorem Eff.upd_cspx {F : Nat} {b s : State} {v : CspX} (h : Eff F b s) (hF : F.testBit 35 = true) : Eff F b { s with cspx := v } :=
  { h with cspx := fun e => absurd (e.symm.trans hF) (by decide) }

theorem Eff.upd_mac {F : Nat} {b s : State} {v : List (Nat × Mac)} (h : Eff F b s) (hF : F.testBit 36 = true) : Eff F b { s with mac := v } :=
  { h with mac := fun e => absurd (e.symm.trans hF) (by decide) }

theorem Eff.upd_host {F : Nat} {b s : State} {v : HostEng} (h : Eff F b s) (hF : F.testBit 37 = true) : Eff F b { s with host := v } :=
  { h with host := fun e => absurd (e.symm.trans hF) (by decide) }

theorem Eff.upd_cores {F : Nat} {b s : State} {v : List (Nat × Core)} (h : Eff F b s) (hF : F.testBit 38 = true) : Eff F b { s with cores := v } :=
  { h with cores := fun e => absurd (e.symm.trans hF) (by decide) }

theorem Eff.upd_hscHalted {F : Nat} {b s : State} {v : Bool} (h : Eff F b s) (hF : F.testBit 39 = true) : Eff F b { s with hscHalted := v } :=
  { h with hscHalted := fun e => absurd (e.symm.trans hF) (by decide) }

theorem Eff.upd_snaps {F : Nat} {b s : State} {v : List (Nat × List SnapEntry)} (h : Eff F b s) (hF : F.testBit 40 = true) : Eff F b { s with snaps := v } :=
  { h with snaps := fun e => absurd (e.symm.trans hF) (by decide) }

theorem Eff.upd_wdt {F : Nat} {b s : State} {v : Wdt} (h : Eff F b s) (hF : F.testBit 41 = true) : Eff F b { s with wdt := v } :=
  { h with wdt := fun e => absurd (e.symm.trans hF) (by decide) }

theorem Eff.upd_tmr {F : Nat} {b s : State} {v : Tmr} (h : Eff F b s) (hF : F.testBit 42 = true) : Eff F b { s with tmr := v } :=
  { h with tmr := fun e => absurd (e.symm.trans hF) (by decide) }

theorem Eff.upd_ctl {F : Nat} {b s : State} {v : List (Nat × List CtlCopy)} (h : Eff F b s) (hF : F.testBit 43 = true) : Eff F b { s with ctl := v } :=
  { h with ctl := fun e => absurd (e.symm.trans hF) (by decide) }

theorem Eff.upd_reads {F : Nat} {b s : State} {v : List (Nat × Word)} (h : Eff F b s) (hF : F.testBit 44 = true) : Eff F b { s with reads := v } :=
  { h with reads := fun e => absurd (e.symm.trans hF) (by decide) }

theorem Eff.upd_tap {F : Nat} {b s : State} {v : Tap} (h : Eff F b s) (hF : F.testBit 45 = true) : Eff F b { s with tap := v } :=
  { h with tap := fun e => absurd (e.symm.trans hF) (by decide) }

theorem Eff.upd_kept {F : Nat} {b s : State} {v : List (Ball × Level)} (h : Eff F b s) (hF : F.testBit 46 = true) : Eff F b { s with kept := v } :=
  { h with kept := fun e => absurd (e.symm.trans hF) (by decide) }

theorem Eff.upd_boot_spn_wdt {F : Nat} {b s : State} {v0 : Boot} {v1 : Spindle} {v2 : Wdt} (h : Eff F b s) (hv0 : F.testBit 5 = true) (hv1 : F.testBit 28 = true) (hv2 : F.testBit 41 = true)  :
    Eff F b { s with boot := v0, spn := v1, wdt := v2 } := Eff.upd_wdt (s := { { s with boot := v0 } with spn := v1 }) (v := v2) (Eff.upd_spn (s := { s with boot := v0 }) (v := v1) (Eff.upd_boot (s := s) (v := v0) h hv0) hv1) hv2

theorem Eff.upd_season_cspx_tmr {F : Nat} {b s : State} {v0 : Season} {v1 : CspX} {v2 : Tmr} (h : Eff F b s) (hv0 : F.testBit 29 = true) (hv1 : F.testBit 35 = true) (hv2 : F.testBit 42 = true)  :
    Eff F b { s with season := v0, cspx := v1, tmr := v2 } := Eff.upd_tmr (s := { { s with season := v0 } with cspx := v1 }) (v := v2) (Eff.upd_cspx (s := { s with season := v0 }) (v := v1) (Eff.upd_season (s := s) (v := v0) h hv0) hv1) hv2

theorem Eff.upd_cores_tmr {F : Nat} {b s : State} {v0 : List (Nat × Core)} {v1 : Tmr} (h : Eff F b s) (hv0 : F.testBit 38 = true) (hv1 : F.testBit 42 = true)  :
    Eff F b { s with cores := v0, tmr := v1 } := Eff.upd_tmr (s := { s with cores := v0 }) (v := v1) (Eff.upd_cores (s := s) (v := v0) h hv0) hv1

theorem Eff.upd_recs_spn {F : Nat} {b s : State} {v0 : Recs} {v1 : Spindle} (h : Eff F b s) (hv0 : F.testBit 26 = true) (hv1 : F.testBit 28 = true) (kv0 : s.recs.nextIndex ≤ v0.nextIndex ∧ s.recs.gen ≤ v0.gen) :
    Eff F b { s with recs := v0, spn := v1 } := Eff.upd_spn (s := { s with recs := v0 }) (v := v1) (Eff.upd_recs (s := s) (v := v0) h hv0 kv0) hv1

theorem Eff.upd_season_kept {F : Nat} {b s : State} {v0 : Season} {v1 : List (Ball × Level)} (h : Eff F b s) (hv0 : F.testBit 29 = true) (hv1 : F.testBit 46 = true)  :
    Eff F b { s with season := v0, kept := v1 } := Eff.upd_kept (s := { s with season := v0 }) (v := v1) (Eff.upd_season (s := s) (v := v0) h hv0) hv1

theorem Eff.upd_gw_cal {F : Nat} {b s : State} {v0 : Gw} {v1 : Calib} (h : Eff F b s) (hv0 : F.testBit 9 = true) (hv1 : F.testBit 30 = true)  :
    Eff F b { s with gw := v0, cal := v1 } := Eff.upd_cal (s := { s with gw := v0 }) (v := v1) (Eff.upd_gw (s := s) (v := v0) h hv0) hv1

theorem Eff.upd_pins_cores {F : Nat} {b s : State} {v0 : Pins} {v1 : List (Nat × Core)} (h : Eff F b s) (hv0 : F.testBit 4 = true) (hv1 : F.testBit 38 = true)  :
    Eff F b { s with pins := v0, cores := v1 } := Eff.upd_cores (s := { s with pins := v0 }) (v := v1) (Eff.upd_pins (s := s) (v := v0) h hv0) hv1

theorem Eff.upd_sealc_params {F : Nat} {b s : State} {v0 : Seal} {v1 : List (Nat × Nat)} (h : Eff F b s) (hv0 : F.testBit 6 = true) (hv1 : F.testBit 13 = true) (kv0 : s.sealc.fuses ≤ v0.fuses) :
    Eff F b { s with sealc := v0, params := v1 } := Eff.upd_params (s := { s with sealc := v0 }) (v := v1) (Eff.upd_sealc (s := s) (v := v0) h hv0 kv0) hv1

theorem Eff.upd_fabric_cal {F : Nat} {b s : State} {v0 : Fabric} {v1 : Calib} (h : Eff F b s) (hv0 : F.testBit 24 = true) (hv1 : F.testBit 30 = true)  :
    Eff F b { s with fabric := v0, cal := v1 } := Eff.upd_cal (s := { s with fabric := v0 }) (v := v1) (Eff.upd_fabric (s := s) (v := v0) h hv0) hv1

theorem Eff.upd_hic_sic {F : Nat} {b s : State} {v0 : Ic} {v1 : Ic} (h : Eff F b s) (hv0 : F.testBit 16 = true) (hv1 : F.testBit 17 = true)  :
    Eff F b { s with hic := v0, sic := v1 } := Eff.upd_sic (s := { s with hic := v0 }) (v := v1) (Eff.upd_hic (s := s) (v := v0) h hv0) hv1

theorem Eff.upd_front_spn {F : Nat} {b s : State} {v0 : Front} {v1 : Spindle} (h : Eff F b s) (hv0 : F.testBit 22 = true) (hv1 : F.testBit 28 = true)  :
    Eff F b { s with front := v0, spn := v1 } := Eff.upd_spn (s := { s with front := v0 }) (v := v1) (Eff.upd_front (s := s) (v := v0) h hv0) hv1

theorem Eff.upd_hflash_ctl {F : Nat} {b s : State} {v0 : FlashArr} {v1 : List (Nat × List CtlCopy)} (h : Eff F b s) (hv0 : F.testBit 14 = true) (hv1 : F.testBit 43 = true)  :
    Eff F b { s with hflash := v0, ctl := v1 } := Eff.upd_ctl (s := { s with hflash := v0 }) (v := v1) (Eff.upd_hflash (s := s) (v := v0) h hv0) hv1

theorem Eff.upd_hflash_recs {F : Nat} {b s : State} {v0 : FlashArr} {v1 : Recs} (h : Eff F b s) (hv0 : F.testBit 14 = true) (hv1 : F.testBit 26 = true) (kv1 : s.recs.nextIndex ≤ v1.nextIndex ∧ s.recs.gen ≤ v1.gen) :
    Eff F b { s with hflash := v0, recs := v1 } := Eff.upd_recs (s := { s with hflash := v0 }) (v := v1) (Eff.upd_hflash (s := s) (v := v0) h hv0) hv1 kv1

theorem Eff.upd_sealc_front {F : Nat} {b s : State} {v0 : Seal} {v1 : Front} (h : Eff F b s) (hv0 : F.testBit 6 = true) (hv1 : F.testBit 22 = true) (kv0 : s.sealc.fuses ≤ v0.fuses) :
    Eff F b { s with sealc := v0, front := v1 } := Eff.upd_front (s := { s with sealc := v0 }) (v := v1) (Eff.upd_sealc (s := s) (v := v0) h hv0 kv0) hv1

theorem Eff.upd_hscHalted_wdt {F : Nat} {b s : State} {v0 : Bool} {v1 : Wdt} (h : Eff F b s) (hv0 : F.testBit 39 = true) (hv1 : F.testBit 41 = true)  :
    Eff F b { s with hscHalted := v0, wdt := v1 } := Eff.upd_wdt (s := { s with hscHalted := v0 }) (v := v1) (Eff.upd_hscHalted (s := s) (v := v0) h hv0) hv1

theorem Eff.upd_freeCtr_time {F : Nat} {b s : State} {v0 : Nat} {v1 : TimeBase} (h : Eff F b s) (hv0 : F.testBit 1 = true) (hv1 : F.testBit 27 = true) (kv0 : s.freeCtr ≤ v0) :
    Eff F b { s with freeCtr := v0, time := v1 } := Eff.upd_time (s := { s with freeCtr := v0 }) (v := v1) (Eff.upd_freeCtr (s := s) (v := v0) h hv0 kv0) hv1

theorem Eff.upd_spn_flt {F : Nat} {b s : State} {v0 : Spindle} {v1 : Faults} (h : Eff F b s) (hv0 : F.testBit 28 = true) (hv1 : F.testBit 31 = true)  :
    Eff F b { s with spn := v0, flt := v1 } := Eff.upd_flt (s := { s with spn := v0 }) (v := v1) (Eff.upd_spn (s := s) (v := v0) h hv0) hv1

theorem Eff.upd_hic_sic_time_spn_season_cal {F : Nat} {b s : State} {v0 : Ic} {v1 : Ic} {v2 : TimeBase} {v3 : Spindle} {v4 : Season} {v5 : Calib} (h : Eff F b s) (hv0 : F.testBit 16 = true) (hv1 : F.testBit 17 = true) (hv2 : F.testBit 27 = true) (hv3 : F.testBit 28 = true) (hv4 : F.testBit 29 = true) (hv5 : F.testBit 30 = true)  :
    Eff F b { s with hic := v0, sic := v1, time := v2, spn := v3, season := v4, cal := v5 } := Eff.upd_cal (s := { { { { { s with hic := v0 } with sic := v1 } with time := v2 } with spn := v3 } with season := v4 }) (v := v5) (Eff.upd_season (s := { { { { s with hic := v0 } with sic := v1 } with time := v2 } with spn := v3 }) (v := v4) (Eff.upd_spn (s := { { { s with hic := v0 } with sic := v1 } with time := v2 }) (v := v3) (Eff.upd_time (s := { { s with hic := v0 } with sic := v1 }) (v := v2) (Eff.upd_sic (s := { s with hic := v0 }) (v := v1) (Eff.upd_hic (s := s) (v := v0) h hv0) hv1) hv2) hv3) hv4) hv5

theorem Eff.upd_boot_flt {F : Nat} {b s : State} {v0 : Boot} {v1 : Faults} (h : Eff F b s) (hv0 : F.testBit 5 = true) (hv1 : F.testBit 31 = true)  :
    Eff F b { s with boot := v0, flt := v1 } := Eff.upd_flt (s := { s with boot := v0 }) (v := v1) (Eff.upd_boot (s := s) (v := v0) h hv0) hv1

theorem Eff.upd_acq_echo_pulse_fabric_pairs {F : Nat} {b s : State} {v0 : Acq} {v1 : Echo} {v2 : List (Nat × Pulse)} {v3 : Fabric} {v4 : List (Nat × Pair)} (h : Eff F b s) (hv0 : F.testBit 20 = true) (hv1 : F.testBit 21 = true) (hv2 : F.testBit 23 = true) (hv3 : F.testBit 24 = true) (hv4 : F.testBit 25 = true)  :
    Eff F b { s with acq := v0, echo := v1, pulse := v2, fabric := v3, pairs := v4 } := Eff.upd_pairs (s := { { { { s with acq := v0 } with echo := v1 } with pulse := v2 } with fabric := v3 }) (v := v4) (Eff.upd_fabric (s := { { { s with acq := v0 } with echo := v1 } with pulse := v2 }) (v := v3) (Eff.upd_pulse (s := { { s with acq := v0 } with echo := v1 }) (v := v2) (Eff.upd_echo (s := { s with acq := v0 }) (v := v1) (Eff.upd_acq (s := s) (v := v0) h hv0) hv1) hv2) hv3) hv4

theorem Eff.upd_keys_keysGen {F : Nat} {b s : State} {v0 : List KeySlot} {v1 : Nat} (h : Eff F b s) (hv0 : F.testBit 10 = true) (hv1 : F.testBit 11 = true) (kv1 : s.keysGen ≤ v1) :
    Eff F b { s with keys := v0, keysGen := v1 } := Eff.upd_keysGen (s := { s with keys := v0 }) (v := v1) (Eff.upd_keys (s := s) (v := v0) h hv0) hv1 kv1

theorem Eff.upd_spn_season {F : Nat} {b s : State} {v0 : Spindle} {v1 : Season} (h : Eff F b s) (hv0 : F.testBit 28 = true) (hv1 : F.testBit 29 = true)  :
    Eff F b { s with spn := v0, season := v1 } := Eff.upd_season (s := { s with spn := v0 }) (v := v1) (Eff.upd_spn (s := s) (v := v0) h hv0) hv1

theorem Eff.upd_front_fabric {F : Nat} {b s : State} {v0 : Front} {v1 : Fabric} (h : Eff F b s) (hv0 : F.testBit 22 = true) (hv1 : F.testBit 24 = true)  :
    Eff F b { s with front := v0, fabric := v1 } := Eff.upd_fabric (s := { s with front := v0 }) (v := v1) (Eff.upd_front (s := s) (v := v0) h hv0) hv1

theorem Eff.upd_freeCtr_gw_cal {F : Nat} {b s : State} {v0 : Nat} {v1 : Gw} {v2 : Calib} (h : Eff F b s) (hv0 : F.testBit 1 = true) (hv1 : F.testBit 9 = true) (hv2 : F.testBit 30 = true) (kv0 : s.freeCtr ≤ v0) :
    Eff F b { s with freeCtr := v0, gw := v1, cal := v2 } := Eff.upd_cal (s := { { s with freeCtr := v0 } with gw := v1 }) (v := v2) (Eff.upd_gw (s := { s with freeCtr := v0 }) (v := v1) (Eff.upd_freeCtr (s := s) (v := v0) h hv0 kv0) hv1) hv2

theorem Eff.landTrans {F g k : Nat} (h : F.land g = g) (hk : g.land k = k) : F.land k = k := by
  have h1 : F &&& g = g := h
  have h2 : g &&& k = k := hk
  have h3 : F &&& k = k := by rw [← h2, ← Nat.and_assoc, h1]
  exact h3

/-- What a part of an instruction may change where it completes. -/
def TrEff {α : Type} (F : Nat) (s : State) : Tr α → Prop
  | .ok _ t => Eff F s t
  | .trap _ => True
  | .ecc _ _ _ => True

theorem TrEff.ok {α : Type} {F : Nat} {s t : State} {a : α} (h : Eff F s t) : TrEff F s (.ok a t) := h

theorem TrEff.trap {α : Type} {F : Nat} {s : State} {c : Nat} : TrEff F s (.trap c : Tr α) := trivial

theorem TrEff.ite {α : Type} {F : Nat} {s : State} {x y : Tr α} {c : Prop} [Decidable c] (hx : TrEff F s x) (hy : TrEff F s y) : TrEff F s (if c then x else y) := by
  split
  · exact hx
  · exact hy

theorem TrEff.step {α : Type} {g F : Nat} {b t : State} {x : Tr α} (h2 : TrEff g t x) (hm : F.land g = g) (h1 : Eff F b t) : TrEff F b x := by
  cases x with
  | ok a u => exact Eff.step h2 hm h1
  | trap c => trivial
  | ecc a m c => trivial

theorem TrEff.bind {α β : Type} {F : Nat} {b : State} {x : Tr α} {f : α → State → Tr β} (hx : TrEff F b x) (hf : ∀ a t, Eff F b t → TrEff F b (f a t)) : TrEff F b (x.bind f) := by
  cases x with
  | ok a u => exact hf a u hx
  | trap c => trivial
  | ecc a m c => trivial

theorem Eff.foldl {α : Type} {F : Nat} {b : State} (f : State → α → State) (hf : ∀ t x, Eff F b t → Eff F b (f t x)) (l : List α) (s : State) (h : Eff F b s) : Eff F b (l.foldl f s) := by
  induction l generalizing s with
  | nil => exact h
  | cons x xs ih => exact ih _ (hf _ _ h)

theorem alSorted_map {α : Type} (f : Nat × α → α) (m : List (Nat × α)) (h : alSorted m = true) : alSorted (m.map fun e => (e.1, f e)) = true := by
  induction m with
  | nil => rfl
  | cons e m ih =>
    have h' := (alSorted_cons _ _).1 h
    refine (alSorted_cons _ _).2 ⟨ih h'.1, fun x hx => ?_⟩
    obtain ⟨y, hy, rfl⟩ := List.mem_map.1 hx
    exact h'.2 y hy

/-- What a reset class leaves of the registers is canonical. -/
theorem regsClass_wf (keep : Nat → FieldSpec → Bool) {m : List (Nat × Word)} (h : Regs.wf m = true) : Regs.wf (regsClass keep m) = true := by
  have h' := (spWf_iff _ _).1 h
  refine (spWf_iff _ _).2 ⟨alSorted_filter _ (alSorted_map (fun e => keepWord (keep e.1) e.1 e.2) m h'.1), fun x hx => ?_⟩
  simpa using (List.mem_filter.1 hx).2


/-- What a command may change where it answers a next state. -/
def OutEff (F : Nat) (s : State) (o : Host.Outcome State Fault Refusal) : Prop := ∀ t, o = .next t → Eff F s t

theorem OutEff.next {F : Nat} {s t : State} (h : Eff F s t) : OutEff F s (.next t) := fun _ e => Host.Outcome.next.inj e ▸ h

theorem OutEff.guard {F : Nat} {s t : State} {b : Bool} (h : Eff F s t) : OutEff F s (guardUnit b t) := by
  intro u e
  cases b
  · exact absurd e (by simp [guardUnit])
  · exact OutEff.next h u e

end Sys2Proof.Machine
end

