-- ==== Sys2Proof/Laws/EffOps.lean ====
section
/-! SUPPORT. What every operation of Machine/Ops.lean may change, and that it keeps the canonical forms and lowers no rising counter (Effect.lean). -/

namespace Sys2Proof.Machine

theorem State.setW_eff (s : State) (a : Nat) (w : Word) : Eff 4 s (s.setW a w) := Eff.upd_regs (Eff.refl _ s) rfl (spWf_spSet a w)

theorem State.set_eff (s : State) (f : Fld) (v : Nat) : Eff 4 s (State.set s f v) := by
  unfold State.set
  with_reducible repeat' first | assumption | exact Eff.refl _ _ | refine (State.setW_eff _ _ _).step rfl ?_ | refine Eff.ite ?_ ?_ | split | dsimp only

theorem State.setB_eff (s : State) (f : Fld) (b : Bool) : Eff 4 s (State.setB s f b) := by
  unfold State.setB
  with_reducible repeat' first | assumption | exact Eff.refl _ _ | refine (State.set_eff _ _ _).step rfl ?_ | refine Eff.ite ?_ ?_ | split | dsimp only

theorem State.coreTakes_eff (s : State) (t : Nat) (fast : Bool) (normal : Bool) : Eff 274877906948 s (State.coreTakes s t fast normal) := by
  unfold State.coreTakes
  with_reducible repeat' first | assumption | exact Eff.refl _ _ | refine (State.set_eff _ _ _).step rfl ?_ | refine Eff.ite ?_ ?_ | split | refine Eff.upd_cores ?_ rfl | dsimp only

theorem State.setIc_eff (s : State) (c : Nat) (x : Ic) : Eff 196608 s (State.setIc s c x) := by
  unfold State.setIc
  with_reducible repeat' first | assumption | exact Eff.refl _ _ | refine Eff.ite ?_ ?_ | split | refine Eff.upd_hic ?_ rfl | refine Eff.upd_sic ?_ rfl | dsimp only

theorem State.icLines_eff (s : State) (c : Nat) (t : Nat) : Eff 274878103556 s (State.icLines s c t) := by
  unfold State.icLines
  with_reducible repeat' first | assumption | exact Eff.refl _ _ | refine (State.coreTakes_eff _ _ _ _).step rfl ?_ | refine (State.set_eff _ _ _).step rfl ?_ | refine (State.setIc_eff _ _ _).step rfl ?_ | refine Eff.ite ?_ ?_ | split | dsimp only

theorem State.icUpdate_eff (s : State) (c : Nat) : Eff 274878103556 s (State.icUpdate s c) := by
  unfold State.icUpdate
  with_reducible repeat' first | assumption | exact Eff.refl _ _ | refine (State.icLines_eff _ _ _).step rfl ?_ | refine Eff.ite ?_ ?_ | split | dsimp only

theorem State.icPend1_eff (s : State) (c : Nat) (n : Nat) : Eff 274878103556 s (State.icPend1 s c n) := by
  unfold State.icPend1
  with_reducible repeat' first | assumption | exact Eff.refl _ _ | refine (State.icUpdate_eff _ _).step rfl ?_ | refine (State.set_eff _ _ _).step rfl ?_ | refine (State.setIc_eff _ _ _).step rfl ?_ | refine Eff.ite ?_ ?_ | split | dsimp only

theorem State.sat_eff (s : State) (f : Fld) (n : Nat) : Eff 4 s (State.sat s f n) := by
  unfold State.sat
  with_reducible repeat' first | assumption | exact Eff.refl _ _ | refine (State.set_eff _ _ _).step rfl ?_ | refine Eff.ite ?_ ?_ | split | dsimp only

theorem State.seasonUpdate_eff (s : State) : Eff 4 s (State.seasonUpdate s) := by
  unfold State.seasonUpdate
  with_reducible repeat' first | assumption | exact Eff.refl _ _ | refine (State.set_eff _ _ _).step rfl ?_ | refine Eff.ite ?_ ?_ | split | dsimp only

theorem State.wakeNow_eff (s : State) (srcs : Nat) : Eff 4673461485572 s (State.wakeNow s srcs) := by
  unfold State.wakeNow
  with_reducible repeat' first | assumption | exact Eff.refl _ _ | refine (State.icPend1_eff _ _ _).step rfl ?_ | refine (State.sat_eff _ _ _).step rfl ?_ | refine (State.seasonUpdate_eff _).step rfl ?_ | refine (State.set_eff _ _ _).step rfl ?_ | refine Eff.ite ?_ ?_ | split | refine Eff.upd_season ?_ rfl | refine Eff.upd_tmr ?_ rfl | dsimp only

theorem State.wakeSapwood_eff (s : State) (bit : Nat) : Eff 4673461485572 s (State.wakeSapwood s bit) := by
  unfold State.wakeSapwood
  with_reducible repeat' first | assumption | exact Eff.refl _ _ | refine (State.wakeNow_eff _ _).step rfl ?_ | refine Eff.ite ?_ ?_ | split | refine Eff.upd_season ?_ rfl | dsimp only

theorem State.icPend_eff (s : State) (c : Nat) (n : Nat) : Eff 4673461485572 s (State.icPend s c n) := by
  unfold State.icPend
  with_reducible repeat' first | assumption | exact Eff.refl _ _ | refine (State.icPend1_eff _ _ _).step rfl ?_ | refine (State.wakeSapwood_eff _ _).step rfl ?_ | refine Eff.ite ?_ ?_ | split | dsimp only

theorem State.icHigh_eff (s : State) (c : Nat) (n : Nat) : Eff 4673461485572 s (State.icHigh s c n) := by
  unfold State.icHigh
  with_reducible repeat' first | assumption | exact Eff.refl _ _ | refine (State.icPend_eff _ _ _).step rfl ?_ | refine Eff.ite ?_ ?_ | split | dsimp only

theorem State.icSample_eff (s : State) (c : Nat) (n : Nat) : Eff 4673461485572 s (State.icSample s c n) := by
  unfold State.icSample
  with_reducible repeat' first | assumption | exact Eff.refl _ _ | refine (State.icHigh_eff _ _ _).step rfl ?_ | refine Eff.ite ?_ ?_ | split | dsimp only

theorem State.busError_eff (s : State) (dom : Nat) (kind : Nat) (master : Nat) (write : Bool) (addr : Nat) : Eff 4673461485572 s (State.busError s dom kind master write addr) := by
  unfold State.busError
  with_reducible repeat' first | assumption | exact Eff.refl _ _ | refine (State.icSample_eff _ _ _).step rfl ?_ | refine (State.sat_eff _ _ _).step rfl ?_ | refine (State.set_eff _ _ _).step rfl ?_ | refine (State.setB_eff _ _ _).step rfl ?_ | refine Eff.ite ?_ ?_ | split | dsimp only

theorem State.snapDrop_eff (s : State) (master : Nat) (a : Nat) : Eff 1099511627776 s (State.snapDrop s master a) := by
  unfold State.snapDrop
  with_reducible repeat' first | assumption | exact Eff.refl _ _ | refine Eff.ite ?_ ?_ | split | refine Eff.upd_snaps ?_ rfl | dsimp only

theorem State.stB_eff (s : State) (a : Nat) (b : Byte) : Eff 8 s (s.stB a b) := Eff.upd_mem (Eff.refl _ s) rfl (spWf_spSet a b)

theorem State.stBytes_eff (s : State) (a : Nat) (x2 : List Byte) : Eff 8 s (State.stBytes s a x2) := by
  induction x2 generalizing s a with
  | nil => exact Eff.refl _ _
  | cons y ys ih =>
    unfold State.stBytes
    with_reducible repeat' first | assumption | exact Eff.refl _ _ | refine (ih _ _).step rfl ?_ | refine (State.stB_eff _ _ _).step rfl ?_ | refine Eff.ite ?_ ?_ | split | dsimp only

theorem State.auditLost_eff (s : State) : Eff 132 s (State.auditLost s) := by
  unfold State.auditLost
  with_reducible repeat' first | assumption | exact Eff.refl _ _ | refine (State.sat_eff _ _ _).step rfl ?_ | refine Eff.ite ?_ ?_ | split | refine Eff.upd_audit ?_ rfl (by simp) | dsimp only

theorem State.icEdge_eff (s : State) (c : Nat) (n : Nat) : Eff 4673461485572 s (State.icEdge s c n) := by
  unfold State.icEdge
  with_reducible repeat' first | assumption | exact Eff.refl _ _ | refine (State.icPend_eff _ _ _).step rfl ?_ | refine Eff.ite ?_ ?_ | split | dsimp only

theorem State.alertFollow_eff (s : State) (old : Bool) : Eff 4 s (State.alertFollow s old) := by
  unfold State.alertFollow
  with_reducible repeat' first | assumption | exact Eff.refl _ _ | refine (State.setB_eff _ _ _).step rfl ?_ | refine Eff.ite ?_ ?_ | split | dsimp only

theorem State.alertPend_eff (s : State) (bit : Nat) (b : Bool) : Eff 4 s (State.alertPend s bit b) := by
  unfold State.alertPend
  with_reducible repeat' first | assumption | exact Eff.refl _ _ | refine (State.alertFollow_eff _ _).step rfl ?_ | refine (State.setB_eff _ _ _).step rfl ?_ | refine Eff.ite ?_ ?_ | split | dsimp only

theorem State.ringEnter_eff (s : State) (x : RingEntry) : Eff 4673461485828 s (State.ringEnter s x) := by
  unfold State.ringEnter
  with_reducible repeat' first | assumption | exact Eff.refl _ _ | refine (State.alertPend_eff _ _ _).step rfl ?_ | refine (State.icEdge_eff _ _ _).step rfl ?_ | refine (State.icSample_eff _ _ _).step rfl ?_ | refine (State.sat_eff _ _ _).step rfl ?_ | refine (State.set_eff _ _ _).step rfl ?_ | refine (State.wakeSapwood_eff _ _).step rfl ?_ | refine Eff.ite ?_ ?_ | split | refine Eff.upd_ring ?_ rfl | dsimp only

theorem State.ringPut_eff (s : State) (kind : Nat) (stream : Nat) (src : Nat) (cycle : Nat) (payload : List Byte) : Eff 4673461485828 s (State.ringPut s kind stream src cycle payload) := by
  unfold State.ringPut
  with_reducible repeat' first | assumption | exact Eff.refl _ _ | refine (State.ringEnter_eff _ _).step rfl ?_ | refine Eff.ite ?_ ?_ | split | refine Eff.upd_ring ?_ rfl | dsimp only

theorem State.auditRelevel_eff (s : State) : Eff 4673461485956 s (State.auditRelevel s) := by
  unfold State.auditRelevel
  with_reducible repeat' first | assumption | exact Eff.refl _ _ | refine (State.icEdge_eff _ _ _).step rfl ?_ | refine (State.ringPut_eff _ _ _ _ _ _).step rfl ?_ | refine (State.set_eff _ _ _).step rfl ?_ | refine Eff.ite ?_ ?_ | split | refine Eff.upd_audit ?_ rfl (by simp) | dsimp only

theorem State.auditQueue_eff (s : State) (ev : AuditEvent) : Eff 4673461485956 s (State.auditQueue s ev) := by
  unfold State.auditQueue
  with_reducible repeat' first | assumption | exact Eff.refl _ _ | refine (State.auditLost_eff _).step rfl ?_ | refine (State.auditRelevel_eff _).step rfl ?_ | refine Eff.ite ?_ ?_ | split | refine Eff.upd_audit ?_ rfl (by simp) | dsimp only

theorem State.auditPut_eff (s : State) (kind : Nat) (stream : Nat) (data : List Byte) : Eff 4673461485956 s (State.auditPut s kind stream data) := by
  unfold State.auditPut
  with_reducible repeat' first | assumption | exact Eff.refl _ _ | refine (State.auditQueue_eff _ _).step rfl ?_ | refine Eff.ite ?_ ?_ | split | dsimp only

theorem State.stN_eff (s : State) (a : Nat) (n : Nat) (v : Nat) : Eff 8 s (State.stN s a n v) := by
  unfold State.stN
  with_reducible repeat' first | assumption | exact Eff.refl _ _ | refine (State.stBytes_eff _ _ _).step rfl ?_ | refine Eff.ite ?_ ?_ | split | dsimp only

theorem State.st128_eff (s : State) (a : Nat) (w : W128) : Eff 8 s (State.st128 s a w) := by
  unfold State.st128
  with_reducible repeat' first | assumption | exact Eff.refl _ _ | refine (State.stN_eff _ _ _ _).step rfl ?_ | refine Eff.ite ?_ ?_ | split | dsimp only

theorem State.wipe_eff (s : State) (a n : Nat) : Eff 8 s (s.wipe a n) := Eff.upd_mem (Eff.refl _ s) rfl (spWf_filter _)

theorem State.ringEnters_eff (s : State) (x1 : List RingEntry) : Eff 4673461485828 s (State.ringEnters s x1) := by
  induction x1 generalizing s with
  | nil => exact Eff.refl _ _
  | cons y ys ih =>
    unfold State.ringEnters
    with_reducible repeat' first | assumption | exact Eff.refl _ _ | refine (ih _).step rfl ?_ | refine (State.ringEnter_eff _ _).step rfl ?_ | refine Eff.ite ?_ ?_ | split | dsimp only

theorem State.ringLive_eff (s : State) : Eff 4673461485828 s (State.ringLive s) := by
  unfold State.ringLive
  with_reducible repeat' first | assumption | exact Eff.refl _ _ | refine (State.ringEnters_eff _ _).step rfl ?_ | refine Eff.ite ?_ ?_ | split | refine Eff.upd_ring ?_ rfl | dsimp only

theorem State.wrap_eff (s : State) (f : Fld) (n : Nat) : Eff 4 s (State.wrap s f n) := by
  unfold State.wrap
  with_reducible repeat' first | assumption | exact Eff.refl _ _ | refine (State.set_eff _ _ _).step rfl ?_ | refine Eff.ite ?_ ?_ | split | dsimp only

theorem State.free_eff (s : State) : Eff 2 s (State.free s).2 := by
  unfold State.free
  with_reducible repeat' first | assumption | exact Eff.refl _ _ | refine Eff.ite ?_ ?_ | split | refine Eff.upd_freeCtr ?_ rfl (by simp) | dsimp only

theorem State.raise_eff (s : State) (f : Fld) (c : Nat) (n : Nat) : Eff 4673461485572 s (State.raise s f c n) := by
  unfold State.raise
  with_reducible repeat' first | assumption | exact Eff.refl _ _ | refine (State.icSample_eff _ _ _).step rfl ?_ | refine (State.set_eff _ _ _).step rfl ?_ | refine Eff.ite ?_ ?_ | split | dsimp only

theorem State.ringParts_eff (s : State) (tag : Nat) (x2 : Nat) (x3 : List (List Byte)) : Eff 4673461485828 s (State.ringParts s tag x2 x3) := by
  induction x3 generalizing s tag x2 with
  | nil => exact Eff.refl _ _
  | cons y ys ih =>
    unfold State.ringParts
    with_reducible repeat' first | assumption | exact Eff.refl _ _ | refine (ih _ _ _).step rfl ?_ | refine (State.ringPut_eff _ _ _ _ _ _).step rfl ?_ | refine Eff.ite ?_ ?_ | split | dsimp only

theorem State.result_eff (s : State) (tag : Nat) (code : Nat) (status : Nat) (data : List Byte) : Eff 4673461485828 s (State.result s tag code status data) := by
  unfold State.result
  with_reducible repeat' first | assumption | exact Eff.refl _ _ | refine (State.ringParts_eff _ _ _ _).step rfl ?_ | refine Eff.ite ?_ ?_ | split | dsimp only

theorem State.setI_eff (s : State) (f : Fld) (x : Int) : Eff 4 s (State.setI s f x) := by
  unfold State.setI
  with_reducible repeat' first | assumption | exact Eff.refl _ _ | refine (State.set_eff _ _ _).step rfl ?_ | refine Eff.ite ?_ ?_ | split | dsimp only

theorem State.auditPutAs_eff (s : State) (st : Nat) (kind : Nat) (stream : Nat) (data : List Byte) : Eff 4673461485956 s (State.auditPutAs s st kind stream data) := by
  unfold State.auditPutAs
  with_reducible repeat' first | assumption | exact Eff.refl _ _ | refine (State.auditQueue_eff _ _).step rfl ?_ | refine Eff.ite ?_ ?_ | split | dsimp only

end Sys2Proof.Machine
end

