-- ==== Sys2Proof/Laws/EffTotals.lean ====
section
/-! SUPPORT. What every operation of Machine/Totals.lean may change, and that it keeps the canonical forms and lowers no rising counter (Effect.lean). -/

namespace Sys2Proof.Machine

theorem State.faultKey_eff (s : State) (code : Nat) (region : Nat) (stream : Nat) (key : Nat) (detail : List Byte) : Eff 4675608969604 s (State.faultKey s code region stream key detail) := by
  unfold State.faultKey
  with_reducible repeat' first | assumption | exact Eff.refl _ _ | refine (State.auditPut_eff _ _ _ _).step rfl ?_ | refine (State.sat_eff _ _ _).step rfl ?_ | refine Eff.ite ?_ ?_ | split | refine Eff.upd_flt ?_ rfl | dsimp only

theorem State.fault_eff (s : State) (code : Nat) (region : Nat) (stream : Nat) (detail : List Byte) : Eff 4675608969604 s (State.fault s code region stream detail) := by
  unfold State.fault
  with_reducible repeat' first | assumption | exact Eff.refl _ _ | refine (State.faultKey_eff _ _ _ _ _ _).step rfl ?_ | refine Eff.ite ?_ ?_ | split | dsimp only

theorem State.eccUncorr_eff (s : State) (mem : Nat) (addr : Nat) (region : Nat) : Eff 4675608969604 s (State.eccUncorr s mem addr region) := by
  unfold State.eccUncorr
  with_reducible repeat' first | assumption | exact Eff.refl _ _ | refine (State.fault_eff _ _ _ _ _).step rfl ?_ | refine (State.sat_eff _ _ _).step rfl ?_ | refine (State.set_eff _ _ _).step rfl ?_ | refine Eff.ite ?_ ?_ | split | dsimp only

theorem State.streamNote_eff (s : State) (stream : Nat) (cycle : Nat) (nsub : Nat) (ndeg : Nat) (fl : Nat) : Eff 67108864 s (State.streamNote s stream cycle nsub ndeg fl) := by
  unfold State.streamNote
  with_reducible repeat' first | assumption | exact Eff.refl _ _ | refine Eff.ite ?_ ?_ | split | refine Eff.upd_recs ?_ rfl ⟨by simp,by simp⟩ | dsimp only

theorem State.isoShow_eff (s : State) (r : Nat) : Eff 4673461485572 s (State.isoShow s r) := by
  unfold State.isoShow
  with_reducible repeat' first | assumption | exact Eff.refl _ _ | refine (State.icSample_eff _ _ _).step rfl ?_ | refine (State.setB_eff _ _ _).step rfl ?_ | refine (State.setW_eff _ _ _).step rfl ?_ | refine Eff.ite ?_ ?_ | split | dsimp only

theorem State.paramPage_eff (s : State) (r : Nat) (x2 : List Nat) : Eff 1099511627784 s (State.paramPage s r x2) := by
  induction x2 generalizing s r with
  | nil => exact Eff.refl _ _
  | cons y ys ih =>
    unfold State.paramPage
    with_reducible repeat' first | assumption | exact Eff.refl _ _ | refine (ih _ _).step rfl ?_ | refine (State.snapDrop_eff _ _ _).step rfl ?_ | refine (State.stN_eff _ _ _ _).step rfl ?_ | refine Eff.ite ?_ ?_ | split | dsimp only

theorem State.setPair_eff (s : State) (p : Nat) (x : Pair) : Eff 33554432 s (State.setPair s p x) := by
  unfold State.setPair
  with_reducible repeat' first | assumption | exact Eff.refl _ _ | refine Eff.ite ?_ ?_ | split | refine Eff.upd_pairs ?_ rfl | dsimp only

theorem State.totImage_eff (s : State) (r : Nat) (n : Nat) : Eff 8 s (State.totImage s r n) := by
  unfold State.totImage
  with_reducible repeat' first | assumption | exact Eff.refl _ _ | refine (State.st128_eff _ _ _).step rfl ?_ | refine Eff.ite ?_ ?_ | split | dsimp only

theorem State.markCmps_eff (s : State) (r : Nat) (b : Nat) (fl : Nat) (x4 : List Nat) : Eff 33554440 s (State.markCmps s r b fl x4) := by
  induction x4 generalizing s r b fl with
  | nil => exact Eff.refl _ _
  | cons y ys ih =>
    unfold State.markCmps
    with_reducible repeat' first | assumption | exact Eff.refl _ _ | refine (ih _ _ _ _).step rfl ?_ | refine (State.setPair_eff _ _ _).step rfl ?_ | refine (State.totImage_eff _ _ _).step rfl ?_ | refine Eff.ite ?_ ?_ | split | dsimp only

theorem State.markStream_eff (s : State) (r : Nat) (stream : Nat) (cycle : Nat) (fl : Nat) : Eff 33554440 s (State.markStream s r stream cycle fl) := by
  unfold State.markStream
  with_reducible repeat' first | assumption | exact Eff.refl _ _ | refine (State.markCmps_eff _ _ _ _ _).step rfl ?_ | refine (State.setPair_eff _ _ _).step rfl ?_ | refine Eff.ite ?_ ?_ | split | dsimp only

theorem State.intervalNote_eff (s : State) (fl : Nat) : Eff 67108864 s (State.intervalNote s fl) := by
  unfold State.intervalNote
  with_reducible repeat' first | assumption | exact Eff.refl _ _ | refine Eff.ite ?_ ?_ | split | refine Eff.upd_recs ?_ rfl ⟨by simp,by simp⟩ | dsimp only

theorem State.totCommit_eff (s : State) (kind : Nat) : Eff 67108872 s (State.totCommit s kind) := by
  unfold State.totCommit
  with_reducible repeat' first | assumption | exact Eff.refl _ _ | refine (State.stBytes_eff _ _ _).step rfl ?_ | refine Eff.ite ?_ ?_ | split | refine Eff.upd_recs ?_ rfl ⟨by simp,by simp⟩ | dsimp only

theorem State.fillParams_eff (s : State) (r : Nat) : Eff 1099511627784 s (State.fillParams s r) := by
  unfold State.fillParams
  with_reducible repeat' first | assumption | exact Eff.refl _ _ | refine (State.paramPage_eff _ _ _).step rfl ?_ | refine (State.wipe_eff _ _ _).step rfl ?_ | refine Eff.ite ?_ ?_ | split | dsimp only

theorem State.clearBlocks_eff (s : State) (x1 : List Nat) : Eff 8 s (State.clearBlocks s x1) := by
  induction x1 generalizing s with
  | nil => exact Eff.refl _ _
  | cons y ys ih =>
    unfold State.clearBlocks
    with_reducible repeat' first | assumption | exact Eff.refl _ _ | refine (ih _).step rfl ?_ | refine (State.wipe_eff _ _ _).step rfl ?_ | refine Eff.ite ?_ ?_ | split | dsimp only

theorem State.freshBlocks_eff (s : State) (r : Nat) : Eff 33554440 s (State.freshBlocks s r) := by
  unfold State.freshBlocks
  with_reducible repeat' first | assumption | exact Eff.refl _ _ | refine (State.clearBlocks_eff _ _).step rfl ?_ | refine (State.setPair_eff _ _ _).step rfl ?_ | refine Eff.ite ?_ ?_ | split | dsimp only

theorem State.restoreTot_eff (s : State) (c : Option Commit) (r : Nat) (n : Nat) : Eff 33554440 s (State.restoreTot s c r n) := by
  unfold State.restoreTot
  with_reducible repeat' first | assumption | exact Eff.refl _ _ | refine (State.setPair_eff _ _ _).step rfl ?_ | refine (State.totImage_eff _ _ _).step rfl ?_ | refine Eff.ite ?_ ?_ | split | dsimp only

theorem State.restoreTots_eff (s : State) (c : Option Commit) (r : Nat) (x3 : List Nat) : Eff 33554440 s (State.restoreTots s c r x3) := by
  induction x3 generalizing s c r with
  | nil => exact Eff.refl _ _
  | cons y ys ih =>
    unfold State.restoreTots
    with_reducible repeat' first | assumption | exact Eff.refl _ _ | refine (ih _ _ _).step rfl ?_ | refine (State.restoreTot_eff _ _ _ _).step rfl ?_ | refine Eff.ite ?_ ?_ | split | dsimp only

theorem State.eccCorr_eff (s : State) : Eff 4 s (State.eccCorr s) := by
  unfold State.eccCorr
  with_reducible repeat' first | assumption | exact Eff.refl _ _ | refine (State.sat_eff _ _ _).step rfl ?_ | refine Eff.ite ?_ ?_ | split | dsimp only

theorem State.totImages_eff (s : State) (r : Nat) (x2 : List Nat) : Eff 8 s (State.totImages s r x2) := by
  induction x2 generalizing s r with
  | nil => exact Eff.refl _ _
  | cons y ys ih =>
    unfold State.totImages
    with_reducible repeat' first | assumption | exact Eff.refl _ _ | refine (ih _ _).step rfl ?_ | refine (State.totImage_eff _ _ _).step rfl ?_ | refine Eff.ite ?_ ?_ | split | dsimp only

end Sys2Proof.Machine
end

