-- ==== Sys2Proof/Laws/EffFabricOps.lean ====
section
/-! SUPPORT. What every operation of Machine/FabricOps.lean may change, and that it keeps the canonical forms and lowers no rising counter (Effect.lean). -/

namespace Sys2Proof.Machine

theorem State.blocksPend_eff (s : State) (x1 : List Nat) : Eff 4 s (State.blocksPend s x1) := by
  induction x1 generalizing s with
  | nil => exact Eff.refl _ _
  | cons y ys ih =>
    unfold State.blocksPend
    with_reducible repeat' first | assumption | exact Eff.refl _ _ | refine (ih _).step rfl ?_ | refine (State.set_eff _ _ _).step rfl ?_ | refine Eff.ite ?_ ?_ | split | dsimp only

theorem State.coefRet_eff (s : State) (fl : Nat) : Eff 16777216 s (State.coefRet s fl) := by
  unfold State.coefRet
  with_reducible repeat' first | assumption | exact Eff.refl _ _ | refine Eff.ite ?_ ?_ | split | refine Eff.upd_fabric ?_ rfl | dsimp only

theorem State.frozenShow_eff (s : State) (c : Nat) : Eff 4 s (State.frozenShow s c) := by
  unfold State.frozenShow
  with_reducible repeat' first | assumption | exact Eff.refl _ _ | refine (State.setB_eff _ _ _).step rfl ?_ | refine Eff.ite ?_ ?_ | split | dsimp only

theorem State.chainsSwapped_eff (s : State) (t : Nat) (old : Nat) (x3 : List Nat) : Eff 16777220 s (State.chainsSwapped s t old x3) := by
  induction x3 generalizing s t old with
  | nil => exact Eff.refl _ _
  | cons y ys ih =>
    unfold State.chainsSwapped
    with_reducible repeat' first | assumption | exact Eff.refl _ _ | refine (ih _ _ _).step rfl ?_ | refine (State.frozenShow_eff _ _).step rfl ?_ | refine (State.set_eff _ _ _).step rfl ?_ | refine Eff.ite ?_ ?_ | split | refine Eff.upd_fabric ?_ rfl | dsimp only

theorem State.blocksSwap_eff (s : State) (t : Nat) (x2 : List Nat) : Eff 16777220 s (State.blocksSwap s t x2) := by
  induction x2 generalizing s t with
  | nil => exact Eff.refl _ _
  | cons y ys ih =>
    unfold State.blocksSwap
    with_reducible repeat' first | assumption | exact Eff.refl _ _ | refine (ih _ _).step rfl ?_ | refine (State.chainsSwapped_eff _ _ _ _).step rfl ?_ | refine (State.set_eff _ _ _).step rfl ?_ | refine Eff.ite ?_ ?_ | split | dsimp only

theorem State.swapShow_eff (s : State) : Eff 4 s (State.swapShow s) := by
  unfold State.swapShow
  with_reducible repeat' first | assumption | exact Eff.refl _ _ | refine (State.set_eff _ _ _).step rfl ?_ | refine (State.setB_eff _ _ _).step rfl ?_ | refine Eff.ite ?_ ?_ | split | dsimp only

theorem State.swapNow_eff (s : State) (target : Nat) (t : Nat) (bs : List Nat) : Eff 16777220 s (State.swapNow s target t bs) := by
  unfold State.swapNow
  with_reducible repeat' first | assumption | exact Eff.refl _ _ | refine (State.blocksSwap_eff _ _ _).step rfl ?_ | refine (State.swapShow_eff _).step rfl ?_ | refine Eff.ite ?_ ?_ | split | refine Eff.upd_fabric ?_ rfl | dsimp only

theorem State.swapRequest_eff (s : State) (target : Nat) (trig : Nat) : Eff 16777220 s (State.swapRequest s target trig) := by
  unfold State.swapRequest
  with_reducible repeat' first | assumption | exact Eff.refl _ _ | refine (State.blocksPend_eff _ _).step rfl ?_ | refine (State.coefRet_eff _ _).step rfl ?_ | refine (State.set_eff _ _ _).step rfl ?_ | refine (State.swapNow_eff _ _ _ _).step rfl ?_ | refine (State.swapShow_eff _).step rfl ?_ | refine Eff.ite ?_ ?_ | split | refine Eff.upd_fabric ?_ rfl | dsimp only

theorem State.sdOff_eff (s : State) (n : Nat) : Eff 4194308 s (State.sdOff s n) := by
  unfold State.sdOff
  with_reducible repeat' first | assumption | exact Eff.refl _ _ | refine (State.set_eff _ _ _).step rfl ?_ | refine Eff.ite ?_ ?_ | split | refine Eff.upd_front ?_ rfl | dsimp only

theorem State.chainStop_eff (s : State) (c : Nat) : Eff 20971524 s (State.chainStop s c) := by
  unfold State.chainStop
  with_reducible repeat' first | assumption | exact Eff.refl _ _ | refine (State.frozenShow_eff _ _).step rfl ?_ | refine (State.sdOff_eff _ _).step rfl ?_ | refine (State.set_eff _ _ _).step rfl ?_ | refine Eff.ite ?_ ?_ | split | refine Eff.upd_fabric ?_ rfl | dsimp only

theorem State.chainsStop_eff (s : State) (x1 : List Nat) : Eff 20971524 s (State.chainsStop s x1) := by
  induction x1 generalizing s with
  | nil => exact Eff.refl _ _
  | cons y ys ih =>
    unfold State.chainsStop
    with_reducible repeat' first | assumption | exact Eff.refl _ _ | refine (ih _).step rfl ?_ | refine (State.chainStop_eff _ _).step rfl ?_ | refine Eff.ite ?_ ?_ | split | dsimp only

theorem State.dropSwap_eff (s : State) (b : Nat) : Eff 16777220 s (State.dropSwap s b) := by
  unfold State.dropSwap
  with_reducible repeat' first | assumption | exact Eff.refl _ _ | refine (State.set_eff _ _ _).step rfl ?_ | refine (State.swapShow_eff _).step rfl ?_ | refine Eff.ite ?_ ?_ | split | refine Eff.upd_fabric ?_ rfl | dsimp only

theorem State.warmStart_eff (s : State) (n : Nat) : Eff 4194308 s (State.warmStart s n) := by
  unfold State.warmStart
  with_reducible repeat' first | assumption | exact Eff.refl _ _ | refine (State.set_eff _ _ _).step rfl ?_ | refine Eff.ite ?_ ?_ | split | refine Eff.upd_front ?_ rfl | dsimp only

theorem State.blockRestart_eff (s : State) (b : Nat) : Eff 4 s (State.blockRestart s b) := by
  unfold State.blockRestart
  with_reducible repeat' first | assumption | exact Eff.refl _ _ | refine (State.set_eff _ _ _).step rfl ?_ | refine Eff.ite ?_ ?_ | split | dsimp only

theorem State.sdOn_eff (s : State) (n : Nat) : Eff 4194308 s (State.sdOn s n) := by
  unfold State.sdOn
  with_reducible repeat' first | assumption | exact Eff.refl _ _ | refine (State.set_eff _ _ _).step rfl ?_ | refine (State.warmStart_eff _ _).step rfl ?_ | refine Eff.ite ?_ ?_ | split | dsimp only

theorem State.chainStart_eff (s : State) (c : Nat) (e0 : Nat) : Eff 20971524 s (State.chainStart s c e0) := by
  unfold State.chainStart
  with_reducible repeat' first | assumption | exact Eff.refl _ _ | refine (State.frozenShow_eff _ _).step rfl ?_ | refine (State.sdOn_eff _ _).step rfl ?_ | refine (State.set_eff _ _ _).step rfl ?_ | refine Eff.ite ?_ ?_ | split | refine Eff.upd_fabric ?_ rfl | dsimp only

theorem State.chainReady_eff (s : State) (c : Nat) : Eff 20971524 s (State.chainReady s c) := by
  unfold State.chainReady
  with_reducible repeat' first | assumption | exact Eff.refl _ _ | refine (State.chainStart_eff _ _ _).step rfl ?_ | refine Eff.ite ?_ ?_ | split | refine Eff.upd_fabric ?_ rfl | dsimp only

theorem State.chainsReady_eff (s : State) (x1 : List Nat) : Eff 20971524 s (State.chainsReady s x1) := by
  induction x1 generalizing s with
  | nil => exact Eff.refl _ _
  | cons y ys ih =>
    unfold State.chainsReady
    with_reducible repeat' first | assumption | exact Eff.refl _ _ | refine (ih _).step rfl ?_ | refine (State.chainReady_eff _ _).step rfl ?_ | refine Eff.ite ?_ ?_ | split | dsimp only

theorem State.blockLoad_eff (s : State) (b : Nat) : Eff 4 s (State.blockLoad s b) := by
  unfold State.blockLoad
  with_reducible repeat' first | assumption | exact Eff.refl _ _ | refine (State.set_eff _ _ _).step rfl ?_ | refine Eff.ite ?_ ?_ | split | dsimp only

theorem State.blockReload_eff (s : State) (outside : Nat → Bool) (b : Nat) : Eff 16777220 s (State.blockReload s outside b) := by
  unfold State.blockReload
  with_reducible repeat' first | assumption | exact Eff.refl _ _ | refine (State.blockLoad_eff _ _).step rfl ?_ | refine (State.dropSwap_eff _ _).step rfl ?_ | refine (State.set_eff _ _ _).step rfl ?_ | refine Eff.ite ?_ ?_ | split | dsimp only

theorem State.blocksReload_eff (s : State) (outside : Nat → Bool) (x2 : List Nat) : Eff 16777220 s (State.blocksReload s outside x2) := by
  induction x2 generalizing s outside with
  | nil => exact Eff.refl _ _
  | cons y ys ih =>
    unfold State.blocksReload
    with_reducible repeat' first | assumption | exact Eff.refl _ _ | refine (ih _ _).step rfl ?_ | refine (State.blockReload_eff _ _ _).step rfl ?_ | refine Eff.ite ?_ ?_ | split | dsimp only

theorem State.swapsDue_eff (s : State) (x1 : List (Nat × SwapReq)) : Eff 16777220 s (State.swapsDue s x1) := by
  induction x1 generalizing s with
  | nil => exact Eff.refl _ _
  | cons y ys ih =>
    unfold State.swapsDue
    with_reducible repeat' first | assumption | exact Eff.refl _ _ | refine (ih _).step rfl ?_ | refine (State.swapNow_eff _ _ _ _).step rfl ?_ | refine Eff.ite ?_ ?_ | split | dsimp only

theorem State.warmsDue_eff (s : State) (x1 : List (Nat × Nat)) : Eff 4194308 s (State.warmsDue s x1) := by
  induction x1 generalizing s with
  | nil => exact Eff.refl _ _
  | cons y ys ih =>
    unfold State.warmsDue
    with_reducible repeat' first | assumption | exact Eff.refl _ _ | refine (ih _).step rfl ?_ | refine (State.set_eff _ _ _).step rfl ?_ | refine Eff.ite ?_ ?_ | split | refine Eff.upd_front ?_ rfl | dsimp only

theorem State.echoStart_eff (s : State) (lane : Nat) : Eff 16777220 s (State.echoStart s lane) := by
  unfold State.echoStart
  with_reducible repeat' first | assumption | exact Eff.refl _ _ | refine (State.frozenShow_eff _ _).step rfl ?_ | refine (State.set_eff _ _ _).step rfl ?_ | refine Eff.ite ?_ ?_ | split | refine Eff.upd_fabric ?_ rfl | dsimp only

theorem State.setCont_eff (s : State) (b : Nat) (k : Nat) (v : Nat) : Eff 4 s (State.setCont s b k v) := by
  unfold State.setCont
  with_reducible repeat' first | assumption | exact Eff.refl _ _ | refine (State.set_eff _ _ _).step rfl ?_ | refine Eff.ite ?_ ?_ | split | dsimp only

theorem State.coefLoad_eff (s : State) (b : Nat) (k : Nat) (cut : Bool) : Eff 16777220 s (State.coefLoad s b k cut) := by
  unfold State.coefLoad
  with_reducible repeat' first | assumption | exact Eff.refl _ _ | refine (State.coefRet_eff _ _).step rfl ?_ | refine (State.set_eff _ _ _).step rfl ?_ | refine (State.setCont_eff _ _ _ _).step rfl ?_ | refine Eff.ite ?_ ?_ | split | dsimp only

theorem State.chainFailed_eff (s : State) (c : Nat) (word : Nat) : Eff 4675625746820 s (State.chainFailed s c word) := by
  unfold State.chainFailed
  with_reducible repeat' first | assumption | exact Eff.refl _ _ | refine (State.coefLoad_eff _ _ _ _).step rfl ?_ | refine (State.fault_eff _ _ _ _ _).step rfl ?_ | refine (State.frozenShow_eff _ _).step rfl ?_ | refine (State.set_eff _ _ _).step rfl ?_ | refine (State.swapRequest_eff _ _ _).step rfl ?_ | refine Eff.ite ?_ ?_ | split | dsimp only

theorem State.parShow_eff (s : State) (b : Nat) (bank : Nat) (word : Nat) : Eff 4 s (State.parShow s b bank word) := by
  unfold State.parShow
  with_reducible repeat' first | assumption | exact Eff.refl _ _ | refine (State.set_eff _ _ _).step rfl ?_ | refine Eff.ite ?_ ?_ | split | dsimp only

theorem State.parList_eff (s : State) (c : Nat) (bank : Nat) (dbl : List Nat) (x4 : List Nat) : Eff 4675625746820 s (State.parList s c bank dbl x4) := by
  induction x4 generalizing s c bank dbl with
  | nil => exact Eff.refl _ _
  | cons y ys ih =>
    unfold State.parList
    with_reducible repeat' first | assumption | exact Eff.refl _ _ | refine (ih _ _ _ _).step rfl ?_ | refine (State.chainFailed_eff _ _ _).step rfl ?_ | refine (State.parShow_eff _ _ _ _).step rfl ?_ | refine Eff.ite ?_ ?_ | split | dsimp only

theorem State.chainFlag_eff (s : State) (f : Nat → Fld) (c : Nat) (b : Bool) : Eff 4673461485572 s (State.chainFlag s f c b) := by
  unfold State.chainFlag
  with_reducible repeat' first | assumption | exact Eff.refl _ _ | refine (State.raise_eff _ _ _ _).step rfl ?_ | refine Eff.ite ?_ ?_ | split | dsimp only

theorem State.markReach_eff (s : State) (key : Nat) : Eff 1073741824 s (State.markReach s key) := by
  unfold State.markReach
  with_reducible repeat' first | assumption | exact Eff.refl _ _ | refine Eff.ite ?_ ?_ | split | refine Eff.upd_cal ?_ rfl | dsimp only

theorem State.rampShow_eff (s : State) : Eff 4 s (State.rampShow s) := by
  unfold State.rampShow
  with_reducible repeat' first | assumption | exact Eff.refl _ _ | refine (State.setB_eff _ _ _).step rfl ?_ | refine Eff.ite ?_ ?_ | split | dsimp only

theorem State.loadBlocks_eff (s : State) (x1 : List Nat) : Eff 4 s (State.loadBlocks s x1) := by
  induction x1 generalizing s with
  | nil => exact Eff.refl _ _
  | cons y ys ih =>
    unfold State.loadBlocks
    with_reducible repeat' first | assumption | exact Eff.refl _ _ | refine (ih _).step rfl ?_ | refine (State.blockLoad_eff _ _).step rfl ?_ | refine Eff.ite ?_ ?_ | split | dsimp only

theorem State.chainRecord_eff (s : State) (c : Nat) (cyc : Nat) (before : Option Nat) (last : Bool) (v : Int) (fl : Nat) (k : Nat) : Eff 8 s (State.chainRecord s c cyc before last v fl k) := by
  unfold State.chainRecord
  with_reducible repeat' first | assumption | exact Eff.refl _ _ | refine (State.stN_eff _ _ _ _).step rfl ?_ | refine Eff.ite ?_ ?_ | split | dsimp only

theorem State.setChain_eff (s : State) (c : Nat) (x : Chain) : Eff 16777216 s (State.setChain s c x) := by
  unfold State.setChain
  with_reducible repeat' first | assumption | exact Eff.refl _ _ | refine Eff.ite ?_ ?_ | split | refine Eff.upd_fabric ?_ rfl | dsimp only

theorem State.frozenShows_eff (s : State) (x1 : List Nat) : Eff 4 s (State.frozenShows s x1) := by
  induction x1 generalizing s with
  | nil => exact Eff.refl _ _
  | cons y ys ih =>
    unfold State.frozenShows
    with_reducible repeat' first | assumption | exact Eff.refl _ _ | refine (ih _).step rfl ?_ | refine (State.frozenShow_eff _ _).step rfl ?_ | refine Eff.ite ?_ ?_ | split | dsimp only

end Sys2Proof.Machine
end

