-- ==== Sys2Proof/Laws/EffFaultOps.lean ====
section
/-! SUPPORT. What every operation of Machine/FaultOps.lean may change, and that it keeps the canonical forms and lowers no rising counter (Effect.lean). -/

namespace Sys2Proof.Machine

theorem State.heal_eff (s : State) (a : Nat) (n : Nat) : Eff 2147483648 s (State.heal s a n) := by
  unfold State.heal
  with_reducible repeat' first | assumption | exact Eff.refl _ _ | refine Eff.ite ?_ ?_ | split | refine Eff.upd_flt ?_ rfl | dsimp only

theorem State.heldDrop_eff (s : State) (st : Nat) : Eff 2147483652 s (State.heldDrop s st) := by
  unfold State.heldDrop
  with_reducible repeat' first | assumption | exact Eff.refl _ _ | refine (State.set_eff _ _ _).step rfl ?_ | refine Eff.ite ?_ ?_ | split | refine Eff.upd_flt ?_ rfl | dsimp only

theorem State.emitAll_eff (s : State) (cycle : Nat) (x2 : List Emission) : Eff 4673461485828 s (State.emitAll s cycle x2) := by
  induction x2 generalizing s cycle with
  | nil => exact Eff.refl _ _
  | cons y ys ih =>
    unfold State.emitAll
    with_reducible repeat' first | assumption | exact Eff.refl _ _ | refine (ih _ _).step rfl ?_ | refine (State.ringPut_eff _ _ _ _ _ _).step rfl ?_ | refine Eff.ite ?_ ?_ | split | dsimp only

theorem State.publishMirror_eff (s : State) (st : Nat) (cycle : Nat) (es : List Emission) : Eff 4675676078468 s (State.publishMirror s st cycle es) := by
  unfold State.publishMirror
  with_reducible repeat' first | assumption | exact Eff.refl _ _ | refine (State.emitAll_eff _ _ _).step rfl ?_ | refine (State.fault_eff _ _ _ _ _).step rfl ?_ | refine (State.sat_eff _ _ _).step rfl ?_ | refine (State.streamNote_eff _ _ _ _ _ _).step rfl ?_ | refine Eff.ite ?_ ?_ | split | refine Eff.upd_flt ?_ rfl | dsimp only

theorem State.failover_eff (s : State) (st : Nat) : Eff 4675676078468 s (State.failover s st) := by
  unfold State.failover
  with_reducible repeat' first | assumption | exact Eff.refl _ _ | refine (State.heldDrop_eff _ _).step rfl ?_ | refine (State.publishMirror_eff _ _ _ _).step rfl ?_ | refine (State.set_eff _ _ _).step rfl ?_ | refine Eff.ite ?_ ?_ | split | refine Eff.upd_flt ?_ rfl | dsimp only

theorem State.failovers_eff (s : State) (r : Nat) (x2 : List Nat) : Eff 4675676078468 s (State.failovers s r x2) := by
  induction x2 generalizing s r with
  | nil => exact Eff.refl _ _
  | cons y ys ih =>
    unfold State.failovers
    with_reducible repeat' first | assumption | exact Eff.refl _ _ | refine (ih _ _).step rfl ?_ | refine (State.failover_eff _ _).step rfl ?_ | refine Eff.ite ?_ ?_ | split | dsimp only

theorem State.guardCheck_eff (s : State) (x1 : List Nat) : Eff 4 s (State.guardCheck s x1) := by
  induction x1 generalizing s with
  | nil => exact Eff.refl _ _
  | cons y ys ih =>
    unfold State.guardCheck
    with_reducible repeat' first | assumption | exact Eff.refl _ _ | refine (ih _).step rfl ?_ | refine (State.set_eff _ _ _).step rfl ?_ | refine Eff.ite ?_ ?_ | split | dsimp only

theorem State.isolateEntry_eff (s : State) (r : Nat) (cause : Nat) (task : Nat) (n : Nat) : Eff 4675608969604 s (State.isolateEntry s r cause task n) := by
  unfold State.isolateEntry
  with_reducible repeat' first | assumption | exact Eff.refl _ _ | refine (State.fault_eff _ _ _ _ _).step rfl ?_ | refine (State.set_eff _ _ _).step rfl ?_ | refine Eff.ite ?_ ?_ | split | dsimp only

theorem State.jobShow_eff (s : State) (k : Nat) : Eff 4 s (State.jobShow s k) := by
  unfold State.jobShow
  with_reducible repeat' first | assumption | exact Eff.refl _ _ | refine (State.set_eff _ _ _).step rfl ?_ | refine Eff.ite ?_ ?_ | split | dsimp only

theorem State.jobEnd_eff (s : State) (k : Nat) : Eff 268435460 s (State.jobEnd s k) := by
  unfold State.jobEnd
  with_reducible repeat' first | assumption | exact Eff.refl _ _ | refine (State.jobShow_eff _ _).step rfl ?_ | refine Eff.ite ?_ ?_ | split | refine Eff.upd_spn ?_ rfl | dsimp only

theorem State.logJobEnd_eff (s : State) (r : Nat) : Eff 268435460 s (State.logJobEnd s r) := by
  unfold State.logJobEnd
  with_reducible repeat' first | assumption | exact Eff.refl _ _ | refine (State.jobEnd_eff _ _).step rfl ?_ | refine Eff.ite ?_ ?_ | split | dsimp only

theorem State.paramsApply_eff (s : State) (p : Nat) : Eff 1099545182216 s (State.paramsApply s p) := by
  unfold State.paramsApply
  with_reducible repeat' first | assumption | exact Eff.refl _ _ | refine (State.paramPage_eff _ _ _).step rfl ?_ | refine (State.setPair_eff _ _ _).step rfl ?_ | refine Eff.ite ?_ ?_ | split | dsimp only

theorem State.pairStop_eff (s : State) (r : Nat) : Eff 1099545182220 s (State.pairStop s r) := by
  unfold State.pairStop
  with_reducible repeat' first | assumption | exact Eff.refl _ _ | refine (State.paramsApply_eff _ _).step rfl ?_ | refine (State.set_eff _ _ _).step rfl ?_ | refine (State.setPair_eff _ _ _).step rfl ?_ | refine Eff.ite ?_ ?_ | split | dsimp only

theorem State.regionHeld_eff (s : State) (r : Nat) (result : Nat) (durUs : Nat) : Eff 4675608969604 s (State.regionHeld s r result durUs) := by
  unfold State.regionHeld
  with_reducible repeat' first | assumption | exact Eff.refl _ _ | refine (State.fault_eff _ _ _ _ _).step rfl ?_ | refine (State.guardCheck_eff _ _).step rfl ?_ | refine (State.isoShow_eff _ _).step rfl ?_ | refine (State.set_eff _ _ _).step rfl ?_ | refine Eff.ite ?_ ?_ | split | refine Eff.upd_flt ?_ rfl | dsimp only

theorem State.earlyDrop_eff (s : State) (k : Nat) : Eff 268435460 s (State.earlyDrop s k) := by
  unfold State.earlyDrop
  with_reducible repeat' first | assumption | exact Eff.refl _ _ | refine (State.jobShow_eff _ _).step rfl ?_ | refine Eff.ite ?_ ?_ | split | refine Eff.upd_spn ?_ rfl | dsimp only

theorem State.ladderEntry_eff (s : State) (kind : Nat) (k : Nat) (step : Nat) (cause : Nat) : Eff 4673461485956 s (State.ladderEntry s kind k step cause) := by
  unfold State.ladderEntry
  with_reducible repeat' first | assumption | exact Eff.refl _ _ | refine (State.auditPut_eff _ _ _ _).step rfl ?_ | refine Eff.ite ?_ ?_ | split | dsimp only

theorem State.substitute_eff (s : State) (k : Nat) (cycle : Nat) (cause : Nat) (nsub : Nat) : Eff 4673830584716 s (State.substitute s k cycle cause nsub) := by
  unfold State.substitute
  with_reducible repeat' first | assumption | exact Eff.refl _ _ | refine (State.ladderEntry_eff _ _ _ _ _).step rfl ?_ | refine (State.markStream_eff _ _ _ _ _).step rfl ?_ | refine (State.ringPut_eff _ _ _ _ _ _).step rfl ?_ | refine (State.sat_eff _ _ _).step rfl ?_ | refine (State.streamNote_eff _ _ _ _ _ _).step rfl ?_ | refine Eff.ite ?_ ?_ | split | refine Eff.upd_spn ?_ rfl | dsimp only

theorem State.guardLost_eff (s : State) (k : Nat) (cycle : Nat) (cause : Nat) : Eff 4675978068364 s (State.guardLost s k cycle cause) := by
  unfold State.guardLost
  with_reducible repeat' first | assumption | exact Eff.refl _ _ | refine (State.failover_eff _ _).step rfl ?_ | refine (State.markStream_eff _ _ _ _ _).step rfl ?_ | refine (State.streamNote_eff _ _ _ _ _ _).step rfl ?_ | refine (State.substitute_eff _ _ _ _ _).step rfl ?_ | refine Eff.ite ?_ ?_ | split | refine Eff.upd_flt ?_ rfl | dsimp only

theorem State.guardTurned_eff (s : State) (k : Nat) (cycle : Nat) (cause : Nat) : Eff 4675978068364 s (State.guardTurned s k cycle cause) := by
  unfold State.guardTurned
  with_reducible repeat' first | assumption | exact Eff.refl _ _ | refine (State.markStream_eff _ _ _ _ _).step rfl ?_ | refine (State.substitute_eff _ _ _ _ _).step rfl ?_ | refine Eff.ite ?_ ?_ | split | refine Eff.upd_flt ?_ rfl | dsimp only

theorem State.releaseLost_eff (s : State) (k : Nat) (cycle : Nat) (cause : Nat) : Eff 4675978068364 s (State.releaseLost s k cycle cause) := by
  unfold State.releaseLost
  with_reducible repeat' first | assumption | exact Eff.refl _ _ | refine (State.guardLost_eff _ _ _ _).step rfl ?_ | refine (State.guardTurned_eff _ _ _ _).step rfl ?_ | refine (State.substitute_eff _ _ _ _ _).step rfl ?_ | refine Eff.ite ?_ ?_ | split | dsimp only

theorem State.regionJobsLost_eff (s : State) (cause : Nat) (x2 : List Nat) : Eff 4675978068364 s (State.regionJobsLost s cause x2) := by
  induction x2 generalizing s cause with
  | nil => exact Eff.refl _ _
  | cons y ys ih =>
    unfold State.regionJobsLost
    with_reducible repeat' first | assumption | exact Eff.refl _ _ | refine (ih _ _).step rfl ?_ | refine (State.earlyDrop_eff _ _).step rfl ?_ | refine (State.jobEnd_eff _ _).step rfl ?_ | refine (State.releaseLost_eff _ _ _ _).step rfl ?_ | refine Eff.ite ?_ ?_ | split | dsimp only

theorem State.restartBegin_eff (s : State) (r : Nat) (attempt : Nat) : Eff 4675608969220 s (State.restartBegin s r attempt) := by
  unfold State.restartBegin
  with_reducible repeat' first | assumption | exact Eff.refl _ _ | refine (State.isoShow_eff _ _).step rfl ?_ | refine (State.sat_eff _ _ _).step rfl ?_ | refine (State.set_eff _ _ _).step rfl ?_ | refine Eff.ite ?_ ?_ | split | refine Eff.upd_flt ?_ rfl | dsimp only

theorem State.restartFault_eff (s : State) (r : Nat) : Eff 4675608969604 s (State.restartFault s r) := by
  unfold State.restartFault
  with_reducible repeat' first | assumption | exact Eff.refl _ _ | refine (State.fault_eff _ _ _ _ _).step rfl ?_ | refine (State.isolateEntry_eff _ _ _ _ _).step rfl ?_ | refine (State.regionHeld_eff _ _ _ _).step rfl ?_ | refine (State.restartBegin_eff _ _ _).step rfl ?_ | refine Eff.ite ?_ ?_ | split | dsimp only

theorem State.isolate_eff (s : State) (r : Nat) (cause : Nat) (task : Nat) : Eff 5775510667660 s (State.isolate s r cause task) := by
  unfold State.isolate
  with_reducible repeat' first | assumption | exact Eff.refl _ _ | refine (State.chainsStop_eff _ _).step rfl ?_ | refine (State.failovers_eff _ _ _).step rfl ?_ | refine (State.guardCheck_eff _ _).step rfl ?_ | refine (State.isoShow_eff _ _).step rfl ?_ | refine (State.isolateEntry_eff _ _ _ _ _).step rfl ?_ | refine (State.logJobEnd_eff _ _).step rfl ?_ | refine (State.pairStop_eff _ _).step rfl ?_ | refine (State.regionHeld_eff _ _ _ _).step rfl ?_ | refine (State.regionJobsLost_eff _ _ _).step rfl ?_ | refine (State.restartBegin_eff _ _ _).step rfl ?_ | refine (State.restartFault_eff _ _).step rfl ?_ | refine (State.set_eff _ _ _).step rfl ?_ | refine Eff.ite ?_ ?_ | split | refine Eff.upd_flt ?_ rfl | dsimp only

theorem State.eccSeen_eff (s : State) (addr : Nat) : Eff 5775510667660 s (State.eccSeen s addr) := by
  unfold State.eccSeen
  with_reducible repeat' first | assumption | exact Eff.refl _ _ | refine (State.eccUncorr_eff _ _ _ _).step rfl ?_ | refine (State.isolate_eff _ _ _ _).step rfl ?_ | refine Eff.ite ?_ ?_ | split | dsimp only

theorem State.propShow_eff (s : State) (p : Nat) (x : CommitLog) : Eff 4 s (State.propShow s p x) := by
  unfold State.propShow
  with_reducible repeat' first | assumption | exact Eff.refl _ _ | refine (State.sat_eff _ _ _).step rfl ?_ | refine (State.setW_eff _ _ _).step rfl ?_ | refine Eff.ite ?_ ?_ | split | dsimp only

theorem State.failback_eff (s : State) (st : Nat) (cycle : Nat) : Eff 4675608969604 s (State.failback s st cycle) := by
  unfold State.failback
  with_reducible repeat' first | assumption | exact Eff.refl _ _ | refine (State.fault_eff _ _ _ _ _).step rfl ?_ | refine (State.set_eff _ _ _).step rfl ?_ | refine Eff.ite ?_ ?_ | split | refine Eff.upd_flt ?_ rfl | dsimp only

theorem State.publish_eff (s : State) (k : Nat) (cycle : Nat) (es : List Emission) : Eff 4675676078468 s (State.publish s k cycle es) := by
  unfold State.publish
  with_reducible repeat' first | assumption | exact Eff.refl _ _ | refine (State.emitAll_eff _ _ _).step rfl ?_ | refine (State.failback_eff _ _ _).step rfl ?_ | refine (State.heldDrop_eff _ _).step rfl ?_ | refine (State.publishMirror_eff _ _ _ _).step rfl ?_ | refine (State.set_eff _ _ _).step rfl ?_ | refine Eff.ite ?_ ?_ | split | refine Eff.upd_flt ?_ rfl | dsimp only

theorem State.logEnd_eff (s : State) (p : Nat) (l : CommitLog) : Eff 4675709632900 s (State.logEnd s p l) := by
  unfold State.logEnd
  with_reducible repeat' first | assumption | exact Eff.refl _ _ | refine (State.propShow_eff _ _ _).step rfl ?_ | refine (State.publish_eff _ _ _ _).step rfl ?_ | refine (State.ringLive_eff _).step rfl ?_ | refine (State.set_eff _ _ _).step rfl ?_ | refine (State.setPair_eff _ _ _).step rfl ?_ | refine (State.wrap_eff _ _ _).step rfl ?_ | refine Eff.ite ?_ ?_ | split | refine Eff.upd_recs ?_ rfl ⟨by simp,by simp⟩ | dsimp only

theorem State.blockWriteM_eff (s : State) (a : Nat) (m : List (Nat × W128)) (x3 : List Nat) : Eff 8 s (State.blockWriteM s a m x3) := by
  induction x3 generalizing s a m with
  | nil => exact Eff.refl _ _
  | cons y ys ih =>
    unfold State.blockWriteM
    with_reducible repeat' first | assumption | exact Eff.refl _ _ | refine (ih _ _ _).step rfl ?_ | refine (State.st128_eff _ _ _).step rfl ?_ | refine Eff.ite ?_ ?_ | split | dsimp only

theorem State.blockSave_eff (s : State) (k : Nat) (m : List (Nat × W128)) (i : List (Nat × Word)) : Eff 2147483656 s (State.blockSave s k m i) := by
  unfold State.blockSave
  with_reducible repeat' first | assumption | exact Eff.refl _ _ | refine (State.blockWriteM_eff _ _ _ _).step rfl ?_ | refine (State.heal_eff _ _ _).step rfl ?_ | refine (State.stBytes_eff _ _ _).step rfl ?_ | refine Eff.ite ?_ ?_ | split | dsimp only

theorem State.storesHome_eff (s : State) (p : Nat) (x2 : List (Nat × W128)) : Eff 2147483656 s (State.storesHome s p x2) := by
  induction x2 generalizing s p with
  | nil => exact Eff.refl _ _
  | cons y ys ih =>
    unfold State.storesHome
    with_reducible repeat' first | assumption | exact Eff.refl _ _ | refine (ih _ _).step rfl ?_ | refine (State.heal_eff _ _ _).step rfl ?_ | refine (State.st128_eff _ _ _).step rfl ?_ | refine Eff.ite ?_ ?_ | split | dsimp only

theorem State.totsHome_eff (s : State) (p : Nat) (b : Nat) (x3 : List (Nat × W128 × W128)) : Eff 2181038088 s (State.totsHome s p b x3) := by
  induction x3 generalizing s p b with
  | nil => exact Eff.refl _ _
  | cons y ys ih =>
    unfold State.totsHome
    with_reducible repeat' first | assumption | exact Eff.refl _ _ | refine (ih _ _ _).step rfl ?_ | refine (State.heal_eff _ _ _).step rfl ?_ | refine (State.setPair_eff _ _ _).step rfl ?_ | refine (State.totImage_eff _ _ _).step rfl ?_ | refine Eff.ite ?_ ?_ | split | dsimp only

theorem State.logHome_eff (s : State) (p : Nat) (l : CommitLog) : Eff 2181038088 s (State.logHome s p l) := by
  unfold State.logHome
  with_reducible repeat' first | assumption | exact Eff.refl _ _ | refine (State.blockSave_eff _ _ _ _).step rfl ?_ | refine (State.markStream_eff _ _ _ _ _).step rfl ?_ | refine (State.setPair_eff _ _ _).step rfl ?_ | refine (State.storesHome_eff _ _ _).step rfl ?_ | refine (State.totsHome_eff _ _ _ _).step rfl ?_ | refine Eff.ite ?_ ?_ | split | dsimp only

theorem State.logApply_eff (s : State) (p : Nat) : Eff 4675709632908 s (State.logApply s p) := by
  unfold State.logApply
  with_reducible repeat' first | assumption | exact Eff.refl _ _ | refine (State.logEnd_eff _ _ _).step rfl ?_ | refine (State.logHome_eff _ _ _).step rfl ?_ | refine Eff.ite ?_ ?_ | split | dsimp only

theorem State.copyTots_eff (s : State) (src : Nat) (dst : Nat) (toHome : Bool) (x4 : List (Nat × Nat)) : Eff 33554440 s (State.copyTots s src dst toHome x4) := by
  induction x4 generalizing s src dst toHome with
  | nil => exact Eff.refl _ _
  | cons y ys ih =>
    unfold State.copyTots
    with_reducible repeat' first | assumption | exact Eff.refl _ _ | refine (ih _ _ _ _).step rfl ?_ | refine (State.setPair_eff _ _ _).step rfl ?_ | refine (State.totImage_eff _ _ _).step rfl ?_ | refine Eff.ite ?_ ?_ | split | dsimp only

theorem State.resync_eff (s : State) (r : Nat) (st : Nat) : Eff 33554440 s (State.resync s r st) := by
  unfold State.resync
  with_reducible repeat' first | assumption | exact Eff.refl _ _ | refine (State.copyTots_eff _ _ _ _ _).step rfl ?_ | refine (State.setPair_eff _ _ _).step rfl ?_ | refine (State.stBytes_eff _ _ _).step rfl ?_ | refine Eff.ite ?_ ?_ | split | dsimp only

theorem State.resyncs_eff (s : State) (r : Nat) (x2 : List Nat) : Eff 33554440 s (State.resyncs s r x2) := by
  induction x2 generalizing s r with
  | nil => exact Eff.refl _ _
  | cons y ys ih =>
    unfold State.resyncs
    with_reducible repeat' first | assumption | exact Eff.refl _ _ | refine (ih _ _).step rfl ?_ | refine (State.resync_eff _ _ _).step rfl ?_ | refine Eff.ite ?_ ?_ | split | dsimp only

theorem State.blocksDue_eff (s : State) (x1 : List (Nat × Nat)) : Eff 2168455172 s (State.blocksDue s x1) := by
  induction x1 generalizing s with
  | nil => exact Eff.refl _ _
  | cons y ys ih =>
    unfold State.blocksDue
    with_reducible repeat' first | assumption | exact Eff.refl _ _ | refine (ih _).step rfl ?_ | refine (State.blockRestart_eff _ _).step rfl ?_ | refine (State.chainsReady_eff _ _).step rfl ?_ | refine (State.heal_eff _ _ _).step rfl ?_ | refine Eff.ite ?_ ?_ | split | refine Eff.upd_flt ?_ rfl | dsimp only

theorem State.regionWrite_eff (s : State) (e : Nat) (r : Nat) (off : Nat) (bs : List Byte) : Eff 4675611066380 s (State.regionWrite s e r off bs) := by
  unfold State.regionWrite
  with_reducible repeat' first | assumption | exact Eff.refl _ _ | refine (State.heal_eff _ _ _).step rfl ?_ | refine (State.raise_eff _ _ _ _).step rfl ?_ | refine (State.stBytes_eff _ _ _).step rfl ?_ | refine Eff.ite ?_ ?_ | split | refine Eff.upd_echo ?_ rfl | dsimp only

theorem State.pageWrite_eff (s : State) (st : Nat) (off : Nat) (bs : List Byte) : Eff 4675611066380 s (State.pageWrite s st off bs) := by
  unfold State.pageWrite
  with_reducible repeat' first | assumption | exact Eff.refl _ _ | refine (State.regionWrite_eff _ _ _ _ _).step rfl ?_ | refine Eff.ite ?_ ?_ | split | dsimp only

theorem State.codeLoad_eff (s : State) (r : Nat) : Eff 8 s (State.codeLoad s r) := by
  unfold State.codeLoad
  with_reducible repeat' first | assumption | exact Eff.refl _ _ | refine (State.stBytes_eff _ _ _).step rfl ?_ | refine (State.wipe_eff _ _ _).step rfl ?_ | refine Eff.ite ?_ ?_ | split | dsimp only

theorem State.loadSettings_eff (s : State) (x1 : List (Nat × Word)) : Eff 4 s (State.loadSettings s x1) := by
  induction x1 generalizing s with
  | nil => exact Eff.refl _ _
  | cons y ys ih =>
    unfold State.loadSettings
    with_reducible repeat' first | assumption | exact Eff.refl _ _ | refine (ih _).step rfl ?_ | refine (State.setW_eff _ _ _).step rfl ?_ | refine Eff.ite ?_ ?_ | split | dsimp only

theorem State.sdRaise_eff (s : State) (f : Nat → Fld) (x2 : List Nat) : Eff 4673461485572 s (State.sdRaise s f x2) := by
  induction x2 generalizing s f with
  | nil => exact Eff.refl _ _
  | cons y ys ih =>
    unfold State.sdRaise
    with_reducible repeat' first | assumption | exact Eff.refl _ _ | refine (ih _ _).step rfl ?_ | refine (State.raise_eff _ _ _ _).step rfl ?_ | refine Eff.ite ?_ ?_ | split | dsimp only

theorem State.frontLoad_eff (s : State) : Eff 4673461485572 s (State.frontLoad s) := by
  unfold State.frontLoad
  with_reducible repeat' first | assumption | exact Eff.refl _ _ | refine (State.loadSettings_eff _ _).step rfl ?_ | refine (State.sdRaise_eff _ _ _).step rfl ?_ | refine Eff.ite ?_ ?_ | split | dsimp only

theorem State.markRegion_eff (s : State) (r : Nat) (x2 : List Nat) : Eff 33554440 s (State.markRegion s r x2) := by
  induction x2 generalizing s r with
  | nil => exact Eff.refl _ _
  | cons y ys ih =>
    unfold State.markRegion
    with_reducible repeat' first | assumption | exact Eff.refl _ _ | refine (ih _ _).step rfl ?_ | refine (State.markStream_eff _ _ _ _ _).step rfl ?_ | refine Eff.ite ?_ ?_ | split | dsimp only

theorem State.totReload_eff (s : State) (r : Nat) (x2 : List Nat) : Eff 33554432 s (State.totReload s r x2) := by
  induction x2 generalizing s r with
  | nil => exact Eff.refl _ _
  | cons y ys ih =>
    unfold State.totReload
    with_reducible repeat' first | assumption | exact Eff.refl _ _ | refine (ih _ _).step rfl ?_ | refine (State.setPair_eff _ _ _).step rfl ?_ | refine Eff.ite ?_ ?_ | split | dsimp only

theorem State.restartEnd_eff (s : State) (r : Nat) : Eff 5775242232204 s (State.restartEnd s r) := by
  unfold State.restartEnd
  with_reducible repeat' first | assumption | exact Eff.refl _ _ | refine (State.blocksReload_eff _ _ _).step rfl ?_ | refine (State.chainsReady_eff _ _).step rfl ?_ | refine (State.codeLoad_eff _ _).step rfl ?_ | refine (State.eccUncorr_eff _ _ _ _).step rfl ?_ | refine (State.fault_eff _ _ _ _ _).step rfl ?_ | refine (State.fillParams_eff _ _).step rfl ?_ | refine (State.freshBlocks_eff _ _).step rfl ?_ | refine (State.frontLoad_eff _).step rfl ?_ | refine (State.guardCheck_eff _ _).step rfl ?_ | refine (State.heal_eff _ _ _).step rfl ?_ | refine (State.isoShow_eff _ _).step rfl ?_ | refine (State.logApply_eff _ _).step rfl ?_ | refine (State.markRegion_eff _ _ _).step rfl ?_ | refine (State.restoreTots_eff _ _ _ _).step rfl ?_ | refine (State.resyncs_eff _ _ _).step rfl ?_ | refine (State.set_eff _ _ _).step rfl ?_ | refine (State.totReload_eff _ _ _).step rfl ?_ | refine Eff.ite ?_ ?_ | split | refine Eff.upd_flt ?_ rfl | dsimp only

theorem State.restartsDue_eff (s : State) (x1 : List Nat) : Eff 5775242232204 s (State.restartsDue s x1) := by
  induction x1 generalizing s with
  | nil => exact Eff.refl _ _
  | cons y ys ih =>
    unfold State.restartsDue
    with_reducible repeat' first | assumption | exact Eff.refl _ _ | refine (ih _).step rfl ?_ | refine (State.restartEnd_eff _ _).step rfl ?_ | refine Eff.ite ?_ ?_ | split | dsimp only

theorem State.windowsDue_eff (s : State) (x1 : List (Nat × Lane)) : Eff 16777220 s (State.windowsDue s x1) := by
  induction x1 generalizing s with
  | nil => exact Eff.refl _ _
  | cons y ys ih =>
    unfold State.windowsDue
    with_reducible repeat' first | assumption | exact Eff.refl _ _ | refine (ih _).step rfl ?_ | refine (State.echoStart_eff _ _).step rfl ?_ | refine (State.set_eff _ _ _).step rfl ?_ | refine Eff.ite ?_ ?_ | split | dsimp only

theorem State.chainsFailed_eff (s : State) (x1 : List Nat) : Eff 4 s (State.chainsFailed s x1) := by
  induction x1 generalizing s with
  | nil => exact Eff.refl _ _
  | cons y ys ih =>
    unfold State.chainsFailed
    with_reducible repeat' first | assumption | exact Eff.refl _ _ | refine (ih _).step rfl ?_ | refine (State.frozenShow_eff _ _).step rfl ?_ | refine (State.set_eff _ _ _).step rfl ?_ | refine Eff.ite ?_ ?_ | split | dsimp only

theorem State.blockFault_eff (s : State) (b : Nat) (cause : Nat) (chain : Nat) : Eff 5775510667660 s (State.blockFault s b cause chain) := by
  unfold State.blockFault
  with_reducible repeat' first | assumption | exact Eff.refl _ _ | refine (State.chainsFailed_eff _ _).step rfl ?_ | refine (State.chainsStop_eff _ _).step rfl ?_ | refine (State.fault_eff _ _ _ _ _).step rfl ?_ | refine (State.isolate_eff _ _ _ _).step rfl ?_ | refine Eff.ite ?_ ?_ | split | refine Eff.upd_flt ?_ rfl | dsimp only

theorem State.jobSet_eff (s : State) (k : Nat) (j : Job) : Eff 268435460 s (State.jobSet s k j) := by
  unfold State.jobSet
  with_reducible repeat' first | assumption | exact Eff.refl _ _ | refine (State.jobShow_eff _ _).step rfl ?_ | refine Eff.ite ?_ ?_ | split | refine Eff.upd_spn ?_ rfl | dsimp only

theorem State.writeWaiting_eff (s : State) (r : Nat) (x2 : List (Nat × Nat × Nat × List Byte)) : Eff 4675611066380 s (State.writeWaiting s r x2) := by
  induction x2 generalizing s r with
  | nil => exact Eff.refl _ _
  | cons y ys ih =>
    unfold State.writeWaiting
    with_reducible repeat' first | assumption | exact Eff.refl _ _ | refine (ih _ _).step rfl ?_ | refine (State.regionWrite_eff _ _ _ _ _).step rfl ?_ | refine Eff.ite ?_ ?_ | split | dsimp only

theorem State.regionWritten_eff (s : State) (r : Nat) : Eff 4675611066380 s (State.regionWritten s r) := by
  unfold State.regionWritten
  with_reducible repeat' first | assumption | exact Eff.refl _ _ | refine (State.writeWaiting_eff _ _ _).step rfl ?_ | refine Eff.ite ?_ ?_ | split | refine Eff.upd_echo ?_ rfl | dsimp only

end Sys2Proof.Machine
end

