-- ==== Sys2Proof/Laws/EffAcqOps.lean ====
section
/-! SUPPORT. What every operation of Machine/AcqOps.lean may change, and that it keeps the canonical forms and lowers no rising counter (Effect.lean). -/

namespace Sys2Proof.Machine

theorem State.setNotices_eff (s : State) (e : Nat) (q : List Notice) : Eff 2097156 s (State.setNotices s e q) := by
  unfold State.setNotices
  with_reducible repeat' first | assumption | exact Eff.refl _ _ | refine (State.set_eff _ _ _).step rfl ?_ | refine Eff.ite ?_ ?_ | split | refine Eff.upd_echo ?_ rfl | dsimp only

theorem State.deliver_eff (s : State) (e : Nat) (x : Notice) : Eff 4675611066380 s (State.deliver s e x) := by
  unfold State.deliver
  with_reducible repeat' first | assumption | exact Eff.refl _ _ | refine (State.heal_eff _ _ _).step rfl ?_ | refine (State.raise_eff _ _ _ _).step rfl ?_ | refine (State.sat_eff _ _ _).step rfl ?_ | refine (State.setNotices_eff _ _ _).step rfl ?_ | refine (State.stBytes_eff _ _ _).step rfl ?_ | refine Eff.ite ?_ ?_ | split | refine Eff.upd_echo ?_ rfl | dsimp only

theorem State.seqShow_eff (s : State) : Eff 4 s (State.seqShow s) := by
  unfold State.seqShow
  with_reducible repeat' first | assumption | exact Eff.refl _ _ | refine (State.set_eff _ _ _).step rfl ?_ | refine (State.setB_eff _ _ _).step rfl ?_ | refine Eff.ite ?_ ?_ | split | dsimp only

theorem State.setLane_eff (s : State) (n : Nat) (l : Lane) : Eff 1048576 s (State.setLane s n l) := by
  unfold State.setLane
  with_reducible repeat' first | assumption | exact Eff.refl _ _ | refine Eff.ite ?_ ?_ | split | refine Eff.upd_acq ?_ rfl | dsimp only

theorem State.bufRelease_eff (s : State) (lane : Nat) (buf : Nat) : Eff 4 s (State.bufRelease s lane buf) := by
  unfold State.bufRelease
  with_reducible repeat' first | assumption | exact Eff.refl _ _ | refine (State.set_eff _ _ _).step rfl ?_ | refine Eff.ite ?_ ?_ | split | dsimp only

theorem State.seqPut_eff (s : State) (i : Nat) (q : Option ShotSeq) : Eff 1048580 s (State.seqPut s i q) := by
  unfold State.seqPut
  with_reducible repeat' first | assumption | exact Eff.refl _ _ | refine (State.seqShow_eff _).step rfl ?_ | refine Eff.ite ?_ ?_ | split | refine Eff.upd_acq ?_ rfl | dsimp only

theorem State.seqGains_eff (s : State) (x1 : Nat) (x2 : Nat) : Eff 4 s (State.seqGains s x1 x2) := by
  induction x1 generalizing s x2 with
  | zero => exact Eff.refl _ _
  | succ y ih =>
    unfold State.seqGains
    with_reducible repeat' first | assumption | exact Eff.refl _ _ | refine (ih _ _).step rfl ?_ | refine (State.set_eff _ _ _).step rfl ?_ | refine Eff.ite ?_ ?_ | split | dsimp only

theorem State.seqStart_eff (s : State) (head : Nat) (match_ : Nat) : Eff 1048580 s (State.seqStart s head match_) := by
  unfold State.seqStart
  with_reducible repeat' first | assumption | exact Eff.refl _ _ | refine (State.seqGains_eff _ _ _).step rfl ?_ | refine (State.seqShow_eff _).step rfl ?_ | refine (State.set_eff _ _ _).step rfl ?_ | refine Eff.ite ?_ ?_ | split | refine Eff.upd_acq ?_ rfl | dsimp only

theorem State.seqStarts_eff (s : State) (n : Nat) (match_ : Nat) (x3 : List Nat) : Eff 1048580 s (State.seqStarts s n match_ x3) := by
  induction x3 generalizing s n match_ with
  | nil => exact Eff.refl _ _
  | cons y ys ih =>
    unfold State.seqStarts
    with_reducible repeat' first | assumption | exact Eff.refl _ _ | refine (ih _ _ _).step rfl ?_ | refine (State.seqStart_eff _ _ _).step rfl ?_ | refine Eff.ite ?_ ?_ | split | dsimp only

end Sys2Proof.Machine
end

