-- ==== Sys2Proof/Laws/EffTimeBase.lean ====
section
/-! SUPPORT. What every operation of Machine/TimeBase.lean may change, and that it keeps the canonical forms and lowers no rising counter (Effect.lean). -/

namespace Sys2Proof.Machine

theorem State.elapsed_eff (s : State) (d : Nat) : Eff 134217728 s (State.elapsed s d) := by
  unfold State.elapsed
  with_reducible repeat' first | assumption | exact Eff.refl _ _ | refine Eff.ite ?_ ?_ | split | refine Eff.upd_time ?_ rfl | dsimp only

theorem State.carryBy_eff (s : State) (x : Nat) : Eff 134217728 s (State.carryBy s x) := by
  unfold State.carryBy
  with_reducible repeat' first | assumption | exact Eff.refl _ _ | refine (State.elapsed_eff _ _).step rfl ?_ | refine Eff.ite ?_ ?_ | split | refine Eff.upd_time ?_ rfl | dsimp only

theorem State.carry_eff (s : State) (d : Nat) (f : Int) : Eff 134217728 s (State.carry s d f) := by
  unfold State.carry
  with_reducible repeat' first | assumption | exact Eff.refl _ _ | refine (State.carryBy_eff _ _).step rfl ?_ | refine Eff.ite ?_ ?_ | split | dsimp only

theorem State.carryCounts_eff (s : State) (n : Nat) (l : List Int) : Eff 134217728 s (s.carryCounts n l) := by
  induction l generalizing s n with
  | nil => unfold State.carryCounts; exact (State.carry_eff _ _ _).mono rfl
  | cons x xs ih => unfold State.carryCounts; exact (ih _ _).step rfl ((State.carry_eff _ _ _).step rfl (Eff.upd_time (Eff.refl _ _) rfl))

theorem State.asleep_eff (s : State) (z : Asleep) : Eff 134217728 s (State.asleep s z) := by
  unfold State.asleep
  with_reducible repeat' first | assumption | exact Eff.refl _ _ | refine (State.carryBy_eff _ _).step rfl ?_ | refine (State.carryCounts_eff _ _ _).step rfl ?_ | refine Eff.ite ?_ ?_ | split | dsimp only

theorem State.passed_eff (s : State) (z : Asleep) : Eff 134217728 s (State.passed s z) := by
  unfold State.passed
  with_reducible repeat' first | assumption | exact Eff.refl _ _ | refine (State.asleep_eff _ _).step rfl ?_ | refine Eff.ite ?_ ?_ | split | dsimp only

theorem State.syncLost_eff (s : State) : Eff 4 s (State.syncLost s) := by
  unfold State.syncLost
  with_reducible repeat' first | assumption | exact Eff.refl _ _ | refine (State.set_eff _ _ _).step rfl ?_ | refine Eff.ite ?_ ?_ | split | dsimp only

theorem State.timeStamp_eff (s : State) (value : Word) : Eff 4 s (State.timeStamp s value) := by
  unfold State.timeStamp
  with_reducible repeat' first | assumption | exact Eff.refl _ _ | refine (State.set_eff _ _ _).step rfl ?_ | refine Eff.ite ?_ ?_ | split | dsimp only

theorem State.quietNote_eff (s : State) (t : Nat) : Eff 4194304 s (State.quietNote s t) := by
  unfold State.quietNote
  with_reducible repeat' first | assumption | exact Eff.refl _ _ | refine Eff.ite ?_ ?_ | split | refine Eff.upd_front ?_ rfl | dsimp only

theorem State.timeSet_eff (s : State) (t : Nat) (p : Int) (n : Nat) : Eff 134217728 s (State.timeSet s t p n) := by
  unfold State.timeSet
  with_reducible repeat' first | assumption | exact Eff.refl _ _ | refine Eff.ite ?_ ?_ | split | refine Eff.upd_time ?_ rfl | dsimp only

theorem State.timeRestart_eff (s : State) (t : Nat) : Eff 134217728 s (State.timeRestart s t) :=
  State.timeSet_eff _ _ _ _

theorem State.timeShow_eff (s : State) : Eff 4 s (State.timeShow s) := by
  unfold State.timeShow
  with_reducible repeat' first | assumption | exact Eff.refl _ _ | refine (State.set_eff _ _ _).step rfl ?_ | refine (State.setB_eff _ _ _).step rfl ?_ | refine (State.setI_eff _ _ _).step rfl ?_ | refine Eff.ite ?_ ?_ | split | dsimp only

theorem State.advanceTo_eff (s : State) (t : Nat) : Eff 138412036 s (State.advanceTo s t) := by
  unfold State.advanceTo
  with_reducible repeat' first | assumption | exact Eff.refl _ _ | refine (State.elapsed_eff _ _).step rfl ?_ | refine (State.quietNote_eff _ _).step rfl ?_ | refine (State.timeSet_eff _ _ _ _).step rfl ?_ | refine (State.timeShow_eff _).step rfl ?_ | refine Eff.ite ?_ ?_ | split | dsimp only

theorem execTimeCycleRead_eff (s : State) : OutEff 4 s (execTimeCycleRead s) := by
  unfold execTimeCycleRead
  with_reducible repeat' first | refine OutEff.guard ?_ | refine OutEff.next ?_ | assumption | exact Eff.refl _ _ | refine (State.set_eff _ _ _).step rfl ?_ | refine Eff.ite ?_ ?_ | split | dsimp only

theorem State.gridHere_eff (s : State) : Eff 134217728 s (State.gridHere s) := by
  unfold State.gridHere
  with_reducible repeat' first | assumption | exact Eff.refl _ _ | refine Eff.ite ?_ ?_ | split | refine Eff.upd_time ?_ rfl | dsimp only

theorem State.advancePlls_eff (s : State) (n : Nat) : Eff 138412036 s (State.advancePlls s n) := by
  unfold State.advancePlls
  with_reducible repeat' first | assumption | exact Eff.refl _ _ | refine (State.advanceTo_eff _ _).step rfl ?_ | refine Eff.ite ?_ ?_ | split | refine Eff.upd_time ?_ rfl | dsimp only

theorem State.corrected_eff (s : State) : Eff 201326596 s (State.corrected s) := by
  unfold State.corrected
  with_reducible repeat' first | assumption | exact Eff.refl _ _ | refine (State.intervalNote_eff _ _).step rfl ?_ | refine (State.set_eff _ _ _).step rfl ?_ | refine Eff.ite ?_ ?_ | split | refine Eff.upd_time ?_ rfl | dsimp only

theorem execTimeStampGo_eff (value : Word) (s : State) : OutEff 4 s (execTimeStampGo value s) := by
  unfold execTimeStampGo
  with_reducible repeat' first | refine OutEff.guard ?_ | refine OutEff.next ?_ | assumption | exact Eff.refl _ _ | refine (State.timeStamp_eff _ _).step rfl ?_ | refine Eff.ite ?_ ?_ | split | dsimp only

theorem State.sleepTo_eff (s : State) (t : Nat) : Eff 134217728 s (State.sleepTo s t) := by
  unfold State.sleepTo
  with_reducible repeat' first | assumption | exact Eff.refl _ _ | refine (State.elapsed_eff _ _).step rfl ?_ | refine (State.timeSet_eff _ _ _ _).step rfl ?_ | refine Eff.ite ?_ ?_ | split | dsimp only

theorem execTimeNowRead_eff (s : State) : OutEff 4 s (execTimeNowRead s) := by
  unfold execTimeNowRead
  with_reducible repeat' first | refine OutEff.guard ?_ | refine OutEff.next ?_ | assumption | exact Eff.refl _ _ | refine (State.set_eff _ _ _).step rfl ?_ | refine Eff.ite ?_ ?_ | split | dsimp only

theorem State.tickFast_eff (s : State) : Eff 134217732 s (State.tickFast s) := by
  unfold State.tickFast
  with_reducible repeat' first | assumption | exact Eff.refl _ _ | refine (State.elapsed_eff _ _).step rfl ?_ | refine (State.timeShow_eff _).step rfl ?_ | refine Eff.ite ?_ ?_ | split | refine Eff.upd_time ?_ rfl | dsimp only

theorem State.tick_eff (s : State) : Eff 134217732 s (State.tick s) := by
  unfold State.tick
  with_reducible repeat' first | assumption | exact Eff.refl _ _ | refine (State.carry_eff _ _ _).step rfl ?_ | refine (State.tickFast_eff _).step rfl ?_ | refine Eff.ite ?_ ?_ | split | refine Eff.upd_time ?_ rfl | dsimp only

theorem execXofsLearn_eff (measured : Int) (s : State) : OutEff 134217734 s (execXofsLearn measured s) := by
  unfold execXofsLearn
  with_reducible repeat' first | refine OutEff.guard ?_ | refine OutEff.next ?_ | assumption | exact Eff.refl _ _ | refine (State.setI_eff _ _ _).step rfl ?_ | refine Eff.ite ?_ ?_ | split | refine Eff.upd_freeCtr_time ?_ rfl rfl  (by simp) | refine Eff.upd_freeCtr ?_ rfl (by simp) | refine Eff.upd_time ?_ rfl | dsimp only

theorem execGwTimeRead_eff (s : State) : OutEff 4 s (execGwTimeRead s) := by
  unfold execGwTimeRead
  with_reducible repeat' first | refine OutEff.guard ?_ | refine OutEff.next ?_ | assumption | exact Eff.refl _ _ | refine (State.set_eff _ _ _).step rfl ?_ | refine Eff.ite ?_ ?_ | split | dsimp only

theorem execPhaseAmortised_eff (s : State) : OutEff 134217732 s (execPhaseAmortised s) := by
  unfold execPhaseAmortised
  with_reducible repeat' first | refine OutEff.guard ?_ | refine OutEff.next ?_ | assumption | exact Eff.refl _ _ | refine (State.timeShow_eff _).step rfl ?_ | refine Eff.ite ?_ ?_ | split | refine Eff.upd_time ?_ rfl | dsimp only

end Sys2Proof.Machine
end

