-- ==== Sys2Proof/Laws/EffPulseOps.lean ====
section
/-! SUPPORT. What every operation of Machine/PulseOps.lean may change, and that it keeps the canonical forms and lowers no rising counter (Effect.lean). -/

namespace Sys2Proof.Machine

theorem State.setPulse_eff (s : State) (n : Nat) (x : Pulse) : Eff 8388608 s (State.setPulse s n x) := by
  unfold State.setPulse
  with_reducible repeat' first | assumption | exact Eff.refl _ _ | refine Eff.ite ?_ ?_ | split | refine Eff.upd_pulse ?_ rfl | dsimp only

theorem State.pulseRx_eff (s : State) (on : Bool) (x2 : List Nat) : Eff 8388612 s (State.pulseRx s on x2) := by
  induction x2 generalizing s on with
  | nil => exact Eff.refl _ _
  | cons y ys ih =>
    unfold State.pulseRx
    with_reducible repeat' first | assumption | exact Eff.refl _ _ | refine (ih _ _).step rfl ?_ | refine (State.setB_eff _ _ _).step rfl ?_ | refine (State.setPulse_eff _ _ _).step rfl ?_ | refine Eff.ite ?_ ?_ | split | dsimp only

theorem State.stuckSet_eff (s : State) (n : Nat) : Eff 8388612 s (State.stuckSet s n) := by
  unfold State.stuckSet
  with_reducible repeat' first | assumption | exact Eff.refl _ _ | refine (State.set_eff _ _ _).step rfl ?_ | refine (State.setPulse_eff _ _ _).step rfl ?_ | refine Eff.ite ?_ ?_ | split | dsimp only

theorem State.stuckDue_eff (s : State) (x1 : List (Nat × Pulse)) : Eff 8388612 s (State.stuckDue s x1) := by
  induction x1 generalizing s with
  | nil => exact Eff.refl _ _
  | cons y ys ih =>
    unfold State.stuckDue
    with_reducible repeat' first | assumption | exact Eff.refl _ _ | refine (ih _).step rfl ?_ | refine (State.stuckSet_eff _ _).step rfl ?_ | refine Eff.ite ?_ ?_ | split | dsimp only

theorem State.anyEdge_eff (s : State) (n : Nat) (t : Nat) (level : Bool) : Eff 8388612 s (State.anyEdge s n t level) := by
  unfold State.anyEdge
  with_reducible repeat' first | assumption | exact Eff.refl _ _ | refine (State.set_eff _ _ _).step rfl ?_ | refine (State.setB_eff _ _ _).step rfl ?_ | refine (State.setPulse_eff _ _ _).step rfl ?_ | refine Eff.ite ?_ ?_ | split | dsimp only

theorem State.pinRaise_eff (s : State) (f : Nat → Fld) (n : Nat) : Eff 4673461485572 s (State.pinRaise s f n) := by
  unfold State.pinRaise
  with_reducible repeat' first | assumption | exact Eff.refl _ _ | refine (State.raise_eff _ _ _ _).step rfl ?_ | refine Eff.ite ?_ ?_ | split | dsimp only

theorem State.dualEdge_eff (s : State) (n : Nat) (t : Nat) (isB : Bool) (b : Bool) : Eff 4673469874180 s (State.dualEdge s n t isB b) := by
  unfold State.dualEdge
  with_reducible repeat' first | assumption | exact Eff.refl _ _ | refine (State.pinRaise_eff _ _ _).step rfl ?_ | refine (State.setPulse_eff _ _ _).step rfl ?_ | refine Eff.ite ?_ ?_ | split | dsimp only

theorem State.overrate_eff (s : State) (n : Nat) (b : Bool) : Eff 4673469874180 s (State.overrate s n b) := by
  unfold State.overrate
  with_reducible repeat' first | assumption | exact Eff.refl _ _ | refine (State.pinRaise_eff _ _ _).step rfl ?_ | refine (State.setPulse_eff _ _ _).step rfl ?_ | refine Eff.ite ?_ ?_ | split | dsimp only

theorem State.quadB_eff (s : State) (n : Nat) (t : Nat) (b : Bool) : Eff 4673469874180 s (State.quadB s n t b) := by
  unfold State.quadB
  with_reducible repeat' first | assumption | exact Eff.refl _ _ | refine (State.pinRaise_eff _ _ _).step rfl ?_ | refine (State.setPulse_eff _ _ _).step rfl ?_ | refine Eff.ite ?_ ?_ | split | dsimp only

theorem State.countedEdge_eff (s : State) (n : Nat) (t : Nat) : Eff 4673469874180 s (State.countedEdge s n t) := by
  unfold State.countedEdge
  with_reducible repeat' first | assumption | exact Eff.refl _ _ | refine (State.anyEdge_eff _ _ _ _).step rfl ?_ | refine (State.dualEdge_eff _ _ _ _ _).step rfl ?_ | refine (State.overrate_eff _ _ _).step rfl ?_ | refine (State.pinRaise_eff _ _ _).step rfl ?_ | refine (State.quadB_eff _ _ _ _).step rfl ?_ | refine (State.setPulse_eff _ _ _).step rfl ?_ | refine Eff.ite ?_ ?_ | split | dsimp only

theorem State.pulseCfg_eff (s : State) (n : Nat) : Eff 8388608 s (State.pulseCfg s n) := by
  unfold State.pulseCfg
  with_reducible repeat' first | assumption | exact Eff.refl _ _ | refine Eff.ite ?_ ?_ | split | refine Eff.upd_pulse ?_ rfl | dsimp only

theorem State.pulseCfgs_eff (s : State) (x1 : List Nat) : Eff 8388608 s (State.pulseCfgs s x1) := by
  induction x1 generalizing s with
  | nil => exact Eff.refl _ _
  | cons y ys ih =>
    unfold State.pulseCfgs
    with_reducible repeat' first | assumption | exact Eff.refl _ _ | refine (ih _).step rfl ?_ | refine (State.pulseCfg_eff _ _).step rfl ?_ | refine Eff.ite ?_ ?_ | split | dsimp only

theorem State.pulseLoad_eff (s : State) : Eff 8388612 s (State.pulseLoad s) := by
  unfold State.pulseLoad
  with_reducible repeat' first | assumption | exact Eff.refl _ _ | refine (State.pulseCfgs_eff _ _).step rfl ?_ | refine (State.pulseRx_eff _ _ _).step rfl ?_ | refine Eff.ite ?_ ?_ | split | refine Eff.upd_pulse ?_ rfl | dsimp only

theorem State.stampTo_eff (s : State) (t : Nat) : Eff 138412036 s (State.stampTo s t) := by
  unfold State.stampTo
  with_reducible repeat' first | assumption | exact Eff.refl _ _ | refine (State.advanceTo_eff _ _).step rfl ?_ | refine (State.sleepTo_eff _ _).step rfl ?_ | refine Eff.ite ?_ ?_ | split | dsimp only

theorem State.pulseTurn_eff (s : State) (c : Nat) (e : Nat) (n : Nat) : Eff 8388608 s (State.pulseTurn s c e n) := by
  unfold State.pulseTurn
  with_reducible repeat' first | assumption | exact Eff.refl _ _ | refine Eff.ite ?_ ?_ | split | refine Eff.upd_pulse ?_ rfl | dsimp only

theorem State.pulseTurns_eff (s : State) (c : Nat) (e : Nat) (x3 : List Nat) : Eff 8388608 s (State.pulseTurns s c e x3) := by
  induction x3 generalizing s c e with
  | nil => exact Eff.refl _ _
  | cons y ys ih =>
    unfold State.pulseTurns
    with_reducible repeat' first | assumption | exact Eff.refl _ _ | refine (ih _ _ _).step rfl ?_ | refine (State.pulseTurn_eff _ _ _ _).step rfl ?_ | refine Eff.ite ?_ ?_ | split | dsimp only

theorem State.pulseCycle_eff (s : State) (c : Nat) (e : Nat) : Eff 8388608 s (State.pulseCycle s c e) := by
  unfold State.pulseCycle
  with_reducible repeat' first | assumption | exact Eff.refl _ _ | refine (State.pulseCfgs_eff _ _).step rfl ?_ | refine (State.pulseTurns_eff _ _ _ _).step rfl ?_ | refine Eff.ite ?_ ?_ | split | dsimp only

theorem State.pulseShift_eff (s : State) (d : Int) : Eff 8388608 s (State.pulseShift s d) := by
  unfold State.pulseShift
  with_reducible repeat' first | assumption | exact Eff.refl _ _ | refine Eff.ite ?_ ?_ | split | refine Eff.upd_pulse ?_ rfl | dsimp only

end Sys2Proof.Machine
end

