-- ==== Sys2Proof/Laws/EffEchoOps.lean ====
section
/-! SUPPORT. What every operation of Machine/EchoOps.lean may change, and that it keeps the canonical forms and lowers no rising counter (Effect.lean). -/

namespace Sys2Proof.Machine

theorem State.setOpen_eff (s : State) (st : Nat) (o : EchoOpen) : Eff 2097152 s (State.setOpen s st o) := by
  unfold State.setOpen
  with_reducible repeat' first | assumption | exact Eff.refl _ _ | refine Eff.ite ?_ ?_ | split | refine Eff.upd_echo ?_ rfl | dsimp only

theorem State.echoComplete_eff (s : State) (st : Nat) : Eff 4675611066380 s (State.echoComplete s st) := by
  unfold State.echoComplete
  with_reducible repeat' first | assumption | exact Eff.refl _ _ | refine (State.pageWrite_eff _ _ _ _).step rfl ?_ | refine (State.setOpen_eff _ _ _).step rfl ?_ | refine Eff.ite ?_ ?_ | split | dsimp only

theorem State.finalise_eff (s : State) (st : Nat) (p : Nat) : Eff 4675611066380 s (State.finalise s st p) := by
  unfold State.finalise
  with_reducible repeat' first | assumption | exact Eff.refl _ _ | refine (State.echoComplete_eff _ _).step rfl ?_ | refine (State.pageWrite_eff _ _ _ _).step rfl ?_ | refine (State.setOpen_eff _ _ _).step rfl ?_ | refine Eff.ite ?_ ?_ | split | refine Eff.upd_echo ?_ rfl | dsimp only

theorem State.setPath_eff (s : State) (st : Nat) (p : Nat) (x : PathAcc) : Eff 2097152 s (State.setPath s st p x) := by
  unfold State.setPath
  with_reducible repeat' first | assumption | exact Eff.refl _ _ | refine Eff.ite ?_ ?_ | split | refine Eff.upd_echo ?_ rfl | dsimp only

theorem State.dirDone_eff (s : State) (st : Nat) (p : Nat) (isB : Bool) (x : Notice) : Eff 4675611066380 s (State.dirDone s st p isB x) := by
  unfold State.dirDone
  with_reducible repeat' first | assumption | exact Eff.refl _ _ | refine (State.finalise_eff _ _ _).step rfl ?_ | refine (State.setPath_eff _ _ _ _).step rfl ?_ | refine Eff.ite ?_ ?_ | split | dsimp only

theorem State.echoEcc_eff (s : State) (e : Nat) (x : Notice) (tp : Option (Nat × Nat)) : Eff 4675608969604 s (State.echoEcc s e x tp) := by
  unfold State.echoEcc
  with_reducible repeat' first | assumption | exact Eff.refl _ _ | refine (State.eccUncorr_eff _ _ _ _).step rfl ?_ | refine (State.raise_eff _ _ _ _).step rfl ?_ | refine Eff.ite ?_ ?_ | split | dsimp only

theorem State.heldClear_eff (s : State) (st : Nat) (p : Nat) : Eff 2097152 s (State.heldClear s st p) := by
  unfold State.heldClear
  with_reducible repeat' first | assumption | exact Eff.refl _ _ | refine Eff.ite ?_ ?_ | split | refine Eff.upd_echo ?_ rfl | dsimp only

theorem State.logPut_eff (s : State) (e : Nat) (i : Nat) (x : Notice) (r : EchoRes) : Eff 2147483656 s (State.logPut s e i x r) := by
  unfold State.logPut
  with_reducible repeat' first | assumption | exact Eff.refl _ _ | refine (State.heal_eff _ _ _).step rfl ?_ | refine (State.stBytes_eff _ _ _).step rfl ?_ | refine Eff.ite ?_ ?_ | split | dsimp only

theorem State.heldJudged_eff (s : State) (e : Nat) (st : Nat) (p : Nat) (h : Held) (r : EchoRes) : Eff 2149580812 s (State.heldJudged s e st p h r) := by
  unfold State.heldJudged
  with_reducible repeat' first | assumption | exact Eff.refl _ _ | refine (State.bufRelease_eff _ _ _).step rfl ?_ | refine (State.heldClear_eff _ _ _).step rfl ?_ | refine (State.logPut_eff _ _ _ _ _).step rfl ?_ | refine (State.sat_eff _ _ _).step rfl ?_ | refine (State.setPath_eff _ _ _ _).step rfl ?_ | refine Eff.ite ?_ ?_ | split | dsimp only

theorem State.heldRelease_eff (s : State) (e : Nat) (st : Nat) (p : Nat) (isB : Bool) (x : Notice) : Eff 2149580812 s (State.heldRelease s e st p isB x) := by
  unfold State.heldRelease
  with_reducible repeat' first | assumption | exact Eff.refl _ _ | refine (State.heldJudged_eff _ _ _ _ _ _).step rfl ?_ | refine Eff.ite ?_ ?_ | split | dsimp only

theorem State.echoLog_eff (s : State) (e : Nat) (x : Notice) (r : EchoRes) : Eff 2149580812 s (State.echoLog s e x r) := by
  unfold State.echoLog
  with_reducible repeat' first | assumption | exact Eff.refl _ _ | refine (State.logPut_eff _ _ _ _ _).step rfl ?_ | refine (State.wrap_eff _ _ _).step rfl ?_ | refine Eff.ite ?_ ?_ | split | refine Eff.upd_echo ?_ rfl | dsimp only

theorem State.jobDone_eff (s : State) (e : Nat) (x : Notice) (r : EchoRes) : Eff 2149580812 s (State.jobDone s e x r) := by
  unfold State.jobDone
  with_reducible repeat' first | assumption | exact Eff.refl _ _ | refine (State.echoLog_eff _ _ _ _).step rfl ?_ | refine (State.sat_eff _ _ _).step rfl ?_ | refine (State.set_eff _ _ _).step rfl ?_ | refine (State.wrap_eff _ _ _).step rfl ?_ | refine Eff.ite ?_ ?_ | split | dsimp only

theorem State.noticeRelease_eff (s : State) (x : Notice) : Eff 4 s (State.noticeRelease s x) := by
  unfold State.noticeRelease
  with_reducible repeat' first | assumption | exact Eff.refl _ _ | refine (State.bufRelease_eff _ _ _).step rfl ?_ | refine Eff.ite ?_ ?_ | split | dsimp only

theorem State.runPartnerA_eff (s : State) (e : Nat) (st : Nat) (p : Nat) (x : Notice) (forced : Nat) : Eff 4675611066766 s (State.runPartnerA s e st p x forced) := by
  unfold State.runPartnerA
  with_reducible repeat' first | assumption | exact Eff.refl _ _ | refine (State.dirDone_eff _ _ _ _ _).step rfl ?_ | refine (State.echoEcc_eff _ _ _ _).step rfl ?_ | refine (State.heldRelease_eff _ _ _ _ _ _).step rfl ?_ | refine (State.jobDone_eff _ _ _ _).step rfl ?_ | refine (State.noticeRelease_eff _ _).step rfl ?_ | refine (State.setPath_eff _ _ _ _).step rfl ?_ | refine Eff.ite ?_ ?_ | split | refine Eff.upd_freeCtr ?_ rfl (by simp) | refine Eff.upd_echo ?_ rfl | dsimp only

theorem State.trackAfter_eff (s : State) (k : Nat) (r : EchoRes) : Eff 2097152 s (State.trackAfter s k r) := by
  unfold State.trackAfter
  with_reducible repeat' first | assumption | exact Eff.refl _ _ | refine Eff.ite ?_ ?_ | split | refine Eff.upd_echo ?_ rfl | dsimp only

theorem State.finaliseOther_eff (s : State) (st : Nat) (cycle : Nat) (x3 : List Nat) : Eff 4675611066380 s (State.finaliseOther s st cycle x3) := by
  induction x3 generalizing s st cycle with
  | nil => exact Eff.refl _ _
  | cons y ys ih =>
    unfold State.finaliseOther
    with_reducible repeat' first | assumption | exact Eff.refl _ _ | refine (ih _ _ _).step rfl ?_ | refine (State.finalise_eff _ _ _).step rfl ?_ | refine Eff.ite ?_ ?_ | split | dsimp only

theorem State.openPath_eff (s : State) (st : Nat) (p : Nat) (x : Notice) : Eff 4675611066380 s (State.openPath s st p x) := by
  unfold State.openPath
  with_reducible repeat' first | assumption | exact Eff.refl _ _ | refine (State.pageWrite_eff _ _ _ _).step rfl ?_ | refine (State.setOpen_eff _ _ _).step rfl ?_ | refine Eff.ite ?_ ?_ | split | refine Eff.upd_echo ?_ rfl | dsimp only

theorem State.runPartnerB_eff (s : State) (e st p : Nat) (x : Notice) (forced : Nat) : Eff 4675611066766 s (s.runPartnerB e st p x forced) := by
  unfold State.runPartnerB
  extract_lets s1 pre rej s2 res r s3 s4 b0 b s5 ec s6
  have h2 : Eff 4675611066766 s s2 := Eff.ite ((State.echoEcc_eff _ _ _ _).step rfl ((State.heldRelease_eff _ _ _ _ _ _).mono rfl)) ((State.heldRelease_eff _ _ _ _ _ _).mono rfl)
  have h3 : Eff 4675611066766 s s3 := Eff.upd_freeCtr h2 rfl (Nat.le_succ _)
  have h4 : Eff 4675611066766 s s4 := by
    show Eff 4675611066766 s (match s3.heldOf st p with | some h => _ | none => _)
    split
    · exact (State.heldJudged_eff _ _ _ _ _ _).step rfl (Eff.ite ((State.echoEcc_eff _ _ _ _).step rfl h3) h3)
    · exact h3
  have h5 : Eff 4675611066766 s s5 := (State.setPath_eff _ _ _ _).step rfl h4
  have h6 : Eff 4675611066766 s s6 := Eff.ite (Eff.upd_echo h5 rfl) h5
  exact (State.dirDone_eff _ _ _ _ _).step rfl ((State.jobDone_eff _ _ _ _).step rfl ((State.noticeRelease_eff _ _).step rfl h6))

theorem State.runTemplate_eff (s : State) (e : Nat) (st : Nat) (p : Nat) (isB : Bool) (x : Notice) (forced : Nat) : Eff 4675611066766 s (State.runTemplate s e st p isB x forced) := by
  unfold State.runTemplate
  with_reducible repeat' first | assumption | exact Eff.refl _ _ | refine (State.dirDone_eff _ _ _ _ _).step rfl ?_ | refine (State.echoEcc_eff _ _ _ _).step rfl ?_ | refine (State.jobDone_eff _ _ _ _).step rfl ?_ | refine (State.noticeRelease_eff _ _).step rfl ?_ | refine (State.setPath_eff _ _ _ _).step rfl ?_ | refine (State.trackAfter_eff _ _ _).step rfl ?_ | refine Eff.ite ?_ ?_ | split | refine Eff.upd_freeCtr ?_ rfl (by simp) | dsimp only

theorem State.echoNotice_eff (s : State) (e : Nat) (x : Notice) (forced : Nat) : Eff 4675611066766 s (State.echoNotice s e x forced) := by
  unfold State.echoNotice
  with_reducible repeat' first | assumption | exact Eff.refl _ _ | refine (State.finaliseOther_eff _ _ _ _).step rfl ?_ | refine (State.jobDone_eff _ _ _ _).step rfl ?_ | refine (State.noticeRelease_eff _ _).step rfl ?_ | refine (State.openPath_eff _ _ _ _).step rfl ?_ | refine (State.runPartnerA_eff _ _ _ _ _ _).step rfl ?_ | refine (State.runPartnerB_eff _ _ _ _ _ _).step rfl ?_ | refine (State.runTemplate_eff _ _ _ _ _ _ _).step rfl ?_ | refine Eff.ite ?_ ?_ | split | dsimp only

theorem State.lostRun_eff (s : State) (e : Nat) (l : List Notice) : Eff 4675611066766 s (s.lostRun e l) := by
  induction l generalizing s with
  | nil => unfold State.lostRun; exact (State.setNotices_eff _ _ _).mono rfl
  | cons x q ih =>
    unfold State.lostRun
    split
    · exact (ih _).step rfl ((State.echoNotice_eff _ _ _ _).mono rfl)
    · exact (State.setNotices_eff _ _ _).mono rfl

theorem State.echoRun_eff (s : State) (e : Nat) (forced : Nat) : Eff 4675611066766 s (State.echoRun s e forced) := by
  unfold State.echoRun
  with_reducible repeat' first | assumption | exact Eff.refl _ _ | refine (State.echoNotice_eff _ _ _ _).step rfl ?_ | refine (State.lostRun_eff _ _ _).step rfl ?_ | refine (State.setNotices_eff _ _ _).step rfl ?_ | refine Eff.ite ?_ ?_ | split | dsimp only

end Sys2Proof.Machine
end

