-- ==== Sys2Proof/Laws/EffSpnOps.lean ====
section
/-! SUPPORT. What every operation of Machine/SpnOps.lean may change, and that it keeps the canonical forms and lowers no rising counter (Effect.lean). -/

namespace Sys2Proof.Machine

theorem State.applySteps_eff (s : State) (k : Nat) : Eff 4675611066380 s (State.applySteps s k) := by
  unfold State.applySteps
  with_reducible repeat' first | assumption | exact Eff.refl _ _ | refine (State.echoComplete_eff _ _).step rfl ?_ | refine (State.set_eff _ _ _).step rfl ?_ | refine Eff.ite ?_ ?_ | split | dsimp only

theorem State.gateList_eff (s : State) (x1 : List Nat) : Eff 268435460 s (State.gateList s x1) := by
  induction x1 generalizing s with
  | nil => exact Eff.refl _ _
  | cons y ys ih =>
    unfold State.gateList
    with_reducible repeat' first | assumption | exact Eff.refl _ _ | refine (ih _).step rfl ?_ | refine (State.set_eff _ _ _).step rfl ?_ | refine Eff.ite ?_ ?_ | split | refine Eff.upd_spn ?_ rfl | dsimp only

theorem State.pllsIdle_eff (s : State) : Eff 4 s (State.pllsIdle s) := by
  unfold State.pllsIdle
  with_reducible repeat' first | assumption | exact Eff.refl _ _ | refine (State.set_eff _ _ _).step rfl ?_ | refine Eff.ite ?_ ?_ | split | dsimp only

theorem State.gateIdle_eff (s : State) : Eff 268435460 s (State.gateIdle s) := by
  unfold State.gateIdle
  with_reducible repeat' first | assumption | exact Eff.refl _ _ | refine (State.gateList_eff _ _).step rfl ?_ | refine (State.pllsIdle_eff _).step rfl ?_ | refine (State.seasonUpdate_eff _).step rfl ?_ | refine Eff.ite ?_ ?_ | split | dsimp only

theorem State.taskDone_eff (s : State) (k : Nat) : Eff 4675879501836 s (State.taskDone s k) := by
  unfold State.taskDone
  with_reducible repeat' first | assumption | exact Eff.refl _ _ | refine (State.applySteps_eff _ _).step rfl ?_ | refine (State.gateIdle_eff _).step rfl ?_ | refine (State.jobEnd_eff _ _).step rfl ?_ | refine Eff.ite ?_ ?_ | split | refine Eff.upd_spn ?_ rfl | dsimp only

theorem State.warm_eff (s : State) (r : Nat) : Eff 1099834589196 s (State.warm s r) := by
  unfold State.warm
  with_reducible repeat' first | assumption | exact Eff.refl _ _ | refine (State.chainsReady_eff _ _).step rfl ?_ | refine (State.codeLoad_eff _ _).step rfl ?_ | refine (State.fillParams_eff _ _).step rfl ?_ | refine (State.freshBlocks_eff _ _).step rfl ?_ | refine (State.loadBlocks_eff _ _).step rfl ?_ | refine Eff.ite ?_ ?_ | split | refine Eff.upd_spn ?_ rfl | dsimp only

theorem State.thaw_eff (s : State) (u : Nat) : Eff 5775445655564 s (State.thaw s u) := by
  unfold State.thaw
  with_reducible repeat' first | assumption | exact Eff.refl _ _ | refine (State.regionWritten_eff _ _).step rfl ?_ | refine (State.set_eff _ _ _).step rfl ?_ | refine (State.warm_eff _ _).step rfl ?_ | refine Eff.ite ?_ ?_ | split | refine Eff.upd_spn ?_ rfl | dsimp only

theorem State.thawList_eff (s : State) (x1 : List Nat) : Eff 5775445655564 s (State.thawList s x1) := by
  induction x1 generalizing s with
  | nil => exact Eff.refl _ _
  | cons y ys ih =>
    unfold State.thawList
    with_reducible repeat' first | assumption | exact Eff.refl _ _ | refine (ih _).step rfl ?_ | refine (State.thaw_eff _ _).step rfl ?_ | refine Eff.ite ?_ ?_ | split | dsimp only

theorem State.thaws_eff (s : State) (us : List Nat) : Eff 5775445655564 s (State.thaws s us) := by
  unfold State.thaws
  with_reducible repeat' first | assumption | exact Eff.refl _ _ | refine (State.seasonUpdate_eff _).step rfl ?_ | refine (State.thawList_eff _ _).step rfl ?_ | refine Eff.ite ?_ ?_ | split | refine Eff.upd_spn ?_ rfl | dsimp only

theorem State.admitted_eff (s : State) (k : Nat) (j : Job) : Eff 5775512764428 s (State.admitted s k j) := by
  unfold State.admitted
  with_reducible repeat' first | assumption | exact Eff.refl _ _ | refine (State.jobSet_eff _ _ _).step rfl ?_ | refine (State.jobShow_eff _ _).step rfl ?_ | refine (State.streamNote_eff _ _ _ _ _ _).step rfl ?_ | refine (State.thaws_eff _ _).step rfl ?_ | refine Eff.ite ?_ ?_ | split | refine Eff.upd_spn ?_ rfl | dsimp only

theorem State.stepsShow_eff (s : State) (old new cause : Nat) (l : List Nat) : Eff 4673461485956 s (s.stepsShow old new cause l) := by
  induction l generalizing s with
  | nil => exact Eff.refl _ _
  | cons y ys ih =>
    unfold State.stepsShow
    refine (ih _).step rfl ((State.set_eff _ _ _).step rfl ((State.set_eff _ _ _).step rfl (Eff.foldl (b := s) _ ?_ _ s (Eff.refl 4673461485956 s))))
    intro t x h
    exact Eff.ite ((State.ladderEntry_eff _ _ _ _ _).step rfl h) (Eff.ite ((State.ladderEntry_eff _ _ _ _ _).step rfl h) h)

theorem State.levelSet_eff (s : State) (new : Nat) (cause : Nat) : Eff 4673528594820 s (State.levelSet s new cause) := by
  unfold State.levelSet
  with_reducible repeat' first | assumption | exact Eff.refl _ _ | refine (State.intervalNote_eff _ _).step rfl ?_ | refine (State.set_eff _ _ _).step rfl ?_ | refine (State.stepsShow_eff _ _ _ _ _).step rfl ?_ | refine Eff.ite ?_ ?_ | split | dsimp only

theorem State.stepsApply_eff (s : State) (k : Nat) (n : Nat) : Eff 4675879501836 s (State.stepsApply s k n) := by
  unfold State.stepsApply
  with_reducible repeat' first | assumption | exact Eff.refl _ _ | refine (State.applySteps_eff _ _).step rfl ?_ | refine Eff.ite ?_ ?_ | split | refine Eff.upd_spn ?_ rfl | dsimp only

theorem State.turnedAway_eff (s : State) (k : Nat) (n : Nat) (cause : Nat) : Eff 4675978068364 s (State.turnedAway s k n cause) := by
  unfold State.turnedAway
  with_reducible repeat' first | assumption | exact Eff.refl _ _ | refine (State.gateIdle_eff _).step rfl ?_ | refine (State.jobEnd_eff _ _).step rfl ?_ | refine (State.releaseLost_eff _ _ _ _).step rfl ?_ | refine Eff.ite ?_ ?_ | split | refine Eff.upd_spn ?_ rfl | dsimp only

theorem State.decide__eff (s : State) (k : Nat) (n : Nat) (ta : Nat) (x4 : Nat) : Eff 5775512764812 s (State.decide_ s k n ta x4) := by
  induction x4 generalizing s k n ta with
  | zero => exact Eff.refl _ _
  | succ y ih =>
    unfold State.decide_
    with_reducible repeat' first | assumption | exact Eff.refl _ _ | refine (ih _ _ _ _).step rfl ?_ | refine (State.admitted_eff _ _ _).step rfl ?_ | refine (State.jobEnd_eff _ _).step rfl ?_ | refine (State.levelSet_eff _ _ _).step rfl ?_ | refine (State.sat_eff _ _ _).step rfl ?_ | refine (State.stepsApply_eff _ _ _).step rfl ?_ | refine (State.turnedAway_eff _ _ _ _).step rfl ?_ | refine Eff.ite ?_ ?_ | split | refine Eff.upd_spn ?_ rfl | dsimp only

theorem State.heatRise_eff (s : State) : Eff 4673797030276 s (State.heatRise s) := by
  unfold State.heatRise
  with_reducible repeat' first | assumption | exact Eff.refl _ _ | refine (State.levelSet_eff _ _ _).step rfl ?_ | refine Eff.ite ?_ ?_ | split | refine Eff.upd_spn ?_ rfl | dsimp only

theorem State.demandShow_eff (s : State) : Eff 4 s (State.demandShow s) := by
  unfold State.demandShow
  with_reducible repeat' first | assumption | exact Eff.refl _ _ | refine (State.set_eff _ _ _).step rfl ?_ | refine Eff.ite ?_ ?_ | split | dsimp only

theorem State.envelope_eff (s : State) : Eff 4673528594820 s (State.envelope s) := by
  unfold State.envelope
  with_reducible repeat' first | assumption | exact Eff.refl _ _ | refine (State.demandShow_eff _).step rfl ?_ | refine (State.levelSet_eff _ _ _).step rfl ?_ | refine Eff.ite ?_ ?_ | split | dsimp only

theorem State.levelFall_eff (s : State) : Eff 4673797030278 s (State.levelFall s) := by
  unfold State.levelFall
  with_reducible repeat' first | assumption | exact Eff.refl _ _ | refine (State.free_eff _).step rfl ?_ | refine (State.levelSet_eff _ _ _).step rfl ?_ | refine Eff.ite ?_ ?_ | split | refine Eff.upd_spn ?_ rfl | dsimp only

end Sys2Proof.Machine
end

