-- ==== Sys2Proof/Laws/EffDue.lean ====
section
/-! SUPPORT. What every operation of Machine/Due.lean may change, and that it keeps the canonical forms and lowers no rising counter (Effect.lean). -/

namespace Sys2Proof.Machine

theorem State.afterReplay_eff (s : State) (p : Nat) (k : Nat) : Eff 5775510667660 s (State.afterReplay s p k) := by
  unfold State.afterReplay
  with_reducible repeat' first | assumption | exact Eff.refl _ _ | refine (State.isolate_eff _ _ _ _).step rfl ?_ | refine Eff.ite ?_ ?_ | split | refine Eff.upd_flt ?_ rfl | dsimp only

theorem State.commitEnd_eff (s : State) (p : Nat) (l : CommitLog) : Eff 5775512764812 s (State.commitEnd s p l) := by
  unfold State.commitEnd
  with_reducible repeat' first | assumption | exact Eff.refl _ _ | refine (State.afterReplay_eff _ _ _).step rfl ?_ | refine (State.logApply_eff _ _).step rfl ?_ | refine (State.pairStop_eff _ _).step rfl ?_ | refine (State.taskDone_eff _ _).step rfl ?_ | refine Eff.ite ?_ ?_ | split | dsimp only

theorem State.commitsDue_eff (s : State) (x1 : List Nat) : Eff 5775512764812 s (State.commitsDue s x1) := by
  induction x1 generalizing s with
  | nil => exact Eff.refl _ _
  | cons y ys ih =>
    unfold State.commitsDue
    with_reducible repeat' first | assumption | exact Eff.refl _ _ | refine (ih _).step rfl ?_ | refine (State.commitEnd_eff _ _ _).step rfl ?_ | refine Eff.ite ?_ ?_ | split | dsimp only

theorem State.settle_eff (s : State) : Eff 5775521153420 s (State.settle s) := by
  unfold State.settle
  with_reducible repeat' first | assumption | exact Eff.refl _ _ | refine (State.blocksDue_eff _ _).step rfl ?_ | refine (State.commitsDue_eff _ _).step rfl ?_ | refine (State.restartsDue_eff _ _).step rfl ?_ | refine (State.stuckDue_eff _ _).step rfl ?_ | refine (State.swapsDue_eff _ _).step rfl ?_ | refine (State.warmsDue_eff _ _).step rfl ?_ | refine (State.windowsDue_eff _ _).step rfl ?_ | refine Eff.ite ?_ ?_ | split | dsimp only

end Sys2Proof.Machine
end

