-- ==== Sys2Proof/Laws/EffChains.lean ====
section
/-! SUPPORT. What every operation of Machine/Chains.lean may change, and that it keeps the canonical forms and lowers no rising counter (Effect.lean). -/

namespace Sys2Proof.Machine

theorem execCoefSwap_eff (target : Nat) (trig : Nat) (s : State) : OutEff 16777220 s (execCoefSwap target trig s) := by
  unfold execCoefSwap
  with_reducible repeat' first | refine OutEff.guard ?_ | refine OutEff.next ?_ | assumption | exact Eff.refl _ _ | refine (State.swapRequest_eff _ _ _).step rfl ?_ | refine Eff.ite ?_ ?_ | split | dsimp only

theorem State.lineFault_eff (s : State) (c : Nat) (a : Nat) : Eff 5775510667660 s (State.lineFault s c a) := by
  unfold State.lineFault
  with_reducible repeat' first | assumption | exact Eff.refl _ _ | refine (State.blockFault_eff _ _ _ _).step rfl ?_ | refine (State.eccUncorr_eff _ _ _ _).step rfl ?_ | refine Eff.ite ?_ ?_ | split | dsimp only

theorem State.sampleShow_eff (s : State) (c : Nat) (fl : Nat) (last : Nat) (ovf : Nat) (run : Nat) : Eff 4673461485572 s (State.sampleShow s c fl last ovf run) := by
  unfold State.sampleShow
  with_reducible repeat' first | assumption | exact Eff.refl _ _ | refine (State.chainFlag_eff _ _ _ _).step rfl ?_ | refine (State.frozenShow_eff _ _).step rfl ?_ | refine (State.sat_eff _ _ _).step rfl ?_ | refine (State.set_eff _ _ _).step rfl ?_ | refine (State.setB_eff _ _ _).step rfl ?_ | refine Eff.ite ?_ ?_ | split | dsimp only

theorem State.echoFilter_eff (s : State) (lane : Nat) (codes : List Int) (bad : List (Nat × Nat)) (lates : List Nat) : Eff 5775510667660 s (State.echoFilter s lane codes bad lates).1 := by
  unfold State.echoFilter
  with_reducible repeat' first | assumption | exact Eff.refl _ _ | refine (State.blockFault_eff _ _ _ _).step rfl ?_ | refine (State.frozenShow_eff _ _).step rfl ?_ | refine (State.lineFault_eff _ _ _).step rfl ?_ | refine (State.parList_eff _ _ _ _ _).step rfl ?_ | refine (State.sampleShow_eff _ _ _ _ _ _).step rfl ?_ | refine (State.set_eff _ _ _).step rfl ?_ | refine Eff.ite ?_ ?_ | split | refine Eff.upd_fabric ?_ rfl | dsimp only

theorem State.chainsShift_eff (s : State) (e : Int) (e1 : Int) : Eff 20971520 s (State.chainsShift s e e1) := by
  unfold State.chainsShift
  with_reducible repeat' first | assumption | exact Eff.refl _ _ | refine Eff.ite ?_ ?_ | split | refine Eff.upd_front_fabric ?_ rfl rfl  | refine Eff.upd_front ?_ rfl | refine Eff.upd_fabric ?_ rfl | dsimp only

theorem State.sampleEnd_eff (s : State) (c : Nat) (w : Nat) (x0 : Chain) (x : Chain) (y : Int) (fl : Nat) (late : Bool) (bad : List (Nat × Nat)) : Eff 5775510667660 s (State.sampleEnd s c w x0 x y fl late bad) := by
  unfold State.sampleEnd
  with_reducible repeat' first | assumption | exact Eff.refl _ _ | refine (State.blockFault_eff _ _ _ _).step rfl ?_ | refine (State.chainRecord_eff _ _ _ _ _ _ _ _).step rfl ?_ | refine (State.parList_eff _ _ _ _ _).step rfl ?_ | refine (State.rampShow_eff _).step rfl ?_ | refine (State.sampleShow_eff _ _ _ _ _ _).step rfl ?_ | refine (State.setChain_eff _ _ _).step rfl ?_ | refine Eff.ite ?_ ?_ | split | dsimp only

theorem State.frontBits_eff (s : State) (n : Nat) (a : Int) (bits : List Bool) (marks : List (Nat × Nat)) : Eff 4673465679876 s (State.frontBits s n a bits marks).1 := by
  unfold State.frontBits
  with_reducible repeat' first | assumption | exact Eff.refl _ _ | refine (State.sdRaise_eff _ _ _).step rfl ?_ | refine Eff.ite ?_ ?_ | split | refine Eff.upd_front ?_ rfl | dsimp only

theorem State.frontTrim_eff (s : State) : Eff 4194304 s (State.frontTrim s) := by
  unfold State.frontTrim
  with_reducible repeat' first | assumption | exact Eff.refl _ _ | refine Eff.ite ?_ ?_ | split | refine Eff.upd_front ?_ rfl | dsimp only

theorem State.sampleFeed_eff (s : State) (c : Nat) (x0 : Chain) (bits : List Bool) (marks bad : List (Nat × Nat)) (late : Nat) : Eff 5776729112972 s (s.sampleFeed c x0 bits marks bad late) := by
  have hf : ∀ src a bs ms, Eff 5776729112972 s (s.frontBits src a bs ms).1 := fun _ _ _ _ => (State.frontBits_eff _ _ _ _ _).mono rfl
  have hs : ∀ u n, Eff 5776729112972 s u → Eff 5776729112972 s (u.advanceTo n).settle := fun _ _ h => (State.settle_eff _).step rfl ((State.advanceTo_eff _ _).step rfl h)
  have hm : ∀ u n, Eff 5776729112972 s u → Eff 5776729112972 s (u.markReach n) := fun _ _ h => (State.markReach_eff _ _).step rfl h
  have hx : ∀ u c n x y m fl l bad, Eff 5776729112972 s u → Eff 5776729112972 s (u.sampleEnd c n x y m fl l bad) := fun _ _ _ _ _ _ _ _ _ h => (State.sampleEnd_eff _ _ _ _ _ _ _ _ _).step rfl h
  have hc : ∀ u c x, Eff 5776729112972 s u → Eff 5776729112972 s (u.setChain c x) := fun _ _ _ h => (State.setChain_eff _ _ _).step rfl h
  have ht : ∀ u, Eff 5776729112972 s u → Eff 5776729112972 s u.frontTrim := fun _ h => (State.frontTrim_eff _).step rfl h
  have hi : ∀ (p : Prop) [Decidable p] u n, Eff 5776729112972 s u → Eff 5776729112972 s (if p then u.markReach n else u) := fun _ _ _ _ h => Eff.ite (hm _ _ h) h
  unfold State.sampleFeed
  refine ht _ ?_
  split
  · exact hx _ _ _ _ _ _ _ _ _ (hi _ _ _ (hs _ _ (hf _ _ _ _)))
  · exact hc _ _ _ (hi _ _ _ (hs _ _ (hf _ _ _ _)))

theorem State.sampleAt_eff (s : State) (c : Nat) (x0 : Chain) (bits : List Bool) (marks bad : List (Nat × Nat)) (late : Nat) : Eff 5776729112972 s (s.sampleAt c x0 bits marks bad late) := by
  unfold State.sampleAt
  split
  · exact (State.lineFault_eff _ _ _).step rfl ((State.settle_eff _).mono rfl)
  · exact (State.sampleFeed_eff _ _ _ _ _ _ _).mono rfl

theorem State.chainsHold_eff (s : State) (n : Nat) (e : Nat) (on : Bool) : Eff 16777220 s (State.chainsHold s n e on) := by
  unfold State.chainsHold
  with_reducible repeat' first | assumption | exact Eff.refl _ _ | refine (State.frozenShows_eff _ _).step rfl ?_ | refine Eff.ite ?_ ?_ | split | refine Eff.upd_fabric ?_ rfl | dsimp only

theorem execSwapTakeEffect_eff (target : Nat) (s : State) : OutEff 5775655371148 s (execSwapTakeEffect target s) := by
  unfold execSwapTakeEffect
  with_reducible repeat' first | refine OutEff.guard ?_ | refine OutEff.next ?_ | assumption | exact Eff.refl _ _ | refine (State.advanceTo_eff _ _).step rfl ?_ | refine (State.settle_eff _).step rfl ?_ | refine Eff.ite ?_ ?_ | split | dsimp only

theorem State.chainMatch_eff (s : State) (c : Nat) (e : Nat) : Eff 4673478262788 s (State.chainMatch s c e) := by
  unfold State.chainMatch
  with_reducible repeat' first | assumption | exact Eff.refl _ _ | refine (State.chainFlag_eff _ _ _ _).step rfl ?_ | refine (State.setChain_eff _ _ _).step rfl ?_ | refine Eff.ite ?_ ?_ | split | dsimp only

theorem State.chainMatches_eff (s : State) (n : Nat) (e : Nat) (x3 : List Nat) : Eff 4673482457092 s (State.chainMatches s n e x3) := by
  induction x3 generalizing s n e with
  | nil => exact Eff.refl _ _
  | cons y ys ih =>
    unfold State.chainMatches
    with_reducible repeat' first | assumption | exact Eff.refl _ _ | refine (ih _ _ _).step rfl ?_ | refine (State.chainMatch_eff _ _ _).step rfl ?_ | refine (State.chainStart_eff _ _ _).step rfl ?_ | refine Eff.ite ?_ ?_ | split | dsimp only

theorem State.swapsMatch_eff (s : State) (n : Nat) (tm : Nat) : Eff 16777216 s (State.swapsMatch s n tm) := by
  unfold State.swapsMatch
  with_reducible repeat' first | assumption | exact Eff.refl _ _ | refine Eff.ite ?_ ?_ | split | refine Eff.upd_fabric ?_ rfl | dsimp only

theorem execCoefLoad_eff (block : Nat) (bank : Nat) (cut : Bool) (s : State) : OutEff 16777220 s (execCoefLoad block bank cut s) := by
  unfold execCoefLoad
  with_reducible repeat' first | refine OutEff.guard ?_ | refine OutEff.next ?_ | assumption | exact Eff.refl _ _ | refine (State.coefLoad_eff _ _ _ _).step rfl ?_ | refine Eff.ite ?_ ?_ | split | dsimp only

theorem State.sampleRun_eff (s : State) (c : Nat) (x0 : Chain) (bits : List Bool) (marks bad : List (Nat × Nat)) (late : Nat) : Eff 5776729112972 s (s.sampleRun c x0 bits marks bad late) := by
  unfold State.sampleRun
  exact (State.sampleAt_eff _ _ _ _ _ _ _).step rfl ((State.advanceTo_eff _ _).mono rfl)

theorem execChainSampleWrite_eff (c : Nat) (bits : List Bool) (marks : List (Nat × Nat)) (bad : List (Nat × Nat)) (late : Nat) (s : State) : OutEff 5776729112972 s (execChainSampleWrite c bits marks bad late s) := by
  unfold execChainSampleWrite
  with_reducible repeat' first | refine OutEff.guard ?_ | refine OutEff.next ?_ | assumption | exact Eff.refl _ _ | refine (State.sampleRun_eff _ _ _ _ _ _ _).step rfl ?_ | refine Eff.ite ?_ ?_ | split | dsimp only

end Sys2Proof.Machine
end

