-- ==== Sys2Proof/Laws/EffAcoustic.lean ====
section
/-! SUPPORT. What every operation of Machine/Acoustic.lean may change, and that it keeps the canonical forms and lowers no rising counter (Effect.lean). -/

namespace Sys2Proof.Machine

theorem State.acqClear_eff (s : State) (value : Word) : Eff 4 s (State.acqClear s value) := by
  unfold State.acqClear
  with_reducible repeat' first | assumption | exact Eff.refl _ _ | refine (State.setW_eff _ _ _).step rfl ?_ | refine Eff.ite ?_ ?_ | split | dsimp only

theorem State.laneRampStep_eff (s : State) (kind : Nat) (lane : Nat) : Eff 1073741828 s (State.laneRampStep s kind lane) := by
  unfold State.laneRampStep
  with_reducible repeat' first | assumption | exact Eff.refl _ _ | refine (State.markReach_eff _ _).step rfl ?_ | refine (State.setI_eff _ _ _).step rfl ?_ | refine Eff.ite ?_ ?_ | split | refine Eff.upd_cal ?_ rfl | dsimp only

theorem State.seqsClose_eff (s : State) (lane : Nat) : Eff 1048580 s (State.seqsClose s lane) := by
  unfold State.seqsClose
  with_reducible repeat' first | assumption | exact Eff.refl _ _ | refine (State.seqShow_eff _).step rfl ?_ | refine Eff.ite ?_ ?_ | split | refine Eff.upd_acq ?_ rfl | dsimp only

theorem execCaptureWindowClose_eff (lane : Nat) (samples : List (BitVec 14)) (bad : List (Nat × Nat)) (lates : List Nat) (s : State) : OutEff 5776730161548 s (execCaptureWindowClose lane samples bad lates s) := by
  unfold execCaptureWindowClose
  with_reducible repeat' first | refine OutEff.guard ?_ | refine OutEff.next ?_ | assumption | exact Eff.refl _ _ | refine (State.advanceTo_eff _ _).step rfl ?_ | refine (State.deliver_eff _ _ _).step rfl ?_ | refine (State.echoFilter_eff _ _ _ _ _).step rfl ?_ | refine (State.heal_eff _ _ _).step rfl ?_ | refine (State.laneRampStep_eff _ _ _).step rfl ?_ | refine (State.rampShow_eff _).step rfl ?_ | refine (State.sat_eff _ _ _).step rfl ?_ | refine (State.seqsClose_eff _ _).step rfl ?_ | refine (State.set_eff _ _ _).step rfl ?_ | refine (State.setLane_eff _ _ _).step rfl ?_ | refine (State.settle_eff _).step rfl ?_ | refine (State.stBytes_eff _ _ _).step rfl ?_ | refine Eff.ite ?_ ?_ | split | dsimp only

theorem State.fireSkip_eff (s : State) (q : ShotSeq) (k : Nat) (r : Nat) : Eff 4675611066380 s (State.fireSkip s q k r) := by
  unfold State.fireSkip
  with_reducible repeat' first | assumption | exact Eff.refl _ _ | refine (State.deliver_eff _ _ _).step rfl ?_ | refine (State.sat_eff _ _ _).step rfl ?_ | refine (State.set_eff _ _ _).step rfl ?_ | refine Eff.ite ?_ ?_ | split | dsimp only

theorem State.burst_eff (s : State) (k : Nat) (tx : Nat) : Eff 1048576 s (State.burst s k tx) := by
  unfold State.burst
  with_reducible repeat' first | assumption | exact Eff.refl _ _ | refine Eff.ite ?_ ?_ | split | refine Eff.upd_acq ?_ rfl | dsimp only

theorem State.chReserve_eff (s : State) (k : Nat) (ch : Nat) (t : Nat) : Eff 1048576 s (State.chReserve s k ch t) := by
  unfold State.chReserve
  with_reducible repeat' first | assumption | exact Eff.refl _ _ | refine Eff.ite ?_ ?_ | split | refine Eff.upd_acq ?_ rfl | dsimp only

theorem State.fireShot_eff (s : State) (q : ShotSeq) (k : Nat) : Eff 1048580 s (State.fireShot s q k) := by
  unfold State.fireShot
  with_reducible repeat' first | assumption | exact Eff.refl _ _ | refine (State.burst_eff _ _ _).step rfl ?_ | refine (State.chReserve_eff _ _ _ _).step rfl ?_ | refine (State.set_eff _ _ _).step rfl ?_ | refine (State.setLane_eff _ _ _).step rfl ?_ | refine Eff.ite ?_ ?_ | split | dsimp only

theorem execFiring_eff (seq : Nat) (s : State) : OutEff 5775656419724 s (execFiring seq s) := by
  unfold execFiring
  with_reducible repeat' first | refine OutEff.guard ?_ | refine OutEff.next ?_ | assumption | exact Eff.refl _ _ | refine (State.advanceTo_eff _ _).step rfl ?_ | refine (State.fireShot_eff _ _ _).step rfl ?_ | refine (State.fireSkip_eff _ _ _ _).step rfl ?_ | refine (State.seqPut_eff _ _ _).step rfl ?_ | refine (State.settle_eff _).step rfl ?_ | refine Eff.ite ?_ ?_ | split | dsimp only

theorem execAcqClr_eff (value : Word) (s : State) : OutEff 4 s (execAcqClr value s) := by
  unfold execAcqClr
  with_reducible repeat' first | refine OutEff.guard ?_ | refine OutEff.next ?_ | assumption | exact Eff.refl _ _ | refine (State.acqClear_eff _ _).step rfl ?_ | refine Eff.ite ?_ ?_ | split | dsimp only

theorem execCrosspointConnect_eff (lane : Nat) (s : State) : OutEff 5775655371148 s (execCrosspointConnect lane s) := by
  unfold execCrosspointConnect
  with_reducible repeat' first | refine OutEff.guard ?_ | refine OutEff.next ?_ | assumption | exact Eff.refl _ _ | refine (State.advanceTo_eff _ _).step rfl ?_ | refine (State.settle_eff _).step rfl ?_ | refine Eff.ite ?_ ?_ | split | dsimp only

end Sys2Proof.Machine
end

