-- ==== Sys2Proof/Laws/EffCtlOps.lean ====
section
/-! SUPPORT. What every operation of Machine/CtlOps.lean may change, and that it keeps the canonical forms and lowers no rising counter (Effect.lean). -/

namespace Sys2Proof.Machine

theorem State.ctlPut_eff (s : State) (p : Nat) (gen : Nat) (v : CtlVal) (bad : Bool) : Eff 8796093038600 s (State.ctlPut s p gen v bad) := by
  unfold State.ctlPut
  with_reducible repeat' first | assumption | exact Eff.refl _ _ | refine (State.stBytes_eff _ _ _).step rfl ?_ | refine (State.wipe_eff _ _ _).step rfl ?_ | refine Eff.ite ?_ ?_ | split | refine Eff.upd_hflash_ctl ?_ rfl rfl  | refine Eff.upd_hflash ?_ rfl | refine Eff.upd_ctl ?_ rfl | dsimp only

theorem State.ctlWrite_eff (s : State) (p : Nat) (v : CtlVal) : Eff 8796093038600 s (State.ctlWrite s p v) := by
  unfold State.ctlWrite
  with_reducible repeat' first | assumption | exact Eff.refl _ _ | refine (State.ctlPut_eff _ _ _ _ _).step rfl ?_ | refine Eff.ite ?_ ?_ | split | dsimp only

theorem State.frontAppend_eff (s : State) (data : List Byte) : Eff 8796093038600 s (State.frontAppend s data) := by
  unfold State.frontAppend
  with_reducible repeat' first | assumption | exact Eff.refl _ _ | refine (State.ctlWrite_eff _ _ _).step rfl ?_ | refine Eff.ite ?_ ?_ | split | dsimp only

theorem State.calStore_eff (s : State) : Eff 8796093038600 s (State.calStore s) := by
  unfold State.calStore
  with_reducible repeat' first | assumption | exact Eff.refl _ _ | refine (State.ctlWrite_eff _ _ _).step rfl ?_ | refine Eff.ite ?_ ?_ | split | dsimp only

end Sys2Proof.Machine
end

