-- ==== Sys2Proof/Laws/EffAuditOps.lean ====
section
/-! SUPPORT. What every operation of Machine/AuditOps.lean may change, and that it keeps the canonical forms and lowers no rising counter (Effect.lean). -/

namespace Sys2Proof.Machine

theorem State.auditEntry_eff (s : State) (kind : Nat) (ev : AuditEvent) (data : List Byte) (bad : Bool) : Eff 4673461485964 s (State.auditEntry s kind ev data bad) := by
  unfold State.auditEntry
  with_reducible repeat' first | assumption | exact Eff.refl _ _ | refine (State.ringPut_eff _ _ _ _ _ _).step rfl ?_ | refine (State.stBytes_eff _ _ _).step rfl ?_ | refine Eff.ite ?_ ?_ | split | refine Eff.upd_audit ?_ rfl (by simp) | dsimp only

theorem State.auditConts_eff (s : State) (ev : AuditEvent) (x2 : List (List Byte)) : Eff 4673461485964 s (State.auditConts s ev x2) := by
  induction x2 generalizing s ev with
  | nil => exact Eff.refl _ _
  | cons y ys ih =>
    unfold State.auditConts
    with_reducible repeat' first | assumption | exact Eff.refl _ _ | refine (ih _ _).step rfl ?_ | refine (State.auditEntry_eff _ _ _ _ _).step rfl ?_ | refine Eff.ite ?_ ?_ | split | dsimp only

theorem State.auditProgram_eff (s : State) (ev : AuditEvent) : Eff 13469554524556 s (State.auditProgram s ev) := by
  unfold State.auditProgram
  with_reducible repeat' first | assumption | exact Eff.refl _ _ | refine (State.auditConts_eff _ _ _).step rfl ?_ | refine (State.auditEntry_eff _ _ _ _ _).step rfl ?_ | refine (State.frontAppend_eff _ _).step rfl ?_ | refine Eff.ite ?_ ?_ | split | dsimp only

theorem State.auditNow_eff (s : State) (kind : Nat) (stream : Nat) (data : List Byte) : Eff 13469554524556 s (State.auditNow s kind stream data) := by
  unfold State.auditNow
  with_reducible repeat' first | assumption | exact Eff.refl _ _ | refine (State.auditLost_eff _).step rfl ?_ | refine (State.auditProgram_eff _ _).step rfl ?_ | refine (State.auditRelevel_eff _).step rfl ?_ | refine Eff.ite ?_ ?_ | split | dsimp only

theorem State.auditCommitQueue_eff (s : State) (n : Nat) (l : List AuditEvent) : Eff 13469554524556 s (s.auditCommitQueue n l) := by
  induction l generalizing s n with
  | nil => unfold State.auditCommitQueue; exact Eff.upd_audit (Eff.refl _ _) rfl (Nat.le_refl _)
  | cons e es ih =>
    unfold State.auditCommitQueue
    split
    · exact (ih _ _).step rfl ((State.auditProgram_eff _ _).mono rfl)
    · exact (State.sat_eff _ _ _).step rfl (Eff.upd_audit (Eff.refl _ _) rfl (Nat.le_refl _))

theorem State.auditPrograms_eff (s : State) (x1 : List AuditEvent) : Eff 13469554524556 s (State.auditPrograms s x1) := by
  induction x1 generalizing s with
  | nil => exact Eff.refl _ _
  | cons y ys ih =>
    unfold State.auditPrograms
    with_reducible repeat' first | assumption | exact Eff.refl _ _ | refine (ih _).step rfl ?_ | refine (State.auditProgram_eff _ _).step rfl ?_ | refine Eff.ite ?_ ?_ | split | dsimp only

theorem State.startComplete_eff (s : State) : Eff 13469554524556 s (State.startComplete s) := by
  unfold State.startComplete
  with_reducible repeat' first | assumption | exact Eff.refl _ _ | refine (State.auditPrograms_eff _ _).step rfl ?_ | refine Eff.ite ?_ ?_ | split | refine Eff.upd_audit ?_ rfl (by simp) | dsimp only

end Sys2Proof.Machine
end

