-- ==== Sys2Proof/Laws/EffFlashOps.lean ====
section
/-! SUPPORT. What every operation of Machine/FlashOps.lean may change, and that it keeps the canonical forms and lowers no rising counter (Effect.lean). -/

namespace Sys2Proof.Machine

theorem State.progFail_eff (s : State) (addr : Nat) : Eff 4675608969604 s (State.progFail s addr) := by
  unfold State.progFail
  with_reducible repeat' first | assumption | exact Eff.refl _ _ | refine (State.fault_eff _ _ _ _ _).step rfl ?_ | refine (State.set_eff _ _ _).step rfl ?_ | refine Eff.ite ?_ ?_ | split | dsimp only

theorem State.flashShow_eff (s : State) (dom : Nat) : Eff 4 s (State.flashShow s dom) := by
  unfold State.flashShow
  with_reducible repeat' first | assumption | exact Eff.refl _ _ | refine (State.setB_eff _ _ _).step rfl ?_ | refine Eff.ite ?_ ?_ | split | dsimp only

theorem State.setFa_eff (s : State) (dom : Nat) (x : FlashArr) : Eff 49152 s (State.setFa s dom x) := by
  unfold State.setFa
  with_reducible repeat' first | assumption | exact Eff.refl _ _ | refine Eff.ite ?_ ?_ | split | refine Eff.upd_hflash ?_ rfl | refine Eff.upd_sflash ?_ rfl | dsimp only

theorem State.eraseCut_eff (s : State) (dom : Nat) : Eff 49156 s (State.eraseCut s dom) := by
  unfold State.eraseCut
  with_reducible repeat' first | assumption | exact Eff.refl _ _ | refine (State.flashShow_eff _ _).step rfl ?_ | refine (State.setFa_eff _ _ _).step rfl ?_ | refine Eff.ite ?_ ?_ | split | dsimp only

theorem State.relock_eff (s : State) (dom : Nat) : Eff 49152 s (State.relock s dom) := by
  unfold State.relock
  with_reducible repeat' first | assumption | exact Eff.refl _ _ | refine (State.setFa_eff _ _ _).step rfl ?_ | refine Eff.ite ?_ ?_ | split | dsimp only

theorem State.eraseStart_eff (s : State) (dom : Nat) (sector : Nat) (kind : Nat) (device : Bool) (dense : Bool) : Eff 49156 s (State.eraseStart s dom sector kind device dense) := by
  unfold State.eraseStart
  with_reducible repeat' first | assumption | exact Eff.refl _ _ | refine (State.flashShow_eff _ _).step rfl ?_ | refine (State.setFa_eff _ _ _).step rfl ?_ | refine Eff.ite ?_ ?_ | split | dsimp only

theorem State.eraseNext_eff (s : State) (dom : Nat) : Eff 49156 s (State.eraseNext s dom) := by
  unfold State.eraseNext
  with_reducible repeat' first | assumption | exact Eff.refl _ _ | refine (State.eraseStart_eff _ _ _ _ _ _).step rfl ?_ | refine (State.setFa_eff _ _ _).step rfl ?_ | refine Eff.ite ?_ ?_ | split | dsimp only

theorem State.eraseWant_eff (s : State) (sector : Nat) : Eff 49156 s (State.eraseWant s sector) := by
  unfold State.eraseWant
  with_reducible repeat' first | assumption | exact Eff.refl _ _ | refine (State.eraseNext_eff _ _).step rfl ?_ | refine Eff.ite ?_ ?_ | split | refine Eff.upd_hflash ?_ rfl | dsimp only

theorem State.commitAhead_eff (s : State) : Eff 49156 s (State.commitAhead s) := by
  unfold State.commitAhead
  with_reducible repeat' first | assumption | exact Eff.refl _ _ | refine (State.eraseWant_eff _ _).step rfl ?_ | refine Eff.ite ?_ ?_ | split | dsimp only

theorem State.dropErased_eff (s : State) (sector : Nat) : Eff 67108992 s (State.dropErased s sector) := by
  unfold State.dropErased
  with_reducible repeat' first | assumption | exact Eff.refl _ _ | refine Eff.ite ?_ ?_ | split | refine Eff.upd_audit ?_ rfl (by simp) | refine Eff.upd_recs ?_ rfl ⟨by simp,by simp⟩ | dsimp only

theorem State.sectorErased_eff (s : State) (dom : Nat) (sector : Nat) (seq : Nat) : Eff 67158152 s (State.sectorErased s dom sector seq) := by
  unfold State.sectorErased
  with_reducible repeat' first | assumption | exact Eff.refl _ _ | refine (State.dropErased_eff _ _).step rfl ?_ | refine (State.setFa_eff _ _ _).step rfl ?_ | refine (State.wipe_eff _ _ _).step rfl ?_ | refine Eff.ite ?_ ?_ | split | dsimp only

theorem State.sectorsErased_eff (s : State) (dom : Nat) (seq : Nat) (x3 : List Nat) : Eff 67158152 s (State.sectorsErased s dom seq x3) := by
  induction x3 generalizing s dom seq with
  | nil => exact Eff.refl _ _
  | cons y ys ih =>
    unfold State.sectorsErased
    with_reducible repeat' first | assumption | exact Eff.refl _ _ | refine (ih _ _ _).step rfl ?_ | refine (State.sectorErased_eff _ _ _ _).step rfl ?_ | refine Eff.ite ?_ ?_ | split | dsimp only

theorem State.repairOne_eff (s : State) (dom : Nat) (e : JEntry) : Eff 67158152 s (State.repairOne s dom e) := by
  unfold State.repairOne
  with_reducible repeat' first | assumption | exact Eff.refl _ _ | refine (State.sectorsErased_eff _ _ _ _).step rfl ?_ | refine (State.setFa_eff _ _ _).step rfl ?_ | refine Eff.ite ?_ ?_ | split | dsimp only

theorem State.repairList_eff (s : State) (dom : Nat) (x2 : List JEntry) (x3 : Nat) : Eff 67158152 s (State.repairList s dom x2 x3).1 := by
  induction x2 generalizing s dom x3 with
  | nil => exact Eff.refl _ _
  | cons y ys ih =>
    unfold State.repairList
    with_reducible repeat' first | assumption | exact Eff.refl _ _ | refine (ih _ _ _).step rfl ?_ | refine (State.repairOne_eff _ _ _).step rfl ?_ | refine Eff.ite ?_ ?_ | split | dsimp only

theorem State.repair_eff (s : State) (dom : Nat) : Eff 67158152 s (State.repair s dom).1 := by
  unfold State.repair
  with_reducible repeat' first | assumption | exact Eff.refl _ _ | refine (State.repairList_eff _ _ _ _).step rfl ?_ | refine Eff.ite ?_ ?_ | split | dsimp only

theorem State.eraseDone_eff (s : State) (dom : Nat) (e : Erase) : Eff 67158156 s (State.eraseDone s dom e) := by
  unfold State.eraseDone
  with_reducible repeat' first | assumption | exact Eff.refl _ _ | refine (State.commitAhead_eff _).step rfl ?_ | refine (State.eraseNext_eff _ _).step rfl ?_ | refine (State.flashShow_eff _ _).step rfl ?_ | refine (State.sectorsErased_eff _ _ _ _).step rfl ?_ | refine (State.setFa_eff _ _ _).step rfl ?_ | refine Eff.ite ?_ ?_ | split | dsimp only

theorem State.eraseSync_eff (s : State) (sector : Nat) : Eff 67158152 s (State.eraseSync s sector) := by
  unfold State.eraseSync
  with_reducible repeat' first | assumption | exact Eff.refl _ _ | refine (State.sectorErased_eff _ _ _ _).step rfl ?_ | refine Eff.ite ?_ ?_ | split | refine Eff.upd_hflash ?_ rfl | dsimp only

theorem State.erasesSync_eff (s : State) (sector : Nat) (x2 : Nat) : Eff 67158152 s (State.erasesSync s sector x2) := by
  induction x2 generalizing s sector with
  | zero => exact Eff.refl _ _
  | succ y ih =>
    unfold State.erasesSync
    with_reducible repeat' first | assumption | exact Eff.refl _ _ | refine (ih _ _).step rfl ?_ | refine (State.eraseSync_eff _ _).step rfl ?_ | refine Eff.ite ?_ ?_ | split | dsimp only

end Sys2Proof.Machine
end

