-- ==== Sys2Proof/Laws/EffControl.lean ====
section
/-! SUPPORT. What every operation of Machine/Control.lean may change, and that it keeps the canonical forms and lowers no rising counter (Effect.lean). -/

namespace Sys2Proof.Machine

theorem State.ctlTry_eff (s : State) (p : Nat) (v : CtlVal) (gen k f : Nat) : Eff 13471702008204 s (s.ctlTry p v gen k f).1 := by
  induction k generalizing s gen f with
  | zero => unfold State.ctlTry; exact Eff.refl _ _
  | succ k ih =>
    cases f with
    | zero => unfold State.ctlTry; exact (State.ctlPut_eff _ _ _ _ _).mono rfl
    | succ f => unfold State.ctlTry; exact (ih _ _ _).step rfl ((State.progFail_eff _ _).step rfl ((State.ctlPut_eff _ _ _ _ _).mono rfl))

theorem State.ctlWrites_eff (s : State) (p : Nat) (v : CtlVal) (fails : Nat) : Eff 13471702008204 s (State.ctlWrites s p v fails).1 := by
  unfold State.ctlWrites
  with_reducible repeat' first | assumption | exact Eff.refl _ _ | refine (State.ctlTry_eff _ _ _ _ _ _).step rfl ?_ | refine Eff.ite ?_ ?_ | split | dsimp only

theorem State.auditCtlCopy_eff (s : State) (fails : Nat) : Eff 13471702008204 s (State.auditCtlCopy s fails) := by
  unfold State.auditCtlCopy
  with_reducible repeat' first | assumption | exact Eff.refl _ _ | refine (State.ctlWrites_eff _ _ _ _).step rfl ?_ | refine Eff.ite ?_ ?_ | split | refine Eff.upd_audit ?_ rfl (by simp) | dsimp only

theorem State.keysWrite_eff (s : State) (ks : List KeySlot) : Eff 8796093041672 s (s.keysWrite ks) := by
  unfold State.keysWrite
  refine Eff.upd_keys_keysGen ((State.ctlWrite_eff _ _ _).mono rfl) rfl rfl ?_
  rw [(State.ctlWrite_eff _ _ _).keysGen rfl]
  exact Nat.le_succ _

theorem State.auditCtlDue_eff (s : State) : Eff 128 s (State.auditCtlDue s) := by
  unfold State.auditCtlDue
  with_reducible repeat' first | assumption | exact Eff.refl _ _ | refine Eff.ite ?_ ?_ | split | refine Eff.upd_audit ?_ rfl (by simp) | dsimp only

theorem State.selWrite_eff (s : State) (w : SelWord) : Eff 8796093042696 s (State.selWrite s w) := by
  unfold State.selWrite
  with_reducible repeat' first | assumption | exact Eff.refl _ _ | refine (State.ctlPut_eff _ _ _ _ _).step rfl ?_ | refine Eff.ite ?_ ?_ | split | refine Eff.upd_sel ?_ rfl | dsimp only

theorem State.auditOverflow_eff (s : State) : Eff 13469554524556 s (State.auditOverflow s) := by
  unfold State.auditOverflow
  with_reducible repeat' first | assumption | exact Eff.refl _ _ | refine (State.auditLost_eff _).step rfl ?_ | refine (State.auditProgram_eff _ _).step rfl ?_ | refine (State.set_eff _ _ _).step rfl ?_ | refine Eff.ite ?_ ?_ | split | dsimp only

theorem State.clearEnd_eff (s : State) : Eff 13469554525068 s (State.clearEnd s) := by
  unfold State.clearEnd
  with_reducible repeat' first | assumption | exact Eff.refl _ _ | refine (State.auditCtlDue_eff _).step rfl ?_ | refine (State.auditOverflow_eff _).step rfl ?_ | refine (State.auditRelevel_eff _).step rfl ?_ | refine (State.result_eff _ _ _ _ _).step rfl ?_ | refine Eff.ite ?_ ?_ | split | refine Eff.upd_gw ?_ rfl | dsimp only

theorem State.eraseWants_eff (s : State) (x1 : List Nat) : Eff 49156 s (State.eraseWants s x1) := by
  induction x1 generalizing s with
  | nil => exact Eff.refl _ _
  | cons y ys ih =>
    unfold State.eraseWants
    with_reducible repeat' first | assumption | exact Eff.refl _ _ | refine (ih _).step rfl ?_ | refine (State.eraseWant_eff _ _).step rfl ?_ | refine Eff.ite ?_ ?_ | split | dsimp only

theorem State.ctlShow_eff (s : State) (x1 : CtlVal) : Eff 1077949632 s (State.ctlShow s x1) := by
  unfold State.ctlShow
  with_reducible repeat' first | assumption | exact Eff.refl _ _ | refine Eff.ite ?_ ?_ | split | refine Eff.upd_sel ?_ rfl | refine Eff.upd_sealc ?_ rfl (by simp <;> omega) | refine Eff.upd_front ?_ rfl | refine Eff.upd_cal ?_ rfl | refine Eff.upd_audit ?_ rfl (by simp) | refine Eff.upd_params ?_ rfl | refine Eff.upd_keys ?_ rfl | dsimp only

theorem State.ctlNone_eff (s : State) (p : Nat) : Eff 1077949632 s (State.ctlNone s p) := by
  unfold State.ctlNone
  with_reducible repeat' first | assumption | exact Eff.refl _ _ | refine (State.ctlShow_eff _ _).step rfl ?_ | refine Eff.ite ?_ ?_ | split | refine Eff.upd_sel ?_ rfl | refine Eff.upd_sealc ?_ rfl (by simp <;> omega) | refine Eff.upd_front ?_ rfl | dsimp only

theorem State.ctlLoad_eff (s : State) (x1 : List Nat) : Eff 1077949632 s (State.ctlLoad s x1) := by
  induction x1 generalizing s with
  | nil => exact Eff.refl _ _
  | cons y ys ih =>
    unfold State.ctlLoad
    with_reducible repeat' first | assumption | exact Eff.refl _ _ | refine (ih _).step rfl ?_ | refine (State.ctlNone_eff _ _).step rfl ?_ | refine (State.ctlShow_eff _ _).step rfl ?_ | refine Eff.ite ?_ ?_ | split | dsimp only

theorem State.ctlCut_eff (s : State) (p : Nat) : Eff 8796093038592 s (State.ctlCut s p) := by
  unfold State.ctlCut
  with_reducible repeat' first | assumption | exact Eff.refl _ _ | refine Eff.ite ?_ ?_ | split | refine Eff.upd_hflash_ctl ?_ rfl rfl  | refine Eff.upd_hflash ?_ rfl | refine Eff.upd_ctl ?_ rfl | dsimp only

end Sys2Proof.Machine
end

