-- ==== Sys2Proof/Laws/EffResetOps.lean ====
section
/-! SUPPORT. What every operation of Machine/ResetOps.lean may change, and that it keeps the canonical forms and lowers no rising counter (Effect.lean). -/

namespace Sys2Proof.Machine

theorem State.commitCut_eff (s : State) : Eff 67108872 s s.commitCut := by
  unfold State.commitCut
  split
  · refine Eff.upd_recs ((State.stB_eff _ _ _).mono rfl) rfl ⟨?_, ?_⟩ <;> rw [(State.stB_eff _ _ _).recs rfl] <;> exact Nat.le_refl _
  · exact Eff.refl _ _

theorem State.commitSuspend_eff (s : State) : Eff 16388 s (State.commitSuspend s) := by
  unfold State.commitSuspend
  with_reducible repeat' first | assumption | exact Eff.refl _ _ | refine (State.flashShow_eff _ _).step rfl ?_ | refine Eff.ite ?_ ?_ | split | refine Eff.upd_hflash ?_ rfl | dsimp only

theorem State.lanesOff_eff (s : State) (x1 : List Nat) : Eff 4 s (State.lanesOff s x1) := by
  induction x1 generalizing s with
  | nil => exact Eff.refl _ _
  | cons y ys ih =>
    unfold State.lanesOff
    with_reducible repeat' first | assumption | exact Eff.refl _ _ | refine (ih _).step rfl ?_ | refine (State.set_eff _ _ _).step rfl ?_ | refine Eff.ite ?_ ?_ | split | dsimp only

theorem State.firingStops_eff (s : State) : Eff 1048580 s (State.firingStops s) := by
  unfold State.firingStops
  with_reducible repeat' first | assumption | exact Eff.refl _ _ | refine (State.lanesOff_eff _ _).step rfl ?_ | refine (State.set_eff _ _ _).step rfl ?_ | refine Eff.ite ?_ ?_ | split | refine Eff.upd_acq ?_ rfl | dsimp only

theorem State.gateForCommit_eff (s : State) : Eff 268435460 s (State.gateForCommit s) := by
  unfold State.gateForCommit
  with_reducible repeat' first | assumption | exact Eff.refl _ _ | refine (State.set_eff _ _ _).step rfl ?_ | refine Eff.ite ?_ ?_ | split | refine Eff.upd_spn ?_ rfl | dsimp only

theorem State.jobsHalt_eff (s : State) (x1 : List (Nat × Job)) : Eff 4675978068364 s (State.jobsHalt s x1) := by
  induction x1 generalizing s with
  | nil => exact Eff.refl _ _
  | cons y ys ih =>
    unfold State.jobsHalt
    with_reducible repeat' first | assumption | exact Eff.refl _ _ | refine (ih _).step rfl ?_ | refine (State.jobEnd_eff _ _).step rfl ?_ | refine (State.releaseLost_eff _ _ _ _).step rfl ?_ | refine Eff.ite ?_ ?_ | split | dsimp only

theorem State.jobsStop_eff (s : State) : Eff 4675978068364 s (State.jobsStop s) := by
  unfold State.jobsStop
  with_reducible repeat' first | assumption | exact Eff.refl _ _ | refine (State.jobsHalt_eff _ _).step rfl ?_ | refine Eff.ite ?_ ?_ | split | dsimp only

theorem State.logsEnd_eff (s : State) (x1 : List Nat) : Eff 4675978068364 s (State.logsEnd s x1) := by
  induction x1 generalizing s with
  | nil => exact Eff.refl _ _
  | cons y ys ih =>
    unfold State.logsEnd
    with_reducible repeat' first | assumption | exact Eff.refl _ _ | refine (ih _).step rfl ?_ | refine (State.logApply_eff _ _).step rfl ?_ | refine (State.logJobEnd_eff _ _).step rfl ?_ | refine Eff.ite ?_ ?_ | split | dsimp only

theorem State.pairsStop_eff (s : State) (x1 : List Nat) : Eff 1099545182220 s (State.pairsStop s x1) := by
  induction x1 generalizing s with
  | nil => exact Eff.refl _ _
  | cons y ys ih =>
    unfold State.pairsStop
    with_reducible repeat' first | assumption | exact Eff.refl _ _ | refine (ih _).step rfl ?_ | refine (State.pairStop_eff _ _).step rfl ?_ | refine Eff.ite ?_ ?_ | split | dsimp only

theorem State.powerFailStep_eff (s : State) (us : Nat) (mv : Nat) (cut : Bool) : Eff 14571583783308 s (State.powerFailStep s us mv cut) := by
  unfold State.powerFailStep
  with_reducible repeat' first | assumption | exact Eff.refl _ _ | refine (State.auditCommitQueue_eff _ _ _).step rfl ?_ | refine (State.auditCtlCopy_eff _ _).step rfl ?_ | refine (State.auditNow_eff _ _ _ _).step rfl ?_ | refine (State.commitCut_eff _).step rfl ?_ | refine (State.commitSuspend_eff _).step rfl ?_ | refine (State.firingStops_eff _).step rfl ?_ | refine (State.gateForCommit_eff _).step rfl ?_ | refine (State.intervalNote_eff _ _).step rfl ?_ | refine (State.jobsStop_eff _).step rfl ?_ | refine (State.logsEnd_eff _ _).step rfl ?_ | refine (State.pairsStop_eff _ _).step rfl ?_ | refine (State.set_eff _ _ _).step rfl ?_ | refine (State.totCommit_eff _ _).step rfl ?_ | refine Eff.ite ?_ ?_ | split | refine Eff.upd_recs_spn ?_ rfl rfl  ⟨by simp,by simp⟩ | refine Eff.upd_recs ?_ rfl ⟨by simp,by simp⟩ | refine Eff.upd_spn ?_ rfl | dsimp only

theorem State.safeSet_eff (s : State) (cause : Nat) : Eff 4675676078084 s (State.safeSet s cause) := by
  unfold State.safeSet
  with_reducible repeat' first | assumption | exact Eff.refl _ _ | refine (State.icSample_eff _ _ _).step rfl ?_ | refine (State.intervalNote_eff _ _).step rfl ?_ | refine (State.set_eff _ _ _).step rfl ?_ | refine Eff.ite ?_ ?_ | split | refine Eff.upd_flt ?_ rfl | dsimp only

theorem State.startNoImage_eff (s : State) : Eff 13471769117100 s (State.startNoImage s) := by
  unfold State.startNoImage
  with_reducible repeat' first | assumption | exact Eff.refl _ _ | refine (State.safeSet_eff _ _).step rfl ?_ | refine (State.set_eff _ _ _).step rfl ?_ | refine (State.startComplete_eff _).step rfl ?_ | refine Eff.ite ?_ ?_ | split | refine Eff.upd_boot ?_ rfl | dsimp only

theorem State.bootFault_eff (s : State) : Eff 13471830983084 s (State.bootFault s) := by
  unfold State.bootFault
  with_reducible repeat' first | assumption | exact Eff.refl _ _ | refine (State.set_eff _ _ _).step rfl ?_ | refine (State.startNoImage_eff _).step rfl ?_ | refine Eff.ite ?_ ?_ | split | refine Eff.upd_acq_echo_pulse_fabric_pairs ?_ rfl rfl rfl rfl rfl  | refine Eff.upd_boot ?_ rfl | refine Eff.upd_acq ?_ rfl | refine Eff.upd_echo ?_ rfl | refine Eff.upd_pulse ?_ rfl | refine Eff.upd_fabric ?_ rfl | refine Eff.upd_pairs ?_ rfl | dsimp only

theorem State.clearHeartwood_eff (s : State) : Eff 21465708954536 s s.clearHeartwood := by
  unfold State.clearHeartwood dropCells
  constructor <;> first | exact Nat.le_refl _ | (intro h; first | rfl | exact absurd h (by decide) | exact ⟨spWf_filter _ h.1, h.2⟩)

theorem State.hostDrop_eff (s : State) : Eff 137438953476 s (State.hostDrop s) := by
  unfold State.hostDrop
  with_reducible repeat' first | assumption | exact Eff.refl _ _ | refine (State.set_eff _ _ _).step rfl ?_ | refine Eff.ite ?_ ?_ | split | refine Eff.upd_host ?_ rfl | dsimp only

theorem State.resetH_eff (s : State) (cause rail : Nat) (commit : Bool) : Eff 21603147957164 s (s.resetH cause rail commit) := by
  have key : ∀ t : State, Eff 21603147957164 s t → Eff 21603147957164 s { t with regs := regsClass keepsH t.regs } := fun t h => Eff.upd_regs h rfl (regsClass_wf _)
  unfold State.resetH
  repeat' first
    | (with_reducible assumption)
    | (with_reducible exact Eff.refl _ _)
    | (with_reducible refine (State.set_eff _ _ _).step rfl ?_)
    | (with_reducible refine (State.setB_eff _ _ _).step rfl ?_)
    | (with_reducible refine (State.hostDrop_eff _).step rfl ?_)
    | (with_reducible refine (State.syncLost_eff _).step rfl ?_)
    | (with_reducible refine (State.clearHeartwood_eff _).step rfl ?_)
    | (with_reducible refine (State.relock_eff _ _).step rfl ?_)
    | (with_reducible refine (State.eraseCut_eff _ _).step rfl ?_)
    | (with_reducible refine Eff.ite ?_ ?_)
    | (with_reducible apply key)

theorem State.resetHCommit_eff (s : State) (cause : Nat) (us : Nat) (mv : Nat) : Eff 35072702399404 s (State.resetHCommit s cause us mv) := by
  unfold State.resetHCommit
  with_reducible repeat' first | assumption | exact Eff.refl _ _ | refine (State.powerFailStep_eff _ _ _ _).step rfl ?_ | refine (State.resetH_eff _ _ _ _).step rfl ?_ | refine Eff.ite ?_ ?_ | split | dsimp only

theorem State.enterSafe_eff (s : State) (cause : Nat) : Eff 35072702399406 s (State.enterSafe s cause) := by
  unfold State.enterSafe
  with_reducible repeat' first | assumption | exact Eff.refl _ _ | refine (State.bootFault_eff _).step rfl ?_ | refine (State.free_eff _).step rfl ?_ | refine (State.resetHCommit_eff _ _ _ _).step rfl ?_ | refine (State.safeSet_eff _ _).step rfl ?_ | refine Eff.ite ?_ ?_ | split | dsimp only

theorem State.clearSapwood_eff (s : State) : Eff 4935454949384 s s.clearSapwood := by
  unfold State.clearSapwood dropCells
  constructor <;> first | exact Nat.le_refl _ | (intro h; first | rfl | exact absurd h (by decide) | exact ⟨spWf_filter _ h.1, h.2⟩)

theorem State.gwDiscard_eff (s : State) : Eff 516 s (State.gwDiscard s) := by
  unfold State.gwDiscard
  with_reducible repeat' first | assumption | exact Eff.refl _ _ | refine (State.set_eff _ _ _).step rfl ?_ | refine Eff.ite ?_ ?_ | split | refine Eff.upd_gw ?_ rfl | dsimp only

theorem State.resetS_eff (s : State) (cause : Nat) : Eff 4935454999052 s (s.resetS cause) := by
  have key : ∀ t : State, Eff 4935454999052 s t → Eff 4935454999052 s { t with regs := regsClass keepsS t.regs } := fun t h => Eff.upd_regs h rfl (regsClass_wf _)
  unfold State.resetS
  repeat' first
    | (with_reducible assumption)
    | (with_reducible exact Eff.refl _ _)
    | (with_reducible refine (State.seasonUpdate_eff _).step rfl ?_)
    | (with_reducible refine (State.set_eff _ _ _).step rfl ?_)
    | (with_reducible refine (State.clearSapwood_eff _).step rfl ?_)
    | (with_reducible refine (State.gwDiscard_eff _).step rfl ?_)
    | (with_reducible refine (State.relock_eff _ _).step rfl ?_)
    | (with_reducible refine (State.eraseCut_eff _ _).step rfl ?_)
    | (with_reducible apply key)

theorem State.powerFailCommit_eff (s : State) (us : Nat) (mv : Nat) : Eff 14571583783308 s (State.powerFailCommit s us mv) := by
  unfold State.powerFailCommit
  with_reducible repeat' first | assumption | exact Eff.refl _ _ | refine (State.powerFailStep_eff _ _ _ _).step rfl ?_ | refine Eff.ite ?_ ?_ | split | dsimp only

theorem State.resetP_eff (s : State) : Eff 131941395317740 s s.resetP := by
  unfold State.resetP
  refine (State.set_eff _ _ _).step rfl ((State.setB_eff _ _ _).step rfl ?_)
  have h0 : Eff 131941395317740 s ((((s.eraseCut 0).relock 0).eraseCut 1).relock 1) :=
    (State.relock_eff _ _).step rfl ((State.eraseCut_eff _ _).step rfl ((State.relock_eff _ _).step rfl ((State.eraseCut_eff _ _).mono rfl)))
  have e : ((((s.eraseCut 0).relock 0).eraseCut 1).relock 1).sealc.fuses = s.sealc.fuses := by
    rw [(State.relock_eff _ _).sealc rfl, (State.eraseCut_eff _ _).sealc rfl, (State.relock_eff _ _).sealc rfl, (State.eraseCut_eff _ _).sealc rfl]
  have wf : Regs.wf State.reset.regs = true := by decide
  generalize (((s.eraseCut 0).relock 0).eraseCut 1).relock 1 = t at h0 e
  refine Eff.step (g := 131941395317740) (s := t) ?_ rfl h0
  constructor <;> first
    | exact Nat.le_refl _
    | exact Nat.le_of_eq e
    | (intro h; first | exact absurd h (by decide) | rfl | exact ⟨spWf_filter _ h.1, wf⟩ | exact h)

theorem State.commitResume_eff (s : State) : Eff 16388 s (State.commitResume s) := by
  unfold State.commitResume
  with_reducible repeat' first | assumption | exact Eff.refl _ _ | refine (State.flashShow_eff _ _).step rfl ?_ | refine Eff.ite ?_ ?_ | split | refine Eff.upd_hflash ?_ rfl | dsimp only

end Sys2Proof.Machine
end

