-- ==== Sys2Proof/Laws/EffAudit.lean ====
section
/-! SUPPORT. What every operation of Machine/Audit.lean may change, and that it keeps the canonical forms and lowers no rising counter (Effect.lean). -/

namespace Sys2Proof.Machine

theorem execAuditControlRecordCopy_eff (fails : Nat) (s : State) : OutEff 35072702399406 s (execAuditControlRecordCopy fails s) := by
  unfold execAuditControlRecordCopy
  with_reducible repeat' first | refine OutEff.guard ?_ | refine OutEff.next ?_ | assumption | exact Eff.refl _ _ | refine (State.auditCtlCopy_eff _ _).step rfl ?_ | refine (State.ctlWrites_eff _ _ _ _).step rfl ?_ | refine (State.enterSafe_eff _ _).step rfl ?_ | refine Eff.ite ?_ ?_ | split | refine Eff.upd_audit ?_ rfl (by simp) | dsimp only

theorem State.auditTry_eff (s : State) (ev : AuditEvent) (k f : Nat) : Eff 35072702399406 s (s.auditTry ev k f) := by
  have hp : ∀ (t : State) (e : AuditEvent), Eff 35072702399406 s t → Eff 35072702399406 s (t.auditProgram e) := fun t e h => (State.auditProgram_eff t e).step rfl h
  have hl : ∀ t : State, Eff 35072702399406 s t → Eff 35072702399406 s t.auditLost := fun t h => (State.auditLost_eff t).step rfl h
  have hs : ∀ t : State, Eff 35072702399406 s t → Eff 35072702399406 s (t.enterSafe 3) := fun t h => (State.enterSafe_eff t 3).step rfl h
  induction k generalizing s f with
  | zero =>
    cases f with
    | zero => unfold State.auditTry; exact Eff.ite (hp _ _ (Eff.refl _ _)) (hl _ (Eff.refl _ _))
    | succ f => unfold State.auditTry; exact hs _ (hl _ (Eff.refl _ _))
  | succ k ih =>
    cases f with
    | zero => unfold State.auditTry; exact Eff.ite (hp _ _ (Eff.refl _ _)) (hl _ (Eff.refl _ _))
    | succ f =>
      unfold State.auditTry
      refine Eff.ite ?_ (hl _ (Eff.refl _ _))
      extract_lets q t u
      have hu : Eff 35072702399406 s u := (State.auditNow_eff _ _ _ _).step rfl ((State.progFail_eff _ _).step rfl ((State.auditEntry_eff _ _ _ _ _).mono rfl))
      refine Eff.ite (hs _ (hl _ hu)) ((ih u f ?_ ?_ ?_).step rfl hu)
      · exact fun t e h => (State.auditProgram_eff t e).step rfl h
      · exact fun t h => (State.auditLost_eff t).step rfl h
      · exact fun t h => (State.enterSafe_eff t 3).step rfl h

theorem execAuditEntryProgram_eff (fails : Nat) (s : State) : OutEff 35072702399406 s (execAuditEntryProgram fails s) := by
  unfold execAuditEntryProgram
  with_reducible repeat' first | refine OutEff.guard ?_ | refine OutEff.next ?_ | assumption | exact Eff.refl _ _ | refine (State.auditRelevel_eff _).step rfl ?_ | refine (State.auditTry_eff _ _ _ _).step rfl ?_ | refine Eff.ite ?_ ?_ | split | refine Eff.upd_audit ?_ rfl (by simp) | dsimp only

end Sys2Proof.Machine
end

