-- ==== Sys2Proof/Laws/EffBusOps.lean ====
section
/-! SUPPORT. What every operation of Machine/BusOps.lean may change, and that it keeps the canonical forms and lowers no rising counter (Effect.lean). -/

namespace Sys2Proof.Machine

theorem State.busMem_eff (s : State) (dom : Nat) (master : Nat) (addr : Nat) (bs : List Byte) : Eff 1376537018376 s (State.busMem s dom master addr bs) := by
  unfold State.busMem
  with_reducible repeat' first | assumption | exact Eff.refl _ _ | refine (State.heal_eff _ _ _).step rfl ?_ | refine (State.snapDrop_eff _ _ _).step rfl ?_ | refine (State.stBytes_eff _ _ _).step rfl ?_ | refine Eff.ite ?_ ?_ | split | refine Eff.upd_cores ?_ rfl | dsimp only

theorem State.busStore_eff (s : State) (dom : Nat) (master : Nat) (addr : Nat) (bs : List Byte) : Eff 5775510667660 s (State.busStore s dom master addr bs).1 := by
  unfold State.busStore
  with_reducible repeat' first | assumption | exact Eff.refl _ _ | refine (State.busError_eff _ _ _ _ _ _).step rfl ?_ | refine (State.busMem_eff _ _ _ _ _).step rfl ?_ | refine (State.eccSeen_eff _ _).step rfl ?_ | refine Eff.ite ?_ ?_ | split | dsimp only

theorem State.busLoad_eff (s : State) (dom : Nat) (master : Nat) (addr : Nat) (n : Nat) : Eff 4673461485574 s (State.busLoad s dom master addr n).1 := by
  unfold State.busLoad
  with_reducible repeat' first | assumption | exact Eff.refl _ _ | refine (State.busError_eff _ _ _ _ _ _).step rfl ?_ | refine Eff.ite ?_ ?_ | split | refine Eff.upd_freeCtr ?_ rfl (by simp) | dsimp only

theorem State.busWords_eff (s : State) (dom : Nat) (master : Nat) (addr : Nat) (x4 : List Word) : Eff 5775510667660 s (State.busWords s dom master addr x4).1 := by
  induction x4 generalizing s dom master addr with
  | nil => exact Eff.refl _ _
  | cons y ys ih =>
    unfold State.busWords
    with_reducible repeat' first | assumption | exact Eff.refl _ _ | refine (ih _ _ _ _).step rfl ?_ | refine (State.busStore_eff _ _ _ _ _).step rfl ?_ | refine Eff.ite ?_ ?_ | split | dsimp only

end Sys2Proof.Machine
end

