-- ==== Sys2Proof/Laws/EffTwoWire.lean ====
section
/-! SUPPORT. What every operation of Machine/TwoWire.lean may change, and that it keeps the canonical forms and lowers no rising counter (Effect.lean). -/

namespace Sys2Proof.Machine

theorem State.auxOn_eff (s : State) : Eff 4 s (State.auxOn s) := by
  unfold State.auxOn
  with_reducible repeat' first | assumption | exact Eff.refl _ _ | refine (State.set_eff _ _ _).step rfl ?_ | refine Eff.ite ?_ ?_ | split | dsimp only

theorem State.setTwp_eff (s : State) (n : Nat) (x : TwPort) : Eff 4294967296 s (State.setTwp s n x) := by
  unfold State.setTwp
  with_reducible repeat' first | assumption | exact Eff.refl _ _ | refine Eff.ite ?_ ?_ | split | refine Eff.upd_tw ?_ rfl | dsimp only

theorem State.twClock_eff (s : State) (n : Nat) : Eff 4294967296 s (State.twClock s n) := by
  unfold State.twClock
  with_reducible repeat' first | assumption | exact Eff.refl _ _ | refine (State.setTwp_eff _ _ _).step rfl ?_ | refine Eff.ite ?_ ?_ | split | dsimp only

theorem State.twCmdFields_eff (s : State) (n : Nat) (v : Nat) : Eff 4 s (State.twCmdFields s n v) := by
  unfold State.twCmdFields
  with_reducible repeat' first | assumption | exact Eff.refl _ _ | refine (State.set_eff _ _ _).step rfl ?_ | refine Eff.ite ?_ ?_ | split | dsimp only

theorem State.twIrq_eff (s : State) (n : Nat) : Eff 4673461485572 s (State.twIrq s n) := by
  unfold State.twIrq
  with_reducible repeat' first | assumption | exact Eff.refl _ _ | refine (State.icSample_eff _ _ _).step rfl ?_ | refine Eff.ite ?_ ?_ | split | dsimp only

theorem State.twFlag_eff (s : State) (n : Nat) (f : Fld) : Eff 4673461485572 s (State.twFlag s n f) := by
  unfold State.twFlag
  with_reducible repeat' first | assumption | exact Eff.refl _ _ | refine (State.set_eff _ _ _).step rfl ?_ | refine (State.twIrq_eff _ _).step rfl ?_ | refine Eff.ite ?_ ?_ | split | dsimp only

theorem State.twCmd_eff (s : State) (n : Nat) (v : Nat) : Eff 4677756452868 s (State.twCmd s n v) := by
  unfold State.twCmd
  with_reducible repeat' first | assumption | exact Eff.refl _ _ | refine (State.auxOn_eff _).step rfl ?_ | refine (State.set_eff _ _ _).step rfl ?_ | refine (State.setTwp_eff _ _ _).step rfl ?_ | refine (State.twClock_eff _ _).step rfl ?_ | refine (State.twCmdFields_eff _ _ _).step rfl ?_ | refine (State.twFlag_eff _ _ _).step rfl ?_ | refine Eff.ite ?_ ?_ | split | dsimp only

theorem State.twEnd_eff (s : State) (n : Nat) (res : Nat) : Eff 4677756452870 s (State.twEnd s n res) := by
  unfold State.twEnd
  with_reducible repeat' first | assumption | exact Eff.refl _ _ | refine (State.set_eff _ _ _).step rfl ?_ | refine (State.setTwp_eff _ _ _).step rfl ?_ | refine (State.twIrq_eff _ _).step rfl ?_ | refine Eff.ite ?_ ?_ | split | refine Eff.upd_freeCtr ?_ rfl (by simp) | dsimp only

theorem State.twTx_eff (s : State) (n : Nat) (v : Nat) : Eff 4677756452868 s (State.twTx s n v) := by
  unfold State.twTx
  with_reducible repeat' first | assumption | exact Eff.refl _ _ | refine (State.set_eff _ _ _).step rfl ?_ | refine (State.setTwp_eff _ _ _).step rfl ?_ | refine (State.twFlag_eff _ _ _).step rfl ?_ | refine Eff.ite ?_ ?_ | split | dsimp only

theorem execTwGo_eff (n : Nat) (value : Word) (s : State) : OutEff 4677756452868 s (execTwGo n value s) := by
  unfold execTwGo
  with_reducible repeat' first | refine OutEff.guard ?_ | refine OutEff.next ?_ | assumption | exact Eff.refl _ _ | refine (State.twCmd_eff _ _ _).step rfl ?_ | refine Eff.ite ?_ ?_ | split | dsimp only

theorem State.twKeep_eff (s : State) (n : Nat) (bs : List Byte) : Eff 4294967296 s (State.twKeep s n bs) := by
  unfold State.twKeep
  with_reducible repeat' first | assumption | exact Eff.refl _ _ | refine (State.setTwp_eff _ _ _).step rfl ?_ | refine Eff.ite ?_ ?_ | split | dsimp only

theorem State.twPos_eff (s : State) (n : Nat) (byte : Nat) (bit : Nat) (kind : Nat) : Eff 4 s (State.twPos s n byte bit kind) := by
  unfold State.twPos
  with_reducible repeat' first | assumption | exact Eff.refl _ _ | refine (State.set_eff _ _ _).step rfl ?_ | refine Eff.ite ?_ ?_ | split | dsimp only

theorem State.twSentTo_eff (s : State) (n : Nat) (k : Nat) : Eff 4294967296 s (State.twSentTo s n k) := by
  unfold State.twSentTo
  with_reducible repeat' first | assumption | exact Eff.refl _ _ | refine (State.setTwp_eff _ _ _).step rfl ?_ | refine Eff.ite ?_ ?_ | split | dsimp only

theorem execTwBusErr_eff (n : Nat) (byte : Nat) (data : List Byte) (s : State) : OutEff 4677756452870 s (execTwBusErr n byte data s) := by
  unfold execTwBusErr
  with_reducible repeat' first | refine OutEff.guard ?_ | refine OutEff.next ?_ | assumption | exact Eff.refl _ _ | refine (State.twEnd_eff _ _ _).step rfl ?_ | refine (State.twKeep_eff _ _ _).step rfl ?_ | refine (State.twPos_eff _ _ _ _ _).step rfl ?_ | refine (State.twSentTo_eff _ _ _).step rfl ?_ | refine Eff.ite ?_ ?_ | split | dsimp only

theorem State.twReset_eff (s : State) (n : Nat) : Eff 4677756452870 s (State.twReset s n) := by
  unfold State.twReset
  with_reducible repeat' first | assumption | exact Eff.refl _ _ | refine (State.setTwp_eff _ _ _).step rfl ?_ | refine (State.twEnd_eff _ _ _).step rfl ?_ | refine Eff.ite ?_ ?_ | split | dsimp only

theorem execSclLowTimeout_eff (n : Nat) (s : State) : OutEff 4677756452870 s (execSclLowTimeout n s) := by
  unfold execSclLowTimeout
  with_reducible repeat' first | refine OutEff.guard ?_ | refine OutEff.next ?_ | assumption | exact Eff.refl _ _ | refine (State.set_eff _ _ _).step rfl ?_ | refine (State.twFlag_eff _ _ _).step rfl ?_ | refine (State.twReset_eff _ _).step rfl ?_ | refine Eff.ite ?_ ?_ | split | dsimp only

theorem State.twPut_eff (s : State) (n : Nat) (bs : List Byte) : Eff 4294967296 s (State.twPut s n bs) := by
  unfold State.twPut
  with_reducible repeat' first | assumption | exact Eff.refl _ _ | refine (State.setTwp_eff _ _ _).step rfl ?_ | refine Eff.ite ?_ ?_ | split | dsimp only

theorem State.twRun_eff (s : State) (n : Nat) (nack : Option Nat) (data : List Byte) : Eff 4677756452870 s (State.twRun s n nack data) := by
  unfold State.twRun
  with_reducible repeat' first | assumption | exact Eff.refl _ _ | refine (State.setTwp_eff _ _ _).step rfl ?_ | refine (State.twEnd_eff _ _ _).step rfl ?_ | refine (State.twPos_eff _ _ _ _ _).step rfl ?_ | refine (State.twPut_eff _ _ _).step rfl ?_ | refine (State.twSentTo_eff _ _ _).step rfl ?_ | refine Eff.ite ?_ ?_ | split | dsimp only

theorem execTwTransferEnd_eff (n : Nat) (nack : Option Nat) (data : List Byte) (s : State) : OutEff 4677756452870 s (execTwTransferEnd n nack data s) := by
  unfold execTwTransferEnd
  with_reducible repeat' first | refine OutEff.guard ?_ | refine OutEff.next ?_ | assumption | exact Eff.refl _ _ | refine (State.twRun_eff _ _ _ _).step rfl ?_ | refine Eff.ite ?_ ?_ | split | dsimp only

theorem State.twRx_eff (s : State) (n : Nat) : Eff 4677756452870 s (State.twRx s n) := by
  unfold State.twRx
  with_reducible repeat' first | assumption | exact Eff.refl _ _ | refine (State.set_eff _ _ _).step rfl ?_ | refine (State.setTwp_eff _ _ _).step rfl ?_ | refine (State.twEnd_eff _ _ _).step rfl ?_ | refine Eff.ite ?_ ?_ | split | dsimp only

theorem execTwRxdata_eff (n : Nat) (s : State) : OutEff 4677756452870 s (execTwRxdata n s) := by
  unfold execTwRxdata
  with_reducible repeat' first | refine OutEff.guard ?_ | refine OutEff.next ?_ | assumption | exact Eff.refl _ _ | refine (State.twRx_eff _ _).step rfl ?_ | refine Eff.ite ?_ ?_ | split | dsimp only

theorem execTwmAddressMatch_eff (read : Bool) (s : State) : OutEff 4682051420164 s (execTwmAddressMatch read s) := by
  unfold execTwmAddressMatch
  with_reducible repeat' first | refine OutEff.guard ?_ | refine OutEff.next ?_ | assumption | exact Eff.refl _ _ | refine (State.icEdge_eff _ _ _).step rfl ?_ | refine (State.set_eff _ _ _).step rfl ?_ | refine (State.wakeSapwood_eff _ _).step rfl ?_ | refine Eff.ite ?_ ?_ | split | refine Eff.upd_twm ?_ rfl | dsimp only

theorem execStretchTimeout_eff (n : Nat) (s : State) : OutEff 4677756452870 s (execStretchTimeout n s) := by
  unfold execStretchTimeout
  with_reducible repeat' first | refine OutEff.guard ?_ | refine OutEff.next ?_ | assumption | exact Eff.refl _ _ | refine (State.set_eff _ _ _).step rfl ?_ | refine (State.twReset_eff _ _).step rfl ?_ | refine Eff.ite ?_ ?_ | split | dsimp only

theorem State.twmPut_eff (s : State) (r : Nat) (b : Byte) (lost : Bool) : Eff 4673461485572 s (State.twmPut s r b lost) := by
  unfold State.twmPut
  with_reducible repeat' first | assumption | exact Eff.refl _ _ | refine (State.set_eff _ _ _).step rfl ?_ | refine (State.wakeSapwood_eff _ _).step rfl ?_ | refine Eff.ite ?_ ?_ | split | dsimp only

theorem State.twmPuts_eff (s : State) (lost : List Nat) (x2 : Nat) (x3 : List Byte) : Eff 4682051420164 s (State.twmPuts s lost x2 x3) := by
  induction x3 generalizing s lost x2 with
  | nil => exact Eff.refl _ _
  | cons y ys ih =>
    unfold State.twmPuts
    with_reducible repeat' first | assumption | exact Eff.refl _ _ | refine (ih _ _ _).step rfl ?_ | refine (State.twmPut_eff _ _ _ _).step rfl ?_ | refine Eff.ite ?_ ?_ | split | refine Eff.upd_twm ?_ rfl | dsimp only

theorem execTwmRead_eff (n : Nat) (s : State) : OutEff 8589934592 s (execTwmRead n s) := by
  unfold execTwmRead
  with_reducible repeat' first | refine OutEff.guard ?_ | refine OutEff.next ?_ | assumption | exact Eff.refl _ _ | refine Eff.ite ?_ ?_ | split | refine Eff.upd_twm ?_ rfl | dsimp only

theorem State.alertLost_eff (s : State) (n : Nat) (byte : Nat) (bit : Nat) : Eff 4677756452870 s (State.alertLost s n byte bit) := by
  unfold State.alertLost
  with_reducible repeat' first | assumption | exact Eff.refl _ _ | refine (State.sat_eff _ _ _).step rfl ?_ | refine (State.set_eff _ _ _).step rfl ?_ | refine (State.setTwp_eff _ _ _).step rfl ?_ | refine (State.twEnd_eff _ _ _).step rfl ?_ | refine (State.twFlag_eff _ _ _).step rfl ?_ | refine (State.twPos_eff _ _ _ _ _).step rfl ?_ | refine Eff.ite ?_ ?_ | split | dsimp only

theorem execArbLost_eff (n : Nat) (byte : Nat) (bit : Nat) (data : List Byte) (s : State) : OutEff 4677756452870 s (execArbLost n byte bit data s) := by
  unfold execArbLost
  with_reducible repeat' first | refine OutEff.guard ?_ | refine OutEff.next ?_ | assumption | exact Eff.refl _ _ | refine (State.alertLost_eff _ _ _ _).step rfl ?_ | refine (State.sat_eff _ _ _).step rfl ?_ | refine (State.setTwp_eff _ _ _).step rfl ?_ | refine (State.twEnd_eff _ _ _).step rfl ?_ | refine (State.twFlag_eff _ _ _).step rfl ?_ | refine (State.twKeep_eff _ _ _).step rfl ?_ | refine (State.twPos_eff _ _ _ _ _).step rfl ?_ | refine (State.twSentTo_eff _ _ _).step rfl ?_ | refine Eff.ite ?_ ?_ | split | dsimp only

theorem execTwmBusErr_eff (s : State) : OutEff 8589934596 s (execTwmBusErr s) := by
  unfold execTwmBusErr
  with_reducible repeat' first | refine OutEff.guard ?_ | refine OutEff.next ?_ | assumption | exact Eff.refl _ _ | refine (State.set_eff _ _ _).step rfl ?_ | refine Eff.ite ?_ ?_ | split | refine Eff.upd_twm ?_ rfl | dsimp only

theorem execSdaLowTimeout_eff (n : Nat) (s : State) : OutEff 4677756452870 s (execSdaLowTimeout n s) := by
  unfold execSdaLowTimeout
  with_reducible repeat' first | refine OutEff.guard ?_ | refine OutEff.next ?_ | assumption | exact Eff.refl _ _ | refine (State.twFlag_eff _ _ _).step rfl ?_ | refine (State.twReset_eff _ _).step rfl ?_ | refine Eff.ite ?_ ?_ | split | dsimp only

theorem execAlertResponseRead_eff (n : Nat) (answer : Option Nat) (first : Bool) (s : State) : OutEff 4677756452868 s (execAlertResponseRead n answer first s) := by
  unfold execAlertResponseRead
  with_reducible repeat' first | refine OutEff.guard ?_ | refine OutEff.next ?_ | assumption | exact Eff.refl _ _ | refine (State.auxOn_eff _).step rfl ?_ | refine (State.set_eff _ _ _).step rfl ?_ | refine (State.setTwp_eff _ _ _).step rfl ?_ | refine (State.twClock_eff _ _).step rfl ?_ | refine (State.twFlag_eff _ _ _).step rfl ?_ | refine Eff.ite ?_ ?_ | split | dsimp only

theorem execTwmAraAnswer_eff (won : Bool) (s : State) : OutEff 4 s (execTwmAraAnswer won s) := by
  unfold execTwmAraAnswer
  with_reducible repeat' first | refine OutEff.guard ?_ | refine OutEff.next ?_ | assumption | exact Eff.refl _ _ | refine (State.set_eff _ _ _).step rfl ?_ | refine Eff.ite ?_ ?_ | split | dsimp only

theorem execTwAbort_eff (n : Nat) (data : List Byte) (s : State) : OutEff 4677756452870 s (execTwAbort n data s) := by
  unfold execTwAbort
  with_reducible repeat' first | refine OutEff.guard ?_ | refine OutEff.next ?_ | assumption | exact Eff.refl _ _ | refine (State.twEnd_eff _ _ _).step rfl ?_ | refine (State.twKeep_eff _ _ _).step rfl ?_ | refine Eff.ite ?_ ?_ | split | dsimp only

theorem execArbitrationRetry_eff (n : Nat) (s : State) : OutEff 4294967296 s (execArbitrationRetry n s) := by
  unfold execArbitrationRetry
  with_reducible repeat' first | refine OutEff.guard ?_ | refine OutEff.next ?_ | assumption | exact Eff.refl _ _ | refine (State.setTwp_eff _ _ _).step rfl ?_ | refine Eff.ite ?_ ?_ | split | dsimp only

theorem execTwmWrite_eff (data : List Byte) (lost : List Nat) (s : State) : OutEff 4682051420164 s (execTwmWrite data lost s) := by
  unfold execTwmWrite
  with_reducible repeat' first | refine OutEff.guard ?_ | refine OutEff.next ?_ | assumption | exact Eff.refl _ _ | refine (State.twmPuts_eff _ _ _ _).step rfl ?_ | refine Eff.ite ?_ ?_ | split | dsimp only

theorem execTwTxdata_eff (n : Nat) (value : Word) (s : State) : OutEff 4677756452868 s (execTwTxdata n value s) := by
  unfold execTwTxdata
  with_reducible repeat' first | refine OutEff.guard ?_ | refine OutEff.next ?_ | assumption | exact Eff.refl _ _ | refine (State.twTx_eff _ _ _).step rfl ?_ | refine Eff.ite ?_ ?_ | split | dsimp only

theorem execRecover_eff (n : Nat) (freed : Bool) (s : State) : OutEff 4673461485572 s (execRecover n freed s) := by
  unfold execRecover
  with_reducible repeat' first | refine OutEff.guard ?_ | refine OutEff.next ?_ | assumption | exact Eff.refl _ _ | refine (State.twFlag_eff _ _ _).step rfl ?_ | refine Eff.ite ?_ ?_ | split | dsimp only

end Sys2Proof.Machine
end

