-- ==== Sys2Proof/Laws/EffEth.lean ====
section
/-! SUPPORT. What every operation of Machine/Eth.lean may change, and that it keeps the canonical forms and lowers no rising counter (Effect.lean). -/

namespace Sys2Proof.Machine

theorem State.ethFlag_eff (s : State) (n : Nat) (f : Fld) : Eff 4673461485572 s (State.ethFlag s n f) := by
  unfold State.ethFlag
  with_reducible repeat' first | assumption | exact Eff.refl _ _ | refine (State.icSample_eff _ _ _).step rfl ?_ | refine (State.set_eff _ _ _).step rfl ?_ | refine Eff.ite ?_ ?_ | split | dsimp only

theorem State.ethStore_eff (s : State) (n : Nat) (a : Nat) (x3 : List Byte) : Eff 5775510667660 s (State.ethStore s n a x3).1 := by
  induction x3 generalizing s n a with
  | nil => exact Eff.refl _ _
  | cons y ys ih =>
    unfold State.ethStore
    with_reducible repeat' first | assumption | exact Eff.refl _ _ | refine (ih _ _ _).step rfl ?_ | refine (State.busStore_eff _ _ _ _ _).step rfl ?_ | refine Eff.ite ?_ ?_ | split | dsimp only

theorem State.ethWord_eff (s : State) (n : Nat) (a : Nat) : Eff 4673461485574 s (State.ethWord s n a).1 := by
  unfold State.ethWord
  with_reducible repeat' first | assumption | exact Eff.refl _ _ | refine (State.busLoad_eff _ _ _ _ _).step rfl ?_ | refine Eff.ite ?_ ?_ | split | dsimp only

theorem State.rxBack_eff (s : State) (n : Nat) (d : Nat) (f : RxFrame) : Eff 5775510667660 s (State.rxBack s n d f).1 := by
  unfold State.rxBack
  with_reducible repeat' first | assumption | exact Eff.refl _ _ | refine (State.busStore_eff _ _ _ _ _).step rfl ?_ | refine Eff.ite ?_ ?_ | split | dsimp only

theorem State.setMac_eff (s : State) (n : Nat) (m : Mac) : Eff 68719476736 s (State.setMac s n m) := by
  unfold State.setMac
  with_reducible repeat' first | assumption | exact Eff.refl _ _ | refine Eff.ite ?_ ?_ | split | refine Eff.upd_mac ?_ rfl | dsimp only

theorem State.rxLook_eff (s : State) (n : Nat) : Eff 4742180962310 s (State.rxLook s n) := by
  unfold State.rxLook
  with_reducible repeat' first | assumption | exact Eff.refl _ _ | refine (State.ethWord_eff _ _ _).step rfl ?_ | refine (State.setMac_eff _ _ _).step rfl ?_ | refine Eff.ite ?_ ?_ | split | dsimp only

theorem State.rxStop_eff (s : State) (n : Nat) : Eff 68719476736 s (State.rxStop s n) := by
  unfold State.rxStop
  with_reducible repeat' first | assumption | exact Eff.refl _ _ | refine (State.setMac_eff _ _ _).step rfl ?_ | refine Eff.ite ?_ ?_ | split | dsimp only

theorem State.ethDeliver_eff (s : State) (n : Nat) (f : RxFrame) : Eff 5844230144398 s (State.ethDeliver s n f) := by
  unfold State.ethDeliver
  with_reducible repeat' first | assumption | exact Eff.refl _ _ | refine (State.ethFlag_eff _ _ _).step rfl ?_ | refine (State.ethStore_eff _ _ _ _).step rfl ?_ | refine (State.ethWord_eff _ _ _).step rfl ?_ | refine (State.rxBack_eff _ _ _ _).step rfl ?_ | refine (State.rxLook_eff _ _).step rfl ?_ | refine (State.rxStop_eff _ _).step rfl ?_ | refine (State.sat_eff _ _ _).step rfl ?_ | refine (State.set_eff _ _ _).step rfl ?_ | refine (State.setMac_eff _ _ _).step rfl ?_ | refine Eff.ite ?_ ?_ | split | dsimp only

theorem State.phyShow_eff (s : State) (n : Nat) (stat : Nat) : Eff 4 s (State.phyShow s n stat) := by
  unfold State.phyShow
  with_reducible repeat' first | assumption | exact Eff.refl _ _ | refine (State.set_eff _ _ _).step rfl ?_ | refine Eff.ite ?_ ?_ | split | dsimp only

theorem execLinkChange_eff (n : Nat) (up : Bool) (stat : Nat) (s : State) : OutEff 4673461485572 s (execLinkChange n up stat s) := by
  unfold execLinkChange
  with_reducible repeat' first | refine OutEff.guard ?_ | refine OutEff.next ?_ | assumption | exact Eff.refl _ _ | refine (State.ethFlag_eff _ _ _).step rfl ?_ | refine (State.phyShow_eff _ _ _).step rfl ?_ | refine (State.setB_eff _ _ _).step rfl ?_ | refine Eff.ite ?_ ?_ | split | dsimp only

theorem State.ethRxctl_eff (s : State) (n : Nat) (v : Nat) : Eff 4742180962310 s (State.ethRxctl s n v) := by
  unfold State.ethRxctl
  with_reducible repeat' first | assumption | exact Eff.refl _ _ | refine (State.rxLook_eff _ _).step rfl ?_ | refine (State.set_eff _ _ _).step rfl ?_ | refine Eff.ite ?_ ?_ | split | dsimp only

theorem execRxctlPoll_eff (n : Nat) (value : Word) (s : State) : OutEff 4742180962310 s (execRxctlPoll n value s) := by
  unfold execRxctlPoll
  with_reducible repeat' first | refine OutEff.guard ?_ | refine OutEff.next ?_ | assumption | exact Eff.refl _ _ | refine (State.ethRxctl_eff _ _ _).step rfl ?_ | refine Eff.ite ?_ ?_ | split | dsimp only

theorem State.ethLoad_eff (s : State) (n a k : Nat) : Eff 4673461485574 s (s.ethLoad n a k).1 := by
  induction k with
  | zero => exact Eff.refl _ _
  | succ k ih =>
    unfold State.ethLoad
    dsimp only
    split
    · exact ih
    · split
      · exact (State.busError_eff _ _ _ _ _ _).step rfl ih
      · split
        · exact Eff.upd_freeCtr ih rfl (Nat.le_add_right _ _)
        · exact ih

theorem State.tsqShow_eff (s : State) (n : Nat) : Eff 4673461485572 s (State.tsqShow s n) := by
  unfold State.tsqShow
  with_reducible repeat' first | assumption | exact Eff.refl _ _ | refine (State.icSample_eff _ _ _).step rfl ?_ | refine (State.set_eff _ _ _).step rfl ?_ | refine Eff.ite ?_ ?_ | split | dsimp only

theorem State.tsqPut_eff (s : State) (n : Nat) (e : Tsq) : Eff 4742180962308 s (State.tsqPut s n e) := by
  unfold State.tsqPut
  with_reducible repeat' first | assumption | exact Eff.refl _ _ | refine (State.sat_eff _ _ _).step rfl ?_ | refine (State.set_eff _ _ _).step rfl ?_ | refine (State.setMac_eff _ _ _).step rfl ?_ | refine (State.tsqShow_eff _ _).step rfl ?_ | refine Eff.ite ?_ ?_ | split | dsimp only

theorem State.txBack_eff (s : State) (n : Nat) (d : Nat) (w1 : Nat) (w3 : Nat) : Eff 5775510667660 s (State.txBack s n d w1 w3) := by
  unfold State.txBack
  with_reducible repeat' first | assumption | exact Eff.refl _ _ | refine (State.busStore_eff _ _ _ _ _).step rfl ?_ | refine (State.ethFlag_eff _ _ _).step rfl ?_ | refine (State.set_eff _ _ _).step rfl ?_ | refine Eff.ite ?_ ?_ | split | dsimp only

theorem State.txFrame_eff (s : State) (n : Nat) (lag : Nat) (d : Nat) (w1 : Nat) (w2 : Nat) (bs : List Byte) : Eff 5844230144398 s (State.txFrame s n lag d w1 w2 bs) := by
  unfold State.txFrame
  with_reducible repeat' first | assumption | exact Eff.refl _ _ | refine (State.auxOn_eff _).step rfl ?_ | refine (State.ethFlag_eff _ _ _).step rfl ?_ | refine (State.set_eff _ _ _).step rfl ?_ | refine (State.setMac_eff _ _ _).step rfl ?_ | refine (State.tsqPut_eff _ _ _).step rfl ?_ | refine (State.txBack_eff _ _ _ _ _).step rfl ?_ | refine Eff.ite ?_ ?_ | split | refine Eff.upd_freeCtr ?_ rfl (by simp) | dsimp only

theorem State.txLook_eff (s : State) (n : Nat) : Eff 4742180962310 s (State.txLook s n) := by
  unfold State.txLook
  with_reducible repeat' first | assumption | exact Eff.refl _ _ | refine (State.ethWord_eff _ _ _).step rfl ?_ | refine (State.setMac_eff _ _ _).step rfl ?_ | refine Eff.ite ?_ ?_ | split | dsimp only

theorem State.txStop_eff (s : State) (n : Nat) : Eff 68719476736 s (State.txStop s n) := by
  unfold State.txStop
  with_reducible repeat' first | assumption | exact Eff.refl _ _ | refine (State.setMac_eff _ _ _).step rfl ?_ | refine Eff.ite ?_ ?_ | split | dsimp only

theorem State.transmit_eff (s : State) (n : Nat) (lag : Nat) : Eff 5844230144398 s (State.transmit s n lag) := by
  unfold State.transmit
  with_reducible repeat' first | assumption | exact Eff.refl _ _ | refine (State.ethLoad_eff _ _ _ _).step rfl ?_ | refine (State.ethWord_eff _ _ _).step rfl ?_ | refine (State.txFrame_eff _ _ _ _ _ _ _).step rfl ?_ | refine (State.txLook_eff _ _).step rfl ?_ | refine (State.txStop_eff _ _).step rfl ?_ | refine Eff.ite ?_ ?_ | split | dsimp only

theorem execEthTransmitFrame_eff (n : Nat) (lag : Nat) (s : State) : OutEff 5844230144398 s (execEthTransmitFrame n lag s) := by
  unfold execEthTransmitFrame
  with_reducible repeat' first | refine OutEff.guard ?_ | refine OutEff.next ?_ | assumption | exact Eff.refl _ _ | refine (State.transmit_eff _ _ _).step rfl ?_ | refine Eff.ite ?_ ?_ | split | dsimp only

theorem State.tsqRead_eff (s : State) (n : Nat) : Eff 4 s (State.tsqRead s n) := by
  unfold State.tsqRead
  with_reducible repeat' first | assumption | exact Eff.refl _ _ | refine (State.set_eff _ _ _).step rfl ?_ | refine Eff.ite ?_ ?_ | split | dsimp only

theorem execTsqRead_eff (n : Nat) (s : State) : OutEff 4 s (execTsqRead n s) := by
  unfold execTsqRead
  with_reducible repeat' first | refine OutEff.guard ?_ | refine OutEff.next ?_ | assumption | exact Eff.refl _ _ | refine (State.tsqRead_eff _ _).step rfl ?_ | refine Eff.ite ?_ ?_ | split | dsimp only

theorem State.tsqPop_eff (s : State) (n : Nat) : Eff 4742180962308 s (State.tsqPop s n) := by
  unfold State.tsqPop
  with_reducible repeat' first | assumption | exact Eff.refl _ _ | refine (State.setMac_eff _ _ _).step rfl ?_ | refine (State.tsqShow_eff _ _).step rfl ?_ | refine Eff.ite ?_ ?_ | split | dsimp only

theorem State.ethTxctl_eff (s : State) (n : Nat) (v : Nat) : Eff 4742180962310 s (State.ethTxctl s n v) := by
  unfold State.ethTxctl
  with_reducible repeat' first | assumption | exact Eff.refl _ _ | refine (State.set_eff _ _ _).step rfl ?_ | refine (State.txLook_eff _ _).step rfl ?_ | refine Eff.ite ?_ ?_ | split | dsimp only

theorem execTxctlPoll_eff (n : Nat) (value : Word) (s : State) : OutEff 4742180962310 s (execTxctlPoll n value s) := by
  unfold execTxctlPoll
  with_reducible repeat' first | refine OutEff.guard ?_ | refine OutEff.next ?_ | assumption | exact Eff.refl _ _ | refine (State.ethTxctl_eff _ _ _).step rfl ?_ | refine Eff.ite ?_ ?_ | split | dsimp only

theorem State.mdioWrite_eff (s : State) (v : Nat) : Eff 68719476740 s (State.mdioWrite s v) := by
  unfold State.mdioWrite
  with_reducible repeat' first | assumption | exact Eff.refl _ _ | refine (State.set_eff _ _ _).step rfl ?_ | refine (State.setMac_eff _ _ _).step rfl ?_ | refine Eff.ite ?_ ?_ | split | dsimp only

theorem execEthReceiveDeliver_eff (n : Nat) (s : State) : OutEff 5844230144398 s (execEthReceiveDeliver n s) := by
  unfold execEthReceiveDeliver
  with_reducible repeat' first | refine OutEff.guard ?_ | refine OutEff.next ?_ | assumption | exact Eff.refl _ _ | refine (State.ethDeliver_eff _ _ _).step rfl ?_ | refine Eff.ite ?_ ?_ | split | dsimp only

theorem execMdioFrameEnd_eff (data : BitVec 16) (s : State) : OutEff 68719476742 s (execMdioFrameEnd data s) := by
  unfold execMdioFrameEnd
  with_reducible repeat' first | refine OutEff.guard ?_ | refine OutEff.next ?_ | assumption | exact Eff.refl _ _ | refine (State.set_eff _ _ _).step rfl ?_ | refine (State.setMac_eff _ _ _).step rfl ?_ | refine Eff.ite ?_ ?_ | split | refine Eff.upd_freeCtr ?_ rfl (by simp) | dsimp only

theorem State.ethKeep_eff (s : State) (n : Nat) (lag : Nat) (frame : List Byte) (fcsOk : Bool) : Eff 68719476742 s (State.ethKeep s n lag frame fcsOk) := by
  unfold State.ethKeep
  with_reducible repeat' first | assumption | exact Eff.refl _ _ | refine (State.sat_eff _ _ _).step rfl ?_ | refine (State.setMac_eff _ _ _).step rfl ?_ | refine Eff.ite ?_ ?_ | split | refine Eff.upd_freeCtr ?_ rfl (by simp) | dsimp only

theorem execMdioGo_eff (value : Word) (s : State) : OutEff 68719476740 s (execMdioGo value s) := by
  unfold execMdioGo
  with_reducible repeat' first | refine OutEff.guard ?_ | refine OutEff.next ?_ | assumption | exact Eff.refl _ _ | refine (State.mdioWrite_eff _ _).step rfl ?_ | refine Eff.ite ?_ ?_ | split | dsimp only

theorem execEthReceiveFrame_eff (n : Nat) (lag : Nat) (frame : List Byte) (fcsOk : Bool) (s : State) : OutEff 4742180962310 s (execEthReceiveFrame n lag frame fcsOk s) := by
  unfold execEthReceiveFrame
  with_reducible repeat' first | refine OutEff.guard ?_ | refine OutEff.next ?_ | assumption | exact Eff.refl _ _ | refine (State.ethKeep_eff _ _ _ _ _).step rfl ?_ | refine (State.wakeSapwood_eff _ _).step rfl ?_ | refine Eff.ite ?_ ?_ | split | dsimp only

theorem execTsqPop_eff (n : Nat) (s : State) : OutEff 4742180962308 s (execTsqPop n s) := by
  unfold execTsqPop
  with_reducible repeat' first | refine OutEff.guard ?_ | refine OutEff.next ?_ | assumption | exact Eff.refl _ _ | refine (State.tsqPop_eff _ _).step rfl ?_ | refine Eff.ite ?_ ?_ | split | dsimp only

end Sys2Proof.Machine
end

