-- ==== Sys2Proof/Laws/EffRecOps.lean ====
section
/-! SUPPORT. What every operation of Machine/RecOps.lean may change, and that it keeps the canonical forms and lowers no rising counter (Effect.lean). -/

namespace Sys2Proof.Machine

theorem State.recAhead_eff (s : State) (index : Nat) : Eff 49156 s (State.recAhead s index) := by
  unfold State.recAhead
  with_reducible repeat' first | assumption | exact Eff.refl _ _ | refine (State.eraseWant_eff _ _).step rfl ?_ | refine Eff.ite ?_ ?_ | split | dsimp only

theorem State.cryptoEnd_eff (s : State) : Eff 4673461485572 s (State.cryptoEnd s) := by
  unfold State.cryptoEnd
  with_reducible repeat' first | assumption | exact Eff.refl _ _ | refine (State.icEdge_eff _ _ _).step rfl ?_ | refine Eff.ite ?_ ?_ | split | dsimp only

theorem State.recSign_eff (s : State) (body : List Byte) : Eff 4673461485574 s (State.recSign s body).2 := by
  unfold State.recSign
  with_reducible repeat' first | assumption | exact Eff.refl _ _ | refine (State.cryptoEnd_eff _).step rfl ?_ | refine Eff.ite ?_ ?_ | split | refine Eff.upd_freeCtr ?_ rfl (by simp) | dsimp only

theorem State.recPlace_eff (s : State) (h : RecHead) (ws : List W128) (bad : Bool) : Eff 4675676127630 s (s.recPlace h ws bad) := by
  have hu : ∀ b a bs, Eff 4675676127630 s ((s.recSign b).2.stBytes a bs) := fun b a bs => (State.stBytes_eff _ _ _).step rfl ((State.recSign_eff _ _).mono rfl)
  have hi : ∀ b a bs, ((s.recSign b).2.stBytes a bs).recs = s.recs := fun b a bs => ((State.stBytes_eff _ _ _).recs rfl).trans ((State.recSign_eff _ _).recs rfl)
  have hv : ∀ b a bs r, Eff 4675676127630 s { (s.recSign b).2.stBytes a bs with recs := { ((s.recSign b).2.stBytes a bs).recs with ring := r, nextIndex := s.recs.nextIndex + 1 } } :=
    fun b a bs r => Eff.upd_recs (hu b a bs) rfl (by rw [hi]; exact ⟨Nat.le_succ _, Nat.le_refl _⟩)
  unfold State.recPlace
  refine (State.recAhead_eff _ _).step rfl (Eff.ite ?_ (hv _ _ _ _))
  exact (State.progFail_eff _ _).step rfl (Eff.upd_hflash (hv _ _ _ _) rfl)

theorem State.recWrite_eff (s : State) (h : RecHead) (ws : List W128) (k f : Nat) : Eff 35072702399406 s (s.recWrite h ws k f).1 := by
  induction k generalizing s f with
  | zero => unfold State.recWrite; exact (State.enterSafe_eff _ _).mono rfl
  | succ k ih =>
    cases f with
    | zero => unfold State.recWrite; exact (State.recPlace_eff _ _ _ _).mono rfl
    | succ f => unfold State.recWrite; exact (ih _ _).step rfl ((State.recPlace_eff _ _ _ _).mono rfl)

theorem State.recAnnounce_eff (s : State) (h : RecHead) : Eff 4673461485828 s (State.recAnnounce s h) := by
  unfold State.recAnnounce
  with_reducible repeat' first | assumption | exact Eff.refl _ _ | refine (State.ringPut_eff _ _ _ _ _ _).step rfl ?_ | refine Eff.ite ?_ ?_ | split | dsimp only

theorem State.gapRecord_eff (s : State) (st : Nat) : Eff 4675676127630 s (State.gapRecord s st) := by
  unfold State.gapRecord
  with_reducible repeat' first | assumption | exact Eff.refl _ _ | refine (State.recAnnounce_eff _ _).step rfl ?_ | refine (State.recPlace_eff _ _ _ _).step rfl ?_ | refine Eff.ite ?_ ?_ | split | dsimp only

theorem State.gapRecords_eff (s : State) (x1 : List Nat) : Eff 4675676127630 s (State.gapRecords s x1) := by
  induction x1 generalizing s with
  | nil => exact Eff.refl _ _
  | cons y ys ih =>
    unfold State.gapRecords
    with_reducible repeat' first | assumption | exact Eff.refl _ _ | refine (ih _).step rfl ?_ | refine (State.gapRecord_eff _ _).step rfl ?_ | refine Eff.ite ?_ ?_ | split | dsimp only

theorem State.resetCmps_eff (s : State) (r : Nat) (b : Nat) (x3 : List Nat) : Eff 33554440 s (State.resetCmps s r b x3) := by
  induction x3 generalizing s r b with
  | nil => exact Eff.refl _ _
  | cons y ys ih =>
    unfold State.resetCmps
    with_reducible repeat' first | assumption | exact Eff.refl _ _ | refine (ih _ _ _).step rfl ?_ | refine (State.setPair_eff _ _ _).step rfl ?_ | refine (State.totImage_eff _ _ _).step rfl ?_ | refine Eff.ite ?_ ?_ | split | dsimp only

theorem State.resetBank_eff (s : State) (r : Nat) (b : Nat) : Eff 33554440 s (State.resetBank s r b) := by
  unfold State.resetBank
  with_reducible repeat' first | assumption | exact Eff.refl _ _ | refine (State.resetCmps_eff _ _ _ _).step rfl ?_ | refine (State.setPair_eff _ _ _).step rfl ?_ | refine Eff.ite ?_ ?_ | split | dsimp only

end Sys2Proof.Machine
end

