-- ==== Sys2Proof/Laws/EffStartOps.lean ====
section
/-! SUPPORT. What every operation of Machine/StartOps.lean may change, and that it keeps the canonical forms and lowers no rising counter (Effect.lean). -/

namespace Sys2Proof.Machine

theorem State.x32Log_eff (s : State) : Eff 4675608969604 s (State.x32Log s) := by
  unfold State.x32Log
  with_reducible repeat' first | assumption | exact Eff.refl _ _ | refine (State.fault_eff _ _ _ _ _).step rfl ?_ | refine Eff.ite ?_ ?_ | split | refine Eff.upd_season ?_ rfl | dsimp only

theorem State.copyMem_eff (s : State) (src : Nat) (dst : Nat) (n : Nat) : Eff 8 s (State.copyMem s src dst n) := by
  unfold State.copyMem
  with_reducible repeat' first | assumption | exact Eff.refl _ _ | refine (State.stBytes_eff _ _ _).step rfl ?_ | refine Eff.ite ?_ ?_ | split | dsimp only

theorem State.openEntry_eff (s : State) (n : Nat) (sleep : Nat) (dSec : Nat) (dNs : Nat) : Eff 4673461485956 s (State.openEntry s n sleep dSec dNs) := by
  unfold State.openEntry
  with_reducible repeat' first | assumption | exact Eff.refl _ _ | refine (State.auditPut_eff _ _ _ _).step rfl ?_ | refine Eff.ite ?_ ?_ | split | dsimp only

theorem State.sealWord_eff (s : State) (isShut : Bool) (count fails : Nat) : Eff 35072702399470 s (s.sealWord isShut count fails).1 := by
  have h := State.ctlWrites_eff s 1 (.seal isShut count) fails
  unfold State.sealWord
  extract_lets r
  split
  · exact Eff.upd_sealc (h.mono rfl) rfl (Nat.le_refl _)
  · exact (State.enterSafe_eff _ _).step rfl (Eff.upd_sealc (h.mono rfl) rfl (Nat.le_refl _))

theorem State.unsealed_eff (s : State) (n : Nat) (sleep : Nat) (dSec : Nat) (dNs : Nat) : Eff 4673528594884 s (State.unsealed s n sleep dSec dNs) := by
  unfold State.unsealed
  with_reducible repeat' first | assumption | exact Eff.refl _ _ | refine (State.icEdge_eff _ _ _).step rfl ?_ | refine (State.intervalNote_eff _ _).step rfl ?_ | refine (State.openEntry_eff _ _ _ _ _).step rfl ?_ | refine (State.set_eff _ _ _).step rfl ?_ | refine Eff.ite ?_ ?_ | split | refine Eff.upd_sealc ?_ rfl (by simp <;> omega) | dsimp only

theorem State.sealOpened_eff (s : State) (fails : Nat) (sleep : Nat) (dSec : Nat) (dNs : Nat) : Eff 35072702399470 s (State.sealOpened s fails sleep dSec dNs) := by
  unfold State.sealOpened
  with_reducible repeat' first | assumption | exact Eff.refl _ _ | refine (State.openEntry_eff _ _ _ _ _).step rfl ?_ | refine (State.sealWord_eff _ _ _ _).step rfl ?_ | refine (State.set_eff _ _ _).step rfl ?_ | refine (State.unsealed_eff _ _ _ _ _).step rfl ?_ | refine Eff.ite ?_ ?_ | split | dsimp only

theorem State.loopOpen_eff (s : State) (fails : Nat) : Eff 35072702399470 s (State.loopOpen s fails) := by
  unfold State.loopOpen
  with_reducible repeat' first | assumption | exact Eff.refl _ _ | refine (State.sealOpened_eff _ _ _ _ _).step rfl ?_ | refine (State.set_eff _ _ _).step rfl ?_ | refine Eff.ite ?_ ?_ | split | refine Eff.upd_sealc ?_ rfl (by simp <;> omega) | dsimp only

theorem State.skewLoad_eff (s : State) (x1 : List Nat) : Eff 4 s (State.skewLoad s x1) := by
  induction x1 generalizing s with
  | nil => exact Eff.refl _ _
  | cons y ys ih =>
    unfold State.skewLoad
    with_reducible repeat' first | assumption | exact Eff.refl _ _ | refine (ih _).step rfl ?_ | refine (State.setI_eff _ _ _).step rfl ?_ | refine Eff.ite ?_ ?_ | split | dsimp only

theorem State.snapsDue_eff (s : State) (c : Option Commit) : Eff 67108864 s (State.snapsDue s c) := by
  unfold State.snapsDue
  with_reducible repeat' first | assumption | exact Eff.refl _ _ | refine Eff.ite ?_ ?_ | split | refine Eff.upd_recs ?_ rfl ⟨by simp,by simp⟩ | dsimp only

theorem State.hscGo_eff (s : State) : Eff 2748779069440 s (State.hscGo s) := by
  unfold State.hscGo
  with_reducible repeat' first | assumption | exact Eff.refl _ _ | refine Eff.ite ?_ ?_ | split | refine Eff.upd_hscHalted_wdt ?_ rfl rfl  | refine Eff.upd_hscHalted ?_ rfl | refine Eff.upd_wdt ?_ rfl | dsimp only

theorem State.resealed_eff (s : State) : Eff 7422307664324 s (State.resealed s) := by
  unfold State.resealed
  with_reducible repeat' first | assumption | exact Eff.refl _ _ | refine (State.auditPut_eff _ _ _ _).step rfl ?_ | refine (State.hscGo_eff _).step rfl ?_ | refine (State.icEdge_eff _ _ _).step rfl ?_ | refine (State.intervalNote_eff _ _).step rfl ?_ | refine (State.set_eff _ _ _).step rfl ?_ | refine Eff.ite ?_ ?_ | split | refine Eff.upd_sealc ?_ rfl (by simp <;> omega) | dsimp only

theorem State.sealClosed_eff (s : State) (fails : Nat) : Eff 35072702399470 s (State.sealClosed s fails) := by
  unfold State.sealClosed
  with_reducible repeat' first | assumption | exact Eff.refl _ _ | refine (State.resealed_eff _).step rfl ?_ | refine (State.sealWord_eff _ _ _ _).step rfl ?_ | refine Eff.ite ?_ ?_ | split | dsimp only

theorem State.sealCatchUp_eff (s : State) : Eff 35072702399470 s (State.sealCatchUp s) := by
  unfold State.sealCatchUp
  with_reducible repeat' first | assumption | exact Eff.refl _ _ | refine (State.sealClosed_eff _ _).step rfl ?_ | refine (State.sealOpened_eff _ _ _ _ _).step rfl ?_ | refine Eff.ite ?_ ?_ | split | refine Eff.upd_sealc ?_ rfl (by simp <;> omega) | dsimp only

theorem State.calSince_eff (s : State) (x1 : List (Nat × Nat)) : Eff 1073741824 s (State.calSince s x1) := by
  induction x1 generalizing s with
  | nil => exact Eff.refl _ _
  | cons y ys ih =>
    unfold State.calSince
    with_reducible repeat' first | assumption | exact Eff.refl _ _ | refine (ih _).step rfl ?_ | refine Eff.ite ?_ ?_ | split | refine Eff.upd_cal ?_ rfl | dsimp only

theorem State.calLoad_eff (s : State) : Eff 8797166780428 s (State.calLoad s) := by
  unfold State.calLoad
  with_reducible repeat' first | assumption | exact Eff.refl _ _ | refine (State.calSince_eff _ _).step rfl ?_ | refine (State.calStore_eff _).step rfl ?_ | refine (State.loadSettings_eff _ _).step rfl ?_ | refine (State.skewLoad_eff _ _).step rfl ?_ | refine Eff.ite ?_ ?_ | split | dsimp only

theorem State.loadGains_eff (s : State) (x1 : List Nat) : Eff 4 s (State.loadGains s x1) := by
  induction x1 generalizing s with
  | nil => exact Eff.refl _ _
  | cons y ys ih =>
    unfold State.loadGains
    with_reducible repeat' first | assumption | exact Eff.refl _ _ | refine (ih _).step rfl ?_ | refine (State.set_eff _ _ _).step rfl ?_ | refine Eff.ite ?_ ?_ | split | dsimp only

theorem State.loadGuards_eff (s : State) (x1 : List Nat) : Eff 4 s (State.loadGuards s x1) := by
  induction x1 generalizing s with
  | nil => exact Eff.refl _ _
  | cons y ys ih =>
    unfold State.loadGuards
    with_reducible repeat' first | assumption | exact Eff.refl _ _ | refine (ih _).step rfl ?_ | refine (State.set_eff _ _ _).step rfl ?_ | refine Eff.ite ?_ ?_ | split | dsimp only

theorem State.loadHscfw_eff (s : State) : Eff 8 s (State.loadHscfw s) := by
  unfold State.loadHscfw
  with_reducible repeat' first | assumption | exact Eff.refl _ _ | refine (State.copyMem_eff _ _ _ _).step rfl ?_ | refine Eff.ite ?_ ?_ | split | dsimp only

theorem State.loadTemplates_eff (s : State) : Eff 8 s (State.loadTemplates s) := by
  unfold State.loadTemplates
  with_reducible repeat' first | assumption | exact Eff.refl _ _ | refine (State.copyMem_eff _ _ _ _).step rfl ?_ | refine Eff.ite ?_ ?_ | split | dsimp only

theorem State.zeroRegs_eff (s : State) (x1 : List Nat) : Eff 4 s (State.zeroRegs s x1) := by
  induction x1 generalizing s with
  | nil => exact Eff.refl _ _
  | cons y ys ih =>
    unfold State.zeroRegs
    with_reducible repeat' first | assumption | exact Eff.refl _ _ | refine (ih _).step rfl ?_ | refine (State.setW_eff _ _ _).step rfl ?_ | refine Eff.ite ?_ ?_ | split | dsimp only

theorem State.settingsLoad_eff (s : State) : Eff 4675608969604 s (State.settingsLoad s) := by
  unfold State.settingsLoad
  with_reducible repeat' first | assumption | exact Eff.refl _ _ | refine (State.fault_eff _ _ _ _ _).step rfl ?_ | refine (State.frontLoad_eff _).step rfl ?_ | refine (State.zeroRegs_eff _ _).step rfl ?_ | refine Eff.ite ?_ ?_ | split | dsimp only

theorem State.startClocks_eff (s : State) : Eff 138412036 s (State.startClocks s) := by
  unfold State.startClocks
  with_reducible repeat' first | assumption | exact Eff.refl _ _ | refine (State.timeRestart_eff _ _).step rfl ?_ | refine (State.seasonUpdate_eff _).step rfl ?_ | refine (State.set_eff _ _ _).step rfl ?_ | refine Eff.ite ?_ ?_ | split | refine Eff.upd_time ?_ rfl | dsimp only

theorem State.loadAvgs_eff (s : State) (x1 : List Nat) : Eff 4 s (State.loadAvgs s x1) := by
  induction x1 generalizing s with
  | nil => exact Eff.refl _ _
  | cons y ys ih =>
    unfold State.loadAvgs
    with_reducible repeat' first | assumption | exact Eff.refl _ _ | refine (ih _).step rfl ?_ | refine (State.set_eff _ _ _).step rfl ?_ | refine Eff.ite ?_ ?_ | split | dsimp only

theorem State.setSlot_eff (s : State) (slot : Nat) (st : Nat) (digest : List Byte) : Eff 8796093042696 s (State.setSlot s slot st digest) := by
  unfold State.setSlot
  with_reducible repeat' first | assumption | exact Eff.refl _ _ | refine (State.selWrite_eff _ _).step rfl ?_ | refine Eff.ite ?_ ?_ | split | dsimp only

theorem State.sealRestore_eff (s : State) : Eff 13469621633484 s (State.sealRestore s) := by
  unfold State.sealRestore
  with_reducible repeat' first | assumption | exact Eff.refl _ _ | refine (State.auditPut_eff _ _ _ _).step rfl ?_ | refine (State.ctlWrite_eff _ _ _).step rfl ?_ | refine (State.icEdge_eff _ _ _).step rfl ?_ | refine (State.intervalNote_eff _ _).step rfl ?_ | refine (State.set_eff _ _ _).step rfl ?_ | refine Eff.ite ?_ ?_ | split | refine Eff.upd_sealc ?_ rfl (by simp <;> omega) | dsimp only

theorem State.sealLoad_eff (s : State) : Eff 13469621633484 s (State.sealLoad s) := by
  unfold State.sealLoad
  with_reducible repeat' first | assumption | exact Eff.refl _ _ | refine (State.sealRestore_eff _).step rfl ?_ | refine (State.set_eff _ _ _).step rfl ?_ | refine (State.setB_eff _ _ _).step rfl ?_ | refine Eff.ite ?_ ?_ | split | refine Eff.upd_sealc ?_ rfl (by simp <;> omega) | dsimp only

theorem State.loadRegions_eff (s : State) (c : Option Commit) (x2 : List Nat) : Eff 1099545182216 s (State.loadRegions s c x2) := by
  induction x2 generalizing s c with
  | nil => exact Eff.refl _ _
  | cons y ys ih =>
    unfold State.loadRegions
    with_reducible repeat' first | assumption | exact Eff.refl _ _ | refine (ih _ _).step rfl ?_ | refine (State.codeLoad_eff _ _).step rfl ?_ | refine (State.fillParams_eff _ _).step rfl ?_ | refine (State.freshBlocks_eff _ _).step rfl ?_ | refine (State.restoreTots_eff _ _ _ _).step rfl ?_ | refine (State.setPair_eff _ _ _).step rfl ?_ | refine Eff.ite ?_ ?_ | split | dsimp only

theorem State.loopClosed_eff (s : State) (fails : Nat) : Eff 35072702399470 s (State.loopClosed s fails) := by
  unfold State.loopClosed
  with_reducible repeat' first | assumption | exact Eff.refl _ _ | refine (State.sealClosed_eff _ _).step rfl ?_ | refine (State.set_eff _ _ _).step rfl ?_ | refine Eff.ite ?_ ?_ | split | refine Eff.upd_sealc ?_ rfl (by simp <;> omega) | dsimp only

theorem State.auditTorn_eff (s : State) : Eff 4673461485956 s (State.auditTorn s) := by
  unfold State.auditTorn
  with_reducible repeat' first | assumption | exact Eff.refl _ _ | refine (State.auditPut_eff _ _ _ _).step rfl ?_ | refine Eff.ite ?_ ?_ | split | dsimp only

theorem State.auditTear_eff (s : State) : Eff 136 s s.auditTear := by
  unfold State.auditTear
  split
  · refine Eff.ite (Eff.refl _ _) (Eff.upd_audit ((State.stBytes_eff _ _ _).mono rfl) rfl ?_)
    exact Nat.le_of_eq (by rw [(State.stBytes_eff _ _ _).audit rfl])
  · exact Eff.refl _ _

theorem State.recCut_eff (s : State) : Eff 67125248 s (State.recCut s) := by
  unfold State.recCut
  with_reducible repeat' first | assumption | exact Eff.refl _ _ | refine Eff.ite ?_ ?_ | split | refine Eff.upd_hflash_recs ?_ rfl rfl  ⟨by simp,by simp⟩ | refine Eff.upd_hflash ?_ rfl | refine Eff.upd_recs ?_ rfl ⟨by simp,by simp⟩ | dsimp only

theorem State.powerCut_eff (s : State) (cut : Nat) : Eff 8796160147592 s (State.powerCut s cut) := by
  unfold State.powerCut
  with_reducible repeat' first | assumption | exact Eff.refl _ _ | refine (State.auditTear_eff _).step rfl ?_ | refine (State.commitCut_eff _).step rfl ?_ | refine (State.ctlCut_eff _ _).step rfl ?_ | refine (State.recCut_eff _).step rfl ?_ | refine Eff.ite ?_ ?_ | split | dsimp only

theorem State.slotsIdle_eff (s : State) : Eff 8796093042696 s (State.slotsIdle s) := by
  unfold State.slotsIdle
  with_reducible repeat' first | assumption | exact Eff.refl _ _ | refine (State.setSlot_eff _ _ _ _).step rfl ?_ | refine Eff.ite ?_ ?_ | split | dsimp only

theorem State.startStep3_eff (s : State) (seed : Nat) (cut : Nat) : Eff 35072702412782 s (State.startStep3 s seed cut) := by
  unfold State.startStep3
  with_reducible repeat' first | assumption | exact Eff.refl _ _ | refine (State.auditPut_eff _ _ _ _).step rfl ?_ | refine (State.auditTorn_eff _).step rfl ?_ | refine (State.ctlLoad_eff _ _).step rfl ?_ | refine (State.powerCut_eff _ _).step rfl ?_ | refine (State.repair_eff _ _).step rfl ?_ | refine (State.sealCatchUp_eff _).step rfl ?_ | refine (State.sealLoad_eff _).step rfl ?_ | refine (State.set_eff _ _ _).step rfl ?_ | refine (State.slotsIdle_eff _).step rfl ?_ | refine Eff.ite ?_ ?_ | split | refine Eff.upd_sealc ?_ rfl (by simp <;> omega) | refine Eff.upd_audit ?_ rfl (by simp) | dsimp only

theorem State.runSlot_eff (s : State) (slot : Nat) : Eff 36 s (State.runSlot s slot) := by
  unfold State.runSlot
  with_reducible repeat' first | assumption | exact Eff.refl _ _ | refine (State.set_eff _ _ _).step rfl ?_ | refine Eff.ite ?_ ?_ | split | refine Eff.upd_boot ?_ rfl | dsimp only

theorem State.slotBad_eff (s : State) (slot : Nat) : Eff 4 s (State.slotBad s slot) := by
  unfold State.slotBad
  with_reducible repeat' first | assumption | exact Eff.refl _ _ | refine (State.set_eff _ _ _).step rfl ?_ | refine Eff.ite ?_ ?_ | split | dsimp only

theorem State.slotFailed_eff (s : State) (slot : Nat) : Eff 4673461485958 s (State.slotFailed s slot) := by
  unfold State.slotFailed
  with_reducible repeat' first | assumption | exact Eff.refl _ _ | refine (State.auditPut_eff _ _ _ _).step rfl ?_ | refine (State.free_eff _).step rfl ?_ | refine Eff.ite ?_ ?_ | split | dsimp only

theorem State.startStep4_eff (s : State) : Eff 13471769117102 s (State.startStep4 s).1 := by
  unfold State.startStep4
  with_reducible repeat' first | assumption | exact Eff.refl _ _ | refine (State.runSlot_eff _ _).step rfl ?_ | refine (State.set_eff _ _ _).step rfl ?_ | refine (State.slotBad_eff _ _).step rfl ?_ | refine (State.slotFailed_eff _ _).step rfl ?_ | refine (State.startNoImage_eff _).step rfl ?_ | refine Eff.ite ?_ ?_ | split | dsimp only

theorem State.loadAcoustic_eff (s : State) : Eff 2097156 s (State.loadAcoustic s) := by
  unfold State.loadAcoustic
  with_reducible repeat' first | assumption | exact Eff.refl _ _ | refine (State.loadAvgs_eff _ _).step rfl ?_ | refine (State.loadGains_eff _ _).step rfl ?_ | refine Eff.ite ?_ ?_ | split | refine Eff.upd_echo ?_ rfl | dsimp only

theorem State.loadCmps_eff (s : State) (x1 : List Nat) : Eff 4 s (State.loadCmps s x1) := by
  induction x1 generalizing s with
  | nil => exact Eff.refl _ _
  | cons y ys ih =>
    unfold State.loadCmps
    with_reducible repeat' first | assumption | exact Eff.refl _ _ | refine (ih _).step rfl ?_ | refine (State.set_eff _ _ _).step rfl ?_ | refine Eff.ite ?_ ?_ | split | dsimp only

theorem State.loadFabric_eff (s : State) (c : Option Commit) : Eff 5775162540428 s (State.loadFabric s c) := by
  unfold State.loadFabric
  with_reducible repeat' first | assumption | exact Eff.refl _ _ | refine (State.loadBlocks_eff _ _).step rfl ?_ | refine (State.loadCmps_eff _ _).step rfl ?_ | refine (State.loadHscfw_eff _).step rfl ?_ | refine (State.loadRegions_eff _ _ _).step rfl ?_ | refine (State.loadTemplates_eff _).step rfl ?_ | refine (State.pulseLoad_eff _).step rfl ?_ | refine (State.settingsLoad_eff _).step rfl ?_ | refine Eff.ite ?_ ?_ | split | dsimp only

theorem State.spanMark_eff (s : State) (st : Nat) (b : Nat) (r : Nat) : Eff 33554432 s (State.spanMark s st b r) := by
  unfold State.spanMark
  with_reducible repeat' first | assumption | exact Eff.refl _ _ | refine (State.setPair_eff _ _ _).step rfl ?_ | refine Eff.ite ?_ ?_ | split | dsimp only

theorem State.spanAvgs_eff (s : State) (b : Nat) (x2 : List Nat) : Eff 33554432 s (State.spanAvgs s b x2) := by
  induction x2 generalizing s b with
  | nil => exact Eff.refl _ _
  | cons y ys ih =>
    unfold State.spanAvgs
    with_reducible repeat' first | assumption | exact Eff.refl _ _ | refine (ih _ _).step rfl ?_ | refine (State.spanMark_eff _ _ _ _).step rfl ?_ | refine Eff.ite ?_ ?_ | split | dsimp only

theorem State.loadRest_eff (s : State) (c : Option Commit) : Eff 13472876446094 s (State.loadRest s c) := by
  unfold State.loadRest
  with_reducible repeat' first | assumption | exact Eff.refl _ _ | refine (State.calLoad_eff _).step rfl ?_ | refine (State.fault_eff _ _ _ _ _).step rfl ?_ | refine (State.gapRecords_eff _ _).step rfl ?_ | refine (State.intervalNote_eff _ _).step rfl ?_ | refine (State.loadGuards_eff _ _).step rfl ?_ | refine (State.set_eff _ _ _).step rfl ?_ | refine (State.setB_eff _ _ _).step rfl ?_ | refine (State.spanAvgs_eff _ _ _).step rfl ?_ | refine Eff.ite ?_ ?_ | split | dsimp only

theorem State.startStep5_eff (s : State) : Eff 14572553748910 s (State.startStep5 s) := by
  unfold State.startStep5
  with_reducible repeat' first | assumption | exact Eff.refl _ _ | refine (State.chainsReady_eff _ _).step rfl ?_ | refine (State.gridHere_eff _).step rfl ?_ | refine (State.loadAcoustic_eff _).step rfl ?_ | refine (State.loadFabric_eff _ _).step rfl ?_ | refine (State.loadRest_eff _ _).step rfl ?_ | refine (State.set_eff _ _ _).step rfl ?_ | refine (State.snapsDue_eff _ _).step rfl ?_ | refine Eff.ite ?_ ?_ | split | refine Eff.upd_boot_flt ?_ rfl rfl  | refine Eff.upd_recs ?_ rfl ⟨by simp,by simp⟩ | refine Eff.upd_boot ?_ rfl | refine Eff.upd_flt ?_ rfl | dsimp only

theorem State.startOnce_eff (s : State) (seed : Nat) (cut : Nat) (fault : Bool) : Eff 35072702412782 s (State.startOnce s seed cut fault) := by
  unfold State.startOnce
  with_reducible repeat' first | assumption | exact Eff.refl _ _ | refine (State.bootFault_eff _).step rfl ?_ | refine (State.startStep3_eff _ _ _).step rfl ?_ | refine (State.startStep4_eff _).step rfl ?_ | refine (State.startStep5_eff _).step rfl ?_ | refine Eff.ite ?_ ?_ | split | dsimp only

theorem State.startRun_eff (s : State) (seed : Nat) (cut : Nat) (faults : Nat) : Eff 35072702412782 s (State.startRun s seed cut faults) := by
  unfold State.startRun
  with_reducible repeat' first | assumption | exact Eff.refl _ _ | refine (State.startOnce_eff _ _ _ _).step rfl ?_ | refine Eff.ite ?_ ?_ | split | dsimp only

end Sys2Proof.Machine
end

