-- ==== Sys2Proof/Laws/EffFaults.lean ====
section
/-! SUPPORT. What every operation of Machine/Faults.lean may change, and that it keeps the canonical forms and lowers no rising counter (Effect.lean). -/

namespace Sys2Proof.Machine

theorem State.hscKick_eff (s : State) (value : Word) : Eff 2199023255552 s (State.hscKick s value) := by
  unfold State.hscKick
  with_reducible repeat' first | assumption | exact Eff.refl _ _ | refine Eff.ite ?_ ?_ | split | refine Eff.upd_wdt ?_ rfl | dsimp only

theorem State.hscFault_eff (s : State) (cause : Nat) (addr : Nat) (pc : Word) : Eff 4675608969604 s (State.hscFault s cause addr pc) := by
  unfold State.hscFault
  with_reducible repeat' first | assumption | exact Eff.refl _ _ | refine (State.eccUncorr_eff _ _ _ _).step rfl ?_ | refine (State.fault_eff _ _ _ _ _).step rfl ?_ | refine (State.sat_eff _ _ _).step rfl ?_ | refine (State.set_eff _ _ _).step rfl ?_ | refine Eff.ite ?_ ?_ | split | dsimp only

theorem State.hscRestarted_eff (s : State) : Eff 35072702399470 s (State.hscRestarted s) := by
  unfold State.hscRestarted
  with_reducible repeat' first | assumption | exact Eff.refl _ _ | refine (State.clearEnd_eff _).step rfl ?_ | refine (State.heal_eff _ _ _).step rfl ?_ | refine (State.loadHscfw_eff _).step rfl ?_ | refine (State.sealCatchUp_eff _).step rfl ?_ | refine (State.sealRestore_eff _).step rfl ?_ | refine (State.x32Log_eff _).step rfl ?_ | refine Eff.ite ?_ ?_ | split | refine Eff.upd_wdt ?_ rfl | dsimp only

theorem execSafeExit_eff (durUs : Nat) (s : State) : OutEff 35072702399470 s (execSafeExit durUs s) := by
  unfold execSafeExit
  with_reducible repeat' first | refine OutEff.guard ?_ | refine OutEff.next ?_ | assumption | exact Eff.refl _ _ | refine (State.advanceTo_eff _ _).step rfl ?_ | refine (State.fault_eff _ _ _ _ _).step rfl ?_ | refine (State.hscRestarted_eff _).step rfl ?_ | refine (State.icSample_eff _ _ _).step rfl ?_ | refine (State.intervalNote_eff _ _).step rfl ?_ | refine (State.set_eff _ _ _).step rfl ?_ | refine (State.settle_eff _).step rfl ?_ | refine Eff.ite ?_ ?_ | split | dsimp only

theorem execRegParity_eff (addr : Nat) (bit : Nat) (s : State) : OutEff 4675608969604 s (execRegParity addr bit s) := by
  unfold execRegParity
  with_reducible repeat' first | refine OutEff.guard ?_ | refine OutEff.next ?_ | assumption | exact Eff.refl _ _ | refine (State.fault_eff _ _ _ _ _).step rfl ?_ | refine (State.set_eff _ _ _).step rfl ?_ | refine Eff.ite ?_ ?_ | split | dsimp only

theorem execHscWdtKick_eff (value : Word) (s : State) : OutEff 2199023255552 s (execHscWdtKick value s) := by
  unfold execHscWdtKick
  with_reducible repeat' first | refine OutEff.guard ?_ | refine OutEff.next ?_ | assumption | exact Eff.refl _ _ | refine (State.hscKick_eff _ _).step rfl ?_ | refine Eff.ite ?_ ?_ | split | dsimp only

theorem execHscWatchdogExpiry_eff (cause : Nat) (addr : Nat) (pc : Word) (s : State) : OutEff 35072702399406 s (execHscWatchdogExpiry cause addr pc s) := by
  unfold execHscWatchdogExpiry
  with_reducible repeat' first | refine OutEff.guard ?_ | refine OutEff.next ?_ | assumption | exact Eff.refl _ _ | refine (State.advanceTo_eff _ _).step rfl ?_ | refine (State.enterSafe_eff _ _).step rfl ?_ | refine (State.hscFault_eff _ _ _ _).step rfl ?_ | refine (State.hscGo_eff _).step rfl ?_ | refine (State.settle_eff _).step rfl ?_ | refine Eff.ite ?_ ?_ | split | dsimp only

theorem execScrub_eff (mem : Nat) (addr : Nat) (err : Nat) (s : State) : OutEff 4675608969604 s (execScrub mem addr err s) := by
  unfold execScrub
  with_reducible repeat' first | refine OutEff.guard ?_ | refine OutEff.next ?_ | assumption | exact Eff.refl _ _ | refine (State.eccCorr_eff _).step rfl ?_ | refine (State.eccUncorr_eff _ _ _ _).step rfl ?_ | refine Eff.ite ?_ ?_ | split | refine Eff.upd_flt ?_ rfl | dsimp only

theorem execInterconnectFault_eff (master : Nat) (addr : Nat) (s : State) : OutEff 35072702399406 s (execInterconnectFault master addr s) := by
  unfold execInterconnectFault
  with_reducible repeat' first | refine OutEff.guard ?_ | refine OutEff.next ?_ | assumption | exact Eff.refl _ _ | refine (State.enterSafe_eff _ _).step rfl ?_ | refine (State.fault_eff _ _ _ _ _).step rfl ?_ | refine Eff.ite ?_ ?_ | split | dsimp only

end Sys2Proof.Machine
end

