-- ==== Sys2Proof/Laws/EffFront.lean ====
section
/-! SUPPORT. What every operation of Machine/Front.lean may change, and that it keeps the canonical forms and lowers no rising counter (Effect.lean). -/

namespace Sys2Proof.Machine

theorem State.warmAgain_eff (s : State) (x1 : List Nat) : Eff 4194308 s (State.warmAgain s x1) := by
  induction x1 generalizing s with
  | nil => exact Eff.refl _ _
  | cons y ys ih =>
    unfold State.warmAgain
    with_reducible repeat' first | assumption | exact Eff.refl _ _ | refine (ih _).step rfl ?_ | refine (State.warmStart_eff _ _).step rfl ?_ | refine Eff.ite ?_ ?_ | split | dsimp only

theorem State.settingApply_eff (s : State) (addr : Nat) (w : Word) : Eff 4673465679876 s (State.settingApply s addr w) := by
  unfold State.settingApply
  with_reducible repeat' first | assumption | exact Eff.refl _ _ | refine (State.raise_eff _ _ _ _).step rfl ?_ | refine (State.setW_eff _ _ _).step rfl ?_ | refine (State.warmAgain_eff _ _).step rfl ?_ | refine Eff.ite ?_ ?_ | split | dsimp only

theorem State.slRefuse_eff (s : State) (addr : Nat) : Eff 68 s (State.slRefuse s addr) := by
  unfold State.slRefuse
  with_reducible repeat' first | assumption | exact Eff.refl _ _ | refine (State.sat_eff _ _ _).step rfl ?_ | refine (State.set_eff _ _ _).step rfl ?_ | refine Eff.ite ?_ ?_ | split | refine Eff.upd_sealc ?_ rfl (by simp <;> omega) | dsimp only

theorem State.slDo_eff (s : State) (addr : Nat) (value : Word) : Eff 4673465680324 s (State.slDo s addr value) := by
  unfold State.slDo
  with_reducible repeat' first | assumption | exact Eff.refl _ _ | refine (State.auditPut_eff _ _ _ _).step rfl ?_ | refine (State.settingApply_eff _ _ _).step rfl ?_ | refine (State.slRefuse_eff _ _).step rfl ?_ | refine Eff.ite ?_ ?_ | split | refine Eff.upd_sealc_front ?_ rfl rfl  (by simp) | refine Eff.upd_sealc ?_ rfl (by simp <;> omega) | refine Eff.upd_front ?_ rfl | dsimp only

theorem execSlWrite_eff (addr : Nat) (value : Word) (s : State) : OutEff 4673465680324 s (execSlWrite addr value s) := by
  unfold execSlWrite
  with_reducible repeat' first | refine OutEff.guard ?_ | refine OutEff.next ?_ | assumption | exact Eff.refl _ _ | refine (State.slDo_eff _ _ _).step rfl ?_ | refine Eff.ite ?_ ?_ | split | dsimp only

theorem State.pulseBlock_eff (s : State) (st : Nat) (a : PulseRec) (b : Option PulseRec) : Eff 4675611066380 s (State.pulseBlock s st a b) := by
  unfold State.pulseBlock
  with_reducible repeat' first | assumption | exact Eff.refl _ _ | refine (State.pageWrite_eff _ _ _ _).step rfl ?_ | refine Eff.ite ?_ ?_ | split | dsimp only

theorem execPulseBlockWrite_eff (stream : Nat) (s : State) : OutEff 4675611066380 s (execPulseBlockWrite stream s) := by
  unfold execPulseBlockWrite
  with_reducible repeat' first | refine OutEff.guard ?_ | refine OutEff.next ?_ | assumption | exact Eff.refl _ _ | refine (State.pulseBlock_eff _ _ _ _).step rfl ?_ | refine Eff.ite ?_ ?_ | split | dsimp only

theorem State.pulseLevel_eff (s : State) (n : Nat) (t : Nat) (level : Bool) : Eff 4673608286212 s (State.pulseLevel s n t level) := by
  unfold State.pulseLevel
  with_reducible repeat' first | assumption | exact Eff.refl _ _ | refine (State.anyEdge_eff _ _ _ _).step rfl ?_ | refine (State.countedEdge_eff _ _ _).step rfl ?_ | refine (State.quadB_eff _ _ _ _).step rfl ?_ | refine (State.stampTo_eff _ _).step rfl ?_ | refine Eff.ite ?_ ?_ | split | dsimp only

theorem execPinRunloRead_eff (n : Nat) (s : State) : OutEff 4 s (execPinRunloRead n s) := by
  unfold execPinRunloRead
  with_reducible repeat' first | refine OutEff.guard ?_ | refine OutEff.next ?_ | assumption | exact Eff.refl _ _ | refine (State.set_eff _ _ _).step rfl ?_ | refine Eff.ite ?_ ?_ | split | dsimp only

theorem execPulsePhaseRemoved_eff (n : Nat) (d : Nat) (w : Nat) (s : State) : OutEff 5775655371150 s (execPulsePhaseRemoved n d w s) := by
  unfold execPulsePhaseRemoved
  with_reducible repeat' first | refine OutEff.guard ?_ | refine OutEff.next ?_ | assumption | exact Eff.refl _ _ | refine (State.overrate_eff _ _ _).step rfl ?_ | refine (State.pulseLevel_eff _ _ _ _).step rfl ?_ | refine (State.setPulse_eff _ _ _).step rfl ?_ | refine (State.settle_eff _).step rfl ?_ | refine (State.stampTo_eff _ _).step rfl ?_ | refine Eff.ite ?_ ?_ | split | refine Eff.upd_freeCtr ?_ rfl (by simp) | dsimp only

theorem execPulseStuckTimeout_eff (n : Nat) (s : State) : OutEff 5775655371148 s (execPulseStuckTimeout n s) := by
  unfold execPulseStuckTimeout
  with_reducible repeat' first | refine OutEff.guard ?_ | refine OutEff.next ?_ | assumption | exact Eff.refl _ _ | refine (State.set_eff _ _ _).step rfl ?_ | refine (State.settle_eff _).step rfl ?_ | refine (State.stampTo_eff _ _).step rfl ?_ | refine (State.stuckSet_eff _ _).step rfl ?_ | refine Eff.ite ?_ ?_ | split | dsimp only

theorem execPulseUncountedEdge_eff (n : Nat) (d : Nat) (s : State) : OutEff 5775655371148 s (execPulseUncountedEdge n d s) := by
  unfold execPulseUncountedEdge
  with_reducible repeat' first | refine OutEff.guard ?_ | refine OutEff.next ?_ | assumption | exact Eff.refl _ _ | refine (State.pulseLevel_eff _ _ _ _).step rfl ?_ | refine (State.settle_eff _).step rfl ?_ | refine (State.stampTo_eff _ _).step rfl ?_ | refine Eff.ite ?_ ?_ | split | dsimp only

theorem execModulatorWarmEnd_eff (n : Nat) (s : State) : OutEff 5775655371148 s (execModulatorWarmEnd n s) := by
  unfold execModulatorWarmEnd
  with_reducible repeat' first | refine OutEff.guard ?_ | refine OutEff.next ?_ | assumption | exact Eff.refl _ _ | refine (State.advanceTo_eff _ _).step rfl ?_ | refine (State.settle_eff _).step rfl ?_ | refine Eff.ite ?_ ?_ | split | dsimp only

theorem State.settingsRelease_eff (s : State) (x1 : List (Nat × Word)) : Eff 4673465679876 s (State.settingsRelease s x1) := by
  induction x1 generalizing s with
  | nil => exact Eff.refl _ _
  | cons y ys ih =>
    unfold State.settingsRelease
    with_reducible repeat' first | assumption | exact Eff.refl _ _ | refine (ih _).step rfl ?_ | refine (State.settingApply_eff _ _ _).step rfl ?_ | refine Eff.ite ?_ ?_ | split | refine Eff.upd_front ?_ rfl | dsimp only

theorem execPulseEdge_eff (n : Nat) (d : Nat) (s : State) : OutEff 5775655371148 s (execPulseEdge n d s) := by
  unfold execPulseEdge
  with_reducible repeat' first | refine OutEff.guard ?_ | refine OutEff.next ?_ | assumption | exact Eff.refl _ _ | refine (State.pulseLevel_eff _ _ _ _).step rfl ?_ | refine (State.settle_eff _).step rfl ?_ | refine (State.stampTo_eff _ _).step rfl ?_ | refine Eff.ite ?_ ?_ | split | dsimp only

end Sys2Proof.Machine
end

