-- ==== Sys2Proof/Laws/EffCalib.lean ====
section
/-! SUPPORT. What every operation of Machine/Calib.lean may change, and that it keeps the canonical forms and lowers no rising counter (Effect.lean). -/

namespace Sys2Proof.Machine

theorem State.calShow_eff (s : State) : Eff 4 s (State.calShow s) := by
  unfold State.calShow
  with_reducible repeat' first | assumption | exact Eff.refl _ _ | refine (State.set_eff _ _ _).step rfl ?_ | refine Eff.ite ?_ ?_ | split | dsimp only

theorem State.qualSet_eff (s : State) (kind : Nat) (ch : Nat) (res : Int) : Eff 1073741828 s (State.qualSet s kind ch res) := by
  unfold State.qualSet
  with_reducible repeat' first | assumption | exact Eff.refl _ _ | refine (State.setI_eff _ _ _).step rfl ?_ | refine Eff.ite ?_ ?_ | split | refine Eff.upd_cal ?_ rfl | dsimp only

theorem State.calCmdEnd_eff (s : State) : Eff 4674535228164 s (State.calCmdEnd s) := by
  unfold State.calCmdEnd
  with_reducible repeat' first | assumption | exact Eff.refl _ _ | refine (State.result_eff _ _ _ _ _).step rfl ?_ | refine Eff.ite ?_ ?_ | split | refine Eff.upd_gw_cal ?_ rfl rfl  | refine Eff.upd_gw ?_ rfl | refine Eff.upd_cal ?_ rfl | dsimp only

theorem State.paramPages_eff (s : State) (id : Nat) (x2 : List Nat) : Eff 1099545182216 s (State.paramPages s id x2) := by
  induction x2 generalizing s id with
  | nil => exact Eff.refl _ _
  | cons y ys ih =>
    unfold State.paramPages
    with_reducible repeat' first | assumption | exact Eff.refl _ _ | refine (ih _ _).step rfl ?_ | refine (State.paramPage_eff _ _ _).step rfl ?_ | refine (State.setPair_eff _ _ _).step rfl ?_ | refine Eff.ite ?_ ?_ | split | dsimp only

theorem State.paramSet_eff (s : State) (acc : Nat) (id : Nat) (slot : Nat) (old : Nat) (new : Nat) : Eff 14569099715020 s (State.paramSet s acc id slot old new) := by
  unfold State.paramSet
  with_reducible repeat' first | assumption | exact Eff.refl _ _ | refine (State.auditPutAs_eff _ _ _ _ _).step rfl ?_ | refine (State.ctlWrite_eff _ _ _).step rfl ?_ | refine (State.paramPages_eff _ _ _).step rfl ?_ | refine Eff.ite ?_ ?_ | split | refine Eff.upd_sealc_params ?_ rfl rfl  (by simp) | refine Eff.upd_sealc ?_ rfl (by simp <;> omega) | refine Eff.upd_params ?_ rfl | dsimp only

theorem State.auditAtOnce_eff (s : State) (kind : Nat) (stream : Nat) (data : List Byte) : Eff 13469554524556 s (State.auditAtOnce s kind stream data) := by
  unfold State.auditAtOnce
  with_reducible repeat' first | assumption | exact Eff.refl _ _ | refine (State.auditPrograms_eff _ _).step rfl ?_ | refine (State.auditPut_eff _ _ _ _).step rfl ?_ | refine Eff.ite ?_ ?_ | split | refine Eff.upd_audit ?_ rfl (by simp) | dsimp only

theorem State.marksReach_eff (s : State) (x1 : List Nat) : Eff 1073741824 s (State.marksReach s x1) := by
  induction x1 generalizing s with
  | nil => exact Eff.refl _ _
  | cons y ys ih =>
    unfold State.marksReach
    with_reducible repeat' first | assumption | exact Eff.refl _ _ | refine (ih _).step rfl ?_ | refine (State.markReach_eff _ _).step rfl ?_ | refine Eff.ite ?_ ?_ | split | dsimp only

theorem State.calAccept_eff (s : State) (kind : Nat) (ch : Nat) (j : Nat) (m : Int) (res : Int) : Eff 13470645043596 s (State.calAccept s kind ch j m res) := by
  unfold State.calAccept
  with_reducible repeat' first | assumption | exact Eff.refl _ _ | refine (State.auditAtOnce_eff _ _ _ _).step rfl ?_ | refine (State.calStore_eff _).step rfl ?_ | refine (State.marksReach_eff _ _).step rfl ?_ | refine (State.qualSet_eff _ _ _ _).step rfl ?_ | refine (State.rampShow_eff _).step rfl ?_ | refine (State.sat_eff _ _ _).step rfl ?_ | refine Eff.ite ?_ ?_ | split | refine Eff.upd_fabric_cal ?_ rfl rfl  | refine Eff.upd_cal ?_ rfl | refine Eff.upd_fabric ?_ rfl | dsimp only

theorem State.calPostpone_eff (s : State) (j : CalJob) : Eff 4674535228164 s (State.calPostpone s j) := by
  unfold State.calPostpone
  with_reducible repeat' first | assumption | exact Eff.refl _ _ | refine (State.calCmdEnd_eff _).step rfl ?_ | refine (State.set_eff _ _ _).step rfl ?_ | refine Eff.ite ?_ ?_ | split | refine Eff.upd_cal ?_ rfl | dsimp only

theorem State.zeroJudge_eff (s : State) (z : ZeroCal) : Eff 14570173457358 s (State.zeroJudge s z) := by
  unfold State.zeroJudge
  with_reducible repeat' first | assumption | exact Eff.refl _ _ | refine (State.auditPutAs_eff _ _ _ _ _).step rfl ?_ | refine (State.calShow_eff _).step rfl ?_ | refine (State.markReach_eff _ _).step rfl ?_ | refine (State.paramSet_eff _ _ _ _ _ _).step rfl ?_ | refine (State.result_eff _ _ _ _ _).step rfl ?_ | refine Eff.ite ?_ ?_ | split | refine Eff.upd_freeCtr_gw_cal ?_ rfl rfl rfl  (by simp) | refine Eff.upd_freeCtr ?_ rfl (by simp) | refine Eff.upd_gw ?_ rfl | refine Eff.upd_cal ?_ rfl | dsimp only

theorem execZeroCalEnd_eff (s : State) : OutEff 14570173457358 s (execZeroCalEnd s) := by
  unfold execZeroCalEnd
  with_reducible repeat' first | refine OutEff.guard ?_ | refine OutEff.next ?_ | assumption | exact Eff.refl _ _ | refine (State.zeroJudge_eff _ _).step rfl ?_ | refine Eff.ite ?_ ?_ | split | dsimp only

theorem State.calHold_eff (s : State) (e : Nat) (x2 : List Nat) : Eff 20971524 s (State.calHold s e x2) := by
  induction x2 generalizing s e with
  | nil => exact Eff.refl _ _
  | cons y ys ih =>
    unfold State.calHold
    with_reducible repeat' first | assumption | exact Eff.refl _ _ | refine (ih _ _).step rfl ?_ | refine (State.chainsHold_eff _ _ _ _).step rfl ?_ | refine (State.sdOn_eff _ _).step rfl ?_ | refine (State.set_eff _ _ _).step rfl ?_ | refine Eff.ite ?_ ?_ | split | dsimp only

theorem State.calBegin_eff (s : State) (j : CalJob) (t : Nat) (forced : Bool) : Eff 1095761924 s (State.calBegin s j t forced) := by
  unfold State.calBegin
  with_reducible repeat' first | assumption | exact Eff.refl _ _ | refine (State.calHold_eff _ _ _).step rfl ?_ | refine (State.calShow_eff _).step rfl ?_ | refine (State.set_eff _ _ _).step rfl ?_ | refine (State.setLane_eff _ _ _).step rfl ?_ | refine Eff.ite ?_ ?_ | split | refine Eff.upd_cal ?_ rfl | dsimp only

theorem execCalibrationDue_eff (kind : Nat) (ch : Nat) (s : State) : OutEff 5776729112972 s (execCalibrationDue kind ch s) := by
  unfold execCalibrationDue
  with_reducible repeat' first | refine OutEff.guard ?_ | refine OutEff.next ?_ | assumption | exact Eff.refl _ _ | refine (State.advanceTo_eff _ _).step rfl ?_ | refine (State.settle_eff _).step rfl ?_ | refine (State.sleepTo_eff _ _).step rfl ?_ | refine Eff.ite ?_ ?_ | split | refine Eff.upd_cal ?_ rfl | dsimp only

theorem State.calJudge_eff (s : State) (valid : Bool) (cmd : Bool) (kind : Nat) (ch : Nat) (m : Int) (res : Int) : Eff 13470645043596 s (State.calJudge s valid cmd kind ch m res) := by
  unfold State.calJudge
  with_reducible repeat' first | assumption | exact Eff.refl _ _ | refine (State.auditPut_eff _ _ _ _).step rfl ?_ | refine (State.calAccept_eff _ _ _ _ _ _).step rfl ?_ | refine (State.calStore_eff _).step rfl ?_ | refine (State.sat_eff _ _ _).step rfl ?_ | refine (State.set_eff _ _ _).step rfl ?_ | refine Eff.ite ?_ ?_ | split | refine Eff.upd_cal ?_ rfl | dsimp only

theorem State.calRelease_eff (s : State) (e : Nat) (x2 : List Nat) : Eff 20971524 s (State.calRelease s e x2) := by
  induction x2 generalizing s e with
  | nil => exact Eff.refl _ _
  | cons y ys ih =>
    unfold State.calRelease
    with_reducible repeat' first | assumption | exact Eff.refl _ _ | refine (ih _ _).step rfl ?_ | refine (State.chainsHold_eff _ _ _ _).step rfl ?_ | refine (State.sdOff_eff _ _).step rfl ?_ | refine (State.set_eff _ _ _).step rfl ?_ | refine Eff.ite ?_ ?_ | split | dsimp only

theorem execCalibrationStart_eff (s : State) : OutEff 5776730162060 s (execCalibrationStart s) := by
  unfold execCalibrationStart
  with_reducible repeat' first | refine OutEff.guard ?_ | refine OutEff.next ?_ | assumption | exact Eff.refl _ _ | refine (State.advanceTo_eff _ _).step rfl ?_ | refine (State.calBegin_eff _ _ _ _).step rfl ?_ | refine (State.calPostpone_eff _ _).step rfl ?_ | refine (State.settle_eff _).step rfl ?_ | refine Eff.ite ?_ ?_ | split | dsimp only

theorem execCalibrationHoldEnd_eff (valid : Bool) (m0 : Int) (m1 : Int) (res0 : Int) (res1 : Int) (s : State) : OutEff 14572822152076 s (execCalibrationHoldEnd valid m0 m1 res0 res1 s) := by
  unfold execCalibrationHoldEnd
  with_reducible repeat' first | refine OutEff.guard ?_ | refine OutEff.next ?_ | assumption | exact Eff.refl _ _ | refine (State.advanceTo_eff _ _).step rfl ?_ | refine (State.calCmdEnd_eff _).step rfl ?_ | refine (State.calJudge_eff _ _ _ _ _ _ _).step rfl ?_ | refine (State.calRelease_eff _ _ _).step rfl ?_ | refine (State.calShow_eff _).step rfl ?_ | refine (State.icEdge_eff _ _ _).step rfl ?_ | refine (State.settingsRelease_eff _ _).step rfl ?_ | refine (State.settle_eff _).step rfl ?_ | refine Eff.ite ?_ ?_ | split | refine Eff.upd_cal ?_ rfl | dsimp only

end Sys2Proof.Machine
end

