-- ==== Sys2Proof/Laws/EffGwOps.lean ====
section
/-! SUPPORT. What every operation of Machine/GwOps.lean may change, and that it keeps the canonical forms and lowers no rising counter (Effect.lean). -/

namespace Sys2Proof.Machine

theorem State.gwPut_eff (s : State) (x1 : Nat) (x2 : List Word) : Eff 4 s (State.gwPut s x1 x2) := by
  induction x2 generalizing s x1 with
  | nil => exact Eff.refl _ _
  | cons y ys ih =>
    unfold State.gwPut
    with_reducible repeat' first | assumption | exact Eff.refl _ _ | refine (ih _ _).step rfl ?_ | refine (State.setW_eff _ _ _).step rfl ?_ | refine Eff.ite ?_ ?_ | split | dsimp only

theorem State.gwCounter_eff (s : State) (c : GwCmd) : Eff 8796093041672 s (State.gwCounter s c) := by
  unfold State.gwCounter
  with_reducible repeat' first | assumption | exact Eff.refl _ _ | refine (State.keysWrite_eff _ _).step rfl ?_ | refine Eff.ite ?_ ?_ | split | dsimp only

theorem State.gwHold_eff (s : State) (code : Nat) : Eff 512 s (State.gwHold s code) := by
  unfold State.gwHold
  with_reducible repeat' first | assumption | exact Eff.refl _ _ | refine Eff.ite ?_ ?_ | split | refine Eff.upd_gw ?_ rfl | dsimp only

theorem State.gwLog_eff (s : State) (code : Nat) (c : GwCmd) : Eff 4673461485956 s (State.gwLog s code c) := by
  unfold State.gwLog
  with_reducible repeat' first | assumption | exact Eff.refl _ _ | refine (State.auditPut_eff _ _ _ _).step rfl ?_ | refine Eff.ite ?_ ?_ | split | dsimp only

theorem State.gwShow_eff (s : State) (st : Nat) (reason : Nat) (tag : Nat) : Eff 4673461485572 s (State.gwShow s st reason tag) := by
  unfold State.gwShow
  with_reducible repeat' first | assumption | exact Eff.refl _ _ | refine (State.icEdge_eff _ _ _).step rfl ?_ | refine (State.set_eff _ _ _).step rfl ?_ | refine Eff.ite ?_ ?_ | split | dsimp only

theorem State.gwVerified_eff (s : State) (c : GwCmd) (r : Nat) : Eff 4673461485572 s (State.gwVerified s c r) := by
  unfold State.gwVerified
  with_reducible repeat' first | assumption | exact Eff.refl _ _ | refine (State.icEdge_eff _ _ _).step rfl ?_ | refine Eff.ite ?_ ?_ | split | dsimp only

theorem State.gwRun_eff {F : Nat} (s : State) (code : Nat) (c : GwCmd) (act : State → State) (hF : F.land 13469554528140 = 13469554528140) (ha : ∀ t, Eff F t (act t)) : Eff F s (s.gwRun code c act) := by
  have hm : ∀ t : State, Eff 13469554528140 s t → Eff F s t := fun t h => h.mono hF
  have hs : F.land F = F := Nat.and_self F
  unfold State.gwRun
  dsimp only
  refine Eff.ite ?_ (hm _ ((State.gwShow_eff _ _ _ _).step rfl ((State.gwVerified_eff _ _ _).mono rfl)))
  exact (ha _).step hs (hm _ ((State.gwLog_eff _ _ _).step rfl ((State.gwCounter_eff _ _).step rfl ((State.gwHold_eff _ _).step rfl ((State.gwShow_eff _ _ _ _).step rfl ((State.gwVerified_eff _ _ _).mono rfl))))))

end Sys2Proof.Machine
end

