-- ==== Sys2Proof/Laws/EffCsp.lean ====
section
/-! SUPPORT. What every operation of Machine/Csp.lean may change, and that it keeps the canonical forms and lowers no rising counter (Effect.lean). -/

namespace Sys2Proof.Machine

theorem State.cspIrq_eff (s : State) (n : Nat) : Eff 4673461485572 s (State.cspIrq s n) := by
  unfold State.cspIrq
  with_reducible repeat' first | assumption | exact Eff.refl _ _ | refine (State.icSample_eff _ _ _).step rfl ?_ | refine Eff.ite ?_ ?_ | split | dsimp only

theorem State.setCspp_eff (s : State) (n : Nat) (x : CspPort) : Eff 17179869188 s (State.setCspp s n x) := by
  unfold State.setCspp
  with_reducible repeat' first | assumption | exact Eff.refl _ _ | refine (State.set_eff _ _ _).step rfl ?_ | refine Eff.ite ?_ ?_ | split | refine Eff.upd_csp ?_ rfl | dsimp only

theorem State.cspEnd_eff (s : State) (n : Nat) (res : Nat) : Eff 4690641354756 s (State.cspEnd s n res) := by
  unfold State.cspEnd
  with_reducible repeat' first | assumption | exact Eff.refl _ _ | refine (State.cspIrq_eff _ _).step rfl ?_ | refine (State.set_eff _ _ _).step rfl ?_ | refine (State.setCspp_eff _ _ _).step rfl ?_ | refine Eff.ite ?_ ?_ | split | dsimp only

theorem State.cspAbort_eff (s : State) (n : Nat) : Eff 4690641354756 s (State.cspAbort s n) := by
  unfold State.cspAbort
  with_reducible repeat' first | assumption | exact Eff.refl _ _ | refine (State.cspEnd_eff _ _ _).step rfl ?_ | refine Eff.ite ?_ ?_ | split | dsimp only

theorem State.cspFlag_eff (s : State) (n : Nat) (f : Fld) : Eff 4673461485572 s (State.cspFlag s n f) := by
  unfold State.cspFlag
  with_reducible repeat' first | assumption | exact Eff.refl _ _ | refine (State.cspIrq_eff _ _).step rfl ?_ | refine (State.set_eff _ _ _).step rfl ?_ | refine Eff.ite ?_ ?_ | split | dsimp only

theorem State.cspFormat_eff (s : State) (n : Nat) : Eff 4673461485572 s (State.cspFormat s n) := by
  unfold State.cspFormat
  with_reducible repeat' first | assumption | exact Eff.refl _ _ | refine (State.cspIrq_eff _ _).step rfl ?_ | refine (State.set_eff _ _ _).step rfl ?_ | refine Eff.ite ?_ ?_ | split | dsimp only

theorem State.cspGo_eff (s : State) (n : Nat) : Eff 4725001093124 s (State.cspGo s n) := by
  unfold State.cspGo
  with_reducible repeat' first | assumption | exact Eff.refl _ _ | refine (State.auxOn_eff _).step rfl ?_ | refine (State.cspFlag_eff _ _ _).step rfl ?_ | refine (State.cspFormat_eff _ _).step rfl ?_ | refine (State.set_eff _ _ _).step rfl ?_ | refine (State.setCspp_eff _ _ _).step rfl ?_ | refine Eff.ite ?_ ?_ | split | refine Eff.upd_cspx ?_ rfl | dsimp only

theorem State.cspTx_eff (s : State) (n : Nat) (v : Nat) : Eff 4690641354756 s (State.cspTx s n v) := by
  unfold State.cspTx
  with_reducible repeat' first | assumption | exact Eff.refl _ _ | refine (State.cspFlag_eff _ _ _).step rfl ?_ | refine (State.setCspp_eff _ _ _).step rfl ?_ | refine Eff.ite ?_ ?_ | split | dsimp only

theorem State.cspClock_eff (s : State) (n : Nat) (t : Nat) : Eff 17179869188 s (State.cspClock s n t) := by
  unfold State.cspClock
  with_reducible repeat' first | assumption | exact Eff.refl _ _ | refine (State.setCspp_eff _ _ _).step rfl ?_ | refine Eff.ite ?_ ?_ | split | dsimp only

theorem State.cspFree_eff (s : State) (n : Nat) (wire : List Byte) : Eff 2 s (State.cspFree s n wire) := by
  unfold State.cspFree
  with_reducible repeat' first | assumption | exact Eff.refl _ _ | refine Eff.ite ?_ ?_ | split | refine Eff.upd_freeCtr ?_ rfl (by simp) | dsimp only

theorem State.headed_eff (s : State) (n : Nat) (h : List CspPhase) : Eff 17179869188 s (State.headed s n h) := by
  unfold State.headed
  with_reducible repeat' first | assumption | exact Eff.refl _ _ | refine (State.setCspp_eff _ _ _).step rfl ?_ | refine Eff.ite ?_ ?_ | split | dsimp only

theorem State.sfdpPut_eff (s : State) (bs : List Byte) (x2 : Nat) : Eff 4 s (State.sfdpPut s bs x2) := by
  induction x2 generalizing s bs with
  | zero => exact Eff.refl _ _
  | succ y ih =>
    unfold State.sfdpPut
    with_reducible repeat' first | assumption | exact Eff.refl _ _ | refine (ih _ _).step rfl ?_ | refine (State.set_eff _ _ _).step rfl ?_ | refine Eff.ite ?_ ?_ | split | dsimp only

theorem State.discover_eff (s : State) (sfdp : List Byte) : Eff 4725001093126 s (State.discover s sfdp) := by
  unfold State.discover
  with_reducible repeat' first | assumption | exact Eff.refl _ _ | refine (State.auxOn_eff _).step rfl ?_ | refine (State.cspClock_eff _ _ _).step rfl ?_ | refine (State.cspFlag_eff _ _ _).step rfl ?_ | refine (State.cspFree_eff _ _ _).step rfl ?_ | refine (State.headed_eff _ _ _).step rfl ?_ | refine (State.set_eff _ _ _).step rfl ?_ | refine (State.sfdpPut_eff _ _ _).step rfl ?_ | refine Eff.ite ?_ ?_ | split | refine Eff.upd_cspx ?_ rfl | dsimp only

theorem State.cspLoad_eff (s : State) (a : Nat) : Eff 4673461485574 s (s.cspLoad a).1 := by
  unfold State.cspLoad
  dsimp only
  split
  · exact (State.busError_eff _ _ _ _ _ _).mono rfl
  · split
    · exact Eff.upd_freeCtr (Eff.refl _ _) rfl (Nat.le_succ _)
    · exact Eff.refl _ _

theorem State.cspTake_eff (s : State) (n : Nat) (b : Byte) : Eff 17179869188 s (State.cspTake s n b) := by
  unfold State.cspTake
  with_reducible repeat' first | assumption | exact Eff.refl _ _ | refine (State.setCspp_eff _ _ _).step rfl ?_ | refine Eff.ite ?_ ?_ | split | dsimp only

theorem State.cspDuplex_eff (s : State) (n : Nat) (b : Byte) : Eff 17179869188 s (State.cspDuplex s n b) := by
  unfold State.cspDuplex
  with_reducible repeat' first | assumption | exact Eff.refl _ _ | refine (State.cspTake_eff _ _ _).step rfl ?_ | refine Eff.ite ?_ ?_ | split | dsimp only

theorem State.cspByte_eff (s : State) (n : Nat) (b : Byte) : Eff 5792690536846 s (State.cspByte s n b) := by
  unfold State.cspByte
  with_reducible repeat' first | assumption | exact Eff.refl _ _ | refine (State.busStore_eff _ _ _ _ _).step rfl ?_ | refine (State.cspDuplex_eff _ _ _).step rfl ?_ | refine (State.cspEnd_eff _ _ _).step rfl ?_ | refine (State.cspLoad_eff _ _).step rfl ?_ | refine (State.cspTake_eff _ _ _).step rfl ?_ | refine (State.setCspp_eff _ _ _).step rfl ?_ | refine Eff.ite ?_ ?_ | split | dsimp only

theorem State.cspTargetByte_eff (s : State) (n : Nat) (b : Byte) : Eff 4690641354756 s (State.cspTargetByte s n b) := by
  unfold State.cspTargetByte
  with_reducible repeat' first | assumption | exact Eff.refl _ _ | refine (State.cspFlag_eff _ _ _).step rfl ?_ | refine (State.cspTake_eff _ _ _).step rfl ?_ | refine (State.setCspp_eff _ _ _).step rfl ?_ | refine Eff.ite ?_ ?_ | split | dsimp only

theorem State.cspMove_eff (s : State) (n : Nat) (x2 : List Byte) : Eff 5792690536846 s (State.cspMove s n x2) := by
  induction x2 generalizing s n with
  | nil => exact Eff.refl _ _
  | cons y ys ih =>
    unfold State.cspMove
    with_reducible repeat' first | assumption | exact Eff.refl _ _ | refine (ih _ _).step rfl ?_ | refine (State.cspByte_eff _ _ _).step rfl ?_ | refine (State.cspTargetByte_eff _ _ _).step rfl ?_ | refine Eff.ite ?_ ?_ | split | dsimp only

theorem State.cspRun_eff (s : State) (n : Nat) (wire : List Byte) : Eff 5792690536846 s (State.cspRun s n wire) := by
  unfold State.cspRun
  with_reducible repeat' first | assumption | exact Eff.refl _ _ | refine (State.cspFree_eff _ _ _).step rfl ?_ | refine (State.cspMove_eff _ _ _).step rfl ?_ | refine (State.setCspp_eff _ _ _).step rfl ?_ | refine Eff.ite ?_ ?_ | split | dsimp only

theorem State.cspTail_eff (s : State) (n : Nat) : Eff 5792690536846 s (State.cspTail s n) := by
  unfold State.cspTail
  with_reducible repeat' first | assumption | exact Eff.refl _ _ | refine (State.cspEnd_eff _ _ _).step rfl ?_ | refine (State.cspMove_eff _ _ _).step rfl ?_ | refine Eff.ite ?_ ?_ | split | dsimp only

theorem State.cspRx_eff (s : State) (n : Nat) : Eff 5792690536846 s (State.cspRx s n) := by
  unfold State.cspRx
  with_reducible repeat' first | assumption | exact Eff.refl _ _ | refine (State.cspFlag_eff _ _ _).step rfl ?_ | refine (State.cspTail_eff _ _).step rfl ?_ | refine (State.set_eff _ _ _).step rfl ?_ | refine (State.setCspp_eff _ _ _).step rfl ?_ | refine Eff.ite ?_ ?_ | split | dsimp only

theorem execCspRxdata_eff (n : Nat) (wire : List Byte) (s : State) : OutEff 5792690536846 s (execCspRxdata n wire s) := by
  unfold execCspRxdata
  with_reducible repeat' first | refine OutEff.guard ?_ | refine OutEff.next ?_ | assumption | exact Eff.refl _ _ | refine (State.cspRun_eff _ _ _).step rfl ?_ | refine (State.cspRx_eff _ _).step rfl ?_ | refine Eff.ite ?_ ?_ | split | dsimp only

theorem State.xipFill_eff (s : State) (ln : Nat) (how : Nat) (data : List Byte) (dqsTo : Bool) : Eff 4725001093126 s (State.xipFill s ln how data dqsTo) := by
  unfold State.xipFill
  with_reducible repeat' first | assumption | exact Eff.refl _ _ | refine (State.auxOn_eff _).step rfl ?_ | refine (State.cspClock_eff _ _ _).step rfl ?_ | refine (State.cspFlag_eff _ _ _).step rfl ?_ | refine (State.cspFree_eff _ _ _).step rfl ?_ | refine (State.headed_eff _ _ _).step rfl ?_ | refine (State.set_eff _ _ _).step rfl ?_ | refine Eff.ite ?_ ?_ | split | refine Eff.upd_cspx ?_ rfl | dsimp only

theorem execContMaxExpiry_eff (s : State) : OutEff 34359738368 s (execContMaxExpiry s) := by
  unfold execContMaxExpiry
  with_reducible repeat' first | refine OutEff.guard ?_ | refine OutEff.next ?_ | assumption | exact Eff.refl _ _ | refine Eff.ite ?_ ?_ | split | refine Eff.upd_cspx ?_ rfl | dsimp only

theorem execXipFetch_eff (master : Nat) (addr : Nat) (data : List Byte) (dqsTo : Bool) (s : State) : OutEff 4725001093126 s (execXipFetch master addr data dqsTo s) := by
  unfold execXipFetch
  with_reducible repeat' first | refine OutEff.guard ?_ | refine OutEff.next ?_ | assumption | exact Eff.refl _ _ | refine (State.busError_eff _ _ _ _ _ _).step rfl ?_ | refine (State.cspFormat_eff _ _).step rfl ?_ | refine (State.xipFill_eff _ _ _ _ _).step rfl ?_ | refine Eff.ite ?_ ?_ | split | refine Eff.upd_cspx ?_ rfl | dsimp only

theorem execCspTxdata_eff (n : Nat) (wire : List Byte) (value : Word) (s : State) : OutEff 5792690536846 s (execCspTxdata n wire value s) := by
  unfold execCspTxdata
  with_reducible repeat' first | refine OutEff.guard ?_ | refine OutEff.next ?_ | assumption | exact Eff.refl _ _ | refine (State.cspRun_eff _ _ _).step rfl ?_ | refine (State.cspTx_eff _ _ _).step rfl ?_ | refine Eff.ite ?_ ?_ | split | dsimp only

theorem execCspGo_eff (n : Nat) (s : State) : OutEff 4725001093124 s (execCspGo n s) := by
  unfold execCspGo
  with_reducible repeat' first | refine OutEff.guard ?_ | refine OutEff.next ?_ | assumption | exact Eff.refl _ _ | refine (State.cspGo_eff _ _).step rfl ?_ | refine Eff.ite ?_ ?_ | split | dsimp only

theorem execModeFault_eff (n : Nat) (wire : List Byte) (s : State) : OutEff 5792690536846 s (execModeFault n wire s) := by
  unfold execModeFault
  with_reducible repeat' first | refine OutEff.guard ?_ | refine OutEff.next ?_ | assumption | exact Eff.refl _ _ | refine (State.cspEnd_eff _ _ _).step rfl ?_ | refine (State.cspIrq_eff _ _).step rfl ?_ | refine (State.cspMove_eff _ _ _).step rfl ?_ | refine (State.set_eff _ _ _).step rfl ?_ | refine (State.setCspp_eff _ _ _).step rfl ?_ | refine Eff.ite ?_ ?_ | split | dsimp only

theorem execCspFrameEnd_eff (n : Nat) (wire : List Byte) (dqsTo : Bool) (s : State) : OutEff 5792690536846 s (execCspFrameEnd n wire dqsTo s) := by
  unfold execCspFrameEnd
  with_reducible repeat' first | refine OutEff.guard ?_ | refine OutEff.next ?_ | assumption | exact Eff.refl _ _ | refine (State.cspEnd_eff _ _ _).step rfl ?_ | refine (State.cspFlag_eff _ _ _).step rfl ?_ | refine (State.cspFree_eff _ _ _).step rfl ?_ | refine (State.cspMove_eff _ _ _).step rfl ?_ | refine (State.cspTail_eff _ _).step rfl ?_ | refine (State.setCspp_eff _ _ _).step rfl ?_ | refine Eff.ite ?_ ?_ | split | dsimp only

theorem execTargetSelectionEnd_eff (n : Nat) (wire : List Byte) (s : State) : OutEff 5792690536846 s (execTargetSelectionEnd n wire s) := by
  unfold execTargetSelectionEnd
  with_reducible repeat' first | refine OutEff.guard ?_ | refine OutEff.next ?_ | assumption | exact Eff.refl _ _ | refine (State.cspFlag_eff _ _ _).step rfl ?_ | refine (State.cspRun_eff _ _ _).step rfl ?_ | refine (State.setCspp_eff _ _ _).step rfl ?_ | refine Eff.ite ?_ ?_ | split | dsimp only

theorem execDiscover_eff (sfdp : List Byte) (s : State) : OutEff 4725001093126 s (execDiscover sfdp s) := by
  unfold execDiscover
  with_reducible repeat' first | refine OutEff.guard ?_ | refine OutEff.next ?_ | assumption | exact Eff.refl _ _ | refine (State.discover_eff _ _).step rfl ?_ | refine Eff.ite ?_ ?_ | split | dsimp only

theorem execCspAbort_eff (n : Nat) (wire : List Byte) (s : State) : OutEff 5792690536846 s (execCspAbort n wire s) := by
  unfold execCspAbort
  with_reducible repeat' first | refine OutEff.guard ?_ | refine OutEff.next ?_ | assumption | exact Eff.refl _ _ | refine (State.cspAbort_eff _ _).step rfl ?_ | refine (State.cspRun_eff _ _ _).step rfl ?_ | refine Eff.ite ?_ ?_ | split | dsimp only

end Sys2Proof.Machine
end

