-- ==== Sys2Proof/Laws/EffEcho.lean ====
section
/-! SUPPORT. What every operation of Machine/Echo.lean may change, and that it keeps the canonical forms and lowers no rising counter (Effect.lean). -/

namespace Sys2Proof.Machine

theorem State.echoClear_eff (s : State) (mask : Nat) (x2 : List Nat) : Eff 4 s (State.echoClear s mask x2) := by
  induction x2 generalizing s mask with
  | nil => exact Eff.refl _ _
  | cons y ys ih =>
    unfold State.echoClear
    with_reducible repeat' first | assumption | exact Eff.refl _ _ | refine (ih _ _).step rfl ?_ | refine (State.setW_eff _ _ _).step rfl ?_ | refine Eff.ite ?_ ?_ | split | dsimp only

theorem execEchoClr_eff (value : Word) (s : State) : OutEff 4 s (execEchoClr value s) := by
  unfold execEchoClr
  with_reducible repeat' first | refine OutEff.guard ?_ | refine OutEff.next ?_ | assumption | exact Eff.refl _ _ | refine (State.echoClear_eff _ _ _).step rfl ?_ | refine Eff.ite ?_ ?_ | split | dsimp only

theorem execEchoWatchdog_eff (e : Nat) (s : State) : OutEff 4675611066766 s (execEchoWatchdog e s) := by
  unfold execEchoWatchdog
  with_reducible repeat' first | refine OutEff.guard ?_ | refine OutEff.next ?_ | assumption | exact Eff.refl _ _ | refine (State.echoRun_eff _ _ _).step rfl ?_ | refine (State.fault_eff _ _ _ _ _).step rfl ?_ | refine (State.raise_eff _ _ _ _).step rfl ?_ | refine Eff.ite ?_ ?_ | split | dsimp only

theorem execEchoJob_eff (e : Nat) (s : State) : OutEff 4675611066766 s (execEchoJob e s) := by
  unfold execEchoJob
  with_reducible repeat' first | refine OutEff.guard ?_ | refine OutEff.next ?_ | assumption | exact Eff.refl _ _ | refine (State.echoRun_eff _ _ _).step rfl ?_ | refine Eff.ite ?_ ?_ | split | dsimp only

end Sys2Proof.Machine
end

