-- ==== Sys2Proof/Laws/EffIrq.lean ====
section
/-! SUPPORT. What every operation of Machine/Irq.lean may change, and that it keeps the canonical forms and lowers no rising counter (Effect.lean). -/

namespace Sys2Proof.Machine

theorem State.repend_eff (s : State) (c : Nat) (n : Nat) : Eff 4673461485572 s (State.repend s c n) := by
  unfold State.repend
  with_reducible repeat' first | assumption | exact Eff.refl _ _ | refine (State.icHigh_eff _ _ _).step rfl ?_ | refine (State.set_eff _ _ _).step rfl ?_ | refine (State.setIc_eff _ _ _).step rfl ?_ | refine Eff.ite ?_ ?_ | split | dsimp only

theorem State.complete_eff (s : State) (c : Nat) (t : Nat) (n : Nat) : Eff 4673461485572 s (State.complete s c t n) := by
  unfold State.complete
  with_reducible repeat' first | assumption | exact Eff.refl _ _ | refine (State.icUpdate_eff _ _).step rfl ?_ | refine (State.repend_eff _ _ _).step rfl ?_ | refine (State.set_eff _ _ _).step rfl ?_ | refine (State.setIc_eff _ _ _).step rfl ?_ | refine Eff.ite ?_ ?_ | split | dsimp only

theorem State.pendClear_eff (s : State) (c : Nat) (x2 : List Nat) : Eff 4673461485572 s (State.pendClear s c x2) := by
  induction x2 generalizing s c with
  | nil => exact Eff.refl _ _
  | cons y ys ih =>
    unfold State.pendClear
    with_reducible repeat' first | assumption | exact Eff.refl _ _ | refine (ih _ _).step rfl ?_ | refine (State.icSample_eff _ _ _).step rfl ?_ | refine (State.icUpdate_eff _ _).step rfl ?_ | refine (State.set_eff _ _ _).step rfl ?_ | refine (State.setIc_eff _ _ _).step rfl ?_ | refine Eff.ite ?_ ?_ | split | dsimp only

theorem State.reassign_eff (s : State) (c : Nat) (n : Nat) : Eff 4673461485572 s (State.reassign s c n) := by
  unfold State.reassign
  with_reducible repeat' first | assumption | exact Eff.refl _ _ | refine (State.icPend_eff _ _ _).step rfl ?_ | refine (State.icUpdate_eff _ _).step rfl ?_ | refine (State.setIc_eff _ _ _).step rfl ?_ | refine Eff.ite ?_ ?_ | split | dsimp only

theorem State.stormUnmask_eff (s : State) (c : Nat) (x2 : List Nat) : Eff 4673461485572 s (State.stormUnmask s c x2) := by
  induction x2 generalizing s c with
  | nil => exact Eff.refl _ _
  | cons y ys ih =>
    unfold State.stormUnmask
    with_reducible repeat' first | assumption | exact Eff.refl _ _ | refine (ih _ _).step rfl ?_ | refine (State.icSample_eff _ _ _).step rfl ?_ | refine (State.set_eff _ _ _).step rfl ?_ | refine (State.setIc_eff _ _ _).step rfl ?_ | refine Eff.ite ?_ ?_ | split | dsimp only

theorem execStormClear_eff (c : Nat) (k : Nat) (value : Word) (s : State) : OutEff 4673461485572 s (execStormClear c k value s) := by
  unfold execStormClear
  with_reducible repeat' first | refine OutEff.guard ?_ | refine OutEff.next ?_ | assumption | exact Eff.refl _ _ | refine (State.stormUnmask_eff _ _ _).step rfl ?_ | refine Eff.ite ?_ ?_ | split | dsimp only

theorem execComplete_eff (c : Nat) (t : Nat) (value : Word) (s : State) : OutEff 4673461485572 s (execComplete c t value s) := by
  unfold execComplete
  with_reducible repeat' first | refine OutEff.guard ?_ | refine OutEff.next ?_ | assumption | exact Eff.refl _ _ | refine (State.complete_eff _ _ _ _).step rfl ?_ | refine Eff.ite ?_ ?_ | split | dsimp only

theorem execStormWindowEnd_eff (c : Nat) (n : Nat) (s : State) : OutEff 5775655371148 s (execStormWindowEnd c n s) := by
  unfold execStormWindowEnd
  with_reducible repeat' first | refine OutEff.guard ?_ | refine OutEff.next ?_ | assumption | exact Eff.refl _ _ | refine (State.advancePlls_eff _ _).step rfl ?_ | refine (State.setIc_eff _ _ _).step rfl ?_ | refine (State.settle_eff _).step rfl ?_ | refine Eff.ite ?_ ?_ | split | dsimp only

theorem State.claim_eff (s : State) (c : Nat) (t : Nat) : Eff 274878103556 s (State.claim s c t) := by
  unfold State.claim
  with_reducible repeat' first | assumption | exact Eff.refl _ _ | refine (State.icLines_eff _ _ _).step rfl ?_ | refine (State.set_eff _ _ _).step rfl ?_ | refine (State.setB_eff _ _ _).step rfl ?_ | refine (State.setIc_eff _ _ _).step rfl ?_ | refine (State.setW_eff _ _ _).step rfl ?_ | refine Eff.ite ?_ ?_ | split | dsimp only

theorem execClaim_eff (c : Nat) (t : Nat) (s : State) : OutEff 274878103556 s (execClaim c t s) := by
  unfold execClaim
  with_reducible repeat' first | refine OutEff.guard ?_ | refine OutEff.next ?_ | assumption | exact Eff.refl _ _ | refine (State.claim_eff _ _ _).step rfl ?_ | refine Eff.ite ?_ ?_ | split | dsimp only

theorem State.sourceEvent_eff (s : State) (c : Nat) (n : Nat) (level : Bool) : Eff 4673462272004 s (State.sourceEvent s c n level) := by
  unfold State.sourceEvent
  with_reducible repeat' first | assumption | exact Eff.refl _ _ | refine (State.icEdge_eff _ _ _).step rfl ?_ | refine (State.icSample_eff _ _ _).step rfl ?_ | refine Eff.ite ?_ ?_ | split | refine Eff.upd_gpioH ?_ rfl | refine Eff.upd_gpioS ?_ rfl | dsimp only

theorem execInterruptSourceEvent_eff (c : Nat) (n : Nat) (level : Bool) (s : State) : OutEff 4673462272004 s (execInterruptSourceEvent c n level s) := by
  unfold execInterruptSourceEvent
  with_reducible repeat' first | refine OutEff.guard ?_ | refine OutEff.next ?_ | assumption | exact Eff.refl _ _ | refine (State.sourceEvent_eff _ _ _ _).step rfl ?_ | refine Eff.ite ?_ ?_ | split | dsimp only

theorem execModerationTimeout_eff (c : Nat) (t : Nat) (s : State) : OutEff 5775655371148 s (execModerationTimeout c t s) := by
  unfold execModerationTimeout
  with_reducible repeat' first | refine OutEff.guard ?_ | refine OutEff.next ?_ | assumption | exact Eff.refl _ _ | refine (State.advancePlls_eff _ _).step rfl ?_ | refine (State.icLines_eff _ _ _).step rfl ?_ | refine (State.setIc_eff _ _ _).step rfl ?_ | refine (State.settle_eff _).step rfl ?_ | refine Eff.ite ?_ ?_ | split | dsimp only

theorem execMret_eff (core : Nat) (s : State) : OutEff 274878103556 s (execMret core s) := by
  unfold execMret
  with_reducible repeat' first | refine OutEff.guard ?_ | refine OutEff.next ?_ | assumption | exact Eff.refl _ _ | refine (State.icLines_eff _ _ _).step rfl ?_ | refine (State.set_eff _ _ _).step rfl ?_ | refine Eff.ite ?_ ?_ | split | dsimp only

end Sys2Proof.Machine
end

