-- ==== Sys2Proof/Laws/EffMatrix.lean ====
section
/-! SUPPORT. What every operation of Machine/Matrix.lean may change, and that it keeps the canonical forms and lowers no rising counter (Effect.lean). -/

namespace Sys2Proof.Machine

theorem State.cmpTake_eff (s : State) (n : Nat) (reg : Nat) (v : Nat) : Eff 4 s (State.cmpTake s n reg v) := by
  unfold State.cmpTake
  with_reducible repeat' first | assumption | exact Eff.refl _ _ | refine (State.set_eff _ _ _).step rfl ?_ | refine Eff.ite ?_ ?_ | split | dsimp only

theorem State.cmpWrite_eff (s : State) (n : Nat) (reg : Nat) (v : Nat) : Eff 134217732 s (State.cmpWrite s n reg v) := by
  unfold State.cmpWrite
  with_reducible repeat' first | assumption | exact Eff.refl _ _ | refine (State.cmpTake_eff _ _ _ _).step rfl ?_ | refine Eff.ite ?_ ?_ | split | refine Eff.upd_time ?_ rfl | dsimp only

theorem State.release1_eff (s : State) (n : Nat) (k : Nat) : Eff 4675980165516 s (State.release1 s n k) := by
  unfold State.release1
  with_reducible repeat' first | assumption | exact Eff.refl _ _ | refine (State.jobEnd_eff _ _).step rfl ?_ | refine (State.jobSet_eff _ _ _).step rfl ?_ | refine (State.raise_eff _ _ _ _).step rfl ?_ | refine (State.releaseLost_eff _ _ _ _).step rfl ?_ | refine (State.taskDone_eff _ _).step rfl ?_ | refine Eff.ite ?_ ?_ | split | refine Eff.upd_spn ?_ rfl | dsimp only

theorem State.elapsedShift_eff (s : State) (d : Int) : Eff 2339873227264 s (s.elapsedShift d) := by
  unfold State.elapsedShift
  constructor <;> first | exact Nat.le_refl _ | (intro h; first | rfl | exact absurd h (by decide) | exact h)

theorem State.resumeLost_eff (s : State) (n : Nat) (x2 : List Nat) : Eff 4675978068364 s (State.resumeLost s n x2) := by
  induction x2 generalizing s n with
  | nil => exact Eff.refl _ _
  | cons y ys ih =>
    unfold State.resumeLost
    with_reducible repeat' first | assumption | exact Eff.refl _ _ | refine (ih _ _).step rfl ?_ | refine (State.jobEnd_eff _ _).step rfl ?_ | refine (State.releaseLost_eff _ _ _ _).step rfl ?_ | refine Eff.ite ?_ ?_ | split | dsimp only

theorem State.releases_eff (s : State) (n : Nat) (x2 : List Nat) : Eff 4675980165516 s (State.releases s n x2) := by
  induction x2 generalizing s n with
  | nil => exact Eff.refl _ _
  | cons y ys ih =>
    unfold State.releases
    with_reducible repeat' first | assumption | exact Eff.refl _ _ | refine (ih _ _).step rfl ?_ | refine (State.release1_eff _ _ _).step rfl ?_ | refine Eff.ite ?_ ?_ | split | dsimp only

theorem State.missedIn_eff (s : State) (a : Nat) (b : Nat) (x3 : List Nat) : Eff 4 s (State.missedIn s a b x3) := by
  induction x3 generalizing s a b with
  | nil => exact Eff.refl _ _
  | cons y ys ih =>
    unfold State.missedIn
    with_reducible repeat' first | assumption | exact Eff.refl _ _ | refine (ih _ _ _).step rfl ?_ | refine (State.sat_eff _ _ _).step rfl ?_ | refine Eff.ite ?_ ?_ | split | dsimp only

theorem State.seqSkip_eff (s : State) (x1 : Nat) (x2 : ShotSeq) : Eff 4675611066380 s (State.seqSkip s x1 x2) := by
  induction x1 generalizing s x2 with
  | zero => exact Eff.refl _ _
  | succ y ih =>
    unfold State.seqSkip
    with_reducible repeat' first | assumption | exact Eff.refl _ _ | refine (ih _ _).step rfl ?_ | refine (State.fireSkip_eff _ _ _ _).step rfl ?_ | refine Eff.ite ?_ ?_ | split | dsimp only

theorem State.seqsSkip_eff (s : State) (l : List ShotSeq) : Eff 4675612114956 s (s.seqsSkip l) := by
  induction l generalizing s with
  | nil => unfold State.seqsSkip; exact (State.seqShow_eff _).step rfl (Eff.upd_acq (Eff.refl _ _) rfl)
  | cons u us ih => unfold State.seqsSkip; exact (ih _).step rfl ((State.seqSkip_eff _ _ _).mono rfl)

theorem State.instantCount_eff (s : State) : Eff 67108864 s (State.instantCount s) := by
  unfold State.instantCount
  with_reducible repeat' first | assumption | exact Eff.refl _ _ | refine (State.intervalNote_eff _ _).step rfl ?_ | refine Eff.ite ?_ ?_ | split | refine Eff.upd_recs ?_ rfl ⟨by simp,by simp⟩ | dsimp only

theorem State.rollbacksClear_eff (s : State) (x1 : List Nat) : Eff 4 s (State.rollbacksClear s x1) := by
  induction x1 generalizing s with
  | nil => exact Eff.refl _ _
  | cons y ys ih =>
    unfold State.rollbacksClear
    with_reducible repeat' first | assumption | exact Eff.refl _ _ | refine (ih _).step rfl ?_ | refine (State.set_eff _ _ _).step rfl ?_ | refine Eff.ite ?_ ?_ | split | dsimp only

theorem State.slRefusedEntry_eff (s : State) : Eff 4673461486020 s s.slRefusedEntry := by
  unfold State.slRefusedEntry
  refine Eff.ite (Eff.refl _ _) ((State.set_eff _ _ _).step rfl (Eff.upd_sealc ((State.auditPut_eff _ _ _ _).mono rfl) rfl ?_))
  exact Nat.le_of_eq (by rw [(State.auditPut_eff _ _ _ _).sealc rfl])

theorem State.intervalRoll_eff (s : State) (i : Nat) : Eff 4675877405124 s (State.intervalRoll s i) := by
  unfold State.intervalRoll
  with_reducible repeat' first | assumption | exact Eff.refl _ _ | refine (State.rollbacksClear_eff _ _).step rfl ?_ | refine (State.slRefusedEntry_eff _).step rfl ?_ | refine Eff.ite ?_ ?_ | split | refine Eff.upd_spn_flt ?_ rfl rfl  | refine Eff.upd_spn ?_ rfl | refine Eff.upd_flt ?_ rfl | dsimp only

theorem State.spindleInstant_eff (s : State) (n : Nat) : Eff 5775512813966 s (State.spindleInstant s n) := by
  unfold State.spindleInstant
  with_reducible repeat' first | assumption | exact Eff.refl _ _ | refine (State.commitAhead_eff _).step rfl ?_ | refine (State.commitResume_eff _).step rfl ?_ | refine (State.envelope_eff _).step rfl ?_ | refine (State.heatRise_eff _).step rfl ?_ | refine (State.levelFall_eff _).step rfl ?_ | refine (State.releases_eff _ _ _).step rfl ?_ | refine (State.resumeLost_eff _ _ _).step rfl ?_ | refine (State.thaws_eff _ _).step rfl ?_ | refine Eff.ite ?_ ?_ | split | refine Eff.upd_spn ?_ rfl | dsimp only

theorem State.zeroInstant_eff (s : State) (prev : Nat) : Eff 1073741824 s (State.zeroInstant s prev) := by
  unfold State.zeroInstant
  with_reducible repeat' first | assumption | exact Eff.refl _ _ | refine Eff.ite ?_ ?_ | split | refine Eff.upd_cal ?_ rfl | dsimp only

theorem State.instant_eff (s : State) (n : Nat) : Eff 5776729162190 s (State.instant s n) := by
  unfold State.instant
  with_reducible repeat' first | assumption | exact Eff.refl _ _ | refine (State.advanceTo_eff _ _).step rfl ?_ | refine (State.instantCount_eff _).step rfl ?_ | refine (State.intervalRoll_eff _ _).step rfl ?_ | refine (State.pulseCycle_eff _ _ _).step rfl ?_ | refine (State.settle_eff _).step rfl ?_ | refine (State.spindleInstant_eff _ _).step rfl ?_ | refine (State.zeroInstant_eff _ _).step rfl ?_ | refine Eff.ite ?_ ?_ | split | refine Eff.upd_time ?_ rfl | dsimp only

theorem execCycleInstant_eff (s : State) : OutEff 5776729162190 s (execCycleInstant s) := by
  unfold execCycleInstant
  with_reducible repeat' first | refine OutEff.guard ?_ | refine OutEff.next ?_ | assumption | exact Eff.refl _ _ | refine (State.instant_eff _ _).step rfl ?_ | refine Eff.ite ?_ ?_ | split | dsimp only

theorem State.matchEnvelope_eff (s : State) (c : CmpOld) : Eff 4673528594820 s (State.matchEnvelope s c) := by
  unfold State.matchEnvelope
  with_reducible repeat' first | assumption | exact Eff.refl _ _ | refine (State.envelope_eff _).step rfl ?_ | refine Eff.ite ?_ ?_ | split | dsimp only

theorem State.matchDo_eff (s : State) (n : Nat) (c : CmpOld) (tm : Nat) (late : Bool) : Eff 5775656419724 s (State.matchDo s n c tm late) := by
  unfold State.matchDo
  with_reducible repeat' first | assumption | exact Eff.refl _ _ | refine (State.advanceTo_eff _ _).step rfl ?_ | refine (State.chainMatches_eff _ _ _ _).step rfl ?_ | refine (State.icEdge_eff _ _ _).step rfl ?_ | refine (State.matchEnvelope_eff _ _).step rfl ?_ | refine (State.seqStarts_eff _ _ _ _).step rfl ?_ | refine (State.set_eff _ _ _).step rfl ?_ | refine (State.settle_eff _).step rfl ?_ | refine (State.swapsMatch_eff _ _ _).step rfl ?_ | refine Eff.ite ?_ ?_ | split | refine Eff.upd_time ?_ rfl | dsimp only

theorem execTriggerMatch_eff (n : Nat) (s : State) : OutEff 5775656419724 s (execTriggerMatch n s) := by
  unfold execTriggerMatch
  with_reducible repeat' first | refine OutEff.guard ?_ | refine OutEff.next ?_ | assumption | exact Eff.refl _ _ | refine (State.matchDo_eff _ _ _ _ _).step rfl ?_ | refine Eff.ite ?_ ?_ | split | dsimp only

theorem State.stepReport_eff (s : State) (x : TStep) : Eff 4673461485956 s (State.stepReport s x) := by
  unfold State.stepReport
  with_reducible repeat' first | assumption | exact Eff.refl _ _ | refine (State.auditPutAs_eff _ _ _ _ _).step rfl ?_ | refine (State.result_eff _ _ _ _ _).step rfl ?_ | refine Eff.ite ?_ ?_ | split | dsimp only

theorem State.stepTime_eff (s : State) (d : Int) : Eff 2340217160196 s (State.stepTime s d) := by
  unfold State.stepTime
  with_reducible repeat' first | assumption | exact Eff.refl _ _ | refine (State.chainsShift_eff _ _ _).step rfl ?_ | refine (State.elapsedShift_eff _ _).step rfl ?_ | refine (State.intervalNote_eff _ _).step rfl ?_ | refine (State.missedIn_eff _ _ _ _).step rfl ?_ | refine (State.pulseShift_eff _ _).step rfl ?_ | refine (State.set_eff _ _ _).step rfl ?_ | refine Eff.ite ?_ ?_ | split | refine Eff.upd_front_spn ?_ rfl rfl  | refine Eff.upd_time ?_ rfl | refine Eff.upd_front ?_ rfl | refine Eff.upd_spn ?_ rfl | dsimp only

theorem State.stepAtT_eff (s : State) (x : TStep) (t : Nat) : Eff 8113192371084 s (State.stepAtT s x t) := by
  unfold State.stepAtT
  with_reducible repeat' first | assumption | exact Eff.refl _ _ | refine (State.advanceTo_eff _ _).step rfl ?_ | refine (State.settle_eff _).step rfl ?_ | refine (State.stepReport_eff _ _).step rfl ?_ | refine (State.stepTime_eff _ _).step rfl ?_ | refine Eff.ite ?_ ?_ | split | dsimp only

theorem execTimeStepApply_eff (s : State) : OutEff 8113192371084 s (execTimeStepApply s) := by
  unfold execTimeStepApply
  with_reducible repeat' first | refine OutEff.guard ?_ | refine OutEff.next ?_ | assumption | exact Eff.refl _ _ | refine (State.advanceTo_eff _ _).step rfl ?_ | refine (State.seqsSkip_eff _ _).step rfl ?_ | refine (State.settle_eff _).step rfl ?_ | refine (State.stepAtT_eff _ _ _).step rfl ?_ | refine Eff.ite ?_ ?_ | split | dsimp only

theorem execComparatorWrite_eff (n : Nat) (reg : Nat) (value : Word) (s : State) : OutEff 134217732 s (execComparatorWrite n reg value s) := by
  unfold execComparatorWrite
  with_reducible repeat' first | refine OutEff.guard ?_ | refine OutEff.next ?_ | assumption | exact Eff.refl _ _ | refine (State.cmpWrite_eff _ _ _ _).step rfl ?_ | refine Eff.ite ?_ ?_ | split | dsimp only

theorem execHoldoverTimeout_eff (s : State) : OutEff 5775655371148 s (execHoldoverTimeout s) := by
  unfold execHoldoverTimeout
  with_reducible repeat' first | refine OutEff.guard ?_ | refine OutEff.next ?_ | assumption | exact Eff.refl _ _ | refine (State.advanceTo_eff _ _).step rfl ?_ | refine (State.intervalNote_eff _ _).step rfl ?_ | refine (State.set_eff _ _ _).step rfl ?_ | refine (State.settle_eff _).step rfl ?_ | refine (State.sleepTo_eff _ _).step rfl ?_ | refine Eff.ite ?_ ?_ | split | dsimp only

end Sys2Proof.Machine
end

