-- ==== Sys2Proof/Laws/EffHwWrite.lean ====
section
/-! SUPPORT. What every operation of Machine/HwWrite.lean may change, and that it keeps the canonical forms and lowers no rising counter (Effect.lean). -/

namespace Sys2Proof.Machine

theorem State.plainWrite_eff (s : State) (a : Nat) (w : Word) : Eff 4 s (State.plainWrite s a w) := by
  unfold State.plainWrite
  with_reducible repeat' first | assumption | exact Eff.refl _ _ | refine (State.setW_eff _ _ _).step rfl ?_ | refine Eff.ite ?_ ?_ | split | dsimp only

theorem State.busErrWrite_eff (s : State) (d : Nat) (w : Word) : Eff 4 s (State.busErrWrite s d w) := by
  unfold State.busErrWrite
  with_reducible repeat' first | assumption | exact Eff.refl _ _ | refine (State.plainWrite_eff _ _ _).step rfl ?_ | refine (State.set_eff _ _ _).step rfl ?_ | refine Eff.ite ?_ ?_ | split | dsimp only

theorem State.cspWrite_eff (s : State) (n : Nat) (a : Nat) (w : Word) : Eff 4725001093126 s (State.cspWrite s n a w) := by
  unfold State.cspWrite
  with_reducible repeat' first | assumption | exact Eff.refl _ _ | refine (State.cspAbort_eff _ _).step rfl ?_ | refine (State.cspGo_eff _ _).step rfl ?_ | refine (State.cspIrq_eff _ _).step rfl ?_ | refine (State.cspTx_eff _ _ _).step rfl ?_ | refine (State.discover_eff _ _).step rfl ?_ | refine (State.plainWrite_eff _ _ _).step rfl ?_ | refine Eff.ite ?_ ?_ | split | refine Eff.upd_freeCtr ?_ rfl (by simp) | dsimp only

theorem State.icWrite_eff (s : State) (c : Nat) (a : Nat) (w : Word) : Eff 4673461485572 s (State.icWrite s c a w) := by
  unfold State.icWrite
  with_reducible repeat' first | assumption | exact Eff.refl _ _ | refine (State.complete_eff _ _ _ _).step rfl ?_ | refine (State.icUpdate_eff _ _).step rfl ?_ | refine (State.pendClear_eff _ _ _).step rfl ?_ | refine (State.plainWrite_eff _ _ _).step rfl ?_ | refine (State.reassign_eff _ _ _).step rfl ?_ | refine (State.stormUnmask_eff _ _ _).step rfl ?_ | refine Eff.ite ?_ ?_ | split | dsimp only

theorem State.twWrite_eff (s : State) (n : Nat) (a : Nat) (w : Word) : Eff 4677756452870 s (State.twWrite s n a w) := by
  unfold State.twWrite
  with_reducible repeat' first | assumption | exact Eff.refl _ _ | refine (State.plainWrite_eff _ _ _).step rfl ?_ | refine (State.twCmd_eff _ _ _).step rfl ?_ | refine (State.twEnd_eff _ _ _).step rfl ?_ | refine (State.twFlag_eff _ _ _).step rfl ?_ | refine (State.twIrq_eff _ _).step rfl ?_ | refine (State.twTx_eff _ _ _).step rfl ?_ | refine Eff.ite ?_ ?_ | split | refine Eff.upd_freeCtr ?_ rfl (by simp) | dsimp only

theorem State.hwWrite_eff (s : State) (a : Nat) (w : Word) : Eff 6928457728454 s (State.hwWrite s a w) := by
  unfold State.hwWrite
  with_reducible repeat' first | assumption | exact Eff.refl _ _ | refine (State.acqClear_eff _ _).step rfl ?_ | refine (State.busErrWrite_eff _ _ _).step rfl ?_ | refine (State.cmpWrite_eff _ _ _ _).step rfl ?_ | refine (State.cspWrite_eff _ _ _ _).step rfl ?_ | refine (State.echoClear_eff _ _ _).step rfl ?_ | refine (State.hscKick_eff _ _).step rfl ?_ | refine (State.icWrite_eff _ _ _ _).step rfl ?_ | refine (State.plainWrite_eff _ _ _).step rfl ?_ | refine (State.slDo_eff _ _ _).step rfl ?_ | refine (State.timeStamp_eff _ _).step rfl ?_ | refine (State.twWrite_eff _ _ _ _).step rfl ?_ | refine Eff.ite ?_ ?_ | split | dsimp only

end Sys2Proof.Machine
end

