-- ==== Sys2Proof/Laws/EffGateway.lean ====
section
/-! SUPPORT. What every operation of Machine/Gateway.lean may change, and that it keeps the canonical forms and lowers no rising counter (Effect.lean). -/

namespace Sys2Proof.Machine

theorem State.actSetField_eff (c : GwCmd) (s : State) : Eff 6928457728454 s (State.actSetField c s) := by
  unfold State.actSetField
  with_reducible repeat' first | assumption | exact Eff.refl _ _ | refine (State.hwWrite_eff _ _ _).step rfl ?_ | refine (State.result_eff _ _ _ _ _).step rfl ?_ | refine Eff.ite ?_ ?_ | split | dsimp only

theorem State.gwRow_eff {F : Nat} (s : State) (code : Nat) (c : GwCmd) (act : State → State) (hF : F.land 13469554528140 = 13469554528140) (ha : ∀ t, Eff F t (act t)) : Eff F s (s.gwRow code c act) := by
  unfold State.gwRow
  refine Eff.ite (Eff.refl _ _) (Eff.ite ((State.set_eff _ _ _).mono (Eff.landTrans hF rfl)) ?_)
  exact (State.gwRun_eff _ _ _ _ (Eff.landTrans hF rfl) ha).step (Nat.and_self F) ((State.gwPut_eff _ _ _).mono (Eff.landTrans hF rfl))

theorem execSetField_eff (c : GwCmd) (s : State) : OutEff 15724550770638 s (execSetField c s) := by
  unfold execSetField
  with_reducible repeat' first | refine OutEff.guard ?_ | refine OutEff.next ?_ | refine State.gwRow_eff _ _ _ _ rfl (fun _ => ?_) | assumption | exact Eff.refl _ _ | refine (State.actSetField_eff _ _).step rfl ?_ | refine Eff.ite ?_ ?_ | split | dsimp only

theorem State.setActive_eff (s : State) (slot : Nat) : Eff 8796093042696 s (State.setActive s slot) := by
  unfold State.setActive
  with_reducible repeat' first | assumption | exact Eff.refl _ _ | refine (State.selWrite_eff _ _).step rfl ?_ | refine Eff.ite ?_ ?_ | split | dsimp only

theorem State.actCalRun_eff (c : GwCmd) (s : State) : Eff 4674535228164 s (State.actCalRun c s) := by
  unfold State.actCalRun
  with_reducible repeat' first | assumption | exact Eff.refl _ _ | refine (State.result_eff _ _ _ _ _).step rfl ?_ | refine Eff.ite ?_ ?_ | split | refine Eff.upd_gw_cal ?_ rfl rfl  | refine Eff.upd_gw ?_ rfl | refine Eff.upd_cal ?_ rfl | dsimp only

theorem State.auditFlush_eff (s : State) : Eff 13469554524556 s (State.auditFlush s) := by
  unfold State.auditFlush
  with_reducible repeat' first | assumption | exact Eff.refl _ _ | refine (State.auditPrograms_eff _ _).step rfl ?_ | refine Eff.ite ?_ ?_ | split | refine Eff.upd_audit ?_ rfl (by simp) | dsimp only

theorem State.clearEntry_eff (s : State) (n : Nat) (c : GwCmd) (d : List Byte) : Eff 13469554524556 s (State.clearEntry s n c d) := by
  unfold State.clearEntry
  with_reducible repeat' first | assumption | exact Eff.refl _ _ | refine (State.auditFlush_eff _).step rfl ?_ | refine (State.auditProgram_eff _ _).step rfl ?_ | refine Eff.ite ?_ ?_ | split | dsimp only

theorem State.auditClear_eff (s : State) (n : Nat) (c : GwCmd) (d : List Byte) : Eff 13469554557836 s (State.auditClear s n c d) := by
  unfold State.auditClear
  with_reducible repeat' first | assumption | exact Eff.refl _ _ | refine (State.clearEnd_eff _).step rfl ?_ | refine (State.clearEntry_eff _ _ _ _).step rfl ?_ | refine (State.eraseWants_eff _ _).step rfl ?_ | refine Eff.ite ?_ ?_ | split | refine Eff.upd_gw ?_ rfl | dsimp only

theorem State.actAuditClear_eff (c : GwCmd) (s : State) : Eff 13469554557836 s (State.actAuditClear c s) := by
  unfold State.actAuditClear
  with_reducible repeat' first | assumption | exact Eff.refl _ _ | refine (State.auditClear_eff _ _ _ _).step rfl ?_ | refine (State.result_eff _ _ _ _ _).step rfl ?_ | refine Eff.ite ?_ ?_ | split | dsimp only

theorem execAuditClear_eff (c : GwCmd) (s : State) : OutEff 13469554560908 s (execAuditClear c s) := by
  unfold execAuditClear
  with_reducible repeat' first | refine OutEff.guard ?_ | refine OutEff.next ?_ | refine State.gwRow_eff _ _ _ _ rfl (fun _ => ?_) | assumption | exact Eff.refl _ _ | refine (State.actAuditClear_eff _ _).step rfl ?_ | refine Eff.ite ?_ ?_ | split | dsimp only

theorem State.actZeroCal_eff (c : GwCmd) (s : State) : Eff 1073742340 s (State.actZeroCal c s) := by
  unfold State.actZeroCal
  with_reducible repeat' first | assumption | exact Eff.refl _ _ | refine (State.calShow_eff _).step rfl ?_ | refine Eff.ite ?_ ?_ | split | refine Eff.upd_gw_cal ?_ rfl rfl  | refine Eff.upd_gw ?_ rfl | refine Eff.upd_cal ?_ rfl | dsimp only

theorem execZeroCal_eff (c : GwCmd) (s : State) : OutEff 13470628269964 s (execZeroCal c s) := by
  unfold execZeroCal
  with_reducible repeat' first | refine OutEff.guard ?_ | refine OutEff.next ?_ | refine State.gwRow_eff _ _ _ _ rfl (fun _ => ?_) | assumption | exact Eff.refl _ _ | refine (State.actZeroCal_eff _ _).step rfl ?_ | refine Eff.ite ?_ ?_ | split | dsimp only

theorem State.actImageData_eff (c : GwCmd) (s : State) : Eff 4673461486348 s (State.actImageData c s) := by
  unfold State.actImageData
  with_reducible repeat' first | assumption | exact Eff.refl _ _ | refine (State.result_eff _ _ _ _ _).step rfl ?_ | refine (State.stBytes_eff _ _ _).step rfl ?_ | refine Eff.ite ?_ ?_ | split | refine Eff.upd_gw ?_ rfl | dsimp only

theorem State.actIdent_eff (c : GwCmd) (s : State) : Eff 4673461485828 s (State.actIdent c s) := by
  unfold State.actIdent
  with_reducible repeat' first | assumption | exact Eff.refl _ _ | refine (State.result_eff _ _ _ _ _).step rfl ?_ | refine Eff.ite ?_ ?_ | split | dsimp only

theorem execIdent_eff (c : GwCmd) (s : State) : OutEff 13469554528140 s (execIdent c s) := by
  unfold execIdent
  with_reducible repeat' first | refine OutEff.guard ?_ | refine OutEff.next ?_ | refine State.gwRow_eff _ _ _ _ rfl (fun _ => ?_) | assumption | exact Eff.refl _ _ | refine (State.actIdent_eff _ _).step rfl ?_ | refine Eff.ite ?_ ?_ | split | dsimp only

theorem State.keyEnd_eff (s : State) : Eff 13469554528012 s (State.keyEnd s) := by
  unfold State.keyEnd
  with_reducible repeat' first | assumption | exact Eff.refl _ _ | refine (State.keysWrite_eff _ _).step rfl ?_ | refine (State.result_eff _ _ _ _ _).step rfl ?_ | refine Eff.ite ?_ ?_ | split | refine Eff.upd_gw ?_ rfl | dsimp only

theorem State.actStatus_eff (c : GwCmd) (s : State) : Eff 4673461485828 s (State.actStatus c s) := by
  unfold State.actStatus
  with_reducible repeat' first | assumption | exact Eff.refl _ _ | refine (State.result_eff _ _ _ _ _).step rfl ?_ | refine Eff.ite ?_ ?_ | split | dsimp only

theorem execStatus_eff (c : GwCmd) (s : State) : OutEff 13469554528140 s (execStatus c s) := by
  unfold execStatus
  with_reducible repeat' first | refine OutEff.guard ?_ | refine OutEff.next ?_ | refine State.gwRow_eff _ _ _ _ rfl (fun _ => ?_) | assumption | exact Eff.refl _ _ | refine (State.actStatus_eff _ _).step rfl ?_ | refine Eff.ite ?_ ?_ | split | dsimp only

theorem State.actAuditRead_eff (c : GwCmd) (s : State) : Eff 4673461485828 s (State.actAuditRead c s) := by
  unfold State.actAuditRead
  with_reducible repeat' first | assumption | exact Eff.refl _ _ | refine (State.result_eff _ _ _ _ _).step rfl ?_ | refine Eff.ite ?_ ?_ | split | dsimp only

theorem State.actDebugEnable_eff (c : GwCmd) (s : State) : Eff 4673461485828 s (State.actDebugEnable c s) := by
  unfold State.actDebugEnable
  with_reducible repeat' first | assumption | exact Eff.refl _ _ | refine (State.result_eff _ _ _ _ _).step rfl ?_ | refine (State.set_eff _ _ _).step rfl ?_ | refine Eff.ite ?_ ?_ | split | dsimp only

theorem State.actHreset_eff (c : GwCmd) (us : Nat) (mv : Nat) (s : State) : Eff 35072702399404 s (State.actHreset c us mv s) := by
  unfold State.actHreset
  with_reducible repeat' first | assumption | exact Eff.refl _ _ | refine (State.resetHCommit_eff _ _ _ _).step rfl ?_ | refine (State.result_eff _ _ _ _ _).step rfl ?_ | refine Eff.ite ?_ ?_ | split | dsimp only

theorem State.actImageActivate_eff (c : GwCmd) (us : Nat) (mv : Nat) (s : State) : Eff 35072702411692 s (State.actImageActivate c us mv s) := by
  unfold State.actImageActivate
  with_reducible repeat' first | assumption | exact Eff.refl _ _ | refine (State.auditAtOnce_eff _ _ _ _).step rfl ?_ | refine (State.ctlWrite_eff _ _ _).step rfl ?_ | refine (State.resetHCommit_eff _ _ _ _).step rfl ?_ | refine (State.result_eff _ _ _ _ _).step rfl ?_ | refine (State.setActive_eff _ _).step rfl ?_ | refine Eff.ite ?_ ?_ | split | refine Eff.upd_params ?_ rfl | dsimp only

theorem State.actImageBegin_eff (c : GwCmd) (s : State) : Eff 13469621670796 s (State.actImageBegin c s) := by
  unfold State.actImageBegin
  with_reducible repeat' first | assumption | exact Eff.refl _ _ | refine (State.erasesSync_eff _ _ _).step rfl ?_ | refine (State.result_eff _ _ _ _ _).step rfl ?_ | refine (State.setSlot_eff _ _ _ _).step rfl ?_ | refine Eff.ite ?_ ?_ | split | refine Eff.upd_gw ?_ rfl | dsimp only

theorem State.actImageEnd_eff (c : GwCmd) (s : State) : Eff 13469554529164 s (State.actImageEnd c s) := by
  unfold State.actImageEnd
  with_reducible repeat' first | assumption | exact Eff.refl _ _ | refine (State.auditPutAs_eff _ _ _ _ _).step rfl ?_ | refine (State.cryptoEnd_eff _).step rfl ?_ | refine (State.result_eff _ _ _ _ _).step rfl ?_ | refine (State.setSlot_eff _ _ _ _).step rfl ?_ | refine Eff.ite ?_ ?_ | split | refine Eff.upd_gw ?_ rfl | dsimp only

theorem State.actKeySlot_eff (c : GwCmd) (s : State) : Eff 512 s (State.actKeySlot c s) := by
  unfold State.actKeySlot
  with_reducible repeat' first | assumption | exact Eff.refl _ _ | refine Eff.ite ?_ ?_ | split | refine Eff.upd_gw ?_ rfl | dsimp only

theorem State.readCert_eff (c : GwCmd) (s : State) : Eff 4673461485828 s (State.readCert c s) := by
  unfold State.readCert
  with_reducible repeat' first | assumption | exact Eff.refl _ _ | refine (State.result_eff _ _ _ _ _).step rfl ?_ | refine Eff.ite ?_ ?_ | split | dsimp only

theorem State.readRecord_eff (c : GwCmd) (s : State) : Eff 4673461485830 s (State.readRecord c s) := by
  unfold State.readRecord
  with_reducible repeat' first | assumption | exact Eff.refl _ _ | refine (State.result_eff _ _ _ _ _).step rfl ?_ | refine Eff.ite ?_ ?_ | split | refine Eff.upd_freeCtr ?_ rfl (by simp) | dsimp only

theorem State.readWindow_eff (c : GwCmd) (s : State) : Eff 4673461485830 s (State.readWindow c s) := by
  unfold State.readWindow
  with_reducible repeat' first | assumption | exact Eff.refl _ _ | refine (State.result_eff _ _ _ _ _).step rfl ?_ | refine Eff.ite ?_ ?_ | split | refine Eff.upd_freeCtr ?_ rfl (by simp) | dsimp only

theorem State.actRecordRead_eff (c : GwCmd) (s : State) : Eff 4673461485830 s (State.actRecordRead c s) := by
  unfold State.actRecordRead
  with_reducible repeat' first | assumption | exact Eff.refl _ _ | refine (State.readCert_eff _ _).step rfl ?_ | refine (State.readRecord_eff _ _).step rfl ?_ | refine (State.readWindow_eff _ _).step rfl ?_ | refine Eff.ite ?_ ?_ | split | dsimp only

theorem State.actSetParam_eff (c : GwCmd) (s : State) : Eff 14569099715020 s (State.actSetParam c s) := by
  unfold State.actSetParam
  with_reducible repeat' first | assumption | exact Eff.refl _ _ | refine (State.paramSet_eff _ _ _ _ _ _).step rfl ?_ | refine (State.result_eff _ _ _ _ _).step rfl ?_ | refine Eff.ite ?_ ?_ | split | dsimp only

theorem State.actTimeSlew_eff (c : GwCmd) (s : State) : Eff 4673662812420 s (State.actTimeSlew c s) := by
  unfold State.actTimeSlew
  with_reducible repeat' first | assumption | exact Eff.refl _ _ | refine (State.corrected_eff _).step rfl ?_ | refine (State.result_eff _ _ _ _ _).step rfl ?_ | refine (State.timeShow_eff _).step rfl ?_ | refine Eff.ite ?_ ?_ | split | refine Eff.upd_time ?_ rfl | dsimp only

theorem State.actTimeStep_eff (c : GwCmd) (s : State) : Eff 201326596 s (State.actTimeStep c s) := by
  unfold State.actTimeStep
  with_reducible repeat' first | assumption | exact Eff.refl _ _ | refine (State.corrected_eff _).step rfl ?_ | refine (State.set_eff _ _ _).step rfl ?_ | refine Eff.ite ?_ ?_ | split | refine Eff.upd_time ?_ rfl | dsimp only

theorem gwAct_eff (code : Nat) (c : GwCmd) (us mv : Nat) (s : State) : Eff 35107062150126 s (gwAct code c us mv s) := by
  have key : ∀ (p : Prop) [Decidable p] (f g : State → State), Eff 35107062150126 s (f s) → Eff 35107062150126 s (g s) → Eff 35107062150126 s ((if p then f else g) s) := by
    intro p _ f g hf hg
    split
    · exact hf
    · exact hg
  unfold gwAct
  refine key _ _ _ ((State.actStatus_eff _ _).mono rfl) (key _ _ _ ((State.actIdent_eff _ _).mono rfl) (key _ _ _ ((State.actAuditRead_eff _ _).mono rfl)
    (key _ _ _ ((State.actRecordRead_eff _ _).mono rfl) (key _ _ _ ((State.actSetField_eff _ _).mono rfl) (key _ _ _ ((State.actSetParam_eff _ _).mono rfl)
    (key _ _ _ ((State.actTimeSlew_eff _ _).mono rfl) (key _ _ _ ((State.actTimeStep_eff _ _).mono rfl) (key _ _ _ ((State.actImageBegin_eff _ _).mono rfl)
    (key _ _ _ ((State.actImageData_eff _ _).mono rfl) (key _ _ _ ((State.actImageEnd_eff _ _).mono rfl) (key _ _ _ ((State.actImageActivate_eff _ _ _ _).mono rfl)
    (key _ _ _ ((State.actCalRun_eff _ _).mono rfl) (key _ _ _ ((State.actZeroCal_eff _ _).mono rfl) (key _ _ _ ((State.actAuditClear_eff _ _).mono rfl)
    (key _ _ _ ((State.actHreset_eff _ _ _ _).mono rfl) (key _ _ _ ((State.actKeySlot_eff _ _).mono rfl) ((State.actDebugEnable_eff _ _).mono rfl)))))))))))))))))

theorem State.gwRing_eff (s : State) (ws : List Word) : Eff 35107062153198 s (s.gwRing ws) := by
  unfold State.gwRing
  refine Eff.ite ((State.gwShow_eff _ _ _ _).mono rfl) ?_
  exact (State.gwRun_eff (F := 35107062153198) _ _ _ _ rfl (fun t => (gwAct_eff _ _ _ _ t).mono rfl)).step rfl ((State.free_eff _).mono rfl)

theorem State.gwBell_eff (s : State) : Eff 516 s (State.gwBell s) := by
  unfold State.gwBell
  with_reducible repeat' first | assumption | exact Eff.refl _ _ | refine (State.set_eff _ _ _).step rfl ?_ | refine Eff.ite ?_ ?_ | split | refine Eff.upd_gw ?_ rfl | dsimp only

theorem execImageActivate_eff (c : GwCmd) (durUs : Nat) (mv : Nat) (s : State) : OutEff 35072702414764 s (execImageActivate c durUs mv s) := by
  unfold execImageActivate
  with_reducible repeat' first | refine OutEff.guard ?_ | refine OutEff.next ?_ | refine State.gwRow_eff _ _ _ _ rfl (fun _ => ?_) | assumption | exact Eff.refl _ _ | refine (State.actImageActivate_eff _ _ _ _).step rfl ?_ | refine Eff.ite ?_ ?_ | split | dsimp only

theorem State.gwCheckEnd_eff (s : State) : Eff 35107062153198 s (State.gwCheckEnd s) := by
  unfold State.gwCheckEnd
  with_reducible repeat' first | assumption | exact Eff.refl _ _ | refine (State.gwRing_eff _ _).step rfl ?_ | refine Eff.ite ?_ ?_ | split | refine Eff.upd_gw ?_ rfl | dsimp only

theorem execRecordRead_eff (c : GwCmd) (s : State) : OutEff 13469554528142 s (execRecordRead c s) := by
  unfold execRecordRead
  with_reducible repeat' first | refine OutEff.guard ?_ | refine OutEff.next ?_ | refine State.gwRow_eff _ _ _ _ rfl (fun _ => ?_) | assumption | exact Eff.refl _ _ | refine (State.actRecordRead_eff _ _).step rfl ?_ | refine Eff.ite ?_ ?_ | split | dsimp only

theorem execImageEnd_eff (c : GwCmd) (s : State) : OutEff 13469554532236 s (execImageEnd c s) := by
  unfold execImageEnd
  with_reducible repeat' first | refine OutEff.guard ?_ | refine OutEff.next ?_ | refine State.gwRow_eff _ _ _ _ rfl (fun _ => ?_) | assumption | exact Eff.refl _ _ | refine (State.actImageEnd_eff _ _).step rfl ?_ | refine Eff.ite ?_ ?_ | split | dsimp only

theorem execDebugEnable_eff (c : GwCmd) (s : State) : OutEff 13469554528140 s (execDebugEnable c s) := by
  unfold execDebugEnable
  with_reducible repeat' first | refine OutEff.guard ?_ | refine OutEff.next ?_ | refine State.gwRow_eff _ _ _ _ rfl (fun _ => ?_) | assumption | exact Eff.refl _ _ | refine (State.actDebugEnable_eff _ _).step rfl ?_ | refine Eff.ite ?_ ?_ | split | dsimp only

theorem execImageData_eff (c : GwCmd) (s : State) : OutEff 13469554528140 s (execImageData c s) := by
  unfold execImageData
  with_reducible repeat' first | refine OutEff.guard ?_ | refine OutEff.next ?_ | refine State.gwRow_eff _ _ _ _ rfl (fun _ => ?_) | assumption | exact Eff.refl _ _ | refine (State.actImageData_eff _ _).step rfl ?_ | refine Eff.ite ?_ ?_ | split | dsimp only

theorem execDoorbell_eff (phase : Nat) (w0 : Word) (w1 : Word) (s : State) : OutEff 35107062153198 s (execDoorbell phase w0 w1 s) := by
  unfold execDoorbell
  with_reducible repeat' first | refine OutEff.guard ?_ | refine OutEff.next ?_ | assumption | exact Eff.refl _ _ | refine (State.gwBell_eff _).step rfl ?_ | refine (State.gwCheckEnd_eff _).step rfl ?_ | refine (State.gwPut_eff _ _ _).step rfl ?_ | refine Eff.ite ?_ ?_ | split | dsimp only

theorem execCalRun_eff (c : GwCmd) (s : State) : OutEff 13470628269964 s (execCalRun c s) := by
  unfold execCalRun
  with_reducible repeat' first | refine OutEff.guard ?_ | refine OutEff.next ?_ | refine State.gwRow_eff _ _ _ _ rfl (fun _ => ?_) | assumption | exact Eff.refl _ _ | refine (State.actCalRun_eff _ _).step rfl ?_ | refine Eff.ite ?_ ?_ | split | dsimp only

theorem execTimeSlew_eff (c : GwCmd) (s : State) : OutEff 13469755854732 s (execTimeSlew c s) := by
  unfold execTimeSlew
  with_reducible repeat' first | refine OutEff.guard ?_ | refine OutEff.next ?_ | refine State.gwRow_eff _ _ _ _ rfl (fun _ => ?_) | assumption | exact Eff.refl _ _ | refine (State.actTimeSlew_eff _ _).step rfl ?_ | refine Eff.ite ?_ ?_ | split | dsimp only

theorem State.idle_eff (s : State) : Eff 14571748413324 s (State.idle s) := by
  unfold State.idle
  with_reducible repeat' first | assumption | exact Eff.refl _ _ | refine (State.keyEnd_eff _).step rfl ?_ | refine (State.settle_eff _).step rfl ?_ | refine (State.tick_eff _).step rfl ?_ | refine Eff.ite ?_ ?_ | split | dsimp only

theorem execAuditRead_eff (c : GwCmd) (s : State) : OutEff 13469554528140 s (execAuditRead c s) := by
  unfold execAuditRead
  with_reducible repeat' first | refine OutEff.guard ?_ | refine OutEff.next ?_ | refine State.gwRow_eff _ _ _ _ rfl (fun _ => ?_) | assumption | exact Eff.refl _ _ | refine (State.actAuditRead_eff _ _).step rfl ?_ | refine Eff.ite ?_ ?_ | split | dsimp only

theorem execImageBegin_eff (c : GwCmd) (s : State) : OutEff 13469621673868 s (execImageBegin c s) := by
  unfold execImageBegin
  with_reducible repeat' first | refine OutEff.guard ?_ | refine OutEff.next ?_ | refine State.gwRow_eff _ _ _ _ rfl (fun _ => ?_) | assumption | exact Eff.refl _ _ | refine (State.actImageBegin_eff _ _).step rfl ?_ | refine Eff.ite ?_ ?_ | split | dsimp only

theorem execTimeStep_eff (c : GwCmd) (s : State) : OutEff 13469755854732 s (execTimeStep c s) := by
  unfold execTimeStep
  with_reducible repeat' first | refine OutEff.guard ?_ | refine OutEff.next ?_ | refine State.gwRow_eff _ _ _ _ rfl (fun _ => ?_) | assumption | exact Eff.refl _ _ | refine (State.actTimeStep_eff _ _).step rfl ?_ | refine Eff.ite ?_ ?_ | split | dsimp only

theorem execSetParam_eff (c : GwCmd) (s : State) : OutEff 14569099718604 s (execSetParam c s) := by
  unfold execSetParam
  with_reducible repeat' first | refine OutEff.guard ?_ | refine OutEff.next ?_ | refine State.gwRow_eff _ _ _ _ rfl (fun _ => ?_) | assumption | exact Eff.refl _ _ | refine (State.actSetParam_eff _ _).step rfl ?_ | refine Eff.ite ?_ ?_ | split | dsimp only

theorem execKeySlot_eff (c : GwCmd) (s : State) : OutEff 13469554528140 s (execKeySlot c s) := by
  unfold execKeySlot
  with_reducible repeat' first | refine OutEff.guard ?_ | refine OutEff.next ?_ | refine State.gwRow_eff _ _ _ _ rfl (fun _ => ?_) | assumption | exact Eff.refl _ _ | refine (State.actKeySlot_eff _ _).step rfl ?_ | refine Eff.ite ?_ ?_ | split | dsimp only

theorem execImageLoadTimeout_eff (s : State) : OutEff 14709187367820 s (execImageLoadTimeout s) := by
  unfold execImageLoadTimeout
  with_reducible repeat' first | refine OutEff.guard ?_ | refine OutEff.next ?_ | assumption | exact Eff.refl _ _ | refine (State.advanceTo_eff _ _).step rfl ?_ | refine (State.hostDrop_eff _).step rfl ?_ | refine (State.setSlot_eff _ _ _ _).step rfl ?_ | refine (State.settle_eff _).step rfl ?_ | refine Eff.ite ?_ ?_ | split | refine Eff.upd_gw ?_ rfl | dsimp only

theorem execHreset_eff (c : GwCmd) (durUs : Nat) (mv : Nat) (s : State) : OutEff 35072702402476 s (execHreset c durUs mv s) := by
  unfold execHreset
  with_reducible repeat' first | refine OutEff.guard ?_ | refine OutEff.next ?_ | refine State.gwRow_eff _ _ _ _ rfl (fun _ => ?_) | assumption | exact Eff.refl _ _ | refine (State.actHreset_eff _ _ _ _).step rfl ?_ | refine Eff.ite ?_ ?_ | split | dsimp only

end Sys2Proof.Machine
end

