-- ==== Sys2Proof/Laws/EffFlash.lean ====
section
/-! SUPPORT. What every operation of Machine/Flash.lean may change, and that it keeps the canonical forms and lowers no rising counter (Effect.lean). -/

namespace Sys2Proof.Machine

theorem State.eraseFailed_eff (s : State) (dom : Nat) (e : Erase) : Eff 35072702399406 s (State.eraseFailed s dom e) := by
  unfold State.eraseFailed
  with_reducible repeat' first | assumption | exact Eff.refl _ _ | refine (State.enterSafe_eff _ _).step rfl ?_ | refine (State.eraseNext_eff _ _).step rfl ?_ | refine (State.eraseWant_eff _ _).step rfl ?_ | refine (State.flashShow_eff _ _).step rfl ?_ | refine (State.set_eff _ _ _).step rfl ?_ | refine (State.setFa_eff _ _ _).step rfl ?_ | refine Eff.ite ?_ ?_ | split | refine Eff.upd_recs ?_ rfl ⟨by simp,by simp⟩ | dsimp only

theorem State.flRet_eff (s : State) (dom : Nat) (st : Nat) (a1 : Option Nat) : Eff 49152 s (State.flRet s dom st a1) := by
  unfold State.flRet
  with_reducible repeat' first | assumption | exact Eff.refl _ _ | refine (State.setFa_eff _ _ _).step rfl ?_ | refine Eff.ite ?_ ?_ | split | dsimp only

theorem State.flCall_eff {F : Nat} (s : State) (dom : Nat) (busy : Bool) (f : State → State) (hF : F.land 49152 = 49152) (hf : Eff F s (f s)) : Eff F s (s.flCall dom busy f) := by
  unfold State.flCall
  exact Eff.ite (Eff.refl _ _) (Eff.ite ((State.flRet_eff _ _ _ _).mono hF) hf)

theorem execFlashStatus_eff (dom : Nat) (busy : Bool) (s : State) : OutEff 49152 s (execFlashStatus dom busy s) := by
  unfold execFlashStatus
  with_reducible repeat' first | refine OutEff.guard ?_ | refine OutEff.next ?_ | refine State.flCall_eff _ _ _ _ rfl ?_ | assumption | exact Eff.refl _ _ | refine (State.flRet_eff _ _ _ _).step rfl ?_ | refine Eff.ite ?_ ?_ | split | dsimp only

theorem State.flWrong_eff (s : State) (dom : Nat) : Eff 49152 s (State.flWrong s dom) := by
  unfold State.flWrong
  with_reducible repeat' first | assumption | exact Eff.refl _ _ | refine (State.setFa_eff _ _ _).step rfl ?_ | refine Eff.ite ?_ ?_ | split | dsimp only

theorem State.flRefused_eff (s : State) (dom : Nat) (st : Nat) : Eff 49156 s (State.flRefused s dom st) := by
  unfold State.flRefused
  with_reducible repeat' first | assumption | exact Eff.refl _ _ | refine (State.flRet_eff _ _ _ _).step rfl ?_ | refine (State.set_eff _ _ _).step rfl ?_ | refine Eff.ite ?_ ?_ | split | dsimp only

theorem execMargin_eff (dom : Nat) (addr : Nat) (weak : Nat) (corr : Nat) (uncorr : Nat) (busy : Bool) (s : State) : OutEff 49152 s (execMargin dom addr weak corr uncorr busy s) := by
  unfold execMargin
  with_reducible repeat' first | refine OutEff.guard ?_ | refine OutEff.next ?_ | refine State.flCall_eff _ _ _ _ rfl ?_ | assumption | exact Eff.refl _ _ | refine (State.flRet_eff _ _ _ _).step rfl ?_ | refine Eff.ite ?_ ?_ | split | dsimp only

theorem State.flCut_eff (s : State) (dom : Nat) (addr : Nat) : Eff 49152 s (State.flCut s dom addr) := by
  unfold State.flCut
  with_reducible repeat' first | assumption | exact Eff.refl _ _ | refine (State.setFa_eff _ _ _).step rfl ?_ | refine Eff.ite ?_ ?_ | split | dsimp only

theorem State.flShow_eff (s : State) (dom : Nat) (addr : Nat) (bs : List Byte) : Eff 4 s (State.flShow s dom addr bs) := by
  unfold State.flShow
  with_reducible repeat' first | assumption | exact Eff.refl _ _ | refine (State.set_eff _ _ _).step rfl ?_ | refine (State.setW_eff _ _ _).step rfl ?_ | refine Eff.ite ?_ ?_ | split | dsimp only

theorem State.flPut_eff (s : State) (dom : Nat) (addr : Nat) (bs : List Byte) : Eff 49164 s (State.flPut s dom addr bs) := by
  unfold State.flPut
  with_reducible repeat' first | assumption | exact Eff.refl _ _ | refine (State.flShow_eff _ _ _ _).step rfl ?_ | refine (State.setFa_eff _ _ _).step rfl ?_ | refine (State.stBytes_eff _ _ _).step rfl ?_ | refine Eff.ite ?_ ?_ | split | dsimp only

theorem State.flPrograms_eff (s : State) (dom addr : Nat) (failAt cutAt : Option Nat) (l : List (List Byte)) (n : Nat) : Eff 49166 s (s.flPrograms dom addr failAt cutAt l n).1 := by
  induction l generalizing s n with
  | nil => exact Eff.refl _ _
  | cons bs rest ih =>
    have h : Eff 49166 s { s with freeCtr := s.freeCtr + 1 } := Eff.upd_freeCtr (Eff.refl _ _) rfl (Nat.le_succ _)
    unfold State.flPrograms
    dsimp only
    split
    · exact h
    · split
      · exact (State.flCut_eff _ _ _).step rfl h
      · split
        · exact (State.setFa_eff _ _ _).step rfl ((State.set_eff _ _ _).step rfl h)
        · exact (ih _ _).step rfl ((State.flPut_eff _ _ _ _).step rfl h)

theorem State.scrubUncorr_eff (s : State) (lo : Nat) (hi : Nat) (x3 : List Nat) : Eff 4675608969604 s (State.scrubUncorr s lo hi x3) := by
  induction x3 generalizing s lo hi with
  | nil => exact Eff.refl _ _
  | cons y ys ih =>
    unfold State.scrubUncorr
    with_reducible repeat' first | assumption | exact Eff.refl _ _ | refine (ih _ _ _).step rfl ?_ | refine (State.eccUncorr_eff _ _ _ _).step rfl ?_ | refine Eff.ite ?_ ?_ | split | dsimp only

theorem execMarginScrubPass_eff (stop : Nat) (weak : Nat) (uncorr : List Nat) (s : State) : OutEff 5775655387532 s (execMarginScrubPass stop weak uncorr s) := by
  unfold execMarginScrubPass
  with_reducible repeat' first | refine OutEff.guard ?_ | refine OutEff.next ?_ | assumption | exact Eff.refl _ _ | refine (State.advanceTo_eff _ _).step rfl ?_ | refine (State.scrubUncorr_eff _ _ _ _).step rfl ?_ | refine (State.settle_eff _).step rfl ?_ | refine Eff.ite ?_ ?_ | split | refine Eff.upd_hflash ?_ rfl | dsimp only

theorem State.flReadShow_eff (s : State) (dom : Nat) (addr : Nat) (st : Nat) (bs : List Byte) : Eff 4 s (State.flReadShow s dom addr st bs) := by
  unfold State.flReadShow
  with_reducible repeat' first | assumption | exact Eff.refl _ _ | refine (State.flShow_eff _ _ _ _).step rfl ?_ | refine (State.set_eff _ _ _).step rfl ?_ | refine (State.setB_eff _ _ _).step rfl ?_ | refine Eff.ite ?_ ?_ | split | dsimp only

theorem State.flReport_eff (s : State) (dom : Nat) (addr : Nat) (st : Nat) : Eff 4675608969604 s (State.flReport s dom addr st) := by
  unfold State.flReport
  with_reducible repeat' first | assumption | exact Eff.refl _ _ | refine (State.eccCorr_eff _).step rfl ?_ | refine (State.eccUncorr_eff _ _ _ _).step rfl ?_ | refine Eff.ite ?_ ?_ | split | dsimp only

theorem State.flNote_eff (s : State) (dom : Nat) (addr : Nat) (st : Nat) (bs : List Byte) : Eff 4675608969604 s (State.flNote s dom addr st bs) := by
  unfold State.flNote
  with_reducible repeat' first | assumption | exact Eff.refl _ _ | refine (State.flReadShow_eff _ _ _ _ _).step rfl ?_ | refine (State.flReport_eff _ _ _ _).step rfl ?_ | refine Eff.ite ?_ ?_ | split | dsimp only

theorem execEraseEnd_eff (dom : Nat) (ok : Bool) (s : State) : OutEff 35072702399406 s (execEraseEnd dom ok s) := by
  unfold execEraseEnd
  with_reducible repeat' first | refine OutEff.guard ?_ | refine OutEff.next ?_ | assumption | exact Eff.refl _ _ | refine (State.clearEnd_eff _).step rfl ?_ | refine (State.eraseDone_eff _ _ _).step rfl ?_ | refine (State.eraseFailed_eff _ _ _).step rfl ?_ | refine (State.icEdge_eff _ _ _).step rfl ?_ | refine Eff.ite ?_ ?_ | split | dsimp only

theorem execResume_eff (dom : Nat) (busy : Bool) (s : State) : OutEff 49156 s (execResume dom busy s) := by
  unfold execResume
  with_reducible repeat' first | refine OutEff.guard ?_ | refine OutEff.next ?_ | refine State.flCall_eff _ _ _ _ rfl ?_ | assumption | exact Eff.refl _ _ | refine (State.flRet_eff _ _ _ _).step rfl ?_ | refine (State.flashShow_eff _ _).step rfl ?_ | refine (State.setFa_eff _ _ _).step rfl ?_ | refine Eff.ite ?_ ?_ | split | dsimp only

theorem execSetpw_eff (dom : Nat) (core : Nat) (area : Nat) (old : Nat) (new : Nat) (busy : Bool) (s : State) : OutEff 4673461534726 s (execSetpw dom core area old new busy s) := by
  unfold execSetpw
  with_reducible repeat' first | refine OutEff.guard ?_ | refine OutEff.next ?_ | refine State.flCall_eff _ _ _ _ rfl ?_ | assumption | exact Eff.refl _ _ | refine (State.busLoad_eff _ _ _ _ _).step rfl ?_ | refine (State.flRet_eff _ _ _ _).step rfl ?_ | refine (State.flWrong_eff _ _).step rfl ?_ | refine (State.setFa_eff _ _ _).step rfl ?_ | refine Eff.ite ?_ ?_ | split | dsimp only

theorem State.flReads_eff (s : State) (dom core addr dest : Nat) (corr uncorr : List Nat) (n i : Nat) (w : Nat × Nat) : Eff 5775510667662 s (s.flReads dom core addr dest corr uncorr n i w).1 := by
  induction n generalizing s i w with
  | zero => exact Eff.refl _ _
  | succ n ih =>
    unfold State.flReads
    extract_lets r t q
    have h : Eff 5775510667662 s q.1 := (State.busWords_eff _ _ _ _ _).step rfl ((State.flNote_eff _ _ _ _ _).step rfl (Eff.upd_freeCtr (Eff.refl _ _) rfl (Nat.le_add_right _ _)))
    split
    · exact (ih _ _ _).step rfl h
    · exact h

theorem execFlashRead_eff (dom : Nat) (core : Nat) (addr : Nat) (n : Nat) (dest : Nat) (corr : List Nat) (uncorr : List Nat) (busy : Bool) (s : State) : OutEff 5775510716814 s (execFlashRead dom core addr n dest corr uncorr busy s) := by
  unfold execFlashRead
  with_reducible repeat' first | refine OutEff.guard ?_ | refine OutEff.next ?_ | refine State.flCall_eff _ _ _ _ rfl ?_ | assumption | exact Eff.refl _ _ | refine (State.flReads_eff _ _ _ _ _ _ _ _ _ _).step rfl ?_ | refine (State.flRet_eff _ _ _ _).step rfl ?_ | refine Eff.ite ?_ ?_ | split | dsimp only

theorem execZonecfg_eff (dom : Nat) (zone : Nat) (mode : Nat) (busy : Bool) (s : State) : OutEff 49158 s (execZonecfg dom zone mode busy s) := by
  unfold execZonecfg
  with_reducible repeat' first | refine OutEff.guard ?_ | refine OutEff.next ?_ | refine State.flCall_eff _ _ _ _ rfl ?_ | assumption | exact Eff.refl _ _ | refine (State.eraseStart_eff _ _ _ _ _ _).step rfl ?_ | refine (State.flRefused_eff _ _ _).step rfl ?_ | refine (State.flRet_eff _ _ _ _).step rfl ?_ | refine (State.free_eff _).step rfl ?_ | refine Eff.ite ?_ ?_ | split | dsimp only

theorem execUnlock_eff (dom : Nat) (core : Nat) (area : Nat) (pw : Nat) (busy : Bool) (s : State) : OutEff 4673461534726 s (execUnlock dom core area pw busy s) := by
  unfold execUnlock
  with_reducible repeat' first | refine OutEff.guard ?_ | refine OutEff.next ?_ | refine State.flCall_eff _ _ _ _ rfl ?_ | assumption | exact Eff.refl _ _ | refine (State.busLoad_eff _ _ _ _ _).step rfl ?_ | refine (State.flRet_eff _ _ _ _).step rfl ?_ | refine (State.flWrong_eff _ _).step rfl ?_ | refine (State.setFa_eff _ _ _).step rfl ?_ | refine Eff.ite ?_ ?_ | split | dsimp only

theorem execFlashErase_eff (dom : Nat) (addr : Nat) (busy : Bool) (s : State) : OutEff 49156 s (execFlashErase dom addr busy s) := by
  unfold execFlashErase
  with_reducible repeat' first | refine OutEff.guard ?_ | refine OutEff.next ?_ | refine State.flCall_eff _ _ _ _ rfl ?_ | assumption | exact Eff.refl _ _ | refine (State.eraseStart_eff _ _ _ _ _ _).step rfl ?_ | refine (State.flRefused_eff _ _ _).step rfl ?_ | refine (State.flRet_eff _ _ _ _).step rfl ?_ | refine (State.set_eff _ _ _).step rfl ?_ | refine Eff.ite ?_ ?_ | split | dsimp only

theorem execFlashProgram_eff (dom : Nat) (core : Nat) (addr : Nat) (n : Nat) (src : Nat) (failAt : Option Nat) (cutAt : Option Nat) (busy : Bool) (s : State) : OutEff 4673461534734 s (execFlashProgram dom core addr n src failAt cutAt busy s) := by
  unfold execFlashProgram
  with_reducible repeat' first | refine OutEff.guard ?_ | refine OutEff.next ?_ | refine State.flCall_eff _ _ _ _ rfl ?_ | assumption | exact Eff.refl _ _ | refine (State.busLoad_eff _ _ _ _ _).step rfl ?_ | refine (State.flPrograms_eff _ _ _ _ _ _ _).step rfl ?_ | refine (State.flRefused_eff _ _ _).step rfl ?_ | refine (State.flRet_eff _ _ _ _).step rfl ?_ | refine Eff.ite ?_ ?_ | split | dsimp only

theorem execLock_eff (dom : Nat) (area : Nat) (busy : Bool) (s : State) : OutEff 49152 s (execLock dom area busy s) := by
  unfold execLock
  with_reducible repeat' first | refine OutEff.guard ?_ | refine OutEff.next ?_ | refine State.flCall_eff _ _ _ _ rfl ?_ | assumption | exact Eff.refl _ _ | refine (State.flRet_eff _ _ _ _).step rfl ?_ | refine (State.setFa_eff _ _ _).step rfl ?_ | refine Eff.ite ?_ ?_ | split | dsimp only

theorem execEcnt_eff (dom : Nat) (addr : Nat) (busy : Bool) (s : State) : OutEff 49152 s (execEcnt dom addr busy s) := by
  unfold execEcnt
  with_reducible repeat' first | refine OutEff.guard ?_ | refine OutEff.next ?_ | refine State.flCall_eff _ _ _ _ rfl ?_ | assumption | exact Eff.refl _ _ | refine (State.flRet_eff _ _ _ _).step rfl ?_ | refine Eff.ite ?_ ?_ | split | dsimp only

theorem execSuspend_eff (dom : Nat) (busy : Bool) (s : State) : OutEff 49156 s (execSuspend dom busy s) := by
  unfold execSuspend
  with_reducible repeat' first | refine OutEff.guard ?_ | refine OutEff.next ?_ | refine State.flCall_eff _ _ _ _ rfl ?_ | assumption | exact Eff.refl _ _ | refine (State.flRet_eff _ _ _ _).step rfl ?_ | refine (State.flashShow_eff _ _).step rfl ?_ | refine (State.setFa_eff _ _ _).step rfl ?_ | refine Eff.ite ?_ ?_ | split | dsimp only

end Sys2Proof.Machine
end

