-- ==== Sys2Proof/Laws/EffHostOps.lean ====
section
/-! SUPPORT. What every operation of Machine/HostOps.lean may change, and that it keeps the canonical forms and lowers no rising counter (Effect.lean). -/

namespace Sys2Proof.Machine

theorem State.fwPut_eff (s : State) (x1 : Nat) (x2 : List Word) : Eff 4 s (State.fwPut s x1 x2) := by
  induction x2 generalizing s x1 with
  | nil => exact Eff.refl _ _
  | cons y ys ih =>
    unfold State.fwPut
    with_reducible repeat' first | assumption | exact Eff.refl _ _ | refine (ih _ _).step rfl ?_ | refine (State.setW_eff _ _ _).step rfl ?_ | refine Eff.ite ?_ ?_ | split | dsimp only

theorem State.fwShow_eff (s : State) : Eff 4673461485572 s (State.fwShow s) := by
  unfold State.fwShow
  with_reducible repeat' first | assumption | exact Eff.refl _ _ | refine (State.fwPut_eff _ _ _).step rfl ?_ | refine (State.icSample_eff _ _ _).step rfl ?_ | refine (State.set_eff _ _ _).step rfl ?_ | refine Eff.ite ?_ ?_ | split | dsimp only

theorem State.hostShow_eff (s : State) : Eff 4 s (State.hostShow s) := by
  unfold State.hostShow
  with_reducible repeat' first | assumption | exact Eff.refl _ _ | refine (State.alertPend_eff _ _ _).step rfl ?_ | refine (State.set_eff _ _ _).step rfl ?_ | refine (State.setB_eff _ _ _).step rfl ?_ | refine Eff.ite ?_ ?_ | split | dsimp only

theorem State.hostPut_eff (s : State) (chan : Nat) (ws : List Word) (long : Bool) : Eff 4845260177412 s (State.hostPut s chan ws long) := by
  unfold State.hostPut
  with_reducible repeat' first | assumption | exact Eff.refl _ _ | refine (State.fwShow_eff _).step rfl ?_ | refine (State.hostShow_eff _).step rfl ?_ | refine Eff.ite ?_ ?_ | split | refine Eff.upd_cspx ?_ rfl | refine Eff.upd_host ?_ rfl | dsimp only

theorem State.hostEnd_eff (s : State) (chan : Nat) (ws : List Word) : Eff 4845260177412 s (State.hostEnd s chan ws) := by
  unfold State.hostEnd
  with_reducible repeat' first | assumption | exact Eff.refl _ _ | refine (State.alertPend_eff _ _ _).step rfl ?_ | refine (State.hostPut_eff _ _ _ _).step rfl ?_ | refine (State.set_eff _ _ _).step rfl ?_ | refine Eff.ite ?_ ?_ | split | refine Eff.upd_host ?_ rfl | dsimp only

theorem State.appReply_eff (s : State) (code : Nat) (tag : Nat) (ws : List Word) : Eff 4845260177412 s (State.appReply s code tag ws) := by
  unfold State.appReply
  with_reducible repeat' first | assumption | exact Eff.refl _ _ | refine (State.hostEnd_eff _ _ _).step rfl ?_ | refine (State.hostPut_eff _ _ _ _).step rfl ?_ | refine Eff.ite ?_ ?_ | split | refine Eff.upd_host ?_ rfl | dsimp only

theorem State.hostArrive_eff (s : State) (x1 : List HostIn) : Eff 4845260177412 s (State.hostArrive s x1) := by
  induction x1 generalizing s with
  | nil => exact Eff.refl _ _
  | cons y ys ih =>
    unfold State.hostArrive
    with_reducible repeat' first | assumption | exact Eff.refl _ _ | refine (ih _).step rfl ?_ | refine (State.appReply_eff _ _ _ _).step rfl ?_ | refine Eff.ite ?_ ?_ | split | refine Eff.upd_host ?_ rfl | dsimp only

theorem State.hostPop_eff (s : State) : Eff 137438953476 s (State.hostPop s) := by
  unfold State.hostPop
  with_reducible repeat' first | assumption | exact Eff.refl _ _ | refine (State.hostShow_eff _).step rfl ?_ | refine Eff.ite ?_ ?_ | split | refine Eff.upd_host ?_ rfl | dsimp only

theorem State.hostFull_eff (s : State) : Eff 137438953476 s (State.hostFull s) := by
  unfold State.hostFull
  with_reducible repeat' first | assumption | exact Eff.refl _ _ | refine (State.hostPop_eff _).step rfl ?_ | refine (State.sat_eff _ _ _).step rfl ?_ | refine Eff.ite ?_ ?_ | split | dsimp only

theorem State.hostReply_eff (s : State) (chan : Nat) (code : Nat) (tag : Nat) (status : Nat) (data : List Word) : Eff 4845260177412 s (State.hostReply s chan code tag status data) := by
  unfold State.hostReply
  with_reducible repeat' first | assumption | exact Eff.refl _ _ | refine (State.hostPut_eff _ _ _ _).step rfl ?_ | refine Eff.ite ?_ ?_ | split | dsimp only

theorem State.hostTake_eff (s : State) : Eff 137438953476 s (State.hostTake s) := by
  unfold State.hostTake
  with_reducible repeat' first | assumption | exact Eff.refl _ _ | refine (State.alertPend_eff _ _ _).step rfl ?_ | refine (State.hostPop_eff _).step rfl ?_ | refine Eff.ite ?_ ?_ | split | dsimp only

theorem State.hostSelf_eff (s : State) (m : HostIn) (t : State) (h : s.hostSelf m = some t) : Eff 4845260177414 s t := by
  unfold State.hostSelf at h
  dsimp only at h
  repeat' split at h
  all_goals first
    | contradiction
    | (obtain rfl := Option.some.inj h
       repeat' first
         | (with_reducible assumption)
         | (with_reducible exact Eff.refl _ _)
         | (with_reducible refine (State.sat_eff _ _ _).step rfl ?_)
         | (with_reducible refine (State.hostFull_eff _).step rfl ?_)
         | (with_reducible refine (State.hostReply_eff _ _ _ _ _ _).step rfl ?_)
         | (with_reducible refine (State.hostPop_eff _).step rfl ?_)
         | (with_reducible refine (State.hostTake_eff _).step rfl ?_)
         | (with_reducible refine (State.alertPend_eff _ _ _).step rfl ?_)
         | (with_reducible refine Eff.ite ?_ ?_)
         | (refine Eff.upd_freeCtr ?_ rfl (Nat.le_add_right _ _)))

theorem State.hostDrainN_eff (s : State) (n : Nat) : Eff 4845260177414 s (s.hostDrainN n) := by
  induction n generalizing s with
  | zero => exact Eff.refl _ _
  | succ n ih =>
    unfold State.hostDrainN
    split
    · split
      · rename_i h; exact (ih _).step rfl ((State.hostSelf_eff _ _ _ h).mono rfl)
      · exact Eff.refl _ _
    · exact Eff.refl _ _

theorem State.hostDrain_eff (s : State) : Eff 4845260177414 s (State.hostDrain s) := by
  unfold State.hostDrain
  with_reducible repeat' first | assumption | exact Eff.refl _ _ | refine (State.hostDrainN_eff _ _).step rfl ?_ | refine Eff.ite ?_ ?_ | split | dsimp only

theorem State.hostInput_eff (s : State) (chan : Nat) (ws : List Word) : Eff 4845260177414 s (State.hostInput s chan ws) := by
  unfold State.hostInput
  with_reducible repeat' first | assumption | exact Eff.refl _ _ | refine (State.hostArrive_eff _ _).step rfl ?_ | refine (State.hostDrain_eff _).step rfl ?_ | refine (State.hostShow_eff _).step rfl ?_ | refine Eff.ite ?_ ?_ | split | dsimp only

theorem State.eventPut_eff (s : State) (e : RingEntry) : Eff 137438953472 s (State.eventPut s e) := by
  unfold State.eventPut
  with_reducible repeat' first | assumption | exact Eff.refl _ _ | refine Eff.ite ?_ ?_ | split | refine Eff.upd_host ?_ rfl | dsimp only

theorem State.ringNext_eff (s : State) : Eff 260 s (State.ringNext s) := by
  unfold State.ringNext
  with_reducible repeat' first | assumption | exact Eff.refl _ _ | refine (State.set_eff _ _ _).step rfl ?_ | refine Eff.ite ?_ ?_ | split | refine Eff.upd_ring ?_ rfl | dsimp only

theorem State.eventsUpTo_eff (s : State) (x : HostCmd) (x2 : Nat) : Eff 137438953732 s (State.eventsUpTo s x x2) := by
  induction x2 generalizing s x with
  | zero => exact Eff.refl _ _
  | succ y ih =>
    unfold State.eventsUpTo
    with_reducible repeat' first | assumption | exact Eff.refl _ _ | refine (ih _ _).step rfl ?_ | refine (State.eventPut_eff _ _).step rfl ?_ | refine (State.ringNext_eff _).step rfl ?_ | refine Eff.ite ?_ ?_ | split | dsimp only

theorem State.hostAnswer_eff (s : State) (x : HostCmd) (status : Nat) (data : List Word) : Eff 4845260177412 s (State.hostAnswer s x status data) := by
  unfold State.hostAnswer
  with_reducible repeat' first | assumption | exact Eff.refl _ _ | refine (State.hostEnd_eff _ _ _).step rfl ?_ | refine (State.hostPut_eff _ _ _ _).step rfl ?_ | refine Eff.ite ?_ ?_ | split | refine Eff.upd_host ?_ rfl | dsimp only

theorem State.ringNexts_eff (s : State) (x1 : Nat) : Eff 260 s (State.ringNexts s x1) := by
  induction x1 generalizing s with
  | zero => exact Eff.refl _ _
  | succ y ih =>
    unfold State.ringNexts
    with_reducible repeat' first | assumption | exact Eff.refl _ _ | refine (ih _).step rfl ?_ | refine (State.ringNext_eff _).step rfl ?_ | refine Eff.ite ?_ ?_ | split | dsimp only

theorem State.hostGather_eff (s : State) (x : HostCmd) : Eff 4845260177670 s (State.hostGather s x) := by
  unfold State.hostGather
  with_reducible repeat' first | assumption | exact Eff.refl _ _ | refine (State.hostAnswer_eff _ _ _ _).step rfl ?_ | refine (State.hostDrain_eff _).step rfl ?_ | refine (State.ringNexts_eff _ _).step rfl ?_ | refine Eff.ite ?_ ?_ | split | dsimp only

theorem State.passTo_eff (s : State) (t : Nat) : Eff 5775655371148 s (State.passTo s t).1 := by
  unfold State.passTo
  with_reducible repeat' first | assumption | exact Eff.refl _ _ | refine (State.advanceTo_eff _ _).step rfl ?_ | refine (State.settle_eff _).step rfl ?_ | refine Eff.ite ?_ ?_ | split | dsimp only

theorem State.hostBegin_eff (s : State) (x : HostCmd) : Eff 137438953476 s (State.hostBegin s x) := by
  unfold State.hostBegin
  with_reducible repeat' first | assumption | exact Eff.refl _ _ | refine (State.set_eff _ _ _).step rfl ?_ | refine Eff.ite ?_ ?_ | split | refine Eff.upd_host ?_ rfl | dsimp only

end Sys2Proof.Machine
end

