-- ==== Sys2Proof/Laws/EffHost.lean ====
section
/-! SUPPORT. What every operation of Machine/Host.lean may change, and that it keeps the canonical forms and lowers no rising counter (Effect.lean). -/

namespace Sys2Proof.Machine

theorem State.hostSubmit_eff (s : State) (v : Nat) : Eff 4845260177414 s (State.hostSubmit s v) := by
  unfold State.hostSubmit
  with_reducible repeat' first | assumption | exact Eff.refl _ _ | refine (State.hostInput_eff _ _ _).step rfl ?_ | refine (State.sat_eff _ _ _).step rfl ?_ | refine (State.set_eff _ _ _).step rfl ?_ | refine Eff.ite ?_ ?_ | split | dsimp only

theorem execSubmit_eff (value : Word) (s : State) : OutEff 4845260177414 s (execSubmit value s) := by
  unfold execSubmit
  with_reducible repeat' first | refine OutEff.guard ?_ | refine OutEff.next ?_ | assumption | exact Eff.refl _ _ | refine (State.hostSubmit_eff _ _).step rfl ?_ | refine Eff.ite ?_ ?_ | split | dsimp only

theorem State.alertWrite_eff (s : State) (v : Nat) : Eff 4 s (State.alertWrite s v) := by
  unfold State.alertWrite
  with_reducible repeat' first | assumption | exact Eff.refl _ _ | refine (State.set_eff _ _ _).step rfl ?_ | refine (State.setB_eff _ _ _).step rfl ?_ | refine Eff.ite ?_ ?_ | split | dsimp only

theorem State.hostSay_eff (s : State) (m : HostIn) (status : Nat) (data : List Nat) : Eff 4845260177414 s (State.hostSay s m status data) := by
  unfold State.hostSay
  with_reducible repeat' first | assumption | exact Eff.refl _ _ | refine (State.hostDrain_eff _).step rfl ?_ | refine (State.hostReply_eff _ _ _ _ _ _).step rfl ?_ | refine (State.hostTake_eff _).step rfl ?_ | refine Eff.ite ?_ ?_ | split | dsimp only

theorem execGetResult_eff (s : State) : OutEff 4845260177414 s (execGetResult s) := by
  unfold execGetResult
  with_reducible repeat' first | refine OutEff.guard ?_ | refine OutEff.next ?_ | assumption | exact Eff.refl _ _ | refine (State.hostSay_eff _ _ _ _).step rfl ?_ | refine Eff.ite ?_ ?_ | split | dsimp only

theorem execHostResultCollect_eff (s : State) : OutEff 4845260177670 s (execHostResultCollect s) := by
  unfold execHostResultCollect
  with_reducible repeat' first | refine OutEff.guard ?_ | refine OutEff.next ?_ | assumption | exact Eff.refl _ _ | refine (State.eventsUpTo_eff _ _ _).step rfl ?_ | refine (State.hostGather_eff _ _).step rfl ?_ | refine Eff.ite ?_ ?_ | split | dsimp only

theorem State.wakeMaskWrite_eff (s : State) (v : Nat) : Eff 4 s (State.wakeMaskWrite s v) := by
  unfold State.wakeMaskWrite
  with_reducible repeat' first | assumption | exact Eff.refl _ _ | refine (State.setW_eff _ _ _).step rfl ?_ | refine Eff.ite ?_ ?_ | split | dsimp only

theorem execAppTimeout_eff (s : State) : OutEff 5947454062990 s (execAppTimeout s) := by
  unfold execAppTimeout
  with_reducible repeat' first | refine OutEff.guard ?_ | refine OutEff.next ?_ | assumption | exact Eff.refl _ _ | refine (State.hostAnswer_eff _ _ _ _).step rfl ?_ | refine (State.hostDrain_eff _).step rfl ?_ | refine (State.passTo_eff _ _).step rfl ?_ | refine Eff.ite ?_ ?_ | split | dsimp only

theorem State.fwPop_eff (s : State) : Eff 4810900439044 s (State.fwPop s) := by
  unfold State.fwPop
  with_reducible repeat' first | assumption | exact Eff.refl _ _ | refine (State.alertPend_eff _ _ _).step rfl ?_ | refine (State.fwShow_eff _).step rfl ?_ | refine (State.set_eff _ _ _).step rfl ?_ | refine Eff.ite ?_ ?_ | split | refine Eff.upd_host ?_ rfl | dsimp only

theorem execFwOutPop_eff (s : State) : OutEff 4810900439044 s (execFwOutPop s) := by
  unfold execFwOutPop
  with_reducible repeat' first | refine OutEff.guard ?_ | refine OutEff.next ?_ | assumption | exact Eff.refl _ _ | refine (State.fwPop_eff _).step rfl ?_ | refine Eff.ite ?_ ?_ | split | dsimp only

theorem State.hostForward_eff (s : State) (m : HostIn) : Eff 35107062153198 s (State.hostForward s m) := by
  unfold State.hostForward
  with_reducible repeat' first | assumption | exact Eff.refl _ _ | refine (State.gwPut_eff _ _ _).step rfl ?_ | refine (State.gwRing_eff _ _).step rfl ?_ | refine (State.gwShow_eff _ _ _ _).step rfl ?_ | refine (State.gwVerified_eff _ _ _).step rfl ?_ | refine (State.hostBegin_eff _ _).step rfl ?_ | refine (State.hostDrain_eff _).step rfl ?_ | refine (State.hostReply_eff _ _ _ _ _ _).step rfl ?_ | refine (State.hostTake_eff _).step rfl ?_ | refine Eff.ite ?_ ?_ | split | refine Eff.upd_host ?_ rfl | dsimp only

theorem State.hostEvents_eff (s : State) (m : HostIn) : Eff 4845260177414 s (State.hostEvents s m) := by
  unfold State.hostEvents
  with_reducible repeat' first | assumption | exact Eff.refl _ _ | refine (State.alertPend_eff _ _ _).step rfl ?_ | refine (State.hostSay_eff _ _ _ _).step rfl ?_ | refine Eff.ite ?_ ?_ | split | refine Eff.upd_host ?_ rfl | dsimp only

theorem execEvents_eff (s : State) : OutEff 4845260177414 s (execEvents s) := by
  unfold execEvents
  with_reducible repeat' first | refine OutEff.guard ?_ | refine OutEff.next ?_ | assumption | exact Eff.refl _ _ | refine (State.hostEvents_eff _ _).step rfl ?_ | refine Eff.ite ?_ ?_ | split | dsimp only

theorem State.csp4Reject_eff (s : State) (cause : Nat) : Eff 4673461485572 s (State.csp4Reject s cause) := by
  unfold State.csp4Reject
  with_reducible repeat' first | assumption | exact Eff.refl _ _ | refine (State.alertPend_eff _ _ _).step rfl ?_ | refine (State.raise_eff _ _ _ _).step rfl ?_ | refine (State.sat_eff _ _ _).step rfl ?_ | refine (State.set_eff _ _ _).step rfl ?_ | refine Eff.ite ?_ ?_ | split | dsimp only

theorem State.csp4Sent_eff (s : State) (n : Nat) : Eff 34359738372 s (State.csp4Sent s n) := by
  unfold State.csp4Sent
  with_reducible repeat' first | assumption | exact Eff.refl _ _ | refine (State.alertPend_eff _ _ _).step rfl ?_ | refine Eff.ite ?_ ?_ | split | refine Eff.upd_cspx ?_ rfl | dsimp only

theorem execCsp4Frame_eff (bits : Nat) (words : List Word) (s : State) : OutEff 4845260177414 s (execCsp4Frame bits words s) := by
  unfold execCsp4Frame
  with_reducible repeat' first | refine OutEff.guard ?_ | refine OutEff.next ?_ | assumption | exact Eff.refl _ _ | refine (State.csp4Reject_eff _ _).step rfl ?_ | refine (State.csp4Sent_eff _ _).step rfl ?_ | refine (State.hostInput_eff _ _ _).step rfl ?_ | refine (State.set_eff _ _ _).step rfl ?_ | refine Eff.ite ?_ ?_ | split | refine Eff.upd_cspx ?_ rfl | dsimp only

theorem State.hostLong_eff (s : State) (v : Nat) : Eff 4845260177414 s (State.hostLong s v) := by
  unfold State.hostLong
  with_reducible repeat' first | assumption | exact Eff.refl _ _ | refine (State.hostBegin_eff _ _).step rfl ?_ | refine (State.hostDrain_eff _).step rfl ?_ | refine Eff.ite ?_ ?_ | split | refine Eff.upd_host ?_ rfl | dsimp only

theorem State.romReply_eff (s : State) (x : HostCmd) (status : Nat) : Eff 4845260177414 s (State.romReply s x status) := by
  unfold State.romReply
  with_reducible repeat' first | assumption | exact Eff.refl _ _ | refine (State.appReply_eff _ _ _ _).step rfl ?_ | refine (State.fwPop_eff _).step rfl ?_ | refine (State.hostDrain_eff _).step rfl ?_ | refine Eff.ite ?_ ?_ | split | dsimp only

theorem execWrite_eff (offset : Nat) (words : List Word) (s : State) : OutEff 4845260226574 s (execWrite offset words s) := by
  unfold execWrite
  with_reducible repeat' first | refine OutEff.guard ?_ | refine OutEff.next ?_ | assumption | exact Eff.refl _ _ | refine (State.flPrograms_eff _ _ _ _ _ _ _).step rfl ?_ | refine (State.romReply_eff _ _ _).step rfl ?_ | refine Eff.ite ?_ ?_ | split | refine Eff.upd_freeCtr ?_ rfl (by simp) | dsimp only

theorem State.hostPass_eff (s : State) (m : HostIn) : Eff 4845260177414 s (State.hostPass s m) := by
  unfold State.hostPass
  with_reducible repeat' first | assumption | exact Eff.refl _ _ | refine (State.hostDrain_eff _).step rfl ?_ | refine (State.hostPut_eff _ _ _ _).step rfl ?_ | refine (State.hostTake_eff _).step rfl ?_ | refine Eff.ite ?_ ?_ | split | refine Eff.upd_host ?_ rfl | dsimp only

theorem execApp_eff (s : State) : OutEff 4845260177414 s (execApp s) := by
  unfold execApp
  with_reducible repeat' first | refine OutEff.guard ?_ | refine OutEff.next ?_ | assumption | exact Eff.refl _ _ | refine (State.hostPass_eff _ _).step rfl ?_ | refine Eff.ite ?_ ?_ | split | dsimp only

theorem execDone_eff (s : State) : OutEff 4935454999052 s (execDone s) := by
  unfold execDone
  with_reducible repeat' first | refine OutEff.guard ?_ | refine OutEff.next ?_ | assumption | exact Eff.refl _ _ | refine (State.resetS_eff _ _).step rfl ?_ | refine Eff.ite ?_ ?_ | split | dsimp only

theorem execTime_eff (s : State) : OutEff 4845260177414 s (execTime s) := by
  unfold execTime
  with_reducible repeat' first | refine OutEff.guard ?_ | refine OutEff.next ?_ | assumption | exact Eff.refl _ _ | refine (State.hostSay_eff _ _ _ _).step rfl ?_ | refine Eff.ite ?_ ?_ | split | dsimp only

theorem execHstatus_eff (s : State) : OutEff 4845260177414 s (execHstatus s) := by
  unfold execHstatus
  with_reducible repeat' first | refine OutEff.guard ?_ | refine OutEff.next ?_ | assumption | exact Eff.refl _ _ | refine (State.hostSay_eff _ _ _ _).step rfl ?_ | refine Eff.ite ?_ ?_ | split | dsimp only

theorem execHostGatewayTimeout_eff (s : State) : OutEff 5947454062990 s (execHostGatewayTimeout s) := by
  unfold execHostGatewayTimeout
  with_reducible repeat' first | refine OutEff.guard ?_ | refine OutEff.next ?_ | assumption | exact Eff.refl _ _ | refine (State.hostAnswer_eff _ _ _ _).step rfl ?_ | refine (State.hostDrain_eff _).step rfl ?_ | refine (State.passTo_eff _ _).step rfl ?_ | refine Eff.ite ?_ ?_ | split | dsimp only

theorem execEventQueueMove_eff (s : State) : OutEff 137438953732 s (execEventQueueMove s) := by
  unfold execEventQueueMove
  with_reducible repeat' first | refine OutEff.guard ?_ | refine OutEff.next ?_ | assumption | exact Eff.refl _ _ | refine (State.eventPut_eff _ _).step rfl ?_ | refine (State.ringNext_eff _).step rfl ?_ | refine Eff.ite ?_ ?_ | split | dsimp only

theorem execCsp4SelectAsserted_eff (s : State) : OutEff 4707821223940 s (execCsp4SelectAsserted s) := by
  unfold execCsp4SelectAsserted
  with_reducible repeat' first | refine OutEff.guard ?_ | refine OutEff.next ?_ | assumption | exact Eff.refl _ _ | refine (State.set_eff _ _ _).step rfl ?_ | refine (State.wakeSapwood_eff _ _).step rfl ?_ | refine Eff.ite ?_ ?_ | split | refine Eff.upd_cspx ?_ rfl | dsimp only

theorem execHostForward_eff (s : State) : OutEff 35107062153198 s (execHostForward s) := by
  unfold execHostForward
  with_reducible repeat' first | refine OutEff.guard ?_ | refine OutEff.next ?_ | assumption | exact Eff.refl _ _ | refine (State.hostForward_eff _ _).step rfl ?_ | refine Eff.ite ?_ ?_ | split | dsimp only

theorem execWakePolicy_eff (s : State) : OutEff 4845260177414 s (execWakePolicy s) := by
  unfold execWakePolicy
  with_reducible repeat' first | refine OutEff.guard ?_ | refine OutEff.next ?_ | assumption | exact Eff.refl _ _ | refine (State.alertWrite_eff _ _).step rfl ?_ | refine (State.hostSay_eff _ _ _ _).step rfl ?_ | refine (State.set_eff _ _ _).step rfl ?_ | refine (State.wakeMaskWrite_eff _ _).step rfl ?_ | refine Eff.ite ?_ ?_ | split | dsimp only

theorem State.sapErase_eff (s : State) (sector : Nat) (x2 : Nat) : Eff 67158152 s (State.sapErase s sector x2) := by
  induction x2 generalizing s sector with
  | zero => exact Eff.refl _ _
  | succ y ih =>
    unfold State.sapErase
    with_reducible repeat' first | assumption | exact Eff.refl _ _ | refine (ih _ _).step rfl ?_ | refine (State.sectorErased_eff _ _ _ _).step rfl ?_ | refine Eff.ite ?_ ?_ | split | refine Eff.upd_sflash ?_ rfl | dsimp only

theorem execEraseSlot_eff (s : State) : OutEff 4845327335566 s (execEraseSlot s) := by
  unfold execEraseSlot
  with_reducible repeat' first | refine OutEff.guard ?_ | refine OutEff.next ?_ | assumption | exact Eff.refl _ _ | refine (State.romReply_eff _ _ _).step rfl ?_ | refine (State.sapErase_eff _ _ _).step rfl ?_ | refine Eff.ite ?_ ?_ | split | dsimp only

theorem execLong_eff (value : Word) (s : State) : OutEff 4845260177414 s (execLong value s) := by
  unfold execLong
  with_reducible repeat' first | refine OutEff.guard ?_ | refine OutEff.next ?_ | assumption | exact Eff.refl _ _ | refine (State.hostLong_eff _ _).step rfl ?_ | refine Eff.ite ?_ ?_ | split | dsimp only

end Sys2Proof.Machine
end

