-- ==== Sys2Proof/Laws/EffSpindle.lean ====
section
/-! SUPPORT. What every operation of Machine/Spindle.lean may change, and that it keeps the canonical forms and lowers no rising counter (Effect.lean). -/

namespace Sys2Proof.Machine

theorem State.ethMv_eff (s : State) : Eff 4 s (State.ethMv s) := by
  unfold State.ethMv
  with_reducible repeat' first | assumption | exact Eff.refl _ _ | refine (State.set_eff _ _ _).step rfl ?_ | refine Eff.ite ?_ ?_ | split | dsimp only

theorem State.admission_eff (s : State) (k : Nat) (n : Nat) (ta : Nat) : Eff 5775655371148 s (State.admission s k n ta) := by
  unfold State.admission
  with_reducible repeat' first | assumption | exact Eff.refl _ _ | refine (State.advanceTo_eff _ _).step rfl ?_ | refine (State.decide__eff _ _ _ _ _).step rfl ?_ | refine (State.demandShow_eff _).step rfl ?_ | refine (State.settle_eff _).step rfl ?_ | refine (State.turnedAway_eff _ _ _ _).step rfl ?_ | refine Eff.ite ?_ ?_ | split | dsimp only

theorem execJobAdmission_eff (k : Nat) (s : State) : OutEff 5775655371148 s (execJobAdmission k s) := by
  unfold execJobAdmission
  with_reducible repeat' first | refine OutEff.guard ?_ | refine OutEff.next ?_ | assumption | exact Eff.refl _ _ | refine (State.admission_eff _ _ _ _).step rfl ?_ | refine Eff.ite ?_ ?_ | split | dsimp only

theorem State.gaugeTake_eff (s : State) (code : Nat) (isns : Int) : Eff 268435460 s (State.gaugeTake s code isns) := by
  unfold State.gaugeTake
  with_reducible repeat' first | assumption | exact Eff.refl _ _ | refine (State.ethMv_eff _).step rfl ?_ | refine (State.set_eff _ _ _).step rfl ?_ | refine Eff.ite ?_ ?_ | split | refine Eff.upd_spn ?_ rfl | dsimp only

theorem execJobAbandon_eff (k : Nat) (s : State) : OutEff 5775655371148 s (execJobAbandon k s) := by
  unfold execJobAbandon
  with_reducible repeat' first | refine OutEff.guard ?_ | refine OutEff.next ?_ | assumption | exact Eff.refl _ _ | refine (State.advanceTo_eff _ _).step rfl ?_ | refine (State.raise_eff _ _ _ _).step rfl ?_ | refine (State.releaseLost_eff _ _ _ _).step rfl ?_ | refine (State.settle_eff _).step rfl ?_ | refine (State.taskDone_eff _ _).step rfl ?_ | refine Eff.ite ?_ ?_ | split | dsimp only

theorem State.ethMa_eff (s : State) : Eff 6 s (State.ethMa s) := by
  unfold State.ethMa
  with_reducible repeat' first | assumption | exact Eff.refl _ _ | refine (State.set_eff _ _ _).step rfl ?_ | refine Eff.ite ?_ ?_ | split | refine Eff.upd_freeCtr ?_ rfl (by simp) | dsimp only

theorem State.gaugeAct_eff (s : State) : Eff 4673729921028 s (State.gaugeAct s) := by
  unfold State.gaugeAct
  with_reducible repeat' first | assumption | exact Eff.refl _ _ | refine (State.icEdge_eff _ _ _).step rfl ?_ | refine (State.set_eff _ _ _).step rfl ?_ | refine Eff.ite ?_ ?_ | split | refine Eff.upd_spn ?_ rfl | refine Eff.upd_season ?_ rfl | dsimp only

theorem execGaugeSample_eff (code : Nat) (isns : Int) (s : State) : OutEff 4673729921030 s (execGaugeSample code isns s) := by
  unfold execGaugeSample
  with_reducible repeat' first | refine OutEff.guard ?_ | refine OutEff.next ?_ | assumption | exact Eff.refl _ _ | refine (State.ethMa_eff _).step rfl ?_ | refine (State.gaugeAct_eff _).step rfl ?_ | refine (State.gaugeTake_eff _ _ _).step rfl ?_ | refine (State.set_eff _ _ _).step rfl ?_ | refine (State.setI_eff _ _ _).step rfl ?_ | refine Eff.ite ?_ ?_ | split | dsimp only

theorem State.tempsSet_eff (s : State) (x1 : Nat) (x2 : List Int) : Eff 4 s (State.tempsSet s x1 x2) := by
  induction x2 generalizing s x1 with
  | nil => exact Eff.refl _ _
  | cons y ys ih =>
    unfold State.tempsSet
    with_reducible repeat' first | assumption | exact Eff.refl _ _ | refine (ih _ _).step rfl ?_ | refine (State.setI_eff _ _ _).step rfl ?_ | refine Eff.ite ?_ ?_ | split | dsimp only

theorem execTemperatureSample_eff (temps : List Int) (s : State) : OutEff 268435460 s (execTemperatureSample temps s) := by
  unfold execTemperatureSample
  with_reducible repeat' first | refine OutEff.guard ?_ | refine OutEff.next ?_ | assumption | exact Eff.refl _ _ | refine (State.set_eff _ _ _).step rfl ?_ | refine (State.tempsSet_eff _ _ _).step rfl ?_ | refine Eff.ite ?_ ?_ | split | refine Eff.upd_spn ?_ rfl | dsimp only

theorem execEnergyScaleUpdate_eff (s : State) : OutEff 5775655371148 s (execEnergyScaleUpdate s) := by
  unfold execEnergyScaleUpdate
  with_reducible repeat' first | refine OutEff.guard ?_ | refine OutEff.next ?_ | assumption | exact Eff.refl _ _ | refine (State.advanceTo_eff _ _).step rfl ?_ | refine (State.set_eff _ _ _).step rfl ?_ | refine (State.settle_eff _).step rfl ?_ | refine Eff.ite ?_ ?_ | split | refine Eff.upd_spn ?_ rfl | dsimp only

theorem execPowerFailCommit_eff (durUs : Nat) (cut : Bool) (s : State) : OutEff 14571583783308 s (execPowerFailCommit durUs cut s) := by
  unfold execPowerFailCommit
  with_reducible repeat' first | refine OutEff.guard ?_ | refine OutEff.next ?_ | assumption | exact Eff.refl _ _ | refine (State.powerFailStep_eff _ _ _ _).step rfl ?_ | refine Eff.ite ?_ ?_ | split | dsimp only

end Sys2Proof.Machine
end

