-- ==== Sys2Proof/Laws/EffPower.lean ====
section
/-! SUPPORT. What every operation of Machine/Power.lean may change, and that it keeps the canonical forms and lowers no rising counter (Effect.lean). -/

namespace Sys2Proof.Machine

theorem State.startEnd_eff (s : State) (v : Nat × Nat × Nat) : Eff 15671060840876 s (State.startEnd s v) := by
  unfold State.startEnd
  with_reducible repeat' first | assumption | exact Eff.refl _ _ | refine (State.commitAhead_eff _).step rfl ?_ | refine (State.intervalNote_eff _ _).step rfl ?_ | refine (State.set_eff _ _ _).step rfl ?_ | refine (State.setB_eff _ _ _).step rfl ?_ | refine (State.startComplete_eff _).step rfl ?_ | refine (State.x32Log_eff _).step rfl ?_ | refine Eff.ite ?_ ?_ | split | refine Eff.upd_boot_spn_wdt ?_ rfl rfl rfl  | refine Eff.upd_boot ?_ rfl | refine Eff.upd_spn ?_ rfl | refine Eff.upd_wdt ?_ rfl | dsimp only

theorem State.coreStart_eff (s : State) (c : Nat) (addr : Nat) : Eff 274877906944 s (State.coreStart s c addr) := by
  unfold State.coreStart
  with_reducible repeat' first | assumption | exact Eff.refl _ _ | refine Eff.ite ?_ ?_ | split | refine Eff.upd_cores ?_ rfl | dsimp only

theorem State.sc1Boot_eff (s : State) (value : Word) : Eff 274877906948 s (State.sc1Boot s value) := by
  unfold State.sc1Boot
  with_reducible repeat' first | assumption | exact Eff.refl _ _ | refine (State.coreStart_eff _ _ _).step rfl ?_ | refine (State.set_eff _ _ _).step rfl ?_ | refine Eff.ite ?_ ?_ | split | dsimp only

theorem State.srstReq_eff (s : State) (value : Word) : Eff 4935454999052 s (State.srstReq s value) := by
  unfold State.srstReq
  with_reducible repeat' first | assumption | exact Eff.refl _ _ | refine (State.resetS_eff _ _).step rfl ?_ | refine Eff.ite ?_ ?_ | split | dsimp only

theorem State.swRun_eff (s : State) (slot : Nat) : Eff 274877906956 s (State.swRun s slot) := by
  unfold State.swRun
  with_reducible repeat' first | assumption | exact Eff.refl _ _ | refine (State.copyMem_eff _ _ _ _).step rfl ?_ | refine (State.coreStart_eff _ _ _).step rfl ?_ | refine (State.set_eff _ _ _).step rfl ?_ | refine Eff.ite ?_ ?_ | split | dsimp only

theorem State.sysOn_eff (s : State) : Eff 134217732 s (State.sysOn s) := by
  unfold State.sysOn
  with_reducible repeat' first | assumption | exact Eff.refl _ _ | refine (State.set_eff _ _ _).step rfl ?_ | refine Eff.ite ?_ ?_ | split | refine Eff.upd_time ?_ rfl | dsimp only

theorem execSapwoodBoot_eff (s : State) : OutEff 275079282828 s (execSapwoodBoot s) := by
  unfold execSapwoodBoot
  with_reducible repeat' first | refine OutEff.guard ?_ | refine OutEff.next ?_ | assumption | exact Eff.refl _ _ | refine (State.coreStart_eff _ _ _).step rfl ?_ | refine (State.repair_eff _ _).step rfl ?_ | refine (State.seasonUpdate_eff _).step rfl ?_ | refine (State.set_eff _ _ _).step rfl ?_ | refine (State.setB_eff _ _ _).step rfl ?_ | refine (State.swRun_eff _ _).step rfl ?_ | refine (State.sysOn_eff _).step rfl ?_ | refine Eff.ite ?_ ?_ | split | dsimp only

theorem State.holds_eff (s : State) : Eff 16 s (State.holds s) := by
  unfold State.holds
  with_reducible repeat' first | assumption | exact Eff.refl _ _ | refine Eff.ite ?_ ?_ | split | refine Eff.upd_pins ?_ rfl | dsimp only

theorem execVddioSLoss_eff (s : State) : OutEff 20 s (execVddioSLoss s) := by
  unfold execVddioSLoss
  with_reducible repeat' first | refine OutEff.guard ?_ | refine OutEff.next ?_ | assumption | exact Eff.refl _ _ | refine (State.holds_eff _).step rfl ?_ | refine (State.seasonUpdate_eff _).step rfl ?_ | refine Eff.ite ?_ ?_ | split | refine Eff.upd_pins ?_ rfl | dsimp only

theorem State.pulseJudged_eff (s : State) (us : Nat) : Eff 2 s (State.pulseJudged s us) := by
  unfold State.pulseJudged
  with_reducible repeat' first | assumption | exact Eff.refl _ _ | refine Eff.ite ?_ ?_ | split | refine Eff.upd_freeCtr ?_ rfl (by simp) | dsimp only

theorem State.srstnWake_eff (s : State) : Eff 4935455064588 s (State.srstnWake s) := by
  unfold State.srstnWake
  with_reducible repeat' first | assumption | exact Eff.refl _ _ | refine (State.resetS_eff _ _).step rfl ?_ | refine (State.seasonUpdate_eff _).step rfl ?_ | refine (State.wakeNow_eff _ _).step rfl ?_ | refine Eff.ite ?_ ?_ | split | refine Eff.upd_season ?_ rfl | dsimp only

theorem execSrstnLow_eff (us : Nat) (s : State) : OutEff 4935455064590 s (execSrstnLow us s) := by
  unfold execSrstnLow
  with_reducible repeat' first | refine OutEff.guard ?_ | refine OutEff.next ?_ | assumption | exact Eff.refl _ _ | refine (State.pulseJudged_eff _ _).step rfl ?_ | refine (State.srstnWake_eff _).step rfl ?_ | refine Eff.ite ?_ ?_ | split | dsimp only

theorem execVddSwLoss_eff (s : State) : OutEff 274877956628 s (execVddSwLoss s) := by
  unfold execVddSwLoss
  with_reducible repeat' first | refine OutEff.guard ?_ | refine OutEff.next ?_ | assumption | exact Eff.refl _ _ | refine (State.eraseCut_eff _ _).step rfl ?_ | refine (State.gwDiscard_eff _).step rfl ?_ | refine (State.holds_eff _).step rfl ?_ | refine (State.seasonUpdate_eff _).step rfl ?_ | refine Eff.ite ?_ ?_ | split | refine Eff.upd_pins_cores ?_ rfl rfl  | refine Eff.upd_pins ?_ rfl | refine Eff.upd_cores ?_ rfl | dsimp only

theorem State.swReturns_eff (s : State) : Eff 4935454999068 s (State.swReturns s) := by
  unfold State.swReturns
  with_reducible repeat' first | assumption | exact Eff.refl _ _ | refine (State.holds_eff _).step rfl ?_ | refine (State.resetS_eff _ _).step rfl ?_ | refine (State.seasonUpdate_eff _).step rfl ?_ | refine Eff.ite ?_ ?_ | split | refine Eff.upd_pins ?_ rfl | dsimp only

theorem execSupplyGood_eff (sup : Nat) (s : State) : OutEff 4935454999068 s (execSupplyGood sup s) := by
  unfold execSupplyGood
  with_reducible repeat' first | refine OutEff.guard ?_ | refine OutEff.next ?_ | assumption | exact Eff.refl _ _ | refine (State.holds_eff _).step rfl ?_ | refine (State.seasonUpdate_eff _).step rfl ?_ | refine (State.swReturns_eff _).step rfl ?_ | refine Eff.ite ?_ ?_ | split | refine Eff.upd_pins ?_ rfl | dsimp only

theorem execSrstReq_eff (value : Word) (s : State) : OutEff 4935454999052 s (execSrstReq value s) := by
  unfold execSrstReq
  with_reducible repeat' first | refine OutEff.guard ?_ | refine OutEff.next ?_ | assumption | exact Eff.refl _ _ | refine (State.srstReq_eff _ _).step rfl ?_ | refine Eff.ite ?_ ?_ | split | dsimp only

theorem State.capSamples_eff (s : State) (x1 : List (Nat × Int)) (x2 : Int) : Eff 268435460 s (State.capSamples s x1 x2).1 := by
  induction x1 generalizing s x2 with
  | nil => exact Eff.refl _ _
  | cons y ys ih =>
    unfold State.capSamples
    with_reducible repeat' first | assumption | exact Eff.refl _ _ | refine (ih _ _).step rfl ?_ | refine (State.gaugeTake_eff _ _ _).step rfl ?_ | refine (State.set_eff _ _ _).step rfl ?_ | refine Eff.ite ?_ ?_ | split | dsimp only

theorem State.capTest_eff (s : State) (xs : List (Nat × Int)) : Eff 268435460 s (State.capTest s xs).1 := by
  unfold State.capTest
  with_reducible repeat' first | assumption | exact Eff.refl _ _ | refine (State.capSamples_eff _ _ _).step rfl ?_ | refine Eff.ite ?_ ?_ | split | dsimp only

theorem execBankCapacitanceCheck_eff (samples : List (Nat × Int)) (s : State) : OutEff 15671060840876 s (execBankCapacitanceCheck samples s) := by
  unfold execBankCapacitanceCheck
  with_reducible repeat' first | refine OutEff.guard ?_ | refine OutEff.next ?_ | assumption | exact Eff.refl _ _ | refine (State.capTest_eff _ _).step rfl ?_ | refine (State.startEnd_eff _ _).step rfl ?_ | refine Eff.ite ?_ ?_ | split | dsimp only

theorem execTestenHigh_eff (level : Bool) (s : State) : OutEff 131941395317756 s (execTestenHigh level s) := by
  unfold execTestenHigh
  with_reducible repeat' first | refine OutEff.guard ?_ | refine OutEff.next ?_ | assumption | exact Eff.refl _ _ | refine (State.holds_eff _).step rfl ?_ | refine (State.resetP_eff _).step rfl ?_ | refine Eff.ite ?_ ?_ | split | refine Eff.upd_pins ?_ rfl | dsimp only

theorem execVddAoFail_eff (s : State) : OutEff 131941395317756 s (execVddAoFail s) := by
  unfold execVddAoFail
  with_reducible repeat' first | refine OutEff.guard ?_ | refine OutEff.next ?_ | assumption | exact Eff.refl _ _ | refine (State.holds_eff _).step rfl ?_ | refine (State.resetP_eff _).step rfl ?_ | refine Eff.ite ?_ ?_ | split | refine Eff.upd_pins ?_ rfl | dsimp only

theorem execStartUpSequence_eff (seed : Nat) (cut : Nat) (faults : Nat) (s : State) : OutEff 35072702412782 s (execStartUpSequence seed cut faults s) := by
  unfold execStartUpSequence
  with_reducible repeat' first | refine OutEff.guard ?_ | refine OutEff.next ?_ | assumption | exact Eff.refl _ _ | refine (State.seasonUpdate_eff _).step rfl ?_ | refine (State.startClocks_eff _).step rfl ?_ | refine (State.startRun_eff _ _ _ _).step rfl ?_ | refine Eff.ite ?_ ?_ | split | dsimp only

theorem execSc1Boot_eff (value : Word) (s : State) : OutEff 274877906948 s (execSc1Boot value s) := by
  unfold execSc1Boot
  with_reducible repeat' first | refine OutEff.guard ?_ | refine OutEff.next ?_ | assumption | exact Eff.refl _ _ | refine (State.sc1Boot_eff _ _).step rfl ?_ | refine Eff.ite ?_ ?_ | split | dsimp only

theorem execPornLow_eff (us : Nat) (s : State) : OutEff 131941395317758 s (execPornLow us s) := by
  unfold execPornLow
  with_reducible repeat' first | refine OutEff.guard ?_ | refine OutEff.next ?_ | assumption | exact Eff.refl _ _ | refine (State.holds_eff _).step rfl ?_ | refine (State.pulseJudged_eff _ _).step rfl ?_ | refine (State.resetP_eff _).step rfl ?_ | refine Eff.ite ?_ ?_ | split | dsimp only

theorem execClassHReset_eff (cause : Nat) (durUs : Nat) (mv : Nat) (s : State) : OutEff 35072702399404 s (execClassHReset cause durUs mv s) := by
  unfold execClassHReset
  with_reducible repeat' first | refine OutEff.guard ?_ | refine OutEff.next ?_ | assumption | exact Eff.refl _ _ | refine (State.resetHCommit_eff _ _ _ _).step rfl ?_ | refine Eff.ite ?_ ?_ | split | dsimp only

theorem State.frostLost_eff (s : State) : Eff 4935454949388 s s.frostLost := by
  unfold State.frostLost
  refine Eff.ite (Eff.upd_season (Eff.upd_regs ((State.clearSapwood_eff _).mono rfl) rfl (regsClass_wf _)) rfl) (Eff.refl _ _)

theorem execHeartwoodRailLoss_eff (rail : Nat) (s : State) : OutEff 26379689116604 s (execHeartwoodRailLoss rail s) := by
  unfold execHeartwoodRailLoss
  with_reducible repeat' first | refine OutEff.guard ?_ | refine OutEff.next ?_ | assumption | exact Eff.refl _ _ | refine (State.frostLost_eff _).step rfl ?_ | refine (State.holds_eff _).step rfl ?_ | refine (State.resetH_eff _ _ _ _).step rfl ?_ | refine (State.seasonUpdate_eff _).step rfl ?_ | refine Eff.ite ?_ ?_ | split | refine Eff.upd_pins ?_ rfl | dsimp only

theorem execVddSwReturn_eff (s : State) : OutEff 4935454999068 s (execVddSwReturn s) := by
  unfold execVddSwReturn
  with_reducible repeat' first | refine OutEff.guard ?_ | refine OutEff.next ?_ | assumption | exact Eff.refl _ _ | refine (State.swReturns_eff _).step rfl ?_ | refine Eff.ite ?_ ?_ | split | dsimp only

end Sys2Proof.Machine
end

