-- ==== Sys2Proof/Laws/EffSeal.lean ====
section
/-! SUPPORT. What every operation of Machine/Seal.lean may change, and that it keeps the canonical forms and lowers no rising counter (Effect.lean). -/

namespace Sys2Proof.Machine

theorem execClrOvr_eff (s : State) : OutEff 4 s (execClrOvr s) := by
  unfold execClrOvr
  with_reducible repeat' first | refine OutEff.guard ?_ | refine OutEff.next ?_ | assumption | exact Eff.refl _ _ | refine (State.set_eff _ _ _).step rfl ?_ | refine Eff.ite ?_ ?_ | split | dsimp only

theorem State.ringPop_eff (s : State) : Eff 260 s (State.ringPop s) := by
  unfold State.ringPop
  with_reducible repeat' first | assumption | exact Eff.refl _ _ | refine (State.set_eff _ _ _).step rfl ?_ | refine Eff.ite ?_ ?_ | split | refine Eff.upd_ring ?_ rfl | dsimp only

theorem execSealClose_eff (fails : Nat) (slept : Asleep) (s : State) : OutEff 35072702399470 s (execSealClose fails slept s) := by
  unfold execSealClose
  with_reducible repeat' first | refine OutEff.guard ?_ | refine OutEff.next ?_ | assumption | exact Eff.refl _ _ | refine (State.loopClosed_eff _ _).step rfl ?_ | refine (State.passed_eff _ _).step rfl ?_ | refine Eff.ite ?_ ?_ | split | dsimp only

theorem execPop_eff (s : State) : OutEff 260 s (execPop s) := by
  unfold execPop
  with_reducible repeat' first | refine OutEff.guard ?_ | refine OutEff.next ?_ | assumption | exact Eff.refl _ _ | refine (State.ringPop_eff _).step rfl ?_ | refine Eff.ite ?_ ?_ | split | dsimp only

theorem execSealPatternAdvance_eff (sample : Bool) (s : State) : OutEff 35072702399470 s (execSealPatternAdvance sample s) := by
  unfold execSealPatternAdvance
  with_reducible repeat' first | refine OutEff.guard ?_ | refine OutEff.next ?_ | assumption | exact Eff.refl _ _ | refine (State.loopClosed_eff _ _).step rfl ?_ | refine (State.loopOpen_eff _ _).step rfl ?_ | refine (State.passed_eff _ _).step rfl ?_ | refine Eff.ite ?_ ?_ | split | refine Eff.upd_sealc ?_ rfl (by simp <;> omega) | dsimp only

theorem State.ringShow_eff (s : State) (x1 : Nat) (x2 : List Word) : Eff 4 s (State.ringShow s x1 x2) := by
  induction x2 generalizing s x1 with
  | nil => exact Eff.refl _ _
  | cons y ys ih =>
    unfold State.ringShow
    with_reducible repeat' first | assumption | exact Eff.refl _ _ | refine (ih _ _).step rfl ?_ | refine (State.setW_eff _ _ _).step rfl ?_ | refine Eff.ite ?_ ?_ | split | dsimp only

theorem execRingEntryRead_eff (s : State) : OutEff 260 s (execRingEntryRead s) := by
  unfold execRingEntryRead
  with_reducible repeat' first | refine OutEff.guard ?_ | refine OutEff.next ?_ | assumption | exact Eff.refl _ _ | refine (State.ringShow_eff _ _ _).step rfl ?_ | refine Eff.ite ?_ ?_ | split | refine Eff.upd_ring ?_ rfl | dsimp only

theorem execSealOpen_eff (fails : Nat) (slept : Asleep) (s : State) : OutEff 35072702399470 s (execSealOpen fails slept s) := by
  unfold execSealOpen
  with_reducible repeat' first | refine OutEff.guard ?_ | refine OutEff.next ?_ | assumption | exact Eff.refl _ _ | refine (State.loopOpen_eff _ _).step rfl ?_ | refine (State.passed_eff _ _).step rfl ?_ | refine Eff.ite ?_ ?_ | split | dsimp only

end Sys2Proof.Machine
end

