-- ==== Sys2Proof/Laws/EffTimers.lean ====
section
/-! SUPPORT. What every operation of Machine/Timers.lean may change, and that it keeps the canonical forms and lowers no rising counter (Effect.lean). -/

namespace Sys2Proof.Machine

theorem State.tcPut_eff (s : State) (g : Nat) (i : Nat) (x : Tc) : Eff 4 s (State.tcPut s g i x) := by
  unfold State.tcPut
  with_reducible repeat' first | assumption | exact Eff.refl _ _ | refine (State.set_eff _ _ _).step rfl ?_ | refine (State.setB_eff _ _ _).step rfl ?_ | refine Eff.ite ?_ ?_ | split | dsimp only

theorem State.tcPuts_eff (s : State) (g : Nat) (x : TcGroup) (x3 : List Nat) : Eff 4673461485572 s (State.tcPuts s g x x3) := by
  induction x3 generalizing s g x with
  | nil => exact Eff.refl _ _
  | cons y ys ih =>
    unfold State.tcPuts
    with_reducible repeat' first | assumption | exact Eff.refl _ _ | refine (ih _ _ _).step rfl ?_ | refine (State.icSample_eff _ _ _).step rfl ?_ | refine (State.tcPut_eff _ _ _ _).step rfl ?_ | refine Eff.ite ?_ ?_ | split | dsimp only

theorem State.tmrStore_eff (s : State) (g : Nat) (at_ : Nat) (ph : Nat) (x : TcGroup) : Eff 4673461485572 s (State.tmrStore s g at_ ph x) := by
  unfold State.tmrStore
  with_reducible repeat' first | assumption | exact Eff.refl _ _ | refine (State.tcPuts_eff _ _ _ _).step rfl ?_ | refine Eff.ite ?_ ?_ | split | refine Eff.upd_tmr ?_ rfl | dsimp only

theorem State.tmrSync_eff (s : State) (g : Nat) : Eff 4673461485572 s (State.tmrSync s g) := by
  unfold State.tmrSync
  with_reducible repeat' first | assumption | exact Eff.refl _ _ | refine (State.tmrStore_eff _ _ _ _ _).step rfl ?_ | refine Eff.ite ?_ ?_ | split | dsimp only

theorem State.tmrRun_eff (s : State) (g : Nat) (mask : Nat) (on : Bool) (x4 : List Nat) : Eff 4 s (State.tmrRun s g mask on x4) := by
  induction x4 generalizing s g mask on with
  | nil => exact Eff.refl _ _
  | cons y ys ih =>
    unfold State.tmrRun
    with_reducible repeat' first | assumption | exact Eff.refl _ _ | refine (ih _ _ _ _).step rfl ?_ | refine (State.setB_eff _ _ _).step rfl ?_ | refine Eff.ite ?_ ?_ | split | dsimp only

theorem State.wdtRestart_eff (s : State) : Eff 4398046511108 s (State.wdtRestart s) := by
  unfold State.wdtRestart
  with_reducible repeat' first | assumption | exact Eff.refl _ _ | refine (State.set_eff _ _ _).step rfl ?_ | refine Eff.ite ?_ ?_ | split | refine Eff.upd_tmr ?_ rfl | dsimp only

theorem execTmrStop_eff (g : Nat) (value : Word) (s : State) : OutEff 4673461485572 s (execTmrStop g value s) := by
  unfold execTmrStop
  with_reducible repeat' first | refine OutEff.guard ?_ | refine OutEff.next ?_ | assumption | exact Eff.refl _ _ | refine (State.tmrRun_eff _ _ _ _ _).step rfl ?_ | refine (State.tmrSync_eff _ _).step rfl ?_ | refine Eff.ite ?_ ?_ | split | dsimp only

theorem execTmrStart_eff (g : Nat) (value : Word) (s : State) : OutEff 4673461485572 s (execTmrStart g value s) := by
  unfold execTmrStart
  with_reducible repeat' first | refine OutEff.guard ?_ | refine OutEff.next ?_ | assumption | exact Eff.refl _ _ | refine (State.tmrRun_eff _ _ _ _ _).step rfl ?_ | refine (State.tmrSync_eff _ _).step rfl ?_ | refine Eff.ite ?_ ?_ | split | dsimp only

theorem State.tmrNext_eff (s : State) (per : Bool) (g : Nat) (i : Nat) : Eff 5775655371148 s (State.tmrNext s per g i) := by
  unfold State.tmrNext
  with_reducible repeat' first | assumption | exact Eff.refl _ _ | refine (State.advancePlls_eff _ _).step rfl ?_ | refine (State.settle_eff _).step rfl ?_ | refine (State.tmrStore_eff _ _ _ _ _).step rfl ?_ | refine Eff.ite ?_ ?_ | split | dsimp only

theorem execWdtKick_eff (value : Word) (s : State) : OutEff 4398046511108 s (execWdtKick value s) := by
  unfold execWdtKick
  with_reducible repeat' first | refine OutEff.guard ?_ | refine OutEff.next ?_ | assumption | exact Eff.refl _ _ | refine (State.wdtRestart_eff _).step rfl ?_ | refine Eff.ite ?_ ?_ | split | dsimp only

theorem State.wdtTo_eff (s : State) (ms : Nat) : Eff 5775655371148 s (State.wdtTo s ms) := by
  unfold State.wdtTo
  with_reducible repeat' first | assumption | exact Eff.refl _ _ | refine (State.advancePlls_eff _ _).step rfl ?_ | refine (State.set_eff _ _ _).step rfl ?_ | refine (State.settle_eff _).step rfl ?_ | refine Eff.ite ?_ ?_ | split | dsimp only

theorem execWdtLimit_eff (s : State) : OutEff 6037648950156 s (execWdtLimit s) := by
  unfold execWdtLimit
  with_reducible repeat' first | refine OutEff.guard ?_ | refine OutEff.next ?_ | assumption | exact Eff.refl _ _ | refine (State.resetS_eff _ _).step rfl ?_ | refine (State.wdtTo_eff _ _).step rfl ?_ | refine Eff.ite ?_ ?_ | split | dsimp only

theorem execWdtWarn_eff (s : State) : OutEff 5775655371148 s (execWdtWarn s) := by
  unfold execWdtWarn
  with_reducible repeat' first | refine OutEff.guard ?_ | refine OutEff.next ?_ | assumption | exact Eff.refl _ _ | refine (State.icEdge_eff _ _ _).step rfl ?_ | refine (State.set_eff _ _ _).step rfl ?_ | refine (State.wdtTo_eff _ _).step rfl ?_ | refine Eff.ite ?_ ?_ | split | dsimp only

theorem execPeriodEnd_eff (g : Nat) (i : Nat) (s : State) : OutEff 5775655371148 s (execPeriodEnd g i s) := by
  unfold execPeriodEnd
  with_reducible repeat' first | refine OutEff.guard ?_ | refine OutEff.next ?_ | assumption | exact Eff.refl _ _ | refine (State.tmrNext_eff _ _ _ _).step rfl ?_ | refine Eff.ite ?_ ?_ | split | dsimp only

theorem State.wdtShow_eff (s : State) : Eff 4 s (State.wdtShow s) := by
  unfold State.wdtShow
  with_reducible repeat' first | assumption | exact Eff.refl _ _ | refine (State.set_eff _ _ _).step rfl ?_ | refine Eff.ite ?_ ?_ | split | dsimp only

theorem execCompareMatch_eff (g : Nat) (i : Nat) (s : State) : OutEff 5775655371148 s (execCompareMatch g i s) := by
  unfold execCompareMatch
  with_reducible repeat' first | refine OutEff.guard ?_ | refine OutEff.next ?_ | assumption | exact Eff.refl _ _ | refine (State.tmrNext_eff _ _ _ _).step rfl ?_ | refine Eff.ite ?_ ?_ | split | dsimp only

end Sys2Proof.Machine
end

