-- ==== Sys2Proof/Laws/EffBus.lean ====
section
/-! SUPPORT. What every operation of Machine/Bus.lean may change, and that it keeps the canonical forms and lowers no rising counter (Effect.lean). -/

namespace Sys2Proof.Machine

theorem State.sapHalt_eff (s : State) (c : Nat) : Eff 4672924418048 s (State.sapHalt s c) := by
  unfold State.sapHalt
  with_reducible repeat' first | assumption | exact Eff.refl _ _ | refine Eff.ite ?_ ?_ | split | refine Eff.upd_cores_tmr ?_ rfl rfl  | refine Eff.upd_cores ?_ rfl | refine Eff.upd_tmr ?_ rfl | dsimp only

theorem State.seasonWrite_eff (s : State) (a : Nat) (w : Word) : Eff 4935454999052 s (State.seasonWrite s a w) := by
  unfold State.seasonWrite
  with_reducible repeat' first | assumption | exact Eff.refl _ _ | refine (State.plainWrite_eff _ _ _).step rfl ?_ | refine (State.sc1Boot_eff _ _).step rfl ?_ | refine (State.seasonUpdate_eff _).step rfl ?_ | refine (State.srstReq_eff _ _).step rfl ?_ | refine Eff.ite ?_ ?_ | split | dsimp only

theorem State.tcWrite_eff (s : State) (g : Nat) (i : Nat) (reg : Nat) (a : Nat) (w : Word) : Eff 4673461485572 s (State.tcWrite s g i reg a w) := by
  unfold State.tcWrite
  with_reducible repeat' first | assumption | exact Eff.refl _ _ | refine (State.icSample_eff _ _ _).step rfl ?_ | refine (State.plainWrite_eff _ _ _).step rfl ?_ | refine (State.set_eff _ _ _).step rfl ?_ | refine (State.tmrSync_eff _ _).step rfl ?_ | refine Eff.ite ?_ ?_ | split | dsimp only

theorem State.wdtWrite_eff (s : State) (a : Nat) (w : Word) : Eff 4398046511108 s (State.wdtWrite s a w) := by
  unfold State.wdtWrite
  with_reducible repeat' first | assumption | exact Eff.refl _ _ | refine (State.plainWrite_eff _ _ _).step rfl ?_ | refine (State.wdtRestart_eff _).step rfl ?_ | refine Eff.ite ?_ ?_ | split | dsimp only

theorem State.tmrWrite_eff (s : State) (g : Nat) (a : Nat) (w : Word) : Eff 4673461485572 s (State.tmrWrite s g a w) := by
  unfold State.tmrWrite
  with_reducible repeat' first | assumption | exact Eff.refl _ _ | refine (State.plainWrite_eff _ _ _).step rfl ?_ | refine (State.tcWrite_eff _ _ _ _ _ _).step rfl ?_ | refine (State.tmrRun_eff _ _ _ _ _).step rfl ?_ | refine (State.tmrSync_eff _ _).step rfl ?_ | refine (State.wdtWrite_eff _ _ _).step rfl ?_ | refine Eff.ite ?_ ?_ | split | dsimp only

theorem State.eccHit_eff (s : State) (dom : Nat) (addr : Nat) : Eff 35072702399406 s (State.eccHit s dom addr) := by
  unfold State.eccHit
  with_reducible repeat' first | assumption | exact Eff.refl _ _ | refine (State.eccSeen_eff _ _).step rfl ?_ | refine (State.enterSafe_eff _ _).step rfl ?_ | refine (State.hscFault_eff _ _ _ _).step rfl ?_ | refine Eff.ite ?_ ?_ | split | refine Eff.upd_freeCtr ?_ rfl (by simp) | dsimp only

theorem State.eccHits_eff (s : State) (dom : Nat) (x2 : List Nat) : Eff 35072702399406 s (State.eccHits s dom x2) := by
  induction x2 generalizing s dom with
  | nil => exact Eff.refl _ _
  | cons y ys ih =>
    unfold State.eccHits
    with_reducible repeat' first | assumption | exact Eff.refl _ _ | refine (ih _ _).step rfl ?_ | refine (State.eccHit_eff _ _ _).step rfl ?_ | refine Eff.ite ?_ ?_ | split | dsimp only

theorem State.accessFail_eff (s : State) (dom : Nat) (kind : Nat) (master : Nat) (write : Bool) (addr : Nat) (size : Nat) : Eff 35072702399406 s (State.accessFail s dom kind master write addr size) := by
  unfold State.accessFail
  with_reducible repeat' first | assumption | exact Eff.refl _ _ | refine (State.busError_eff _ _ _ _ _ _).step rfl ?_ | refine (State.eccHits_eff _ _ _).step rfl ?_ | refine Eff.ite ?_ ?_ | split | dsimp only

theorem State.bankWrite_eff (s : State) (c : Nat) (w : Word) : Eff 274878103556 s (State.bankWrite s c w) := by
  unfold State.bankWrite
  with_reducible repeat' first | assumption | exact Eff.refl _ _ | refine (State.icLines_eff _ _ _).step rfl ?_ | refine (State.set_eff _ _ _).step rfl ?_ | refine Eff.ite ?_ ?_ | split | dsimp only

theorem State.ethWrite_eff (s : State) (n : Nat) (a : Nat) (w : Word) : Eff 4742180962310 s (State.ethWrite s n a w) := by
  unfold State.ethWrite
  with_reducible repeat' first | assumption | exact Eff.refl _ _ | refine (State.ethRxctl_eff _ _ _).step rfl ?_ | refine (State.ethTxctl_eff _ _ _).step rfl ?_ | refine (State.icSample_eff _ _ _).step rfl ?_ | refine (State.mdioWrite_eff _ _).step rfl ?_ | refine (State.plainWrite_eff _ _ _).step rfl ?_ | refine (State.tsqPop_eff _ _).step rfl ?_ | refine Eff.ite ?_ ?_ | split | dsimp only

theorem State.gwWrite_eff (s : State) (a : Nat) (w : Word) : Eff 772 s (State.gwWrite s a w) := by
  unfold State.gwWrite
  with_reducible repeat' first | assumption | exact Eff.refl _ _ | refine (State.gwBell_eff _).step rfl ?_ | refine (State.plainWrite_eff _ _ _).step rfl ?_ | refine (State.ringPop_eff _).step rfl ?_ | refine (State.set_eff _ _ _).step rfl ?_ | refine Eff.ite ?_ ?_ | split | dsimp only

theorem State.hostWrite_eff (s : State) (a : Nat) (w : Word) : Eff 4845260177414 s (State.hostWrite s a w) := by
  unfold State.hostWrite
  with_reducible repeat' first | assumption | exact Eff.refl _ _ | refine (State.alertWrite_eff _ _).step rfl ?_ | refine (State.fwPop_eff _).step rfl ?_ | refine (State.hostDrain_eff _).step rfl ?_ | refine (State.hostLong_eff _ _).step rfl ?_ | refine (State.hostSubmit_eff _ _).step rfl ?_ | refine (State.icSample_eff _ _ _).step rfl ?_ | refine (State.plainWrite_eff _ _ _).step rfl ?_ | refine Eff.ite ?_ ?_ | split | dsimp only

theorem State.sapWrite_eff (s : State) (a : Nat) (w : Word) : Eff 4935455064846 s (State.sapWrite s a w) := by
  unfold State.sapWrite
  with_reducible repeat' first | assumption | exact Eff.refl _ _ | refine (State.busErrWrite_eff _ _ _).step rfl ?_ | refine (State.cspWrite_eff _ _ _ _).step rfl ?_ | refine (State.ethWrite_eff _ _ _ _).step rfl ?_ | refine (State.gwWrite_eff _ _ _).step rfl ?_ | refine (State.hostWrite_eff _ _ _).step rfl ?_ | refine (State.icWrite_eff _ _ _ _).step rfl ?_ | refine (State.plainWrite_eff _ _ _).step rfl ?_ | refine (State.seasonWrite_eff _ _ _).step rfl ?_ | refine (State.tmrWrite_eff _ _ _ _).step rfl ?_ | refine (State.twWrite_eff _ _ _ _).step rfl ?_ | refine Eff.ite ?_ ?_ | split | dsimp only

theorem State.busWrite_eff (s : State) (dom : Nat) (master : Nat) (addr : Nat) (size : Nat) (value : W128) : Eff 35175782138862 s (State.busWrite s dom master addr size value) := by
  unfold State.busWrite
  with_reducible repeat' first | assumption | exact Eff.refl _ _ | refine (State.accessFail_eff _ _ _ _ _ _ _).step rfl ?_ | refine (State.bankWrite_eff _ _ _).step rfl ?_ | refine (State.busMem_eff _ _ _ _ _).step rfl ?_ | refine (State.hwWrite_eff _ _ _).step rfl ?_ | refine (State.sapWrite_eff _ _ _).step rfl ?_ | refine (State.snapDrop_eff _ _ _).step rfl ?_ | refine Eff.ite ?_ ?_ | split | dsimp only

theorem State.sapResume_eff (s : State) (c : Nat) : Eff 4672924614660 s (State.sapResume s c) := by
  unfold State.sapResume
  with_reducible repeat' first | assumption | exact Eff.refl _ _ | refine (State.icLines_eff _ _ _).step rfl ?_ | refine Eff.ite ?_ ?_ | split | refine Eff.upd_cores ?_ rfl | refine Eff.upd_tmr ?_ rfl | dsimp only

theorem State.sapDebug_eff (s : State) (op : Nat) (hart : Nat) (write : Bool) (addr : Nat) (size : Nat) (value : W128) : Eff 35175782138862 s (State.sapDebug s op hart write addr size value) := by
  unfold State.sapDebug
  with_reducible repeat' first | assumption | exact Eff.refl _ _ | refine (State.accessFail_eff _ _ _ _ _ _ _).step rfl ?_ | refine (State.busWrite_eff _ _ _ _ _ _).step rfl ?_ | refine (State.sapHalt_eff _ _).step rfl ?_ | refine (State.sapResume_eff _ _).step rfl ?_ | refine Eff.ite ?_ ?_ | split | dsimp only

theorem State.tapLoad_eff (s : State) (ir : Nat) (value : W128) : Eff 35184372088832 s (State.tapLoad s ir value) := by
  unfold State.tapLoad
  with_reducible repeat' first | assumption | exact Eff.refl _ _ | refine Eff.ite ?_ ?_ | split | refine Eff.upd_tap ?_ rfl | dsimp only

theorem State.gave_eff (s : State) (master : Nat) (w : Word) : Eff 17592186044416 s (State.gave s master w) := by
  unfold State.gave
  with_reducible repeat' first | assumption | exact Eff.refl _ _ | refine Eff.ite ?_ ?_ | split | refine Eff.upd_reads ?_ rfl | dsimp only

theorem State.hwDebug_eff (s : State) (op : Nat) (write : Bool) (addr : Nat) (size : Nat) (value : W128) : Eff 35175782138862 s (State.hwDebug s op write addr size value) := by
  unfold State.hwDebug
  with_reducible repeat' first | assumption | exact Eff.refl _ _ | refine (State.accessFail_eff _ _ _ _ _ _ _).step rfl ?_ | refine (State.busWrite_eff _ _ _ _ _ _).step rfl ?_ | refine (State.hscGo_eff _).step rfl ?_ | refine Eff.ite ?_ ?_ | split | refine Eff.upd_hscHalted_wdt ?_ rfl rfl  | refine Eff.upd_hscHalted ?_ rfl | refine Eff.upd_wdt ?_ rfl | dsimp only

theorem State.aocWrite_eff (s : State) (addr : Nat) (size : Nat) (value : W128) : Eff 5775510667660 s (State.aocWrite s addr size value) := by
  unfold State.aocWrite
  with_reducible repeat' first | assumption | exact Eff.refl _ _ | refine (State.eccSeen_eff _ _).step rfl ?_ | refine (State.heal_eff _ _ _).step rfl ?_ | refine (State.stBytes_eff _ _ _).step rfl ?_ | refine Eff.ite ?_ ?_ | split | dsimp only

theorem execRegisterWrite_eff (dom : Nat) (master : Nat) (addr : Nat) (size : Nat) (value : BitVec 128) (s : State) : OutEff 35175782138862 s (execRegisterWrite dom master addr size value s) := by
  unfold execRegisterWrite
  with_reducible repeat' first | refine OutEff.guard ?_ | refine OutEff.next ?_ | assumption | exact Eff.refl _ _ | refine (State.aocWrite_eff _ _ _ _).step rfl ?_ | refine (State.busWrite_eff _ _ _ _ _ _).step rfl ?_ | refine Eff.ite ?_ ?_ | split | dsimp only

theorem State.groupRead_eff (s : State) (master : Nat) (addr : Nat) : Eff 18691697672194 s (State.groupRead s master addr) := by
  unfold State.groupRead
  with_reducible repeat' first | assumption | exact Eff.refl _ _ | refine (State.gave_eff _ _ _).step rfl ?_ | refine Eff.ite ?_ ?_ | split | refine Eff.upd_freeCtr ?_ rfl (by simp) | refine Eff.upd_snaps ?_ rfl | dsimp only

theorem execBusAccessError_eff (dom : Nat) (kind : Nat) (master : Nat) (write : Bool) (addr : Nat) (size : Nat) (s : State) : OutEff 35072702399406 s (execBusAccessError dom kind master write addr size s) := by
  unfold execBusAccessError
  with_reducible repeat' first | refine OutEff.guard ?_ | refine OutEff.next ?_ | assumption | exact Eff.refl _ _ | refine (State.accessFail_eff _ _ _ _ _ _ _).step rfl ?_ | refine Eff.ite ?_ ?_ | split | dsimp only

theorem execW0SnapshotRead_eff (master : Nat) (addr : Nat) (s : State) : OutEff 35072702399406 s (execW0SnapshotRead master addr s) := by
  unfold execW0SnapshotRead
  with_reducible repeat' first | refine OutEff.guard ?_ | refine OutEff.next ?_ | assumption | exact Eff.refl _ _ | refine (State.accessFail_eff _ _ _ _ _ _ _).step rfl ?_ | refine (State.gave_eff _ _ _).step rfl ?_ | refine (State.groupRead_eff _ _ _).step rfl ?_ | refine Eff.ite ?_ ?_ | split | dsimp only

theorem execDebugAccess_eff (dom : Nat) (op : Nat) (hart : Nat) (write : Bool) (addr : Nat) (size : Nat) (value : BitVec 128) (s : State) : OutEff 70360154227694 s (execDebugAccess dom op hart write addr size value s) := by
  unfold execDebugAccess
  with_reducible repeat' first | refine OutEff.guard ?_ | refine OutEff.next ?_ | assumption | exact Eff.refl _ _ | refine (State.busError_eff _ _ _ _ _ _).step rfl ?_ | refine (State.hwDebug_eff _ _ _ _ _ _).step rfl ?_ | refine (State.sapDebug_eff _ _ _ _ _ _ _).step rfl ?_ | refine (State.tapLoad_eff _ _ _).step rfl ?_ | refine Eff.ite ?_ ?_ | split | dsimp only

end Sys2Proof.Machine
end

