-- ==== Sys2Proof/Laws/EffPads.lean ====
section
/-! SUPPORT. What every operation of Machine/Pads.lean may change, and that it keeps the canonical forms and lowers no rising counter (Effect.lean). -/

namespace Sys2Proof.Machine

theorem State.padsKeep_eff (s : State) : Eff 70368744177664 s (State.padsKeep s) := by
  unfold State.padsKeep
  with_reducible repeat' first | assumption | exact Eff.refl _ _ | refine Eff.ite ?_ ?_ | split | refine Eff.upd_kept ?_ rfl | dsimp only

end Sys2Proof.Machine
end

