-- ==== Sys2Proof/Laws/EffProgram.lean ====
section
/-! SUPPORT. What every operation of Machine/Program.lean may change, and that it keeps the canonical forms and lowers no rising counter (Effect.lean). -/

namespace Sys2Proof.Machine

theorem State.tally_eff {F : Nat} (s : State) (p : Nat) (i : Instr) (t : State) (h : Eff F s t) : OutEff F s (s.tally p i t) := by
  unfold State.tally
  exact OutEff.guard (Eff.ite h (Eff.refl _ _))

end Sys2Proof.Machine
end

