-- ==== Sys2Proof/Laws/EffTallyOps.lean ====
section
/-! SUPPORT. What every operation of Machine/TallyOps.lean may change, and that it keeps the canonical forms and lowers no rising counter (Effect.lean). -/

namespace Sys2Proof.Machine

theorem State.trapShow_eff (s : State) (p : Nat) (k : Nat) (code : Nat) : Eff 4675608969604 s (State.trapShow s p k code) := by
  unfold State.trapShow
  with_reducible repeat' first | assumption | exact Eff.refl _ _ | refine (State.faultKey_eff _ _ _ _ _ _).step rfl ?_ | refine (State.raise_eff _ _ _ _).step rfl ?_ | refine (State.sat_eff _ _ _).step rfl ?_ | refine (State.set_eff _ _ _).step rfl ?_ | refine Eff.ite ?_ ?_ | split | dsimp only

theorem State.tallyEcc_eff (s : State) (p : Nat) (k : Nat) (addr : Nat) (mem : Nat) (cause : Nat) : Eff 5775655371148 s (State.tallyEcc s p k addr mem cause) := by
  unfold State.tallyEcc
  with_reducible repeat' first | assumption | exact Eff.refl _ _ | refine (State.advanceTo_eff _ _).step rfl ?_ | refine (State.eccUncorr_eff _ _ _ _).step rfl ?_ | refine (State.isolate_eff _ _ _ _).step rfl ?_ | refine (State.settle_eff _).step rfl ?_ | refine (State.trapShow_eff _ _ _ _).step rfl ?_ | refine Eff.ite ?_ ?_ | split | dsimp only

theorem State.tallyTrap_eff (s : State) (p : Nat) (k : Nat) (code : Nat) : Eff 5775655371148 s (State.tallyTrap s p k code) := by
  unfold State.tallyTrap
  with_reducible repeat' first | assumption | exact Eff.refl _ _ | refine (State.advanceTo_eff _ _).step rfl ?_ | refine (State.afterReplay_eff _ _ _).step rfl ?_ | refine (State.markStream_eff _ _ _ _ _).step rfl ?_ | refine (State.pairStop_eff _ _).step rfl ?_ | refine (State.settle_eff _).step rfl ?_ | refine (State.taskDone_eff _ _).step rfl ?_ | refine (State.trapShow_eff _ _ _ _).step rfl ?_ | refine Eff.ite ?_ ?_ | split | dsimp only

theorem State.instrAt_eff {F : Nat} (s : State) (p n : Nat) (f : Nat → State → Tr Nat) (hF : F.land 5775655371148 = 5775655371148) (hf : ∀ k, TrEff F s (f k s)) : Eff F s (s.instrAt p n f) := by
  unfold State.instrAt
  split
  · exact Eff.refl _ _
  · rename_i k _
    refine Eff.ite ((State.tallyEcc_eff _ _ _ _ _ _).mono (Eff.landTrans hF rfl)) ?_
    have h := hf k
    split
    · rename_i e; rw [e] at h; exact (State.setPair_eff _ _ _).step (Eff.landTrans hF rfl) h
    · exact (State.tallyTrap_eff _ _ _ _).mono (Eff.landTrans hF rfl)
    · exact (State.tallyEcc_eff _ _ _ _ _ _).mono (Eff.landTrans hF rfl)

theorem State.instr_eff {F : Nat} (s : State) (p n : Nat) (f : Nat → State → Tr Pair) (hF : F.land 5775655371148 = 5775655371148) (hf : ∀ k, TrEff F s (f k s)) : Eff F s (s.instr p n f) :=
  State.instrAt_eff s p n _ (Eff.landTrans hF rfl) fun k => TrEff.bind (hf k) fun _ _ h => (State.setPair_eff _ _ _).step (Eff.landTrans hF rfl) h

theorem State.fetchWord_eff (s : State) (p off : Nat) : TrEff 0 s (s.fetchWord p off) := by
  unfold State.fetchWord
  split
  · exact Eff.refl _ _
  · split
    · trivial
    · exact Eff.refl _ _

theorem State.load_eff (s : State) (p off : Nat) : TrEff 2181038088 s (s.load p off) := by
  unfold State.load
  dsimp only
  split
  · trivial
  · split
    · trivial
    · split
      · split
        · trivial
        · exact (State.setPair_eff _ _ _).mono rfl
      · exact TrEff.bind ((State.fetchWord_eff _ _ _).step rfl (Eff.refl _ _)) fun w t h =>
          (State.setPair_eff _ _ _).step rfl ((State.heal_eff _ _ _).step rfl ((State.st128_eff _ _ _).step rfl h))

theorem State.loadN_eff (s : State) (p off n : Nat) : TrEff 2181038088 s (s.loadN p off n) := by
  induction n generalizing s off with
  | zero => exact Eff.refl _ _
  | succ n ih =>
    unfold State.loadN
    exact TrEff.bind ((State.load_eff _ _ _).step rfl (Eff.refl _ _)) fun w t h => TrEff.bind ((ih _ _).step rfl h) fun bs u h => h

theorem State.mqOp_eff (s : State) (p md n : Nat) (f : Pair → Option Mq) : Eff 5775655371148 s (s.mqOp p md n f) := by
  refine State.instr_eff s p n _ rfl fun k => ?_
  split
  · exact Eff.refl _ _
  · trivial

theorem State.emitOp_eff (s : State) (p : Nat) (f : Nat → State → Option (Nat × Nat × List Byte)) : Eff 5775655371148 s (s.emitOp p f) := by
  refine State.instr_eff s p 2 _ rfl fun k => ?_
  dsimp only
  split
  · trivial
  · split
    · trivial
    · exact Eff.refl _ _

theorem State.intOp_eff (s : State) (p rd : Nat) (f : Pair → Word) : Eff 5775655371148 s (s.intOp p rd f) := State.instr_eff s p 1 _ rfl fun _ => Eff.refl _ _

theorem State.loadParam_eff (s : State) (p id : Nat) : TrEff 2181038088 s (s.loadParam p id) := by
  unfold State.loadParam
  refine TrEff.bind ((State.load_eff _ _ _).step rfl (Eff.refl _ _)) fun w t h => ?_
  split
  · exact h
  · exact h

theorem State.loadParams_eff (s : State) (p id n : Nat) : TrEff 2181038088 s (s.loadParams p id n) := by
  induction n generalizing s id with
  | zero => exact Eff.refl _ _
  | succ n ih =>
    unfold State.loadParams
    exact TrEff.bind ((State.loadParam_eff _ _ _).step rfl (Eff.refl _ _)) fun w t h => TrEff.bind ((ih _ _).step rfl h) fun bs u h => h

theorem State.runStart_eff (s : State) (p : Nat) (k : Nat) (i6 : Word) (i7 : Word) : Eff 33554432 s (State.runStart s p k i6 i7) := by
  unfold State.runStart
  with_reducible repeat' first | assumption | exact Eff.refl _ _ | refine (State.setPair_eff _ _ _).step rfl ?_ | refine Eff.ite ?_ ?_ | split | dsimp only

theorem State.dispatch_eff (s : State) (k : Nat) (j : Job) : Eff 5775655371148 s (State.dispatch s k j) := by
  unfold State.dispatch
  with_reducible repeat' first | assumption | exact Eff.refl _ _ | refine (State.jobSet_eff _ _ _).step rfl ?_ | refine (State.runStart_eff _ _ _ _ _).step rfl ?_ | refine (State.set_eff _ _ _).step rfl ?_ | refine (State.setPair_eff _ _ _).step rfl ?_ | refine (State.tallyEcc_eff _ _ _ _ _ _).step rfl ?_ | refine Eff.ite ?_ ?_ | split | dsimp only

theorem State.commit_eff (s : State) (p : Nat) (k : Nat) (avgs : List (Nat × Avg)) (ns : List Nat) : Eff 5775655371148 s (State.commit s p k avgs ns) := by
  unfold State.commit
  with_reducible repeat' first | assumption | exact Eff.refl _ _ | refine (State.advanceTo_eff _ _).step rfl ?_ | refine (State.set_eff _ _ _).step rfl ?_ | refine (State.setPair_eff _ _ _).step rfl ?_ | refine (State.settle_eff _).step rfl ?_ | refine Eff.ite ?_ ?_ | split | dsimp only

theorem State.tend_eff (s : State) (p : Nat) (k : Nat) : Eff 5775655371148 s (State.tend s p k) := by
  unfold State.tend
  with_reducible repeat' first | assumption | exact Eff.refl _ _ | refine (State.commit_eff _ _ _ _ _).step rfl ?_ | refine (State.tallyTrap_eff _ _ _ _).step rfl ?_ | refine Eff.ite ?_ ?_ | split | dsimp only

theorem State.disagree_eff (s : State) (p : Nat) (k : Nat) : Eff 5775655371148 s (State.disagree s p k) := by
  unfold State.disagree
  with_reducible repeat' first | assumption | exact Eff.refl _ _ | refine (State.advanceTo_eff _ _).step rfl ?_ | refine (State.fault_eff _ _ _ _ _).step rfl ?_ | refine (State.isolate_eff _ _ _ _).step rfl ?_ | refine (State.runStart_eff _ _ _ _ _).step rfl ?_ | refine (State.sat_eff _ _ _).step rfl ?_ | refine (State.setPair_eff _ _ _).step rfl ?_ | refine (State.settle_eff _).step rfl ?_ | refine (State.tallyEcc_eff _ _ _ _ _ _).step rfl ?_ | refine Eff.ite ?_ ?_ | split | refine Eff.upd_flt ?_ rfl | dsimp only

end Sys2Proof.Machine
end

