-- ==== Sys2Proof/Laws/EffProperty.lean ====
section
/-! SUPPORT. What every operation of Machine/Property.lean may change, and that it keeps the canonical forms and lowers no rising counter (Effect.lean). -/

namespace Sys2Proof.Machine

theorem State.romParity_eff (s : State) (p : Nat) (x2 : Nat) : Eff 4675608969606 s (State.romParity s p x2) := by
  induction x2 generalizing s p with
  | zero => exact Eff.refl _ _
  | succ y ih =>
    unfold State.romParity
    with_reducible repeat' first | assumption | exact Eff.refl _ _ | refine (ih _ _).step rfl ?_ | refine (State.fault_eff _ _ _ _ _).step rfl ?_ | refine (State.free_eff _).step rfl ?_ | refine (State.sat_eff _ _ _).step rfl ?_ | refine (State.set_eff _ _ _).step rfl ?_ | refine Eff.ite ?_ ?_ | split | dsimp only

theorem execProp_eff (p : Nat) (md : Nat) (ma : Nat) (tbl : Nat) (par : Bool) (s : State) : OutEff 5775655371150 s (execProp p md ma tbl par s) := by
  unfold execProp
  with_reducible repeat' first | refine OutEff.guard ?_ | refine OutEff.next ?_ | refine State.tally_eff _ _ _ _ ?_ | refine State.instr_eff _ _ _ _ rfl (fun _ => ?_) | exact TrEff.trap | refine TrEff.ok ?_ | refine TrEff.ite ?_ ?_ | assumption | exact Eff.refl _ _ | refine (State.romParity_eff _ _ _).step rfl ?_ | refine Eff.ite ?_ ?_ | split | dsimp only

end Sys2Proof.Machine
end

