-- ==== Sys2Proof/Laws/EffRecords.lean ====
section
/-! SUPPORT. What every operation of Machine/Records.lean may change, and that it keeps the canonical forms and lowers no rising counter (Effect.lean). -/

namespace Sys2Proof.Machine

theorem State.diverges_eff (s : State) (st : Nat) (i : Nat) (x3 : List Nat) : Eff 4675608969604 s (State.diverges s st i x3) := by
  induction x3 generalizing s st i with
  | nil => exact Eff.refl _ _
  | cons y ys ih =>
    unfold State.diverges
    with_reducible repeat' first | assumption | exact Eff.refl _ _ | refine (ih _ _ _).step rfl ?_ | refine (State.fault_eff _ _ _ _ _).step rfl ?_ | refine (State.set_eff _ _ _).step rfl ?_ | refine Eff.ite ?_ ?_ | split | dsimp only

theorem State.snapStream_eff (s : State) (p : Nat) (i : Nat) (st : Nat) : Eff 4675676078468 s (State.snapStream s p i st) := by
  unfold State.snapStream
  with_reducible repeat' first | assumption | exact Eff.refl _ _ | refine (State.diverges_eff _ _ _ _).step rfl ?_ | refine Eff.ite ?_ ?_ | split | refine Eff.upd_recs ?_ rfl ⟨by simp,by simp⟩ | dsimp only

theorem State.snapStreams_eff (s : State) (p : Nat) (i : Nat) (x3 : List Nat) : Eff 4675676078468 s (State.snapStreams s p i x3) := by
  induction x3 generalizing s p i with
  | nil => exact Eff.refl _ _
  | cons y ys ih =>
    unfold State.snapStreams
    with_reducible repeat' first | assumption | exact Eff.refl _ _ | refine (ih _ _ _).step rfl ?_ | refine (State.snapStream_eff _ _ _ _).step rfl ?_ | refine Eff.ite ?_ ?_ | split | dsimp only

theorem State.commitTry_eff (s : State) (kind k f : Nat) : Eff 35072702399406 s (s.commitTry kind k f).1 := by
  induction k generalizing s f with
  | zero => unfold State.commitTry; exact (State.enterSafe_eff _ _).mono rfl
  | succ k ih =>
    cases f with
    | zero => unfold State.commitTry; dsimp only; exact (State.commitAhead_eff _).step rfl ((State.totCommit_eff _ _).mono rfl)
    | succ f =>
      unfold State.commitTry
      exact (ih _ _).step rfl ((State.progFail_eff _ _).step rfl ((State.commitCut_eff _).step rfl ((State.totCommit_eff _ _).mono rfl)))

theorem execIntervalRecord_eff (fails : Nat) (cfails : Nat) (s : State) : OutEff 35072702399406 s (execIntervalRecord fails cfails s) := by
  unfold execIntervalRecord
  with_reducible repeat' first | refine OutEff.guard ?_ | refine OutEff.next ?_ | assumption | exact Eff.refl _ _ | refine (State.commitTry_eff _ _ _ _).step rfl ?_ | refine (State.recAnnounce_eff _ _).step rfl ?_ | refine (State.recWrite_eff _ _ _ _ _).step rfl ?_ | refine Eff.ite ?_ ?_ | split | refine Eff.upd_recs ?_ rfl ⟨by simp,by simp⟩ | dsimp only

theorem State.keepMirrors_eff (s : State) (p : Nat) (i : Nat) (x3 : List Nat) : Eff 67108864 s (State.keepMirrors s p i x3) := by
  induction x3 generalizing s p i with
  | nil => exact Eff.refl _ _
  | cons y ys ih =>
    unfold State.keepMirrors
    with_reducible repeat' first | assumption | exact Eff.refl _ _ | refine (ih _ _ _).step rfl ?_ | refine Eff.ite ?_ ?_ | split | refine Eff.upd_recs ?_ rfl ⟨by simp,by simp⟩ | dsimp only

theorem State.figuresDrop_eff (s : State) : Eff 67108864 s (State.figuresDrop s) := by
  unfold State.figuresDrop
  with_reducible repeat' first | assumption | exact Eff.refl _ _ | refine Eff.ite ?_ ?_ | split | refine Eff.upd_recs ?_ rfl ⟨by simp,by simp⟩ | dsimp only

theorem execRecordSnapshot_eff (p : Nat) (s : State) : OutEff 4675709632908 s (execRecordSnapshot p s) := by
  unfold execRecordSnapshot
  with_reducible repeat' first | refine OutEff.guard ?_ | refine OutEff.next ?_ | assumption | exact Eff.refl _ _ | refine (State.figuresDrop_eff _).step rfl ?_ | refine (State.keepMirrors_eff _ _ _ _).step rfl ?_ | refine (State.resetBank_eff _ _ _).step rfl ?_ | refine (State.snapStreams_eff _ _ _ _).step rfl ?_ | refine Eff.ite ?_ ?_ | split | refine Eff.upd_recs ?_ rfl ⟨by simp,by simp⟩ | dsimp only

end Sys2Proof.Machine
end

