-- ==== Sys2Proof/Laws/EffRom.lean ====
section
/-! SUPPORT. What every operation of Machine/Rom.lean may change, and that it keeps the canonical forms and lowers no rising counter (Effect.lean). -/

namespace Sys2Proof.Machine

theorem State.freeUsed_eff (s : State) : Eff 2 s (State.freeUsed s) := by
  unfold State.freeUsed
  with_reducible repeat' first | assumption | exact Eff.refl _ _ | refine Eff.ite ?_ ?_ | split | refine Eff.upd_freeCtr ?_ rfl (by simp) | dsimp only

theorem execDensity_eff (p : Nat) (par : Nat) (s : State) : OutEff 5775655371150 s (execDensity p par s) := by
  unfold execDensity
  with_reducible repeat' first | refine OutEff.guard ?_ | refine OutEff.next ?_ | refine State.tally_eff _ _ _ _ ?_ | refine State.instr_eff _ _ _ _ rfl (fun _ => ?_) | exact TrEff.trap | refine TrEff.ok ?_ | refine TrEff.ite ?_ ?_ | assumption | exact Eff.refl _ _ | refine (State.freeUsed_eff _).step rfl ?_ | refine (State.romParity_eff _ _ _).step rfl ?_ | refine Eff.ite ?_ ?_ | split | dsimp only

theorem State.loadPath_eff (s : State) (p st half i : Nat) : TrEff 2181038088 s (s.loadPath p st half i) :=
  TrEff.bind ((State.loadN_eff _ _ _ _).step rfl (Eff.refl _ _)) fun _ _ h => TrEff.bind ((State.loadN_eff _ _ _ _).step rfl h) fun _ _ h => h

set_option maxRecDepth 8000 in
theorem execInPath_eff (p : Nat) (s : State) : OutEff 5775655371148 s (execInPath p s) := by
  unfold execInPath
  with_reducible repeat' first | refine OutEff.guard ?_ | refine OutEff.next ?_ | refine State.tally_eff _ _ _ _ ?_ | refine State.instr_eff _ _ _ _ rfl (fun _ => ?_) | refine TrEff.bind ((State.loadPath_eff _ _ _ _ _ ).step rfl ?_) fun _ _ _ => ?_ | refine (State.loadPath_eff _ _ _ _ _ ).step rfl ?_ | exact TrEff.trap | refine TrEff.ok ?_ | refine TrEff.ite ?_ ?_ | assumption | exact Eff.refl _ _ | refine Eff.ite ?_ ?_ | split | dsimp only

theorem execNormvol_eff (p : Nat) (par : Nat) (s : State) : OutEff 5775655371150 s (execNormvol p par s) := by
  unfold execNormvol
  with_reducible repeat' first | refine OutEff.guard ?_ | refine OutEff.next ?_ | refine State.tally_eff _ _ _ _ ?_ | refine State.instr_eff _ _ _ _ rfl (fun _ => ?_) | exact TrEff.trap | refine TrEff.ok ?_ | refine TrEff.ite ?_ ?_ | assumption | exact Eff.refl _ _ | refine (State.freeUsed_eff _).step rfl ?_ | refine (State.romParity_eff _ _ _).step rfl ?_ | refine Eff.ite ?_ ?_ | split | dsimp only

set_option maxRecDepth 8000 in
theorem State.loadPulse_eff (s : State) (p st half i : Nat) : TrEff 2181038088 s (s.loadPulse p st half i) :=
  TrEff.bind ((State.loadN_eff _ _ _ _).step rfl (Eff.refl _ _)) fun _ _ h => TrEff.bind ((State.loadN_eff _ _ _ _).step rfl h) fun _ _ h => h

set_option maxRecDepth 20000 in
theorem State.loadPulses_eff (s : State) (p st i : Nat) : TrEff 2181038088 s (s.loadPulses p st i) := by
  unfold State.loadPulses
  have k : ∀ t half, Eff 2181038088 s t → TrEff 2181038088 s (t.loadPulse p st half i) := fun t half h => (State.loadPulse_eff t p st half i).step rfl h
  refine TrEff.bind (k s 0 (Eff.refl _ s)) ?_
  intro a t h
  refine TrEff.bind (k t 1 h) ?_
  intro b u h
  exact h

set_option maxRecDepth 8000 in
theorem execFreq_eff (p : Nat) (s : State) : OutEff 5775655371150 s (execFreq p s) := by
  unfold execFreq
  with_reducible repeat' first | refine OutEff.guard ?_ | refine OutEff.next ?_ | refine State.tally_eff _ _ _ _ ?_ | refine State.instr_eff _ _ _ _ rfl (fun _ => ?_) | refine TrEff.bind ((State.loadParams_eff _ _ _ _ ).step rfl ?_) fun _ _ _ => ?_ | refine (State.loadParams_eff _ _ _ _ ).step rfl ?_ | refine TrEff.bind ((State.loadPulses_eff _ _ _ _ ).step rfl ?_) fun _ _ _ => ?_ | refine (State.loadPulses_eff _ _ _ _ ).step rfl ?_ | exact TrEff.trap | refine TrEff.ok ?_ | refine TrEff.ite ?_ ?_ | assumption | exact Eff.refl _ _ | refine (State.freeUsed_eff _).step rfl ?_ | refine Eff.ite ?_ ?_ | split | dsimp only

set_option maxRecDepth 8000 in
theorem execInPulse_eff (p : Nat) (s : State) : OutEff 5775655371148 s (execInPulse p s) := by
  unfold execInPulse
  with_reducible repeat' first | refine OutEff.guard ?_ | refine OutEff.next ?_ | refine State.tally_eff _ _ _ _ ?_ | refine State.instr_eff _ _ _ _ rfl (fun _ => ?_) | refine TrEff.bind ((State.loadPulses_eff _ _ _ _ ).step rfl ?_) fun _ _ _ => ?_ | refine (State.loadPulses_eff _ _ _ _ ).step rfl ?_ | exact TrEff.trap | refine TrEff.ok ?_ | refine TrEff.ite ?_ ?_ | assumption | exact Eff.refl _ _ | refine Eff.ite ?_ ?_ | split | dsimp only

set_option maxRecDepth 8000 in
theorem execKfactor_eff (p : Nat) (s : State) : OutEff 5775655371150 s (execKfactor p s) := by
  unfold execKfactor
  with_reducible repeat' first | refine OutEff.guard ?_ | refine OutEff.next ?_ | refine State.tally_eff _ _ _ _ ?_ | refine State.instr_eff _ _ _ _ rfl (fun _ => ?_) | refine TrEff.bind ((State.loadParams_eff _ _ _ _ ).step rfl ?_) fun _ _ _ => ?_ | refine (State.loadParams_eff _ _ _ _ ).step rfl ?_ | refine TrEff.bind ((State.loadPulses_eff _ _ _ _ ).step rfl ?_) fun _ _ _ => ?_ | refine (State.loadPulses_eff _ _ _ _ ).step rfl ?_ | exact TrEff.trap | refine TrEff.ok ?_ | refine TrEff.ite ?_ ?_ | assumption | exact Eff.refl _ _ | refine (State.freeUsed_eff _).step rfl ?_ | refine Eff.ite ?_ ?_ | split | dsimp only

theorem execVenturi_eff (p : Nat) (s : State) : OutEff 5775655371150 s (execVenturi p s) := by
  unfold execVenturi
  with_reducible repeat' first | refine OutEff.guard ?_ | refine OutEff.next ?_ | refine State.tally_eff _ _ _ _ ?_ | refine State.instr_eff _ _ _ _ rfl (fun _ => ?_) | exact TrEff.trap | refine TrEff.ok ?_ | refine TrEff.ite ?_ ?_ | assumption | exact Eff.refl _ _ | refine (State.freeUsed_eff _).step rfl ?_ | refine Eff.ite ?_ ?_ | split | dsimp only

theorem State.loadEntries_eff (s : State) (p a n : Nat) : TrEff 2181038088 s (s.loadEntries p a n) := by
  induction n generalizing s a with
  | zero => exact Eff.refl _ _
  | succ n ih =>
    unfold State.loadEntries
    exact TrEff.bind ((State.loadN_eff _ _ _ _).step rfl (Eff.refl _ _)) fun w t h => TrEff.bind ((ih _ _).step rfl h) fun bs u h => h

set_option maxRecDepth 8000 in
theorem execUpath_eff (p : Nat) (s : State) : OutEff 5775655371150 s (execUpath p s) := by
  unfold execUpath
  with_reducible repeat' first | refine OutEff.guard ?_ | refine OutEff.next ?_ | refine State.tally_eff _ _ _ _ ?_ | refine State.instr_eff _ _ _ _ rfl (fun _ => ?_) | refine TrEff.bind ((State.loadEntries_eff _ _ _ _ ).step rfl ?_) fun _ _ _ => ?_ | refine (State.loadEntries_eff _ _ _ _ ).step rfl ?_ | refine TrEff.bind ((State.loadN_eff _ _ _ _ ).step rfl ?_) fun _ _ _ => ?_ | refine (State.loadN_eff _ _ _ _ ).step rfl ?_ | refine TrEff.bind ((State.loadParams_eff _ _ _ _ ).step rfl ?_) fun _ _ _ => ?_ | refine (State.loadParams_eff _ _ _ _ ).step rfl ?_ | exact TrEff.trap | refine TrEff.ok ?_ | refine TrEff.ite ?_ ?_ | assumption | exact Eff.refl _ _ | refine Eff.ite ?_ ?_ | split | refine Eff.upd_freeCtr ?_ rfl (by simp) | dsimp only

set_option maxRecDepth 8000 in
theorem execInChain_eff (p : Nat) (s : State) : OutEff 5775655371148 s (execInChain p s) := by
  unfold execInChain
  with_reducible repeat' first | refine OutEff.guard ?_ | refine OutEff.next ?_ | refine State.tally_eff _ _ _ _ ?_ | refine State.instr_eff _ _ _ _ rfl (fun _ => ?_) | refine TrEff.bind ((State.loadN_eff _ _ _ _ ).step rfl ?_) fun _ _ _ => ?_ | refine (State.loadN_eff _ _ _ _ ).step rfl ?_ | exact TrEff.trap | refine TrEff.ok ?_ | refine TrEff.ite ?_ ?_ | assumption | exact Eff.refl _ _ | refine Eff.ite ?_ ?_ | split | dsimp only

theorem execOrifice_eff (p : Nat) (s : State) : OutEff 5775655371150 s (execOrifice p s) := by
  unfold execOrifice
  with_reducible repeat' first | refine OutEff.guard ?_ | refine OutEff.next ?_ | refine State.tally_eff _ _ _ _ ?_ | refine State.instr_eff _ _ _ _ rfl (fun _ => ?_) | exact TrEff.trap | refine TrEff.ok ?_ | refine TrEff.ite ?_ ?_ | assumption | exact Eff.refl _ _ | refine (State.freeUsed_eff _).step rfl ?_ | refine Eff.ite ?_ ?_ | split | dsimp only

end Sys2Proof.Machine
end

