-- ==== Sys2Proof/Laws/EffSeason.lean ====
section
/-! SUPPORT. What every operation of Machine/Season.lean may change, and that it keeps the canonical forms and lowers no rising counter (Effect.lean). -/

namespace Sys2Proof.Machine

theorem State.alarmSet_eff (s : State) (extra : Nat) : Eff 536870912 s (State.alarmSet s extra) := by
  unfold State.alarmSet
  with_reducible repeat' first | assumption | exact Eff.refl _ _ | refine Eff.ite ?_ ?_ | split | refine Eff.upd_season ?_ rfl | dsimp only

theorem State.frostTrigger_eff (s : State) (us : Nat) (mv : Nat) : Eff 13472037552524 s (State.frostTrigger s us mv) := by
  unfold State.frostTrigger
  with_reducible repeat' first | assumption | exact Eff.refl _ _ | refine (State.auditCtlCopy_eff _ _).step rfl ?_ | refine (State.auditNow_eff _ _ _ _).step rfl ?_ | refine (State.intervalNote_eff _ _).step rfl ?_ | refine (State.set_eff _ _ _).step rfl ?_ | refine Eff.ite ?_ ?_ | split | refine Eff.upd_spn ?_ rfl | dsimp only

theorem State.pllsOff_eff (s : State) : Eff 134217732 s (State.pllsOff s) := by
  unfold State.pllsOff
  with_reducible repeat' first | assumption | exact Eff.refl _ _ | refine (State.set_eff _ _ _).step rfl ?_ | refine Eff.ite ?_ ?_ | split | refine Eff.upd_time ?_ rfl | dsimp only

theorem State.frostEnter_eff (s : State) (trig : Nat) (us : Nat) (mv : Nat) : Eff 84940470567308 s (State.frostEnter s trig us mv) := by
  unfold State.frostEnter
  with_reducible repeat' first | assumption | exact Eff.refl _ _ | refine (State.alarmSet_eff _ _).step rfl ?_ | refine (State.frostTrigger_eff _ _ _).step rfl ?_ | refine (State.padsKeep_eff _).step rfl ?_ | refine (State.pllsOff_eff _).step rfl ?_ | refine (State.powerFailStep_eff _ _ _ _).step rfl ?_ | refine (State.pulseRx_eff _ _ _).step rfl ?_ | refine (State.sat_eff _ _ _).step rfl ?_ | refine (State.seasonUpdate_eff _).step rfl ?_ | refine (State.set_eff _ _ _).step rfl ?_ | refine (State.totCommit_eff _ _).step rfl ?_ | refine Eff.ite ?_ ?_ | split | refine Eff.upd_spn ?_ rfl | refine Eff.upd_season ?_ rfl | dsimp only

theorem execFrostEntry_eff (slept : Asleep) (trig : Nat) (durUs : Nat) (mv : Nat) (s : State) : OutEff 84940470567308 s (execFrostEntry slept trig durUs mv s) := by
  unfold execFrostEntry
  with_reducible repeat' first | refine OutEff.guard ?_ | refine OutEff.next ?_ | assumption | exact Eff.refl _ _ | refine (State.frostEnter_eff _ _ _ _).step rfl ?_ | refine (State.passed_eff _ _).step rfl ?_ | refine Eff.ite ?_ ?_ | split | dsimp only

theorem State.coresWait_eff (s : State) : Eff 274878103556 s (State.coresWait s) := by
  unfold State.coresWait
  with_reducible repeat' first | assumption | exact Eff.refl _ _ | refine (State.icUpdate_eff _ _).step rfl ?_ | refine (State.set_eff _ _ _).step rfl ?_ | refine Eff.ite ?_ ?_ | split | dsimp only

theorem execSapwoodGate_eff (s : State) : OutEff 4707821223940 s (execSapwoodGate s) := by
  unfold execSapwoodGate
  with_reducible repeat' first | refine OutEff.guard ?_ | refine OutEff.next ?_ | assumption | exact Eff.refl _ _ | refine (State.coresWait_eff _).step rfl ?_ | refine (State.pllsIdle_eff _).step rfl ?_ | refine (State.seasonUpdate_eff _).step rfl ?_ | refine Eff.ite ?_ ?_ | split | refine Eff.upd_season_cspx_tmr ?_ rfl rfl rfl  | refine Eff.upd_season ?_ rfl | refine Eff.upd_cspx ?_ rfl | refine Eff.upd_tmr ?_ rfl | dsimp only

theorem State.clockTasks_eff (s : State) (x1 : List Nat) : Eff 5775489696140 s (State.clockTasks s x1) := by
  induction x1 generalizing s with
  | nil => exact Eff.refl _ _
  | cons y ys ih =>
    unfold State.clockTasks
    with_reducible repeat' first | assumption | exact Eff.refl _ _ | refine (ih _).step rfl ?_ | refine (State.jobEnd_eff _ _).step rfl ?_ | refine (State.logApply_eff _ _).step rfl ?_ | refine (State.pairStop_eff _ _).step rfl ?_ | refine (State.releaseLost_eff _ _ _ _).step rfl ?_ | refine Eff.ite ?_ ?_ | split | dsimp only

theorem State.clockLoss_eff (s : State) (clock : Nat) : Eff 35072702399406 s (State.clockLoss s clock) := by
  unfold State.clockLoss
  with_reducible repeat' first | assumption | exact Eff.refl _ _ | refine (State.clockTasks_eff _ _).step rfl ?_ | refine (State.enterSafe_eff _ _).step rfl ?_ | refine (State.fault_eff _ _ _ _ _).step rfl ?_ | refine (State.seasonUpdate_eff _).step rfl ?_ | refine (State.set_eff _ _ _).step rfl ?_ | refine Eff.ite ?_ ?_ | split | refine Eff.upd_time ?_ rfl | dsimp only

theorem State.calWoken_eff (s : State) : Eff 1073741824 s (State.calWoken s) := by
  unfold State.calWoken
  with_reducible repeat' first | assumption | exact Eff.refl _ _ | refine Eff.ite ?_ ?_ | split | refine Eff.upd_cal ?_ rfl | dsimp only

theorem State.hscResume_eff (s : State) : Eff 35072702399470 s (State.hscResume s) := by
  unfold State.hscResume
  with_reducible repeat' first | assumption | exact Eff.refl _ _ | refine (State.sealCatchUp_eff _).step rfl ?_ | refine (State.set_eff _ _ _).step rfl ?_ | refine (State.x32Log_eff _).step rfl ?_ | refine Eff.ite ?_ ?_ | split | refine Eff.upd_wdt ?_ rfl | dsimp only

theorem State.lateWake_eff (s : State) (due : Bool) : Eff 4675978068364 s (State.lateWake s due) := by
  unfold State.lateWake
  with_reducible repeat' first | assumption | exact Eff.refl _ _ | refine (State.raise_eff _ _ _ _).step rfl ?_ | refine (State.releaseLost_eff _ _ _ _).step rfl ?_ | refine (State.set_eff _ _ _).step rfl ?_ | refine Eff.ite ?_ ?_ | split | refine Eff.upd_spn_season ?_ rfl rfl  | refine Eff.upd_season ?_ rfl | refine Eff.upd_spn ?_ rfl | dsimp only

theorem State.loadTots_eff (s : State) (c : Option Commit) (x2 : List Nat) : Eff 33554440 s (State.loadTots s c x2) := by
  induction x2 generalizing s c with
  | nil => exact Eff.refl _ _
  | cons y ys ih =>
    unfold State.loadTots
    with_reducible repeat' first | assumption | exact Eff.refl _ _ | refine (ih _ _).step rfl ?_ | refine (State.restoreTots_eff _ _ _ _).step rfl ?_ | refine (State.setPair_eff _ _ _).step rfl ?_ | refine Eff.ite ?_ ?_ | split | dsimp only

theorem State.reloadF_eff (s : State) : Eff 13472886931852 s (State.reloadF s) := by
  unfold State.reloadF
  with_reducible repeat' first | assumption | exact Eff.refl _ _ | refine (State.calLoad_eff _).step rfl ?_ | refine (State.commitAhead_eff _).step rfl ?_ | refine (State.fault_eff _ _ _ _ _).step rfl ?_ | refine (State.loadGains_eff _ _).step rfl ?_ | refine (State.loadGuards_eff _ _).step rfl ?_ | refine (State.loadHscfw_eff _).step rfl ?_ | refine (State.loadTemplates_eff _).step rfl ?_ | refine (State.loadTots_eff _ _ _).step rfl ?_ | refine (State.pulseLoad_eff _).step rfl ?_ | refine (State.set_eff _ _ _).step rfl ?_ | refine (State.setB_eff _ _ _).step rfl ?_ | refine (State.settingsLoad_eff _).step rfl ?_ | refine (State.snapsDue_eff _ _).step rfl ?_ | refine Eff.ite ?_ ?_ | split | refine Eff.upd_echo ?_ rfl | refine Eff.upd_flt ?_ rfl | dsimp only

theorem State.regionsStay_eff (s : State) (x1 : List Nat) : Eff 4673461485572 s (State.regionsStay s x1) := by
  induction x1 generalizing s with
  | nil => exact Eff.refl _ _
  | cons y ys ih =>
    unfold State.regionsStay
    with_reducible repeat' first | assumption | exact Eff.refl _ _ | refine (ih _).step rfl ?_ | refine (State.isoShow_eff _ _).step rfl ?_ | refine (State.set_eff _ _ _).step rfl ?_ | refine Eff.ite ?_ ?_ | split | dsimp only

theorem State.resetF_eff (s : State) : Eff 26379689116588 s s.resetF := by
  have key : ∀ t : State, Eff 26379689116588 s t → Eff 26379689116588 s { t with regs := regsClass keepsF t.regs } := fun t h => Eff.upd_regs h rfl (regsClass_wf _)
  have h0 : Eff 26379689116588 s s.clearSapwood.clearHeartwood := (State.clearHeartwood_eff _).step rfl ((State.clearSapwood_eff _).mono rfl)
  unfold State.resetF
  refine (State.regionsStay_eff _ _).step rfl ((State.set_eff _ _ _).step rfl ((State.relock_eff _ _).step rfl ((State.relock_eff _ _).step rfl (key _ ?_))))
  exact { h0 with
    boot := fun h => absurd h (by decide)
    audit := fun _ => rfl
    hic := fun h => absurd h (by decide)
    sic := fun h => absurd h (by decide)
    cal := fun h => absurd h (by decide)
    spn := fun h => absurd h (by decide)
    time := fun h => absurd h (by decide)
    season := fun h => absurd h (by decide)
    seqUp := Nat.le_refl _ }

theorem State.sealShow_eff (s : State) : Eff 4 s (State.sealShow s) := by
  unfold State.sealShow
  with_reducible repeat' first | assumption | exact Eff.refl _ _ | refine (State.set_eff _ _ _).step rfl ?_ | refine (State.setB_eff _ _ _).step rfl ?_ | refine Eff.ite ?_ ?_ | split | dsimp only

theorem State.timeBack_eff (s : State) (slept : Asleep) : Eff 5775655371148 s (State.timeBack s slept) := by
  unfold State.timeBack
  with_reducible repeat' first | assumption | exact Eff.refl _ _ | refine (State.asleep_eff _ _).step rfl ?_ | refine (State.chainsShift_eff _ _ _).step rfl ?_ | refine (State.gridHere_eff _).step rfl ?_ | refine (State.missedIn_eff _ _ _ _).step rfl ?_ | refine (State.set_eff _ _ _).step rfl ?_ | refine (State.settle_eff _).step rfl ?_ | refine Eff.ite ?_ ?_ | split | refine Eff.upd_time ?_ rfl | dsimp only

theorem State.wakeMark_eff (s : State) (src : Nat) : Eff 4 s (State.wakeMark s src) := by
  unfold State.wakeMark
  with_reducible repeat' first | assumption | exact Eff.refl _ _ | refine (State.set_eff _ _ _).step rfl ?_ | refine Eff.ite ?_ ?_ | split | dsimp only

theorem State.xtalBack_eff (s : State) (x32 : Bool) : Eff 536870916 s (State.xtalBack s x32) := by
  unfold State.xtalBack
  with_reducible repeat' first | assumption | exact Eff.refl _ _ | refine (State.set_eff _ _ _).step rfl ?_ | refine Eff.ite ?_ ?_ | split | refine Eff.upd_season ?_ rfl | dsimp only

theorem State.thawFrost_eff (s : State) (src : Nat) (slept : Asleep) (intact : Bool) (x32 : Bool) : Eff 105553116251118 s (State.thawFrost s src slept intact x32) := by
  unfold State.thawFrost
  with_reducible repeat' first | assumption | exact Eff.refl _ _ | refine (State.calWoken_eff _).step rfl ?_ | refine (State.hscResume_eff _).step rfl ?_ | refine (State.icUpdate_eff _ _).step rfl ?_ | refine (State.lateWake_eff _ _).step rfl ?_ | refine (State.reloadF_eff _).step rfl ?_ | refine (State.resetF_eff _).step rfl ?_ | refine (State.sealShow_eff _).step rfl ?_ | refine (State.seasonUpdate_eff _).step rfl ?_ | refine (State.set_eff _ _ _).step rfl ?_ | refine (State.setW_eff _ _ _).step rfl ?_ | refine (State.syncLost_eff _).step rfl ?_ | refine (State.thaws_eff _ _).step rfl ?_ | refine (State.timeBack_eff _ _).step rfl ?_ | refine (State.wakeMark_eff _ _).step rfl ?_ | refine (State.wakeNow_eff _ _).step rfl ?_ | refine (State.xtalBack_eff _ _).step rfl ?_ | refine Eff.ite ?_ ?_ | split | refine Eff.upd_season_kept ?_ rfl rfl  | refine Eff.upd_twm ?_ rfl | refine Eff.upd_spn ?_ rfl | refine Eff.upd_boot ?_ rfl | refine Eff.upd_season ?_ rfl | refine Eff.upd_kept ?_ rfl | dsimp only

theorem execHfrcFail_eff (s : State) : OutEff 131941395317756 s (execHfrcFail s) := by
  unfold execHfrcFail
  with_reducible repeat' first | refine OutEff.guard ?_ | refine OutEff.next ?_ | assumption | exact Eff.refl _ _ | refine (State.holds_eff _).step rfl ?_ | refine (State.resetP_eff _).step rfl ?_ | refine Eff.ite ?_ ?_ | split | dsimp only

theorem execWinterEntry_eff (s : State) : OutEff 671285252 s (execWinterEntry s) := by
  unfold execWinterEntry
  with_reducible repeat' first | refine OutEff.guard ?_ | refine OutEff.next ?_ | assumption | exact Eff.refl _ _ | refine (State.alarmSet_eff _ _).step rfl ?_ | refine (State.pllsOff_eff _).step rfl ?_ | refine (State.seasonUpdate_eff _).step rfl ?_ | refine (State.set_eff _ _ _).step rfl ?_ | refine Eff.ite ?_ ?_ | split | refine Eff.upd_hic_sic ?_ rfl rfl  | refine Eff.upd_hic ?_ rfl | refine Eff.upd_sic ?_ rfl | dsimp only

theorem execSpindleAlarm_eff (lag : Nat) (s : State) : OutEff 671088644 s (execSpindleAlarm lag s) := by
  unfold execSpindleAlarm
  with_reducible repeat' first | refine OutEff.guard ?_ | refine OutEff.next ?_ | assumption | exact Eff.refl _ _ | refine (State.sleepTo_eff _ _).step rfl ?_ | refine (State.wakeMark_eff _ _).step rfl ?_ | refine Eff.ite ?_ ?_ | split | refine Eff.upd_season ?_ rfl | dsimp only

theorem State.wakeBy_eff (s : State) (src : Nat) : Eff 4673461485572 s (State.wakeBy s src) := by
  unfold State.wakeBy
  with_reducible repeat' first | assumption | exact Eff.refl _ _ | refine (State.wakeMark_eff _ _).step rfl ?_ | refine (State.wakeNow_eff _ _).step rfl ?_ | refine Eff.ite ?_ ?_ | split | refine Eff.upd_season ?_ rfl | dsimp only

theorem execSeasonAlarm_eff (s : State) : OutEff 5775655371148 s (execSeasonAlarm s) := by
  unfold execSeasonAlarm
  with_reducible repeat' first | refine OutEff.guard ?_ | refine OutEff.next ?_ | assumption | exact Eff.refl _ _ | refine (State.advanceTo_eff _ _).step rfl ?_ | refine (State.icEdge_eff _ _ _).step rfl ?_ | refine (State.settle_eff _).step rfl ?_ | refine (State.sleepTo_eff _ _).step rfl ?_ | refine (State.wakeSapwood_eff _ _).step rfl ?_ | refine Eff.ite ?_ ?_ | split | dsimp only

theorem State.pllsNeeded_eff (s : State) : Eff 4 s (State.pllsNeeded s) := by
  unfold State.pllsNeeded
  with_reducible repeat' first | assumption | exact Eff.refl _ _ | refine (State.set_eff _ _ _).step rfl ?_ | refine Eff.ite ?_ ?_ | split | dsimp only

theorem State.thawWinter_eff (s : State) (src : Nat) (slept : Asleep) (x32 : Bool) : Eff 35072702399470 s (State.thawWinter s src slept x32) := by
  unfold State.thawWinter
  with_reducible repeat' first | assumption | exact Eff.refl _ _ | refine (State.calWoken_eff _).step rfl ?_ | refine (State.hscResume_eff _).step rfl ?_ | refine (State.lateWake_eff _ _).step rfl ?_ | refine (State.pllsNeeded_eff _).step rfl ?_ | refine (State.set_eff _ _ _).step rfl ?_ | refine (State.thaws_eff _ _).step rfl ?_ | refine (State.timeBack_eff _ _).step rfl ?_ | refine (State.wakeBy_eff _ _).step rfl ?_ | refine (State.xtalBack_eff _ _).step rfl ?_ | refine Eff.ite ?_ ?_ | split | refine Eff.upd_season ?_ rfl | dsimp only

theorem execThawWinter_eff (src : Nat) (slept : Asleep) (x32 : Bool) (s : State) : OutEff 35072702399470 s (execThawWinter src slept x32 s) := by
  unfold execThawWinter
  with_reducible repeat' first | refine OutEff.guard ?_ | refine OutEff.next ?_ | assumption | exact Eff.refl _ _ | refine (State.thawWinter_eff _ _ _ _).step rfl ?_ | refine Eff.ite ?_ ?_ | split | dsimp only

theorem execHfxoRestart_eff (ok : Bool) (slept : Asleep) (x32 : Bool) (s : State) : OutEff 35072702399470 s (execHfxoRestart ok slept x32 s) := by
  unfold execHfxoRestart
  with_reducible repeat' first | refine OutEff.guard ?_ | refine OutEff.next ?_ | assumption | exact Eff.refl _ _ | refine (State.set_eff _ _ _).step rfl ?_ | refine (State.thawWinter_eff _ _ _ _).step rfl ?_ | refine Eff.ite ?_ ?_ | split | dsimp only

theorem execXtal32Fail_eff (s : State) : OutEff 4675608969604 s (execXtal32Fail s) := by
  unfold execXtal32Fail
  with_reducible repeat' first | refine OutEff.guard ?_ | refine OutEff.next ?_ | assumption | exact Eff.refl _ _ | refine (State.raise_eff _ _ _ _).step rfl ?_ | refine (State.set_eff _ _ _).step rfl ?_ | refine (State.x32Log_eff _).step rfl ?_ | refine Eff.ite ?_ ?_ | split | refine Eff.upd_season ?_ rfl | dsimp only

theorem execHfxoFail_eff (s : State) : OutEff 35072702399406 s (execHfxoFail s) := by
  unfold execHfxoFail
  with_reducible repeat' first | refine OutEff.guard ?_ | refine OutEff.next ?_ | assumption | exact Eff.refl _ _ | refine (State.clockLoss_eff _ _).step rfl ?_ | refine (State.pllsOff_eff _).step rfl ?_ | refine (State.raise_eff _ _ _ _).step rfl ?_ | refine (State.set_eff _ _ _).step rfl ?_ | refine Eff.ite ?_ ?_ | split | dsimp only

theorem execThawFrost_eff (src : Nat) (slept : Asleep) (intact : Bool) (x32 : Bool) (s : State) : OutEff 105553116251118 s (execThawFrost src slept intact x32 s) := by
  unfold execThawFrost
  with_reducible repeat' first | refine OutEff.guard ?_ | refine OutEff.next ?_ | assumption | exact Eff.refl _ _ | refine (State.thawFrost_eff _ _ _ _ _).step rfl ?_ | refine Eff.ite ?_ ?_ | split | dsimp only

theorem execPllUnlock_eff (pll : Nat) (freq : Bool) (s : State) : OutEff 35072702399406 s (execPllUnlock pll freq s) := by
  unfold execPllUnlock
  with_reducible repeat' first | refine OutEff.guard ?_ | refine OutEff.next ?_ | assumption | exact Eff.refl _ _ | refine (State.clockLoss_eff _ _).step rfl ?_ | refine (State.raise_eff _ _ _ _).step rfl ?_ | refine (State.seasonUpdate_eff _).step rfl ?_ | refine (State.set_eff _ _ _).step rfl ?_ | refine Eff.ite ?_ ?_ | split | refine Eff.upd_time ?_ rfl | dsimp only

end Sys2Proof.Machine
end

