-- ==== Sys2Proof/Laws/EffStep.lean ====
section
/-! SUPPORT. What every operation of Machine/Step.lean may change, and that it keeps the canonical forms and lowers no rising counter (Effect.lean). -/

namespace Sys2Proof.Machine

theorem State.withFetchWord_eff (s : State) (n w : Nat) : Eff 1 s (s.withFetchWord n w) := Eff.refl _ _

end Sys2Proof.Machine
end

