-- ==== Sys2Proof/Laws/EffTally.lean ====
section
/-! SUPPORT. What every operation of Machine/Tally.lean may change, and that it keeps the canonical forms and lowers no rising counter (Effect.lean). -/

namespace Sys2Proof.Machine

theorem execSqrt_eff (p : Nat) (md : Nat) (ma : Nat) (unit : Nat) (s : State) : OutEff 5775655371148 s (execSqrt p md ma unit s) := by
  unfold execSqrt
  with_reducible repeat' first | refine OutEff.guard ?_ | refine OutEff.next ?_ | refine State.tally_eff _ _ _ _ ?_ | assumption | exact Eff.refl _ _ | refine (State.mqOp_eff _ _ _ _ _).step rfl ?_ | refine Eff.ite ?_ ?_ | split | dsimp only

theorem execEmitt_eff (p : Nat) (t : Nat) (s : State) : OutEff 5775655371148 s (execEmitt p t s) := by
  unfold execEmitt
  with_reducible repeat' first | refine OutEff.guard ?_ | refine OutEff.next ?_ | refine State.tally_eff _ _ _ _ ?_ | refine (State.emitOp_eff _ _ _).step rfl ?_ | assumption | exact Eff.refl _ _ | refine Eff.ite ?_ ?_ | split | dsimp only

theorem execLi_eff (p : Nat) (rd : Nat) (imm : BitVec 16) (s : State) : OutEff 5775655371148 s (execLi p rd imm s) := by
  unfold execLi
  with_reducible repeat' first | refine OutEff.guard ?_ | refine OutEff.next ?_ | refine State.tally_eff _ _ _ _ ?_ | assumption | exact Eff.refl _ _ | refine (State.intOp_eff _ _ _ _).step rfl ?_ | refine Eff.ite ?_ ?_ | split | dsimp only

theorem execAddU_eff (p : Nat) (md : Nat) (ma : Nat) (mb : Nat) (s : State) : OutEff 5775655371148 s (execAddU p md ma mb s) := by
  unfold execAddU
  with_reducible repeat' first | refine OutEff.guard ?_ | refine OutEff.next ?_ | refine State.tally_eff _ _ _ _ ?_ | assumption | exact Eff.refl _ _ | refine (State.mqOp_eff _ _ _ _ _).step rfl ?_ | refine Eff.ite ?_ ?_ | split | dsimp only

theorem execDivU_eff (p : Nat) (md : Nat) (ma : Nat) (mb : Nat) (unit : Nat) (s : State) : OutEff 5775655371148 s (execDivU p md ma mb unit s) := by
  unfold execDivU
  with_reducible repeat' first | refine OutEff.guard ?_ | refine OutEff.next ?_ | refine State.tally_eff _ _ _ _ ?_ | assumption | exact Eff.refl _ _ | refine (State.mqOp_eff _ _ _ _ _).step rfl ?_ | refine Eff.ite ?_ ?_ | split | dsimp only

theorem execSub_eff (p : Nat) (rd : Nat) (ra : Nat) (rb : Nat) (s : State) : OutEff 5775655371148 s (execSub p rd ra rb s) := by
  unfold execSub
  with_reducible repeat' first | refine OutEff.guard ?_ | refine OutEff.next ?_ | refine State.tally_eff _ _ _ _ ?_ | assumption | exact Eff.refl _ _ | refine (State.intOp_eff _ _ _ _).step rfl ?_ | refine Eff.ite ?_ ?_ | split | dsimp only

theorem execScli_eff (p : Nat) (md : Nat) (ma : Nat) (ib : Nat) (sh : Nat) (s : State) : OutEff 5775655371148 s (execScli p md ma ib sh s) := by
  unfold execScli
  with_reducible repeat' first | refine OutEff.guard ?_ | refine OutEff.next ?_ | refine State.tally_eff _ _ _ _ ?_ | assumption | exact Eff.refl _ _ | refine (State.mqOp_eff _ _ _ _ _).step rfl ?_ | refine Eff.ite ?_ ?_ | split | dsimp only

theorem execCvt_eff (p : Nat) (md : Nat) (ia : Nat) (unit : Nat) (sh : Nat) (s : State) : OutEff 5775655371148 s (execCvt p md ia unit sh s) := by
  unfold execCvt
  with_reducible repeat' first | refine OutEff.guard ?_ | refine OutEff.next ?_ | refine State.tally_eff _ _ _ _ ?_ | assumption | exact Eff.refl _ _ | refine (State.mqOp_eff _ _ _ _ _).step rfl ?_ | refine Eff.ite ?_ ?_ | split | dsimp only

theorem execTaskDispatch_eff (k : Nat) (s : State) : OutEff 5775655371148 s (execTaskDispatch k s) := by
  unfold execTaskDispatch
  with_reducible repeat' first | refine OutEff.guard ?_ | refine OutEff.next ?_ | assumption | exact Eff.refl _ _ | refine (State.advanceTo_eff _ _).step rfl ?_ | refine (State.dispatch_eff _ _ _).step rfl ?_ | refine (State.settle_eff _).step rfl ?_ | refine Eff.ite ?_ ?_ | split | dsimp only

theorem execMul_eff (p : Nat) (rd : Nat) (ra : Nat) (rb : Nat) (s : State) : OutEff 5775655371148 s (execMul p rd ra rb s) := by
  unfold execMul
  with_reducible repeat' first | refine OutEff.guard ?_ | refine OutEff.next ?_ | refine State.tally_eff _ _ _ _ ?_ | assumption | exact Eff.refl _ _ | refine (State.intOp_eff _ _ _ _).step rfl ?_ | refine Eff.ite ?_ ?_ | split | dsimp only

theorem execLui_eff (p : Nat) (rd : Nat) (imm : BitVec 16) (s : State) : OutEff 5775655371148 s (execLui p rd imm s) := by
  unfold execLui
  with_reducible repeat' first | refine OutEff.guard ?_ | refine OutEff.next ?_ | refine State.tally_eff _ _ _ _ ?_ | assumption | exact Eff.refl _ _ | refine (State.intOp_eff _ _ _ _).step rfl ?_ | refine Eff.ite ?_ ?_ | split | dsimp only

theorem execAnd_eff (p : Nat) (rd : Nat) (ra : Nat) (rb : Nat) (s : State) : OutEff 5775655371148 s (execAnd p rd ra rb s) := by
  unfold execAnd
  with_reducible repeat' first | refine OutEff.guard ?_ | refine OutEff.next ?_ | refine State.tally_eff _ _ _ _ ?_ | assumption | exact Eff.refl _ _ | refine (State.intOp_eff _ _ _ _).step rfl ?_ | refine Eff.ite ?_ ?_ | split | dsimp only

theorem execSetf_eff (p : Nat) (md : Nat) (ma : Nat) (mask : Nat) (qual : Nat) (s : State) : OutEff 5775655371148 s (execSetf p md ma mask qual s) := by
  unfold execSetf
  with_reducible repeat' first | refine OutEff.guard ?_ | refine OutEff.next ?_ | refine State.tally_eff _ _ _ _ ?_ | assumption | exact Eff.refl _ _ | refine (State.mqOp_eff _ _ _ _ _).step rfl ?_ | refine Eff.ite ?_ ?_ | split | dsimp only

theorem State.overrun_eff (s : State) (n : Nat) (k : Nat) : Eff 5775655371148 s (State.overrun s n k) := by
  unfold State.overrun
  with_reducible repeat' first | assumption | exact Eff.refl _ _ | refine (State.advanceTo_eff _ _).step rfl ?_ | refine (State.fault_eff _ _ _ _ _).step rfl ?_ | refine (State.isolate_eff _ _ _ _).step rfl ?_ | refine (State.raise_eff _ _ _ _).step rfl ?_ | refine (State.settle_eff _).step rfl ?_ | refine Eff.ite ?_ ?_ | split | dsimp only

theorem State.restartLate_eff (s : State) (n : Nat) (t : Nat) : Eff 5775655371148 s (State.restartLate s n t) := by
  unfold State.restartLate
  with_reducible repeat' first | assumption | exact Eff.refl _ _ | refine (State.advanceTo_eff _ _).step rfl ?_ | refine (State.isolate_eff _ _ _ _).step rfl ?_ | refine (State.settle_eff _).step rfl ?_ | refine Eff.ite ?_ ?_ | split | dsimp only

theorem execRegionWatchdogExpiry_eff (n : Nat) (s : State) : OutEff 5775655371148 s (execRegionWatchdogExpiry n s) := by
  unfold execRegionWatchdogExpiry
  with_reducible repeat' first | refine OutEff.guard ?_ | refine OutEff.next ?_ | assumption | exact Eff.refl _ _ | refine (State.overrun_eff _ _ _).step rfl ?_ | refine (State.restartLate_eff _ _ _).step rfl ?_ | refine Eff.ite ?_ ?_ | split | dsimp only

theorem execLoop_eff (p : Nat) (x : Nat) (count : Nat) (len : Nat) (s : State) : OutEff 5775655371148 s (execLoop p x count len s) := by
  unfold execLoop
  with_reducible repeat' first | refine OutEff.guard ?_ | refine OutEff.next ?_ | refine State.tally_eff _ _ _ _ ?_ | refine State.instr_eff _ _ _ _ rfl (fun _ => ?_) | exact TrEff.trap | refine TrEff.ok ?_ | refine TrEff.ite ?_ ?_ | assumption | exact Eff.refl _ _ | refine Eff.ite ?_ ?_ | split | dsimp only

theorem execAndi_eff (p : Nat) (rd : Nat) (ra : Nat) (imm : BitVec 16) (s : State) : OutEff 5775655371148 s (execAndi p rd ra imm s) := by
  unfold execAndi
  with_reducible repeat' first | refine OutEff.guard ?_ | refine OutEff.next ?_ | refine State.tally_eff _ _ _ _ ?_ | assumption | exact Eff.refl _ _ | refine (State.intOp_eff _ _ _ _).step rfl ?_ | refine Eff.ite ?_ ?_ | split | dsimp only

theorem execMov_eff (p : Nat) (md : Nat) (ma : Nat) (s : State) : OutEff 5775655371148 s (execMov p md ma s) := by
  unfold execMov
  with_reducible repeat' first | refine OutEff.guard ?_ | refine OutEff.next ?_ | refine State.tally_eff _ _ _ _ ?_ | assumption | exact Eff.refl _ _ | refine (State.mqOp_eff _ _ _ _ _).step rfl ?_ | refine Eff.ite ?_ ?_ | split | dsimp only

theorem execBr_eff (p : Nat) (cond : Nat) (ra : Nat) (rb : Nat) (off : Nat) (s : State) : OutEff 5775655371148 s (execBr p cond ra rb off s) := by
  unfold execBr
  with_reducible repeat' first | refine OutEff.guard ?_ | refine OutEff.next ?_ | refine State.tally_eff _ _ _ _ ?_ | refine State.instrAt_eff _ _ _ _ rfl (fun _ => ?_) | exact TrEff.trap | refine TrEff.ok ?_ | refine TrEff.ite ?_ ?_ | assumption | exact Eff.refl _ _ | refine Eff.ite ?_ ?_ | split | dsimp only

theorem State.store_eff (s : State) (p off : Nat) (w : W128) : TrEff 0 s (s.store p off w) := by
  unfold State.store
  dsimp only
  split
  · trivial
  · split
    · trivial
    · exact Eff.refl _ _

theorem execCvu_eff (p : Nat) (md : Nat) (ma : Nat) (unit : Nat) (s : State) : OutEff 5775655371148 s (execCvu p md ma unit s) := by
  unfold execCvu
  with_reducible repeat' first | refine OutEff.guard ?_ | refine OutEff.next ?_ | refine State.tally_eff _ _ _ _ ?_ | assumption | exact Eff.refl _ _ | refine (State.mqOp_eff _ _ _ _ _).step rfl ?_ | refine Eff.ite ?_ ?_ | split | dsimp only

theorem execSll_eff (p : Nat) (rd : Nat) (ra : Nat) (rb : Nat) (s : State) : OutEff 5775655371148 s (execSll p rd ra rb s) := by
  unfold execSll
  with_reducible repeat' first | refine OutEff.guard ?_ | refine OutEff.next ?_ | refine State.tally_eff _ _ _ _ ?_ | assumption | exact Eff.refl _ _ | refine (State.intOp_eff _ _ _ _).step rfl ?_ | refine Eff.ite ?_ ?_ | split | dsimp only

theorem execSrl_eff (p : Nat) (rd : Nat) (ra : Nat) (rb : Nat) (s : State) : OutEff 5775655371148 s (execSrl p rd ra rb s) := by
  unfold execSrl
  with_reducible repeat' first | refine OutEff.guard ?_ | refine OutEff.next ?_ | refine State.tally_eff _ _ _ _ ?_ | assumption | exact Eff.refl _ _ | refine (State.intOp_eff _ _ _ _).step rfl ?_ | refine Eff.ite ?_ ?_ | split | dsimp only

theorem execEmiti_eff (p : Nat) (i : Nat) (j : Nat) (code : Nat) (s : State) : OutEff 5775655371148 s (execEmiti p i j code s) := by
  unfold execEmiti
  with_reducible repeat' first | refine OutEff.guard ?_ | refine OutEff.next ?_ | refine State.tally_eff _ _ _ _ ?_ | refine (State.emitOp_eff _ _ _).step rfl ?_ | assumption | exact Eff.refl _ _ | refine Eff.ite ?_ ?_ | split | dsimp only

theorem execLdp_eff (p : Nat) (md : Nat) (param : Nat) (unit : Nat) (s : State) : OutEff 5775655371148 s (execLdp p md param unit s) := by
  unfold execLdp
  with_reducible repeat' first | refine OutEff.guard ?_ | refine OutEff.next ?_ | refine State.tally_eff _ _ _ _ ?_ | refine State.instr_eff _ _ _ _ rfl (fun _ => ?_) | refine TrEff.bind ((State.loadParam_eff _ _ _ ).step rfl ?_) fun _ _ _ => ?_ | refine (State.loadParam_eff _ _ _ ).step rfl ?_ | exact TrEff.trap | refine TrEff.ok ?_ | refine TrEff.ite ?_ ?_ | assumption | exact Eff.refl _ _ | refine Eff.ite ?_ ?_ | split | dsimp only

theorem execTend_eff (p : Nat) (agree : Bool) (s : State) : OutEff 5775655371148 s (execTend p agree s) := by
  unfold execTend
  with_reducible repeat' first | refine OutEff.guard ?_ | refine OutEff.next ?_ | assumption | exact Eff.refl _ _ | refine (State.disagree_eff _ _ _).step rfl ?_ | refine (State.tallyEcc_eff _ _ _ _ _ _).step rfl ?_ | refine (State.tend_eff _ _ _).step rfl ?_ | refine Eff.ite ?_ ?_ | split | dsimp only

theorem execLd_eff (p : Nat) (md : Nat) (nb : Bool) (base : Nat) (idx : Nat) (s : State) : OutEff 5775655371148 s (execLd p md nb base idx s) := by
  unfold execLd
  with_reducible repeat' first | refine OutEff.guard ?_ | refine OutEff.next ?_ | refine State.tally_eff _ _ _ _ ?_ | refine State.instr_eff _ _ _ _ rfl (fun _ => ?_) | refine TrEff.bind ((State.load_eff _ _ _ ).step rfl ?_) fun _ _ _ => ?_ | refine (State.load_eff _ _ _ ).step rfl ?_ | exact TrEff.trap | refine TrEff.ok ?_ | refine TrEff.ite ?_ ?_ | assumption | exact Eff.refl _ _ | refine Eff.ite ?_ ?_ | split | dsimp only

theorem execOri_eff (p : Nat) (rd : Nat) (ra : Nat) (imm : BitVec 16) (s : State) : OutEff 5775655371148 s (execOri p rd ra imm s) := by
  unfold execOri
  with_reducible repeat' first | refine OutEff.guard ?_ | refine OutEff.next ?_ | refine State.tally_eff _ _ _ _ ?_ | assumption | exact Eff.refl _ _ | refine (State.intOp_eff _ _ _ _).step rfl ?_ | refine Eff.ite ?_ ?_ | split | dsimp only

theorem execXor_eff (p : Nat) (rd : Nat) (ra : Nat) (rb : Nat) (s : State) : OutEff 5775655371148 s (execXor p rd ra rb s) := by
  unfold execXor
  with_reducible repeat' first | refine OutEff.guard ?_ | refine OutEff.next ?_ | refine State.tally_eff _ _ _ _ ?_ | assumption | exact Eff.refl _ _ | refine (State.intOp_eff _ _ _ _).step rfl ?_ | refine Eff.ite ?_ ?_ | split | dsimp only

theorem execOr_eff (p : Nat) (rd : Nat) (ra : Nat) (rb : Nat) (s : State) : OutEff 5775655371148 s (execOr p rd ra rb s) := by
  unfold execOr
  with_reducible repeat' first | refine OutEff.guard ?_ | refine OutEff.next ?_ | refine State.tally_eff _ _ _ _ ?_ | assumption | exact Eff.refl _ _ | refine (State.intOp_eff _ _ _ _).step rfl ?_ | refine Eff.ite ?_ ?_ | split | dsimp only

theorem execAddi_eff (p : Nat) (rd : Nat) (ra : Nat) (imm : BitVec 16) (s : State) : OutEff 5775655371148 s (execAddi p rd ra imm s) := by
  unfold execAddi
  with_reducible repeat' first | refine OutEff.guard ?_ | refine OutEff.next ?_ | refine State.tally_eff _ _ _ _ ?_ | assumption | exact Eff.refl _ _ | refine (State.intOp_eff _ _ _ _).step rfl ?_ | refine Eff.ite ?_ ?_ | split | dsimp only

theorem execEmitv_eff (p : Nat) (m : Nat) (s : State) : OutEff 5775655371148 s (execEmitv p m s) := by
  unfold execEmitv
  with_reducible repeat' first | refine OutEff.guard ?_ | refine OutEff.next ?_ | refine State.tally_eff _ _ _ _ ?_ | refine (State.emitOp_eff _ _ _).step rfl ?_ | assumption | exact Eff.refl _ _ | refine Eff.ite ?_ ?_ | split | dsimp only

theorem execMulU_eff (p : Nat) (md : Nat) (ma : Nat) (mb : Nat) (unit : Nat) (s : State) : OutEff 5775655371148 s (execMulU p md ma mb unit s) := by
  unfold execMulU
  with_reducible repeat' first | refine OutEff.guard ?_ | refine OutEff.next ?_ | refine State.tally_eff _ _ _ _ ?_ | assumption | exact Eff.refl _ _ | refine (State.mqOp_eff _ _ _ _ _).step rfl ?_ | refine Eff.ite ?_ ?_ | split | dsimp only

theorem execTrdc_eff (p : Nat) (md : Nat) (tn : Nat) (s : State) : OutEff 5775655371148 s (execTrdc p md tn s) := by
  unfold execTrdc
  with_reducible repeat' first | refine OutEff.guard ?_ | refine OutEff.next ?_ | refine State.tally_eff _ _ _ _ ?_ | refine State.instr_eff _ _ _ _ rfl (fun _ => ?_) | exact TrEff.trap | refine TrEff.ok ?_ | refine TrEff.ite ?_ ?_ | assumption | exact Eff.refl _ _ | refine Eff.ite ?_ ?_ | split | dsimp only

theorem execEmite_eff (p : Nat) (m : Nat) (code : Nat) (s : State) : OutEff 5775655371148 s (execEmite p m code s) := by
  unfold execEmite
  with_reducible repeat' first | refine OutEff.guard ?_ | refine OutEff.next ?_ | refine State.tally_eff _ _ _ _ ?_ | refine (State.emitOp_eff _ _ _).step rfl ?_ | assumption | exact Eff.refl _ _ | refine Eff.ite ?_ ?_ | split | dsimp only

theorem execTacc_eff (p : Nat) (tn : Nat) (ma : Nat) (neg : Bool) (s : State) : OutEff 5775655371148 s (execTacc p tn ma neg s) := by
  unfold execTacc
  with_reducible repeat' first | refine OutEff.guard ?_ | refine OutEff.next ?_ | refine State.tally_eff _ _ _ _ ?_ | refine State.instr_eff _ _ _ _ rfl (fun _ => ?_) | exact TrEff.trap | refine TrEff.ok ?_ | refine TrEff.ite ?_ ?_ | assumption | exact Eff.refl _ _ | refine Eff.ite ?_ ?_ | split | dsimp only

theorem execMin_eff (p : Nat) (md : Nat) (ma : Nat) (mb : Nat) (s : State) : OutEff 5775655371148 s (execMin p md ma mb s) := by
  unfold execMin
  with_reducible repeat' first | refine OutEff.guard ?_ | refine OutEff.next ?_ | refine State.tally_eff _ _ _ _ ?_ | assumption | exact Eff.refl _ _ | refine (State.mqOp_eff _ _ _ _ _).step rfl ?_ | refine Eff.ite ?_ ?_ | split | dsimp only

theorem execMax_eff (p : Nat) (md : Nat) (ma : Nat) (mb : Nat) (s : State) : OutEff 5775655371148 s (execMax p md ma mb s) := by
  unfold execMax
  with_reducible repeat' first | refine OutEff.guard ?_ | refine OutEff.next ?_ | refine State.tally_eff _ _ _ _ ?_ | assumption | exact Eff.refl _ _ | refine (State.mqOp_eff _ _ _ _ _).step rfl ?_ | refine Eff.ite ?_ ?_ | split | dsimp only

theorem execSubC_eff (p : Nat) (md : Nat) (ma : Nat) (mb : Nat) (s : State) : OutEff 5775655371148 s (execSubC p md ma mb s) := by
  unfold execSubC
  with_reducible repeat' first | refine OutEff.guard ?_ | refine OutEff.next ?_ | refine State.tally_eff _ _ _ _ ?_ | assumption | exact Eff.refl _ _ | refine (State.mqOp_eff _ _ _ _ _).step rfl ?_ | refine Eff.ite ?_ ?_ | split | dsimp only

theorem execDivC_eff (p : Nat) (md : Nat) (ma : Nat) (mb : Nat) (unit : Nat) (s : State) : OutEff 5775655371148 s (execDivC p md ma mb unit s) := by
  unfold execDivC
  with_reducible repeat' first | refine OutEff.guard ?_ | refine OutEff.next ?_ | refine State.tally_eff _ _ _ _ ?_ | assumption | exact Eff.refl _ _ | refine (State.mqOp_eff _ _ _ _ _).step rfl ?_ | refine Eff.ite ?_ ?_ | split | dsimp only

theorem execNeg_eff (p : Nat) (md : Nat) (ma : Nat) (s : State) : OutEff 5775655371148 s (execNeg p md ma s) := by
  unfold execNeg
  with_reducible repeat' first | refine OutEff.guard ?_ | refine OutEff.next ?_ | refine State.tally_eff _ _ _ _ ?_ | assumption | exact Eff.refl _ _ | refine (State.mqOp_eff _ _ _ _ _).step rfl ?_ | refine Eff.ite ?_ ?_ | split | dsimp only

theorem execAbs_eff (p : Nat) (md : Nat) (ma : Nat) (s : State) : OutEff 5775655371148 s (execAbs p md ma s) := by
  unfold execAbs
  with_reducible repeat' first | refine OutEff.guard ?_ | refine OutEff.next ?_ | refine State.tally_eff _ _ _ _ ?_ | assumption | exact Eff.refl _ _ | refine (State.mqOp_eff _ _ _ _ _).step rfl ?_ | refine Eff.ite ?_ ?_ | split | dsimp only

theorem execSubU_eff (p : Nat) (md : Nat) (ma : Nat) (mb : Nat) (s : State) : OutEff 5775655371148 s (execSubU p md ma mb s) := by
  unfold execSubU
  with_reducible repeat' first | refine OutEff.guard ?_ | refine OutEff.next ?_ | refine State.tally_eff _ _ _ _ ?_ | assumption | exact Eff.refl _ _ | refine (State.mqOp_eff _ _ _ _ _).step rfl ?_ | refine Eff.ite ?_ ?_ | split | dsimp only

theorem execAdd_eff (p : Nat) (rd : Nat) (ra : Nat) (rb : Nat) (s : State) : OutEff 5775655371148 s (execAdd p rd ra rb s) := by
  unfold execAdd
  with_reducible repeat' first | refine OutEff.guard ?_ | refine OutEff.next ?_ | refine State.tally_eff _ _ _ _ ?_ | assumption | exact Eff.refl _ _ | refine (State.intOp_eff _ _ _ _).step rfl ?_ | refine Eff.ite ?_ ?_ | split | dsimp only

theorem execCvi_eff (p : Nat) (id : Nat) (ma : Nat) (sh : Nat) (s : State) : OutEff 5775655371148 s (execCvi p id ma sh s) := by
  unfold execCvi
  with_reducible repeat' first | refine OutEff.guard ?_ | refine OutEff.next ?_ | refine State.tally_eff _ _ _ _ ?_ | refine State.instr_eff _ _ _ _ rfl (fun _ => ?_) | exact TrEff.trap | refine TrEff.ok ?_ | refine TrEff.ite ?_ ?_ | assumption | exact Eff.refl _ _ | refine Eff.ite ?_ ?_ | split | dsimp only

theorem execMulC_eff (p : Nat) (md : Nat) (ma : Nat) (mb : Nat) (unit : Nat) (s : State) : OutEff 5775655371148 s (execMulC p md ma mb unit s) := by
  unfold execMulC
  with_reducible repeat' first | refine OutEff.guard ?_ | refine OutEff.next ?_ | refine State.tally_eff _ _ _ _ ?_ | assumption | exact Eff.refl _ _ | refine (State.mqOp_eff _ _ _ _ _).step rfl ?_ | refine Eff.ite ?_ ?_ | split | dsimp only

theorem execSt_eff (p : Nat) (ma : Nat) (nb : Bool) (base : Nat) (idx : Nat) (s : State) : OutEff 5775655371148 s (execSt p ma nb base idx s) := by
  unfold execSt
  with_reducible repeat' first | refine OutEff.guard ?_ | refine OutEff.next ?_ | refine State.tally_eff _ _ _ _ ?_ | refine State.instr_eff _ _ _ _ rfl (fun _ => ?_) | refine TrEff.bind ((State.store_eff _ _ _ _ ).step rfl ?_) fun _ _ _ => ?_ | refine (State.store_eff _ _ _ _ ).step rfl ?_ | exact TrEff.trap | refine TrEff.ok ?_ | refine TrEff.ite ?_ ?_ | assumption | exact Eff.refl _ _ | refine Eff.ite ?_ ?_ | split | dsimp only

theorem execUwid_eff (p : Nat) (md : Nat) (ma : Nat) (mb : Nat) (s : State) : OutEff 5775655371148 s (execUwid p md ma mb s) := by
  unfold execUwid
  with_reducible repeat' first | refine OutEff.guard ?_ | refine OutEff.next ?_ | refine State.tally_eff _ _ _ _ ?_ | assumption | exact Eff.refl _ _ | refine (State.mqOp_eff _ _ _ _ _).step rfl ?_ | refine Eff.ite ?_ ?_ | split | dsimp only

theorem execSra_eff (p : Nat) (rd : Nat) (ra : Nat) (rb : Nat) (s : State) : OutEff 5775655371148 s (execSra p rd ra rb s) := by
  unfold execSra
  with_reducible repeat' first | refine OutEff.guard ?_ | refine OutEff.next ?_ | refine State.tally_eff _ _ _ _ ?_ | assumption | exact Eff.refl _ _ | refine (State.intOp_eff _ _ _ _).step rfl ?_ | refine Eff.ite ?_ ?_ | split | dsimp only

theorem execLdl_eff (p : Nat) (id : Nat) (nb : Bool) (base : Nat) (idx : Nat) (lane : Nat) (s : State) : OutEff 5775655371148 s (execLdl p id nb base idx lane s) := by
  unfold execLdl
  with_reducible repeat' first | refine OutEff.guard ?_ | refine OutEff.next ?_ | refine State.tally_eff _ _ _ _ ?_ | refine State.instr_eff _ _ _ _ rfl (fun _ => ?_) | refine TrEff.bind ((State.load_eff _ _ _ ).step rfl ?_) fun _ _ _ => ?_ | refine (State.load_eff _ _ _ ).step rfl ?_ | exact TrEff.trap | refine TrEff.ok ?_ | refine TrEff.ite ?_ ?_ | assumption | exact Eff.refl _ _ | refine Eff.ite ?_ ?_ | split | dsimp only

theorem execAddC_eff (p : Nat) (md : Nat) (ma : Nat) (mb : Nat) (s : State) : OutEff 5775655371148 s (execAddC p md ma mb s) := by
  unfold execAddC
  with_reducible repeat' first | refine OutEff.guard ?_ | refine OutEff.next ?_ | refine State.tally_eff _ _ _ _ ?_ | assumption | exact Eff.refl _ _ | refine (State.mqOp_eff _ _ _ _ _).step rfl ?_ | refine Eff.ite ?_ ?_ | split | dsimp only

end Sys2Proof.Machine
end

