-- ==== Sys2Proof/Laws/Commands.lean ====
section
/-! SUPPORT. What holds of every command: none touches the queue, breaks a canonical form or lowers a rising counter. -/

namespace Sys2Proof.Machine

theorem OutEff.mono {g F : Nat} {s : State} {o : Host.Outcome State Fault Refusal} (h : OutEff g s o) (hm : F.land g = g) : OutEff F s o := fun t ht => (h t ht).mono hm

/-- Every command keeps the queue, the canonical forms and the rising counters. -/
theorem exec_eff (c : Instr) (s : State) : OutEff (2 ^ 47 - 2) s (exec c s) := by
  cases c
  · exact OutEff.mono (execPornLow_eff _ s) rfl
  · exact OutEff.mono (execSrstnLow_eff _ s) rfl
  · exact OutEff.mono (execHeartwoodRailLoss_eff _ s) rfl
  · exact OutEff.mono (execSupplyGood_eff _ s) rfl
  · exact OutEff.mono (execTestenHigh_eff _ s) rfl
  · exact OutEff.mono (execClassHReset_eff _ _ _ s) rfl
  · exact OutEff.mono (execStartUpSequence_eff _ _ _ s) rfl
  · exact OutEff.mono (execBankCapacitanceCheck_eff _ s) rfl
  · exact OutEff.mono (execSrstReq_eff _ s) rfl
  · exact OutEff.mono (execSc1Boot_eff _ s) rfl
  · exact OutEff.mono (execSealPatternAdvance_eff _ s) rfl
  · exact OutEff.mono (execSlWrite_eff _ _ s) rfl
  · exact OutEff.mono (execStatus_eff _ s) rfl
  · exact OutEff.mono (execIdent_eff _ s) rfl
  · exact OutEff.mono (execAuditRead_eff _ s) rfl
  · exact OutEff.mono (execRecordRead_eff _ s) rfl
  · exact OutEff.mono (execSetField_eff _ s) rfl
  · exact OutEff.mono (execSetParam_eff _ s) rfl
  · exact OutEff.mono (execTimeSlew_eff _ s) rfl
  · exact OutEff.mono (execTimeStep_eff _ s) rfl
  · exact OutEff.mono (execImageBegin_eff _ s) rfl
  · exact OutEff.mono (execImageData_eff _ s) rfl
  · exact OutEff.mono (execImageEnd_eff _ s) rfl
  · exact OutEff.mono (execImageActivate_eff _ _ _ s) rfl
  · exact OutEff.mono (execCalRun_eff _ s) rfl
  · exact OutEff.mono (execZeroCal_eff _ s) rfl
  · exact OutEff.mono (execAuditClear_eff _ s) rfl
  · exact OutEff.mono (execHreset_eff _ _ _ s) rfl
  · exact OutEff.mono (execKeySlot_eff _ s) rfl
  · exact OutEff.mono (execDebugEnable_eff _ s) rfl
  · exact OutEff.mono (execAuditEntryProgram_eff _ s) rfl
  · exact OutEff.mono (execAuditControlRecordCopy_eff _ s) rfl
  · exact OutEff.mono (execTriggerMatch_eff _ s) rfl
  · exact OutEff.mono (execComparatorWrite_eff _ _ _ s) rfl
  · exact OutEff.mono (execFiring_eff _ s) rfl
  · exact OutEff.mono (execCrosspointConnect_eff _ s) rfl
  · exact OutEff.mono (execCaptureWindowClose_eff _ _ _ _ s) rfl
  · exact OutEff.mono (execAcqClr_eff _ s) rfl
  · exact OutEff.mono (execEchoJob_eff _ s) rfl
  · exact OutEff.mono (execEchoWatchdog_eff _ s) rfl
  · exact OutEff.mono (execEchoClr_eff _ s) rfl
  · exact OutEff.mono (execModulatorWarmEnd_eff _ s) rfl
  · exact OutEff.mono (execPulseEdge_eff _ _ s) rfl
  · exact OutEff.mono (execPulseBlockWrite_eff _ s) rfl
  · exact OutEff.mono (execPulseStuckTimeout_eff _ s) rfl
  · exact OutEff.mono (execPinRunloRead_eff _ s) rfl
  · exact OutEff.mono (execChainSampleWrite_eff _ _ _ _ _ s) rfl
  · exact OutEff.mono (execCoefLoad_eff _ _ _ s) rfl
  · exact OutEff.mono (execCoefSwap_eff _ _ s) rfl
  · exact OutEff.mono (execSwapTakeEffect_eff _ s) rfl
  · exact OutEff.mono (execJobAdmission_eff _ s) rfl
  · exact OutEff.mono (execTaskDispatch_eff _ s) rfl
  · exact OutEff.mono (execJobAbandon_eff _ s) rfl
  · exact OutEff.mono (execRegionWatchdogExpiry_eff _ s) rfl
  · exact OutEff.mono (execAdd_eff _ _ _ _ s) rfl
  · exact OutEff.mono (execSub_eff _ _ _ _ s) rfl
  · exact OutEff.mono (execAnd_eff _ _ _ _ s) rfl
  · exact OutEff.mono (execOr_eff _ _ _ _ s) rfl
  · exact OutEff.mono (execXor_eff _ _ _ _ s) rfl
  · exact OutEff.mono (execSll_eff _ _ _ _ s) rfl
  · exact OutEff.mono (execSrl_eff _ _ _ _ s) rfl
  · exact OutEff.mono (execSra_eff _ _ _ _ s) rfl
  · exact OutEff.mono (execMul_eff _ _ _ _ s) rfl
  · exact OutEff.mono (execAddi_eff _ _ _ _ s) rfl
  · exact OutEff.mono (execAndi_eff _ _ _ _ s) rfl
  · exact OutEff.mono (execOri_eff _ _ _ _ s) rfl
  · exact OutEff.mono (execLui_eff _ _ _ s) rfl
  · exact OutEff.mono (execLi_eff _ _ _ s) rfl
  · exact OutEff.mono (execAddC_eff _ _ _ _ s) rfl
  · exact OutEff.mono (execAddU_eff _ _ _ _ s) rfl
  · exact OutEff.mono (execSubC_eff _ _ _ _ s) rfl
  · exact OutEff.mono (execSubU_eff _ _ _ _ s) rfl
  · exact OutEff.mono (execMulC_eff _ _ _ _ _ s) rfl
  · exact OutEff.mono (execMulU_eff _ _ _ _ _ s) rfl
  · exact OutEff.mono (execDivC_eff _ _ _ _ _ s) rfl
  · exact OutEff.mono (execDivU_eff _ _ _ _ _ s) rfl
  · exact OutEff.mono (execSqrt_eff _ _ _ _ s) rfl
  · exact OutEff.mono (execNeg_eff _ _ _ s) rfl
  · exact OutEff.mono (execAbs_eff _ _ _ s) rfl
  · exact OutEff.mono (execMin_eff _ _ _ _ s) rfl
  · exact OutEff.mono (execMax_eff _ _ _ _ s) rfl
  · exact OutEff.mono (execMov_eff _ _ _ s) rfl
  · exact OutEff.mono (execUwid_eff _ _ _ _ s) rfl
  · exact OutEff.mono (execScli_eff _ _ _ _ _ s) rfl
  · exact OutEff.mono (execCvu_eff _ _ _ _ s) rfl
  · exact OutEff.mono (execCvt_eff _ _ _ _ _ s) rfl
  · exact OutEff.mono (execCvi_eff _ _ _ _ s) rfl
  · exact OutEff.mono (execSetf_eff _ _ _ _ _ s) rfl
  · exact OutEff.mono (execLdp_eff _ _ _ _ s) rfl
  · exact OutEff.mono (execProp_eff _ _ _ _ _ s) rfl
  · exact OutEff.mono (execLd_eff _ _ _ _ _ s) rfl
  · exact OutEff.mono (execSt_eff _ _ _ _ _ s) rfl
  · exact OutEff.mono (execLdl_eff _ _ _ _ _ _ s) rfl
  · exact OutEff.mono (execTacc_eff _ _ _ _ s) rfl
  · exact OutEff.mono (execTrdc_eff _ _ _ s) rfl
  · exact OutEff.mono (execBr_eff _ _ _ _ _ s) rfl
  · exact OutEff.mono (execLoop_eff _ _ _ _ s) rfl
  · exact OutEff.mono (execInChain_eff _ s) rfl
  · exact OutEff.mono (execInPath_eff _ s) rfl
  · exact OutEff.mono (execInPulse_eff _ s) rfl
  · exact OutEff.mono (execOrifice_eff _ s) rfl
  · exact OutEff.mono (execVenturi_eff _ s) rfl
  · exact OutEff.mono (execUpath_eff _ s) rfl
  · exact OutEff.mono (execKfactor_eff _ s) rfl
  · exact OutEff.mono (execFreq_eff _ s) rfl
  · exact OutEff.mono (execNormvol_eff _ _ s) rfl
  · exact OutEff.mono (execDensity_eff _ _ s) rfl
  · exact OutEff.mono (execTend_eff _ _ s) rfl
  · exact OutEff.mono (execEmitv_eff _ _ s) rfl
  · exact OutEff.mono (execEmitt_eff _ _ s) rfl
  · exact OutEff.mono (execEmite_eff _ _ _ s) rfl
  · exact OutEff.mono (execEmiti_eff _ _ _ _ s) rfl
  · exact OutEff.mono (execRecordSnapshot_eff _ s) rfl
  · exact OutEff.mono (execIntervalRecord_eff _ _ s) rfl
  · exact OutEff.mono (execXofsLearn_eff _ s) rfl
  · exact OutEff.mono (execTimeStampGo_eff _ s) rfl
  · exact OutEff.mono (execGaugeSample_eff _ _ s) rfl
  · exact OutEff.mono (execPowerFailCommit_eff _ _ s) rfl
  · exact OutEff.mono (execTemperatureSample_eff _ s) rfl
  · exact OutEff.mono (execFrostEntry_eff _ _ _ _ s) rfl
  · exact OutEff.mono (execSpindleAlarm_eff _ s) rfl
  · exact OutEff.mono (execThawWinter_eff _ _ _ s) rfl
  · exact OutEff.mono (execThawFrost_eff _ _ _ _ s) rfl
  · exact OutEff.mono (execHfxoRestart_eff _ _ _ s) rfl
  · exact OutEff.mono (execPllUnlock_eff _ _ s) rfl
  · exact OutEff.mono (execCalibrationDue_eff _ _ s) rfl
  · exact OutEff.mono (execCalibrationHoldEnd_eff _ _ _ _ _ s) rfl
  · exact OutEff.mono (execInterconnectFault_eff _ _ s) rfl
  · exact OutEff.mono (execHscWatchdogExpiry_eff _ _ _ s) rfl
  · exact OutEff.mono (execSafeExit_eff _ s) rfl
  · exact OutEff.mono (execHscWdtKick_eff _ s) rfl
  · exact OutEff.mono (execScrub_eff _ _ _ s) rfl
  · exact OutEff.mono (execRegParity_eff _ _ s) rfl
  · exact OutEff.mono (execFlashRead_eff _ _ _ _ _ _ _ _ s) rfl
  · exact OutEff.mono (execFlashProgram_eff _ _ _ _ _ _ _ _ s) rfl
  · exact OutEff.mono (execFlashErase_eff _ _ _ s) rfl
  · exact OutEff.mono (execEraseEnd_eff _ _ s) rfl
  · exact OutEff.mono (execFlashStatus_eff _ _ s) rfl
  · exact OutEff.mono (execSuspend_eff _ _ s) rfl
  · exact OutEff.mono (execResume_eff _ _ s) rfl
  · exact OutEff.mono (execUnlock_eff _ _ _ _ _ s) rfl
  · exact OutEff.mono (execLock_eff _ _ _ s) rfl
  · exact OutEff.mono (execSetpw_eff _ _ _ _ _ _ s) rfl
  · exact OutEff.mono (execZonecfg_eff _ _ _ _ s) rfl
  · exact OutEff.mono (execEcnt_eff _ _ _ s) rfl
  · exact OutEff.mono (execMargin_eff _ _ _ _ _ _ s) rfl
  · exact OutEff.mono (execMarginScrubPass_eff _ _ _ s) rfl
  · exact OutEff.mono (execInterruptSourceEvent_eff _ _ _ s) rfl
  · exact OutEff.mono (execClaim_eff _ _ s) rfl
  · exact OutEff.mono (execComplete_eff _ _ _ s) rfl
  · exact OutEff.mono (execModerationTimeout_eff _ _ s) rfl
  · exact OutEff.mono (execStormClear_eff _ _ _ s) rfl
  · exact OutEff.mono (execStormWindowEnd_eff _ _ s) rfl
  · exact OutEff.mono (execCompareMatch_eff _ _ s) rfl
  · exact OutEff.mono (execPeriodEnd_eff _ _ s) rfl
  · exact OutEff.mono (execTmrStart_eff _ _ s) rfl
  · exact OutEff.mono (execTmrStop_eff _ _ s) rfl
  · exact OutEff.mono (execWdtKick_eff _ s) rfl
  · exact OutEff.mono (execTwGo_eff _ _ s) rfl
  · exact OutEff.mono (execTwTransferEnd_eff _ _ _ s) rfl
  · exact OutEff.mono (execArbLost_eff _ _ _ _ s) rfl
  · exact OutEff.mono (execArbitrationRetry_eff _ s) rfl
  · exact OutEff.mono (execStretchTimeout_eff _ s) rfl
  · exact OutEff.mono (execSclLowTimeout_eff _ s) rfl
  · exact OutEff.mono (execSdaLowTimeout_eff _ s) rfl
  · exact OutEff.mono (execTwBusErr_eff _ _ _ s) rfl
  · exact OutEff.mono (execTwAbort_eff _ _ s) rfl
  · exact OutEff.mono (execRecover_eff _ _ s) rfl
  · exact OutEff.mono (execTwTxdata_eff _ _ s) rfl
  · exact OutEff.mono (execTwRxdata_eff _ s) rfl
  · exact OutEff.mono (execAlertResponseRead_eff _ _ _ s) rfl
  · exact OutEff.mono (execTwmAddressMatch_eff _ s) rfl
  · exact OutEff.mono (execTwmWrite_eff _ _ s) rfl
  · exact OutEff.mono (execTwmRead_eff _ s) rfl
  · exact OutEff.mono (execTwmAraAnswer_eff _ s) rfl
  · exact OutEff.mono (execCspGo_eff _ s) rfl
  · exact OutEff.mono (execCspFrameEnd_eff _ _ _ s) rfl
  · exact OutEff.mono (execCspTxdata_eff _ _ _ s) rfl
  · exact OutEff.mono (execCspRxdata_eff _ _ s) rfl
  · exact OutEff.mono (execCspAbort_eff _ _ s) rfl
  · exact OutEff.mono (execModeFault_eff _ _ s) rfl
  · exact OutEff.mono (execTargetSelectionEnd_eff _ _ s) rfl
  · exact OutEff.mono (execCsp4Frame_eff _ _ s) rfl
  · exact OutEff.mono (execDiscover_eff _ s) rfl
  · exact OutEff.mono (execXipFetch_eff _ _ _ _ s) rfl
  · exact OutEff.mono (execEthTransmitFrame_eff _ _ s) rfl
  · exact OutEff.mono (execEthReceiveFrame_eff _ _ _ _ s) rfl
  · exact OutEff.mono (execEthReceiveDeliver_eff _ s) rfl
  · exact OutEff.mono (execTxctlPoll_eff _ _ s) rfl
  · exact OutEff.mono (execRxctlPoll_eff _ _ s) rfl
  · exact OutEff.mono (execLinkChange_eff _ _ _ s) rfl
  · exact OutEff.mono (execMdioGo_eff _ s) rfl
  · exact OutEff.mono (execTsqRead_eff _ s) rfl
  · exact OutEff.mono (execTsqPop_eff _ s) rfl
  · exact OutEff.mono (execSubmit_eff _ s) rfl
  · exact OutEff.mono (execLong_eff _ s) rfl
  · exact OutEff.mono (execWrite_eff _ _ s) rfl
  · exact OutEff.mono (execDebugAccess_eff _ _ _ _ _ _ _ s) rfl
  · exact OutEff.mono (execBusAccessError_eff _ _ _ _ _ _ s) rfl
  · exact OutEff.mono (execRegisterWrite_eff _ _ _ _ _ s) rfl
  · exact OutEff.mono (execDoorbell_eff _ _ _ s) rfl
  · exact OutEff.mono (execPulsePhaseRemoved_eff _ _ _ s) rfl
  · exact OutEff.mono (execPulseUncountedEdge_eff _ _ s) rfl
  · exact OutEff.mono (execMdioFrameEnd_eff _ s) rfl
  · exact OutEff.mono (execW0SnapshotRead_eff _ _ s) rfl
  · exact OutEff.mono (execMret_eff _ s) rfl
  · exact OutEff.mono (execVddAoFail_eff s) rfl
  · exact OutEff.mono (execVddSwLoss_eff s) rfl
  · exact OutEff.mono (execVddSwReturn_eff s) rfl
  · exact OutEff.mono (execSapwoodBoot_eff s) rfl
  · exact OutEff.mono (execSealOpen_eff _ _ s) rfl
  · exact OutEff.mono (execSealClose_eff _ _ s) rfl
  · exact OutEff.mono (execImageLoadTimeout_eff s) rfl
  · exact OutEff.mono (execZeroCalEnd_eff s) rfl
  · exact OutEff.mono (execRingEntryRead_eff s) rfl
  · exact OutEff.mono (execPop_eff s) rfl
  · exact OutEff.mono (execClrOvr_eff s) rfl
  · exact OutEff.mono (execCycleInstant_eff s) rfl
  · exact OutEff.mono (execTimeStepApply_eff s) rfl
  · exact OutEff.mono (execHoldoverTimeout_eff s) rfl
  · exact OutEff.mono (execGwTimeRead_eff s) rfl
  · exact OutEff.mono (execTimeNowRead_eff s) rfl
  · exact OutEff.mono (execTimeCycleRead_eff s) rfl
  · exact OutEff.mono (execEnergyScaleUpdate_eff s) rfl
  · exact OutEff.mono (execSapwoodGate_eff s) rfl
  · exact OutEff.mono (execWinterEntry_eff s) rfl
  · exact OutEff.mono (execSeasonAlarm_eff s) rfl
  · exact OutEff.mono (execXtal32Fail_eff s) rfl
  · exact OutEff.mono (execHfrcFail_eff s) rfl
  · exact OutEff.mono (execHfxoFail_eff s) rfl
  · exact OutEff.mono (execCalibrationStart_eff s) rfl
  · exact OutEff.mono (execWdtWarn_eff s) rfl
  · exact OutEff.mono (execWdtLimit_eff s) rfl
  · exact OutEff.mono (execTwmBusErr_eff s) rfl
  · exact OutEff.mono (execContMaxExpiry_eff s) rfl
  · exact OutEff.mono (execFwOutPop_eff s) rfl
  · exact OutEff.mono (execHostForward_eff s) rfl
  · exact OutEff.mono (execHostResultCollect_eff s) rfl
  · exact OutEff.mono (execHostGatewayTimeout_eff s) rfl
  · exact OutEff.mono (execHstatus_eff s) rfl
  · exact OutEff.mono (execGetResult_eff s) rfl
  · exact OutEff.mono (execEvents_eff s) rfl
  · exact OutEff.mono (execTime_eff s) rfl
  · exact OutEff.mono (execWakePolicy_eff s) rfl
  · exact OutEff.mono (execApp_eff s) rfl
  · exact OutEff.mono (execAppTimeout_eff s) rfl
  · exact OutEff.mono (execEventQueueMove_eff s) rfl
  · exact OutEff.mono (execEraseSlot_eff s) rfl
  · exact OutEff.mono (execDone_eff s) rfl
  · exact OutEff.mono (execPhaseAmortised_eff s) rfl
  · exact OutEff.mono (execCsp4SelectAsserted_eff s) rfl
  · exact OutEff.mono (execVddioSLoss_eff s) rfl

end Sys2Proof.Machine
end

