-- ==== Sys2Proof/Laws/State.lean ====
section
/-! SUPPORT. One lemma per field per update: what the named updates of the state leave of its other fields. -/

namespace Sys2Proof.Machine

@[simp] theorem State.setW_pending (s : State) (a : Nat) (w : Word) : (s.setW a w).pending = s.pending := rfl
@[simp] theorem State.setW_freeCtr (s : State) (a : Nat) (w : Word) : (s.setW a w).freeCtr = s.freeCtr := rfl
@[simp] theorem State.setW_mem (s : State) (a : Nat) (w : Word) : (s.setW a w).mem = s.mem := rfl
@[simp] theorem State.setW_pins (s : State) (a : Nat) (w : Word) : (s.setW a w).pins = s.pins := rfl
@[simp] theorem State.setW_boot (s : State) (a : Nat) (w : Word) : (s.setW a w).boot = s.boot := rfl
@[simp] theorem State.setW_sealc (s : State) (a : Nat) (w : Word) : (s.setW a w).sealc = s.sealc := rfl
@[simp] theorem State.setW_audit (s : State) (a : Nat) (w : Word) : (s.setW a w).audit = s.audit := rfl
@[simp] theorem State.setW_ring (s : State) (a : Nat) (w : Word) : (s.setW a w).ring = s.ring := rfl
@[simp] theorem State.setW_gw (s : State) (a : Nat) (w : Word) : (s.setW a w).gw = s.gw := rfl
@[simp] theorem State.setW_keys (s : State) (a : Nat) (w : Word) : (s.setW a w).keys = s.keys := rfl
@[simp] theorem State.setW_keysGen (s : State) (a : Nat) (w : Word) : (s.setW a w).keysGen = s.keysGen := rfl
@[simp] theorem State.setW_sel (s : State) (a : Nat) (w : Word) : (s.setW a w).sel = s.sel := rfl
@[simp] theorem State.setW_params (s : State) (a : Nat) (w : Word) : (s.setW a w).params = s.params := rfl
@[simp] theorem State.setW_hflash (s : State) (a : Nat) (w : Word) : (s.setW a w).hflash = s.hflash := rfl
@[simp] theorem State.setW_sflash (s : State) (a : Nat) (w : Word) : (s.setW a w).sflash = s.sflash := rfl
@[simp] theorem State.setW_hic (s : State) (a : Nat) (w : Word) : (s.setW a w).hic = s.hic := rfl
@[simp] theorem State.setW_sic (s : State) (a : Nat) (w : Word) : (s.setW a w).sic = s.sic := rfl
@[simp] theorem State.setW_gpioH (s : State) (a : Nat) (w : Word) : (s.setW a w).gpioH = s.gpioH := rfl
@[simp] theorem State.setW_gpioS (s : State) (a : Nat) (w : Word) : (s.setW a w).gpioS = s.gpioS := rfl
@[simp] theorem State.setW_acq (s : State) (a : Nat) (w : Word) : (s.setW a w).acq = s.acq := rfl
@[simp] theorem State.setW_echo (s : State) (a : Nat) (w : Word) : (s.setW a w).echo = s.echo := rfl
@[simp] theorem State.setW_front (s : State) (a : Nat) (w : Word) : (s.setW a w).front = s.front := rfl
@[simp] theorem State.setW_pulse (s : State) (a : Nat) (w : Word) : (s.setW a w).pulse = s.pulse := rfl
@[simp] theorem State.setW_fabric (s : State) (a : Nat) (w : Word) : (s.setW a w).fabric = s.fabric := rfl
@[simp] theorem State.setW_pairs (s : State) (a : Nat) (w : Word) : (s.setW a w).pairs = s.pairs := rfl
@[simp] theorem State.setW_recs (s : State) (a : Nat) (w : Word) : (s.setW a w).recs = s.recs := rfl
@[simp] theorem State.setW_time (s : State) (a : Nat) (w : Word) : (s.setW a w).time = s.time := rfl
@[simp] theorem State.setW_spn (s : State) (a : Nat) (w : Word) : (s.setW a w).spn = s.spn := rfl
@[simp] theorem State.setW_season (s : State) (a : Nat) (w : Word) : (s.setW a w).season = s.season := rfl
@[simp] theorem State.setW_cal (s : State) (a : Nat) (w : Word) : (s.setW a w).cal = s.cal := rfl
@[simp] theorem State.setW_flt (s : State) (a : Nat) (w : Word) : (s.setW a w).flt = s.flt := rfl
@[simp] theorem State.setW_tw (s : State) (a : Nat) (w : Word) : (s.setW a w).tw = s.tw := rfl
@[simp] theorem State.setW_twm (s : State) (a : Nat) (w : Word) : (s.setW a w).twm = s.twm := rfl
@[simp] theorem State.setW_csp (s : State) (a : Nat) (w : Word) : (s.setW a w).csp = s.csp := rfl
@[simp] theorem State.setW_cspx (s : State) (a : Nat) (w : Word) : (s.setW a w).cspx = s.cspx := rfl
@[simp] theorem State.setW_mac (s : State) (a : Nat) (w : Word) : (s.setW a w).mac = s.mac := rfl
@[simp] theorem State.setW_host (s : State) (a : Nat) (w : Word) : (s.setW a w).host = s.host := rfl
@[simp] theorem State.setW_cores (s : State) (a : Nat) (w : Word) : (s.setW a w).cores = s.cores := rfl
@[simp] theorem State.setW_hscHalted (s : State) (a : Nat) (w : Word) : (s.setW a w).hscHalted = s.hscHalted := rfl
@[simp] theorem State.setW_snaps (s : State) (a : Nat) (w : Word) : (s.setW a w).snaps = s.snaps := rfl
@[simp] theorem State.setW_wdt (s : State) (a : Nat) (w : Word) : (s.setW a w).wdt = s.wdt := rfl
@[simp] theorem State.setW_tmr (s : State) (a : Nat) (w : Word) : (s.setW a w).tmr = s.tmr := rfl
@[simp] theorem State.setW_ctl (s : State) (a : Nat) (w : Word) : (s.setW a w).ctl = s.ctl := rfl
@[simp] theorem State.setW_reads (s : State) (a : Nat) (w : Word) : (s.setW a w).reads = s.reads := rfl
@[simp] theorem State.setW_tap (s : State) (a : Nat) (w : Word) : (s.setW a w).tap = s.tap := rfl
@[simp] theorem State.setW_kept (s : State) (a : Nat) (w : Word) : (s.setW a w).kept = s.kept := rfl

@[simp] theorem State.set_pending (s : State) (f : Fld) (v : Nat) : (s.set f v).pending = s.pending := rfl
@[simp] theorem State.set_freeCtr (s : State) (f : Fld) (v : Nat) : (s.set f v).freeCtr = s.freeCtr := rfl
@[simp] theorem State.set_mem (s : State) (f : Fld) (v : Nat) : (s.set f v).mem = s.mem := rfl
@[simp] theorem State.set_pins (s : State) (f : Fld) (v : Nat) : (s.set f v).pins = s.pins := rfl
@[simp] theorem State.set_boot (s : State) (f : Fld) (v : Nat) : (s.set f v).boot = s.boot := rfl
@[simp] theorem State.set_sealc (s : State) (f : Fld) (v : Nat) : (s.set f v).sealc = s.sealc := rfl
@[simp] theorem State.set_audit (s : State) (f : Fld) (v : Nat) : (s.set f v).audit = s.audit := rfl
@[simp] theorem State.set_ring (s : State) (f : Fld) (v : Nat) : (s.set f v).ring = s.ring := rfl
@[simp] theorem State.set_gw (s : State) (f : Fld) (v : Nat) : (s.set f v).gw = s.gw := rfl
@[simp] theorem State.set_keys (s : State) (f : Fld) (v : Nat) : (s.set f v).keys = s.keys := rfl
@[simp] theorem State.set_keysGen (s : State) (f : Fld) (v : Nat) : (s.set f v).keysGen = s.keysGen := rfl
@[simp] theorem State.set_sel (s : State) (f : Fld) (v : Nat) : (s.set f v).sel = s.sel := rfl
@[simp] theorem State.set_params (s : State) (f : Fld) (v : Nat) : (s.set f v).params = s.params := rfl
@[simp] theorem State.set_hflash (s : State) (f : Fld) (v : Nat) : (s.set f v).hflash = s.hflash := rfl
@[simp] theorem State.set_sflash (s : State) (f : Fld) (v : Nat) : (s.set f v).sflash = s.sflash := rfl
@[simp] theorem State.set_hic (s : State) (f : Fld) (v : Nat) : (s.set f v).hic = s.hic := rfl
@[simp] theorem State.set_sic (s : State) (f : Fld) (v : Nat) : (s.set f v).sic = s.sic := rfl
@[simp] theorem State.set_gpioH (s : State) (f : Fld) (v : Nat) : (s.set f v).gpioH = s.gpioH := rfl
@[simp] theorem State.set_gpioS (s : State) (f : Fld) (v : Nat) : (s.set f v).gpioS = s.gpioS := rfl
@[simp] theorem State.set_acq (s : State) (f : Fld) (v : Nat) : (s.set f v).acq = s.acq := rfl
@[simp] theorem State.set_echo (s : State) (f : Fld) (v : Nat) : (s.set f v).echo = s.echo := rfl
@[simp] theorem State.set_front (s : State) (f : Fld) (v : Nat) : (s.set f v).front = s.front := rfl
@[simp] theorem State.set_pulse (s : State) (f : Fld) (v : Nat) : (s.set f v).pulse = s.pulse := rfl
@[simp] theorem State.set_fabric (s : State) (f : Fld) (v : Nat) : (s.set f v).fabric = s.fabric := rfl
@[simp] theorem State.set_pairs (s : State) (f : Fld) (v : Nat) : (s.set f v).pairs = s.pairs := rfl
@[simp] theorem State.set_recs (s : State) (f : Fld) (v : Nat) : (s.set f v).recs = s.recs := rfl
@[simp] theorem State.set_time (s : State) (f : Fld) (v : Nat) : (s.set f v).time = s.time := rfl
@[simp] theorem State.set_spn (s : State) (f : Fld) (v : Nat) : (s.set f v).spn = s.spn := rfl
@[simp] theorem State.set_season (s : State) (f : Fld) (v : Nat) : (s.set f v).season = s.season := rfl
@[simp] theorem State.set_cal (s : State) (f : Fld) (v : Nat) : (s.set f v).cal = s.cal := rfl
@[simp] theorem State.set_flt (s : State) (f : Fld) (v : Nat) : (s.set f v).flt = s.flt := rfl
@[simp] theorem State.set_tw (s : State) (f : Fld) (v : Nat) : (s.set f v).tw = s.tw := rfl
@[simp] theorem State.set_twm (s : State) (f : Fld) (v : Nat) : (s.set f v).twm = s.twm := rfl
@[simp] theorem State.set_csp (s : State) (f : Fld) (v : Nat) : (s.set f v).csp = s.csp := rfl
@[simp] theorem State.set_cspx (s : State) (f : Fld) (v : Nat) : (s.set f v).cspx = s.cspx := rfl
@[simp] theorem State.set_mac (s : State) (f : Fld) (v : Nat) : (s.set f v).mac = s.mac := rfl
@[simp] theorem State.set_host (s : State) (f : Fld) (v : Nat) : (s.set f v).host = s.host := rfl
@[simp] theorem State.set_cores (s : State) (f : Fld) (v : Nat) : (s.set f v).cores = s.cores := rfl
@[simp] theorem State.set_hscHalted (s : State) (f : Fld) (v : Nat) : (s.set f v).hscHalted = s.hscHalted := rfl
@[simp] theorem State.set_snaps (s : State) (f : Fld) (v : Nat) : (s.set f v).snaps = s.snaps := rfl
@[simp] theorem State.set_wdt (s : State) (f : Fld) (v : Nat) : (s.set f v).wdt = s.wdt := rfl
@[simp] theorem State.set_tmr (s : State) (f : Fld) (v : Nat) : (s.set f v).tmr = s.tmr := rfl
@[simp] theorem State.set_ctl (s : State) (f : Fld) (v : Nat) : (s.set f v).ctl = s.ctl := rfl
@[simp] theorem State.set_reads (s : State) (f : Fld) (v : Nat) : (s.set f v).reads = s.reads := rfl
@[simp] theorem State.set_tap (s : State) (f : Fld) (v : Nat) : (s.set f v).tap = s.tap := rfl
@[simp] theorem State.set_kept (s : State) (f : Fld) (v : Nat) : (s.set f v).kept = s.kept := rfl

@[simp] theorem State.setB_pending (s : State) (f : Fld) (b : Bool) : (s.setB f b).pending = s.pending := rfl
@[simp] theorem State.setB_freeCtr (s : State) (f : Fld) (b : Bool) : (s.setB f b).freeCtr = s.freeCtr := rfl
@[simp] theorem State.setB_mem (s : State) (f : Fld) (b : Bool) : (s.setB f b).mem = s.mem := rfl
@[simp] theorem State.setB_pins (s : State) (f : Fld) (b : Bool) : (s.setB f b).pins = s.pins := rfl
@[simp] theorem State.setB_boot (s : State) (f : Fld) (b : Bool) : (s.setB f b).boot = s.boot := rfl
@[simp] theorem State.setB_sealc (s : State) (f : Fld) (b : Bool) : (s.setB f b).sealc = s.sealc := rfl
@[simp] theorem State.setB_audit (s : State) (f : Fld) (b : Bool) : (s.setB f b).audit = s.audit := rfl
@[simp] theorem State.setB_ring (s : State) (f : Fld) (b : Bool) : (s.setB f b).ring = s.ring := rfl
@[simp] theorem State.setB_gw (s : State) (f : Fld) (b : Bool) : (s.setB f b).gw = s.gw := rfl
@[simp] theorem State.setB_keys (s : State) (f : Fld) (b : Bool) : (s.setB f b).keys = s.keys := rfl
@[simp] theorem State.setB_keysGen (s : State) (f : Fld) (b : Bool) : (s.setB f b).keysGen = s.keysGen := rfl
@[simp] theorem State.setB_sel (s : State) (f : Fld) (b : Bool) : (s.setB f b).sel = s.sel := rfl
@[simp] theorem State.setB_params (s : State) (f : Fld) (b : Bool) : (s.setB f b).params = s.params := rfl
@[simp] theorem State.setB_hflash (s : State) (f : Fld) (b : Bool) : (s.setB f b).hflash = s.hflash := rfl
@[simp] theorem State.setB_sflash (s : State) (f : Fld) (b : Bool) : (s.setB f b).sflash = s.sflash := rfl
@[simp] theorem State.setB_hic (s : State) (f : Fld) (b : Bool) : (s.setB f b).hic = s.hic := rfl
@[simp] theorem State.setB_sic (s : State) (f : Fld) (b : Bool) : (s.setB f b).sic = s.sic := rfl
@[simp] theorem State.setB_gpioH (s : State) (f : Fld) (b : Bool) : (s.setB f b).gpioH = s.gpioH := rfl
@[simp] theorem State.setB_gpioS (s : State) (f : Fld) (b : Bool) : (s.setB f b).gpioS = s.gpioS := rfl
@[simp] theorem State.setB_acq (s : State) (f : Fld) (b : Bool) : (s.setB f b).acq = s.acq := rfl
@[simp] theorem State.setB_echo (s : State) (f : Fld) (b : Bool) : (s.setB f b).echo = s.echo := rfl
@[simp] theorem State.setB_front (s : State) (f : Fld) (b : Bool) : (s.setB f b).front = s.front := rfl
@[simp] theorem State.setB_pulse (s : State) (f : Fld) (b : Bool) : (s.setB f b).pulse = s.pulse := rfl
@[simp] theorem State.setB_fabric (s : State) (f : Fld) (b : Bool) : (s.setB f b).fabric = s.fabric := rfl
@[simp] theorem State.setB_pairs (s : State) (f : Fld) (b : Bool) : (s.setB f b).pairs = s.pairs := rfl
@[simp] theorem State.setB_recs (s : State) (f : Fld) (b : Bool) : (s.setB f b).recs = s.recs := rfl
@[simp] theorem State.setB_time (s : State) (f : Fld) (b : Bool) : (s.setB f b).time = s.time := rfl
@[simp] theorem State.setB_spn (s : State) (f : Fld) (b : Bool) : (s.setB f b).spn = s.spn := rfl
@[simp] theorem State.setB_season (s : State) (f : Fld) (b : Bool) : (s.setB f b).season = s.season := rfl
@[simp] theorem State.setB_cal (s : State) (f : Fld) (b : Bool) : (s.setB f b).cal = s.cal := rfl
@[simp] theorem State.setB_flt (s : State) (f : Fld) (b : Bool) : (s.setB f b).flt = s.flt := rfl
@[simp] theorem State.setB_tw (s : State) (f : Fld) (b : Bool) : (s.setB f b).tw = s.tw := rfl
@[simp] theorem State.setB_twm (s : State) (f : Fld) (b : Bool) : (s.setB f b).twm = s.twm := rfl
@[simp] theorem State.setB_csp (s : State) (f : Fld) (b : Bool) : (s.setB f b).csp = s.csp := rfl
@[simp] theorem State.setB_cspx (s : State) (f : Fld) (b : Bool) : (s.setB f b).cspx = s.cspx := rfl
@[simp] theorem State.setB_mac (s : State) (f : Fld) (b : Bool) : (s.setB f b).mac = s.mac := rfl
@[simp] theorem State.setB_host (s : State) (f : Fld) (b : Bool) : (s.setB f b).host = s.host := rfl
@[simp] theorem State.setB_cores (s : State) (f : Fld) (b : Bool) : (s.setB f b).cores = s.cores := rfl
@[simp] theorem State.setB_hscHalted (s : State) (f : Fld) (b : Bool) : (s.setB f b).hscHalted = s.hscHalted := rfl
@[simp] theorem State.setB_snaps (s : State) (f : Fld) (b : Bool) : (s.setB f b).snaps = s.snaps := rfl
@[simp] theorem State.setB_wdt (s : State) (f : Fld) (b : Bool) : (s.setB f b).wdt = s.wdt := rfl
@[simp] theorem State.setB_tmr (s : State) (f : Fld) (b : Bool) : (s.setB f b).tmr = s.tmr := rfl
@[simp] theorem State.setB_ctl (s : State) (f : Fld) (b : Bool) : (s.setB f b).ctl = s.ctl := rfl
@[simp] theorem State.setB_reads (s : State) (f : Fld) (b : Bool) : (s.setB f b).reads = s.reads := rfl
@[simp] theorem State.setB_tap (s : State) (f : Fld) (b : Bool) : (s.setB f b).tap = s.tap := rfl
@[simp] theorem State.setB_kept (s : State) (f : Fld) (b : Bool) : (s.setB f b).kept = s.kept := rfl

@[simp] theorem State.setI_pending (s : State) (f : Fld) (v : Int) : (s.setI f v).pending = s.pending := rfl
@[simp] theorem State.setI_freeCtr (s : State) (f : Fld) (v : Int) : (s.setI f v).freeCtr = s.freeCtr := rfl
@[simp] theorem State.setI_mem (s : State) (f : Fld) (v : Int) : (s.setI f v).mem = s.mem := rfl
@[simp] theorem State.setI_pins (s : State) (f : Fld) (v : Int) : (s.setI f v).pins = s.pins := rfl
@[simp] theorem State.setI_boot (s : State) (f : Fld) (v : Int) : (s.setI f v).boot = s.boot := rfl
@[simp] theorem State.setI_sealc (s : State) (f : Fld) (v : Int) : (s.setI f v).sealc = s.sealc := rfl
@[simp] theorem State.setI_audit (s : State) (f : Fld) (v : Int) : (s.setI f v).audit = s.audit := rfl
@[simp] theorem State.setI_ring (s : State) (f : Fld) (v : Int) : (s.setI f v).ring = s.ring := rfl
@[simp] theorem State.setI_gw (s : State) (f : Fld) (v : Int) : (s.setI f v).gw = s.gw := rfl
@[simp] theorem State.setI_keys (s : State) (f : Fld) (v : Int) : (s.setI f v).keys = s.keys := rfl
@[simp] theorem State.setI_keysGen (s : State) (f : Fld) (v : Int) : (s.setI f v).keysGen = s.keysGen := rfl
@[simp] theorem State.setI_sel (s : State) (f : Fld) (v : Int) : (s.setI f v).sel = s.sel := rfl
@[simp] theorem State.setI_params (s : State) (f : Fld) (v : Int) : (s.setI f v).params = s.params := rfl
@[simp] theorem State.setI_hflash (s : State) (f : Fld) (v : Int) : (s.setI f v).hflash = s.hflash := rfl
@[simp] theorem State.setI_sflash (s : State) (f : Fld) (v : Int) : (s.setI f v).sflash = s.sflash := rfl
@[simp] theorem State.setI_hic (s : State) (f : Fld) (v : Int) : (s.setI f v).hic = s.hic := rfl
@[simp] theorem State.setI_sic (s : State) (f : Fld) (v : Int) : (s.setI f v).sic = s.sic := rfl
@[simp] theorem State.setI_gpioH (s : State) (f : Fld) (v : Int) : (s.setI f v).gpioH = s.gpioH := rfl
@[simp] theorem State.setI_gpioS (s : State) (f : Fld) (v : Int) : (s.setI f v).gpioS = s.gpioS := rfl
@[simp] theorem State.setI_acq (s : State) (f : Fld) (v : Int) : (s.setI f v).acq = s.acq := rfl
@[simp] theorem State.setI_echo (s : State) (f : Fld) (v : Int) : (s.setI f v).echo = s.echo := rfl
@[simp] theorem State.setI_front (s : State) (f : Fld) (v : Int) : (s.setI f v).front = s.front := rfl
@[simp] theorem State.setI_pulse (s : State) (f : Fld) (v : Int) : (s.setI f v).pulse = s.pulse := rfl
@[simp] theorem State.setI_fabric (s : State) (f : Fld) (v : Int) : (s.setI f v).fabric = s.fabric := rfl
@[simp] theorem State.setI_pairs (s : State) (f : Fld) (v : Int) : (s.setI f v).pairs = s.pairs := rfl
@[simp] theorem State.setI_recs (s : State) (f : Fld) (v : Int) : (s.setI f v).recs = s.recs := rfl
@[simp] theorem State.setI_time (s : State) (f : Fld) (v : Int) : (s.setI f v).time = s.time := rfl
@[simp] theorem State.setI_spn (s : State) (f : Fld) (v : Int) : (s.setI f v).spn = s.spn := rfl
@[simp] theorem State.setI_season (s : State) (f : Fld) (v : Int) : (s.setI f v).season = s.season := rfl
@[simp] theorem State.setI_cal (s : State) (f : Fld) (v : Int) : (s.setI f v).cal = s.cal := rfl
@[simp] theorem State.setI_flt (s : State) (f : Fld) (v : Int) : (s.setI f v).flt = s.flt := rfl
@[simp] theorem State.setI_tw (s : State) (f : Fld) (v : Int) : (s.setI f v).tw = s.tw := rfl
@[simp] theorem State.setI_twm (s : State) (f : Fld) (v : Int) : (s.setI f v).twm = s.twm := rfl
@[simp] theorem State.setI_csp (s : State) (f : Fld) (v : Int) : (s.setI f v).csp = s.csp := rfl
@[simp] theorem State.setI_cspx (s : State) (f : Fld) (v : Int) : (s.setI f v).cspx = s.cspx := rfl
@[simp] theorem State.setI_mac (s : State) (f : Fld) (v : Int) : (s.setI f v).mac = s.mac := rfl
@[simp] theorem State.setI_host (s : State) (f : Fld) (v : Int) : (s.setI f v).host = s.host := rfl
@[simp] theorem State.setI_cores (s : State) (f : Fld) (v : Int) : (s.setI f v).cores = s.cores := rfl
@[simp] theorem State.setI_hscHalted (s : State) (f : Fld) (v : Int) : (s.setI f v).hscHalted = s.hscHalted := rfl
@[simp] theorem State.setI_snaps (s : State) (f : Fld) (v : Int) : (s.setI f v).snaps = s.snaps := rfl
@[simp] theorem State.setI_wdt (s : State) (f : Fld) (v : Int) : (s.setI f v).wdt = s.wdt := rfl
@[simp] theorem State.setI_tmr (s : State) (f : Fld) (v : Int) : (s.setI f v).tmr = s.tmr := rfl
@[simp] theorem State.setI_ctl (s : State) (f : Fld) (v : Int) : (s.setI f v).ctl = s.ctl := rfl
@[simp] theorem State.setI_reads (s : State) (f : Fld) (v : Int) : (s.setI f v).reads = s.reads := rfl
@[simp] theorem State.setI_tap (s : State) (f : Fld) (v : Int) : (s.setI f v).tap = s.tap := rfl
@[simp] theorem State.setI_kept (s : State) (f : Fld) (v : Int) : (s.setI f v).kept = s.kept := rfl

@[simp] theorem State.sat_pending (s : State) (f : Fld) (n : Nat) : (s.sat f n).pending = s.pending := rfl
@[simp] theorem State.sat_freeCtr (s : State) (f : Fld) (n : Nat) : (s.sat f n).freeCtr = s.freeCtr := rfl
@[simp] theorem State.sat_mem (s : State) (f : Fld) (n : Nat) : (s.sat f n).mem = s.mem := rfl
@[simp] theorem State.sat_pins (s : State) (f : Fld) (n : Nat) : (s.sat f n).pins = s.pins := rfl
@[simp] theorem State.sat_boot (s : State) (f : Fld) (n : Nat) : (s.sat f n).boot = s.boot := rfl
@[simp] theorem State.sat_sealc (s : State) (f : Fld) (n : Nat) : (s.sat f n).sealc = s.sealc := rfl
@[simp] theorem State.sat_audit (s : State) (f : Fld) (n : Nat) : (s.sat f n).audit = s.audit := rfl
@[simp] theorem State.sat_ring (s : State) (f : Fld) (n : Nat) : (s.sat f n).ring = s.ring := rfl
@[simp] theorem State.sat_gw (s : State) (f : Fld) (n : Nat) : (s.sat f n).gw = s.gw := rfl
@[simp] theorem State.sat_keys (s : State) (f : Fld) (n : Nat) : (s.sat f n).keys = s.keys := rfl
@[simp] theorem State.sat_keysGen (s : State) (f : Fld) (n : Nat) : (s.sat f n).keysGen = s.keysGen := rfl
@[simp] theorem State.sat_sel (s : State) (f : Fld) (n : Nat) : (s.sat f n).sel = s.sel := rfl
@[simp] theorem State.sat_params (s : State) (f : Fld) (n : Nat) : (s.sat f n).params = s.params := rfl
@[simp] theorem State.sat_hflash (s : State) (f : Fld) (n : Nat) : (s.sat f n).hflash = s.hflash := rfl
@[simp] theorem State.sat_sflash (s : State) (f : Fld) (n : Nat) : (s.sat f n).sflash = s.sflash := rfl
@[simp] theorem State.sat_hic (s : State) (f : Fld) (n : Nat) : (s.sat f n).hic = s.hic := rfl
@[simp] theorem State.sat_sic (s : State) (f : Fld) (n : Nat) : (s.sat f n).sic = s.sic := rfl
@[simp] theorem State.sat_gpioH (s : State) (f : Fld) (n : Nat) : (s.sat f n).gpioH = s.gpioH := rfl
@[simp] theorem State.sat_gpioS (s : State) (f : Fld) (n : Nat) : (s.sat f n).gpioS = s.gpioS := rfl
@[simp] theorem State.sat_acq (s : State) (f : Fld) (n : Nat) : (s.sat f n).acq = s.acq := rfl
@[simp] theorem State.sat_echo (s : State) (f : Fld) (n : Nat) : (s.sat f n).echo = s.echo := rfl
@[simp] theorem State.sat_front (s : State) (f : Fld) (n : Nat) : (s.sat f n).front = s.front := rfl
@[simp] theorem State.sat_pulse (s : State) (f : Fld) (n : Nat) : (s.sat f n).pulse = s.pulse := rfl
@[simp] theorem State.sat_fabric (s : State) (f : Fld) (n : Nat) : (s.sat f n).fabric = s.fabric := rfl
@[simp] theorem State.sat_pairs (s : State) (f : Fld) (n : Nat) : (s.sat f n).pairs = s.pairs := rfl
@[simp] theorem State.sat_recs (s : State) (f : Fld) (n : Nat) : (s.sat f n).recs = s.recs := rfl
@[simp] theorem State.sat_time (s : State) (f : Fld) (n : Nat) : (s.sat f n).time = s.time := rfl
@[simp] theorem State.sat_spn (s : State) (f : Fld) (n : Nat) : (s.sat f n).spn = s.spn := rfl
@[simp] theorem State.sat_season (s : State) (f : Fld) (n : Nat) : (s.sat f n).season = s.season := rfl
@[simp] theorem State.sat_cal (s : State) (f : Fld) (n : Nat) : (s.sat f n).cal = s.cal := rfl
@[simp] theorem State.sat_flt (s : State) (f : Fld) (n : Nat) : (s.sat f n).flt = s.flt := rfl
@[simp] theorem State.sat_tw (s : State) (f : Fld) (n : Nat) : (s.sat f n).tw = s.tw := rfl
@[simp] theorem State.sat_twm (s : State) (f : Fld) (n : Nat) : (s.sat f n).twm = s.twm := rfl
@[simp] theorem State.sat_csp (s : State) (f : Fld) (n : Nat) : (s.sat f n).csp = s.csp := rfl
@[simp] theorem State.sat_cspx (s : State) (f : Fld) (n : Nat) : (s.sat f n).cspx = s.cspx := rfl
@[simp] theorem State.sat_mac (s : State) (f : Fld) (n : Nat) : (s.sat f n).mac = s.mac := rfl
@[simp] theorem State.sat_host (s : State) (f : Fld) (n : Nat) : (s.sat f n).host = s.host := rfl
@[simp] theorem State.sat_cores (s : State) (f : Fld) (n : Nat) : (s.sat f n).cores = s.cores := rfl
@[simp] theorem State.sat_hscHalted (s : State) (f : Fld) (n : Nat) : (s.sat f n).hscHalted = s.hscHalted := rfl
@[simp] theorem State.sat_snaps (s : State) (f : Fld) (n : Nat) : (s.sat f n).snaps = s.snaps := rfl
@[simp] theorem State.sat_wdt (s : State) (f : Fld) (n : Nat) : (s.sat f n).wdt = s.wdt := rfl
@[simp] theorem State.sat_tmr (s : State) (f : Fld) (n : Nat) : (s.sat f n).tmr = s.tmr := rfl
@[simp] theorem State.sat_ctl (s : State) (f : Fld) (n : Nat) : (s.sat f n).ctl = s.ctl := rfl
@[simp] theorem State.sat_reads (s : State) (f : Fld) (n : Nat) : (s.sat f n).reads = s.reads := rfl
@[simp] theorem State.sat_tap (s : State) (f : Fld) (n : Nat) : (s.sat f n).tap = s.tap := rfl
@[simp] theorem State.sat_kept (s : State) (f : Fld) (n : Nat) : (s.sat f n).kept = s.kept := rfl

@[simp] theorem State.wrap_pending (s : State) (f : Fld) (n : Nat) : (s.wrap f n).pending = s.pending := rfl
@[simp] theorem State.wrap_freeCtr (s : State) (f : Fld) (n : Nat) : (s.wrap f n).freeCtr = s.freeCtr := rfl
@[simp] theorem State.wrap_mem (s : State) (f : Fld) (n : Nat) : (s.wrap f n).mem = s.mem := rfl
@[simp] theorem State.wrap_pins (s : State) (f : Fld) (n : Nat) : (s.wrap f n).pins = s.pins := rfl
@[simp] theorem State.wrap_boot (s : State) (f : Fld) (n : Nat) : (s.wrap f n).boot = s.boot := rfl
@[simp] theorem State.wrap_sealc (s : State) (f : Fld) (n : Nat) : (s.wrap f n).sealc = s.sealc := rfl
@[simp] theorem State.wrap_audit (s : State) (f : Fld) (n : Nat) : (s.wrap f n).audit = s.audit := rfl
@[simp] theorem State.wrap_ring (s : State) (f : Fld) (n : Nat) : (s.wrap f n).ring = s.ring := rfl
@[simp] theorem State.wrap_gw (s : State) (f : Fld) (n : Nat) : (s.wrap f n).gw = s.gw := rfl
@[simp] theorem State.wrap_keys (s : State) (f : Fld) (n : Nat) : (s.wrap f n).keys = s.keys := rfl
@[simp] theorem State.wrap_keysGen (s : State) (f : Fld) (n : Nat) : (s.wrap f n).keysGen = s.keysGen := rfl
@[simp] theorem State.wrap_sel (s : State) (f : Fld) (n : Nat) : (s.wrap f n).sel = s.sel := rfl
@[simp] theorem State.wrap_params (s : State) (f : Fld) (n : Nat) : (s.wrap f n).params = s.params := rfl
@[simp] theorem State.wrap_hflash (s : State) (f : Fld) (n : Nat) : (s.wrap f n).hflash = s.hflash := rfl
@[simp] theorem State.wrap_sflash (s : State) (f : Fld) (n : Nat) : (s.wrap f n).sflash = s.sflash := rfl
@[simp] theorem State.wrap_hic (s : State) (f : Fld) (n : Nat) : (s.wrap f n).hic = s.hic := rfl
@[simp] theorem State.wrap_sic (s : State) (f : Fld) (n : Nat) : (s.wrap f n).sic = s.sic := rfl
@[simp] theorem State.wrap_gpioH (s : State) (f : Fld) (n : Nat) : (s.wrap f n).gpioH = s.gpioH := rfl
@[simp] theorem State.wrap_gpioS (s : State) (f : Fld) (n : Nat) : (s.wrap f n).gpioS = s.gpioS := rfl
@[simp] theorem State.wrap_acq (s : State) (f : Fld) (n : Nat) : (s.wrap f n).acq = s.acq := rfl
@[simp] theorem State.wrap_echo (s : State) (f : Fld) (n : Nat) : (s.wrap f n).echo = s.echo := rfl
@[simp] theorem State.wrap_front (s : State) (f : Fld) (n : Nat) : (s.wrap f n).front = s.front := rfl
@[simp] theorem State.wrap_pulse (s : State) (f : Fld) (n : Nat) : (s.wrap f n).pulse = s.pulse := rfl
@[simp] theorem State.wrap_fabric (s : State) (f : Fld) (n : Nat) : (s.wrap f n).fabric = s.fabric := rfl
@[simp] theorem State.wrap_pairs (s : State) (f : Fld) (n : Nat) : (s.wrap f n).pairs = s.pairs := rfl
@[simp] theorem State.wrap_recs (s : State) (f : Fld) (n : Nat) : (s.wrap f n).recs = s.recs := rfl
@[simp] theorem State.wrap_time (s : State) (f : Fld) (n : Nat) : (s.wrap f n).time = s.time := rfl
@[simp] theorem State.wrap_spn (s : State) (f : Fld) (n : Nat) : (s.wrap f n).spn = s.spn := rfl
@[simp] theorem State.wrap_season (s : State) (f : Fld) (n : Nat) : (s.wrap f n).season = s.season := rfl
@[simp] theorem State.wrap_cal (s : State) (f : Fld) (n : Nat) : (s.wrap f n).cal = s.cal := rfl
@[simp] theorem State.wrap_flt (s : State) (f : Fld) (n : Nat) : (s.wrap f n).flt = s.flt := rfl
@[simp] theorem State.wrap_tw (s : State) (f : Fld) (n : Nat) : (s.wrap f n).tw = s.tw := rfl
@[simp] theorem State.wrap_twm (s : State) (f : Fld) (n : Nat) : (s.wrap f n).twm = s.twm := rfl
@[simp] theorem State.wrap_csp (s : State) (f : Fld) (n : Nat) : (s.wrap f n).csp = s.csp := rfl
@[simp] theorem State.wrap_cspx (s : State) (f : Fld) (n : Nat) : (s.wrap f n).cspx = s.cspx := rfl
@[simp] theorem State.wrap_mac (s : State) (f : Fld) (n : Nat) : (s.wrap f n).mac = s.mac := rfl
@[simp] theorem State.wrap_host (s : State) (f : Fld) (n : Nat) : (s.wrap f n).host = s.host := rfl
@[simp] theorem State.wrap_cores (s : State) (f : Fld) (n : Nat) : (s.wrap f n).cores = s.cores := rfl
@[simp] theorem State.wrap_hscHalted (s : State) (f : Fld) (n : Nat) : (s.wrap f n).hscHalted = s.hscHalted := rfl
@[simp] theorem State.wrap_snaps (s : State) (f : Fld) (n : Nat) : (s.wrap f n).snaps = s.snaps := rfl
@[simp] theorem State.wrap_wdt (s : State) (f : Fld) (n : Nat) : (s.wrap f n).wdt = s.wdt := rfl
@[simp] theorem State.wrap_tmr (s : State) (f : Fld) (n : Nat) : (s.wrap f n).tmr = s.tmr := rfl
@[simp] theorem State.wrap_ctl (s : State) (f : Fld) (n : Nat) : (s.wrap f n).ctl = s.ctl := rfl
@[simp] theorem State.wrap_reads (s : State) (f : Fld) (n : Nat) : (s.wrap f n).reads = s.reads := rfl
@[simp] theorem State.wrap_tap (s : State) (f : Fld) (n : Nat) : (s.wrap f n).tap = s.tap := rfl
@[simp] theorem State.wrap_kept (s : State) (f : Fld) (n : Nat) : (s.wrap f n).kept = s.kept := rfl

@[simp] theorem State.stB_pending (s : State) (a : Nat) (b : Byte) : (s.stB a b).pending = s.pending := rfl
@[simp] theorem State.stB_freeCtr (s : State) (a : Nat) (b : Byte) : (s.stB a b).freeCtr = s.freeCtr := rfl
@[simp] theorem State.stB_regs (s : State) (a : Nat) (b : Byte) : (s.stB a b).regs = s.regs := rfl
@[simp] theorem State.stB_pins (s : State) (a : Nat) (b : Byte) : (s.stB a b).pins = s.pins := rfl
@[simp] theorem State.stB_boot (s : State) (a : Nat) (b : Byte) : (s.stB a b).boot = s.boot := rfl
@[simp] theorem State.stB_sealc (s : State) (a : Nat) (b : Byte) : (s.stB a b).sealc = s.sealc := rfl
@[simp] theorem State.stB_audit (s : State) (a : Nat) (b : Byte) : (s.stB a b).audit = s.audit := rfl
@[simp] theorem State.stB_ring (s : State) (a : Nat) (b : Byte) : (s.stB a b).ring = s.ring := rfl
@[simp] theorem State.stB_gw (s : State) (a : Nat) (b : Byte) : (s.stB a b).gw = s.gw := rfl
@[simp] theorem State.stB_keys (s : State) (a : Nat) (b : Byte) : (s.stB a b).keys = s.keys := rfl
@[simp] theorem State.stB_keysGen (s : State) (a : Nat) (b : Byte) : (s.stB a b).keysGen = s.keysGen := rfl
@[simp] theorem State.stB_sel (s : State) (a : Nat) (b : Byte) : (s.stB a b).sel = s.sel := rfl
@[simp] theorem State.stB_params (s : State) (a : Nat) (b : Byte) : (s.stB a b).params = s.params := rfl
@[simp] theorem State.stB_hflash (s : State) (a : Nat) (b : Byte) : (s.stB a b).hflash = s.hflash := rfl
@[simp] theorem State.stB_sflash (s : State) (a : Nat) (b : Byte) : (s.stB a b).sflash = s.sflash := rfl
@[simp] theorem State.stB_hic (s : State) (a : Nat) (b : Byte) : (s.stB a b).hic = s.hic := rfl
@[simp] theorem State.stB_sic (s : State) (a : Nat) (b : Byte) : (s.stB a b).sic = s.sic := rfl
@[simp] theorem State.stB_gpioH (s : State) (a : Nat) (b : Byte) : (s.stB a b).gpioH = s.gpioH := rfl
@[simp] theorem State.stB_gpioS (s : State) (a : Nat) (b : Byte) : (s.stB a b).gpioS = s.gpioS := rfl
@[simp] theorem State.stB_acq (s : State) (a : Nat) (b : Byte) : (s.stB a b).acq = s.acq := rfl
@[simp] theorem State.stB_echo (s : State) (a : Nat) (b : Byte) : (s.stB a b).echo = s.echo := rfl
@[simp] theorem State.stB_front (s : State) (a : Nat) (b : Byte) : (s.stB a b).front = s.front := rfl
@[simp] theorem State.stB_pulse (s : State) (a : Nat) (b : Byte) : (s.stB a b).pulse = s.pulse := rfl
@[simp] theorem State.stB_fabric (s : State) (a : Nat) (b : Byte) : (s.stB a b).fabric = s.fabric := rfl
@[simp] theorem State.stB_pairs (s : State) (a : Nat) (b : Byte) : (s.stB a b).pairs = s.pairs := rfl
@[simp] theorem State.stB_recs (s : State) (a : Nat) (b : Byte) : (s.stB a b).recs = s.recs := rfl
@[simp] theorem State.stB_time (s : State) (a : Nat) (b : Byte) : (s.stB a b).time = s.time := rfl
@[simp] theorem State.stB_spn (s : State) (a : Nat) (b : Byte) : (s.stB a b).spn = s.spn := rfl
@[simp] theorem State.stB_season (s : State) (a : Nat) (b : Byte) : (s.stB a b).season = s.season := rfl
@[simp] theorem State.stB_cal (s : State) (a : Nat) (b : Byte) : (s.stB a b).cal = s.cal := rfl
@[simp] theorem State.stB_flt (s : State) (a : Nat) (b : Byte) : (s.stB a b).flt = s.flt := rfl
@[simp] theorem State.stB_tw (s : State) (a : Nat) (b : Byte) : (s.stB a b).tw = s.tw := rfl
@[simp] theorem State.stB_twm (s : State) (a : Nat) (b : Byte) : (s.stB a b).twm = s.twm := rfl
@[simp] theorem State.stB_csp (s : State) (a : Nat) (b : Byte) : (s.stB a b).csp = s.csp := rfl
@[simp] theorem State.stB_cspx (s : State) (a : Nat) (b : Byte) : (s.stB a b).cspx = s.cspx := rfl
@[simp] theorem State.stB_mac (s : State) (a : Nat) (b : Byte) : (s.stB a b).mac = s.mac := rfl
@[simp] theorem State.stB_host (s : State) (a : Nat) (b : Byte) : (s.stB a b).host = s.host := rfl
@[simp] theorem State.stB_cores (s : State) (a : Nat) (b : Byte) : (s.stB a b).cores = s.cores := rfl
@[simp] theorem State.stB_hscHalted (s : State) (a : Nat) (b : Byte) : (s.stB a b).hscHalted = s.hscHalted := rfl
@[simp] theorem State.stB_snaps (s : State) (a : Nat) (b : Byte) : (s.stB a b).snaps = s.snaps := rfl
@[simp] theorem State.stB_wdt (s : State) (a : Nat) (b : Byte) : (s.stB a b).wdt = s.wdt := rfl
@[simp] theorem State.stB_tmr (s : State) (a : Nat) (b : Byte) : (s.stB a b).tmr = s.tmr := rfl
@[simp] theorem State.stB_ctl (s : State) (a : Nat) (b : Byte) : (s.stB a b).ctl = s.ctl := rfl
@[simp] theorem State.stB_reads (s : State) (a : Nat) (b : Byte) : (s.stB a b).reads = s.reads := rfl
@[simp] theorem State.stB_tap (s : State) (a : Nat) (b : Byte) : (s.stB a b).tap = s.tap := rfl
@[simp] theorem State.stB_kept (s : State) (a : Nat) (b : Byte) : (s.stB a b).kept = s.kept := rfl

@[simp] theorem State.wipe_pending (s : State) (a n : Nat) : (s.wipe a n).pending = s.pending := rfl
@[simp] theorem State.wipe_freeCtr (s : State) (a n : Nat) : (s.wipe a n).freeCtr = s.freeCtr := rfl
@[simp] theorem State.wipe_regs (s : State) (a n : Nat) : (s.wipe a n).regs = s.regs := rfl
@[simp] theorem State.wipe_pins (s : State) (a n : Nat) : (s.wipe a n).pins = s.pins := rfl
@[simp] theorem State.wipe_boot (s : State) (a n : Nat) : (s.wipe a n).boot = s.boot := rfl
@[simp] theorem State.wipe_sealc (s : State) (a n : Nat) : (s.wipe a n).sealc = s.sealc := rfl
@[simp] theorem State.wipe_audit (s : State) (a n : Nat) : (s.wipe a n).audit = s.audit := rfl
@[simp] theorem State.wipe_ring (s : State) (a n : Nat) : (s.wipe a n).ring = s.ring := rfl
@[simp] theorem State.wipe_gw (s : State) (a n : Nat) : (s.wipe a n).gw = s.gw := rfl
@[simp] theorem State.wipe_keys (s : State) (a n : Nat) : (s.wipe a n).keys = s.keys := rfl
@[simp] theorem State.wipe_keysGen (s : State) (a n : Nat) : (s.wipe a n).keysGen = s.keysGen := rfl
@[simp] theorem State.wipe_sel (s : State) (a n : Nat) : (s.wipe a n).sel = s.sel := rfl
@[simp] theorem State.wipe_params (s : State) (a n : Nat) : (s.wipe a n).params = s.params := rfl
@[simp] theorem State.wipe_hflash (s : State) (a n : Nat) : (s.wipe a n).hflash = s.hflash := rfl
@[simp] theorem State.wipe_sflash (s : State) (a n : Nat) : (s.wipe a n).sflash = s.sflash := rfl
@[simp] theorem State.wipe_hic (s : State) (a n : Nat) : (s.wipe a n).hic = s.hic := rfl
@[simp] theorem State.wipe_sic (s : State) (a n : Nat) : (s.wipe a n).sic = s.sic := rfl
@[simp] theorem State.wipe_gpioH (s : State) (a n : Nat) : (s.wipe a n).gpioH = s.gpioH := rfl
@[simp] theorem State.wipe_gpioS (s : State) (a n : Nat) : (s.wipe a n).gpioS = s.gpioS := rfl
@[simp] theorem State.wipe_acq (s : State) (a n : Nat) : (s.wipe a n).acq = s.acq := rfl
@[simp] theorem State.wipe_echo (s : State) (a n : Nat) : (s.wipe a n).echo = s.echo := rfl
@[simp] theorem State.wipe_front (s : State) (a n : Nat) : (s.wipe a n).front = s.front := rfl
@[simp] theorem State.wipe_pulse (s : State) (a n : Nat) : (s.wipe a n).pulse = s.pulse := rfl
@[simp] theorem State.wipe_fabric (s : State) (a n : Nat) : (s.wipe a n).fabric = s.fabric := rfl
@[simp] theorem State.wipe_pairs (s : State) (a n : Nat) : (s.wipe a n).pairs = s.pairs := rfl
@[simp] theorem State.wipe_recs (s : State) (a n : Nat) : (s.wipe a n).recs = s.recs := rfl
@[simp] theorem State.wipe_time (s : State) (a n : Nat) : (s.wipe a n).time = s.time := rfl
@[simp] theorem State.wipe_spn (s : State) (a n : Nat) : (s.wipe a n).spn = s.spn := rfl
@[simp] theorem State.wipe_season (s : State) (a n : Nat) : (s.wipe a n).season = s.season := rfl
@[simp] theorem State.wipe_cal (s : State) (a n : Nat) : (s.wipe a n).cal = s.cal := rfl
@[simp] theorem State.wipe_flt (s : State) (a n : Nat) : (s.wipe a n).flt = s.flt := rfl
@[simp] theorem State.wipe_tw (s : State) (a n : Nat) : (s.wipe a n).tw = s.tw := rfl
@[simp] theorem State.wipe_twm (s : State) (a n : Nat) : (s.wipe a n).twm = s.twm := rfl
@[simp] theorem State.wipe_csp (s : State) (a n : Nat) : (s.wipe a n).csp = s.csp := rfl
@[simp] theorem State.wipe_cspx (s : State) (a n : Nat) : (s.wipe a n).cspx = s.cspx := rfl
@[simp] theorem State.wipe_mac (s : State) (a n : Nat) : (s.wipe a n).mac = s.mac := rfl
@[simp] theorem State.wipe_host (s : State) (a n : Nat) : (s.wipe a n).host = s.host := rfl
@[simp] theorem State.wipe_cores (s : State) (a n : Nat) : (s.wipe a n).cores = s.cores := rfl
@[simp] theorem State.wipe_hscHalted (s : State) (a n : Nat) : (s.wipe a n).hscHalted = s.hscHalted := rfl
@[simp] theorem State.wipe_snaps (s : State) (a n : Nat) : (s.wipe a n).snaps = s.snaps := rfl
@[simp] theorem State.wipe_wdt (s : State) (a n : Nat) : (s.wipe a n).wdt = s.wdt := rfl
@[simp] theorem State.wipe_tmr (s : State) (a n : Nat) : (s.wipe a n).tmr = s.tmr := rfl
@[simp] theorem State.wipe_ctl (s : State) (a n : Nat) : (s.wipe a n).ctl = s.ctl := rfl
@[simp] theorem State.wipe_reads (s : State) (a n : Nat) : (s.wipe a n).reads = s.reads := rfl
@[simp] theorem State.wipe_tap (s : State) (a n : Nat) : (s.wipe a n).tap = s.tap := rfl
@[simp] theorem State.wipe_kept (s : State) (a n : Nat) : (s.wipe a n).kept = s.kept := rfl

@[simp] theorem State.setPair_pending (s : State) (p : Nat) (x : Pair) : (s.setPair p x).pending = s.pending := rfl
@[simp] theorem State.setPair_freeCtr (s : State) (p : Nat) (x : Pair) : (s.setPair p x).freeCtr = s.freeCtr := rfl
@[simp] theorem State.setPair_regs (s : State) (p : Nat) (x : Pair) : (s.setPair p x).regs = s.regs := rfl
@[simp] theorem State.setPair_mem (s : State) (p : Nat) (x : Pair) : (s.setPair p x).mem = s.mem := rfl
@[simp] theorem State.setPair_pins (s : State) (p : Nat) (x : Pair) : (s.setPair p x).pins = s.pins := rfl
@[simp] theorem State.setPair_boot (s : State) (p : Nat) (x : Pair) : (s.setPair p x).boot = s.boot := rfl
@[simp] theorem State.setPair_sealc (s : State) (p : Nat) (x : Pair) : (s.setPair p x).sealc = s.sealc := rfl
@[simp] theorem State.setPair_audit (s : State) (p : Nat) (x : Pair) : (s.setPair p x).audit = s.audit := rfl
@[simp] theorem State.setPair_ring (s : State) (p : Nat) (x : Pair) : (s.setPair p x).ring = s.ring := rfl
@[simp] theorem State.setPair_gw (s : State) (p : Nat) (x : Pair) : (s.setPair p x).gw = s.gw := rfl
@[simp] theorem State.setPair_keys (s : State) (p : Nat) (x : Pair) : (s.setPair p x).keys = s.keys := rfl
@[simp] theorem State.setPair_keysGen (s : State) (p : Nat) (x : Pair) : (s.setPair p x).keysGen = s.keysGen := rfl
@[simp] theorem State.setPair_sel (s : State) (p : Nat) (x : Pair) : (s.setPair p x).sel = s.sel := rfl
@[simp] theorem State.setPair_params (s : State) (p : Nat) (x : Pair) : (s.setPair p x).params = s.params := rfl
@[simp] theorem State.setPair_hflash (s : State) (p : Nat) (x : Pair) : (s.setPair p x).hflash = s.hflash := rfl
@[simp] theorem State.setPair_sflash (s : State) (p : Nat) (x : Pair) : (s.setPair p x).sflash = s.sflash := rfl
@[simp] theorem State.setPair_hic (s : State) (p : Nat) (x : Pair) : (s.setPair p x).hic = s.hic := rfl
@[simp] theorem State.setPair_sic (s : State) (p : Nat) (x : Pair) : (s.setPair p x).sic = s.sic := rfl
@[simp] theorem State.setPair_gpioH (s : State) (p : Nat) (x : Pair) : (s.setPair p x).gpioH = s.gpioH := rfl
@[simp] theorem State.setPair_gpioS (s : State) (p : Nat) (x : Pair) : (s.setPair p x).gpioS = s.gpioS := rfl
@[simp] theorem State.setPair_acq (s : State) (p : Nat) (x : Pair) : (s.setPair p x).acq = s.acq := rfl
@[simp] theorem State.setPair_echo (s : State) (p : Nat) (x : Pair) : (s.setPair p x).echo = s.echo := rfl
@[simp] theorem State.setPair_front (s : State) (p : Nat) (x : Pair) : (s.setPair p x).front = s.front := rfl
@[simp] theorem State.setPair_pulse (s : State) (p : Nat) (x : Pair) : (s.setPair p x).pulse = s.pulse := rfl
@[simp] theorem State.setPair_fabric (s : State) (p : Nat) (x : Pair) : (s.setPair p x).fabric = s.fabric := rfl
@[simp] theorem State.setPair_recs (s : State) (p : Nat) (x : Pair) : (s.setPair p x).recs = s.recs := rfl
@[simp] theorem State.setPair_time (s : State) (p : Nat) (x : Pair) : (s.setPair p x).time = s.time := rfl
@[simp] theorem State.setPair_spn (s : State) (p : Nat) (x : Pair) : (s.setPair p x).spn = s.spn := rfl
@[simp] theorem State.setPair_season (s : State) (p : Nat) (x : Pair) : (s.setPair p x).season = s.season := rfl
@[simp] theorem State.setPair_cal (s : State) (p : Nat) (x : Pair) : (s.setPair p x).cal = s.cal := rfl
@[simp] theorem State.setPair_flt (s : State) (p : Nat) (x : Pair) : (s.setPair p x).flt = s.flt := rfl
@[simp] theorem State.setPair_tw (s : State) (p : Nat) (x : Pair) : (s.setPair p x).tw = s.tw := rfl
@[simp] theorem State.setPair_twm (s : State) (p : Nat) (x : Pair) : (s.setPair p x).twm = s.twm := rfl
@[simp] theorem State.setPair_csp (s : State) (p : Nat) (x : Pair) : (s.setPair p x).csp = s.csp := rfl
@[simp] theorem State.setPair_cspx (s : State) (p : Nat) (x : Pair) : (s.setPair p x).cspx = s.cspx := rfl
@[simp] theorem State.setPair_mac (s : State) (p : Nat) (x : Pair) : (s.setPair p x).mac = s.mac := rfl
@[simp] theorem State.setPair_host (s : State) (p : Nat) (x : Pair) : (s.setPair p x).host = s.host := rfl
@[simp] theorem State.setPair_cores (s : State) (p : Nat) (x : Pair) : (s.setPair p x).cores = s.cores := rfl
@[simp] theorem State.setPair_hscHalted (s : State) (p : Nat) (x : Pair) : (s.setPair p x).hscHalted = s.hscHalted := rfl
@[simp] theorem State.setPair_snaps (s : State) (p : Nat) (x : Pair) : (s.setPair p x).snaps = s.snaps := rfl
@[simp] theorem State.setPair_wdt (s : State) (p : Nat) (x : Pair) : (s.setPair p x).wdt = s.wdt := rfl
@[simp] theorem State.setPair_tmr (s : State) (p : Nat) (x : Pair) : (s.setPair p x).tmr = s.tmr := rfl
@[simp] theorem State.setPair_ctl (s : State) (p : Nat) (x : Pair) : (s.setPair p x).ctl = s.ctl := rfl
@[simp] theorem State.setPair_reads (s : State) (p : Nat) (x : Pair) : (s.setPair p x).reads = s.reads := rfl
@[simp] theorem State.setPair_tap (s : State) (p : Nat) (x : Pair) : (s.setPair p x).tap = s.tap := rfl
@[simp] theorem State.setPair_kept (s : State) (p : Nat) (x : Pair) : (s.setPair p x).kept = s.kept := rfl

@[simp] theorem State.heal_pending (s : State) (a n : Nat) : (s.heal a n).pending = s.pending := rfl
@[simp] theorem State.heal_freeCtr (s : State) (a n : Nat) : (s.heal a n).freeCtr = s.freeCtr := rfl
@[simp] theorem State.heal_regs (s : State) (a n : Nat) : (s.heal a n).regs = s.regs := rfl
@[simp] theorem State.heal_mem (s : State) (a n : Nat) : (s.heal a n).mem = s.mem := rfl
@[simp] theorem State.heal_pins (s : State) (a n : Nat) : (s.heal a n).pins = s.pins := rfl
@[simp] theorem State.heal_boot (s : State) (a n : Nat) : (s.heal a n).boot = s.boot := rfl
@[simp] theorem State.heal_sealc (s : State) (a n : Nat) : (s.heal a n).sealc = s.sealc := rfl
@[simp] theorem State.heal_audit (s : State) (a n : Nat) : (s.heal a n).audit = s.audit := rfl
@[simp] theorem State.heal_ring (s : State) (a n : Nat) : (s.heal a n).ring = s.ring := rfl
@[simp] theorem State.heal_gw (s : State) (a n : Nat) : (s.heal a n).gw = s.gw := rfl
@[simp] theorem State.heal_keys (s : State) (a n : Nat) : (s.heal a n).keys = s.keys := rfl
@[simp] theorem State.heal_keysGen (s : State) (a n : Nat) : (s.heal a n).keysGen = s.keysGen := rfl
@[simp] theorem State.heal_sel (s : State) (a n : Nat) : (s.heal a n).sel = s.sel := rfl
@[simp] theorem State.heal_params (s : State) (a n : Nat) : (s.heal a n).params = s.params := rfl
@[simp] theorem State.heal_hflash (s : State) (a n : Nat) : (s.heal a n).hflash = s.hflash := rfl
@[simp] theorem State.heal_sflash (s : State) (a n : Nat) : (s.heal a n).sflash = s.sflash := rfl
@[simp] theorem State.heal_hic (s : State) (a n : Nat) : (s.heal a n).hic = s.hic := rfl
@[simp] theorem State.heal_sic (s : State) (a n : Nat) : (s.heal a n).sic = s.sic := rfl
@[simp] theorem State.heal_gpioH (s : State) (a n : Nat) : (s.heal a n).gpioH = s.gpioH := rfl
@[simp] theorem State.heal_gpioS (s : State) (a n : Nat) : (s.heal a n).gpioS = s.gpioS := rfl
@[simp] theorem State.heal_acq (s : State) (a n : Nat) : (s.heal a n).acq = s.acq := rfl
@[simp] theorem State.heal_echo (s : State) (a n : Nat) : (s.heal a n).echo = s.echo := rfl
@[simp] theorem State.heal_front (s : State) (a n : Nat) : (s.heal a n).front = s.front := rfl
@[simp] theorem State.heal_pulse (s : State) (a n : Nat) : (s.heal a n).pulse = s.pulse := rfl
@[simp] theorem State.heal_fabric (s : State) (a n : Nat) : (s.heal a n).fabric = s.fabric := rfl
@[simp] theorem State.heal_pairs (s : State) (a n : Nat) : (s.heal a n).pairs = s.pairs := rfl
@[simp] theorem State.heal_recs (s : State) (a n : Nat) : (s.heal a n).recs = s.recs := rfl
@[simp] theorem State.heal_time (s : State) (a n : Nat) : (s.heal a n).time = s.time := rfl
@[simp] theorem State.heal_spn (s : State) (a n : Nat) : (s.heal a n).spn = s.spn := rfl
@[simp] theorem State.heal_season (s : State) (a n : Nat) : (s.heal a n).season = s.season := rfl
@[simp] theorem State.heal_cal (s : State) (a n : Nat) : (s.heal a n).cal = s.cal := rfl
@[simp] theorem State.heal_tw (s : State) (a n : Nat) : (s.heal a n).tw = s.tw := rfl
@[simp] theorem State.heal_twm (s : State) (a n : Nat) : (s.heal a n).twm = s.twm := rfl
@[simp] theorem State.heal_csp (s : State) (a n : Nat) : (s.heal a n).csp = s.csp := rfl
@[simp] theorem State.heal_cspx (s : State) (a n : Nat) : (s.heal a n).cspx = s.cspx := rfl
@[simp] theorem State.heal_mac (s : State) (a n : Nat) : (s.heal a n).mac = s.mac := rfl
@[simp] theorem State.heal_host (s : State) (a n : Nat) : (s.heal a n).host = s.host := rfl
@[simp] theorem State.heal_cores (s : State) (a n : Nat) : (s.heal a n).cores = s.cores := rfl
@[simp] theorem State.heal_hscHalted (s : State) (a n : Nat) : (s.heal a n).hscHalted = s.hscHalted := rfl
@[simp] theorem State.heal_snaps (s : State) (a n : Nat) : (s.heal a n).snaps = s.snaps := rfl
@[simp] theorem State.heal_wdt (s : State) (a n : Nat) : (s.heal a n).wdt = s.wdt := rfl
@[simp] theorem State.heal_tmr (s : State) (a n : Nat) : (s.heal a n).tmr = s.tmr := rfl
@[simp] theorem State.heal_ctl (s : State) (a n : Nat) : (s.heal a n).ctl = s.ctl := rfl
@[simp] theorem State.heal_reads (s : State) (a n : Nat) : (s.heal a n).reads = s.reads := rfl
@[simp] theorem State.heal_tap (s : State) (a n : Nat) : (s.heal a n).tap = s.tap := rfl
@[simp] theorem State.heal_kept (s : State) (a n : Nat) : (s.heal a n).kept = s.kept := rfl

end Sys2Proof.Machine
end

