-- ==== Sys2Proof/Laws/Notify.lean ====
section
/-! SUPPORT. Which registers the notifications of the block may write: raising an interrupt, waking Sapwood, an entry of the outbound ring, an audit event, a fault. Every
other register keeps its word, which lets a result be read through what follows it. -/

namespace Sys2Proof.Machine

/-- Registers that any notification may write: those, and the ring's, the alert's, the audit trail's and the fault counters. -/
def noteRegs (a : Nat) : Bool :=
  icRegs a || a == 0x140000084 || a == 0x150000010 || a == 0x140012008 || a == 0x40010000 || a == 0x4001000c || a == 0x40000010

/-- Registers outside P keep their words. -/
def KeepsRegs (P : Nat → Bool) (s t : State) : Prop := ∀ a, P a = false → t.rw a = s.rw a

theorem KeepsRegs.refl {P : Nat → Bool} (s : State) : KeepsRegs P s s := fun _ _ => rfl

theorem KeepsRegs.trans {P : Nat → Bool} {s t u : State} (h1 : KeepsRegs P s t) (h2 : KeepsRegs P t u) : KeepsRegs P s u := fun a h => (h2 a h).trans (h1 a h)

theorem KeepsRegs.ite {P : Nat → Bool} {s t u : State} {c : Prop} [Decidable c] (h1 : KeepsRegs P s t) (h2 : KeepsRegs P s u) : KeepsRegs P s (if c then t else u) := by
  split <;> assumption

/-- A state with the same registers. -/
theorem KeepsRegs.of_regs {P : Nat → Bool} {s t u : State} (h : KeepsRegs P s t) (e : u.regs = t.regs) : KeepsRegs P s u := fun a ha => by
  rw [← h a ha, State.rw, State.rw, e]

theorem KeepsRegs.set {P : Nat → Bool} {s t : State} {f : Fld} {v : Nat} (h : KeepsRegs P s t) (hp : P f.addr = true) : KeepsRegs P s (t.set f v) := fun a ha => by
  rw [rw_set t f v (fun e => by rw [e, hp] at ha; cases ha), h a ha]

theorem KeepsRegs.get {P : Nat → Bool} {s t : State} (h : KeepsRegs P s t) {f : Fld} (hf : P f.addr = false) : t.get f = s.get f := by
  rw [State.get, State.get, h _ hf]

theorem KeepsRegs.on {P : Nat → Bool} {s t : State} (h : KeepsRegs P s t) {f : Fld} (hf : P f.addr = false) : t.on f = s.on f := by
  rw [State.on, State.on, h.get hf]

theorem KeepsRegs.mono {P Q : Nat → Bool} {s t : State} (h : KeepsRegs P s t) (hq : ∀ a, Q a = false → P a = false) : KeepsRegs Q s t := fun a ha => h a (hq a ha)

/-! Interrupts and wakes. -/

theorem icRegs_ic (c : Nat) {k : Nat} (h : k < 0x700) : icRegs (icBase c + k) = true := by
  unfold icRegs icBase
  split <;> simp <;> omega

@[simp] theorem regs_setIc (s : State) (c : Nat) (x : Ic) : (s.setIc c x).regs = s.regs := by
  unfold State.setIc
  split <;> rfl

theorem coreTakes_regs (s : State) (t : Nat) (fast normal : Bool) (h : t < 2) : KeepsRegs icRegs s (s.coreTakes t fast normal) := by
  have hb : icRegs (F.SC.BANKCTL.CUR t).addr = true := by
    simp [icRegs]
    omega
  unfold State.coreTakes
  split
  · split
    · dsimp only
      refine KeepsRegs.ite (KeepsRegs.set ?_ hb) ?_ <;> exact (KeepsRegs.refl s).of_regs rfl
    · exact KeepsRegs.refl s
  · exact KeepsRegs.refl s

theorem icLines_regs (s : State) (c t : Nat) (h : t < 2) : KeepsRegs icRegs s (s.icLines c t) := by
  have hn : ∀ (hi lo : Nat), icRegs (⟨icBase c + 0x60c + 0x40 * t, hi, lo⟩ : Fld).addr = true := fun hi lo => by
    have := icRegs_ic c (k := 0x60c + 0x40 * t) (by omega)
    simpa [Nat.add_assoc] using this
  unfold State.icLines
  dsimp only
  have h1 : ∀ x n, KeepsRegs icRegs s ((s.setIc c x).set (F.IC.TSTAT.NPEND c t) n) := fun x n => ((KeepsRegs.refl s).of_regs (regs_setIc s c x)).set (hn 8 0)
  refine KeepsRegs.ite (KeepsRegs.trans (KeepsRegs.ite ((h1 _ _).set (hn 16 16)) (h1 _ _)) (coreTakes_regs _ _ _ _ h)) (KeepsRegs.ite ((h1 _ _).set (hn 16 16)) (h1 _ _))

theorem icUpdate_regs (s : State) (c : Nat) : KeepsRegs icRegs s (s.icUpdate c) := by
  unfold State.icUpdate
  exact KeepsRegs.ite (icLines_regs _ _ _ (by decide)) ((icLines_regs _ _ _ (by decide)).trans (icLines_regs _ _ _ (by decide)))

theorem seasonUpdate_regs (s : State) : KeepsRegs icRegs s s.seasonUpdate := by
  unfold State.seasonUpdate
  exact ((KeepsRegs.refl s).set rfl).set rfl

theorem icPend1_regs (s : State) (c n : Nat) (h : n < 256) : KeepsRegs icRegs s (s.icPend1 c n) := by
  have hp : icRegs (pendF c n).addr = true := by
    have := icRegs_ic c (k := 0x400 + 4 * (n / 32)) (by omega)
    simpa [pendF, Nat.add_assoc] using this
  have hr : icRegs (F.IC.SRC_CFG.RR c n).addr = true := icRegs_ic c (by omega)
  unfold State.icPend1
  dsimp only
  refine KeepsRegs.trans ?_ (icUpdate_regs _ _)
  have h0 : KeepsRegs icRegs s (s.set (pendF c n) 1) := (KeepsRegs.refl s).set hp
  exact KeepsRegs.ite ((h0.of_regs (regs_setIc _ _ _)).set hr) (KeepsRegs.ite ((h0.of_regs (regs_setIc _ _ _)).set hr) (KeepsRegs.ite ((h0.of_regs (regs_setIc _ _ _)).set hr) h0))

theorem wakeNow_regs (s : State) (srcs : Nat) : KeepsRegs icRegs s (s.wakeNow srcs) := by
  have hs : ∀ (u : State) x y, KeepsRegs icRegs u { u with season := x, tmr := y } := fun _ _ _ _ _ => rfl
  have h5 : ∀ (u : State), KeepsRegs icRegs u (if u.on (stormF 1 5) || u.on (pendF 1 5) then u else u.icPend1 1 5) := fun u => KeepsRegs.ite (KeepsRegs.refl u) (icPend1_regs _ _ _ (by decide))
  have h0 : ∀ (u : State), KeepsRegs icRegs u (u.set F.SEASON.STATE.LAST (u.get F.SEASON.STATE.SEASON)) := fun u => (KeepsRegs.refl u).set rfl
  have h1 : ∀ (u : State), KeepsRegs icRegs u ((((u.set F.SEASON.WAKESRC.SRC srcs).sat F.SEASON.COUNT.WAKES 1).set (F.IC.TSTAT.WFI 1 0) 0).set (F.IC.TSTAT.WFI 1 1) 0).seasonUpdate := fun u => by
    unfold State.sat
    exact ((((((KeepsRegs.refl u).set rfl).set rfl).set rfl).set rfl)).trans (seasonUpdate_regs _)
  unfold State.wakeNow
  split
  · exact (h0 s).trans ((hs _ _ _).trans ((h1 _).trans (h5 _)))
  · exact KeepsRegs.refl s

theorem wakeSapwood_regs (s : State) (bit : Nat) : KeepsRegs icRegs s (s.wakeSapwood bit) := by
  unfold State.wakeSapwood
  exact KeepsRegs.ite (KeepsRegs.refl s) (KeepsRegs.ite (wakeNow_regs _ _) (fun _ _ => rfl))

theorem icPend_regs (s : State) (c n : Nat) (h : n < 256) : KeepsRegs icRegs s (s.icPend c n) := by
  unfold State.icPend
  exact KeepsRegs.ite ((icPend1_regs _ _ _ h).trans (wakeSapwood_regs _ _)) (icPend1_regs _ _ _ h)

theorem icListed_lt {c n : Nat} (h : icListed c n = true) : n < 256 := by
  unfold icListed at h
  split at h <;> simp at h <;> omega

theorem icEdge_regs (s : State) (c n : Nat) : KeepsRegs icRegs s (s.icEdge c n) := by
  unfold State.icEdge
  split
  · exact KeepsRegs.refl s
  · rename_i h
    simp only [Bool.not_eq_true, Bool.or_eq_false_iff, Bool.not_eq_false'] at h
    exact icPend_regs _ _ _ (icListed_lt h.1.1.1)

theorem icHigh_regs (s : State) (c n : Nat) : KeepsRegs icRegs s (s.icHigh c n) := by
  unfold State.icHigh
  split
  · exact KeepsRegs.refl s
  · rename_i h
    simp only [Bool.not_eq_true, Bool.or_eq_false_iff, Bool.not_eq_false'] at h
    exact icPend_regs _ _ _ (icListed_lt h.1.1.1.1)

theorem icSample_regs (s : State) (c n : Nat) : KeepsRegs icRegs s (s.icSample c n) := by
  unfold State.icSample
  exact KeepsRegs.ite (icHigh_regs _ _ _) (KeepsRegs.refl s)

/-- A status bit raised reads 1. -/
theorem get_raise (s : State) (f : Fld) (c n : Nat) (h : icRegs f.addr = false) (hf : f.hi < 32) (hl : f.lo = f.hi) : (s.raise f c n).get f = 1 := by
  rw [State.raise, (icSample_regs _ c n).get h, get_set s f 1 hf, hl, show f.hi + 1 - f.hi = 1 by omega]
  all_goals rfl

/-- Raising a status bit leaves the other registers but those of the interrupt. -/
theorem raise_rw (s : State) (f : Fld) (c n : Nat) {a : Nat} (h : icRegs a = false) (hf : a ≠ f.addr) : (s.raise f c n).rw a = s.rw a := by
  rw [State.raise, icSample_regs _ c n a h, rw_set s f 1 hf]

/-! The ring, the audit trail and faults. -/

theorem noteRegs_ic {a : Nat} (h : noteRegs a = false) : icRegs a = false := by
  simp only [noteRegs, Bool.or_eq_false_iff] at h
  exact h.1.1.1.1.1.1

theorem KeepsRegs.note {s t : State} (h : KeepsRegs icRegs s t) : KeepsRegs noteRegs s t := h.mono fun _ => noteRegs_ic

theorem alertFollow_regs (s : State) (old : Bool) : KeepsRegs noteRegs s (s.alertFollow old) := by
  unfold State.alertFollow State.setB
  exact KeepsRegs.ite ((KeepsRegs.refl s).set rfl) (KeepsRegs.refl s)

theorem alertPend_regs (s : State) (bit : Nat) (b : Bool) : KeepsRegs noteRegs s (s.alertPend bit b) := by
  unfold State.alertPend State.setB
  exact ((KeepsRegs.refl s).set rfl).trans (alertFollow_regs _ _)

theorem ringEnter_regs (s : State) (x : RingEntry) : KeepsRegs noteRegs s (s.ringEnter x) := by
  unfold State.ringEnter State.sat
  dsimp only
  have h0 : KeepsRegs noteRegs s (if decide (2048 ≤ s.ring.entries.length) = true then s.set F.GW.RING_STATUS.OVERRUN (min F.GW.RING_STATUS.OVERRUN.max (s.get F.GW.RING_STATUS.OVERRUN + 1)) else s) :=
    KeepsRegs.ite ((KeepsRegs.refl s).set rfl) (KeepsRegs.refl s)
  have h1 := fun (u : State) (n : Nat) (h : KeepsRegs noteRegs s u) => (h.set (f := F.GW.RING_STATUS.COUNT) (v := n) rfl).trans (icSample_regs _ 1 2).note
  have h2 := fun (u : State) (h : KeepsRegs noteRegs s u) => h.trans (alertPend_regs u 0 true)
  have h3 := fun (u : State) (h : KeepsRegs noteRegs s u) => h.trans (icEdge_regs u 1 3).note
  have h4 := fun (u : State) (h : KeepsRegs noteRegs s u) => h.trans (wakeSapwood_regs u 9).note
  refine KeepsRegs.ite (KeepsRegs.ite (h4 _ (h3 _ ?_)) (h3 _ ?_)) ?_ <;>
    exact KeepsRegs.ite (h2 _ (h1 _ _ (h0.of_regs rfl))) (h1 _ _ (h0.of_regs rfl))

theorem ringPut_regs (s : State) (kind stream src cycle : Nat) (payload : List Byte) : KeepsRegs noteRegs s (s.ringPut kind stream src cycle payload) := by
  unfold State.ringPut
  exact KeepsRegs.ite (ringEnter_regs _ _) ((KeepsRegs.refl s).of_regs rfl)

theorem auditRelevel_regs (s : State) : KeepsRegs noteRegs s s.auditRelevel := by
  have h0 : ∀ (u : State) v, KeepsRegs noteRegs u (u.set F.SEAL.STATUS.LEVEL v) := fun u v => (KeepsRegs.refl u).set rfl
  have h1 : ∀ (u : State) x, KeepsRegs noteRegs u ({ u with audit := x }) := fun _ _ _ _ => rfl
  have h2 : ∀ (u : State), KeepsRegs noteRegs u (u.icEdge 0 4) := fun u => (icEdge_regs u 0 4).note
  unfold State.auditRelevel
  dsimp only
  split
  · exact KeepsRegs.refl s
  · have h := (h0 s (auditLevelOf s.auditCount)).trans ((h1 _ { (s.set F.SEAL.STATUS.LEVEL (auditLevelOf s.auditCount)).audit with ctlPending := true }).trans (h2 _))
    split
    · exact h.trans (ringPut_regs _ _ _ _ _ _)
    · exact h

theorem auditLost_regs (s : State) : KeepsRegs noteRegs s s.auditLost := by
  unfold State.auditLost State.sat
  exact ((KeepsRegs.refl s).set rfl).of_regs rfl

theorem auditPut_regs (s : State) (kind stream : Nat) (data : List Byte) : KeepsRegs noteRegs s (s.auditPut kind stream data) := by
  unfold State.auditPut
  exact KeepsRegs.ite (((KeepsRegs.refl s).of_regs rfl).trans (auditRelevel_regs _)) (auditLost_regs s)

theorem faultKey_regs (s : State) (code region stream key : Nat) (detail : List Byte) : KeepsRegs noteRegs s (s.faultKey code region stream key detail) := by
  have h0 : ∀ (u : State) v, KeepsRegs noteRegs u (u.set F.FLT.COUNT.FAULTS v) := fun u v => (KeepsRegs.refl u).set rfl
  have h1 : ∀ (u : State) v, KeepsRegs noteRegs u (u.set F.FLT.COUNT.UNLOGGED v) := fun u v => (KeepsRegs.refl u).set rfl
  have h2 : ∀ (u : State) x, KeepsRegs noteRegs u ({ u with flt := x }) := fun _ _ _ _ => rfl
  unfold State.faultKey State.sat
  dsimp only
  split
  · exact (h0 _ _).trans (auditPut_regs _ _ _ _)
  · split
    · exact (h0 _ _).trans (h1 _ _)
    · exact (h0 _ _).trans ((h2 _ _).trans (auditPut_regs _ _ _ _))

theorem fault_regs (s : State) (code region stream : Nat) (detail : List Byte) : KeepsRegs noteRegs s (s.fault code region stream detail) := faultKey_regs _ _ _ _ _ _

end Sys2Proof.Machine
end

