-- ==== Sys2Proof/Laws/Pairs.lean ====
section
/-! SUPPORT. Laws of the tally pairs: reading a pair that was replaced, and what an instruction that completes comes to. -/

namespace Sys2Proof.Machine

theorem alSet_twice {α : Type} (m : List (Nat × α)) (k : Nat) (u v : α) : alSet (alSet m k u) k v = alSet m k v := by
  induction m with
  | nil => simp [alSet]
  | cons e m ih =>
    obtain ⟨k', w⟩ := e
    by_cases h1 : k < k'
    · simp [alSet, h1]
    · by_cases h2 : k = k'
      · simp [alSet, h2]
      · simp [alSet, h1, h2, ih]

@[simp] theorem pair_setPair_same (s : State) (p : Nat) (x : Pair) : (s.setPair p x).pair p = x := by
  simp [State.pair, State.setPair]

theorem pair_setPair_ne (s : State) {p n : Nat} (x : Pair) (h : n ≠ p) : (s.setPair p x).pair n = s.pair n := by
  simp [State.pair, State.setPair, alGet, alFind_alSet, h]

@[simp] theorem setPair_setPair (s : State) (p : Nat) (x y : Pair) : (s.setPair p x).setPair p y = s.setPair p y := by
  simp [State.setPair, alSet_twice]

/-- An instruction whose effect completes goes on with the pair it answers. -/
theorem instr_ok {s : State} {p k n : Nat} {f : Nat → State → Tr Pair} {x : Pair} {t : State} (h : s.Runs p k) (hf : f k s = .ok x t) : s.instr p n f = t.goesOn p x n := by
  obtain ⟨h1, h2⟩ := h
  simp [State.instr, State.instrAt, h1, h2, hf, Tr.bind, State.goesOn]

theorem intOp_ok {s : State} {p k rd : Nat} {f : Pair → Word} (h : s.Runs p k) : s.intOp p rd f = s.goesOn p ((s.pair p).setI rd (f (s.pair p))) 1 :=
  instr_ok h rfl

theorem mqOp_ok {s : State} {p k md n : Nat} {f : Pair → Option Mq} {a : Mq} (h : s.Runs p k) (hf : f (s.pair p) = some a) : s.mqOp p md n f = s.goesOn p ((s.pair p).setMq md a) n :=
  instr_ok h (by simp [hf])

end Sys2Proof.Machine
end

