-- ==== Sys2Proof/Tests/Slice0.lean ====
section
/-! SUPPORT. Tests: the checks on operands, worked examples of the spec, and for every obligation with hypotheses a concrete state and operands that meet them (`wit_<name>`). -/

section Tests

set_option Elab.async false

open Sys2Proof Sys2Proof.Machine

/-! The states that the tests use. -/

/-- The cells of bytes from an address on. -/
def tCells (a : Nat) (bs : List Byte) : List Host.Cell := (bs.zipIdx.map fun e => (a + e.2, e.1)).filter fun c => decide (c.2 ≠ memDefault c.1)

/-- A small Grain image in slot A: its sections as TYPE, INSTANCE, OFFSET and bytes, the offsets rising. -/
def tLay (sects : List (Nat × Nat × Nat × List Byte)) : List Host.Cell :=
  tCells 0x08400010 (leBytes 2 sects.length) ++
    tCells 0x08400040 (sects.map fun x => leBytes 2 x.1 ++ leBytes 2 x.2.1 ++ leBytes 4 x.2.2.1 ++ leBytes 4 x.2.2.2.length ++ leBytes 4 0).flatten ++
    (sects.map fun x => tCells (0x08400000 + x.2.2.1) x.2.2.2).flatten

/-- CHIP: a cycle of 1 ms, an interval of 1 s, a bank of 0.1 F, Vmin 3 V, divider 10, shunt 10 mOhm, 1 W permitted, HFXO 24 MHz, limit 105 degrees. -/
def tChip : Nat × Nat × Nat × List Byte :=
  (1, 0, 0x100, leBytes 4 1000 ++ leBytes 4 1 ++ leBytes 4 100000 ++ leBytes 4 3000 ++ leBytes 4 0xA0000 ++ leBytes 4 10000 ++ leBytes 4 1000000 ++ leBytes 4 24000000 ++ leBytes 8 0 ++
    leBytes 4 1000000 ++ leBytes 2 1050 ++ leBytes 2 1)

/-- REGION 0: 4 KB kept for replay, 4 KB for checkpoints, T0 in use by stream 0 in unit 1; `flags` is its byte 1. -/
def tRegionOf (flags : Nat) : Nat × Nat × Nat × List Byte := (2, 0, 0x140, leBytes 4 (256 * flags) ++ leBytes 4 0x1000 ++ leBytes 4 0x1000 ++ leBytes 20 0 ++ leBytes 4 0x801)

def tRegion : Nat × Nat × Nat × List Byte := tRegionOf 0

/-- STREAM 0: ultrasonic, water, region 0, task 0, pulse inputs 0 and 1, one path, echo engine 0; `avg` is its average mask. -/
def tStreamOf (avg : Nat) : Nat × Nat × Nat × List Byte :=
  (4, 0, 0x180, [0, 1, 1, 0, 0, 0xFF, 0, 0xFF] ++ leBytes 6 0xFFFFFFFFFFFF ++ [0, 1, 1, 0] ++ leBytes 2 0 ++ leBytes 8 1 ++ leBytes 4 avg ++ [1, 0] ++ leBytes 2 0 ++ leBytes 2 0 ++ leBytes 2 1 ++
    leBytes 4 1000 ++ leBytes 20 0 ++ leBytes 8 0)

def tStream : Nat × Nat × Nat × List Byte := tStreamOf 0

/-- TALLY 0: one entry that starts at 0. -/
def tTally : Nat × Nat × Nat × List Byte := (8, 0, 0x200, leBytes 4 0x100 ++ leBytes 4 1 ++ leBytes 24 1 ++ leBytes 4 0 ++ leBytes 4 10000)

/-- TASKS: task 0, class L1, region 0, entry 0, every cycle, deadline 500 us, WCET 10 us, 1000 nJ, stream 0. -/
def tTasks : Nat × Nat × Nat × List Byte :=
  (9, 0, 0x240, leBytes 2 1 ++ leBytes 14 0 ++ ([0, 1, 0, 0] ++ leBytes 4 1 ++ leBytes 4 0 ++ leBytes 4 500000 ++ leBytes 4 10000 ++ leBytes 4 1000 ++ leBytes 8 0 ++ [0, 1, 1, 0, 0] ++ leBytes 11 0))

/-- Heartwood has started: the clock is locked, the start is at its end, the fast time base runs in both halves. -/
def tUp : State :=
  let s := ((State.reset.set F.CLK.STATUS.SYS_LOCK 1).set F.FLT.BOOT_STATUS.STEP 7).set F.FLT.BOOT_STATUS.READY 1
  { s with boot := { s.boot with cls := 0 }, time := { s.time with fast := true, sys := true } }

/-- The same with the small image in slot A. -/
def tImg : State := { tUp.set F.FLT.BOOT_STATUS.SLOT 1 with mem := tLay [tChip, tRegion, tStream, tTally, tTasks] }

/-- Pair 0 runs task 0 with 1.0 in M0 and M1, unit 0. -/
def tPair : Pair := { Pair.fresh with task := some 0, cycle := 2, m := [(0, ({ v := 2 ^ 40, u := 0, unit := 0, fl := 0, q := 0 } : Mq).word), (1, ({ v := 2 ^ 40, u := 0, unit := 0, fl := 0, q := 0 } : Mq).word)] }
def tRun : State := tImg.setPair 0 tPair

/-- The word of an instruction stands at the start of pair 0's program memory. -/
def tAt (c : Instr) (s : State) : State := { s with mem := tCells (progAddr 0 0) (leBytes 4 ((progEncode c).getD 0)) ++ s.mem }

/-- Pair 0 runs task 0 at each of these instructions. -/
def tEach (s : State) (cs : List Instr) : Bool := cs.all fun c => (tAt c s).atPc 0 c

/-- A computation of the tally engines completes. -/
def tOk {α : Type} : Tr α → Bool
  | .ok .. => true
  | _ => false

theorem tOk_ok {α : Type} (x : Tr α) (h : tOk x = true) : ∃ a t, x = .ok a t := by cases x with | ok a t => exact ⟨a, t, rfl⟩ | trap => cases h | ecc => cases h

/-! Well-formedness: a command with one operand out of its range is refused, and each of these commands is accepted with the operand in range. -/

theorem test_ill_formed_1 : (
  [.heartwoodRailLoss 4, .supplyGood 7, .classHReset 2 0 0, .startUpSequence 0 13 0, .bankCapacitanceCheck (List.replicate 7 (0, 0)), .bankCapacitanceCheck [(4096, 0)],
   .bankCapacitanceCheck [(0, -2049)], .bankCapacitanceCheck [(0, 2048)], .slWrite 0x400A00C0 0, .slWrite 0x400A0160 0, .slWrite 0x400B0080 0, .slWrite 0x400A0002 0,
   .triggerMatch 32, .comparatorWrite 32 0 0, .comparatorWrite 0 6 0, .firing 32, .crosspointConnect 16, .captureWindowClose 16 [] [] [], .echoJob 4, .echoWatchdog 4,
   .modulatorWarmEnd 48, .pulseEdge 32 0, .pulseBlockWrite 32, .pulseStuckTimeout 32, .pinRunloRead 32, .chainSampleWrite 96 [] [] [] 0, .coefLoad 32 0 false, .coefLoad 0 2 false,
   .jobAdmission 256, .taskDispatch 256, .jobAbandon 256, .regionWatchdogExpiry 8, .add 8 0 0 0, .add 0 6 0 0, .add 0 0 8 0, .add 0 0 0 8, .sub 8 0 0 0, .sub 0 6 0 0,
   .sub 0 0 8 0, .sub 0 0 0 8, .and 8 0 0 0, .and 0 6 0 0, .and 0 0 8 0, .and 0 0 0 8, .or 8 0 0 0, .or 0 6 0 0, .or 0 0 8 0, .or 0 0 0 8, .xor 8 0 0 0, .xor 0 6 0 0,
   .xor 0 0 8 0, .xor 0 0 0 8, .sll 8 0 0 0, .sll 0 6 0 0, .sll 0 0 8 0, .sll 0 0 0 8, .srl 8 0 0 0, .srl 0 6 0 0, .srl 0 0 8 0, .srl 0 0 0 8] : List Instr).all (fun c => !c.wf) = true := by decide

theorem test_ill_formed_2 : (
  [.sra 8 0 0 0, .sra 0 6 0 0, .sra 0 0 8 0, .sra 0 0 0 8, .mul 8 0 0 0, .mul 0 6 0 0, .mul 0 0 8 0, .mul 0 0 0 8, .addi 8 0 0 0, .addi 0 6 0 0, .addi 0 0 8 0, .andi 8 0 0 0,
   .andi 0 6 0 0, .andi 0 0 8 0, .ori 8 0 0 0, .ori 0 6 0 0, .ori 0 0 8 0, .lui 8 0 0, .lui 0 6 0, .li 8 0 0, .li 0 6 0, .addC 8 0 0 0, .addC 0 32 0 0, .addC 0 0 32 0,
   .addC 0 0 0 32, .addU 8 0 0 0, .addU 0 32 0 0, .addU 0 0 32 0, .addU 0 0 0 32, .subC 8 0 0 0, .subC 0 32 0 0, .subC 0 0 32 0, .subC 0 0 0 32, .subU 8 0 0 0, .subU 0 32 0 0,
   .subU 0 0 32 0, .subU 0 0 0 32, .mulC 8 0 0 0 0, .mulC 0 32 0 0 0, .mulC 0 0 32 0 0, .mulC 0 0 0 32 0, .mulC 0 0 0 0 64, .mulU 8 0 0 0 0, .mulU 0 32 0 0 0, .mulU 0 0 32 0 0,
   .mulU 0 0 0 32 0, .mulU 0 0 0 0 64, .divC 8 0 0 0 0, .divC 0 32 0 0 0, .divC 0 0 32 0 0, .divC 0 0 0 32 0, .divC 0 0 0 0 64, .divU 8 0 0 0 0, .divU 0 32 0 0 0,
   .divU 0 0 32 0 0, .divU 0 0 0 32 0, .divU 0 0 0 0 64, .sqrt 8 0 0 0, .sqrt 0 32 0 0, .sqrt 0 0 32 0] : List Instr).all (fun c => !c.wf) = true := by decide

theorem test_ill_formed_3 : (
  [.sqrt 0 0 0 64, .neg 8 0 0, .neg 0 32 0, .neg 0 0 32, .abs 8 0 0, .abs 0 32 0, .abs 0 0 32, .min 8 0 0 0, .min 0 32 0 0, .min 0 0 32 0, .min 0 0 0 32, .max 8 0 0 0,
   .max 0 32 0 0, .max 0 0 32 0, .max 0 0 0 32, .mov 8 0 0, .mov 0 32 0, .mov 0 0 32, .uwid 8 0 0 0, .uwid 0 32 0 0, .uwid 0 0 32 0, .uwid 0 0 0 32, .scli 8 0 0 0 0,
   .scli 0 32 0 0 0, .scli 0 0 32 0 0, .scli 0 0 0 8 0, .scli 0 0 0 0 41, .cvu 8 0 0 0, .cvu 0 32 0 0, .cvu 0 0 32 0, .cvu 0 0 0 64, .cvt 8 0 0 0 0, .cvt 0 32 0 0 0,
   .cvt 0 0 8 0 0, .cvt 0 0 0 64 0, .cvt 0 0 0 0 41, .cvi 8 0 0 0, .cvi 0 6 0 0, .cvi 0 0 32 0, .cvi 0 0 0 41, .setf 8 0 0 0 0, .setf 0 32 0 0 0, .setf 0 0 32 0 0,
   .setf 0 0 0 64 0, .setf 0 0 0 0 16, .ldp 8 0 0 0, .ldp 0 32 0 0, .ldp 0 0 256 0, .ldp 0 0 0 64, .prop 8 0 0 1 false, .prop 0 32 0 1 false, .prop 0 0 0 0 false,
   .prop 0 0 0 12 false, .prop 0 0 31 1 false, .prop 0 0 32 5 false, .prop 0 0 30 9 false, .ld 8 0 false 0 0, .ld 0 32 false 0 0, .ld 0 0 false 8 0, .ld 0 0 false 0 65536] : List Instr).all (fun c => !c.wf) = true := by decide

theorem test_ill_formed_4 : (
  [.st 8 0 false 0 0, .st 0 32 false 0 0, .st 0 0 false 8 0, .st 0 0 false 0 65536, .ldl 8 0 false 0 0 0, .ldl 0 6 false 0 0 0, .ldl 0 0 false 8 0 0, .ldl 0 0 false 0 65536 0,
   .ldl 0 0 false 0 0 4, .tacc 8 0 0 false, .tacc 0 64 0 false, .tacc 0 0 32 false, .trdc 8 0 0, .trdc 0 32 0, .trdc 0 0 64, .br 8 0 0 0 0, .br 0 14 0 0 0, .br 0 0 1 0 0,
   .br 0 1 8 0 0, .br 0 7 0 32 0, .br 0 10 0 6 0, .br 0 11 0 16 0, .br 0 12 0 1 0, .br 0 0 0 0 4096, .loop 8 0 0 1, .loop 0 6 0 1, .loop 0 0 2048 1, .loop 0 0 0 0,
   .loop 0 0 0 4096, .inChain 8, .inPath 8, .inPulse 8, .orifice 8, .venturi 8, .upath 8, .kfactor 8, .freq 8, .normvol 8 0, .density 8 0, .tend 8 false, .emitv 8 0, .emitv 0 32,
   .emitt 8 0, .emitt 0 64, .emite 8 0 0, .emite 0 32 0, .emite 0 0 4096, .emiti 8 0 0 0, .emiti 0 8 0 0, .emiti 0 0 8 0, .emiti 0 0 0 4096, .recordSnapshot 8,
   .gaugeSample 4096 0, .gaugeSample 0 (-2049), .gaugeSample 0 2048, .temperatureSample (List.replicate 11 0), .frostEntry ⟨0, [], 0⟩ 3 0 0, .thawWinter 12 ⟨0, [], 0⟩ false,
   .thawFrost 12 ⟨0, [], 0⟩ false false, .pllUnlock 3 false] : List Instr).all (fun c => !c.wf) = true := by decide

theorem test_ill_formed_5 : (
  [.calibrationDue 0 0, .calibrationDue 7 0, .calibrationDue 1 48, .interconnectFault 10 0, .hscWatchdogExpiry 0 0 0, .hscWatchdogExpiry 4 0 0, .scrub 3 0x13000004 0,
   .scrub 3 0x13080000 0, .scrub 1 0x10180000 0, .scrub 2 0x12200000 0, .scrub 5 65536 0, .scrub 6 131072 0, .scrub 4 0 0, .scrub 3 0x13000000 3, .regParity 0x40180080 5,
   .regParity 0x40180100 0, .regParity 0x40090100 16, .regParity 0x400A0000 3, .regParity 0x400A0100 3, .regParity 0x400B0000 28, .regParity 0x400C0100 1, .regParity 0x40040100 3,
   .regParity 0x400F0300 32, .flashRead 2 0 0 0 0 [] [] false, .flashRead 1 2 0 0 0 [] [] false, .flashRead 0 1 0 0 0 [] [] false, .flashProgram 2 0 0 0 0 none none false,
   .flashProgram 1 2 0 0 0 none none false, .flashProgram 0 1 0 0 0 none none false, .flashErase 2 0 false, .eraseEnd 2 false, .flashStatus 2 false, .suspend 2 false,
   .resume 2 false, .unlock 2 0 0 0 false, .unlock 1 2 0 0 false, .unlock 0 1 0 0 false, .lock 2 0 false, .setpw 2 0 0 0 0 false, .setpw 1 2 0 0 0 false, .setpw 0 1 0 0 0 false,
   .zonecfg 2 0 0 false, .ecnt 2 0 false, .margin 2 0 0 0 0 false, .interruptSourceEvent 2 0 false, .interruptSourceEvent 0 256 false, .claim 2 0, .claim 1 2, .claim 0 1,
   .complete 2 0 0, .complete 1 2 0, .complete 0 1 0, .moderationTimeout 2 0, .moderationTimeout 1 2, .moderationTimeout 0 1, .stormClear 2 0 0, .stormClear 0 8 0,
   .stormWindowEnd 2 0, .stormWindowEnd 0 256, .compareMatch 4 0] : List Instr).all (fun c => !c.wf) = true := by decide

theorem test_ill_formed_6 : (
  [.compareMatch 0 8, .periodEnd 4 0, .periodEnd 0 8, .tmrStart 4 0, .tmrStop 4 0, .twGo 8 0, .twTransferEnd 8 none [], .arbLost 8 0 0 [], .arbitrationRetry 8, .stretchTimeout 8,
   .sclLowTimeout 8, .sdaLowTimeout 8, .twBusErr 8 0 [], .twAbort 8 [], .recover 8 false, .twTxdata 8 0, .twRxdata 8, .alertResponseRead 8 none false, .cspGo 4, .cspGo 6,
   .cspFrameEnd 4 [] false, .cspFrameEnd 6 [] false, .cspTxdata 4 [] 0, .cspTxdata 6 [] 0, .cspRxdata 4 [], .cspRxdata 6 [], .cspAbort 4 [], .cspAbort 6 [], .modeFault 1 [],
   .targetSelectionEnd 4 [], .xipFetch 0 0x2FFFFFFF [] false, .xipFetch 0 0x40000000 [] false, .ethTransmitFrame 3 0, .ethReceiveFrame 3 0 [] false, .ethReceiveDeliver 3,
   .txctlPoll 3 0, .rxctlPoll 3 0, .linkChange 3 false 0, .tsqRead 3, .tsqPop 3, .debugAccess 2 0 0 false 0 0 0, .debugAccess 0 4 0 false 0 0 0, .debugAccess 0 3 5 false 0 0 0,
   .debugAccess 0 0 1 false 0 0 0, .debugAccess 1 0 2 false 0 0 0, .busAccessError 3 1 0 false 0 0, .busAccessError 2 1 1 false 0 0, .busAccessError 0 0 0 false 0 0,
   .busAccessError 0 7 0 false 0 0, .busAccessError 0 1 10 false 0 0, .busAccessError 1 1 8 false 0 0, .registerWrite 3 0 0 0 0, .registerWrite 2 1 0 0 0,
   .registerWrite 0 10 0 0 0, .registerWrite 1 8 0 0 0, .doorbell 3 0 0, .pulsePhaseRemoved 32 0 0, .pulseUncountedEdge 32 0, .w0SnapshotRead 10 0, .mret 2] : List Instr).all (fun c => !c.wf) = true := by decide

theorem test_well_formed_1 : (
  [.heartwoodRailLoss 0, .supplyGood 0, .classHReset 0 0 0, .startUpSequence 0 0 0, .bankCapacitanceCheck [], .slWrite 0x400A0000 0, .triggerMatch 0, .comparatorWrite 0 0 0,
   .firing 0, .crosspointConnect 0, .captureWindowClose 0 [] [] [], .echoJob 0, .echoWatchdog 0, .modulatorWarmEnd 0, .pulseEdge 0 0, .pulseBlockWrite 0, .pulseStuckTimeout 0,
   .pinRunloRead 0, .chainSampleWrite 0 [] [] [] 0, .coefLoad 0 0 false, .jobAdmission 0, .taskDispatch 0, .jobAbandon 0, .regionWatchdogExpiry 0, .add 0 0 0 0, .sub 0 0 0 0,
   .and 0 0 0 0, .or 0 0 0 0, .xor 0 0 0 0, .sll 0 0 0 0, .srl 0 0 0 0, .sra 0 0 0 0, .mul 0 0 0 0, .addi 0 0 0 0, .andi 0 0 0 0, .ori 0 0 0 0, .lui 0 0 0, .li 0 0 0,
   .addC 0 0 0 0, .addU 0 0 0 0, .subC 0 0 0 0, .subU 0 0 0 0, .mulC 0 0 0 0 0, .mulU 0 0 0 0 0, .divC 0 0 0 0 0, .divU 0 0 0 0 0, .sqrt 0 0 0 0, .neg 0 0 0, .abs 0 0 0,
   .min 0 0 0 0, .max 0 0 0 0, .mov 0 0 0, .uwid 0 0 0 0, .scli 0 0 0 0 0, .cvu 0 0 0 0, .cvt 0 0 0 0 0, .cvi 0 0 0 0, .setf 0 0 0 0 0, .ldp 0 0 0 0, .prop 0 0 0 1 false] : List Instr).all Instr.wf = true := by decide

theorem test_well_formed_2 : (
  [.ld 0 0 false 0 0, .st 0 0 false 0 0, .ldl 0 0 false 0 0 0, .tacc 0 0 0 false, .trdc 0 0 0, .br 0 0 0 0 0, .loop 0 0 0 1, .inChain 0, .inPath 0, .inPulse 0, .orifice 0,
   .venturi 0, .upath 0, .kfactor 0, .freq 0, .normvol 0 0, .density 0 0, .tend 0 false, .emitv 0 0, .emitt 0 0, .emite 0 0 0, .emiti 0 0 0 0, .recordSnapshot 0, .gaugeSample 0 0,
   .temperatureSample (List.replicate 12 0), .frostEntry ⟨0, [], 0⟩ 0 0 0, .thawWinter 0 ⟨0, [], 0⟩ false, .thawFrost 0 ⟨0, [], 0⟩ false false, .pllUnlock 0 false,
   .calibrationDue 1 0, .interconnectFault 0 0, .hscWatchdogExpiry 1 0 0, .scrub 3 0x13000000 0, .regParity 0x40180080 0, .flashRead 0 0 0 0 0 [] [] false,
   .flashProgram 0 0 0 0 0 none none false, .flashErase 0 0 false, .eraseEnd 0 false, .flashStatus 0 false, .suspend 0 false, .resume 0 false, .unlock 0 0 0 0 false,
   .lock 0 0 false, .setpw 0 0 0 0 0 false, .zonecfg 0 0 0 false, .ecnt 0 0 false, .margin 0 0 0 0 0 false, .interruptSourceEvent 0 0 false, .claim 0 0, .complete 0 0 0,
   .moderationTimeout 0 0, .stormClear 0 0 0, .stormWindowEnd 0 0, .compareMatch 0 0, .periodEnd 0 0, .tmrStart 0 0, .tmrStop 0 0, .twGo 0 0, .twTransferEnd 0 none [],
   .arbLost 0 0 0 []] : List Instr).all Instr.wf = true := by decide

theorem test_well_formed_3 : (
  [.arbitrationRetry 0, .stretchTimeout 0, .sclLowTimeout 0, .sdaLowTimeout 0, .twBusErr 0 0 [], .twAbort 0 [], .recover 0 false, .twTxdata 0 0, .twRxdata 0,
   .alertResponseRead 0 none false, .cspGo 0, .cspFrameEnd 0 [] false, .cspTxdata 0 [] 0, .cspRxdata 0 [], .cspAbort 0 [], .modeFault 2 [], .targetSelectionEnd 2 [],
   .xipFetch 0 0x30000000 [] false, .ethTransmitFrame 0 0, .ethReceiveFrame 0 0 [] false, .ethReceiveDeliver 0, .txctlPoll 0 0, .rxctlPoll 0 0, .linkChange 0 false 0, .tsqRead 0,
   .tsqPop 0, .debugAccess 0 0 0 false 0 0 0, .busAccessError 0 1 0 false 0 0, .registerWrite 0 0 0 0 0, .doorbell 0 0 0, .pulsePhaseRemoved 0 0 0, .pulseUncountedEdge 0 0,
   .w0SnapshotRead 0 0, .mret 0] : List Instr).all Instr.wf = true := by decide

/-! Witnesses: the machine as a whole. -/

theorem wit_StepRunsFront : ({ State.reset with pending := [.hfrcFail] } : State).pending = .hfrcFail :: [] := by decide
/-- Awake but for the fast time base. -/
def tSlow : State := { tUp with time := { tUp.time with fast := false, sys := false } }
theorem wit_IdleStepTicks : State.reset.pending = [] ∧ tUp.pending = [] ∧ tUp.time.fast = true ∧ State.reset.time.fast = false ∧ State.reset.time.sys = false ∧ State.reset.boot.cls = 1 ∧ tSlow.pending = [] ∧
    tSlow.time.fast = false ∧ tSlow.time.sys = false ∧ tSlow.boot.cls ≠ 1 ∧ tSlow.pins.heldAo = false := by decide +kernel
theorem wit_CommandsComplete : Instr.wf .clrOvr = true ∧ Instr.wf (.taskDispatch 255) = true ∧ Instr.wf (.taskDispatch 256) = false := by decide
/-- A word with every field at its largest value both ways; a word with a reserved bit set is none. -/
theorem wit_ProgramWordsRoundTrip : Instr.wf (.add 7 5 7 7) = true ∧ (∀ n, Instr.add 7 5 7 7 ≠ .tend n false) ∧ progEncode (.add 7 5 7 7) = some 0x06FE0000 ∧ 0x06FE0000 < 2 ^ 32 ∧
    progDecode 7 0x06FE0000 0 = some (.add 7 5 7 7) ∧ progDecode 3 0x04000001 0 = none ∧ progDecode 3 0xBC000000 0 = some (.tend 3 true) := ⟨by decide, fun n h => (nomatch h), by decide⟩
theorem wit_StepKeepsCanonical : State.reset.Canonical ∧ ∃ t, step { State.reset with pending := [.clrOvr] } = .next t := ⟨by unfold State.Canonical; decide +kernel, _, rfl⟩
theorem wit_StepLowersNoCounter : ∃ t, step State.reset = .next t := ⟨_, rfl⟩

/-! Witnesses: tally engines. -/

theorem tRun_runs : tRun.Runs 0 0 := by unfold State.Runs; decide +kernel

theorem wit_IntegerResult : tRun.Runs 0 0 ∧ 0 < 8 ∧ 5 < 6 ∧ 7 < 8 ∧ tEach tRun [.add 0 5 7 7, .sub 0 5 7 7, .and 0 5 7 7, .or 0 5 7 7, .xor 0 5 7 7, .sll 0 5 7 7, .srl 0 5 7 7, .sra 0 5 7 7, .mul 0 5 7 7,
    .addi 0 5 7 0xFFFF, .andi 0 5 7 0xFFFF, .ori 0 5 7 0xFFFF, .lui 0 5 0xFFFF, .li 0 5 0xFFFF] = true := ⟨tRun_runs, by decide +kernel⟩

/-- M0 = M1 = 1.0: every operation that writes an M register has a result, with I0 = 0 and unit 0. -/
theorem wit_MeasuredResult : tRun.Runs 0 0 ∧ tEach tRun [.addC 0 31 0 1, .addU 0 31 0 1, .subC 0 31 0 1, .subU 0 31 0 1, .mulC 0 31 0 1 0, .mulU 0 31 0 1 0, .divC 0 31 0 1 0, .divU 0 31 0 1 0,
      .sqrt 0 31 0 0, .neg 0 31 0, .abs 0 31 0, .min 0 31 0 1, .max 0 31 0 1, .mov 0 31 0, .uwid 0 31 0 1, .scli 0 31 0 0 40, .cvu 0 31 0 0, .cvt 0 31 0 0 40, .setf 0 31 0 63 15] = true ∧
    (let x := tRun.pair 0
     [Mq.add false (x.mq 0) (x.mq 1), Mq.add true (x.mq 0) (x.mq 1), Mq.sub false (x.mq 0) (x.mq 1), Mq.sub true (x.mq 0) (x.mq 1), Mq.mul false 0 (x.mq 0) (x.mq 1),
      Mq.mul true 0 (x.mq 0) (x.mq 1), Mq.div false 0 (x.mq 0) (x.mq 1), Mq.div true 0 (x.mq 0) (x.mq 1), Mq.sqrt 0 (x.mq 0), Mq.neg (x.mq 0), Mq.abs (x.mq 0), Mq.pick false (x.mq 0) (x.mq 1),
      Mq.pick true (x.mq 0) (x.mq 1), Mq.mov (x.mq 0), Mq.uwid (x.mq 0) (x.mq 1), Mq.scli (x.mq 0) (x.ir 0).toInt 40, Mq.cvu (x.mq 0) 0, Mq.cvt 0 (x.ir 0).toInt 40,
      Mq.setf (x.mq 0) 63 15].all fun r => r.isSome) = true := ⟨tRun_runs, by decide +kernel⟩

/-- Equal units, other units, a sum that is too large, uncertainties that can be added. -/
theorem wit_MeasuredSum : (let a : Mq := { v := mqMax, u := 1, unit := 59, fl := 0, q := 0 }
    unitOk a.unit = true ∧ a.unit ≠ 0 ∧ mqMax < a.v + a.v ∧ a.u + a.u ≤ uMax) := by decide +kernel

theorem wit_LoadsAndIntegers : tRun.Runs 0 0 ∧ unitOk ((tRun.pair 0).mq 0).unit = true ∧ tEach tRun [.cvi 0 5 0 40, .ld 0 31 true 0 0x200, .ldl 0 5 true 0 0x200 3, .ldp 0 31 255 59] = true ∧
    tOk ((tAt (.ld 0 31 true 0 0x200) tRun).load 0 0x2000) = true ∧ tOk ((tAt (.ldp 0 31 255 59) tRun).loadParam 0 255) = true :=
  ⟨tRun_runs, by decide +kernel⟩

theorem wit_LoadsAndStoresJournal : tRun.offOk 0 0x17FFF0 false = true ∧ tRun.offOk 0 0x1000 false = true ∧ (tRun.pair 0).loads < 256 ∧ (tRun.pair 0).journal ≤ (tRun.pair 0).jpos ∧
    tRun.badIn (rgnBase 0 + 0x17FFF0) 16 = false ∧ tEach tRun [.st 0 31 true 0 0x15FF] = true ∧ (tAt (.st 0 31 true 0 0x15FF) tRun).offOk 0 (0x15FF * 16) true = true ∧ (tRun.pair 0).nstores < 128 := by decide +kernel

/-- M2 holds a word in the unit of T0. -/
def tTot : State := tImg.setPair 0 (tPair.setMq 2 { v := 0, u := 0, unit := 1, fl := 0, q := 0 })
theorem wit_TotalizerAccess : tRun.Runs 0 0 ∧ tTot.Runs 0 0 ∧ tEach tTot [.tacc 0 0 2 true, .tacc 0 0 2 false, .trdc 0 31 0] = true ∧ (tAt (.tacc 0 0 2 true) tTot).totMay 0 0 (tTot.taskStream 0) = true ∧
    (tTot.pair 0 |>.mq 2).unit = tTot.totUnit 0 0 ∧ unitOk (tTot.totUnit 0 0) = true := ⟨tRun_runs, ⟨rfl, rfl⟩, by decide +kernel⟩

theorem wit_ControlGoesOn : tRun.Runs 0 0 ∧ condOk 0 0 0 = true ∧ ((tRun.pair 0).cond 0 0 0).isSome = true ∧ tEach tRun [.br 0 0 0 0 4095, .loop 0 5 2047 4095] = true := ⟨tRun_runs, by decide +kernel⟩

theorem wit_EmissionsBuffer : tRun.Runs 0 0 ∧ (tRun.pair 0).emits.length < 48 ∧ tRun.totMay 0 0 (tRun.taskStream 0) = true ∧
    tEach tRun [.emitv 0 31, .emitt 0 0, .emite 0 31 4095, .emiti 0 7 7 4095] = true := ⟨tRun_runs, by decide +kernel⟩

/-- A job of task 0, admitted, whose release is reached. -/
def tJob : Job := { cycle := 3, st := 1, charge := 0, ta := 0, rel := 0, dl := 32768000000000, deg := false }
def tJobs : State := { tImg with spn := { tImg.spn with jobs := [(0, tJob)] } }
/-- Pair 0 at its TEND; stream 0 averages M0, of which the accumulator holds another unit. -/
def tEnd : State := tAt (.tend 0 true) tRun
def tMixed : State :=
  tAt (.tend 0 true) (({ tImg with mem := tLay [tChip, tRegion, tStreamOf 1, tTally, tTasks] } : State).setPair 0 { tPair with avgs := [(avgKey 0 0 0, { sum := 0, usum := 0, n := 1, fl := 0, q := 0, unit := some 5 })] })
def tLog : CommitLog := { task := 0, cycle := 2, due := 0, stores := [], tots := [], m := [], i := [], avgs := [], emits := [], propSt := (0, 0), propN := (0, 0), deg := false }

theorem wit_TasksRun_dispatch : alFind tJobs.spn.jobs 0 = some tJob ∧ (let u := (tJobs.advanceTo tJob.rel).settle; alFind u.spn.jobs 0 = some tJob ∧ u.mayDispatch 0 u.time.t tJob = true ∧
    u.badIn (u.blockBase 0) 576 = false) := by decide +kernel
theorem wit_TasksRun_end : tEnd.atPc 0 (.tend 0 true) = true ∧ (addAvgs (tEnd.pair 0) 0 (tEnd.bank 0) (tEnd.pair 0).avgs (tEnd.avgRegs 0)).isSome = true ∧
    (((tEnd.advanceTo (tEnd.tallyTime 0 (50 + 2 * (tEnd.pair 0).logLen (tEnd.avgRegs 0).length))).settle).pair 0).task = some 0 ∧ tEnd.taskStream 0 = 0 ∧
    tMixed.atPc 0 (.tend 0 true) = true ∧ tMixed.taskStream 0 = 0 ∧ (addAvgs (tMixed.pair 0) 0 (tMixed.bank 0) (tMixed.pair 0).avgs (tMixed.avgRegs 0)).isNone = true ∧
    (((tRun.advanceTo (((tRun.pair 0).td) + tRun.taskWcet 0 * 65536)).settle).pair 0).task = some 0 ∧ (tRun.pair 0).rolled = false := by decide +kernel
theorem wit_TasksRun_log : ((tImg.setPair 0 { tPair with log := some tLog }).pair 0).log = some tLog ∧ tLog.task = 0 ∧ tLog.due ≤ tImg.time.t ∧ (tImg.setPair 0 { tPair with log := some tLog }).Runs 0 0 :=
  ⟨by decide +kernel, rfl, Nat.zero_le _, rfl, rfl⟩

/-- Pair 0 with values in the units given, from M`n` on. -/
def tUnits (n : Nat) (us : List Nat) : State := tImg.setPair 0 { tPair with m := us.zipIdx.map fun e => (n + e.2, ({ v := 2 ^ 40, u := 0, unit := e.1, fl := 0, q := 0 } : Mq).word) }

theorem tUnits_runs (n : Nat) (us : List Nat) : (tUnits n us).Runs 0 0 := ⟨rfl, rfl⟩

theorem wit_PropertyEvaluates : (tUnits 29 [0x18, 0x1C, 0]).Runs 0 0 ∧ 29 + propInputs 11 ≤ 32 ∧ tEach (tUnits 29 [0x18, 0x1C, 0]) [.prop 0 31 29 11 false, .prop 0 31 29 11 true] = true ∧
    ((List.range (propInputs 11)).map fun n => ((tUnits 29 [0x18, 0x1C, 0]).pair 0).mq (29 + n)).map Mq.unit = propUnits 11 ∧
    ((List.range (propInputs 5)).map fun n => ((tUnits 29 [0x1C]).pair 0).mq (29 + n)).map Mq.unit = propUnits 5 := ⟨tUnits_runs .., by decide +kernel⟩

/-- Records of cycle 3: complete, and not. -/
def tRec (full : Bool) : List Byte := leBytes 8 3 ++ List.replicate 12 0 ++ leBytes 2 1 ++ leBytes 4 0 ++ [if full then 2 else 0]

/-- The bytes of an image that say only: task 0 serves stream 0, which has one path and the pulse inputs 0 and 1; pair 0 as before. -/
def tLite : State :=
  { tUp.set F.FLT.BOOT_STATUS.SLOT 1 with
    mem := tCells 0x08400010 (leBytes 2 2) ++ tCells 0x08400040 (leBytes 4 4 ++ leBytes 4 0x100) ++ tCells 0x08400050 (leBytes 4 9 ++ leBytes 4 0x200) ++ tCells 0x0840010E [0, 1, 1] ++
      tCells 0x08400200 (leBytes 2 1) ++ tCells 0x08400234 [0]
    pairs := [(0, tPair)] }

theorem wit_InputsAndStaleness : tLite.Runs 0 0 ∧ tEach tLite [.inChain 0, .inPath 0, .inPulse 0] = true ∧ (let s := tAt (.inPath 0) tLite
    tOk (s.loadN 0 ((s.pair 0).ir 4).toNat 4) = true ∧ s.taskStream 0 ≠ 0xFF ∧ ((s.pair 0).ir 4).toNat < s.npath (s.taskStream 0) ∧
    tOk ((s.loadPath 0 0 0 0).bind fun _ t => t.loadPath 0 0 1 0) = true ∧ s.pulseMay 0 0 = true ∧ tOk (s.loadPulses 0 0 0) = true) ∧
    chainOk (tRec true) 3 = true ∧ chainOk (tRec false) 4 = false ∧ chainOk (tRec false) 3 = false := ⟨⟨rfl, rfl⟩, by decide +kernel⟩

theorem wit_FlowRoutines : let a := tUnits 24 [0x18, 0x28, 0x2F, 0, 0x18, 0x24, 0x24]
    let b := tUnits 24 [0x0B, 0x18, 0x1C, 0]
    let c := tUnits 24 [0x18, 0x1C, 0]
    let x := a.pair 0
    let y := b.pair 0
    let z := c.pair 0
    a.Runs 0 0 ∧ tEach a [.orifice 0, .venturi 0] = true ∧ tEach b [.normvol 0 0] = true ∧ tEach c [.density 0 0] = true ∧ ([24, 25, 26, 27, 28, 29, 30].map fun n => (x.mq n).unit) = [0x18, 0x28, 0x2F, 0, 0x18, 0x24, 0x24] ∧
    ([24, 25, 27, 28, 29, 30].map fun n => (x.mq n).unit) = [0x18, 0x28, 0, 0x18, 0x24, 0x24] ∧ unitOk (x.mq 26).unit = true ∧ ([25, 26, 27].map fun n => (y.mq n).unit) = [0x18, 0x1C, 0] ∧ (y.mq 24).unit = 0x0B ∧
    (z.mq 24).unit = 0x18 ∧ (z.mq 25).unit = 0x1C ∧ (z.mq 26).unit = 0 ∧ mediumTables 3 = some (11, 10, 3) ∧ mediumTables ((z.ir 4).toNat) = mediumTables 0 ∧ (mediumTables 255).isNone = true :=
  ⟨tUnits_runs .., by decide +kernel⟩

theorem wit_MeterRoutines : tLite.Runs 0 0 ∧ tEach tLite [.upath 0, .kfactor 0, .freq 0] = true ∧
    (let s := tAt (.upath 0) tLite
     let st := s.taskStream 0
     st ≠ 0xFF ∧ tOk ((s.loadN 0 (pageOff st) 1).bind fun _ t => (t.loadEntries 0 (pageOff st + 0x40) (t.npath st)).bind fun _ u => u.loadParams 0 ((u.pair 0).ir 5).toNat (4 + 2 * u.npath st)) = true ∧
     s.pulseMay st 0 = true ∧ tOk ((s.loadPulses 0 st 0).bind fun r t => (t.loadParams 0 ((t.pair 0).ir 5).toNat 26).bind fun _ u => if m31Ok u (u.pair 0) 0 r then .ok () u else .trap 0) = true) :=
  ⟨⟨rfl, rfl⟩, by decide +kernel⟩

/-! Witnesses: the seal, the ring and the audit trail, time, interrupts. -/

/-- The shift register at 0x4000 drives 1, at 1 it drives 0; the loop near a verdict. -/
def tLoop (lfsr : BitVec 15) (run n1 n0 : Nat) : State := { State.reset with sealc := { State.reset.sealc with lfsr := lfsr, run := run, n1 := n1, n0 := n0 } }

theorem wit_SealMoves_pattern : (tLoop 0x4000 254 3 3).pins.heldAo = false ∧ ((tLoop 0x4000 254 3 3).sealc.lfsr.getLsbD 14 != (tLoop 0x4000 254 3 3).sealc.lfsr.getLsbD 13) = true ∧
    ((tLoop 1 254 3 3).sealc.lfsr.getLsbD 14 != (tLoop 1 254 3 3).sealc.lfsr.getLsbD 13) = false ∧ (tLoop 0x4000 254 3 3).sealc.run < 255 ∧ (tLoop 0x4000 254 3 3).sealc.n1 < 4 ∧
    (tLoop 1 0 0 3).sealc.n0 = 3 ∧ (tLoop 0x4000 0 3 0).sealc.n1 = 3 ∧ (tLoop 1 255 0 0).sealc.run = 255 ∧
    ({ State.reset with pins := { State.reset.pins with heldAo := true } } : State).pins.heldAo = true := by decide

theorem wit_SealMoves_loop : tUp.pins.heldAo = false ∧ 3 < 4 ∧ State.reset.hscRuns = false ∧ (State.reset.set F.SEAL.STATUS.SEALED 1).hscRuns = false ∧ (tUp.sealc.verdict = true → tUp.on F.SEAL.STATUS.LOOP = true) ∧ tUp.hscRuns = true ∧ (tUp.set F.SEAL.STATUS.SEALED 1).on F.SEAL.STATUS.SEALED = true ∧
    (tUp.set F.SEAL.STATUS.SEALED 1).hscRuns = true ∧ (tUp.set F.SEAL.STATUS.SEALED 1).get F.SEAL.COUNTER.COUNT < 0xFFFFFFFF ∧
    (State.reset.set F.SEAL.STATUS.SEALED 1).on F.SEAL.STATUS.SEALED = true ∧ State.reset.sealc.latched = none ∧
    (tUp.set F.SEAL.STATUS.SEALED 0).on F.SEAL.STATUS.SEALED = false ∧ (tUp.set F.SEAL.STATUS.SEALED 0).hscRuns = true ∧ tUp.sealc.verdict = false := by decide +kernel

def tEntry : RingEntry := { seq := 5, kind := 2, stream := 0, src := 1, cycle := 7, payload := List.replicate 16 3 }
def tRing (snap : Option Nat) : State := { State.reset with ring := { entries := [tEntry], nextSeq := 6, snap := snap, live := true, wait := [] } }

theorem wit_RingReads : (tRing none).ring.entries = tEntry :: [] ∧ State.reset.ring.entries = [] ∧ (tRing (some 5)).ring.snap = some tEntry.seq ∧ (tRing none).ring.snap ≠ some tEntry.seq ∧
    (wordsOf tEntry.bytes)[7]?.isSome = true := by decide +kernel

def tAudit (n : Nat) : State := { tUp with audit := { tUp.audit with queue := [tUp.mkEvent 4 0 (List.replicate n 1)], ctlPending := true } }

theorem wit_AuditPrograms : (tAudit 24).pins.heldH = false ∧ (tAudit 24).audit.queue = tUp.mkEvent 4 0 (List.replicate 24 1) :: [] ∧ (tAudit 24).audit.startOpen = false ∧ (tAudit 24).auditCount ≤ 16383 ∧ (tUp.mkEvent 4 0 []).kind ≠ 0x12 ∧
    (tUp.mkEvent 4 0 (List.replicate 24 1)).data.length ≤ 24 ∧ (tAudit 24).audit.ctlPending = true := by decide +kernel

/-- In SYNC, slewing, awake for 100 ms; the same asleep. -/
def tSync : State := { tUp.set F.TIME.STATUS.SYNC 1 with time := { tUp.time with phase := 65536, rate := 1000000, awake := 100000000 * 65536 } }
def tSyncSlow : State := { tSync with time := { tSync.time with fast := false } }

theorem wit_TimeAndRate : (1 : Word).getLsbD 0 = true ∧ (0 : Word).getLsbD 0 = false ∧ tUp.on F.FLT.BOOT_STATUS.READY = true ∧ tUp.pins.heldH = false ∧ State.reset.on F.FLT.BOOT_STATUS.READY = false ∧
    tSync.get F.TIME.STATUS.SYNC = 1 ∧ tUp.get F.TIME.STATUS.SYNC ≠ 1 ∧ tSync.time.fast = true ∧ tSyncSlow.get F.TIME.STATUS.SYNC = 1 ∧ tSyncSlow.time.fast = false ∧
    100000000 * 65536 ≤ tSync.time.awake ∧ (-128 : Int) ≤ -128 ∧ (127 : Int) < 128 ∧ tSync.time.phase ≠ 0 ∧ rateLimit tSync.time.asked ≠ rateLimit tSync.time.freq := by decide +kernel

/-- HIC with source 2 assigned to target 0, and active with it. -/
def tPend : State := { tUp with hic := { Ic.reset with asg := [(2, 0)] } }
def tActive : State := { tUp.set (activeF 0 2) 1 with hic := { Ic.reset with own := [(2, 0)] } }
/-- HIC enabled, source 2 assigned to target 0, which is under moderation; a storm window of source 2. -/
def tModer : State := { tUp.set (F.IC.CTRL.EN 0) 1 with hic := { Ic.reset with asg := [(2, 0)], timer := [(0, 0)] } }
def tWindow : State := { tUp with hic := { Ic.reset with storm := [(2, (1, 0))] } }

theorem wit_Interrupts_claims : tUp.icUp 0 = true ∧ tUp.domRuns 0 = true ∧ tPend.domRuns 0 = true ∧ tActive.domRuns 0 = true ∧ icListed 0 2 = true ∧ icLevelSense 0 2 = false ∧ tUp.on (stormF 0 2) = false ∧ tPend.icUp 0 = true ∧ tPend.claimNext 0 0 = some 2 ∧
    tUp.claimNext 0 0 = none ∧ bitsOf (2 : Word).toNat 7 0 = 2 ∧ tActive.icUp 0 = true ∧ tActive.on (activeF 0 2) = true ∧ alFind (tActive.ic 0).own 2 = some 0 ∧
    (tUp.on (activeF 0 2) = false ∨ alFind (tUp.ic 0).own 2 ≠ some 0) := by decide +kernel

theorem wit_Interrupts_lines : alFind (tModer.ic 0).timer 0 = some 0 ∧ (let u := (tModer.advancePlls (0 + 250 * tModer.get (F.IC.MOD.TIME 0 0) - tModer.time.plls)).settle
      (alFind (u.ic 0).timer 0).isSome = true ∧ u.on (F.IC.CTRL.EN 0) = true ∧ (2, 0) ∈ (u.ic 0).asg ∧ u.on (activeF 0 2) = false ∧ u.on (F.IC.SRC_CFG.CLASS 0 2) = false) ∧
    tUp.icUp 1 = true ∧ tUp.domRuns 1 = true ∧ (tUp.set (F.SC.BANKCTL.CUR 1) 1).domRuns 1 = true ∧ alFind (tWindow.ic 0).storm 2 = some (1, 0) ∧ alFind (tUp.ic 0).storm 2 = none ∧ (tUp.set (F.SC.BANKCTL.CUR 1) 1).on (F.SC.BANKCTL.CUR 1) = true ∧
    (tUp.set (F.SC.BANKCTL.CUR 1) 1).sic.asg = [] ∧ tUp.on (F.SC.BANKCTL.CUR 1) = false := by decide +kernel

/-! Witnesses: supplies, resets, start-up, seasons. -/

theorem wit_ClassPReset : 10 ≤ 10 := by decide
theorem wit_ClassHReset : tUp.pins.heldH = false ∧ 3 < 4 ∧ 1 < 2 := by decide +kernel
theorem wit_ClassSReset : tUp.domRuns 1 = true ∧ State.reset.domRuns 1 = false ∧ State.reset.pins.heldAo = false ∧ 10 ≤ 10 ∧ tUp.pins.heldAo = false ∧ tUp.pins.vddSw = true ∧ (0x53520001 : Word).toNat % 2 = 1 ∧ (0x53520001 : Word).toNat / 65536 = 0x5352 ∧
    (0x53530001 : Word).toNat / 65536 ≠ 0x5352 ∧ ({ tUp with pins := { tUp.pins with vddSw := false } } : State).pins.vddSw = false := by decide +kernel
/-- Sapwood's doorbell command is being checked. -/
def tCheck : State := { tUp with gw := { tUp.gw with check := some [] } }
theorem wit_SuppliesHold : 6 < 7 ∧ 6 ≠ 5 ∧ tCheck.gw.check ≠ none := by decide

/-- The start is at its fifth step: the image with a shunt, the bank full and empty, the wait over; no image, so no shunt. -/
def tStep5 (codes : List Nat) (at_ : Nat) : State :=
  { (State.reset.set F.FLT.BOOT_STATUS.STEP 5).set F.FLT.BOOT_STATUS.SLOT 1 with
    mem := tLay [tChip], spn := { State.reset.spn with codes := codes }, time := { State.reset.time with t := at_ } }
/-- Sapwood's core 0 runs; core 1 too. -/
def tCore : State := { tUp with cores := [(0, { Core.reset with running := true })] }
def tCores : State := { tUp with cores := [(0, { Core.reset with running := true }), (1, { Core.reset with running := true })] }

theorem wit_StartUpAndBoot_start : State.reset.pins.heldH = false ∧ State.reset.boot.cls ≠ 0 ∧ State.reset.get F.FLT.BOOT_STATUS.STEP < 3 ∧ State.reset.pins.heldAo = false ∧ 11 ≤ 11 ∧
    (tStep5 [] 0).pins.heldH = false ∧ (tStep5 [] 0).starting = true ∧ (State.reset.set F.FLT.BOOT_STATUS.STEP 5).starting = true ∧ (State.reset.set F.FLT.BOOT_STATUS.STEP 5).chip 0x14 4 = 0 ∧
    (tStep5 [] 0).chip 0x14 4 ≠ 0 ∧ (tStep5 [4000] 0).capReady = true ∧ (tStep5 [4000] 0).chip 0x14 4 ≠ 0 ∧ (tStep5 [4000] 0).starting = true ∧ (tStep5 [] 0).capReady = false ∧
    (tStep5 [] 0).time.t < (tStep5 [] 0).boot.waitAt + 10 * secT ∧ (tStep5 [] (10 * secT)).capReady = false ∧ (tStep5 [] 0).boot.waitAt + 10 * secT ≤ (tStep5 [] (10 * secT)).time.t ∧
    (tStep5 [] (10 * secT)).starting = true := by decide +kernel
theorem wit_StartUpAndBoot_boot : tUp.pins.heldS = false ∧ tUp.pins.vddioS = true ∧ tUp.pins.heldAo = false ∧ tUp.season.gated = false ∧ tUp.coreRuns 0 = false ∧ tUp.coreRuns 1 = false ∧ tUp.domRuns 1 = true ∧
    (5 : Word).toNat % 2 = 1 ∧ (4 : Word).toNat % 2 = 0 ∧ tCores.domRuns 1 = true ∧ tCores.coreRuns 1 = true ∧ State.reset.domRuns 1 = false ∧
    ({ tUp with season := { tUp.season with gated := true } } : State).season.gated = true := by decide +kernel

/-- Sapwood asks to sleep. -/
def tSleep : State := tCore.set F.SEASON.REQ.SLEEP 1
/-- Nothing runs: Sapwood gated, no unit busy. -/
def tQuiet : State := { tUp with season := { tUp.season with gated := true } }
/-- Safe state for want of an image, FROST allowed. -/
def tNoImage : State :=
  let s := (((tQuiet.set F.SEASON.REQ.FROST_OK 1).set F.CLK.STATUS.HFXO_ON 1).set F.FLT.STATUS.SAFE 1).set F.FLT.STATUS.CAUSE 4
  { s with boot := { s.boot with noImage := true } }

theorem wit_GoingToSleep : tSleep.pins.heldS = false ∧ tSleep.pins.heldAo = false ∧ tSleep.season.gated = false ∧ tSleep.coreRuns 0 = true ∧ tSleep.coresWait.on F.SEASON.REQ.SLEEP = true ∧
    tSleep.coresWait.coreAwake 0 = false ∧ tSleep.coresWait.coreAwake 1 = false ∧ tSleep.coresWait.sapwoodBusy = false ∧ tSleep.coresWait.aocPending 1 = false ∧
    tQuiet.time.fast = true ∧ tQuiet.winterOk = true ∧ (tNoImage.passed ⟨0, [], 0⟩).frostOk = true := by decide +kernel

/-- In WINTER with an alarm set; in FROST. -/
def tWinter : State := { tQuiet.set F.CLK.STATUS.HFXO_ON 1 with time := { tUp.time with fast := false }, season := { tQuiet.season with alarm := some 1000, waking := true } }
def tFrost : State := { tWinter.set F.FLT.BOOT_STATUS.SLOT 1 with season := { tWinter.season with frost := true }, mem := tLay [tChip], spn := { tWinter.spn with codes := [4000] }, boot := { tWinter.boot with cUse := 1600000 } }

theorem wit_Waking : tWinter.season.alarm = some 1000 ∧ tWinter.time.fast = false ∧ tWinter.season.frost = false ∧ 1999999999 < tWinter.sleepPeriod ∧ tWinter.on (stormF 1 26) = false ∧
    (let u := tFrost.sleepTo (1000 - 0); u.eFloor + 100000000 * fpOne ≤ u.reserve) ∧ tFrost.season.alarm = some 1000 ∧ tFrost.time.fast = false ∧ tWinter.on F.CLK.STATUS.HFXO_ON = true ∧ tWinter.pins.heldH = false ∧ tWinter.boot.cls = 0 ∧ tWinter.wakes 0 = true ∧
    tFrost.season.frost = true ∧ tFrost.wakes 0 = true ∧ tFrost.wakes 11 = true ∧ tFrost.pins.heldH = false := by decide +kernel

/-- PLL_ACQ and PLL_AUX are locked and unused. -/
def tLocked : State := ((tUp.set F.CLK.STATUS.ACQ_LOCK 1).set F.CLK.STATUS.AUX_LOCK 1).set F.CLK.STATUS.HFXO_ON 1
/-- HFXO has stopped. -/
def tStopped : State := { tUp.set F.CLK.STATUS.HFXO_ON 0 with time := { tUp.time with fast := false } }
def tSafe : State := (tUp.set F.FLT.STATUS.SAFE 1).set F.FLT.STATUS.CAUSE 1

theorem wit_ClocksAndSafeState : tUp.season.lfrc = false ∧ tLocked.on F.CLK.STATUS.HFXO_ON = true ∧ tLocked.pins.heldAo = false ∧ tStopped.on F.CLK.STATUS.HFXO_ON = false ∧
    tStopped.season.frost = false ∧ tStopped.time.fast = false ∧ tStopped.pins.heldH = false ∧ tStopped.boot.cls = 0 ∧ tLocked.boot.cls = 0 ∧ tUp.boot.cls = 0 ∧ tLocked.on (pllLock 0) = true ∧ tLocked.pllUsed 0 = true ∧
    tLocked.on (pllLock 2) = true ∧ tLocked.pllUsed 2 = false ∧ tLocked.pllUsed 1 = false ∧ Instr.wf (.interconnectFault 0 0) = true ∧ tUp.fabricClock = true ∧ tUp.flt.safe1 < 2 ∧
    Instr.wf (.hscWatchdogExpiry 1 0 0) = true ∧ tUp.hscRuns = true ∧ tUp.time.fast = true ∧ tUp.hscHalted = false ∧ tUp.flt.safe3 = 0 ∧ tSafe.safeMayEnd = true := by decide +kernel

/-! Witnesses: chip faults, Spindle, the trigger matrix, timers. -/

def tThawed : State := { tUp with spn := { tUp.spn with thawed := [0] } }

theorem wit_ScrubAndParity : (0x4B1D : Word).toNat % 65536 = 0x4B1D ∧ (0x4B1E : Word).toNat % 65536 ≠ 0x4B1D ∧ Instr.wf (.scrub 1 0x10000000 1) = true ∧ Instr.wf (.scrub 2 0x12000000 2) = true ∧
    tThawed.scrubs 1 0x10000000 = true ∧ tUp.scrubs 2 0x12000000 = true ∧
    Instr.wf (.regParity 0x400F033C 31) = true ∧ ((findSpec regTable 0x400F033C).bind fun r => fieldAt 31 r.fields) = some (31, 0) ∧ 31 < 32 ∧ tUp.parityKept 0x400F033C 31 = true ∧ tUp.pins.heldH = false ∧ 5 ≤ tUp.get F.FLT.BOOT_STATUS.STEP := by decide +kernel

/-- A job that waits for its decision, with a bank that is full enough. -/
def tNew : State :=
  { tImg.set F.SPN.STATUS.RUN 1 with spn := { tImg.spn with jobs := [(0, { tJob with st := 0 })], codes := [4000], thawed := [0] }, boot := { tImg.boot with cUse := 100000 } }
def tDown : State := tNew.set (F.FLT.REGION_STAT.STATE 0) 1
/-- No job of task 0 yet: its next cycle is to be decided. -/
def tAhead : State := { tNew with spn := { tNew.spn with jobs := [] } }
/-- The three tests of the job decided for cycle n at ta. -/
def tPasses (s : State) (n ta : Nat) : Bool :=
  let u := (s.advanceTo ta).settle
  let v := u.stepsApply 0 n
  let c := v.candidate 0 n ta
  u.regionUp (u.taskRegion 0) && !u.stepOn 0 1 && v.timeTest 0 c && v.energyTest c.ta c.charge && v.heatTest

theorem wit_SpindleAndRecords_jobs : alFind tNew.spn.jobs 0 = some { tJob with st := 0 } ∧ tNew.on F.SPN.STATUS.RUN = true ∧ tNew.spn.held = false ∧ 0 < tNew.ntask ∧ tNew.firstUndecided = some 0 ∧
    tPasses tNew tJob.cycle tNew.time.t = true ∧ tJob.cycle = 3 ∧ tNew.time.cycle = 0 ∧ tDown.firstUndecided = some 0 ∧ alFind tDown.spn.jobs 0 = some { tJob with st := 0 } ∧
    (let u := (tDown.advanceTo tDown.time.t).settle; u.regionUp (u.taskRegion 0) = false) ∧ (tJob.st = 1 ∨ tJob.st = 3) := by decide +kernel
theorem wit_SpindleAndRecords_ahead : alFind tAhead.spn.jobs 0 = none ∧ tAhead.decidesNext 0 = true ∧ tAhead.on F.SPN.STATUS.RUN = true ∧ tAhead.spn.held = false ∧ 0 < tAhead.ntask ∧
    tPasses tAhead tAhead.nextCycle (tAhead.admitAt 0 tAhead.nextCycle) = true ∧ (let v := tAhead.set (F.FLT.REGION_STAT.STATE 0) 1
      v.decidesNext 0 = true ∧ (let u := (v.advanceTo (v.admitAt 0 v.nextCycle)).settle; u.regionUp (u.taskRegion 0) = false)) := by decide +kernel

/-- Interval 0 has been fired and its instants are past; one snapshot waits. -/
def tDue : State := { tImg with recs := { tImg.recs with fired := [0] }, time := { tImg.time with cycle := 1000, grid := 1000, fired := (1000, 999) } }
def tSnap : Snapshot :=
  { region := 0, stream := 0, num := 0, closeS := 1, closeNs := 0, sealctr := 0, words := [], chip := { num := 0, unsync := false, holdover := false, level := 0, ncyc := 1000, after := 1000, flags := 0 },
    str := { num := 0, nsub := 0, ndeg := 0, flags := 0 } }
def tWaits : State := { tImg with recs := { tImg.recs with snaps := [tSnap] }, hflash := { tImg.hflash with want := [258] } }

theorem wit_SpindleAndRecords_records : tDue.dueInterval 0 = some 0 ∧ tDue.regions.contains 0 = true ∧ tDue.intervalEnded 0 0 = true ∧ tWaits.recs.snaps = tSnap :: [] ∧
    (!tWaits.hscUp || tWaits.hscHalted || tWaits.spn.held || tWaits.spn.trig.isSome || (tWaits.on F.FLT.STATUS.SAFE && tWaits.get F.FLT.STATUS.CAUSE == 3) ||
      decide (tWaits.space < tWaits.spaceNeeded)) = false ∧ 3 < 4 := by decide +kernel

/-- Spindle runs, with a full bank. -/
def tSpn : State :=
  { (tUp.set F.FLT.BOOT_STATUS.SLOT 1).set F.SPN.STATUS.RUN 1 with
    boot := { tUp.boot with cUse := 1600000 }, mem := tCells 0x08400010 (leBytes 2 1) ++ tCells 0x08400040 (leBytes 4 1 ++ leBytes 4 0x100) ++ tCells 0x0840010C (leBytes 4 3000 ++ leBytes 8 0xA0000) }

theorem wit_SpindleMeasures : tSpn.pins.heldAo = false ∧ tSpn.pins.heldH = false ∧ 4094 < 4095 ∧ (-2048 : Int) ≤ -2048 ∧ (2047 : Int) < 2048 ∧ tSpn.on F.SPN.STATUS.RUN = true ∧ tSpn.spn.held = false ∧ tSpn.season.frost = false ∧
    tSpn.spn.trig = none ∧
    (let v := (tSpn.setI F.GAUGE.IIN.UA (tSpn.currentUa 0)).ethMa.gaugeTake 0 0; v.reserve ≤ v.eFloor) ∧ (let v := (tSpn.setI F.GAUGE.IIN.UA (tSpn.currentUa 0)).ethMa.gaugeTake 2048 0; v.eFloor < v.reserve) ∧
    (let s := { tSpn with spn := { tSpn.spn with trig := some 5 } }; s.spn.trig = some 5 ∧ s.hscRuns = true) ∧ ([] ++ List.replicate 12 0 : List Int).length = 12 := by decide +kernel

/-- Comparator 31: one-shot at 1 s; locked; free. -/
def tShot : State := (tImg.set (F.TIME.CMPCTRL.MODE 31) 1).set (F.TIME.CMPABS.ALL 31 1) 1
def tStep (accepted : Nat) : TStep := { amount := 65536, slot := none, tag := 0, acceptedAt := accepted, sealst := 0 }

/-- A step accepted at t0, at the time t: nothing in its way; past its 100 ms; a match 2 µs ahead. -/
def tStepping (t0 t : Nat) : State := { State.reset with time := { State.reset.time with step := some (tStep t0), t := t } }
def tStepMatch : State := { tShot with time := { tShot.time with step := some (tStep (secT - 2 * usT)), t := secT - 2 * usT } }
def tFree (s : State) (x : TStep) : Bool := s.acq.seqs.isEmpty && !s.matchNear (laneTick s.time.t) && decide (laneTick s.time.t ≤ x.latest)
def tWait (s : State) (x : TStep) : Bool := s.stepWaits x

theorem wit_GridAndMatches : (tShot.nextMatch 31).isSome = true ∧ tUp.nextMatch 31 = none ∧ (tUp.set (F.TIME.CMPCTRL.LOCK 31) 1).on (F.TIME.CMPCTRL.LOCK 31) = true ∧
    tUp.on (F.TIME.CMPCTRL.LOCK 31) = false ∧ bitsOf (1 : Word).toNat 1 0 ≠ 3 ∧ bitsOf (3 : Word).toNat 1 0 = 3 ∧ 0 < tImg.cycleNs ∧ tImg.instantsRun = true ∧ tUp.instantsRun = false ∧
    (tStepping 0 0).time.step = some (tStep 0) ∧ tFree (tStepping 0 0) (tStep 0) = true ∧ tFree (tStepping 0 secT) (tStep 0) = false ∧ tWait (tStepping 0 secT) (tStep 0) = false ∧
    tStepMatch.time.step = some (tStep (secT - 2 * usT)) ∧ tFree tStepMatch (tStep (secT - 2 * usT)) = false ∧ tWait tStepMatch (tStep (secT - 2 * usT)) = true ∧ tUp.time.step = none := by decide +kernel

/-- Counter 7 of group 3 runs with TOP 999 and CMP 998. -/
def tTmr (count : Nat) : State := (((tUp.set (F.TMR.CTRL.RUN 3 7) 1).set (F.TMR.TOP.TOP 3 7) 999).set (F.TMR.CMP.CMP 3 7) 998).set (F.TMR.COUNT.COUNT 3 7) count
/-- Sapwood's watchdog runs with a warning at 10 ms and a limit of 20 ms. -/
def tDog : State := ((tUp.set F.TMR.WDT_CTRL.EN 1).set F.TMR.WDT_CFG.WARN 10).set F.TMR.WDT_CFG.LIMIT 20

theorem tFind (per : Bool) (n f m : Nat) (x : TcGroup) (hm : m = f + 1) (h : (if per then x.tick.per else x.tick.mat).contains n = true) : ∃ r, TcGroup.find per n m 0 x = some r :=
  ⟨_, by rw [hm, TcGroup.find, if_pos h]⟩

theorem wit_Counters_match : (tTmr 997).tmrRuns = true ∧ ∃ r, ((tTmr 997).tmrLoad 3).find false 7 (2 ^ 80) 0 = some r := ⟨by decide +kernel, tFind false 7 1208925819614629174706175 _ _ (by decide +kernel) (by decide +kernel)⟩
theorem wit_Counters_period : (tTmr 999).tmrRuns = true ∧ ∃ r, ((tTmr 999).tmrLoad 3).find true 7 (2 ^ 80) 0 = some r := ⟨by decide +kernel, tFind true 7 1208925819614629174706175 _ _ (by decide +kernel) (by decide +kernel)⟩
theorem wit_Counters_watchdog : tUp.domRuns 1 = true ∧ State.reset.domRuns 1 = false ∧ (0x5744 : Word).toNat % 65536 = 0x5744 ∧ (0x5745 : Word).toNat % 65536 ≠ 0x5744 ∧ tDog.wdtRuns = true ∧
    tDog.get F.TMR.WDT_CFG.WARN ≠ 0 ∧ tDog.get F.TMR.WDT_CFG.WARN < tDog.get F.TMR.WDT_CFG.LIMIT ∧ tDog.get F.TMR.WDT_STAT.ELAPSED < tDog.get F.TMR.WDT_CFG.WARN := by decide +kernel

/-! Witnesses: flash and serial ports. -/

theorem wit_FlashWords_bad : tCore.flRuns 1 = true ∧ (1 = 1 ∨ 0 = 0) ∧ ¬ ((0x10100008 % 16 = 0) ∧ 0 < 1 ∧ 1 ≤ 256 ∧ inArray 1 0x10100008 16 = true) := by decide +kernel

/-- A 16-byte word that begins with 7, in Sapwood's flash and in its RAM. -/
def tWords : State := ({ tCore with mem := tCells 0x110100000 (leBytes 16 7) ++ tCells 0x120000000 (leBytes 16 7) } : State)

theorem wit_FlashWords : tWords.flRuns 1 = true ∧ (0x10100000 % 16 = 0 ∧ 0 < 1 ∧ 1 ≤ 256 ∧ inArray 1 0x10100000 (16 * 1) = true) ∧ flReadable 1 0x10100000 (16 * 1) = true ∧
    (tWords.sflash).isUndef (flTag 1 0x10100000) = false ∧ tWords.sflash.inErase (0x10100000 - flBase 1) = false ∧
    ((List.range 4).all fun w => tWords.accessKind 1 0 true (0x20000100 + 4 * w) 4 == 0) = true ∧ (tWords.flReads 1 0 0x10100000 0x20000100 [] [] 1 0 (0, 0)).2.2 = true ∧
    tWords.flRefuse 1 0x10200000 16 false = none ∧ (tWords.busLoad 1 0 0x20000000 (16 * 1)).2 = some (leBytes 16 7) ∧
    ((tWords.busLoad 1 0 0x20000000 16).1.flPrograms 1 0x10200000 none none (words16 1 (leBytes 16 7)) 0).2.2 = true ∧ (tWords.busLoad 1 0 0x20000000 16).1.flBlank 1 0x10200000 = true ∧
    tWords.flRefuse 1 0x10100000 16 false = none ∧ (tWords.busLoad 1 0 0x20000000 16).1.flBlank 1 0x10100000 = false ∧ inArray 1 0x10200000 16 = true := by decide +kernel

/-- A sector erase of Sapwood's flash runs; it is suspended. -/
def tErase (susp : Bool) : State :=
  { tCore with sflash := { tCore.sflash with erase := some { sector := 300, kind := 1, seq := 1, susp := susp, byCommit := false, device := false, dense := false } } }

theorem wit_FlashErasesAndAreas_erase : tCore.flRuns 1 = true ∧ 0x10101000 % 0x1000 = 0 ∧ inArray 1 0x10101000 0x1000 = true ∧ tCore.flRefuse 1 0x10101000 0x1000 true = none ∧
    (tErase false).sflash.erase = some { sector := 300, kind := 1, seq := 1, susp := false, byCommit := false, device := false, dense := false } ∧ (tErase false).flRuns 1 = true ∧
    (tErase true).sflash.erase = some { sector := 300, kind := 1, seq := 1, susp := true, byCommit := false, device := false, dense := false } ∧ (tErase true).flRuns 1 = true ∧
    tCore.sflash.erase = none := by decide +kernel

theorem wit_FlashErasesAndAreas_areas : tWords.flRuns 1 = true ∧ tUp.flRuns 0 = true ∧ tWords.flArea 1 31 true = none ∧ tWords.flArea 1 31 false = none ∧ (tWords.busLoad 1 0 0x20000000 16).2 = some (leBytes 16 7) ∧
    leBytes 16 7 ≠ ((tWords.busLoad 1 0 0x20000000 16).1.sflash).password 31 ∧
    (let s := { tWords with sflash := { tWords.sflash with pass := [(31, leBytes 16 7)] } }
     (s.busLoad 1 0 0x20000000 16).2 = some (leBytes 16 7) ∧ leBytes 16 7 = ((s.busLoad 1 0 0x20000000 16).1.sflash).password 31 ∧
     ((s.busLoad 1 0 0x20000000 16).1.busLoad 1 0 0x20000010 16).2 = some (leBytes 16 0) ∧ s.flArea 1 31 true = none) ∧
    1 ≤ 7 ∧ 7 < 8 ∧ tWords.flRefuse 1 (0x10000000 + 0x100000 * 7) 0x100000 true = none ∧ inArray 1 0x107F0000 0x10000 = true ∧ 0x107F0000 % 0x10000 = 0 ∧
    inArray 1 0x107FF000 0x1000 = true ∧ 0x107FF000 % 0x1000 = 0 ∧ tWords.sflash.inErase (0x107FF000 - 0x10000000) = false ∧ tUp.hscRuns = true ∧ tUp.time.fast = true := by decide +kernel

/-- Two-wire port 7: a transfer runs. -/
def tTwP (run retry : Bool) (tx rx : List Byte) : TwPort := { tx := tx, rx := rx, run := run, retry := retry, due := [], res := 0, sent := [], low := 0, high := 0 }
def tTw (x : TwPort) : State := { tUp with tw := [(7, x)] }
/-- The same with CMD.NR 1, and one retry allowed. -/
def tTwRead : State := ((tTw (tTwP true false [] [])).set (F.TW.CMD.NR 7) 1).set (F.TW.CFG.RETRY 7) 1

theorem wit_TwoWire_transfers : tUp.domRuns (twDom 7) = true ∧ (0x80000000 : Word).toNat.testBit 31 = true ∧ tUp.on (F.TW.STATUS.BUSY 7) = false ∧
    (tUp.set (F.TW.STATUS.BUSY 7) 1).on (F.TW.STATUS.BUSY 7) = true ∧ (tUp.set (F.TW.STATUS.BUSY 7) 1).domRuns (twDom 7) = true ∧ (0x7FFFFFFF : Word).toNat.testBit 31 = false ∧
    (tTw (tTwP true false [] [])).twOn 7 = true ∧ 0 ≤ (tTw (tTwP true false [] [])).twLastSent 7 ∧ tTwRead.twOn 7 = true ∧ (tTwRead.twp 7).rx.length + (tTwRead.twRead 7 [5]).length ≤ 32 ∧
    tTwRead.twMayRetry 7 1 7 = true ∧ min 31 (tTwRead.get (F.TW.POS.ATTEMPTS 7) + 1) ≤ tTwRead.get (F.TW.CFG.RETRY 7) ∧ tTwRead.twMayRetry 7 1 8 = false ∧
    (tTwRead.set (F.TW.CFG.RETRY 7) 0).get (F.TW.CFG.RETRY 7) < min 31 ((tTwRead.set (F.TW.CFG.RETRY 7) 0).get (F.TW.POS.ATTEMPTS 7) + 1) ∧ (tTwRead.set (F.TW.CFG.RETRY 7) 0).twOn 7 = true ∧
    ((tTw (tTwP true true [] [])).twp 7).run = true ∧ ((tTw (tTwP true true [] [])).twp 7).retry = true := by decide +kernel

theorem wit_TwoWire_ports : (tUp.set (F.TW.CFG.SCL_LOW_MS 7) 1).get (F.TW.CFG.SCL_LOW_MS 7) ≠ 0 ∧ (tUp.set (F.TW.CFG.SDA_LOW_MS 7) 1).get (F.TW.CFG.SDA_LOW_MS 7) ≠ 0 ∧
    ((tTw (tTwP false false (List.replicate 31 0) [])).twp 7).tx.length < 32 ∧ 32 ≤ ((tTw (tTwP false false (List.replicate 32 0) [])).twp 7).tx.length ∧
    ((tTw (tTwP false false [] [1, 2])).twp 7).rx = 1 :: [2] ∧ (tUp.twp 7).rx = [] ∧
    (tTw (tTwP true false [] [])).twOn 7 = true ∧ (let s := tUp.set (F.TW.CFG.ALERT_EN 7) 1; s.twBank 7 = true ∧ s.domRuns (twDom 7) = true ∧ s.on (F.TW.CFG.ALERT_EN 7) = true ∧ s.on (F.TW.ALERTADDR.VALID 7) = false ∧ s.on (F.TW.STATUS.BUSY 7) = false) := by decide +kernel

/-- The management port is enabled, and addressed. -/
def tTwm (read ptrSet : Bool) (ptr : Nat) : State :=
  let s := (tUp.set F.TWM.CFG.EN 1).set F.TWM.CTRL.ALERT 1
  { s with twm := { s.twm with active := true, read := read, ptrSet := ptrSet, ptr := ptr } }

theorem wit_ManagementPort : (tTwm false false 0).twmOn = true ∧ (tTwm false false 0).season.frost = false ∧
    (let s := { tTwm false false 0 with season := tFrost.season }; s.season.frost = true ∧ s.twmOn = true) ∧ (tTwm false false 0).twm.active = true ∧ (tTwm false false 0).twm.read = false ∧
    (tTwm false false 0).twm.ptrSet = false ∧ (tTwm false true 7).twm.ptrSet = true ∧ 3 ≤ (tTwm false true 7).twm.ptr ∧ (tTwm false true 7).twm.ptr ≤ 7 ∧ (tTwm true false 0).twm.read = true ∧
    (tTwm true false 0).twm.active = true ∧ (tTwm true false 0).on F.TWM.CTRL.ALERT = true := by decide +kernel

/-- CSP3 as a controller: a frame of one byte of data runs, with its byte in the FIFO; as a target. -/
def tCspP (run : Bool) (left : Nat) : CspPort := { tx := [0x55], rx := [], run := run, left := left, dma := none, dqs := false, sent := [], head := [], period := 0, skip := false }
def tCsp (left : Nat) : State := { tUp.set (F.CSP.LEN.LEN 3) 1 with csp := [(3, tCspP true left)] }
def tCspT : State := { tUp.set (F.CSP.CFG.ROLE 3) 1 with csp := [(3, tCspP false 0)] }

theorem wit_ClockedAndMemoryPorts_frames : cspExists 3 = true ∧ tUp.domRuns (cspDom 3) = true ∧ tCspT.domRuns (cspDom 3) = true ∧ (tCspT.on (F.CSP.STATUS.BUSY 3) || tCspT.cspTarget 3) = true ∧
    (tUp.on (F.CSP.STATUS.BUSY 3) || tUp.cspTarget 3) = false ∧ cspFits false 3 1 0 0 0 0 = false ∧
    (let s := (tUp.set (F.CSP.FRAME.CMD_BITS 3) 3).set (F.CSP.FRAME.CMD_LANES 3) 1
     (s.on (F.CSP.STATUS.BUSY 3) || s.cspTarget 3) = false ∧ cspFits (s.cspDdr 3) (s.get (F.CSP.FRAME.CMD_BITS 3)) (s.get (F.CSP.FRAME.CMD_LANES 3)) (s.get (F.CSP.FRAME.ADDR_BITS 3))
       (s.get (F.CSP.FRAME.ADDR_LANES 3)) (s.get (F.CSP.LEN.LEN 3)) (s.get (F.CSP.FRAME.DATA_LANES 3)) = false) ∧
    cspFits (tUp.cspDdr 3) (tUp.get (F.CSP.FRAME.CMD_BITS 3)) (tUp.get (F.CSP.FRAME.CMD_LANES 3)) (tUp.get (F.CSP.FRAME.ADDR_BITS 3)) (tUp.get (F.CSP.FRAME.ADDR_LANES 3))
      (tUp.get (F.CSP.LEN.LEN 3)) (tUp.get (F.CSP.FRAME.DATA_LANES 3)) = true ∧
    ((tCsp 1).cspp 3).run = true ∧ (let m := ((tCsp 1).cspFree 3 [0x55]).cspMove 3 ((tCsp 1).cspWire 3 [0x55]); (m.cspp 3).run = true ∧ (m.cspp 3).left = 0) ∧
    (let m := ((tCsp 2).cspFree 3 [0x55]).cspMove 3 ((tCsp 2).cspWire 3 [0x55]); (m.cspp 3).run = true ∧ (m.cspp 3).left ≠ 0) ∧ ((tCsp 2).cspp 3).run = true ∧ (((tCsp 1).cspRun 3 []).cspp 3).dqs = false ∧ (((tCsp 1).cspRun 3 []).cspp 3).rx = [] ∧ (((tCsp 1).cspRun 3 []).cspp 3).run = true ∧
    (let s := (tCsp 1).set (F.CSP.CFG.MULTI 3) 1; s.cspTarget 3 = false ∧ s.on (F.CSP.CFG.MULTI 3) = true ∧ s.cspBank 3 = true ∧ (((s.cspFree 3 []).cspMove 3 (s.cspWire 3 [])).cspp 3).run = true) ∧ tCspT.cspTarget 3 = true ∧ tCspT.cspBank 3 = true ∧ (tCspT.cspp 3).skip = false ∧
    (let s := { tCspT with csp := [(3, { tCspP false 0 with skip := true })] }; s.cspTarget 3 = true ∧ s.cspBank 3 = true ∧ (s.cspp 3).skip = true ∧ s.domRuns (cspDom 3) = true) := by decide +kernel

/-- CSP5 reads in place. -/
def tXip : State := (tUp.set F.CSP.XIP_CFG.SIZE 7).set F.CSP.XIP_CFG.EN 1
/-- The frame of a fetch fits its lanes. -/
def tFits (s : State) : Bool :=
  cspFits (s.cspDdr 5) (s.get F.CSP.XIP_FRAME.CMD_BITS) (s.get F.CSP.XIP_FRAME.CMD_LANES) (s.get F.CSP.XIP_FRAME.ADDR_BITS) (s.get F.CSP.XIP_FRAME.ADDR_LANES) 32 (s.get F.CSP.XIP_FRAME.DATA_LANES)
def tSfdp : List Byte := [0x53, 0x46, 0x44, 0x50, 6, 1, 0, 0xFF, 0, 6, 1, 16, 0x30, 0, 0, 0xFF] ++ List.replicate 240 0

theorem wit_ClockedAndMemoryPorts_discover : tUp.domRuns 1 = true ∧ tUp.on (F.CSP.STATUS.BUSY 5) = false ∧ sfdpTable (tUp.cspWire 5 []) = none ∧ (sfdpTable (tUp.cspWire 5 tSfdp)).isSome = true := by decide +kernel
theorem wit_ClockedAndMemoryPorts_fetch : tXip.domRuns 1 = true ∧ tXip.accessKind 1 0 false 0x30000020 1 = 0 ∧ tXip.on (F.CSP.STATUS.BUSY 5) = false ∧ tFits tXip = true ∧
    tXip.cspx.lines.find? (fun e => e.1 == (0x30000020 - 0x30000000) / 32) = none ∧
    ({ tXip with cspx := { tXip.cspx with lines := [(1, [])] } } : State).cspx.lines.find? (fun e => e.1 == (0x30000020 - 0x30000000) / 32) = some (1, []) := by decide +kernel
/-- A command phase of 3 bits on the lane code 1. -/
def tXipBad : State := (tXip.set F.CSP.XIP_FRAME.CMD_BITS 3).set F.CSP.XIP_FRAME.CMD_LANES 1
theorem wit_ClockedAndMemoryPorts_misfit : tFits tXipBad = false ∧ tXipBad.accessKind 1 0 false 0x30000020 1 = 0 ∧ tXipBad.on F.CSP.XIP_CFG.CONT = false ∧ tXipBad.on (F.CSP.STATUS.BUSY 5) = false ∧
    tXipBad.domRuns 1 = true ∧ tXipBad.cspx.lines = [] := by decide +kernel

/-! Witnesses: Ethernet and the host. -/

/-- ETH2: rings at 0x20000000 and 0x20000400, a frame of 14 bytes at 0x20000800, descriptors that the MAC owns; link up. -/
def tEthMem (tx rx : Nat) : List Host.Cell :=
  tCells 0x120000000 (leBytes 4 0x20000800 ++ leBytes 4 tx ++ leBytes 4 0) ++ tCells 0x120000400 (leBytes 4 0x20000900 ++ leBytes 4 rx) ++ tCells 0x120000800 (List.replicate 12 0xFF ++ [8, 0])
def tFrame : RxFrame := { bytes := List.replicate 60 0xFF, sec := 1, ns := 2, tinv := false, bad := false }
def tEth (rx : Nat) (x : Mac) : State :=
  { ((((tUp.set (F.ETH.CFG.TXEN 2) 1).set (F.ETH.CFG.RXEN 2) 1).set (F.ETH.TXRING.ALL 2) 0x20000000).set (F.ETH.RXRING.ALL 2) 0x20000400).set (F.ETH.PHY_STAT.LINK 2) 1 with
    mem := tEthMem (2 ^ 31 + 2 ^ 30 + 14) rx, mac := [(2, x)] }
def tMac : Mac := { fifo := [tFrame], tsq := [{ msgid := 1, gen := 0, tinv := false, ns := 5, sec := 6 }], txOn := true, rxOn := true, mdio := some (1, 2, true, 0), sent := [] }

theorem wit_Ethernet_transmit : let s := tEth (2 ^ 31 + 1536) tMac
    let a := s.ethWord 2 (s.txDesc 2)
    let b := a.1.ethWord 2 (s.txDesc 2 + 4)
    let c := b.1.ethWord 2 (s.txDesc 2 + 8)
    s.domRuns 1 = true ∧ s.ethBank 2 = true ∧ s.on (F.ETH.CFG.TXEN 2) = true ∧ (s.macOf 2).txOn = true ∧ a.2 = some 0x20000800 ∧ b.2 = some (2 ^ 31 + 2 ^ 30 + 14) ∧ c.2 = some 0 ∧ 2 ^ 31 ≤ 2 ^ 31 + 2 ^ 30 + 14 ∧
    (c.1.ethLoad 2 0x20000800 (bitsOf (2 ^ 31 + 2 ^ 30 + 14) 10 0)).2 = some (List.replicate 12 0xFF ++ [8, 0]) ∧ bitsOf (2 ^ 31 + 2 ^ 30 + 14) 30 30 = 1 ∧
    (c.1.ethLoad 2 0x20000800 14).1.on (F.ETH.PHY_STAT.LINK 2) = true := by decide +kernel

theorem wit_Ethernet_receive : let s := tEth (2 ^ 31 + 1536) tMac
    (s.pins.heldS || !s.pins.vddSw || !s.ethBank 2 || s.season.frost || !s.on (F.ETH.CFG.RXEN 2) || !s.on (F.ETH.PHY_STAT.LINK 2) || (s.season.gated && !s.linkReq 2)) = false ∧
    s.ethAccepts 2 [] = false ∧ (s.set (F.ETH.CFG.PROMISC 2) 1).ethAccepts 2 [] = true ∧ s.on (F.ETH.CFG.KEEPBAD 2) = false ∧ ((s.macOf 2).fifo.map fun x => x.bytes.length).foldl (fun x y => x + y) 4036 ≤ 4096 ∧
    4096 < ((s.macOf 2).fifo.map fun x => x.bytes.length).foldl (fun x y => x + y) 4037 ∧ (s.macOf 2).fifo = tFrame :: [] ∧ s.domRuns 1 = true ∧ (s.macOf 2).rxOn = true ∧
    (let a := s.ethWord 2 (s.rxDesc 2)
     let u := a.1.ethWord 2 (s.rxDesc 2 + 4)
     a.2 = some 0x20000900 ∧ u.2 = some (2 ^ 31 + 1536) ∧ tFrame.bytes.length ≤ bitsOf (2 ^ 31 + 1536) 10 0 ∧
     (let v := u.1.setMac 2 { u.1.macOf 2 with fifo := (u.1.macOf 2).fifo.drop 1 }
      (v.ethStore 2 0x20000900 tFrame.bytes).2 = true ∧ ((v.ethStore 2 0x20000900 tFrame.bytes).1.rxBack 2 (s.rxDesc 2) tFrame).2 = true)) ∧
    (let t := tEth (2 ^ 31 + 59) tMac
     ((t.ethWord 2 (t.rxDesc 2)).1.ethWord 2 (t.rxDesc 2 + 4)).2 = some (2 ^ 31 + 59) ∧ bitsOf (2 ^ 31 + 59) 10 0 < tFrame.bytes.length) := by decide +kernel

theorem wit_Ethernet_registers : let s := tEth (2 ^ 31 + 1536) tMac
    s.domRuns 1 = true ∧ (0x106 : Word).toNat.testBit 8 = true ∧ bitsOf (0x106 : Word).toNat 3 0 ≤ 6 ∧ s.on (F.ETH.CFG.TXEN 2) = true ∧ s.on (F.ETH.CFG.RXEN 2) = true ∧
    (((s.set (F.ETH.TXCTL.SIZE 2) 6)).ethWord 2 ((s.set (F.ETH.TXCTL.SIZE 2) 6).txDesc 2 + 4)).2 = some (2 ^ 31 + 2 ^ 30 + 14) ∧
    (((s.set (F.ETH.RXCTL.SIZE 2) 6)).ethWord 2 ((s.set (F.ETH.RXCTL.SIZE 2) 6).rxDesc 2 + 4)).2 = some (2 ^ 31 + 1536) ∧ (6 : Word).toNat.testBit 8 = false ∧
    s.ethBank 0 = true ∧ s.season.frost = false ∧ s.on (F.ETH.PHY_STAT.LINK 2) ≠ false ∧ s.on (F.ETH.MDIO.BUSY 2) = false ∧ (0x08000000 : Word).toNat.testBit 27 = true ∧
    (s.macOf 2).mdio = some (1, 2, true, 0) ∧ (s.macOf 2).tsq = { msgid := 1, gen := 0, tinv := false, ns := 5, sec := 6 } :: [] ∧ (tUp.macOf 2).tsq = [] ∧ tUp.domRuns 1 = true := by decide +kernel

/-- CSP4 selected; a message with its CRC; a request in hand; the engine with a message at its front. -/
def tSel : State := { tUp.set F.CSP4.CFG.EN 1 with cspx := { tUp.cspx with sel := true } }
def tMsg (code tag : Nat) (args : List Word) : HostIn :=
  let ws := [BitVec.ofNat 32 (code + 65536 * (args.length + 3)), BitVec.ofNat 32 tag] ++ args
  { chan := 0, words := ws ++ [BitVec.ofNat 32 (crc32c (bytesOf ws))], bad := false }
def tCmd (code : Nat) : HostCmd := { code := code, tag := 9, chan := 0, since := 0 }
def tHost (code tag : Nat) (args : List Word) : State := { tUp.set F.HOST.CFG.EN 1 with host := { tUp.host with inq := [tMsg code tag args] } }
def tBusy (cur long : Option HostCmd) : State := { tUp.set F.HOST.CFG.EN 1 with host := { tUp.host with cur := cur, long := long } }

theorem wit_HostPort : tUp.pins.vddioS = true ∧ tSel.pins.vddioS = true ∧ tUp.season.gated = false ∧ tUp.domRuns 1 = true ∧ (tUp.set F.CSP4.CFG.EN 1).on F.CSP4.CFG.EN = true ∧ (tUp.set F.CSP4.CFG.EN 1).domRuns 1 = true ∧
    (let s := { tUp.set F.SEASON.WAKE.CSP4 1 with season := { tUp.season with gated := true } }; s.season.gated = true ∧ s.on F.SEASON.WAKE.CSP4 = true ∧ s.pins.vddioS = true ∧ s.time.sys = true ∧
     ({ s with time := { s.time with sys := false } }).time.sys = false ∧ ({ s with time := { s.time with sys := false } }).on F.SEASON.WAKE.CSP4 = true) ∧
    tSel.cspx.sel = true ∧ tSel.domRuns 1 = true ∧ 70 ≠ 0 ∧ tSel.csp4Cause 70 [] ≠ 0 ∧ tSel.csp4Cause 64 [] = 0 ∧ tSel.on F.HOST.CFG.EN = false ∧
    bitsOf (0x2804 : Word).toNat 13 13 = 1 ∧ bitsOf (0x2804 : Word).toNat 10 0 ≠ 0 ∧ bitsOf (0x2804 : Word).toNat 12 11 = 1 ∧ (tUp.set F.HOST.FW_STAT.IN_BUSY 1).on F.HOST.FW_STAT.IN_BUSY = true ∧
    (tUp.set F.HOST.FW_STAT.IN_BUSY 1).domRuns 1 = true ∧ tUp.on F.HOST.FW_STAT.IN_BUSY = false ∧ bitsOf (0x2804 : Word).toNat 10 0 % 4 = 0 ∧ bitsOf (0x2804 : Word).toNat 10 0 ≤ 1024 ∧
    bitsOf (0x2805 : Word).toNat 10 0 % 4 ≠ 0 ∧ bitsOf (0x2C04 : Word).toNat 13 13 = 1 ∧ 1024 < bitsOf (0x2C04 : Word).toNat 10 0 ∧ bitsOf (0x2C04 : Word).toNat 12 11 = 1 ∧
    (tBusy (some (tCmd 0x200)) none).host.cur = some (tCmd 0x200) ∧ (tBusy (some (tCmd 0x200)) none).domRuns 1 = true ∧ bitsOf (0x94000 : Word).toNat 14 14 = 1 ∧ hostApp (tCmd 0x200).code = true ∧
    (tCmd 0x200).tag = bitsOf (0x94000 : Word).toNat 31 16 ∧
    (let m : HostOut := { chan := 2, words := [5], long := false }
     let s := { tUp.set F.HOST.FW_STAT.OUT_VALID 1 with host := { tUp.host with fwQueue := [m] } }
     s.host.fwQueue = m :: [] ∧ s.on F.HOST.FW_STAT.OUT_VALID = true ∧ s.domRuns 1 = true) := by decide +kernel

/-- The check that a forwarded message gets. -/
def tReason (s : State) (m : HostIn) : Nat := (s.hostTake.gwPut 0 m.gwWords).gwReason (gwParse m.gwWords).1 (gwParse m.gwWords).2

theorem wit_HostRequests_forward : (tHost 1 7 []).gw.check = none ∧ (tHost 1 7 []).hostNext gwListed = some (tMsg 1 7 []) ∧ tReason (tHost 1 7 []) (tMsg 1 7 []) = 0 ∧ gwIsLong (tMsg 1 7 []).code = false ∧
    (tHost 7 7 [0, 0, 200000001]).hostNext gwListed = some (tMsg 7 7 [0, 0, 200000001]) ∧ tReason (tHost 7 7 [0, 0, 200000001]) (tMsg 7 7 [0, 0, 200000001]) ≠ 0 ∧
    (tHost 13 7 [0]).hostNext gwListed = some (tMsg 13 7 [0]) ∧ tReason (tHost 13 7 [0]) (tMsg 13 7 [0]) = 0 ∧ gwIsLong (tMsg 13 7 [0]).code = true ∧ (tMsg 13 7 [0]).code ≠ 9 ∧
    (tHost 9 7 [1, 4096]).hostNext gwListed = some (tMsg 9 7 [1, 4096]) ∧ tReason (tHost 9 7 [1, 4096]) (tMsg 9 7 [1, 4096]) = 0 ∧ (tMsg 9 7 [1, 4096]).code = 9 := by decide +kernel

theorem wit_HostRequests_engine : (tHost 0x100 7 []).hostNext (· == 0x100) = some (tMsg 0x100 7 []) ∧ (tHost 0x101 7 []).hostNext (· == 0x101) = some (tMsg 0x101 7 []) ∧
    (tHost 0x101 7 []).host.result = none ∧ (let s := { tHost 0x101 7 [] with host := { (tHost 0x101 7 []).host with result := some [1, 2, 3] } }; s.hostNext (· == 0x101) = some (tMsg 0x101 7 []) ∧
    s.host.result = some [1, 2, 3]) ∧ (tHost 0x102 7 [16]).hostNext (· == 0x102) = some (tMsg 0x102 7 [16]) ∧ 1 ≤ (tMsg 0x102 7 [16]).arg 0 ∧ (tMsg 0x102 7 [16]).arg 0 ≤ 16 ∧
    (tHost 0x102 7 [17]).hostNext (· == 0x102) = some (tMsg 0x102 7 [17]) ∧ 16 < (tMsg 0x102 7 [17]).arg 0 ∧ (tHost 0x103 7 []).hostNext (· == 0x103) = some (tMsg 0x103 7 []) ∧
    (tHost 0x104 7 [0, 256]).hostNext (· == 0x104) = some (tMsg 0x104 7 [0, 256]) ∧ (tHost 0x2FF 7 []).hostNext hostApp = some (tMsg 0x2FF 7 []) := by decide +kernel

/-- A RESULT for tag 9 with the code of the request, in the ring. -/
def tResult (code : Nat) : RingEntry := { seq := 0, kind := 6, stream := 0, src := 9, cycle := 0, payload := leBytes 2 code ++ List.replicate 14 0 }
def tRinged (code : Nat) (s : State) : State := { s with ring := { entries := [tResult code], nextSeq := 1, snap := none, live := true, wait := [] } }
/-- Recovery: the ROM runs on core 0 with an APP request in hand. -/
def tRecov (code : Nat) : State := { tCore with host := { tCore.host with cur := some (tCmd code) } }

theorem wit_HostAnswers : (let s := tRinged 1 (tBusy (some (tCmd 1)) none)
     s.domRuns 1 = true ∧ s.on F.HOST.CFG.EN = true ∧ s.host.cur = some (tCmd 1) ∧ s.host.long = none ∧ hostApp (tCmd 1).code = false ∧ s.ring.entries = tResult 1 :: [] ∧ (tResult 1).answers (tCmd 1) = true) ∧
    (let s := tRinged 13 (tBusy none (some (tCmd 13)))
     s.host.cur = none ∧ s.host.long = some (tCmd 13) ∧ hostApp (tCmd 13).code = false ∧ (tCmd 13).code ≠ 9 ∧ s.ring.entries = tResult 13 :: [] ∧ (tResult 13).answers (tCmd 13) = true ∧ s.on F.HOST.CFG.EN = true ∧
     s.domRuns 1 = true) ∧
    (tBusy (some (tCmd 1)) none).host.cur = some (tCmd 1) ∧ (tBusy (some (tCmd 1)) none).host.long = none ∧ (tBusy (some (tCmd 1)) none).time.fast = true ∧ (tBusy (some (tCmd 0x200)) none).domRuns 1 = true ∧ ((tBusy (some (tCmd 1)) none).ring.entries.any fun n => n.answers (tCmd 1)) = false ∧ hostApp (tCmd 0x200).code = true ∧
    (let s := tRinged 1 (tBusy none none); s.on F.HOST.CFG.EN = true ∧ s.hostWants = none ∧ s.ring.entries = tResult 1 :: []) ∧
    (tRecov 0x2F0).recovery 0x2F0 = some (tCmd 0x2F0) ∧ (tRecov 0x2F1).recovery 0x2F1 = some (tCmd 0x2F1) ∧ 8 % 16 ≠ 0 ∧ (0x1FFFF0 % 16 = 0 ∧ [0, 0, 0, (0 : Word)].length % 4 = 0 ∧
    0x1FFFF0 + 4 * [0, 0, 0, (0 : Word)].length ≤ 0x200000) ∧ (tRecov 0x2F2).recovery 0x2F2 = some (tCmd 0x2F2) ∧ (tRecov 0x2F2).domRuns 1 = true := by decide +kernel

/-! Witnesses: converters, acquisition, chains, calibration, bus masters. -/

/-- The seal is open; sealed. -/
def tOpen : State := tUp.set F.SEAL.STATUS.SEALED 0
def tShut : State := tUp.set F.SEAL.STATUS.SEALED 1
/-- Pulse input 31 receives, with STUCK timeout 1 s; a closed window of cycle 7 waits on input 0 of stream 0. -/
def tPin : State := { tUp.set (F.PIN.STATUS.RXON 31) 1 with pulse := [(31, { Pulse.fresh with cfg := 0x10 })] }
def tClosed : State := { tImg with pulse := [(0, { Pulse.fresh with closed := some { cycle := 7, start := 0, mode := 0, bytes := [] } })] }

/-- The window waits in a region that is gated. -/
def tClosedGated : State := { tClosed with mem := tLay [tChip, tRegionOf 1, tStream, tTally, tTasks] }
/-- An edge has just come. -/
def tPinJust : State := { tPin with pulse := [(31, { Pulse.fresh with cfg := 0x10, edge := some 0 })] }

theorem wit_SettingsAndPulses_settings : slAddr 0x400A0000 = true ∧ 47 < 48 ∧ State.reset.domRuns 0 = false ∧ tShut.domRuns 0 = true ∧ tOpen.domRuns 0 = true ∧
    (tShut.on F.SEAL.STATUS.SEALED || !tShut.auditTakes 1) = true ∧ (tOpen.on F.SEAL.STATUS.SEALED || !tOpen.auditTakes 1) = false ∧
    (findSpec regTable 0x400A0000).isSome = true ∧ ((tOpen.settingChannels 0x400A0000).any fun m => tOpen.on (F.SDC.STATUS.CAL m)) = false ∧
    (tOpen.settingChannels 0x400A0000).length ≠ 0 ∧ (let s := tOpen.set (F.SDC.STATUS.CAL 0) 1; ((s.settingChannels 0x400A0000).any fun m => s.on (F.SDC.STATUS.CAL m)) = true ∧ s.domRuns 0 = true) ∧
    (let s := { tUp with front := { tUp.front with warmTo := [(47, 9)] } }; alFind s.front.warmTo 47 = some 9 ∧ s.flt.restart = [] ∧ s.flt.blockDue = []) ∧ alFind tUp.front.warmTo 47 = none := by decide +kernel

theorem wit_SettingsAndPulses_pulses : tPin.on (F.PIN.STATUS.RXON 31) = true ∧ tUp.on (F.PIN.STATUS.RXON 31) = false ∧ tPin.phaseOk 31 (tPin.stampAt 0) (tPin.countsRise 31) = true ∧
    tPin.phaseOk 31 (tPin.stampAt 0) (!tPin.countsRise 31) = true ∧ tPinJust.on (F.PIN.STATUS.RXON 31) = true ∧ tPinJust.phaseOk 31 (tPinJust.stampAt 0) (tPinJust.countsRise 31) = false ∧
    tPinJust.phaseOk 31 (tPinJust.stampAt 0) (!tPinJust.countsRise 31) = false ∧ 63 < 64 ∧ 160 ≤ 160 ∧ bitsOf (tPin.pulseIn 31).cfg.toNat 19 4 ≠ 0 ∧ (tPin.pulseIn 31).edge = none ∧
    tPinJust.get (F.PIN.STATUS.LEVEL 31) = bitsOf (tPinJust.pulseIn 31).cfg.toNat 3 3 ∧ tClosed.hasStream 0 = true ∧ tClosed.pulseA 0 ≠ 0xFF ∧ (tClosed.pulseIn (tClosed.pulseA 0)).closed.isSome = true ∧
    tClosed.regionUp (tClosed.homeRegion 0) = true ∧ tClosed.guarded 0 = false ∧ tClosed.regionGated (tClosed.homeRegion 0) = false := by decide +kernel
theorem wit_SettingsAndPulses_gated : tClosedGated.hasStream 0 = true ∧ tClosedGated.pulseA 0 ≠ 0xFF ∧ (tClosedGated.pulseIn (tClosedGated.pulseA 0)).closed.isSome = true ∧
    tClosedGated.regionUp (tClosedGated.homeRegion 0) = true ∧ tClosedGated.guarded 0 = false ∧ tClosedGated.regionGated (tClosedGated.homeRegion 0) = true := by decide +kernel
/-- No pair is at its commit and no region restarts. -/
theorem tUp_none : tUp.NoneDue := ⟨fun _ => rfl, rfl⟩
theorem tPin_none : tPin.NoneDue := ⟨fun _ => rfl, rfl⟩

/-- A sequence whose firing is due, with the lane powered and the clock locked, or not. -/
def tSeq : ShotSeq := { head := 0, shot := 0, onB := false, rep := 0, reps := 1, avgs := [], cycle := 0, due := 81920, wait := none }
def tFire : State :=
  { (tUp.set F.CLK.STATUS.ACQ_LOCK 1).set (F.ACQ.LANE_STAT.PWR 0) 1 with acq := { tUp.acq with seqs := [tSeq] } }
def tCold : State := { tUp with acq := { tUp.acq with seqs := [tSeq] } }
def tNotice : Notice := { shot := 0, lane := 0, flags := 0, nsamp := 0, gain := 0, rep := 0, peak := 0, satcnt := 0, cycle := 0, tx := 0, reps := 1, lost := false }
/-- Lane 15 has fired: it connects at 2 and its window is from 3 to 5. -/
def tLane : State := { tUp with acq := { tUp.acq with lanes := [(15, { fired := true, shot := 0, rep := 0, reps := 1, cycle := 0, tx := 0, buf := 1, gain := 0, conn := 2, opens := 3, close := 5, upTo := 5 })] } }

theorem wit_Acquisition : (tFire.acq.seqs[0]? = some tSeq ∧ tSeq.wait = none ∧ tFire.fireNext tSeq = true ∧
    ((tFire.advanceTo tSeq.due).settle).fireCheck (((tFire.advanceTo tSeq.due).settle).seqShot tSeq) tSeq.due = 0 ∧ ((tFire.advanceTo tSeq.due).settle).shotMute (((tFire.advanceTo tSeq.due).settle).seqShot tSeq) = false) ∧
    (tCold.acq.seqs[0]? = some tSeq ∧ tCold.fireNext tSeq = true ∧ ((tCold.advanceTo tSeq.due).settle).fireCheck (((tCold.advanceTo tSeq.due).settle).seqShot tSeq) tSeq.due ≠ 0) ∧
    (tLane.lane 15).fired = true ∧ (tLane.lane 15).conn < (tLane.lane 15).close ∧ tLane.on (F.ACQ.LANE_STAT.CONN 15) = false ∧ (tUp.lane 15).close ≤ (tUp.lane 15).conn ∧ (1 : Word).toNat % 2 = 1 ∧
    (let s := { tUp with echo := { tUp.echo with queue := [(3, [tNotice])] } }; s.noticeQ 3 = tNotice :: []) ∧ tNotice.lost = false ∧ tUp.noticeQ 3 = [] := by decide +kernel
theorem tFire_none : tFire.NoneDue := ⟨fun _ => rfl, rfl⟩

/-- BLOCK 0 with one comb-integrator cell of decimation 2, CHAIN 0 on it without a swap group, and the chain runs. -/
def tBlock : Nat × Nat × Nat × List Byte := (3, 0, 0x100, leBytes 16 0 ++ [1, 0, 0, 1] ++ leBytes 2 2 ++ leBytes 10 0)
def tChains : Nat × Nat × Nat × List Byte := (7, 0, 0x140, leBytes 16 1 ++ leBytes 2 0 ++ [0, 0, 1, 0xFF] ++ leBytes 2 0 ++ leBytes 12 1000 ++ [0xFF])
def tChain : Chain :=
  { e0 := 0, n := 0, k := 0, settle := 0, skip := none, good := 0, cells := [], swapIn := none, resyncIn := false, holds := [], rec_ := none, ramps := [], marks := [], past := [] }
def tFab : State := { tUp.set F.FLT.BOOT_STATUS.SLOT 1 with mem := tLay [tBlock, tChains], fabric := { tUp.fabric with chains := [(0, tChain)] } }
def tFabPend : State := tFab.set (F.CHAIN.BANK.PEND 0) 1

/-- A swap of block 0 is due. -/
def tFabSwap : State := { tFabPend with fabric := { tFabPend.fabric with swaps := [(0x80, { trig := 0xFF, due := some 0 })] } }
/-- A swap is pending for a target, or a bank of it cannot be taken. -/
def tSwapBusy (s : State) (g : Nat) : Bool :=
  (alFind s.fabric.swaps g).isSome || (s.targetBlocks g).any (fun b => s.on (F.CHAIN.BANK.PEND b)) || (s.targetBlocks g).any (fun b => s.bankCont b (1 - s.bankActive b) == 2)

theorem wit_ChainsAndBanks : alFind tFab.fabric.chains 0 = some tChain ∧ tFab.chainEcho 0 = false ∧ tFab.lineBad 0 = none ∧ 0 ≤ tFab.chainF 0 0x10 4 ∧ [true, false].length = tChain.skipNow + tFab.chainDecim 0 ∧
    (tFabPend.sect 3 0).isSome = true ∧ tFabPend.on (F.CHAIN.BANK.PEND 0) = true ∧ (tFab.sect 3 0).isSome = true ∧ tFab.on (F.CHAIN.BANK.PEND 0) = false ∧ (tFab.sect 3 31).isNone = true ∧
    tFabPend.targetOk 0x80 = true ∧ tSwapBusy tFabPend 0x80 = true ∧ tFab.targetOk 0x80 = true ∧ tSwapBusy tFab 0x80 = false ∧ tFab.targetRuns 0x80 = true ∧ tFab.targetOk 16 = false := by decide +kernel
theorem wit_ChainsAndBanks_idle : (let s := { tFab with fabric := { tFab.fabric with chains := [] } }; s.targetOk 0x80 = true ∧ tSwapBusy s 0x80 = false ∧ s.targetRuns 0x80 = false) := by decide +kernel
theorem wit_ChainsAndBanks_swap : ((alFind tFabSwap.fabric.swaps 0x80).bind (tFabSwap.swapAt 0x80)).isSome = true ∧ tFabSwap.acq.lanes = [] ∧ ((alFind tFab.fabric.swaps 0x80).bind (tFab.swapAt 0x80)).isNone = true := by decide +kernel
theorem tFabSwap_none : tFabSwap.NoneDue := ⟨fun _ => rfl, rfl⟩

/-- CALLIM with an entry for reference calibration every 60 s; a run that waits, with a full and with an empty bank. -/
def tLim : Nat × Nat × Nat × List Byte := (10, 0, 0x100, leBytes 16 1 ++ [1, 0] ++ leBytes 6 0 ++ leBytes 8 60)
def tCal : State := { tUp.set F.FLT.BOOT_STATUS.SLOT 1 with mem := tLay [tLim], cal := { tUp.cal with since := [(256, 0)] } }
def tJob4 : CalJob := { sort := 4, channel := 0, byDue := true, byCommand := false, postponed := 0, due := 0, after := 0, stop := 0, held := [], slept := false }
def tQueue (codes : List Nat) : State := { tSpn with cal := { tSpn.cal with queue := [tJob4] }, spn := { tSpn.spn with codes := codes } }

theorem wit_CalibrationRuns : tCal.calDueAt 1 0 = some 60 ∧ tCal.time.fast = true ∧ (let s := { tCal with time := { tCal.time with fast := false } }; s.calDueAt 1 0 = some 60 ∧ s.boot.cls ≠ 1 ∧ s.pins.heldAo = false ∧ s.cal.running = none) ∧ tCal.cal.running = none ∧
    (let s := tQueue [2048]
     s.cal.running = none ∧ s.time.fast = true ∧ s.on F.SPN.STATUS.RUN = true ∧ s.on F.SPN.STATUS.PFAIL = false ∧ s.spn.held = false ∧
     calFirst (s.cal.queue.filter fun (i : CalJob) => !i.slept && (i.after == 0 || decide (i.after < s.time.cycle))) = some tJob4 ∧
     (match s.calSlot tJob4 with
      | some (start, _) => ((s.advanceTo start).settle).energyTest start (calEnergy 4) && ((s.advanceTo start).settle).heatTest
      | none => false) = true) ∧
    (let s := tQueue []
     s.cal.running = none ∧ s.time.fast = true ∧ s.on F.SPN.STATUS.RUN = true ∧ s.on F.SPN.STATUS.PFAIL = false ∧ s.spn.held = false ∧
     calFirst (s.cal.queue.filter fun (i : CalJob) => !i.slept && (i.after == 0 || decide (i.after < s.time.cycle))) = some tJob4 ∧
     (match s.calSlot tJob4 with
      | some (start, _) => ((s.advanceTo start).settle).energyTest start (calEnergy 4) && ((s.advanceTo start).settle).heatTest
      | none => true) = false) ∧
    (let s := { tUp with cal := { tUp.cal with running := some tJob4 } }; s.cal.running = some tJob4 ∧ s.hscRuns = true) ∧
    (let z : ZeroCal := { stream := 0, param := 0, limit := 0, left := 0, sum := 0, count := 0, possible := 0, paths := 0, mask := 0, changed := false, slot := 0, tag := 0 }
     z.left = 0 ∧ ({ tUp with cal := { tUp.cal with zero := some z } }).hscRuns = true ∧ ({ z with left := 1 } : ZeroCal).left ≠ 0) := by decide +kernel

theorem wit_BusAccesses_stores : 9 < (if 0 = 0 then 10 else 8) ∧ ¬ (0 = 1 ∧ 0 < 2 ∧ 0x10000000 = csrAddr 0) ∧ tUp.domRuns 0 = true ∧ pmpRefuses 0 0 0x10000000 = false ∧ tUp.accessKind 0 0 true 0x10000000 16 = 0 ∧
    isPeriph 0x10000000 = false ∧ tUp.accessKind 0 0 true 0x400A0000 4 = 0 ∧ pmpRefuses 0 0 0x400A0000 = false ∧ isPeriph 0x400A0000 = true ∧ pmpRefuses 0 0 0x13000000 = true ∧
    tUp.pins.heldAo = false ∧ tUp.aocKind 0x6000FFF0 16 true = 0 ∧ 0x6000FFF0 < 0x60010000 ∧ (2 ≠ 4 ∨ 0 = 1) ∧ tUp.accessKind 0 0 true 0x20000000 4 = 1 ∧ (1 ≤ 1 ∧ 1 < 7) ∧
    (tUp.set (F.BUS.ERR.VALID 0) 1).on (F.BUS.ERR.VALID 0) = true ∧ tUp.on (F.BUS.ERR.VALID 0) = false := by decide +kernel

/-- Master 1 has read W0 of the group at 0x1000_0000. -/
def tSnapped : State := { tUp with snaps := [(1, [{ addr := 0x10000000, w1 := 1, w2 := 2, w3 := 3 }])] }
theorem wit_BusAccesses_debug : tUp.pins.vddioS = true ∧ tUp.pins.heldH = false ∧ tUp.domRuns 0 = true ∧ tUp.on F.SEAL.STATUS.DEBUG_EN = false ∧
    (tUp.set F.SEAL.STATUS.DEBUG_EN 1).on F.SEAL.STATUS.DEBUG_EN = true ∧ (tUp.set F.SEAL.STATUS.DEBUG_EN 1).hscUp = true ∧ (tUp.set F.SEAL.STATUS.DEBUG_EN 1).domRuns 0 = true ∧
    tCore.pins.vddioS = true ∧ tCore.pins.vddSw = true ∧ tCore.pins.heldS = false ∧ alFind tCore.cores 0 = some { Core.reset with running := true } ∧
    (let s := { tUp with cores := [(1, { Core.reset with running := true, halted := true })] }; alFind s.cores 1 = some { Core.reset with running := true, halted := true }) ∧ 4 < 5 ∧
    ({ tUp with pins := { tUp.pins with vddioS := false } } : State).pins.vddioS = false ∧
    tUp.accessKind 0 0 false 0x10000000 16 = 0 ∧ (hwSram 0x10000000 || (tallyWindow 0x10000000).isSome) = true ∧ tUp.accessKind 0 0 false 0x400D0400 4 = 0 ∧
    (hwSram 0x400D0400 || (tallyWindow 0x400D0400).isSome) = true ∧ isPeriph 0x400D0400 = true ∧
    tSnapped.accessKind 0 1 false (0x10000000 + 4 * 3) 4 = 0 ∧ (hwSram (0x10000000 + 4 * 3) || (tallyWindow 0x10000000).isSome) = true ∧ tSnapped.domRuns 0 = true ∧
    (alGet [] tSnapped.snaps 1).find? (fun e => e.addr == 0x10000000) = some { addr := 0x10000000, w1 := 1, w2 := 2, w3 := 3 } := by decide +kernel

/-! Witnesses: the gateway. Key slot 0 holds the public key of the private key 7, with every permission; the signatures are made with it over the messages of R518. -/

def tKeyX : Nat := 0x8e533b6fa0bf7b4625bb30667c01fb607ef9f8b8a80fef5b300628703187b2a3
def tKeyY : Nat := 0x73eb1dbde03318366d069f83a6f5900053c73633cb041b21c55e1a86c1f400b4
/-- The first word of every signature of these tests (one nonce). -/
def tR : Nat := 0x74daa59b8b43bfe0d20031cf705a0b98d5b9746a67b4fd495d3eccbf71a86c25
def tSig (n : Nat) : Option Sig := some { slot := 0, counter := 1, serial := 0, r := tR, s := n }
def tGw (args : List Word) (g : Option Sig) : GwCmd := { tag := 0x33, args := args, sig := g }
/-- The seal is open and the key is there. -/
def tKeyed : State := { tOpen with keys := { filled := true, perm := 0x7F, counter := 0, x := tKeyX, y := tKeyY } :: List.replicate 3 { filled := false, perm := 0, counter := 0, x := 0, y := 0 } }
/-- The same with an image of stream 0 and a parameter 5 of it; with a load of slot A; with slot B checked, and its image signed. -/
def tParam : Nat × Nat × Nat × List Byte := (11, 0, 0x200, leBytes 16 1 ++ leBytes 2 5 ++ [0, 0] ++ leBytes 12 0)
def tZero : State := { tKeyed.set F.FLT.BOOT_STATUS.SLOT 1 with mem := tLay [tStream, tParam] }
def tLoad : State := { tKeyed with gw := { tKeyed.gw with load := some { slot := 1, length := 4096, got := 0, since := 0 } } }
def tSlotB : State :=
  { tKeyed with
    sel := { tKeyed.sel with valid := true, bState := 2 }
    mem := tCells 0x0880000C (leBytes 4 1024) ++ tCells 0x08800012 [0] ++
      tCells 0x088003C0 (beBytes 32 tR ++ beBytes 32 0xcce97b80a5783172bac0fd0d69973c48bb51b077e9d3475b7fa87f0bb559e512) }

/-- A command that is sent is accepted. -/
def tAccepts (s : State) (code : Nat) (c : GwCmd) : Bool := s.gwOpen && s.gw.check.isNone && (s.gwPut 0 (gwWords code c)).gwReason code c == 0

theorem tAccepts_accepted (s : State) (code : Nat) (c : GwCmd) (h : tAccepts s code c = true) : ∃ a, s.Accepted code c a := by
  simp only [tAccepts, Bool.and_eq_true, beq_iff_eq, Option.isNone_iff_eq_none] at h; exact ⟨_, h.1.1, h.1.2, h.2, rfl⟩

/-- The gateway is open, and checks a command. -/
def tOpenCheck : State := { tOpen with gw := { tOpen.gw with check := some [] } }

theorem wit_GatewayChecks : tOpen.gw.check = none ∧ tOpenCheck.gwOpen = true ∧ tOpenCheck.gw.check ≠ none ∧ tOpen.gwOpen = true ∧ 1 ≤ 1 ∧ 18 ≤ 18 ∧ (tOpen.gwPut 0 (gwWords 18 (tGw [] none))).gwReason 18 (tGw [] none) ≠ 0 ∧
    tAccepts tKeyed 16 (tGw [] (tSig 0x71b3f479b0b4724587a1a2797a7542bd91b412b79e3483a07ff457164b9c9892)) = true ∧ tKeyed.keys.length = 4 := by decide +kernel

theorem wit_GatewayActs_reads : tAccepts tOpen 1 (tGw [] none) = true ∧ tAccepts tOpen 2 (tGw [] none) = true ∧ tAccepts tOpen 3 (tGw [0] none) = true ∧ tAccepts tOpen 4 (tGw [1, 0] none) = true ∧
    tAccepts tOpen 5 (tGw [BitVec.ofNat 32 (F.TIME.CMPOFS.ALL 0).addr, 0] none) = true ∧ tAccepts tZero 6 (tGw [5, 1, 0] none) = true ∧ tAccepts tOpen 7 (tGw [0, 1, 200000000] none) = true ∧
    tAccepts tOpen 8 (tGw [0, 0, 0, 0, 1] none) = true ∧ tAccepts tOpen 13 (tGw [0] none) = true ∧ (tOpen.calNamed 0 0).isEmpty = true ∧ tAccepts tCal 13 (tGw [0x101] none) = true ∧
    (tCal.calNamed 1 0).isEmpty = false := by decide +kernel

theorem wit_GatewayActs_zero : tAccepts tZero 14 (tGw [0x100000, 5, 100] (tSig 0xe15e31b87be0ca21cd87357aa7651a4a771f9520a2e626bc45e5aaf050e49d6d)) = true := by decide +kernel
theorem wit_GatewayActs_clear : tAccepts tKeyed 15 (tGw (List.replicate 9 0) (tSig 0xf9762f5cca557f32e190c592b99760a1f158fd25cd5b43b3895d922d10ed4565)) = true := by decide +kernel

theorem wit_GatewayLoads_image : tAccepts tOpen 9 (tGw [1, 4096] none) = true ∧ tAccepts tLoad 10 (tGw [1] none) = true ∧ tAccepts tLoad 11 (tGw [] none) = true ∧ tLoad.gw.load.isSome = true ∧
    tAccepts tOpen 17 (tGw (List.replicate 17 0) none) = true ∧ tLoad.time.fast = true ∧ tOpen.gwOpen = true ∧ tOpen.gw.check = none ∧ tOpenCheck.gw.check = some [] ∧ gwShort ((tOpen.gwPut 0 [0, 0]).gwBuf) = true ∧
    (tLoad.gw.load.map fun l => l.slot) = some 1 ∧ (let s := { tOpen with gw := { tOpen.gw with key := some (tGw (List.replicate 17 0) none) } }; s.pending = [] ∧ s.gw.key = some (tGw (List.replicate 17 0) none)) := by decide +kernel

theorem wit_GatewayLoads_refused : tAccepts tKeyed 12 (tGw [1] (tSig 0x2d8567e19fe6b397ef6519fe3f8ff6e1239d9b678aa9493d69cf396b201b82d4)) = true ∧ tKeyed.activateStatus 1 ≠ 0 := by decide +kernel
theorem wit_GatewayLoads_hreset : tAccepts tKeyed 16 (tGw [] (tSig 0x71b3f479b0b4724587a1a2797a7542bd91b412b79e3483a07ff457164b9c9892)) = true := by decide +kernel
theorem wit_GatewayLoads_debug : tAccepts tKeyed 18 (tGw [] (tSig 0x1ba0ea9cdd3e3567b4e880a0d5279436081d4e82a82e88c1054e97947d0b4d23)) = true := by decide +kernel

theorem wit_GatewayLoads_activate : tAccepts tSlotB 12 (tGw [2] (tSig 0x6c8715bae0421924e6882b1983ab3bc4145fa886f9d273c645d110e1e51e2c58)) = true := by decide +kernel
theorem wit_GatewayLoads_signed : tSlotB.slotState 2 = 2 ∧ tSlotB.slot ≠ 2 ∧ tSlotB.imgSigned 2 = true := by decide +kernel
theorem wit_GatewayLoads_status : tSlotB.activateStatus 2 = 0 := by
  have h := wit_GatewayLoads_signed
  simp [State.activateStatus, h.1, h.2.1, h.2.2]

/-! Witnesses: frames and rules of one operation. -/

theorem wit_OnlyTheseChangeAuthority : ∃ t, exec .clrOvr State.reset = .next t := ⟨_, rfl⟩
theorem wit_OnlyTheseChangeUnits : ∃ t, exec .clrOvr State.reset = .next t := ⟨_, rfl⟩

theorem wit_RegisterFrames : (∃ t, exec (.twRxdata 7) tUp = .next t) ∧ (∃ t, exec (.twmRead 1) tUp = .next t) ∧ (∃ t, exec (.claim 0 0) tUp = .next t) ∧ (∃ t, exec (.tmrStop 3 0) tUp = .next t) ∧
    (∃ t, exec (.wdtKick 0x5744) tUp = .next t) ∧ tUp.twm.ptr ≤ 7 ∧ icRegs (F.SEAL.STATUS.ALL).addr = false ∧ (F.SEAL.STATUS.ALL).addr < twBase 7 ∧ (F.SEAL.STATUS.ALL).addr < 0x140000080 ∧
    (F.SEAL.STATUS.ALL).addr < tmrBase 3 ∧ (F.SEAL.STATUS.ALL).addr ≠ F.TMR.WDT_STAT.ALL.addr :=
  ⟨⟨_, rfl⟩, ⟨_, rfl⟩, ⟨_, rfl⟩, ⟨_, rfl⟩, ⟨_, rfl⟩, by decide +kernel⟩

def tFull : State := { State.reset with ring := { entries := List.replicate 2048 tEntry, nextSeq := 2048, snap := none, live := true, wait := [] } }
theorem wit_RingDiscardsOldest : State.reset.ring.entries.length < 2048 ∧ tFull.ring.entries = tEntry :: List.replicate 2047 tEntry ∧ (List.replicate 2047 tEntry).length = 2047 :=
  ⟨by decide, List.replicate_succ, List.length_replicate⟩

theorem wit_ControllersReset : State.reset.Canonical ∧ icBase 1 ≤ (F.IC.CTRL.ALL 1).addr ∧ (F.IC.CTRL.ALL 1).addr < icBase 1 + 0x1000 ∧ (findSpec regTable (F.IC.CTRL.ALL 1).addr).isSome = true :=
  ⟨wit_StepKeepsCanonical.1, by decide +kernel⟩

/-! Worked examples of the spec. Every expected value stands in the chapter named. -/

/-- The state after a command. -/
def tAfter (c : Instr) (s : State) : State := match exec c s with
  | .next t => t
  | _ => s

/-- Chapter 1, R33: the SRAM of RGN1 ends at 0x1037_FFFF. -/
theorem test_region_hole : memMapped 0x1037FFFF = true ∧ memMapped 0x10380000 = false := by decide +kernel

/-- Chapter 7: the SOSN of path 1, from the times of flight of shots 2 and 3 in 2^-16 ps. -/
theorem test_echo_sosn : sosn 17956953620480 17967246999552 = 239112775 := by decide +kernel

/-- Chapter 7: the time of flight of shot 2: peak at 960.2168 samples of 6,250 ps, DELAY 42,880, skew 12.5 ps. -/
theorem test_echo_tof : tofOf 42880 0 (9602168 * 2 ^ 64 / 10000) (25 * 32768) = 17956953620480 := by decide +kernel

/-- Chapter 8: the settings of the Brenholt station are taken while the seal is open. -/
theorem test_sl_write : (tAfter (.slWrite 0x400A0030 0x623) tOpen).get (F.SDC.CFG.ALL 12) = 0x623 := by decide +kernel

/-- Chapter 9: the chain of the Varsenne pressure transducer has D = 409,600 and L = 5,652,480. -/
def tVarsenne : State :=
  { tUp.set F.FLT.BOOT_STATUS.SLOT 1 with
    mem := tLay [(3, 0, 0x100, leBytes 16 0 ++ [1, 6, 0, 4] ++ leBytes 6 4096 ++ leBytes 2 0 ++ leBytes 4 26 ++ [3, 0, 1, 0] ++ leBytes 4 10 ++ leBytes 4 96 ++ leBytes 4 22 ++ [3, 0, 1, 0] ++ leBytes 4 10 ++
      leBytes 4 128 ++ leBytes 4 22), (7, 0, 0x180, leBytes 16 1 ++ leBytes 2 0 ++ [0, 0, 3, 0xFF] ++ leBytes 2 0 ++ leBytes 12 10000 ++ [0xFF])] }
theorem test_chain_spans : tVarsenne.chainDecim 0 = 409600 ∧ tVarsenne.chainSpan 0 = 5652480 := by decide +kernel

/-- Chapter 10: P = qm * dh of the steam transfer, with its word, and the counts that E adds to T4. -/
def tPower : Mq := { v := 4985800 * 2 ^ 40, u := 12789888 * 2 ^ 119, unit := 0x15, fl := 0, q := 0 }
theorem test_mq_word : tPower.word = 0x00004C13C80000000000F7C328805400 ∧ Mq.ofWord tPower.word = tPower := by decide +kernel
theorem test_mq_power : Mq.mul true 0x15 { v := 2 * 2 ^ 40, u := 2 ^ 128 / 100, unit := 7, fl := 0, q := 0 } { v := 2492900 * 2 ^ 40, u := 79965 * 2 ^ 128 / 100, unit := 0x2B, fl := 0, q := 0 } = some tPower := by
  decide +kernel
theorem test_total_counts : totCounts tPower.v = 0x4C13C800000000 := by decide +kernel
/-- Chapter 10: a word of another unit than the descriptor's raises the UNIT trap, and the totalizer keeps its value. -/
theorem test_tacc_unit : ((tAfter (.tacc 0 0 0 false) (tAt (.tacc 0 0 0 false) tRun)).pair 0).task = none ∧ ((tAfter (.tacc 0 0 0 false) (tAt (.tacc 0 0 0 false) tRun)).pair 0).tot = [] := by decide +kernel

/-- Chapter 12: words of the steam stream's program, on TP4. -/
theorem test_program_words : ([0x3A006000, 0xB8000001, 0x820C0004, 0x48388301, 0x68218800, 0x820E0008, 0x40638800, 0x84820C00, 0x48A12741, 0x50A50760, 0x80D30001].map fun w => progDecode 4 w 0) =
    [some (.li 4 4 0x6000), some (.inChain 4), some (.ldp 4 16 4 0x18), some (.mulU 4 1 24 16 0x18), some (.uwid 4 1 1 17), some (.ldp 4 16 8 0x1C), some (.addC 4 3 3 17), some (.prop 4 4 2 3 false),
     some (.mulU 4 5 1 4 0x3A), some (.sqrt 4 5 5 0x3B), some (.ldp 4 6 1 0x26)] := by decide +kernel
theorem test_program_words_end : ([0x480628E1, 0x38000001, 0x74E1E000, 0x49003880, 0xB2032001, 0xA0040000, 0xC0000000, 0xC4000000, 0xBC000000].map fun w => progDecode 4 w 0) =
    [some (.mulU 4 0 6 5 7), some (.li 4 0 1), some (.cvt 4 7 0 0x1E 0), some (.mulC 4 8 0 7 4), some (.br 4 8 1 18 1), some (.tacc 4 0 8 false), some (.emitv 4 0), some (.emitt 4 0), some (.tend 4 true)] := by decide +kernel

/-- Chapter 14: the rate of the slew is 100.45 ppm; the step of 254,300 s and 412 ns is exact. -/
theorem test_slew_rate : rateLimit (tAfter (.timeSlew (tGw [450000, 600000, 100000000] none)) tShut).time.asked = 100450000 := by decide +kernel
theorem test_step : shiftT (254300000000412 * 65536) (2000000752378920000 * 65536) = 2000255052378920412 * 65536 := by decide

/-- Chapter 21: the re-pend after the eighth masks source 69 and sets bit 5 of STORM2; the one before it pends. -/
def tStorm (n : Nat) : State :=
  { ((tUp.set (activeF 1 69) 1).set (F.IC.SRC_CFG.EN_T0 1 69) 1).set (F.IC.STORMCFG.ALL 1) 0x03E80008 with sic := { Ic.reset with own := [(69, 0)], storm := [(69, (n, 0))] }, gpioS := [5] }
theorem test_storm_masks : (tAfter (.complete 1 0 69) (tStorm 8)).on (F.IC.STORM.STORM 1 2) = true ∧ (tAfter (.complete 1 0 69) (tStorm 8)).on (pendF 1 69) = false := by decide +kernel
theorem test_storm_repends : (tAfter (.complete 1 0 69) (tStorm 7)).on (stormF 1 69) = false ∧ (tAfter (.complete 1 0 69) (tStorm 7)).on (pendF 1 69) = true := by decide +kernel
/-- Chapter 21: a second read of CLAIM while the source is active returns VALID 0. -/
theorem test_second_claim : (tAfter (.claim 1 0) (tStorm 0)).get (F.IC.CLAIM.VALID 1 0) = 0 := by decide +kernel

/-- Chapter 22, R451: TOP 999 and count 500; a compare of 501 matches on the next tick, one of 500 not. -/
def tCount (cmp count : Nat) : TcGroup := ((((tUp.set (F.TMR.CTRL.RUN 0 0) 1).set (F.TMR.TOP.TOP 0 0) 999).set (F.TMR.CMP.CMP 0 0) cmp).set (F.TMR.COUNT.COUNT 0 0) count).tmrLoad 0
theorem test_compare_next : (tCount 501 500).tick.mat = [0] ∧ (tCount 500 500).tick.mat = [] ∧ ((tCount 500 500).tick.c 0).count = 501 := by decide +kernel
/-- Chapter 22, R449: the tick after TOP ends the period and leaves 0. -/
theorem test_period_end : (tCount 0 999).tick.per = [0] ∧ ((tCount 0 999).tick.c 0).count = 0 ∧ (tCount 0 999).tick.mat = [0] := by decide +kernel

/-- Chapter 23: TW2 writes 0x01 to 0x48 and reads 2 bytes; it loses at bit 0 of byte 1 and tries again; at the acknowledge of its last read byte it loses for good, with both bytes received. -/
def tHalvard : State :=
  { (((tUp.set (F.TW.CMD.ADDR 2) 0x48).set (F.TW.CMD.NW 2) 1).set (F.TW.CMD.NR 2) 2).set (F.TW.CFG.RETRY 2) 3 with tw := [(2, tTwP true false [1] [])] }
theorem test_arb_retry : let t := tAfter (.arbLost 2 1 0 []) tHalvard
    t.get (F.TW.POS.BYTE 2) = 1 ∧ t.get (F.TW.POS.BIT 2) = 0 ∧ t.get (F.TW.POS.KIND 2) = 2 ∧ t.get (F.TW.POS.ATTEMPTS 2) = 1 ∧ (t.twp 2).retry = true := by decide +kernel
theorem test_arb_late : let t := tAfter (.arbLost 2 4 8 [0x11, 0x22]) tHalvard
    t.get (F.TW.STATUS.RESULT 2) = 2 ∧ (t.twp 2).run = false ∧ (t.twp 2).rx = [0x11, 0x22] := by decide +kernel

/-- Chapter 24: a fetch at 0x3012_3454 reads the line at offset 0x0012_3440. -/
def tOctal : State := (tUp.set F.CSP.XIP_CFG.SIZE 7).set F.CSP.XIP_CFG.EN 1
theorem test_xip_line : (tAfter (.xipFetch 0 0x30123454 [7] false) tOctal).cspx.lines.map (fun l => 32 * l.1) = [0x00123440] := by decide +kernel

/-- Chapter 25: a Sync with MSGID 0x41 and NEXTGEN 7 takes GEN 7, and NEXTGEN becomes 8. -/
def tSync1 : State := { (tEth 0 { tMac with tsq := [] }).set (F.ETH.TSQ_STAT.NEXTGEN 2) 7 with mem := tCells 0x120000000 (leBytes 4 0x20000800 ++ leBytes 4 (2 ^ 31 + 2 ^ 29 + 14) ++ leBytes 4 0x41) }
theorem test_eth_gen : (tAfter (.ethTransmitFrame 2 0) tSync1).get (F.ETH.TSQ_STAT.NEXTGEN 2) = 8 ∧ ((tAfter (.ethTransmitFrame 2 0) tSync1).macOf 2).tsq.map (fun e => (e.msgid, e.gen)) = [(0x41, 7)] := by
  decide +kernel

/-- Chapter 26: 70 bits are SHORT; EVENTS is BUSY while CAL_RUN of TAG 0x31 runs, and HSTATUS is answered; the CRC is CRC-32C, with its published check value; the reply of the run. -/
theorem test_short : tSel.csp4Cause 70 [] = 1 := by decide +kernel
def tLong : State := { tSel.set F.HOST.CFG.EN 1 with host := { tSel.host with long := some { code := 0x0D, tag := 0x31, chan := 0, since := 0 } } }
theorem test_events_busy : (tAfter (.csp4Frame 128 (tMsg 0x102 0x32 [1]).words) tLong).cspx.out.take 2 = [0x80030102, 0xF0010032] := by decide +kernel
theorem test_hstatus : (tMsg 0x100 0x33 []).words.take 2 = [0x00030100, 0x33] ∧
    (tAfter .hstatus (tAfter (.csp4Frame 96 (tMsg 0x100 0x33 []).words) tLong)).cspx.out.take 3 = [0x80070100, 0x00000033, 0x0031000D] := by decide +kernel
theorem test_result_words : (hostWords 0x0D 0x31 0 [2, 0, 0]).take 5 = [0x8006000D, 0x31, 2, 0, 0] ∧ (tMsg 0x0D 0x31 [0x601]).words.take 3 = [0x0004000D, 0x31, 0x601] := by decide +kernel
theorem test_crc32c : crc32c [0x31, 0x32, 0x33, 0x34, 0x35, 0x36, 0x37, 0x38, 0x39] = 0xE3069283 := by decide +kernel

/-- SHA-256 of "abc", the first test vector of the standard that R90 names. -/
theorem test_sha256 : beNat (sha256 [0x61, 0x62, 0x63]) = 0xba7816bf8f01cfea414140de5dae2223b00361a396177a9cb410ff61f20015ad := by decide +kernel

/-- Chapter 3, R68: before the first task commits an entry waits outside the ring; a RESULT does not wait (R20). -/
theorem test_ring_waits : (State.reset.ringPut 1 0 0 0 []).ring.entries = [] ∧ (State.reset.ringPut 1 0 0 0 []).ring.wait.length = 1 ∧ (State.reset.ringPut 6 0 0 0 []).ring.entries.length = 1 := by decide +kernel

end Tests
end

section
/-! SUPPORT. What the commands of the bus masters and of the debug modules come to (R421 to R435, R533 to R535): stores to memory, captured errors, halts and resumes, snapshot entries. -/

namespace Sys2Proof.Machine

theorem exec_guardUnit {s t : State} {c : Instr} {b : Bool} (h : exec c s = guardUnit b t) (hb : b = true) : exec c s = .next t := by
  rw [h, guardUnit, if_pos hb]

theorem State.Completes.of_next {s t : State} {c : Instr} {P : State → Prop} (h : exec c s = .next t) (hP : P t) : s.Completes c P := ⟨t, h, hP⟩

/-- What `π` shows is the same in both states. -/
def Keeps {α : Type} (π : State → α) (s t : State) : Prop := π t = π s

theorem Keeps.refl {α : Type} {π : State → α} (s : State) : Keeps π s s := rfl

/-- What keeps `π`, after a state that keeps it. -/
theorem Keeps.after {α : Type} {π : State → α} {s t u : State} (h2 : Keeps π t u) (h1 : Keeps π s t) : Keeps π s u := Eq.trans h2 h1

theorem Keeps.ite {α : Type} {π : State → α} {s t u : State} {c : Prop} [Decidable c] (h1 : Keeps π s t) (h2 : Keeps π s u) : Keeps π s (if c then t else u) := by
  split <;> assumption

/-! Memory as a store leaves it. -/

theorem ldB_congr {s t : State} (h : t.mem = s.mem) (a : Nat) : t.ldB a = s.ldB a := by rw [State.ldB, State.ldB, h]

theorem ldBytes_congr {s t : State} (h : t.mem = s.mem) (a n : Nat) : t.ldBytes a n = s.ldBytes a n := by
  induction n generalizing a with
  | zero => rfl
  | succ n ih => rw [State.ldBytes, State.ldBytes, ldB_congr h, ih]

/-- A state whose memory is that of `s` after a store of `bs` at `a`: the bytes stored are read back and no others differ. -/
theorem reads_of_stBytes {s t : State} {a : Nat} {bs : List Byte} (h : t.mem = (s.stBytes a bs).mem) :
    t.ldBytes a bs.length = bs ∧ ∀ c, (c < a ∨ a + bs.length ≤ c) → t.ldB c = s.ldB c :=
  ⟨by rw [ldBytes_congr h, ldBytes_stBytes], fun c hc => by rw [ldB_congr h, ldB_stBytes_out s a bs hc]⟩

theorem busMem_mem (s : State) (dom master addr : Nat) (bs : List Byte) : (s.busMem dom master addr bs).mem = (s.stBytes (tag dom addr) bs).mem := by
  unfold State.busMem State.heal State.snapDrop
  dsimp only
  split <;> split <;> rfl

theorem aocWrite_of_ok {s : State} {addr size : Nat} (v : W128) (hk : s.aocKind addr size true = 0) (ha : addr < 0x60010000) :
    (s.aocWrite addr size v).mem = (s.stBytes (addr - 0x60000000 + 0x14000000) (leBytes size v.toNat)).mem ∧ (s.aocWrite addr size v).regs = s.regs := by
  have h0 : ¬ 0x60010000 ≤ addr := by omega
  have hr := (State.stBytes_eff s (addr - 0x60000000 + 0x14000000) (leBytes size v.toNat)).regs rfl
  unfold State.aocWrite
  simp only [hk, h0, ne_eq, not_true, or_self, if_false, show ¬ (0 : Nat) = 4 by decide]
  split <;> exact ⟨rfl, hr⟩

/-! REGISTER_WRITE. -/

section
variable {s : State} {dom master addr size : Nat} {v : BitVec 128}

theorem registerWrite_wf (hd : dom < 2) (hm : master < (if dom = 0 then 10 else 8)) : Instr.wf (.registerWrite dom master addr size v) = true := by
  obtain rfl | rfl : dom = 0 ∨ dom = 1 := by omega
  all_goals simpa [Instr.wf] using hm

theorem exec_registerWrite (hd : dom < 2) (hm : master < (if dom = 0 then 10 else 8)) (hr : s.domRuns dom = true) (hp : pmpRefuses dom master addr = false) :
    exec (.registerWrite dom master addr size v) s = .next (s.busWrite dom master addr size v) := by
  refine exec_guardUnit rfl (registerWrite_wf hd hm) |>.trans ?_
  simp [hr, hp, show dom ≠ 2 by omega]

theorem exec_registerWrite_refused (hd : dom < 2) (hm : master < (if dom = 0 then 10 else 8)) (hp : pmpRefuses dom master addr = true) :
    exec (.registerWrite dom master addr size v) s = .next s := by
  refine exec_guardUnit rfl (registerWrite_wf hd hm) |>.trans ?_
  simp [hp]

theorem exec_registerWrite_aoc (hr : s.pins.heldAo = false) : exec (.registerWrite 2 0 addr size v) s = .next (s.aocWrite addr size v) := by
  refine exec_guardUnit rfl rfl |>.trans ?_
  simp [State.domRuns, hr, pmpRefuses]

theorem busWrite_mem (hc : ¬ (dom = 1 ∧ master < 2 ∧ addr = csrAddr master)) (hk : s.accessKind dom master true addr size = 0) (hp : isPeriph addr = false) :
    s.busWrite dom master addr size v = s.busMem dom master addr (leBytes size v.toNat) := by
  simp only [State.busWrite, hc, hk, hp, if_false, ne_eq, not_true, Bool.false_eq_true]

theorem busWrite_reg (hc : ¬ (dom = 1 ∧ master < 2 ∧ addr = csrAddr master)) (hk : s.accessKind dom master true addr size = 0) (hp : isPeriph addr = true) :
    s.busWrite dom master addr size v =
      if dom = 0 then (s.hwWrite addr (BitVec.ofNat 32 v.toNat)).snapDrop master addr else s.sapWrite (tag 1 addr) (BitVec.ofNat 32 v.toNat) := by
  simp only [State.busWrite, hc, hk, hp, if_false, if_true, ne_eq, not_true]

end

/-! BUS_ACCESS_ERROR. -/

theorem icRegs_busErr (dom : Nat) : icRegs (busErrBase dom) = false ∧ icRegs (busErrBase dom + 4) = false := by
  unfold busErrBase
  split <;> exact ⟨rfl, rfl⟩

section
variable (s : State) (dom kind master : Nat) (write : Bool) (addr : Nat)

/-- The registers of a captured error, before the interrupt that shows them. -/
def State.errCaptured : State :=
  let t := s.sat (F.BUS.ERR.COUNT dom) 1
  if t.on (F.BUS.ERR.VALID dom) then t.set (F.BUS.ERR.MULTI dom) 1
  else ((((t.set (F.BUS.ERR.KIND dom) kind).set (F.BUS.ERR.MASTER dom) master).setB (F.BUS.ERR.WRITE dom) write).set (F.BUS.ADDR.ADDR dom) addr).set (F.BUS.ERR.VALID dom) 1

theorem busError_get {f : Fld} (hf : f.addr = busErrBase dom ∨ f.addr = busErrBase dom + 4) :
    (s.busError dom kind master write addr).get f = (s.errCaptured dom kind master write addr).get f := by
  refine (icSample_regs _ dom 0).get ?_
  obtain h | h := hf
  · rw [h, (icRegs_busErr dom).1]
  · rw [h, (icRegs_busErr dom).2]

theorem busError_on {f : Fld} (hf : f.addr = busErrBase dom) : (s.busError dom kind master write addr).on f = (s.errCaptured dom kind master write addr).on f := by
  rw [State.on, State.on, busError_get (hf := .inl hf)]

theorem on_sat_disj {f g : Fld} (n : Nat) (hg : g.hi < 32) (h : g.hi < f.lo ∨ f.hi < g.lo) : (s.sat f n).on g = s.on g := by
  rw [State.on, State.on, State.sat, get_set_disj s _ hg h]

theorem on_set_disj {f g : Fld} (n : Nat) (hg : g.hi < 32) (h : g.hi < f.lo ∨ f.hi < g.lo) : (s.set f n).on g = s.on g := by
  rw [State.on, State.on, get_set_disj s _ hg h]

/-- An error while VALID is 1 is only counted and shown in MULTI. -/
theorem errCaptured_next (h : s.on (F.BUS.ERR.VALID dom) = true) : s.errCaptured dom kind master write addr = (s.sat (F.BUS.ERR.COUNT dom) 1).set (F.BUS.ERR.MULTI dom) 1 := by
  have hv : (s.sat (F.BUS.ERR.COUNT dom) 1).on (F.BUS.ERR.VALID dom) = true := by rw [on_sat_disj s 1 (by simp) (.inl (by simp)), h]
  simp [State.errCaptured, hv]

/-- The first error is captured whole. -/
theorem errCaptured_first (h : s.on (F.BUS.ERR.VALID dom) = false) : s.errCaptured dom kind master write addr =
    (((((s.sat (F.BUS.ERR.COUNT dom) 1).set (F.BUS.ERR.KIND dom) kind).set (F.BUS.ERR.MASTER dom) master).setB (F.BUS.ERR.WRITE dom) write).set (F.BUS.ADDR.ADDR dom) addr).set (F.BUS.ERR.VALID dom) 1 := by
  have hv : (s.sat (F.BUS.ERR.COUNT dom) 1).on (F.BUS.ERR.VALID dom) = false := by rw [on_sat_disj s 1 (by simp) (.inl (by simp)), h]
  simp [State.errCaptured, hv]

theorem busError_valid : (s.busError dom kind master write addr).on (F.BUS.ERR.VALID dom) = true := by
  rw [busError_on (hf := rfl)]
  cases h : s.on (F.BUS.ERR.VALID dom) with
  | true => rw [errCaptured_next (h := h), on_set_disj _ _ (by simp) (.inl (by simp)), on_sat_disj _ _ (by simp) (.inl (by simp)), h]
  | false => rw [errCaptured_first (h := h), on_set_one _ _ (by simp) rfl]

theorem busError_count : (s.busError dom kind master write addr).get (F.BUS.ERR.COUNT dom) = min 0xFFFF (s.get (F.BUS.ERR.COUNT dom) + 1) := by
  have hc : (s.sat (F.BUS.ERR.COUNT dom) 1).get (F.BUS.ERR.COUNT dom) = min 0xFFFF (s.get (F.BUS.ERR.COUNT dom) + 1) := by
    rw [State.sat, get_set _ _ _ (by simp)]
    exact Nat.mod_eq_of_lt (Nat.lt_of_le_of_lt (Nat.min_le_left _ _) (by simp [Fld.max]))
  have ha : (F.BUS.ERR.COUNT dom).addr ≠ (F.BUS.ADDR.ADDR dom).addr := by simp
  rw [busError_get (hf := .inl rfl), ← hc]
  cases h : s.on (F.BUS.ERR.VALID dom) with
  | true => rw [errCaptured_next (h := h), get_set_disj _ _ (by simp) (.inr (by simp))]
  | false =>
    rw [errCaptured_first (h := h), get_set_disj _ _ (by simp) (.inr (by simp)), get_set_addr _ _ ha, State.setB]
    iterate 3 rw [get_set_disj _ _ (by simp) (.inr (by simp))]

theorem busError_first (hk : kind < 16) (hm : master < 16) (h : s.on (F.BUS.ERR.VALID dom) = false) :
    (s.busError dom kind master write addr).get (F.BUS.ERR.KIND dom) = kind ∧ (s.busError dom kind master write addr).get (F.BUS.ERR.MASTER dom) = master ∧
    (s.busError dom kind master write addr).get (F.BUS.ADDR.ADDR dom) = addr % 2 ^ 32 := by
  have ha : (busErrBase dom : Nat) ≠ busErrBase dom + 4 := by omega
  refine ⟨?_, ?_, ?_⟩
  · rw [busError_get (hf := .inl rfl), errCaptured_first (h := h), get_set_disj _ _ (by simp) (.inl (by simp)), get_set_addr _ _ ha, State.setB]
    iterate 2 rw [get_set_disj _ _ (by simp) (.inl (by simp))]
    rw [get_set _ _ _ (by simp)]
    exact Nat.mod_eq_of_lt hk
  · rw [busError_get (hf := .inl rfl), errCaptured_first (h := h), get_set_disj _ _ (by simp) (.inl (by simp)), get_set_addr _ _ ha, State.setB,
      get_set_disj _ _ (by simp) (.inl (by simp)), get_set _ _ _ (by simp)]
    exact Nat.mod_eq_of_lt hm
  · rw [busError_get (hf := .inr rfl), errCaptured_first (h := h), get_set_addr _ _ (Ne.symm ha), get_set _ _ _ (by simp)]
    rfl

theorem busError_next (h : s.on (F.BUS.ERR.VALID dom) = true) : (s.busError dom kind master write addr).on (F.BUS.ERR.MULTI dom) = true ∧
    (s.busError dom kind master write addr).get (F.BUS.ERR.KIND dom) = s.get (F.BUS.ERR.KIND dom) := by
  rw [busError_on (hf := rfl), busError_get (hf := .inl rfl), errCaptured_next (h := h)]
  refine ⟨on_set_one _ _ (by simp) rfl, ?_⟩
  rw [get_set_disj _ _ (by simp) (.inl (by simp)), State.sat, get_set_disj _ _ (by simp) (.inl (by simp))]

end

theorem eccHits_sapwood (s : State) (as : List Nat) : s.eccHits 1 as = s := by
  induction as with
  | nil => rfl
  | cons a as ih => simpa [State.eccHits, State.eccHit] using ih

theorem accessFail_busError (s : State) {dom kind : Nat} (master : Nat) (write : Bool) (addr size : Nat) (h : kind ≠ 4 ∨ dom = 1) :
    s.accessFail dom kind master write addr size = s.busError dom kind master write addr := by
  obtain h | rfl := h
  · simp [State.accessFail, h]
  · simp [State.accessFail, eccHits_sapwood]

theorem exec_busAccessError {s : State} {dom kind master addr size : Nat} {write : Bool} (hd : dom < 2) (hm : master < (if dom = 0 then 10 else 8)) (hr : s.domRuns dom = true)
    (h1 : 1 ≤ kind) (h7 : kind < 7) (h4 : kind ≠ 4 ∨ dom = 1) (hk : kind = 2 ∨ kind = 4 ∨ kind = 5 ∨ s.accessKind dom master write addr size = kind) :
    exec (.busAccessError dom kind master write addr size) s = .next (s.busError dom kind master write addr) := by
  have hw : Instr.wf (.busAccessError dom kind master write addr size) = true := by
    obtain rfl | rfl : dom = 0 ∨ dom = 1 := by omega
    all_goals simpa [Instr.wf, h1, h7] using hm
  refine exec_guardUnit rfl hw |>.trans ?_
  have hg : (dom != 2 && s.domRuns dom && (kind == 2 || kind == 4 || kind == 5 || s.accessKind dom master write addr size == kind)) = true := by
    simp only [hr, Bool.and_true, Bool.and_eq_true, Bool.or_eq_true, bne_iff_ne, beq_iff_eq]
    exact ⟨by omega, by simpa only [or_assoc] using hk⟩
  rw [if_pos hg, accessFail_busError s master write addr size h4]

/-! DEBUG_ACCESS. -/

section
variable {s : State} {write : Bool} {addr size : Nat} {v : BitVec 128}

theorem heldH_of_runs (h : s.domRuns 0 = true) : s.pins.heldH = false := by
  simp only [State.domRuns, if_true, Bool.and_eq_true, Bool.not_eq_true'] at h
  exact h.1

theorem exec_debugAccess_unpowered {dom op : Nat} (hd : dom < 2) (ho : op < 3) (hv : s.pins.vddioS = false) : exec (.debugAccess dom op 0 write addr size v) s = .next s := by
  have hw : Instr.wf (.debugAccess dom op 0 write addr size v) = true := by
    simp only [Instr.wf, show ¬ op = 3 by omega, if_false, Bool.and_eq_true, decide_eq_true_eq]
    refine ⟨⟨hd, by omega⟩, ?_⟩
    split <;> decide
  exact (exec_guardUnit rfl hw).trans (by simp [hv])

theorem exec_debugAccess_closed {op : Nat} (ho : op < 3) (hv : s.pins.vddioS = true) (hr : s.domRuns 0 = true) (hd : s.on F.SEAL.STATUS.DEBUG_EN = false) :
    exec (.debugAccess 0 op 0 write addr size v) s = .next (s.busError 0 6 9 (op != 0 || write) addr) := by
  have hw : Instr.wf (.debugAccess 0 op 0 write addr size v) = true := by
    simp only [Instr.wf, show ¬ op = 3 by omega, show op < 4 by omega]
    rfl
  exact (exec_guardUnit rfl hw).trans (by simp [hv, show ¬ op = 3 by omega, heldH_of_runs hr, hr, hd])

theorem exec_debugAccess_open {op : Nat} (ho : op < 3) (hv : s.pins.vddioS = true) (hr : s.domRuns 0 = true) (hd : s.on F.SEAL.STATUS.DEBUG_EN = true) :
    exec (.debugAccess 0 op 0 write addr size v) s = .next (s.hwDebug op write addr size v) := by
  have hw : Instr.wf (.debugAccess 0 op 0 write addr size v) = true := by
    simp only [Instr.wf, show ¬ op = 3 by omega, show op < 4 by omega]
    rfl
  exact (exec_guardUnit rfl hw).trans (by simp [hv, show ¬ op = 3 by omega, heldH_of_runs hr, hr, hd])

theorem exec_debugAccess_sapwood {op hart : Nat} (ho : op < 3) (hh : hart < 2) (hv : s.pins.vddioS = true) (hs : s.pins.vddSw = true) (hr : s.pins.heldS = false) :
    exec (.debugAccess 1 op hart write addr size v) s = .next (s.sapDebug op hart write addr size v) := by
  have hw : Instr.wf (.debugAccess 1 op hart write addr size v) = true := by simp [Instr.wf, show ¬ op = 3 by omega, show op < 4 by omega, hh]
  exact (exec_guardUnit rfl hw).trans (by simp [hv, show ¬ op = 3 by omega, hs, hr])

theorem exec_debugAccess_tap {dom hart : Nat} (hd : dom < 2) (hh : hart < 5) (hv : s.pins.vddioS = true) :
    exec (.debugAccess dom 3 hart write addr size v) s = .next (s.tapLoad hart v) := by
  have hw : Instr.wf (.debugAccess dom 3 hart write addr size v) = true := by simp [Instr.wf, hd, hh]
  exact (exec_guardUnit rfl hw).trans (by simp [hv])

end

theorem hwDebug_halt (s : State) (write : Bool) (addr size : Nat) (v : W128) (h : s.hscUp = true) :
    (s.hwDebug 1 write addr size v).hscHalted = true ∧ (s.hwDebug 1 write addr size v).mem = s.mem := by
  simp only [State.hwDebug, h, show ¬ (1 : Nat) = 0 by decide, if_false, if_true, Bool.not_true, Bool.or_false]
  split
  · exact ⟨‹_›, rfl⟩
  · exact ⟨rfl, rfl⟩

theorem sapHalt_running {s : State} {c : Nat} {x : Core} (hx : alFind s.cores c = some x) (hr : x.running = true) (hh : x.halted = false) :
    alFind (s.sapHalt c).cores c = some { x with halted := true } ∧ (s.sapHalt c).mem = s.mem := by
  simp [State.sapHalt, hx, hr, hh]

/-- Whether a core is halted by a debugger. -/
def State.coreHalted (s : State) (c : Nat) : Option Bool := (alFind s.cores c).map (·.halted)

/-- A core that takes a line is not halted by it, nor resumed. -/
theorem coreTakes_halted (s : State) (t : Nat) (fast normal : Bool) (c : Nat) : Keeps (·.coreHalted c) s (s.coreTakes t fast normal) := by
  unfold State.coreTakes Keeps State.coreHalted
  cases hx : alFind s.cores t with
  | none => rfl
  | some x =>
    dsimp only
    split
    · by_cases hc : c = t
      · subst hc
        split <;> simp [hx]
      · split <;> simp [alFind_alSet, hc]
    · rfl

theorem icLines_halted (s : State) (c t n : Nat) : Keeps (·.coreHalted n) s (s.icLines c t) := by
  have h0 : ∀ (x : Ic) (f : Fld) (k : Nat), Keeps (·.coreHalted n) s ((s.setIc c x).set f k) := fun x f k => by
    simp only [Keeps, State.coreHalted, State.set_cores, (State.setIc_eff s c x).cores rfl]
  have h1 : ∀ (u : State) (f : Fld) (k : Nat), Keeps (·.coreHalted n) u (u.set f k) := fun _ _ _ => rfl
  unfold State.icLines
  dsimp only
  exact .ite (.after (coreTakes_halted ..) (.ite (.after (h1 _ _ _) (h0 _ _ _)) (h0 _ _ _))) (.ite (.after (h1 _ _ _) (h0 _ _ _)) (h0 _ _ _))

theorem sapResume_halted {s : State} {c : Nat} {x : Core} (hx : alFind s.cores c = some x) (hh : x.halted = true) :
    (∃ y, alFind (s.sapResume c).cores c = some y ∧ y.halted = false) ∧ (s.sapResume c).mem = s.mem := by
  have hm : ∀ u : State, (u.icLines 1 c).mem = u.mem := fun u => (State.icLines_eff u 1 c).mem rfl
  have hl : ∀ u : State, alFind u.cores c = some { x with halted := false } → ∃ y, alFind (u.icLines 1 c).cores c = some y ∧ y.halted = false := fun u hu => by
    simpa [Keeps, State.coreHalted, hu] using icLines_halted u 1 c c
  unfold State.sapResume
  simp only [hx, hh, if_true]
  split
  · exact ⟨hl _ (by simp), hm _⟩
  · split <;> exact ⟨hl _ (by simp), hm _⟩

/-- EXTEST and INTEST act only with every supply good and DEBUG_EN 1, else as BYPASS. -/
theorem tapLoad_boundary {s : State} {ir : Nat} {v : W128} (h3 : 3 ≤ ir) (h5 : ir < 5) : (s.tapLoad ir v).tap.ir = if s.allGood && s.on F.SEAL.STATUS.DEBUG_EN then ir else 0 := by
  cases hg : s.allGood <;> cases hd : s.on F.SEAL.STATUS.DEBUG_EN <;> simp [State.tapLoad, hg, hd, h3, show 2 ≤ ir by omega, show ir ≤ 4 by omega]

/-! W0_SNAPSHOT_READ. -/

theorem mem_snapFill (es : List SnapEntry) (a g : Nat) : ∃ e, e ∈ snapFill es a g ∧ e.addr = a ∧ e.w1 = BitVec.ofNat 32 (g / 2 ^ 32) :=
  ⟨_, List.mem_append_right _ (List.mem_singleton.2 rfl), rfl, rfl⟩

theorem groupRead_first {s : State} {addr : Nat} (master : Nat) (h : addr % 16 = 0) :
    (∃ e, e ∈ alGet [] (s.groupRead master addr).snaps master ∧ e.addr = addr ∧ e.w1 = BitVec.ofNat 32 ((s.group addr).1 / 2 ^ 32)) ∧
    alFind (s.groupRead master addr).reads master = some (BitVec.ofNat 32 (s.group addr).1) ∧ (s.groupRead master addr).mem = s.mem ∧ (s.groupRead master addr).regs = s.regs := by
  have ha : addr / 16 * 16 = addr := by omega
  simp only [State.groupRead, ha, h, Nat.zero_div, if_true, State.gave, alGet_alSet_same, alFind_alSet_same, Nat.mul_zero, Nat.pow_zero, Nat.div_one, and_self, and_true]
  exact mem_snapFill _ _ _

theorem groupRead_next {s : State} {addr i : Nat} {master : Nat} {e : SnapEntry} (h : addr % 16 = 0) (h1 : 1 ≤ i) (h4 : i < 4)
    (he : (alGet [] s.snaps master).find? (fun e => e.addr == addr) = some e) :
    alFind (s.groupRead master (addr + 4 * i)).reads master = some (e.lane i) ∧ (s.groupRead master (addr + 4 * i)).snaps = s.snaps ∧
    (s.groupRead master (addr + 4 * i)).mem = s.mem ∧ (s.groupRead master (addr + 4 * i)).regs = s.regs := by
  have ha : (addr + 4 * i) / 16 * 16 = addr := by omega
  have hi : (addr + 4 * i) % 16 / 4 = i := by omega
  simp [State.groupRead, ha, hi, show i ≠ 0 by omega, he, State.gave]

section
variable {s : State} {master addr : Nat}

theorem exec_w0SnapshotRead (hm : master < 10) (hr : s.domRuns 0 = true) (hk : s.accessKind 0 master false addr (if isPeriph addr || addr % 16 != 0 then 4 else 16) = 0)
    (hg : (hwSram addr || (tallyWindow (addr / 16 * 16)).isSome) = true) : exec (.w0SnapshotRead master addr) s = .next (s.groupRead master addr) := by
  have hw : Instr.wf (.w0SnapshotRead master addr) = true := by simpa [Instr.wf] using hm
  exact (exec_guardUnit rfl hw).trans (by simp only [hr, hk, hg, Bool.not_true, ne_eq, not_true, if_false, if_true, Bool.false_eq_true])

end

/-- Settles O52: each clause is what the command's meaning comes to under its premises. -/
theorem busAccesses : Obligations.BusAccesses := by
  intro s dom master addr size kind op hart i write v x e hd hm hc
  refine ⟨fun hr hp hk => ⟨fun hper => ?_, fun hper => ?_⟩, fun hr hp => exec_registerWrite_refused hd hm hp, fun hr hk ha => ?_, fun hr h1 h7 h4 hk => ?_,
    fun hv hr ho hde => ?_, fun hv hr hde hup => ⟨?_, ?_⟩, fun hv hs hr hh hx => ⟨fun hrun hhalt => ?_, fun hhalt => ?_⟩, fun hv hh => ?_,
    fun hv ho => exec_debugAccess_unpowered hd ho hv, fun h0 hr hk ha hg => ?_, fun h0 hr hk ha h1 h4 hg he => ?_⟩
  · have hl := reads_of_stBytes (busMem_mem s dom master addr (leBytes size v.toNat))
    rw [length_leBytes] at hl
    rw [← busWrite_mem hc hk hper] at hl
    refine .of_next (exec_registerWrite hd hm hr hp) ⟨hl.1, hl.2, ?_⟩
    rw [busWrite_mem hc hk hper, (State.busMem_eff _ _ _ _ _).regs rfl]
  · rw [exec_registerWrite hd hm hr hp, busWrite_reg hc hk hper]
  · obtain ⟨hmem, hregs⟩ := aocWrite_of_ok v hk ha
    have hl := reads_of_stBytes hmem
    rw [length_leBytes] at hl
    exact .of_next (exec_registerWrite_aoc hr) ⟨hl.1, hl.2, hregs⟩
  · have hm16 : master < 16 := by split at hm <;> omega
    exact .of_next (exec_busAccessError hd hm hr h1 h7 h4 hk) ⟨busError_valid .., busError_count .., busError_first s dom kind master write addr (by omega) hm16,
      busError_next s dom kind master write addr, (State.busError_eff _ _ _ _ _ _).mem rfl⟩
  · have h := State.busError_eff s 0 6 9 (op != 0 || write) addr
    exact .of_next (exec_debugAccess_closed ho hv hr hde) ⟨busError_valid .., h.mem rfl, h.hscHalted rfl, h.wdt rfl⟩
  · exact .of_next (exec_debugAccess_open (by decide) hv hr hde) (hwDebug_halt s write addr size v hup)
  · exact .of_next (exec_debugAccess_open (by decide) hv hr hde) ⟨rfl, rfl⟩
  · exact .of_next (exec_debugAccess_sapwood (by decide) hh hv hs hr) (sapHalt_running hx hrun hhalt)
  · exact .of_next (exec_debugAccess_sapwood (by decide) hh hv hs hr) (sapResume_halted hx hhalt)
  · refine .of_next (exec_debugAccess_tap hd hh hv) ⟨rfl, ?_, fun h3 => ?_⟩
    · rintro rfl
      exact ⟨rfl, rfl⟩
    · exact tapLoad_boundary h3 hh
  · subst h0
    have hk' : s.accessKind 0 master false addr (if isPeriph addr || addr % 16 != 0 then 4 else 16) = 0 := by simpa [ha] using hk
    refine .of_next (exec_w0SnapshotRead hm hr hk' ?_) (groupRead_first master ha)
    rwa [show addr / 16 * 16 = addr by omega]
  · subst h0
    have hk' : s.accessKind 0 master false (addr + 4 * i) (if isPeriph (addr + 4 * i) || (addr + 4 * i) % 16 != 0 then 4 else 16) = 0 := by
      rwa [if_pos]
      simp
      omega
    refine .of_next (exec_w0SnapshotRead hm hr hk' ?_) (groupRead_next ha h1 h4 he)
    rwa [show (addr + 4 * i) / 16 * 16 = addr by omega]

end Sys2Proof.Machine
end

section
/-! SUPPORT. What interrupts, wakes, audit events and THAWs leave of the season: AOC's alarm and the clock of the sleep counter (R348, R353, R362). -/

namespace Sys2Proof.Machine

/-- AOC's alarm, and whether LFRC has taken XTAL32's place. -/
def State.sleepClock (s : State) : Option Nat × Bool := (s.season.alarm, s.season.lfrc)

theorem Keeps.alarm {s t : State} (h : Keeps State.sleepClock s t) : t.season.alarm = s.season.alarm := congrArg Prod.fst h

theorem Keeps.lfrc {s t : State} (h : Keeps State.sleepClock s t) : t.season.lfrc = s.season.lfrc := congrArg Prod.snd h

theorem sleepClock_of_season {s t : State} (h : t.season = s.season) : Keeps State.sleepClock s t := congrArg (fun x : Season => (x.alarm, x.lfrc)) h

theorem sleepClock_of_eff {F : Nat} {s t : State} (h : Eff F s t) (hF : F.testBit 29 = false) : Keeps State.sleepClock s t := sleepClock_of_season (h.season hF)

theorem wakeNow_sleepClock (s : State) (srcs : Nat) : Keeps State.sleepClock s (s.wakeNow srcs) := by
  have hu : ∀ u : State, u.seasonUpdate.season = u.season := fun u => (State.seasonUpdate_eff u).season rfl
  have hp : ∀ u : State, (u.icPend1 1 5).season = u.season := fun u => (State.icPend1_eff u 1 5).season rfl
  unfold State.wakeNow
  dsimp only
  split
  · split <;> simp [Keeps, State.sleepClock, hu, hp]
  · exact .refl s

theorem wakeSapwood_sleepClock (s : State) (bit : Nat) : Keeps State.sleepClock s (s.wakeSapwood bit) := by
  unfold State.wakeSapwood
  exact .ite (.refl s) (.ite (wakeNow_sleepClock ..) (by simp [Keeps, State.sleepClock]))

theorem icPend_sleepClock (s : State) (c n : Nat) : Keeps State.sleepClock s (s.icPend c n) := by
  have hp : Keeps State.sleepClock s (s.icPend1 c n) := sleepClock_of_eff (State.icPend1_eff s c n) rfl
  unfold State.icPend
  exact .ite (.after (wakeSapwood_sleepClock ..) hp) hp

theorem icEdge_sleepClock (s : State) (c n : Nat) : Keeps State.sleepClock s (s.icEdge c n) := .ite (.refl s) (icPend_sleepClock ..)

theorem icSample_sleepClock (s : State) (c n : Nat) : Keeps State.sleepClock s (s.icSample c n) := .ite (.ite (.refl s) (icPend_sleepClock ..)) (.refl s)

theorem raise_sleepClock (s : State) (f : Fld) (c n : Nat) : Keeps State.sleepClock s (s.raise f c n) :=
  .after (icSample_sleepClock (s.set f 1) c n) (sleepClock_of_season (by simp))

theorem ringEnter_sleepClock (s : State) (x : RingEntry) : Keeps State.sleepClock s (s.ringEnter x) := by
  have ha : ∀ u : State, Keeps State.sleepClock u (if u.alertKind x.kind then u.alertPend 0 true else u) := fun u => .ite (sleepClock_of_eff (State.alertPend_eff u 0 true) rfl) (.refl u)
  have hw : ∀ u : State, Keeps State.sleepClock u (if u.on F.SEASON.WAKE.RING then u.wakeSapwood 9 else u) := fun u => .ite (wakeSapwood_sleepClock ..) (.refl u)
  have he : ∀ u : State, Keeps State.sleepClock u (if x.kind = 4 ∨ x.kind = 6 then (if (u.icEdge 1 3).on F.SEASON.WAKE.RING then (u.icEdge 1 3).wakeSapwood 9 else u.icEdge 1 3) else u) :=
    fun u => .ite (.after (hw _) (icEdge_sleepClock ..)) (.refl u)
  have h0 : Keeps State.sleepClock s (if decide (2048 ≤ s.ring.entries.length) then s.sat F.GW.RING_STATUS.OVERRUN 1 else s) := .ite (sleepClock_of_eff (State.sat_eff ..) rfl) (.refl s)
  unfold State.ringEnter
  dsimp only
  exact .after (he _) (.after (ha _) (.after (icSample_sleepClock ..) (.after (sleepClock_of_eff (State.set_eff ..) rfl) (.after (sleepClock_of_season rfl) h0))))

theorem ringPut_sleepClock (s : State) (kind stream src cycle : Nat) (payload : List Byte) : Keeps State.sleepClock s (s.ringPut kind stream src cycle payload) := by
  unfold State.ringPut
  exact .ite (ringEnter_sleepClock ..) (sleepClock_of_season rfl)

theorem auditRelevel_sleepClock (s : State) : Keeps State.sleepClock s s.auditRelevel := by
  have h0 : ∀ (v : Nat) (a : Audit), Keeps State.sleepClock s ({ (s.set F.SEAL.STATUS.LEVEL v) with audit := a }.icEdge 0 4) :=
    fun v a => .after (icEdge_sleepClock ..) (sleepClock_of_season (by simp))
  unfold State.auditRelevel
  dsimp only
  exact .ite (.refl s) (.ite (.after (ringPut_sleepClock ..) (h0 _ _)) (h0 _ _))

theorem auditPut_sleepClock (s : State) (kind stream : Nat) (data : List Byte) : Keeps State.sleepClock s (s.auditPut kind stream data) :=
  .ite (.after (auditRelevel_sleepClock _) (sleepClock_of_season rfl)) (sleepClock_of_season rfl)

theorem fault_sleepClock (s : State) (code region stream : Nat) (detail : List Byte) : Keeps State.sleepClock s (s.fault code region stream detail) := by
  have h0 : ∀ (u : State) (f : Fld), Keeps State.sleepClock u (u.sat f 1) := fun u f => sleepClock_of_eff (State.sat_eff u f 1) rfl
  unfold State.fault State.faultKey
  dsimp only
  exact .ite (.after (auditPut_sleepClock ..) (h0 ..)) (.ite (.after (h0 ..) (h0 ..)) (.after (auditPut_sleepClock ..) (.after (sleepClock_of_season rfl) (h0 s F.FLT.COUNT.FAULTS))))

theorem x32Log_sleepClock (s : State) : Keeps State.sleepClock s s.x32Log := .ite (.after (fault_sleepClock ..) (by simp [Keeps, State.sleepClock])) (.refl s)

theorem wakeBy_sleepClock (s : State) (src : Nat) : Keeps State.sleepClock s (s.wakeBy src) := by
  have h0 : Keeps State.sleepClock s { s with season := { s.season with want := [] } } := by simp [Keeps, State.sleepClock]
  unfold State.wakeBy
  exact .ite (.after (wakeNow_sleepClock ..) h0) (.ite (.after (sleepClock_of_season rfl) h0) h0)

/-! THAWs. -/

theorem regionWrite_sleepClock (s : State) (e r off : Nat) (bs : List Byte) : Keeps State.sleepClock s (s.regionWrite e r off bs) := by
  have hs : Keeps State.sleepClock s (s.stBytes (rgnBase r + off) bs) := sleepClock_of_eff (State.stBytes_eff ..) rfl
  unfold State.regionWrite
  exact .ite (raise_sleepClock ..) (.ite (sleepClock_of_season (by simp)) (.after (sleepClock_of_season rfl) hs))

theorem writeWaiting_sleepClock (s : State) (r : Nat) (ws : List (Nat × (Nat × (Nat × List Byte)))) : Keeps State.sleepClock s (s.writeWaiting r ws) := by
  induction ws generalizing s with
  | nil => exact .refl s
  | cons w ws ih => exact .after (ih _) (.ite (regionWrite_sleepClock ..) (.refl s))

theorem thaw_sleepClock (s : State) (u : Nat) : Keeps State.sleepClock s (s.thaw u) := by
  have hw : Keeps State.sleepClock s (s.warm u) := sleepClock_of_eff (State.warm_eff s u) rfl
  have hr : ∀ v : State, Keeps State.sleepClock v (v.regionWritten u) := fun v => .after (writeWaiting_sleepClock ..) (sleepClock_of_season (by simp))
  unfold State.thaw
  dsimp only
  split
  · exact .after (hr _) (.after (sleepClock_of_season (by simp)) hw)
  · repeat' split
    all_goals exact sleepClock_of_season (by simp)

theorem thawList_sleepClock (s : State) (us : List Nat) : Keeps State.sleepClock s (s.thawList us) := by
  induction us generalizing s with
  | nil => exact .refl s
  | cons u us ih => exact .after (ih _) (thaw_sleepClock ..)

theorem thaws_sleepClock (s : State) (us : List Nat) : Keeps State.sleepClock s (s.thaws us) := by
  unfold State.thaws
  exact .after (sleepClock_of_eff (State.seasonUpdate_eff _) rfl) (.after (thawList_sleepClock ..) (sleepClock_of_season (by simp)))

end Sys2Proof.Machine
end

section
/-! SUPPORT. What falls due as Heartwood time passes enters no safe state: the counts of R393 stay (R242 to R244, R382 to R391). -/

namespace Sys2Proof.Machine

/-- The counts of R393 among the other fault state. -/
def Faults.entries (f : Faults) : Nat × Nat := (f.safe1, f.safe3)

/-- The entries into safe state that R393 counts. -/
def State.safeEntries (s : State) : Nat × Nat := s.flt.entries

theorem Keeps.safe1 {s t : State} (h : Keeps State.safeEntries s t) : t.flt.safe1 = s.flt.safe1 := congrArg Prod.fst h

theorem Keeps.safe3 {s t : State} (h : Keeps State.safeEntries s t) : t.flt.safe3 = s.flt.safe3 := congrArg Prod.snd h

theorem safeEntries_of_eff {F : Nat} {s t : State} (h : Eff F s t) (hF : F.testBit 31 = false) : Keeps State.safeEntries s t := congrArg Faults.entries (h.flt hF)

section
variable (u : State)

theorem safeEntries_seen (x : List (Nat × Nat)) : Keeps State.safeEntries u { u with flt := { u.flt with seen := x } } := rfl
theorem safeEntries_held (x : List (Nat × (Nat × List Emission))) : Keeps State.safeEntries u { u with flt := { u.flt with held := x } } := rfl
theorem safeEntries_pubCycle (x : List (Nat × Nat)) : Keeps State.safeEntries u { u with flt := { u.flt with pubCycle := x } } := rfl
theorem safeEntries_foDue (x : List Nat) : Keeps State.safeEntries u { u with flt := { u.flt with foDue := x } } := rfl
theorem safeEntries_lost (x : List (Nat × Nat)) : Keeps State.safeEntries u { u with flt := { u.flt with lost := x } } := rfl
theorem safeEntries_after (x : List Nat) : Keeps State.safeEntries u { u with flt := { u.flt with after := x } } := rfl
theorem safeEntries_restart (x : List (Nat × Nat)) : Keeps State.safeEntries u { u with flt := { u.flt with restart := x } } := rfl
theorem safeEntries_blockDue (x : List (Nat × Nat)) : Keeps State.safeEntries u { u with flt := { u.flt with blockDue := x } } := rfl
theorem safeEntries_set (f : Fld) (v : Nat) : Keeps State.safeEntries u (u.set f v) := safeEntries_of_eff (State.set_eff u f v) rfl
theorem safeEntries_sat (f : Fld) (n : Nat) : Keeps State.safeEntries u (u.sat f n) := safeEntries_of_eff (State.sat_eff u f n) rfl

end

/-! FAULT entries. -/

theorem faultKey_safeEntries (s : State) (code region stream key : Nat) (detail : List Byte) : Keeps State.safeEntries s (s.faultKey code region stream key detail) := by
  have ha : ∀ (u : State) (d : List Byte), Keeps State.safeEntries u (u.auditPut 0x60 stream d) := fun u d => safeEntries_of_eff (State.auditPut_eff u 0x60 stream d) rfl
  unfold State.faultKey
  dsimp only
  exact .ite (.after (ha ..) (safeEntries_sat ..)) (.ite (.after (safeEntries_sat ..) (safeEntries_sat ..)) (.after (ha ..) (.after (safeEntries_seen ..) (safeEntries_sat ..))))

theorem fault_safeEntries (s : State) (code region stream : Nat) (detail : List Byte) : Keeps State.safeEntries s (s.fault code region stream detail) := faultKey_safeEntries ..

theorem eccUncorr_safeEntries (s : State) (mem addr region : Nat) : Keeps State.safeEntries s (s.eccUncorr mem addr region) := by
  unfold State.eccUncorr
  exact .after (fault_safeEntries ..) (.after (safeEntries_set ..) (.after (safeEntries_set ..) (safeEntries_sat ..)))

theorem heal_safeEntries (s : State) (a n : Nat) : Keeps State.safeEntries s (s.heal a n) := rfl

/-! Guarded streams. -/

theorem heldDrop_safeEntries (s : State) (st : Nat) : Keeps State.safeEntries s (s.heldDrop st) := .after (safeEntries_set ..) (safeEntries_held ..)

theorem publishMirror_safeEntries (s : State) (st cycle : Nat) (es : List Emission) : Keeps State.safeEntries s (s.publishMirror st cycle es) := by
  unfold State.publishMirror
  dsimp only
  refine .ite (.refl s) (.ite (.after (fault_safeEntries ..) (.after (safeEntries_foDue ..) ?_)) ?_)
  all_goals
    exact .after (safeEntries_of_eff (State.streamNote_eff ..) rfl) (.after (safeEntries_sat ..)
      (.after (safeEntries_of_eff (State.emitAll_eff ..) rfl) (safeEntries_pubCycle ..)))

theorem failover_safeEntries (s : State) (st : Nat) : Keeps State.safeEntries s (s.failover st) := by
  have h0 : ∀ u : State, Keeps State.safeEntries u { u with flt := { u.flt with foDue := st :: u.flt.foDue.filter (· != st) } } := fun u => safeEntries_foDue ..
  have h1 : Keeps State.safeEntries s ((s.set (F.FLT.GUARD.STATE st) 2).set (F.FLT.GUARD.PUBLISHED st) 0) := .after (safeEntries_set ..) (safeEntries_set ..)
  unfold State.failover
  dsimp only
  refine .ite ?_ (.refl s)
  split
  · exact .after (publishMirror_safeEntries ..) (.after (heldDrop_safeEntries ..) (.after (h0 _) h1))
  · exact .after (h0 _) h1

theorem failovers_safeEntries (s : State) (r : Nat) (sts : List Nat) : Keeps State.safeEntries s (s.failovers r sts) := by
  induction sts generalizing s with
  | nil => exact .refl s
  | cons st sts ih => exact .after (ih _) (.ite (failover_safeEntries ..) (.refl s))

theorem failback_safeEntries (s : State) (st cycle : Nat) : Keeps State.safeEntries s (s.failback st cycle) := by
  unfold State.failback
  dsimp only
  exact .ite (.refl s) (.after (safeEntries_set ..) (.after (safeEntries_foDue ..) (fault_safeEntries ..)))

theorem publish_safeEntries (s : State) (k cycle : Nat) (es : List Emission) : Keeps State.safeEntries s (s.publish k cycle es) := by
  have he : ∀ u : State, Keeps State.safeEntries u (u.emitAll cycle es) := fun u => safeEntries_of_eff (State.emitAll_eff u cycle es) rfl
  have hb : ∀ (u : State) (st : Nat), Keeps State.safeEntries u
      ((if u.published st cycle then u else ({ u with flt := { u.flt with pubCycle := alSet u.flt.pubCycle st cycle } }).emitAll cycle es).failback st cycle) :=
    fun u st => .after (failback_safeEntries ..) (.ite (.refl u) (.after (he _) (safeEntries_pubCycle ..)))
  unfold State.publish
  dsimp only
  refine .ite (he s) ?_
  refine .ite ?_ (.ite ?_ (publishMirror_safeEntries ..))
  · refine .after (hb _ _) ?_
    split
    · exact .ite (heldDrop_safeEntries ..) (.refl s)
    · exact .refl s
  · exact .ite (.refl s) (.after (safeEntries_set ..) (safeEntries_held ..))

theorem guardLost_safeEntries (s : State) (k cycle cause : Nat) : Keeps State.safeEntries s (s.guardLost k cycle cause) := by
  have hm : ∀ (u : State) (r st : Nat), Keeps State.safeEntries u (u.markStream r st cycle flSUB) := fun u r st => safeEntries_of_eff (State.markStream_eff u r st cycle flSUB) rfl
  have h0 : ∀ u : State, Keeps State.safeEntries u (u.substitute k cycle cause 1) := fun u => safeEntries_of_eff (State.substitute_eff u k cycle cause 1) rfl
  have hn : ∀ (u : State) (st n : Nat), Keeps State.safeEntries u (u.streamNote st cycle n 0 0) := fun u st n => safeEntries_of_eff (State.streamNote_eff u st cycle n 0 0) rfl
  have hf : Keeps State.safeEntries s (if s.homeTask (s.taskStream k) = k then s.failover (s.taskStream k) else s) := .ite (failover_safeEntries ..) (.refl s)
  unfold State.guardLost
  dsimp only
  refine .after ?_ hf
  refine .ite (.refl _) ?_
  exact .ite (.after (h0 _) (hm ..)) (.ite (.after (hn ..) (hm ..)) (safeEntries_lost ..))

theorem guardTurned_safeEntries (s : State) (k cycle cause : Nat) : Keeps State.safeEntries s (s.guardTurned k cycle cause) := by
  unfold State.guardTurned
  dsimp only
  exact .after (safeEntries_lost ..) (.after (safeEntries_of_eff (State.substitute_eff ..) rfl) (.ite (safeEntries_of_eff (State.markStream_eff ..) rfl) (.refl s)))

theorem releaseLost_safeEntries (s : State) (k cycle cause : Nat) : Keeps State.safeEntries s (s.releaseLost k cycle cause) := by
  unfold State.releaseLost
  exact .ite (.refl s) (.ite (safeEntries_of_eff (State.substitute_eff ..) rfl) (.ite (guardLost_safeEntries ..) (guardTurned_safeEntries ..)))

/-! Commits past the commit point. -/

theorem storesHome_safeEntries (s : State) (p : Nat) (es : List (Nat × W128)) : Keeps State.safeEntries s (s.storesHome p es) := by
  induction es generalizing s with
  | nil => exact .refl s
  | cons e es ih =>
    unfold State.storesHome
    exact .after (ih _) (.after (heal_safeEntries ..) (safeEntries_of_eff (State.st128_eff ..) rfl))

theorem totsHome_safeEntries (s : State) (p b : Nat) (es : List (Nat × (W128 × W128))) : Keeps State.safeEntries s (s.totsHome p b es) := by
  induction es generalizing s with
  | nil => exact .refl s
  | cons e es ih =>
    unfold State.totsHome
    exact .after (ih _) (.after (heal_safeEntries ..) (.after (safeEntries_of_eff (State.totImage_eff ..) rfl) (safeEntries_of_eff (State.setPair_eff ..) rfl)))

theorem blockSave_safeEntries (s : State) (k : Nat) (m : List (Nat × W128)) (i : List (Nat × Word)) : Keeps State.safeEntries s (s.blockSave k m i) := by
  unfold State.blockSave
  exact .after (heal_safeEntries ..) (.after (safeEntries_of_eff (State.stBytes_eff ..) rfl) (safeEntries_of_eff (State.blockWriteM_eff ..) rfl))

theorem logHome_safeEntries (s : State) (p : Nat) (l : CommitLog) : Keeps State.safeEntries s (s.logHome p l) := by
  have h0 : Keeps State.safeEntries s (((s.storesHome p l.stores).totsHome p (s.bankOf l.cycle) l.tots).blockSave l.task l.m l.i) :=
    .after (blockSave_safeEntries ..) (.after (totsHome_safeEntries ..) (storesHome_safeEntries ..))
  have hp : ∀ (u : State) x, Keeps State.safeEntries u (u.setPair p x) := fun u x => safeEntries_of_eff (State.setPair_eff u p x) rfl
  have hm : ∀ (u : State) st, Keeps State.safeEntries u (u.markStream p st l.cycle flDEG) := fun u st => safeEntries_of_eff (State.markStream_eff u p st l.cycle flDEG) rfl
  unfold State.logHome
  dsimp only
  exact .ite (.after (hm ..) (.after (hp _ _) h0)) (.after (hp _ _) h0)

theorem logEnd_safeEntries (s : State) (p : Nat) (l : CommitLog) : Keeps State.safeEntries s (s.logEnd p l) := by
  have hr : ∀ (u : State) (r : Recs), Keeps State.safeEntries u { u with recs := r } := fun _ _ => rfl
  have h0 : Keeps State.safeEntries s (((s.setPair p { s.pair p with log := none }).set (F.TALLY.STATUS.MARK p) 0).propShow p l) :=
    .after (safeEntries_of_eff (State.propShow_eff ..) rfl) (.after (safeEntries_set ..) (safeEntries_of_eff (State.setPair_eff ..) rfl))
  unfold State.logEnd
  dsimp only
  exact .after (publish_safeEntries ..) (.after (safeEntries_of_eff (State.ringLive_eff _) rfl) (.after (hr ..) (.after (safeEntries_of_eff (State.wrap_eff ..) rfl) h0)))

theorem logApply_safeEntries (s : State) (p : Nat) : Keeps State.safeEntries s (s.logApply p) := by
  unfold State.logApply
  split
  · exact .after (logEnd_safeEntries ..) (logHome_safeEntries ..)
  · exact .refl s

/-! Isolation and restart of regions and blocks. -/

theorem regionWrite_safeEntries (s : State) (e r off : Nat) (bs : List Byte) : Keeps State.safeEntries s (s.regionWrite e r off bs) := by
  have hs : Keeps State.safeEntries s (s.stBytes (rgnBase r + off) bs) := safeEntries_of_eff (State.stBytes_eff ..) rfl
  have hw : ∀ w : Echo, Keeps State.safeEntries s { s with echo := w } := fun _ => rfl
  unfold State.regionWrite
  exact .ite (safeEntries_of_eff (State.raise_eff ..) rfl) (.ite (hw _) (.after (heal_safeEntries ..) hs))

theorem pageWrite_safeEntries (s : State) (st off : Nat) (bs : List Byte) : Keeps State.safeEntries s (s.pageWrite st off bs) := by
  unfold State.pageWrite
  exact .ite (.after (regionWrite_safeEntries ..) (regionWrite_safeEntries ..)) (regionWrite_safeEntries ..)

theorem echoComplete_safeEntries (s : State) (st : Nat) : Keeps State.safeEntries s (s.echoComplete st) := by
  unfold State.echoComplete
  split
  · exact .refl s
  · dsimp only
    exact .ite (.refl s) (.after (pageWrite_safeEntries ..) (.after (pageWrite_safeEntries ..) (safeEntries_of_eff (State.setOpen_eff ..) rfl)))

theorem taskDone_safeEntries (s : State) (k : Nat) : Keeps State.safeEntries s (s.taskDone k) := by
  have ha : ∀ u : State, Keeps State.safeEntries u (u.applySteps k) := fun u =>
    .ite (.refl u) (.after (echoComplete_safeEntries ..) (.after (safeEntries_set ..) (safeEntries_set ..)))
  have hj : ∀ (u : State) (x : Spindle), Keeps State.safeEntries u { u with spn := x } := fun _ _ => rfl
  unfold State.taskDone
  dsimp only
  exact .after (safeEntries_of_eff (State.gateIdle_eff _) rfl) (.after (.ite (.after (ha _) (hj ..)) (.refl _)) (safeEntries_of_eff (State.jobEnd_eff ..) rfl))

theorem isolateEntry_safeEntries (s : State) (r cause task n : Nat) : Keeps State.safeEntries s (s.isolateEntry r cause task n) :=
  .after (fault_safeEntries ..) (safeEntries_set ..)

theorem restartBegin_safeEntries (s : State) (r attempt : Nat) : Keeps State.safeEntries s (s.restartBegin r attempt) := by
  have h0 : ∀ (u : State) x y, Keeps State.safeEntries u { u with flt := { u.flt with attempt := x, restart := y } } := fun _ _ _ => rfl
  unfold State.restartBegin
  dsimp only
  exact .after (safeEntries_of_eff (State.isoShow_eff ..) rfl) (.after (h0 ..) (.after (safeEntries_sat ..) (safeEntries_set ..)))

theorem regionHeld_safeEntries (s : State) (r result durUs : Nat) : Keeps State.safeEntries s (s.regionHeld r result durUs) := by
  have h0 : ∀ u : State, Keeps State.safeEntries u (u.isoShow r) := fun u => safeEntries_of_eff (State.isoShow_eff u r) rfl
  unfold State.regionHeld
  dsimp only
  exact .after (safeEntries_of_eff (State.guardCheck_eff ..) rfl) (.after (h0 _) (.after (fault_safeEntries ..) (.after (safeEntries_restart ..) (safeEntries_set ..))))

theorem restartFault_safeEntries (s : State) (r : Nat) : Keeps State.safeEntries s (s.restartFault r) := by
  unfold State.restartFault
  dsimp only
  exact .ite (.after (restartBegin_safeEntries ..) (.after (fault_safeEntries ..) (isolateEntry_safeEntries ..))) (.after (regionHeld_safeEntries ..) (isolateEntry_safeEntries ..))

theorem regionJobsLost_safeEntries (s : State) (cause : Nat) (ks : List Nat) : Keeps State.safeEntries s (s.regionJobsLost cause ks) := by
  induction ks generalizing s with
  | nil => exact .refl s
  | cons k ks ih =>
    have he : Keeps State.safeEntries s (s.earlyDrop k) := safeEntries_of_eff (State.earlyDrop_eff ..) rfl
    unfold State.regionJobsLost
    refine .after (ih _) ?_
    split
    · exact .after (releaseLost_safeEntries ..) (.after (safeEntries_of_eff (State.jobEnd_eff ..) rfl) he)
    · exact he

theorem isolate_safeEntries (s : State) (r cause task : Nat) : Keeps State.safeEntries s (s.isolate r cause task) := by
  have h0 : ∀ (u : State) x y, Keeps State.safeEntries u { u with flt := { u.flt with iso := x, after := y } } := fun _ _ _ => rfl
  have hg : ∀ (u : State) l, Keeps State.safeEntries u (u.guardCheck l) := fun u l => safeEntries_of_eff (State.guardCheck_eff u l) rfl
  have hl : ∀ u : State, Keeps State.safeEntries u (u.logJobEnd r) := fun u => safeEntries_of_eff (State.logJobEnd_eff u r) rfl
  have hc : ∀ (u : State) l, Keeps State.safeEntries u (u.chainsStop l) := fun u l => safeEntries_of_eff (State.chainsStop_eff u l) rfl
  have hi : ∀ u : State, Keeps State.safeEntries u (u.isoShow r) := fun u => safeEntries_of_eff (State.isoShow_eff u r) rfl
  have hp : ∀ u : State, Keeps State.safeEntries u (u.pairStop r) := fun u => safeEntries_of_eff (State.pairStop_eff u r) rfl
  unfold State.isolate
  dsimp only
  refine .ite (.refl s) (.ite (restartFault_safeEntries ..) (.ite (.after (regionHeld_safeEntries ..) ?_) (.after (restartBegin_safeEntries ..) ?_)))
  all_goals
    exact .after (hg ..) (.after (regionJobsLost_safeEntries ..) (.after (hl _) (.after (failovers_safeEntries ..) (.after (hc ..) (.after (hi _) (.after (hp _)
      (.after (isolateEntry_safeEntries ..) (.after (h0 ..) (safeEntries_set ..)))))))))

theorem commitEnd_safeEntries (s : State) (p : Nat) (l : CommitLog) : Keeps State.safeEntries s (s.commitEnd p l) := by
  have ha : ∀ u : State, Keeps State.safeEntries u (u.afterReplay p l.task) := fun u => .ite (.after (isolate_safeEntries ..) (safeEntries_after ..)) (.refl u)
  exact .after (ha _) (.after (taskDone_safeEntries ..) (.after (safeEntries_of_eff (State.pairStop_eff ..) rfl) (logApply_safeEntries ..)))

theorem commitsDue_safeEntries (s : State) (ps : List Nat) : Keeps State.safeEntries s (s.commitsDue ps) := by
  induction ps generalizing s with
  | nil => exact .refl s
  | cons p ps ih =>
    unfold State.commitsDue
    refine .after (ih _) ?_
    split
    · exact .ite (commitEnd_safeEntries ..) (.refl s)
    · exact .refl s

theorem restartEnd_safeEntries (s : State) (r : Nat) : Keeps State.safeEntries s (s.restartEnd r) := by
  have hi : ∀ u : State, Keeps State.safeEntries u (u.isoShow r) := fun u => safeEntries_of_eff (State.isoShow_eff u r) rfl
  have hg : ∀ (u : State) l, Keeps State.safeEntries u (u.guardCheck l) := fun u l => safeEntries_of_eff (State.guardCheck_eff u l) rfl
  have hf : ∀ u : State, Keeps State.safeEntries u ((u.freshBlocks r).fillParams r) := fun u =>
    .after (safeEntries_of_eff (State.fillParams_eff ..) rfl) (safeEntries_of_eff (State.freshBlocks_eff ..) rfl)
  have hl : ∀ u : State, Keeps State.safeEntries u ((u.frontLoad.codeLoad r).logApply r) := fun u =>
    .after (logApply_safeEntries ..) (.after (safeEntries_of_eff (State.codeLoad_eff ..) rfl) (safeEntries_of_eff (State.frontLoad_eff _) rfl))
  unfold State.restartEnd
  dsimp only
  refine .after (safeEntries_of_eff (State.chainsReady_eff ..) rfl) (.after (hg ..) (.after (hi _) (.after (fault_safeEntries ..) (.after (safeEntries_restart ..) (.after (safeEntries_set ..) ?_)))))
  refine .after (safeEntries_of_eff (State.resyncs_eff ..) rfl) (.after (hf _) (.after (heal_safeEntries ..) (.after (heal_safeEntries ..) (.after (heal_safeEntries ..) ?_))))
  refine .after (.ite ?_ (safeEntries_of_eff (State.totReload_eff ..) rfl)) (.after (hl _) (safeEntries_of_eff (State.blocksReload_eff ..) rfl))
  exact .after (safeEntries_of_eff (State.markRegion_eff ..) rfl) (.after (safeEntries_of_eff (State.restoreTots_eff ..) rfl) (eccUncorr_safeEntries ..))

theorem restartsDue_safeEntries (s : State) (rs : List Nat) : Keeps State.safeEntries s (s.restartsDue rs) := by
  induction rs generalizing s with
  | nil => exact .refl s
  | cons r rs ih => exact .after (ih _) (.ite (restartEnd_safeEntries ..) (.refl s))

theorem blocksDue_safeEntries (s : State) (bs : List (Nat × Nat)) : Keeps State.safeEntries s (s.blocksDue bs) := by
  induction bs generalizing s with
  | nil => exact .refl s
  | cons x bs ih =>
    have hb : ∀ (u : State) b, Keeps State.safeEntries u (u.blockRestart b) := fun u b => safeEntries_of_eff (State.blockRestart_eff u b) rfl
    unfold State.blocksDue
    dsimp only
    refine .after (ih _) (.ite (.ite (.after ?_ (safeEntries_blockDue s (alDel s.flt.blockDue x.1))) (safeEntries_blockDue ..)) (.refl s))
    exact .after (safeEntries_of_eff (State.chainsReady_eff ..) rfl) (.after (hb ..) (heal_safeEntries ..))

theorem settle_safeEntries (s : State) : Keeps State.safeEntries s s.settle := by
  unfold State.settle
  dsimp only
  exact .after (blocksDue_safeEntries ..) (.after (restartsDue_safeEntries ..) (.after (safeEntries_of_eff (State.swapsDue_eff ..) rfl) (.after (safeEntries_of_eff (State.stuckDue_eff ..) rfl)
    (.after (safeEntries_of_eff (State.warmsDue_eff ..) rfl) (.after (safeEntries_of_eff (State.windowsDue_eff ..) rfl) (commitsDue_safeEntries ..))))))

end Sys2Proof.Machine
end

section
/-! SUPPORT. HSC as it runs again: what it catches up on (R103, R105, R106, R124, R362) writes its own registers only, and takes no time of the model's. -/

namespace Sys2Proof.Machine

/-- Registers that HSC writes as it catches up: those of any notification, with SEAL.STATUS and SEAL.UNLOGGED among them, and SEAL.COUNTER. -/
def hscRegs (a : Nat) : Bool := noteRegs a || a == 0x40010004

/-- Only those registers are written, and Heartwood time stands. -/
def HscOnly (s t : State) : Prop := KeepsRegs hscRegs s t ∧ t.time = s.time

theorem HscOnly.refl (s : State) : HscOnly s s := ⟨.refl s, rfl⟩

theorem HscOnly.after {s t u : State} (h2 : HscOnly t u) (h1 : HscOnly s t) : HscOnly s u := ⟨h1.1.trans h2.1, h2.2.trans h1.2⟩

theorem HscOnly.ite {s t u : State} {c : Prop} [Decidable c] (h1 : HscOnly s t) (h2 : HscOnly s u) : HscOnly s (if c then t else u) := by
  split <;> assumption

theorem HscOnly.of_note {F : Nat} {s t : State} (h : KeepsRegs noteRegs s t) (he : Eff F s t) (hF : F.testBit 27 = false) : HscOnly s t :=
  ⟨h.mono fun a ha => by simp only [hscRegs, Bool.or_eq_false_iff] at ha; exact ha.1, he.time hF⟩

/-- An operation that writes no register. -/
theorem HscOnly.of_eff {F : Nat} {s t : State} (he : Eff F s t) (hr : F.testBit 2 = false) (ht : F.testBit 27 = false) : HscOnly s t :=
  ⟨(KeepsRegs.refl s).of_regs (he.regs hr), he.time ht⟩

theorem HscOnly.set (s : State) {f : Fld} (v : Nat) (h : hscRegs f.addr = true) : HscOnly s (s.set f v) := ⟨(KeepsRegs.refl s).set h, rfl⟩

theorem HscOnly.auditPut (s : State) (kind stream : Nat) (data : List Byte) : HscOnly s (s.auditPut kind stream data) := .of_note (auditPut_regs _ _ _ _) (State.auditPut_eff ..) rfl

theorem HscOnly.icEdge (s : State) (c n : Nat) : HscOnly s (s.icEdge c n) := .of_note (icEdge_regs _ _ _).note (State.icEdge_eff ..) rfl

theorem HscOnly.ringPut (s : State) (kind stream src cycle : Nat) (payload : List Byte) : HscOnly s (s.ringPut kind stream src cycle payload) :=
  .of_note (ringPut_regs _ _ _ _ _ _) (State.ringPut_eff ..) rfl

theorem HscOnly.x32Log (s : State) : HscOnly s s.x32Log := by
  have h0 : ∀ x : Season, HscOnly s { s with season := x } := fun _ => ⟨fun _ _ => rfl, rfl⟩
  exact .ite (.after (.of_note (fault_regs _ _ _ _ _) (State.fault_eff ..) rfl) (h0 _)) (.refl s)

/-! The seal (R103 to R106). -/

/-- The seal control word is written, with no failure of its programming. -/
def State.sealStored (s : State) (isShut : Bool) (count : Nat) : State :=
  let t := s.ctlWrite 1 (.seal isShut count)
  { t with sealc := { t.sealc with stCount := count, stSealed := isShut, stValid := true } }

theorem sealWord_stored (s : State) (isShut : Bool) (count : Nat) : s.sealWord isShut count 0 = (s.sealStored isShut count, true) := rfl

theorem HscOnly.sealStored (s : State) (isShut : Bool) (count : Nat) : HscOnly s (s.sealStored isShut count) := by
  have h0 : ∀ (u : State) (x : Seal), HscOnly u { u with sealc := x } := fun _ _ => ⟨fun _ _ => rfl, rfl⟩
  exact .after (h0 _ _) (.of_eff (State.ctlWrite_eff s 1 (.seal isShut count)) rfl rfl)

theorem HscOnly.unsealed (s : State) (n sleep dSec dNs : Nat) : HscOnly s (s.unsealed n sleep dSec dNs) := by
  have h0 : ∀ (u : State) (x : Seal), HscOnly u { u with sealc := x } := fun _ _ => ⟨fun _ _ => rfl, rfl⟩
  unfold State.unsealed
  exact .after (.icEdge ..) (.after (.of_eff (State.intervalNote_eff ..) rfl rfl) (.after (.auditPut ..) (.after (.set _ _ rfl) (h0 _ _))))

theorem HscOnly.sealOpened (s : State) (sleep dSec dNs : Nat) : HscOnly s (s.sealOpened 0 sleep dSec dNs) := by
  unfold State.sealOpened
  simp only [sealWord_stored, if_true]
  exact .ite (.auditPut ..) (.after (.unsealed ..) (.after (.sealStored ..) (.set _ _ rfl)))

theorem HscOnly.sealClosed (s : State) : HscOnly s (s.sealClosed 0) := by
  have h0 : ∀ (u : State) (x : Seal), HscOnly u { u with sealc := x } := fun _ _ => ⟨fun _ _ => rfl, rfl⟩
  have hr : ∀ u : State, HscOnly u u.resealed := fun u => by
    unfold State.resealed
    exact .after (.icEdge ..) (.after (.set _ _ rfl) (.after (.auditPut ..) (.after (h0 _ _) (.after (.of_eff (State.hscGo_eff _) rfl rfl)
      (.after (.set _ _ rfl) (.of_eff (State.intervalNote_eff ..) rfl rfl))))))
  unfold State.sealClosed
  simp only [sealWord_stored, if_true]
  exact .after (hr _) (.sealStored ..)

theorem HscOnly.sealCatchUp (s : State) : HscOnly s s.sealCatchUp := by
  have h0 : ∀ (u : State) (x : Seal), HscOnly u { u with sealc := x } := fun _ _ => ⟨fun _ _ => rfl, rfl⟩
  unfold State.sealCatchUp
  dsimp only
  refine .after (.ite (.ite (.ite (.refl _) (.sealClosed _)) (.ite (.sealOpened ..) (.refl _))) (.refl _)) ?_
  split
  · exact .ite (.after (.sealOpened ..) (h0 _ _)) (h0 _ _)
  · exact .refl s

theorem HscOnly.sealRestore (s : State) : HscOnly s s.sealRestore := by
  have h0 : ∀ (u : State) (x : Seal), HscOnly u { u with sealc := x } := fun _ _ => ⟨fun _ _ => rfl, rfl⟩
  unfold State.sealRestore
  dsimp only
  exact .after (.icEdge ..) (.after (.of_eff (State.intervalNote_eff ..) rfl rfl) (.after (.auditPut ..) (.after (.of_eff (State.ctlWrite_eff ..) rfl rfl)
    (.after (h0 _ _) (.after (.set _ _ rfl) (.after (.set _ _ rfl) (.set _ _ rfl)))))))

/-! The end of AUDIT_CLEAR (R124). -/

theorem HscOnly.auditEntry (s : State) (kind : Nat) (ev : AuditEvent) (data : List Byte) (bad : Bool) : HscOnly s (s.auditEntry kind ev data bad) := by
  have h0 : ∀ (u : State) (x : Audit), HscOnly u { u with audit := x } := fun _ _ => ⟨fun _ _ => rfl, rfl⟩
  unfold State.auditEntry
  dsimp only
  refine .ite ?_ (.after (.ringPut ..) ?_) <;> exact .after (h0 _ _) (.of_eff (State.stBytes_eff ..) rfl rfl)

theorem HscOnly.auditProgram (s : State) (ev : AuditEvent) : HscOnly s (s.auditProgram ev) := by
  have hc : ∀ (ds : List (List Byte)) (u : State), HscOnly u (u.auditConts ev ds) := by
    intro ds
    induction ds with
    | nil => exact fun u => .refl u
    | cons d ds ih => exact fun u => .after (ih _) (.auditEntry ..)
  unfold State.auditProgram
  dsimp only
  exact .ite (.after (.of_eff (State.frontAppend_eff ..) rfl rfl) (.after (hc ..) (.auditEntry ..))) (.after (hc ..) (.auditEntry ..))

theorem HscOnly.result (s : State) (tag code st : Nat) (data : List Byte) : HscOnly s (s.result tag code st data) := by
  have hp : ∀ (ps : List (List Byte)) (u : State) (i : Nat), HscOnly u (u.ringParts tag i ps) := by
    intro ps
    induction ps with
    | nil => exact fun u _ => .refl u
    | cons p ps ih => exact fun u i => .after (ih ..) (.ringPut ..)
  exact hp ..

theorem HscOnly.clearEnd (s : State) : HscOnly s s.clearEnd := by
  have hg : ∀ (u : State) (x : Gw), HscOnly u { u with gw := x } := fun _ _ => ⟨fun _ _ => rfl, rfl⟩
  have ho : ∀ u : State, HscOnly u u.auditOverflow := fun u => by
    unfold State.auditOverflow
    exact .ite (.refl u) (.ite (.after (.set _ _ rfl) (.auditProgram ..)) (.of_note (auditLost_regs u) (State.auditLost_eff u) rfl))
  unfold State.clearEnd
  split
  · exact .ite (.refl s) (.after (.result ..) (.after (.of_note (auditRelevel_regs _) (State.auditRelevel_eff _) rfl) (.after (.of_eff (State.auditCtlDue_eff _) rfl rfl) (.after (ho _) (hg ..)))))
  · exact .refl s

theorem HscOnly.hscRestarted (s : State) : HscOnly s s.hscRestarted := by
  have h0 : ∀ (u : State) (x : Wdt), HscOnly u { u with wdt := x } := fun _ _ => ⟨fun _ _ => rfl, rfl⟩
  unfold State.hscRestarted
  dsimp only
  refine .after (.x32Log _) (.after (.clearEnd _) (.after (.sealCatchUp _) (.after (h0 ..) (.after (.ite (.sealRestore _) (.refl _)) ?_))))
  exact .after (.of_eff (State.heal_eff ..) rfl rfl) (.of_eff (State.loadHscfw_eff _) rfl rfl)

theorem HscOnly.hscResume (s : State) : HscOnly s s.hscResume := by
  have h0 : ∀ (u : State) (x : Wdt), HscOnly u { u with wdt := x } := fun _ _ => ⟨fun _ _ => rfl, rfl⟩
  unfold State.hscResume
  exact .after (.x32Log _) (.after (.sealCatchUp _) (.after (.set _ _ rfl) (h0 ..)))

end Sys2Proof.Machine
end

section
/-! SUPPORT. The entry of safe state without a reset (R392), and the loss of a clock that is in use (R362). -/

namespace Sys2Proof.Machine

/-- After SAFE and CAUSE, the entry writes only what its interrupt samples and the wake of Sapwood write. -/
theorem safeSet_regs (s : State) (cause : Nat) : KeepsRegs icRegs ((s.set F.FLT.STATUS.SAFE 1).set F.FLT.STATUS.CAUSE cause) (s.safeSet cause) := by
  have h0 : ∀ (u : State) (x : Faults), KeepsRegs icRegs u { u with flt := x } := fun _ _ _ _ => rfl
  unfold State.safeSet
  exact ((h0 _ _).of_regs ((State.intervalNote_eff ..).regs rfl)).trans (icSample_regs _ 0 1)

theorem safeSet_shown (s : State) {cause : Nat} (hc : cause < 8) : (s.safeSet cause).on F.FLT.STATUS.SAFE = true ∧ (s.safeSet cause).get F.FLT.STATUS.CAUSE = cause := by
  constructor
  · rw [(safeSet_regs s cause).on rfl, State.on, get_set_disj _ _ (by decide) (by decide)]
    exact on_set_one s F.FLT.STATUS.SAFE (by decide) rfl
  · rw [(safeSet_regs s cause).get rfl, get_set _ _ _ (by decide)]
    exact Nat.mod_eq_of_lt hc

theorem safeSet_flt (s : State) (cause : Nat) :
    (s.safeSet cause).flt = { s.flt with safeAt := s.time.t, safe1 := s.flt.safe1 + (if cause = 1 then 1 else 0), safe3 := s.flt.safe3 + (if cause = 3 then 1 else 0) } := by
  have h0 : ∀ u : State, ((u.intervalNote 2).icSample 0 1).flt = u.flt := fun u => ((State.icSample_eff ..).flt rfl).trans ((State.intervalNote_eff u 2).flt rfl)
  unfold State.safeSet
  exact h0 _

/-- Outside the start of class C or P, and below the counts at which the entry is a reset (R393). -/
theorem enterSafe_eq {s : State} {cause : Nat} (hb : s.boot.cls = 0) (h1 : cause = 1 → s.flt.safe1 < 2) (h3 : cause = 3 → s.flt.safe3 = 0) : s.enterSafe cause = s.safeSet cause := by
  have hs : s.starting = false := by simp [State.starting, hb]
  have hn : ¬ ((cause = 1 ∧ 3 ≤ (s.safeSet cause).flt.safe1) ∨ (cause = 3 ∧ 2 ≤ (s.safeSet cause).flt.safe3)) := by
    rw [safeSet_flt]
    rintro (⟨rfl, h⟩ | ⟨rfl, h⟩)
    · have := h1 rfl
      simp at h
      omega
    · simp [h3 rfl] at h
  unfold State.enterSafe
  simp only [hs, Bool.false_eq_true, if_false, if_neg hn]

/-- Safe state with a cause, and the pins, keys and parameters of `s`. -/
def SafeWith (c : Nat) (s t : State) : Prop :=
  t.on F.FLT.STATUS.SAFE = true ∧ t.get F.FLT.STATUS.CAUSE = c ∧ t.pins = s.pins ∧ t.keys = s.keys ∧ t.params = s.params

theorem safeSet_safeWith {F : Nat} {s u : State} {cause : Nat} (hc : cause < 8) (he : Eff F s u) (hp : F.testBit 4 = false) (hk : F.testBit 10 = false) (hq : F.testBit 13 = false) :
    SafeWith cause s (u.safeSet cause) := by
  have hz := State.safeSet_eff u cause
  exact ⟨(safeSet_shown u hc).1, (safeSet_shown u hc).2, (hz.pins rfl).trans (he.pins hp), (hz.keys rfl).trans (he.keys hk), (hz.params rfl).trans (he.params hq)⟩

/-- The clock is lost: what clockLoss leaves before it enters safe state. -/
def State.clockGone (s : State) (clock : Nat) : State :=
  let t := (s.fault 0x51 0xFF 0xFF (leBytes 1 clock ++ List.replicate 7 0)).clockTasks (List.range 8)
  { t with time := { t.time with fast := false } }.set F.TIME.STATUS.SRC 1

theorem clockLoss_eq (s : State) (clock : Nat) : s.clockLoss clock = ((s.clockGone clock).enterSafe 2).seasonUpdate := rfl

theorem clockGone_eff (s : State) (clock : Nat) : Eff 5775623913868 s (s.clockGone clock) := by
  have hf : Eff 5775623913868 s (s.fault 0x51 0xFF 0xFF (leBytes 1 clock ++ List.replicate 7 0)) := (State.fault_eff s 0x51 0xFF 0xFF _).mono rfl
  exact Eff.step (State.set_eff ..) rfl (Eff.upd_time (Eff.step (State.clockTasks_eff ..) rfl hf) rfl)

theorem clockGone_slow (s : State) (clock : Nat) : (s.clockGone clock).time.fast = false := rfl

theorem SafeWith.seasonUpdate {c : Nat} {s t : State} (h : SafeWith c s t) : SafeWith c s t.seasonUpdate := by
  obtain ⟨hs, hc, hp, hk, hq⟩ := h
  have hr := seasonUpdate_regs t
  have he := State.seasonUpdate_eff t
  exact ⟨(hr.on rfl).trans hs, (hr.get rfl).trans hc, (he.pins rfl).trans hp, (he.keys rfl).trans hk, (he.params rfl).trans hq⟩

/-- The loss of a clock in use, after steps that touch neither the start, the pins, the keys nor the parameters: safe state with cause 2, and the sleep counter carries time. -/
theorem clockLoss_safeWith {F : Nat} {s u : State} (clock : Nat) (he : Eff F s u) (hb : F.testBit 5 = false) (hp : F.testBit 4 = false) (hk : F.testBit 10 = false) (hq : F.testBit 13 = false)
    (hs : s.boot.cls = 0) : SafeWith 2 s (u.clockLoss clock) ∧ (u.clockLoss clock).time.fast = false := by
  have hg := clockGone_eff u clock
  have hc : (u.clockGone clock).boot.cls = 0 := by rw [hg.boot rfl, he.boot hb, hs]
  have hz : SafeWith 2 u ((u.clockGone clock).safeSet 2) := safeSet_safeWith (by decide) hg rfl rfl rfl
  rw [clockLoss_eq, enterSafe_eq hc (by simp) (by simp)]
  obtain ⟨h1, h2, h3, h4, h5⟩ := hz.seasonUpdate
  refine ⟨⟨h1, h2, h3.trans (he.pins hp), h4.trans (he.keys hk), h5.trans (he.params hq)⟩, ?_⟩
  rw [(State.seasonUpdate_eff _).time rfl, (State.safeSet_eff _ 2).time rfl, clockGone_slow]

end Sys2Proof.Machine
end

section
/-! XTAL32_FAIL, HFXO_FAIL and PLL_UNLOCK (R28, R362). -/

namespace Sys2Proof.Machine

/-! A failed XTAL32: LFRC takes its place. -/

/-- XTAL32 has failed: it is shown and LFRC clocks the sleep counter, its fault not entered yet. -/
def State.onLfrc (s : State) : State :=
  let t := (s.raise F.CLK.FAIL.X32_FAIL 0 10).set F.CLK.STATUS.X32_OK 0
  { t with season := { t.season with lfrc := true, x32Due := true } }

theorem exec_xtal32Fail {s : State} (h : s.season.lfrc = false) : exec .xtal32Fail s = .next (if s.onLfrc.hscRuns then s.onLfrc.x32Log else s.onLfrc) := by
  rw [show exec .xtal32Fail s = execXtal32Fail s from rfl, execXtal32Fail, h]
  rfl

theorem onLfrc_lfrc (s : State) : s.onLfrc.season.lfrc = true := rfl

theorem onLfrc_shown (s : State) : s.onLfrc.get F.CLK.FAIL.X32_FAIL = 1 := by
  have h0 : ∀ (u : State) (x : Season), ({ u with season := x } : State).get F.CLK.FAIL.X32_FAIL = u.get F.CLK.FAIL.X32_FAIL := fun _ _ => rfl
  refine (h0 _ _).trans ((get_set_addr _ _ (by decide)).trans ?_)
  exact get_raise s F.CLK.FAIL.X32_FAIL 0 10 rfl (by decide) rfl

theorem onLfrc_eff (s : State) : Eff 4673461485572 s s.onLfrc := Eff.upd_season (Eff.step (State.set_eff ..) rfl (State.raise_eff s F.CLK.FAIL.X32_FAIL 0 10)) rfl

theorem xtal32Fail_completes {s : State} (h : s.season.lfrc = false) :
    s.Completes .xtal32Fail fun t => t.season.lfrc = true ∧ t.get F.CLK.FAIL.X32_FAIL = 1 ∧ t.time = s.time ∧ t.mem = s.mem := by
  refine .of_next (exec_xtal32Fail h) ?_
  have he := onLfrc_eff s
  split
  · have hx := State.x32Log_eff s.onLfrc
    exact ⟨(x32Log_sleepClock s.onLfrc).lfrc.trans (onLfrc_lfrc s), ((HscOnly.x32Log s.onLfrc).1.get rfl).trans (onLfrc_shown s), (hx.time rfl).trans (he.time rfl), (hx.mem rfl).trans (he.mem rfl)⟩
  · exact ⟨onLfrc_lfrc s, onLfrc_shown s, he.time rfl, he.mem rfl⟩

/-! A failed HFXO. -/

theorem exec_hfxoFail {s : State} (h : s.on F.CLK.STATUS.HFXO_ON = true) (hao : s.pins.heldAo = false) :
    exec .hfxoFail s = .next ((((s.raise F.CLK.FAIL.HFXO_FAIL 0 10).set F.CLK.STATUS.HFXO_ON 0).pllsOff).clockLoss 2) := by
  rw [show exec .hfxoFail s = execHfxoFail s from rfl, execHfxoFail, h, hao]
  rfl

theorem hfxoFail_completes {s : State} (h : s.on F.CLK.STATUS.HFXO_ON = true) (hao : s.pins.heldAo = false) (hb : s.boot.cls = 0) :
    s.Completes .hfxoFail fun t => SafeWith 2 s t ∧ t.time.fast = false := by
  have he : Eff 4673595703300 s (((s.raise F.CLK.FAIL.HFXO_FAIL 0 10).set F.CLK.STATUS.HFXO_ON 0).pllsOff) :=
    Eff.step (State.pllsOff_eff _) rfl (Eff.step (State.set_eff ..) rfl ((State.raise_eff s F.CLK.FAIL.HFXO_FAIL 0 10).mono rfl))
  exact .of_next (exec_hfxoFail h hao) (clockLoss_safeWith 2 he rfl rfl rfl rfl hb)

/-! A PLL out of lock. -/

/-- Without PLL_SYS, its domain's clock is off. -/
def State.sysStopped (s : State) (pll : Nat) : State := if pll = 0 then { s with time := { s.time with sys := false } } else s

theorem sysStopped_regs (s : State) (pll : Nat) : (s.sysStopped pll).regs = s.regs := by
  unfold State.sysStopped
  split <;> rfl

/-- The output of a PLL has stopped, and its flag says why. -/
def State.pllLost (s : State) (pll : Nat) (freq : Bool) : State :=
  ((s.raise (if freq then F.CLK.FAIL.FREQ else pllFlag pll) 0 10).set (pllLock pll) 0).sysStopped pll

/-- What the loss of a PLL may write: the flags and states of the clocks, and what an interrupt writes. -/
def clkRegs (a : Nat) : Bool := icRegs a || a == 0x40070004

theorem KeepsRegs.clk {s t : State} (h : KeepsRegs icRegs s t) : KeepsRegs clkRegs s t := h.mono fun _ ha => (Bool.or_eq_false_iff.mp ha).1

theorem pllLock_fld {pll : Nat} (h : pll < 3) : (pllLock pll).addr = 0x40070000 ∧ (pllLock pll).hi = pll + 2 ∧ (pllLock pll).lo = pll + 2 := by
  obtain rfl | rfl | rfl : pll = 0 ∨ pll = 1 ∨ pll = 2 := by omega
  all_goals decide

theorem seasonUpdate_pllLock (s : State) {pll : Nat} (h : pll < 3) : s.seasonUpdate.on (pllLock pll) = s.on (pllLock pll) := by
  obtain ⟨ha, hhi, -⟩ := pllLock_fld h
  have hlo : (pllLock pll).hi < F.CLK.STATUS.SEASON.lo := by
    rw [hhi]
    show pll + 2 < 6
    omega
  unfold State.seasonUpdate
  dsimp only
  rw [State.on, get_set_disj _ _ (by omega) (.inl hlo), get_set_addr _ _ (by rw [ha]; decide), State.on]

theorem unlockFlag_fld {pll : Nat} (freq : Bool) (h : pll < 3) :
    (if freq then F.CLK.FAIL.FREQ else pllFlag pll).addr = 0x40070004 ∧ (if freq then F.CLK.FAIL.FREQ else pllFlag pll).hi < 32 ∧
      (if freq then F.CLK.FAIL.FREQ else pllFlag pll).lo = (if freq then F.CLK.FAIL.FREQ else pllFlag pll).hi := by
  obtain rfl | rfl | rfl : pll = 0 ∨ pll = 1 ∨ pll = 2 := by omega
  all_goals cases freq <;> decide

theorem pllLost_eff (s : State) (pll : Nat) (freq : Bool) : Eff 4673595703300 s (s.pllLost pll freq) := by
  have h : Eff 4673595703300 s ((s.raise (if freq then F.CLK.FAIL.FREQ else pllFlag pll) 0 10).set (pllLock pll) 0) := Eff.step (State.set_eff ..) rfl ((State.raise_eff ..).mono rfl)
  exact Eff.ite (Eff.upd_time h rfl) h

theorem pllLost_keeps (s : State) {pll : Nat} (freq : Bool) (h : pll < 3) : KeepsRegs clkRegs s (s.pllLost pll freq) := by
  have hr : KeepsRegs clkRegs s (s.raise (if freq then F.CLK.FAIL.FREQ else pllFlag pll) 0 10) :=
    ((KeepsRegs.refl s).set (by rw [(unlockFlag_fld freq h).1]; rfl)).trans (icSample_regs _ 0 10).clk
  exact (hr.set (by rw [(pllLock_fld h).1]; rfl)).of_regs (sysStopped_regs ..)

theorem pllLost_get (s : State) {pll : Nat} (freq : Bool) (f : Fld) :
    (s.pllLost pll freq).get f = ((s.raise (if freq then F.CLK.FAIL.FREQ else pllFlag pll) 0 10).set (pllLock pll) 0).get f := by
  rw [State.get, State.get, State.rw, State.rw, State.pllLost, sysStopped_regs]

theorem pllLost_flag (s : State) {pll : Nat} (freq : Bool) (h : pll < 3) : (s.pllLost pll freq).get (if freq then F.CLK.FAIL.FREQ else pllFlag pll) = 1 := by
  obtain ⟨ha, hhi, hlo⟩ := unlockFlag_fld freq h
  rw [pllLost_get s freq, get_set_addr _ _ (by rw [ha, (pllLock_fld h).1]; decide)]
  exact get_raise _ _ _ _ (by rw [ha]; rfl) hhi hlo

theorem pllLost_unlocked (s : State) {pll : Nat} (freq : Bool) (h : pll < 3) : (s.pllLost pll freq).on (pllLock pll) = false := by
  rw [State.on, pllLost_get s freq]
  exact on_set_zero _ _ (by rw [(pllLock_fld h).2.1]; omega)

/-- Whether a PLL is in use is said by the units, not by the clocks. -/
theorem pllUsed_congr {s t : State} (hr : KeepsRegs clkRegs s t) (hs : t.spn = s.spn) (hm : t.mac = s.mac) (hx : t.cspx = s.cspx) (pll : Nat) : t.pllUsed pll = s.pllUsed pll := by
  have hon : ∀ (n : Nat) (f : Nat → Fld), (∀ i < n, clkRegs (f i).addr = false) → ((List.range n).any fun i => t.on (f i)) = (List.range n).any fun i => s.on (f i) := fun n f hf => by
    rw [Bool.eq_iff_iff, List.any_eq_true, List.any_eq_true]
    exact exists_congr fun i => and_congr_right fun hi => by rw [hr.on (hf i (List.mem_range.mp hi))]
  unfold State.pllUsed State.acqUsed State.auxUsed
  rw [hs, hm, hx, hon 16 _ (by decide), hon 48 _ (by decide), hon 6 _ (by decide), hon 8 _ (by decide)]

theorem exec_pllUnlock {s : State} {pll : Nat} (freq : Bool) (h : pll < 3) (hl : s.on (pllLock pll) = true) :
    exec (.pllUnlock pll freq) s = .next (if s.pllUsed pll then (s.pllLost pll freq).clockLoss (3 + pll) else (s.pllLost pll freq).seasonUpdate) := by
  have he := pllLost_eff s pll freq
  have hu : (s.pllLost pll freq).pllUsed pll = s.pllUsed pll := pllUsed_congr (pllLost_keeps s freq h) (he.spn rfl) (he.mac rfl) (he.cspx rfl) pll
  refine exec_guardUnit (b := Instr.wf (.pllUnlock pll freq)) ?_ (decide_eq_true h)
  rw [show exec (.pllUnlock pll freq) s = execPllUnlock pll freq s from rfl, execPllUnlock, if_pos hl, ← hu]
  rfl

theorem pllUnlock_used {s : State} {pll : Nat} (freq : Bool) (h : pll < 3) (hl : s.on (pllLock pll) = true) (hu : s.pllUsed pll = true) (hb : s.boot.cls = 0) :
    s.Completes (.pllUnlock pll freq) fun t => SafeWith 2 s t ∧ t.time.fast = false := by
  refine .of_next (exec_pllUnlock freq h hl) ?_
  rw [if_pos hu]
  exact clockLoss_safeWith (3 + pll) (pllLost_eff s pll freq) rfl rfl rfl rfl hb

theorem pllUnlock_unused {s : State} {pll : Nat} (freq : Bool) (h : pll < 3) (hl : s.on (pllLock pll) = true) (hu : s.pllUsed pll = false) :
    s.Completes (.pllUnlock pll freq) fun t => t.get (if freq then F.CLK.FAIL.FREQ else pllFlag pll) = 1 ∧ t.on (pllLock pll) = false ∧ t.time = s.time ∧ t.mem = s.mem := by
  have he := pllLost_eff s pll freq
  have hr := seasonUpdate_regs (s.pllLost pll freq)
  have hu' := State.seasonUpdate_eff (s.pllLost pll freq)
  refine .of_next (exec_pllUnlock freq h hl) ?_
  rw [if_neg (by simp [hu])]
  refine ⟨(hr.get ?_).trans (pllLost_flag s freq h), ?_, ?_, (hu'.mem rfl).trans (he.mem rfl)⟩
  · rw [(unlockFlag_fld freq h).1]
    rfl
  · exact (seasonUpdate_pllLock _ h).trans (pllLost_unlocked s freq h)
  · have h0 : pll ≠ 0 := by
      rintro rfl
      exact absurd hu Bool.noConfusion
    rw [hu'.time rfl, State.pllLost, State.sysStopped, if_neg h0]
    exact ((State.set_eff ..).time rfl).trans ((State.raise_eff ..).time rfl)

end Sys2Proof.Machine
end

section
/-! INTERCONNECT_FAULT, HSC_WATCHDOG_EXPIRY and SAFE_EXIT (R392 to R395, R429). -/

namespace Sys2Proof.Machine

/-! A fault of the interconnect. -/

theorem exec_interconnectFault {s : State} {master addr : Nat} (hw : Instr.wf (.interconnectFault master addr) = true) (hf : s.fabricClock = true) :
    exec (.interconnectFault master addr) s = .next ((s.fault 0x50 0xFF 0xFF (leBytes 1 master ++ [0, 0, 0] ++ leBytes 4 addr)).enterSafe 1) := by
  refine exec_guardUnit (b := Instr.wf (.interconnectFault master addr)) ?_ hw
  rw [show exec (.interconnectFault master addr) s = execInterconnectFault master addr s from rfl, execInterconnectFault, if_pos hf]

theorem interconnectFault_completes {s : State} {master addr : Nat} (hw : Instr.wf (.interconnectFault master addr) = true) (hf : s.fabricClock = true) (hb : s.boot.cls = 0)
    (h1 : s.flt.safe1 < 2) : s.Completes (.interconnectFault master addr) fun t => SafeWith 1 s t ∧ t.flt.safe1 = s.flt.safe1 + 1 ∧ t.flt.safeAt = s.time.t := by
  refine .of_next (exec_interconnectFault hw hf) ?_
  generalize hd : leBytes 1 master ++ [0, 0, 0] ++ leBytes 4 addr = detail
  have he := State.fault_eff s 0x50 0xFF 0xFF detail
  have hn : (s.fault 0x50 0xFF 0xFF detail).flt.safe1 = s.flt.safe1 := (fault_safeEntries s 0x50 0xFF 0xFF detail).safe1
  rw [enterSafe_eq (by rw [he.boot rfl, hb]) (fun _ => by rwa [hn]) (by simp)]
  refine ⟨safeSet_safeWith (by decide) he rfl rfl rfl, ?_, ?_⟩
  · rw [safeSet_flt, ← hn]
    rfl
  · rw [safeSet_flt, ← he.time rfl]

/-! The watchdog of HSC, and its other faults. -/

/-- The expiry comes at the end of the watchdog's count, the other faults at once. -/
def State.hscFaultAt (s : State) (cause : Nat) : State := if cause = 1 then (s.advanceTo (s.wdt.hscAt + hscWdtT)).settle else s

theorem exec_hscWatchdogExpiry {s : State} {cause addr : Nat} {pc : Word} (hw : Instr.wf (.hscWatchdogExpiry cause addr pc) = true) (hr : s.hscRuns = true) (hf : s.time.fast = true)
    (hh : cause = 1 → s.hscHalted = false) :
    exec (.hscWatchdogExpiry cause addr pc) s = .next ((((s.hscFaultAt cause).hscFault cause addr pc).hscGo).enterSafe 3) := by
  have hc : (s.hscRuns && s.time.fast && !(cause == 1 && s.hscHalted)) = true := by
    rw [hr, hf]
    by_cases h : cause = 1
    · simp [hh h]
    · simp [h]
  refine exec_guardUnit (b := Instr.wf (.hscWatchdogExpiry cause addr pc)) ?_ hw
  rw [show exec (.hscWatchdogExpiry cause addr pc) s = execHscWatchdogExpiry cause addr pc s from rfl, execHscWatchdogExpiry, if_pos hc]
  rfl

theorem hscFaultAt_eff (s : State) (cause : Nat) : Eff 5775655371148 s (s.hscFaultAt cause) :=
  .ite (.step (State.settle_eff _) rfl ((State.advanceTo_eff ..).mono rfl)) (.refl _ s)

theorem hscFaultAt_safeEntries (s : State) (cause : Nat) : Keeps State.safeEntries s (s.hscFaultAt cause) :=
  .ite (.after (settle_safeEntries _) (safeEntries_of_eff (State.advanceTo_eff ..) rfl)) (.refl s)

theorem hscFault_safeEntries (s : State) (cause addr : Nat) (pc : Word) : Keeps State.safeEntries s (s.hscFault cause addr pc) := by
  unfold State.hscFault
  exact .ite (fault_safeEntries ..) (.ite (.after (fault_safeEntries ..) (eccUncorr_safeEntries ..))
    (.after (fault_safeEntries ..) (.after (safeEntries_set ..) (.after (safeEntries_set ..) (safeEntries_sat ..)))))

theorem hscWatchdogExpiry_completes {s : State} {cause addr : Nat} {pc : Word} (hw : Instr.wf (.hscWatchdogExpiry cause addr pc) = true) (hr : s.hscRuns = true) (hf : s.time.fast = true)
    (hh : cause = 1 → s.hscHalted = false) (hb : s.boot.cls = 0) (h3 : s.flt.safe3 = 0) :
    s.Completes (.hscWatchdogExpiry cause addr pc) fun t => SafeWith 3 s t ∧ t.hscHalted = false := by
  refine .of_next (exec_hscWatchdogExpiry hw hr hf hh) ?_
  have he : Eff 8524434440588 s (((s.hscFaultAt cause).hscFault cause addr pc).hscGo) :=
    Eff.step (State.hscGo_eff _) rfl (Eff.step (State.hscFault_eff ..) rfl ((hscFaultAt_eff s cause).mono rfl))
  have hk : Keeps State.safeEntries s (((s.hscFaultAt cause).hscFault cause addr pc).hscGo) :=
    .after (safeEntries_of_eff (State.hscGo_eff _) rfl) (.after (hscFault_safeEntries ..) (hscFaultAt_safeEntries ..))
  rw [enterSafe_eq (by rw [he.boot rfl, hb]) (by simp) (fun _ => by rw [hk.safe3, h3])]
  exact ⟨safeSet_safeWith (by decide) he rfl rfl rfl, (State.safeSet_eff _ 3).hscHalted rfl⟩

/-! The end of safe state. -/

/-- As execSafeExit before SAFE and CAUSE are cleared. -/
def State.safeEnding (s : State) (us : Nat) : State :=
  let t := ((s.advanceTo (s.flt.safeAt + us * usT)).settle).intervalNote 2
  t.fault 0x53 0xFF 0xFF (leBytes 1 (s.get F.FLT.STATUS.CAUSE) ++ [0, 0, 0] ++ leBytes 4 us)

/-- SAFE and CAUSE are clear, and HSC, where it had stopped, has restarted. -/
def State.safeEnded (s : State) (c : Nat) : State :=
  let t := (s.set F.FLT.STATUS.SAFE 0).set F.FLT.STATUS.CAUSE 0
  if c = 3 then t.hscRestarted else t

theorem exec_safeExit {s : State} (us : Nat) (h : s.safeMayEnd = true) :
    exec (.safeExit us) s = .next (((s.safeEnding us).safeEnded (s.get F.FLT.STATUS.CAUSE)).icSample 0 1) := by
  rw [show exec (.safeExit us) s = execSafeExit us s from rfl, execSafeExit, if_pos h]
  rfl

theorem safeEnded_get (s : State) (c : Nat) {f : Fld} (h : f.addr = 0x40000008) : (s.safeEnded c).get f = ((s.set F.FLT.STATUS.SAFE 0).set F.FLT.STATUS.CAUSE 0).get f := by
  have hr : HscOnly ((s.set F.FLT.STATUS.SAFE 0).set F.FLT.STATUS.CAUSE 0) (s.safeEnded c) := .ite (.hscRestarted _) (.refl _)
  exact hr.1.get (by rw [h]; rfl)

theorem safeExit_completes {s : State} (us : Nat) (h : s.safeMayEnd = true) :
    s.Completes (.safeExit us) fun t => t.on F.FLT.STATUS.SAFE = false ∧ t.get F.FLT.STATUS.CAUSE = 0 ∧ t.pins = s.pins ∧ t.keys = s.keys := by
  refine .of_next (exec_safeExit us h) ?_
  have hr := icSample_regs ((s.safeEnding us).safeEnded (s.get F.FLT.STATUS.CAUSE)) 0 1
  have he := execSafeExit_eff us s _ (exec_safeExit us h)
  refine ⟨?_, ?_, he.pins rfl, he.keys rfl⟩
  · rw [State.on, hr.get rfl, safeEnded_get _ _ rfl, get_set_disj _ _ (by decide) (by decide)]
    exact on_set_zero (s.safeEnding us) F.FLT.STATUS.SAFE (by decide)
  · rw [hr.get rfl, safeEnded_get _ _ rfl, get_set _ _ _ (by decide)]
    rfl

end Sys2Proof.Machine
end

section
/-! HFXO_RESTART: HFXO runs again, which is a THAW from WINTER (R28, R349, R362). -/

namespace Sys2Proof.Machine

/-! Time carried over a sleep: by the sleep counter's clock, its temperature model and whether SYNC holds, and by nothing else. -/

/-- What time over a sleep depends on. -/
structure SameClock (s t : State) : Prop where
  time : t.time = s.time
  lfrc : t.season.lfrc = s.season.lfrc
  sync : t.get F.TIME.STATUS.SYNC = s.get F.TIME.STATUS.SYNC
  xtal : t.rw 0x4004004C = s.rw 0x4004004C

/-- What writes neither TIME.STATUS nor TIME.XTAL, nor time, leaves the clock. -/
theorem SameClock.of_keeps {P : Nat → Bool} {s t : State} (ht : t.time = s.time) (hl : t.season.lfrc = s.season.lfrc) (hr : KeepsRegs P s t) (h0 : P 0x40040000 = false) (h1 : P 0x4004004C = false) :
    SameClock s t := ⟨ht, hl, hr.get h0, hr _ h1⟩

section
variable {s t : State} (h : SameClock s t)
include h

theorem SameClock.sleepPeriod : t.sleepPeriod = s.sleepPeriod := by rw [State.sleepPeriod, State.sleepPeriod, h.lfrc]

theorem SameClock.sleepRate : t.sleepRate = s.sleepRate := by
  have hx : ∀ f : Fld, f.addr = 0x4004004C → t.get f = s.get f := fun f hf => by rw [State.get, State.get, hf, h.xtal]
  rw [State.sleepRate, State.sleepRate, h.time, h.lfrc, State.getI, State.getI, State.getI, State.getI, hx _ rfl, hx _ rfl, hx _ rfl]

theorem SameClock.carryBy (x : Nat) : SameClock (s.carryBy x) (t.carryBy x) := by
  refine ⟨?_, h.lfrc, h.sync, h.xtal⟩
  unfold State.carryBy State.elapsed
  rw [h.time, h.sync]

theorem SameClock.tao (x : Int) : SameClock { s with time := { s.time with tao := x } } { t with time := { t.time with tao := x } } :=
  ⟨by rw [h.time], h.lfrc, h.sync, h.xtal⟩

theorem SameClock.onXtal : SameClock { s with season := { s.season with lfrc := false } } { t with season := { t.season with lfrc := false } } := ⟨h.time, rfl, h.sync, h.xtal⟩

end

theorem SameClock.carryCounts {s t : State} (h : SameClock s t) (n : Nat) (xs : List Int) : SameClock (s.carryCounts n xs) (t.carryCounts n xs) := by
  induction xs generalizing s t n with
  | nil =>
    unfold State.carryCounts State.carry
    rw [h.sleepPeriod, h.sleepRate]
    exact h.carryBy _
  | cons x xs ih =>
    have hx := h.tao x
    unfold State.carryCounts State.carry
    dsimp only
    rw [hx.sleepPeriod, hx.sleepRate]
    exact ih (hx.carryBy _) _

theorem SameClock.asleep {s t : State} (h : SameClock s t) (z : Asleep) : SameClock (s.asleep z) (t.asleep z) := by
  unfold State.asleep
  rw [h.time]
  exact (h.carryCounts ..).carryBy _

theorem SameClock.set {s t : State} (h : SameClock s t) {f : Fld} (v : Nat) (h0 : f.addr ≠ 0x40040000) (h1 : f.addr ≠ 0x4004004C) : SameClock (s.set f v) (t.set f v) :=
  ⟨h.time, h.lfrc, by rw [get_set_addr _ _ h0.symm, get_set_addr _ _ h0.symm, h.sync], by rw [rw_set _ _ _ h1.symm, rw_set _ _ _ h1.symm, h.xtal]⟩

theorem SameClock.xtalBack {s t : State} (h : SameClock s t) (x32 : Bool) : SameClock (s.xtalBack x32) (t.xtalBack x32) := by
  unfold State.xtalBack
  rw [h.lfrc]
  split
  · exact h.onXtal.set (f := F.CLK.STATUS.X32_OK) 1 (by decide) (by decide)
  · exact h

theorem wakeBy_sameClock (s : State) : SameClock s (s.wakeBy 0) := by
  have h0 : ∀ x : Season, KeepsRegs icRegs s { s with season := x } := fun _ _ _ => rfl
  have hr : KeepsRegs icRegs s (s.wakeBy 0) := .ite ((h0 _).trans (wakeNow_regs _ _)) (.ite (((h0 _).set rfl).set rfl) (h0 _))
  exact .of_keeps ((State.wakeBy_eff s 0).time rfl) (wakeBy_sleepClock s 0).lfrc hr rfl rfl

/-! The THAW. -/

theorem gridHere_time (s : State) : s.gridHere.time = { s.time with grid := s.cycleAt s.time.t, floor := s.time.t } := rfl

theorem timeBack_time (s : State) (z : Asleep) : (s.timeBack z).time.fast = true ∧ (s.timeBack z).time.t = (s.asleep z).time.t := by
  have hg : ∀ (u : State) (x : TimeBase), (({ u with time := x } : State).set F.TIME.STATUS.SRC 0).gridHere.settle.time.fast = x.fast ∧
      (({ u with time := x } : State).set F.TIME.STATUS.SRC 0).gridHere.settle.time.t = x.t := fun u x => by
    rw [(State.settle_eff _).time rfl, gridHere_time]
    exact ⟨rfl, rfl⟩
  have hm : ∀ (u : State) (a b : Nat) (e e1 : Int), ((u.missedIn a b (List.range 32)).chainsShift e e1).time.t = u.time.t := fun u a b e e1 =>
    congrArg TimeBase.t (((State.chainsShift_eff ..).time rfl).trans ((State.missedIn_eff ..).time rfl))
  unfold State.timeBack
  dsimp only
  exact ⟨(hg ..).1, (hg ..).2.trans (hm ..)⟩

theorem thawWinter_time (s : State) (src : Nat) (z : Asleep) (x32 : Bool) : (s.thawWinter src z x32).time = ((((s.wakeBy src).set F.CLK.STATUS.SYS_LOCK 1).xtalBack x32).timeBack z).time := by
  have hp : ∀ u : State, (u.pllsNeeded.hscResume).time = u.time := fun u => (HscOnly.hscResume _).2.trans ((State.pllsNeeded_eff u).time rfl)
  have hc : ∀ (u : State) (b : Bool), (if b then u.calWoken else u).time = u.time := fun u b => by split <;> rfl
  have hs : ∀ (u : State) (x : Season) (us : List Nat), (({ u with season := x } : State).thaws us).time = u.time := fun u x us => (State.thaws_eff _ us).time rfl
  unfold State.thawWinter
  dsimp only
  exact (hs ..).trans ((hc ..).trans (((State.lateWake_eff ..).time rfl).trans (hp _)))

theorem thawWinter_alarm (s : State) (src : Nat) (z : Asleep) (x32 : Bool) : (s.thawWinter src z x32).season.alarm = none := by
  have hs : ∀ (u : State) (us : List Nat), (({ u with season := { u.season with waking := false, alarm := none } } : State).thaws us).season.alarm = none := fun u us => (thaws_sleepClock _ us).alarm
  unfold State.thawWinter
  exact hs ..

theorem exec_hfxoRestart {s : State} (z : Asleep) (x32 : Bool) (ho : s.on F.CLK.STATUS.HFXO_ON = false) (hf : s.season.frost = false) (ht : s.time.fast = false) (hh : s.pins.heldH = false)
    (hb : s.boot.cls = 0) : exec (.hfxoRestart true z x32) s = .next ((s.set F.CLK.STATUS.HFXO_ON 1).thawWinter 0 z x32) := by
  rw [show exec (.hfxoRestart true z x32) s = execHfxoRestart true z x32 s from rfl, execHfxoRestart, ho, hf, ht, hh, hb]
  rfl

theorem hfxoRestart_completes {s : State} (z : Asleep) (x32 : Bool) (ho : s.on F.CLK.STATUS.HFXO_ON = false) (hf : s.season.frost = false) (ht : s.time.fast = false) (hh : s.pins.heldH = false)
    (hb : s.boot.cls = 0) :
    s.Completes (.hfxoRestart true z x32) fun t => t.time.fast = true ∧
      t.time.t = ((((s.set F.CLK.STATUS.HFXO_ON 1).set F.CLK.STATUS.SYS_LOCK 1).xtalBack x32).asleep z).time.t ∧ t.season.alarm = none := by
  refine .of_next (exec_hfxoRestart z x32 ho hf ht hh hb) ?_
  have hc := (((wakeBy_sameClock (s.set F.CLK.STATUS.HFXO_ON 1)).set (f := F.CLK.STATUS.SYS_LOCK) 1 (by decide) (by decide)).xtalBack x32).asleep z
  rw [thawWinter_time, thawWinter_alarm, (timeBack_time ..).1, (timeBack_time ..).2, hc.time]
  exact ⟨rfl, rfl, rfl⟩

/-! The obligation. -/

/-- Settles O33: each failure and its end, by what it writes before safe state is entered or left, and HFXO_RESTART by the time that a THAW carries over the sleep. -/
theorem clocksAndSafeState : Obligations.ClocksAndSafeState := by
  unfold Obligations.ClocksAndSafeState
  refine ⟨fun s pll z freq x32 h => ⟨xtal32Fail_completes, ?_, hfxoRestart_completes z x32, ?_, pllUnlock_unused freq h⟩, fun s master addr cause us pc => ⟨?_, ?_, safeExit_completes us⟩⟩
  · intro ho hao hb
    obtain ⟨t, ht, ⟨h1, h2, h3, -, h4⟩, h5⟩ := hfxoFail_completes ho hao hb
    exact ⟨t, ht, h1, h2, h5, h3, h4⟩
  · intro hl hu hb
    obtain ⟨t, ht, ⟨h1, h2, h3, -, h4⟩, h5⟩ := pllUnlock_used freq h hl hu hb
    exact ⟨t, ht, h1, h2, h5, h3, h4⟩
  · exact interconnectFault_completes
  · exact hscWatchdogExpiry_completes

end Sys2Proof.Machine
end

section
/-! What reset leaves (R59, R70, R444), and the operands of the bank check (R66). -/

namespace Sys2Proof.Machine

theorem canonical_reset : State.reset.Canonical := ⟨rfl, by decide +kernel⟩

/-- Settles O5: memory and the register file are written out in State.reset, and each part is read off it. -/
theorem resetCanonical : Obligations.ResetCanonical := by
  unfold Obligations.ResetCanonical
  refine ⟨canonical_reset, rfl, ?_, ?_, ?_, ?_, ?_, ?_, rfl, rfl, rfl, rfl, rfl, fun a => rfl⟩
  all_goals decide +kernel

/-- A list of gauge samples that the test cannot take is no operand of the bank check: the command ends in a fault, whatever the state. -/
theorem exec_bankCapacitanceCheck_of_not_wf {s : State} {samples : List (Nat × Int)} (h : Instr.wf (.bankCapacitanceCheck samples) = false) :
    exec (.bankCapacitanceCheck samples) s = .fault .noSuchUnit := by
  rw [show exec (.bankCapacitanceCheck samples) s = execBankCapacitanceCheck samples s from rfl, execBankCapacitanceCheck, guardUnit, h]
  rfl

theorem not_completes_of_fault {s : State} {c : Instr} {r : Fault} {P : State → Prop} (h : exec c s = .fault r) : ¬ s.Completes c P := by
  rintro ⟨t, ht, -⟩
  rw [h] at ht
  exact absurd ht (by simp)

/-- Refutes O30: it asks for the end of the start under every list of samples, and a code of VSTORE_SNS has 12 bits. With code 4096 among the samples BANK_CAPACITANCE_CHECK ends in a fault, also at the start's fifth step
with no shunt, where the statement has it complete. The premise `Instr.wf (.bankCapacitanceCheck samples) = true` is missing. -/
theorem not_startUpAndBoot : ¬ Obligations.StartUpAndBoot := by
  unfold Obligations.StartUpAndBoot
  rintro ⟨h, -⟩
  have hw : Instr.wf (.bankCapacitanceCheck [(4096, 0)]) = false := by decide
  obtain ⟨-, hend⟩ := h (State.reset.set F.FLT.BOOT_STATUS.STEP 5) 0 0 0 [(4096, 0)] (by decide +kernel)
  obtain ⟨hcheck, -⟩ := hend (by decide +kernel)
  exact not_completes_of_fault (exec_bankCapacitanceCheck_of_not_wf hw) (hcheck (.inl (by decide +kernel)))

end Sys2Proof.Machine
end

section
/-! SUPPORT. What an accepted command of the inbound window finds and leaves (R111 to R113, R115, R518, R519): the state in which it acts, and its RESULT in the outbound ring. -/

namespace Sys2Proof.Machine

/-! RESULTs. -/

/-- What a RESULT shows of an entry of the ring. -/
def RingEntry.shown (e : RingEntry) : Nat × Nat × Nat × List Byte := (e.kind, e.stream, e.src, e.payload)

/-- A numbered part of a RESULT, as the ring shows it. -/
def partShown (tag : Nat) (p : List Byte × Nat) : Nat × Nat × Nat × List Byte := (6, p.2, tag, (p.1 ++ List.replicate 16 0).take 16)

/-- An entry joins the ring behind the others, of which a full ring loses the oldest (R115, R116). -/
theorem ringEnter_entries (s : State) (x : RingEntry) : (s.ringEnter x).ring.entries =
    (if decide (2048 ≤ s.ring.entries.length) then s.ring.entries.drop 1 else s.ring.entries) ++ [{ x with seq := s.ring.nextSeq % 2 ^ 32 }] := by
  have hc : ∀ (u : State) (n : Nat), Keeps State.ring u ((u.set F.GW.RING_STATUS.COUNT n).icSample 1 2) := fun u n => .after ((State.icSample_eff _ 1 2).ring rfl) ((State.set_eff ..).ring rfl)
  have ha : ∀ u : State, Keeps State.ring u (if u.alertKind x.kind then u.alertPend 0 true else u) := fun u => .ite ((State.alertPend_eff u 0 true).ring rfl) (.refl u)
  have hw : ∀ u : State, Keeps State.ring u (if u.on F.SEASON.WAKE.RING then u.wakeSapwood 9 else u) := fun u => .ite ((State.wakeSapwood_eff u 9).ring rfl) (.refl u)
  have he : ∀ u : State, Keeps State.ring u (if x.kind = 4 ∨ x.kind = 6 then (if (u.icEdge 1 3).on F.SEASON.WAKE.RING then (u.icEdge 1 3).wakeSapwood 9 else u.icEdge 1 3) else u) :=
    fun u => .ite (.after (hw _) ((State.icEdge_eff u 1 3).ring rfl)) (.refl u)
  have hr : ∀ (u : State) (r : Ring), Keeps State.ring { u with ring := r } (s.ringEnter x) → (s.ringEnter x).ring.entries = r.entries := fun _ _ h => congrArg Ring.entries h
  exact hr _ _ (.after (he _) (.after (ha _) (hc _ _)))

/-- The parts of a RESULT come to stand in order, with what stood before `done` cut only at its beginning, as long as the ring can hold `done` and the parts. -/
theorem ringParts_shown (tag : Nat) (ps : List (List Byte)) (s : State) (i : Nat) (old done : List (Nat × Nat × Nat × List Byte)) (h : s.ring.entries.map RingEntry.shown = old ++ done)
    (hl : done.length + ps.length ≤ 2048) : ∃ old', (s.ringParts tag i ps).ring.entries.map RingEntry.shown = old' ++ (done ++ (ps.zipIdx i).map (partShown tag)) := by
  induction ps generalizing s i old done with
  | nil => exact ⟨old, by simpa [State.ringParts] using h⟩
  | cons p ps ih =>
    rw [List.length_cons] at hl
    have hput : s.ringPut 6 i tag s.time.cycle p = s.ringEnter { seq := 0, kind := 6, stream := i, src := tag, cycle := s.time.cycle, payload := (p ++ List.replicate 16 0).take 16 } := by
      simp [State.ringPut]
    have hone : ∃ old1, (s.ringPut 6 i tag s.time.cycle p).ring.entries.map RingEntry.shown = old1 ++ (done ++ [partShown tag (p, i)]) := by
      rw [hput, ringEnter_entries, List.map_append]
      by_cases hf : 2048 ≤ s.ring.entries.length
      · have hne : 1 ≤ old.length := by
          have := congrArg List.length h
          simp at this
          omega
        refine ⟨old.drop 1, ?_⟩
        rw [if_pos (decide_eq_true hf), List.map_drop, h, List.drop_append_of_le_length hne, List.append_assoc]
        rfl
      · refine ⟨old, ?_⟩
        rw [if_neg (by simpa using hf), h, List.append_assoc]
        rfl
    obtain ⟨old1, h1⟩ := hone
    obtain ⟨old2, h2⟩ := ih _ (i + 1) old1 (done ++ [partShown tag (p, i)]) h1 (by simp; omega)
    exact ⟨old2, by simpa [State.ringParts, List.zipIdx_cons] using h2⟩

theorem length_parts16 (n : Nat) (d : List Byte) : (parts16 n d).length ≤ n := by
  induction n generalizing d with
  | zero => exact Nat.le_refl 0
  | succ n ih =>
    unfold parts16
    split
    · exact Nat.zero_le _
    · exact Nat.succ_le_succ (ih _)

/-- The RESULT stands at the end of the ring (R111, R115). -/
theorem result_resulted (s : State) (tag code st : Nat) (data : List Byte) : (s.result tag code st data).Resulted tag code st data := by
  have hl : (resultParts code st data).length ≤ 2048 := by
    have := length_parts16 128 (data.drop 12)
    rw [resultParts, List.length_cons]
    omega
  obtain ⟨old, h⟩ := ringParts_shown tag (resultParts code st data) s 0 (s.ring.entries.map RingEntry.shown) [] (by simp) (by simpa using hl)
  exact ⟨old, h⟩

/-- Registers that an entry of the outbound ring may write: those of an interrupt, the ring's and the alert's. -/
def ringRegs (a : Nat) : Bool := icRegs a || a == 0x140000084 || a == 0x150000010 || a == 0x140012008

theorem KeepsRegs.ring {s t : State} (h : KeepsRegs icRegs s t) : KeepsRegs ringRegs s t := h.mono fun a ha => by
  simp only [ringRegs, Bool.or_eq_false_iff] at ha
  exact ha.1.1.1

theorem ringEnter_ringRegs (s : State) (x : RingEntry) : KeepsRegs ringRegs s (s.ringEnter x) := by
  have hf : KeepsRegs ringRegs s (if decide (2048 ≤ s.ring.entries.length) then s.sat F.GW.RING_STATUS.OVERRUN 1 else s) := .ite (.set (.refl s) rfl) (.refl s)
  have hc : ∀ (u : State) (n : Nat), KeepsRegs ringRegs u ((u.set F.GW.RING_STATUS.COUNT n).icSample 1 2) := fun u n => (KeepsRegs.set (.refl u) rfl).trans (icSample_regs _ 1 2).ring
  have ha : ∀ u : State, KeepsRegs ringRegs u (if u.alertKind x.kind then u.alertPend 0 true else u) := fun u =>
    .ite ((KeepsRegs.set (.refl u) rfl).trans (.ite (.set (.refl _) rfl) (.refl _))) (.refl u)
  have hw : ∀ u : State, KeepsRegs ringRegs u (if u.on F.SEASON.WAKE.RING then u.wakeSapwood 9 else u) := fun u => .ite (wakeSapwood_regs u 9).ring (.refl u)
  have he : ∀ u : State, KeepsRegs ringRegs u (if x.kind = 4 ∨ x.kind = 6 then (if (u.icEdge 1 3).on F.SEASON.WAKE.RING then (u.icEdge 1 3).wakeSapwood 9 else u.icEdge 1 3) else u) :=
    fun u => .ite ((icEdge_regs u 1 3).ring.trans (hw _)) (.refl u)
  have hr : ∀ (u : State) (r : Ring), KeepsRegs ringRegs u { u with ring := r } := fun _ _ _ _ => rfl
  unfold State.ringEnter
  dsimp only
  exact hf.trans ((hr _ _).trans ((hc _ _).trans ((ha _).trans (he _))))

/-- A RESULT leaves the other registers. -/
theorem result_ringRegs (s : State) (tag code st : Nat) (data : List Byte) : KeepsRegs ringRegs s (s.result tag code st data) := by
  have hp : ∀ (ps : List (List Byte)) (u : State) (i : Nat), KeepsRegs ringRegs u (u.ringParts tag i ps) := by
    intro ps
    induction ps with
    | nil => exact fun u _ => .refl u
    | cons p ps ih =>
      intro u i
      have h1 : KeepsRegs ringRegs u (u.ringPut 6 i tag u.time.cycle p) := .ite (ringEnter_ringRegs u _) (fun _ _ => rfl)
      exact h1.trans (ih _ _)
  exact hp _ _ _

/-! The state in which an accepted command acts. -/

section
variable {s a : State} {code : Nat} {c : GwCmd}

theorem gwRow_accepted (h : s.Accepted code c a) (act : State → State) : s.gwRow code c act = act a := by
  obtain ⟨ho, hc, hr, rfl⟩ := h
  simp [State.gwRow, ho, hc, State.gwRun, hr]

/-- An accepted command completes with what its action does to the state in which it acts. -/
theorem completes_accepted {i : Instr} {P : State → Prop} (act : State → State) (he : exec i s = .next (s.gwRow code c act)) (h : s.Accepted code c a) (hP : P (act a)) : s.Completes i P :=
  .of_next (he.trans (by rw [gwRow_accepted h])) hP

/-- Before it acts a command moves registers and interrupts, the window's held seal state, the key slots' counters and the audit trail. -/
theorem accepted_eff (h : s.Accepted code c a) : Eff 13469554528140 s a := by
  obtain ⟨-, -, -, rfl⟩ := h
  exact .step (State.gwLog_eff ..) rfl (.step (State.gwCounter_eff ..) rfl (.step (State.gwHold_eff ..) rfl (.step (State.gwShow_eff ..) rfl (.step (State.gwVerified_eff ..) rfl
    ((State.gwPut_eff ..).mono rfl)))))

/-- The image load that runs (R97, R113). -/
def State.gwLoad (s : State) : Option ImgLoad := s.gw.load

theorem accepted_load (h : s.Accepted code c a) : a.gw.load = s.gw.load := by
  obtain ⟨-, -, -, rfl⟩ := h
  have hh : ∀ u : State, Keeps State.gwLoad u (u.gwHold code) := fun u => .ite (c := gwIsLong code = true) rfl (.refl u)
  have hg : ∀ {F : Nat} {u v : State}, Eff F u v → F.testBit 9 = false → Keeps State.gwLoad u v := fun he hF => congrArg Gw.load (he.gw hF)
  exact Keeps.after (π := State.gwLoad) (hg (State.gwLog_eff ..) rfl) (.after (hg (State.gwCounter_eff ..) rfl) (.after (hh _) (.after (hg (State.gwShow_eff ..) rfl)
    (.after (hg (State.gwVerified_eff ..) rfl) (hg (State.gwPut_eff ..) rfl)))))

/-- A command without a REASON has passed check 7. -/
theorem gwArgs_of_reason (h : s.gwReason code c = 0) : s.gwArgs code c = true := by
  cases ha : s.gwArgs code c with
  | true => rfl
  | false =>
    simp only [State.gwReason, ha, Bool.not_false, if_true] at h
    iterate 6
      split at h
      · exact absurd h (by decide)
    exact absurd h (by decide)

end

end Sys2Proof.Machine
end

section
/-! SUPPORT. Flash as the loads leave it (R94, R95, R97, R398): erased sectors, the copies of the slot selection word, and which copies the audit trail appends. -/

namespace Sys2Proof.Machine

/-! Erased bytes. -/

theorem alFind_filter_keys {α : Type} (p : Nat → Bool) (m : List (Nat × α)) (k : Nat) : alFind (m.filter fun e => p e.1) k = if p k then alFind m k else none := by
  induction m with
  | nil => simp [alFind]
  | cons e m ih =>
    obtain ⟨a, b⟩ := e
    rw [List.filter_cons]
    by_cases hk : k = a
    · subst hk
      cases hp : p k <;> simp [alFind, ih, hp]
    · cases hp : p a <;> simp [alFind, ih, hk]

/-- A wipe returns its bytes to what unwritten memory reads as, and no others. -/
theorem ldB_wipe (s : State) (a n b : Nat) : (s.wipe a n).ldB b = if a ≤ b ∧ b < a + n then memDefault b else s.ldB b := by
  unfold State.ldB State.wipe spGet
  dsimp only
  rw [alFind_filter_keys (fun k => decide (k < a) || decide (a + n ≤ k))]
  by_cases h : a ≤ b ∧ b < a + n
  · rw [if_pos h, if_neg (by simp; omega), Option.getD_none]
  · rw [if_neg h, if_pos (by simp; omega)]

theorem eraseSync_mem (s : State) (sector : Nat) : (s.eraseSync sector).mem = (s.wipe (sectorAddr 0 sector) 0x1000).mem := rfl

/-- Sectors erased in a row read as erased, and no other byte of memory changes. -/
theorem erasesSync_ldB (s : State) (sector n b : Nat) :
    (s.erasesSync sector n).ldB b = if sectorAddr 0 sector ≤ b ∧ b < sectorAddr 0 sector + 0x1000 * n then memDefault b else s.ldB b := by
  have hnext : ∀ i, sectorAddr 0 (i + 1) = sectorAddr 0 i + 0x1000 := fun i => by
    unfold sectorAddr
    omega
  induction n generalizing s sector with
  | zero => rw [State.erasesSync, if_neg (by omega)]
  | succ n ih =>
    rw [State.erasesSync, ih, hnext, ldB_congr (eraseSync_mem s sector), ldB_wipe]
    generalize sectorAddr 0 sector = first
    by_cases h : first ≤ b ∧ b < first + 0x1000
    · rw [if_pos h, ite_self, if_pos ⟨h.1, by omega⟩]
    · have hr : (first + 0x1000 ≤ b ∧ b < first + 0x1000 + 0x1000 * n) ↔ (first ≤ b ∧ b < first + 0x1000 * (n + 1)) := by omega
      simp only [if_neg h, hr]

/-! The slot selection word. -/

theorem length_selBytes (w : SelWord) : w.bytes.length = 96 := by simp [SelWord.bytes]

/-- The sectors of the slot selection word. -/
theorem sectorAddr_sel {half : Nat} (h : half ≤ 1) : 0x08002000 ≤ sectorAddr 0 (ctlSector 0 half) ∧ sectorAddr 0 (ctlSector 0 half) + 0x1000 ≤ 0x08004000 := by
  obtain rfl | rfl : half = 0 ∨ half = 1 := by omega
  all_goals decide

/-- A new copy of the slot selection word lies in its two sectors (R95, R400). -/
theorem ctlPut_sel_ldB (s : State) (gen : Nat) (w : SelWord) {b : Nat} (hb : b < 0x08002000 ∨ 0x08004000 ≤ b) : (s.ctlPut 0 gen (.sel w) false).ldB b = s.ldB b := by
  unfold State.ctlPut
  extract_lets cs half off full c x j gone y s1 s2 s3
  have hh : half ≤ 1 := by
    simp only [half]
    split
    · exact Nat.sub_le _ _
    · exact Nat.zero_le 1
  have ha := sectorAddr_sel hh
  have hoff : c.off + 96 ≤ 0x1000 := by
    have hl : ctlLen 0 = 96 := rfl
    simp only [c, full, hl, decide_eq_true_eq]
    split <;> omega
  have h2 : s2.ldB b = s.ldB b := by
    simp only [s2]
    split
    · rw [ldB_wipe, if_neg (by omega)]
      exact ldB_congr (s := s) (t := s1) rfl b
    · exact ldB_congr (s := s) (t := s1) rfl b
  have h3 : (s2.stBytes (c.addr 0) ({ w with gen := gen } : SelWord).bytes).ldB b = s2.ldB b := by
    refine ldB_stBytes_out s2 _ _ ?_
    have hc : c.addr 0 = sectorAddr 0 (ctlSector 0 half) + c.off := rfl
    rw [length_selBytes, hc]
    omega
  exact h3.trans h2

theorem selWrite_ldB (s : State) (w : SelWord) {b : Nat} (hb : b < 0x08002000 ∨ 0x08004000 ≤ b) : (s.selWrite w).ldB b = s.ldB b := by
  have hm : (s.selWrite w).mem = (s.ctlPut 0 (s.ctlGen 0) (.sel { w with valid := true, gen := s.ctlGen 0 }) false).mem := by
    unfold State.selWrite
    dsimp only
  rw [ldB_congr hm, ctlPut_sel_ldB s _ _ hb]

theorem setSlot_ldB (s : State) (slot st : Nat) (digest : List Byte) {b : Nat} (hb : b < 0x08002000 ∨ 0x08004000 ≤ b) : (s.setSlot slot st digest).ldB b = s.ldB b :=
  selWrite_ldB s _ hb

/-- The state of a slot is what the new copy says (R94). -/
theorem slotState_setSlot (s : State) {slot : Nat} (st : Nat) (digest : List Byte) : (s.setSlot slot st digest).slotState slot = st := by
  unfold State.setSlot State.selWrite State.slotState
  by_cases h : slot = 2 <;> simp [h]

theorem slotState_congr {s t : State} (h : t.sel = s.sel) (slot : Nat) : t.slotState slot = s.slotState slot := by rw [State.slotState, State.slotState, h]

/-! The copies of the slot selection word while the audit trail is programmed. -/

/-- What the next GEN of the slot selection word depends on: its copies, and the words that are left uncorrectable. -/
def State.selCopies (s : State) : List CtlCopy × List Nat := (s.copies 0, s.flt.uncorr)

theorem ctlGen_of_selCopies {s t : State} (h : Keeps State.selCopies s t) : t.ctlGen 0 = s.ctlGen 0 := by
  have hc : t.copies 0 = s.copies 0 := congrArg Prod.fst h
  have hu : t.flt.uncorr = s.flt.uncorr := congrArg Prod.snd h
  have hg : t.ctlGood 0 = s.ctlGood 0 := by
    funext c
    rw [State.ctlGood, State.ctlGood, State.badIn, State.badIn, hu]
  have hv : t.ctlValid 0 = s.ctlValid 0 := by rw [State.ctlValid, State.ctlValid, hc, hg]
  rw [State.ctlGen, State.ctlGen, hv]

theorem selCopies_of_eff {F : Nat} {s t : State} (h : Eff F s t) (hc : F.testBit 43 = false) (hf : F.testBit 31 = false) : Keeps State.selCopies s t := by
  rw [Keeps, State.selCopies, State.selCopies, State.copies, State.copies, h.ctl hc, h.flt hf]

/-- A copy of another record leaves those of the slot selection word. -/
theorem ctlPut_front_selCopies (s : State) (gen : Nat) (fs : List (Nat × Word)) : Keeps State.selCopies s (s.ctlPut 2 gen (.front fs) false) := by
  have hput : ∀ (x : FlashArr) (cs : List CtlCopy) (e : Bool) (a : Nat),
      Keeps State.selCopies s (if e then ({ s with hflash := x, ctl := alSet s.ctl 2 cs } : State).wipe a 0x1000 else { s with hflash := x, ctl := alSet s.ctl 2 cs }) := by
    intro x cs e a
    have h0 : alGet [] (alSet s.ctl 2 cs) 0 = alGet [] s.ctl 0 := alGet_alSet_ne _ _ _ (by decide)
    cases e <;> simp [Keeps, State.selCopies, State.copies, h0]
  unfold State.ctlPut
  exact hput _ _ _ _

theorem auditEntry_selCopies (s : State) (kind : Nat) (ev : AuditEvent) (data : List Byte) (bad : Bool) : Keeps State.selCopies s (s.auditEntry kind ev data bad) :=
  selCopies_of_eff (State.auditEntry_eff ..) rfl rfl

theorem auditConts_selCopies (s : State) (ev : AuditEvent) (ds : List (List Byte)) : Keeps State.selCopies s (s.auditConts ev ds) := by
  induction ds generalizing s with
  | nil => exact .refl s
  | cons d ds ih => exact .after (ih _) (auditEntry_selCopies ..)

theorem auditProgram_selCopies (s : State) (ev : AuditEvent) : Keeps State.selCopies s (s.auditProgram ev) := by
  have h0 : Keeps State.selCopies s ((s.auditEntry ev.kind ev (ev.data.take 24) false).auditConts ev (parts24 ev.data.length (ev.data.drop 24))) :=
    .after (auditConts_selCopies ..) (auditEntry_selCopies ..)
  exact .ite (.after (ctlPut_front_selCopies ..) h0) h0

theorem auditPrograms_selCopies (s : State) (evs : List AuditEvent) : Keeps State.selCopies s (s.auditPrograms evs) := by
  induction evs generalizing s with
  | nil => exact .refl s
  | cons e es ih => exact .after (ih _) (auditProgram_selCopies ..)

theorem auditAtOnce_selCopies (s : State) (kind stream : Nat) (data : List Byte) : Keeps State.selCopies s (s.auditAtOnce kind stream data) := by
  have hq : ∀ (u : State) (x : Audit), Keeps State.selCopies u { u with audit := x } := fun _ _ => rfl
  exact .after (auditPrograms_selCopies ..) (.after (hq _ _) (selCopies_of_eff (State.auditPut_eff ..) rfl rfl))

end Sys2Proof.Machine
end

section
/-! IMAGE_BEGIN, IMAGE_DATA, IMAGE_END and IMAGE_LOAD_TIMEOUT (R91, R97, R113). -/

namespace Sys2Proof.Machine

/-! IMAGE_BEGIN. -/

/-- Check 7 of IMAGE_BEGIN (R97): slot A or B, and at most 4 MB. -/
theorem imageBegin_args {s a : State} {c : GwCmd} (h : s.Accepted 9 c a) : (gwArg c 0 = 1 ∨ gwArg c 0 = 2) ∧ gwArg c 1 ≤ 4194304 := by
  obtain ⟨-, -, hr, -⟩ := h
  have ha := gwArgs_of_reason hr
  simp only [State.gwArgs, Nat.reduceEqDiff, if_false, if_true, Nat.succ_ne_self, Bool.and_eq_true, Bool.or_eq_true, beq_iff_eq, decide_eq_true_eq] at ha
  obtain ⟨⟨⟨hs, -⟩, -⟩, hn⟩ := ha
  exact ⟨hs, hn⟩

/-- A slot and its sectors: where they begin, and that they lie in flash. -/
theorem slotBase_sector {slot : Nat} (h : slot = 1 ∨ slot = 2) :
    sectorAddr 0 ((slotBase slot - 0x08000000) / 0x1000) = slotBase slot ∧ 0x08000000 ≤ slotBase slot ∧ slotBase slot + 4194304 ≤ 0x0A000000 := by
  obtain rfl | rfl := h <;> decide

/-- The bytes of an image that begins read as erased (R97, R398). -/
theorem erasesSync_image (s : State) {slot n b : Nat} (hs : slot = 1 ∨ slot = 2) (hn : n ≤ 4194304) (hlo : slotBase slot ≤ b) (hhi : b < slotBase slot + n) :
    (s.erasesSync ((slotBase slot - 0x08000000) / 0x1000) ((n + 4095) / 4096)).ldB b = 0xFF := by
  obtain ⟨ha, h0, h1⟩ := slotBase_sector hs
  rw [erasesSync_ldB, ha, if_pos (by omega), memDefault, if_pos (by omega)]

/-- The target slot is loading and its sectors are erased. -/
def State.slotErased (s : State) (c : GwCmd) : State :=
  (s.setSlot (gwArg c 0) 1 (List.replicate 32 0)).erasesSync ((slotBase (gwArg c 0) - 0x08000000) / 0x1000) ((gwArg c 1 + 4095) / 4096)

/-- The load of an image begins. -/
def State.loadBegun (s : State) (c : GwCmd) : State :=
  { s.slotErased c with gw := { (s.slotErased c).gw with load := some { slot := gwArg c 0, length := gwArg c 1, got := 0, since := (s.slotErased c).time.t } } }

theorem actImageBegin_eq (c : GwCmd) (s : State) : s.actImageBegin c = (s.loadBegun c).result c.tag 9 0 [] := rfl

theorem slotErased_eff (s : State) (c : GwCmd) : Eff 8796160184456 s (s.slotErased c) := .step (State.erasesSync_eff ..) rfl ((State.setSlot_eff ..).mono rfl)

theorem slotErased_loading (s : State) (c : GwCmd) : (s.slotErased c).slotState (gwArg c 0) = 1 :=
  (slotState_congr ((State.erasesSync_eff ..).sel rfl) _).trans (slotState_setSlot ..)

theorem imageBegin_completes {s a : State} {c : GwCmd} (h : s.Accepted 9 c a) : s.Completes (.imageBegin c) fun t =>
    t.gw.load = some { slot := gwArg c 0, length := gwArg c 1, got := 0, since := s.time.t } ∧ t.slotState (gwArg c 0) = 1 ∧
    (∀ b, slotBase (gwArg c 0) ≤ b → b < slotBase (gwArg c 0) + gwArg c 1 → t.ldB b = 0xFF) ∧ t.Resulted c.tag 9 0 [] := by
  obtain ⟨hs, hn⟩ := imageBegin_args h
  have hr := State.result_eff (a.loadBegun c) c.tag 9 0 []
  have ht : (a.slotErased c).time = s.time := ((slotErased_eff a c).time rfl).trans ((accepted_eff h).time rfl)
  refine completes_accepted (State.actImageBegin c) rfl h ?_
  rw [actImageBegin_eq]
  refine ⟨?_, ?_, fun b hlo hhi => ?_, result_resulted ..⟩
  · rw [hr.gw rfl, ← ht]
    rfl
  · exact (slotState_congr (hr.sel rfl) _).trans (slotErased_loading a c)
  · exact (ldB_congr (hr.mem rfl) b).trans (erasesSync_image _ hs hn hlo hhi)

/-! IMAGE_DATA. -/

/-- The words of a load are programmed behind those before, as far as LENGTH reaches, and counted. -/
def State.loadTaken (s : State) (c : GwCmd) (l : ImgLoad) : State :=
  let t := s.stBytes (slotBase l.slot + l.got) ((bytesOf c.args).take (l.length - l.got))
  { t with gw := { t.gw with load := some { l with got := l.got + 4 * c.args.length, since := t.time.t } } }

theorem actImageData_eq {s : State} {l : ImgLoad} (c : GwCmd) (h : s.gw.load = some l) : s.actImageData c = (s.loadTaken c l).result c.tag 10 0 [] := by
  rw [State.actImageData, h]
  rfl

theorem imageData_completes {s a : State} {c : GwCmd} {l : ImgLoad} (h : s.Accepted 10 c a) (hl : s.gw.load = some l) : s.Completes (.imageData c) fun t =>
    t.gw.load = some { l with got := l.got + 4 * c.args.length, since := s.time.t } ∧
    (let bs := (bytesOf c.args).take (l.length - l.got)
     t.ldBytes (slotBase l.slot + l.got) bs.length = bs ∧ ∀ b, (b < slotBase l.slot + l.got ∨ slotBase l.slot + l.got + bs.length ≤ b) → t.ldB b = a.ldB b) ∧ t.Resulted c.tag 10 0 [] := by
  have hr := State.result_eff (a.loadTaken c l) c.tag 10 0 []
  have ht : (a.stBytes (slotBase l.slot + l.got) ((bytesOf c.args).take (l.length - l.got))).time = s.time := ((State.stBytes_eff ..).time rfl).trans ((accepted_eff h).time rfl)
  refine completes_accepted (State.actImageData c) rfl h ?_
  rw [actImageData_eq c ((accepted_load h).trans hl)]
  refine ⟨?_, reads_of_stBytes (hr.mem rfl), result_resulted ..⟩
  rw [hr.gw rfl, ← ht]
  rfl

/-! IMAGE_END. -/

/-- The load has ended with the verdict `st` of the checks: its slot is checked with the digest of the image, or empty, and the entry is queued. -/
def State.loadEnded (s : State) (l : ImgLoad) (st : Nat) (d : List Byte) : State :=
  let t := ({ s with gw := { s.gw with load := none } }).cryptoEnd
  if st = 0 then (t.setSlot l.slot 2 d).auditPutAs t.gw.sealst 0x30 0xFF (leBytes 1 l.slot ++ [0, 0, 0] ++ d)
  else (t.setSlot l.slot 0 (List.replicate 32 0)).auditPutAs t.gw.sealst 0x32 0xFF (leBytes 1 l.slot ++ leBytes 1 (st % 256) ++ d)

theorem actImageEnd_eq {s : State} {l : ImgLoad} (c : GwCmd) (h : s.gw.load = some l) :
    s.actImageEnd c = (s.loadEnded l (imageCheck (fun off n => s.ldN (slotBase l.slot + off) n) l.got (s.imgSigned l.slot)).1 ((s.imgDigest l.slot ++ List.replicate 32 0).take 32)).result c.tag 11
      (imageCheck (fun off n => s.ldN (slotBase l.slot + off) n) l.got (s.imgSigned l.slot)).1 (imageCheck (fun off n => s.ldN (slotBase l.slot + off) n) l.got (s.imgSigned l.slot)).2 := by
  rw [State.actImageEnd, h]
  dsimp only
  generalize imageCheck (fun off n => s.ldN (slotBase l.slot + off) n) l.got (s.imgSigned l.slot) = r
  rfl

theorem loadEnded_slot (s : State) {l : ImgLoad} (st : Nat) (d : List Byte) :
    (s.loadEnded l st d).gw.load = none ∧ (s.loadEnded l st d).slotState l.slot = (if st = 0 then 2 else 0) ∧
      ∀ b, (b < 0x08002000 ∨ 0x08004000 ≤ b) → (s.loadEnded l st d).ldB b = s.ldB b := by
  have hc := State.cryptoEnd_eff { s with gw := { s.gw with load := none } }
  have hput : ∀ (v : Nat) (dig : List Byte) (k n : Nat) (e : List Byte),
      let u := ({ s with gw := { s.gw with load := none } } : State).cryptoEnd
      let t := (u.setSlot l.slot v dig).auditPutAs k n 0xFF e
      t.gw.load = none ∧ t.slotState l.slot = v ∧ ∀ b, (b < 0x08002000 ∨ 0x08004000 ≤ b) → t.ldB b = s.ldB b := by
    intro v dig k n e u t
    have ha := State.auditPutAs_eff (u.setSlot l.slot v dig) k n 0xFF e
    refine ⟨?_, (slotState_congr (ha.sel rfl) _).trans (slotState_setSlot ..), fun b hb => ?_⟩
    · rw [ha.gw rfl, (State.setSlot_eff ..).gw rfl, hc.gw rfl]
    · rw [ldB_congr (ha.mem rfl), setSlot_ldB _ _ _ _ hb]
      exact ldB_congr (hc.mem rfl) b
  unfold State.loadEnded
  dsimp only
  split
  · exact hput _ _ _ _ _
  · exact hput _ _ _ _ _

theorem imageEnd_completes {s a : State} {c : GwCmd} {l : ImgLoad} (h : s.Accepted 11 c a) (hl : s.gw.load = some l) :
    let r := imageCheck (fun off n => a.ldN (slotBase l.slot + off) n) l.got (a.imgSigned l.slot)
    s.Completes (.imageEnd c) fun t => t.gw.load = none ∧ t.slotState l.slot = (if r.1 = 0 then 2 else 0) ∧ t.Resulted c.tag 11 r.1 r.2 ∧ ∀ b, (b < 0x08002000 ∨ 0x08004000 ≤ b) → t.ldB b = a.ldB b := by
  intro r
  obtain ⟨h1, h2, h3⟩ := loadEnded_slot a (l := l) r.1 ((a.imgDigest l.slot ++ List.replicate 32 0).take 32)
  have hr := State.result_eff (a.loadEnded l r.1 ((a.imgDigest l.slot ++ List.replicate 32 0).take 32)) c.tag 11 r.1 r.2
  refine completes_accepted (State.actImageEnd c) rfl h ?_
  rw [actImageEnd_eq c ((accepted_load h).trans hl)]
  exact ⟨(congrArg Gw.load (hr.gw rfl)).trans h1, (slotState_congr (hr.sel rfl) _).trans h2, result_resulted .., fun b hb => (ldB_congr (hr.mem rfl) b).trans (h3 b hb)⟩

/-! IMAGE_LOAD_TIMEOUT. -/

/-- Time moves forward to an instant, and never back. -/
theorem advanceTo_t (s : State) (t : Nat) : (s.advanceTo t).time.t = max s.time.t t := by
  unfold State.advanceTo
  split
  · omega
  · dsimp only
    rw [(State.timeShow_eff _).time rfl]
    show t = _
    omega

/-- A load that has received nothing for 10 s has ended, with its slot empty (R113). -/
def State.loadDropped (s : State) (l : ImgLoad) : State := (({ s with gw := { s.gw with load := none } }).setSlot l.slot 0 (List.replicate 32 0)).hostDrop

/-- As Heartwood time comes to the end of a load's 10 s. -/
def State.loadWaited (s : State) (l : ImgLoad) : State := (s.advanceTo (l.since + 10 * secT)).settle

theorem loadWaited_eff (s : State) (l : ImgLoad) : Eff 5775655371148 s (s.loadWaited l) := .step (State.settle_eff _) rfl ((State.advanceTo_eff ..).mono rfl)

theorem loadWaited_t (s : State) (l : ImgLoad) : (s.loadWaited l).time.t = max s.time.t (l.since + 10 * secT) :=
  (congrArg TimeBase.t ((State.settle_eff _).time rfl)).trans (advanceTo_t ..)

theorem exec_imageLoadTimeout {s : State} {l : ImgLoad} (hl : s.gw.load = some l) (hf : s.time.fast = true) : exec .imageLoadTimeout s = .next ((s.loadWaited l).loadDropped l) := by
  have hn : ¬ (s.loadWaited l).time.t < l.since + 10 * secT := Nat.not_lt.mpr (loadWaited_t s l ▸ Nat.le_max_right _ _)
  rw [show exec .imageLoadTimeout s = execImageLoadTimeout s from rfl, execImageLoadTimeout, hl]
  dsimp only
  rw [if_pos hf]
  exact congrArg Host.Outcome.next (if_neg hn)

theorem loadDropped_slot (s : State) (l : ImgLoad) : (s.loadDropped l).gw.load = none ∧ (s.loadDropped l).slotState l.slot = 0 ∧ (s.loadDropped l).time = s.time ∧ (s.loadDropped l).keys = s.keys := by
  have hd := State.hostDrop_eff (({ s with gw := { s.gw with load := none } }).setSlot l.slot 0 (List.replicate 32 0))
  have hz := State.setSlot_eff { s with gw := { s.gw with load := none } } l.slot 0 (List.replicate 32 0)
  exact ⟨congrArg Gw.load ((hd.gw rfl).trans (hz.gw rfl)), (slotState_congr (hd.sel rfl) _).trans (slotState_setSlot ..), (hd.time rfl).trans (hz.time rfl), (hd.keys rfl).trans (hz.keys rfl)⟩

theorem imageLoadTimeout_completes {s : State} {l : ImgLoad} (hl : s.gw.load = some l) (hf : s.time.fast = true) : s.Completes .imageLoadTimeout fun t =>
    t.gw.load = none ∧ t.time.t = max s.time.t (l.since + 10 * secT) ∧ t.keys = s.keys ∧ t.slotState l.slot = 0 := by
  obtain ⟨h1, h2, h3, h4⟩ := loadDropped_slot (s.loadWaited l) l
  exact .of_next (exec_imageLoadTimeout hl hf) ⟨h1, (congrArg TimeBase.t h3).trans (loadWaited_t s l), h4.trans ((loadWaited_eff s l).keys rfl), h2⟩

end Sys2Proof.Machine
end

section
/-! IMAGE_ACTIVATE, HRESET, KEY_SLOT, DEBUG_ENABLE and DOORBELL (R60, R95, R98, R111, R516, R534). -/

namespace Sys2Proof.Machine

/-! The class H reset of an authority command (R59, R60, R70). -/

theorem on_set_addr (s : State) {f g : Fld} (v : Nat) (h : g.addr ≠ f.addr) : (s.set f v).on g = s.on g := by
  rw [State.on, State.on, get_set_addr s v h]

/-- What a class H reset by authority command leaves: its cause, no pair, and a start of class H that is due. -/
def AuthorityReset (t : State) : Prop := t.on F.FLT.RST_CAUSE.AUTH = true ∧ t.pairs = [] ∧ t.boot.cls = 2

theorem resetH_authority (s : State) (commit : Bool) : AuthorityReset (s.resetH 2 0 commit) := by
  have hlost : ∀ u : State, AuthorityReset u → AuthorityReset u.syncLost := fun u ⟨h1, h2, h3⟩ => by
    have he := State.syncLost_eff u
    refine ⟨?_, (he.pairs rfl).trans h2, (congrArg Boot.cls (he.boot rfl)).trans h3⟩
    unfold State.syncLost
    split
    · exact (on_set_addr _ _ (by decide)).trans h1
    · exact h1
  have hshow : ∀ (u : State) (m n : Nat) (b c : Bool), u.pairs = [] → u.boot.cls = 2 →
      AuthorityReset (((((u.set F.FLT.RST_CAUSE.HCOUNT n).set F.FLT.RST_CAUSE.AUTH 1).setB F.FLT.RST_CAUSE.COMMIT c).setB F.SEAL.STATUS.SEALED b).set F.SEAL.COUNTER.COUNT m) := by
    intro u m n b c hp hb
    refine ⟨?_, by simpa using hp, by simpa using hb⟩
    rw [on_set_addr _ _ (by decide), State.setB, on_set_addr _ _ (by decide), State.setB, on_set_disj _ _ (by decide) (by decide)]
    exact on_set_one _ F.FLT.RST_CAUSE.AUTH (by decide) rfl
  have hd : ∀ (u : State) (r : List (Nat × Word)), ({ u.clearHeartwood with regs := r }).hostDrop.pairs = [] ∧ ({ u.clearHeartwood with regs := r }).hostDrop.boot.cls = 2 := fun u r =>
    ⟨(State.hostDrop_eff _).pairs rfl, congrArg Boot.cls ((State.hostDrop_eff _).boot rfl)⟩
  unfold State.resetH
  exact hlost _ (hshow _ _ _ _ _ (hd _ _).1 (hd _ _).2)

theorem resetHCommit_authority (s : State) (us mv : Nat) : AuthorityReset (s.resetHCommit 2 us mv) := resetH_authority _ _

/-! IMAGE_ACTIVATE. -/

/-- The entry is programmed, the selection word names the slot, and no parameter is stored (R98, R100). -/
def State.activated (s : State) (c : GwCmd) : State :=
  let t := (s.auditAtOnce 0x31 0xFF (s.activateData (gwArg c 0) (gwSlot c))).setActive (gwArg c 0)
  ({ t with params := [] } : State).ctlWrite 5 (.params [])

theorem actImageActivate_refused {s : State} {c : GwCmd} (us mv : Nat) (h : s.activateStatus (gwArg c 0) ≠ 0) :
    s.actImageActivate c us mv = s.result c.tag 12 (s.activateStatus (gwArg c 0)) [] := if_pos h

theorem actImageActivate_acts {s : State} {c : GwCmd} (us mv : Nat) (h : s.activateStatus (gwArg c 0) = 0) : s.actImageActivate c us mv = (s.activated c).resetHCommit 2 us mv :=
  if_neg fun hn => hn h

theorem activated_sel (s : State) (c : GwCmd) : (s.activated c).sel = { s.sel with active := gwArg c 0, valid := true, gen := s.ctlGen 0 } ∧ (s.activated c).params = [] := by
  have hg := ctlGen_of_selCopies (auditAtOnce_selCopies s 0x31 0xFF (s.activateData (gwArg c 0) (gwSlot c)))
  have hs := (State.auditAtOnce_eff s 0x31 0xFF (s.activateData (gwArg c 0) (gwSlot c))).sel rfl
  have hw : ∀ u : State, (({ u.setActive (gwArg c 0) with params := [] } : State).ctlWrite 5 (.params [])).sel = { u.sel with active := gwArg c 0, valid := true, gen := u.ctlGen 0 } := fun u =>
    (State.ctlWrite_eff ..).sel rfl
  exact ⟨by rw [State.activated, hw, hs, hg], (State.ctlWrite_eff ..).params rfl⟩

section
variable {s a : State} {c : GwCmd}

theorem imageActivate_refused (us mv : Nat) (h : s.Accepted 12 c a) (hst : a.activateStatus (gwArg c 0) ≠ 0) : s.Completes (.imageActivate c us mv) fun t =>
    t.Resulted c.tag 12 (a.activateStatus (gwArg c 0)) [] ∧ t.sel = s.sel ∧ t.pairs = s.pairs := by
  have ha := accepted_eff h
  have hr := State.result_eff a c.tag 12 (a.activateStatus (gwArg c 0)) []
  refine completes_accepted (State.actImageActivate c us mv) rfl h ?_
  rw [actImageActivate_refused us mv hst]
  exact ⟨result_resulted .., (hr.sel rfl).trans (ha.sel rfl), (hr.pairs rfl).trans (ha.pairs rfl)⟩

theorem imageActivate_completes (us mv : Nat) (h : s.Accepted 12 c a) (hst : a.activateStatus (gwArg c 0) = 0) : s.Completes (.imageActivate c us mv) fun t =>
    t.sel.active = gwArg c 0 ∧ t.sel.valid = true ∧ t.sel.gen = a.ctlGen 0 ∧ t.params = [] ∧ AuthorityReset t := by
  have hr := State.resetHCommit_eff (a.activated c) 2 us mv
  obtain ⟨hs, hp⟩ := activated_sel a c
  refine completes_accepted (State.actImageActivate c us mv) rfl h ?_
  rw [actImageActivate_acts us mv hst, hr.sel rfl, hr.params rfl, hs]
  exact ⟨rfl, rfl, rfl, hp, resetHCommit_authority ..⟩

theorem hreset_completes (us mv : Nat) (h : s.Accepted 16 c a) : s.Completes (.hreset c us mv) fun t => AuthorityReset t ∧ t.sel = s.sel ∧ t.params = s.params := by
  have ha := accepted_eff h
  have hu := State.result_eff a c.tag 16 0 []
  have hr := State.resetHCommit_eff (a.result c.tag 16 0 []) 2 us mv
  exact completes_accepted (State.actHreset c us mv) rfl h ⟨resetHCommit_authority .., (hr.sel rfl).trans ((hu.sel rfl).trans (ha.sel rfl)), (hr.params rfl).trans ((hu.params rfl).trans (ha.params rfl))⟩

/-! KEY_SLOT and DEBUG_ENABLE. -/

theorem debugEnable_completes (h : s.Accepted 18 c a) : s.Completes (.debugEnable c) fun t => t.on F.SEAL.STATUS.DEBUG_EN = true ∧ t.Resulted c.tag 18 0 [] ∧ t.mem = a.mem := by
  refine completes_accepted (State.actDebugEnable c) rfl h ⟨?_, result_resulted .., (State.result_eff ..).mem rfl⟩
  exact ((result_ringRegs (a.set F.SEAL.STATUS.DEBUG_EN 1) c.tag 18 0 []).on rfl).trans (on_set_one a F.SEAL.STATUS.DEBUG_EN (by decide) rfl)

end

/-- A KEY_SLOT command has ended in the window. -/
def State.keyFreed (s : State) : State := { s with gw := { s.gw with key := none, long := none } }

/-- The table as KEY_SLOT leaves it (R516). -/
def State.keyTaken (s : State) (c : GwCmd) : State := if s.keyStatus c = 0 then s.keyFreed.keysWrite (listSet s.keys (bitsOf (gwArg c 0) 1 0) (s.newKey c)) else s.keyFreed

theorem keyEnd_eq {s : State} {c : GwCmd} (h : s.gw.key = some c) : s.keyEnd = (s.keyTaken c).result c.tag 17 (s.keyStatus c) [] := by
  rw [State.keyEnd, h]
  rfl

theorem keyTaken_keys (s : State) (c : GwCmd) : (s.keyTaken c).keys = (if s.keyStatus c = 0 then listSet s.keys (bitsOf (gwArg c 0) 1 0) (s.newKey c) else s.keys) := by
  unfold State.keyTaken
  split <;> rfl

theorem keyTaken_gw (s : State) (c : GwCmd) : (s.keyTaken c).gw = s.keyFreed.gw := by
  unfold State.keyTaken
  split
  · exact (State.keysWrite_eff ..).gw rfl
  · rfl

theorem step_idle {s : State} (h : s.pending = []) : step s = .next s.idle := by rw [step, h]

theorem keySlot_ends {s : State} {c : GwCmd} (hp : s.pending = []) (hk : s.gw.key = some c) : let u := s.tick.settle
    ∃ t, step s = .next t ∧ t.gw.key = none ∧ t.gw.long = none ∧ t.keys = (if u.keyStatus c = 0 then listSet s.keys (bitsOf (gwArg c 0) 1 0) (u.newKey c) else s.keys) ∧
      t.Resulted c.tag 17 (u.keyStatus c) [] := by
  intro u
  have he : Eff 5775655371148 s u := .step (State.settle_eff _) rfl ((State.tick_eff s).mono rfl)
  have hr := State.result_eff (u.keyTaken c) c.tag 17 (u.keyStatus c) []
  have hg : ((u.keyTaken c).result c.tag 17 (u.keyStatus c) []).gw = u.keyFreed.gw := (hr.gw rfl).trans (keyTaken_gw u c)
  have hi : s.idle = (u.keyTaken c).result c.tag 17 (u.keyStatus c) [] := keyEnd_eq ((congrArg Gw.key (he.gw rfl)).trans hk)
  refine ⟨_, step_idle hp, ?_⟩
  rw [hi, hg]
  refine ⟨rfl, rfl, ?_, result_resulted ..⟩
  rw [hr.keys rfl, keyTaken_keys, he.keys rfl]

/-! DOORBELL. -/

section
variable (s : State) (w0 w1 : Word)

theorem exec_doorbell_end : exec (.doorbell 2 w0 w1) s = .next s.gwCheckEnd := exec_guardUnit rfl rfl

theorem exec_doorbell_ring {s : State} (ho : s.gwOpen = true) (hc : s.gw.check = none) : exec (.doorbell 1 w0 w1) s = .next (s.gwPut 0 [w0, w1]).gwBell := by
  refine (exec_guardUnit rfl rfl).trans ?_
  simp [ho, hc]

theorem exec_doorbell_whole {s : State} (ho : s.gwOpen = true) (hc : s.gw.check = none) : exec (.doorbell 0 w0 w1) s = .next (s.gwPut 0 [w0, w1]).gwBell.gwCheckEnd := by
  refine (exec_guardUnit rfl rfl).trans ?_
  simp [ho, hc]

/-- A doorbell during a check is lost (R111). -/
theorem exec_doorbell_lost {s : State} {phase : Nat} {ws : List Word} (hp : phase < 2) (ho : s.gwOpen = true) (hc : s.gw.check = some ws) :
    exec (.doorbell phase w0 w1) s = .next (s.set F.GW.CMD_STATE.DB_LOST 1) := by
  refine (exec_guardUnit rfl (decide_eq_true (by omega))).trans ?_
  simp [ho, hc, State.gwBell, show phase ≠ 2 by omega]

/-- The words of a command are copied and its check begins. -/
def State.gwChecking : State := ({ s with gw := { s.gw with check := some s.gwBuf } }).set F.GW.CMD_STATE.STATE 1

theorem gwBell_checking {s : State} (hc : s.gw.check = none) : s.gwBell = s.gwChecking := by
  simp [State.gwBell, hc, State.gwChecking]

theorem gwCheckEnd_of_check {s : State} {ws : List Word} (hc : s.gw.check = some ws) : s.gwCheckEnd = ({ s with gw := { s.gw with check := none } } : State).gwRing ws := by
  rw [State.gwCheckEnd, hc]

theorem gwShow_get (st reason tag : Nat) : (s.gwShow st reason tag).get F.GW.CMD_STATE.STATE = st % 4 ∧ (s.gwShow st reason tag).get F.GW.CMD_STATE.REASON = reason % 256 := by
  have hk : ∀ u : State, KeepsRegs icRegs u ((if u.icUp 0 then u.icEdge 0 3 else u).icEdge 1 4) := fun u => .trans (.ite (icEdge_regs u 0 3) (.refl u)) (icEdge_regs _ 1 4)
  constructor
  · rw [State.gwShow, (hk _).get rfl, get_set_disj _ _ (by decide) (by decide), get_set_disj _ _ (by decide) (by decide), get_set _ _ _ (by decide)]
    rfl
  · rw [State.gwShow, (hk _).get rfl, get_set_disj _ _ (by decide) (by decide), get_set _ _ _ (by decide)]
    rfl

/-- A command that is too short or too long for the buffer is refused before it is read (R112). -/
theorem gwRing_short {ws : List Word} (h : gwShort ws = true) :
    (s.gwRing ws).get F.GW.CMD_STATE.STATE = 3 ∧ ((s.gwRing ws).get F.GW.CMD_STATE.REASON = 1 ∨ (s.gwRing ws).get F.GW.CMD_STATE.REASON = 2) := by
  have hr : s.gwRing ws = s.gwShow 3 (if s.gwReady (gwParse ws).1 then 2 else 1) (gwParse ws).2.tag := if_pos h
  rw [hr, (gwShow_get ..).1, (gwShow_get ..).2]
  split <;> simp

end

theorem doorbell_rings {s : State} (w0 w1 : Word) (ho : s.gwOpen = true) (hc : s.gw.check = none) : let u := s.gwPut 0 [w0, w1]
    (s.Completes (.doorbell 1 w0 w1) fun t => t.gw.check = some u.gwBuf ∧ t.get F.GW.CMD_STATE.STATE = 1 ∧ t.keys = s.keys ∧ t.mem = s.mem) ∧
    (∃ v, exec (.doorbell 1 w0 w1) s = .next v ∧ exec (.doorbell 0 w0 w1) s = exec (.doorbell 2 w0 w1) v) ∧
    (gwShort u.gwBuf = true → s.Completes (.doorbell 0 w0 w1) fun t => t.get F.GW.CMD_STATE.STATE = 3 ∧ (t.get F.GW.CMD_STATE.REASON = 1 ∨ t.get F.GW.CMD_STATE.REASON = 2)) := by
  intro u
  have he : Eff 4 s u := State.gwPut_eff s 0 [w0, w1]
  have hu : u.gwBell = u.gwChecking := gwBell_checking ((congrArg Gw.check (he.gw rfl)).trans hc)
  refine ⟨.of_next (exec_doorbell_ring w0 w1 ho hc) ?_, ⟨_, exec_doorbell_ring w0 w1 ho hc, ?_⟩, fun h => .of_next (exec_doorbell_whole w0 w1 ho hc) ?_⟩
  · rw [hu]
    exact ⟨rfl, get_set _ F.GW.CMD_STATE.STATE 1 (by decide), he.keys rfl, he.mem rfl⟩
  · rw [exec_doorbell_whole w0 w1 ho hc, exec_doorbell_end]
  · rw [hu, gwCheckEnd_of_check (show u.gwChecking.gw.check = some u.gwBuf from rfl)]
    exact gwRing_short _ h

theorem doorbell_lost {s : State} {ws : List Word} (w0 w1 : Word) (ho : s.gwOpen = true) (hc : s.gw.check = some ws) :
    (s.Completes (.doorbell 1 w0 w1) fun t => t.on F.GW.CMD_STATE.DB_LOST = true ∧ t.gw = s.gw ∧ t.keys = s.keys ∧ t.mem = s.mem) ∧ exec (.doorbell 0 w0 w1) s = exec (.doorbell 1 w0 w1) s :=
  ⟨.of_next (exec_doorbell_lost w0 w1 (by decide) ho hc) ⟨on_set_one s F.GW.CMD_STATE.DB_LOST (by decide) rfl, rfl, rfl, rfl⟩,
    by rw [exec_doorbell_lost w0 w1 (by decide) ho hc, exec_doorbell_lost w0 w1 (by decide) ho hc]⟩

/-! The obligation. -/

/-- Settles O55: an accepted command's action is applied to the state in which it acts; the doorbell's check and the two ends that come with time, of a KEY_SLOT and of a load, are read off the step that makes them. -/
theorem gatewayLoads : Obligations.GatewayLoads := by
  intro s a c us mv l w0 w1 ws
  refine ⟨imageBegin_completes, imageData_completes, fun h hl _ => imageEnd_completes h hl, imageActivate_refused us mv, ?_, ?_, fun h => ?_, keySlot_ends, debugEnable_completes,
    doorbell_rings w0 w1, doorbell_lost w0 w1, fun hc => ?_, fun hl hf => ?_⟩
  · exact imageActivate_completes us mv
  · intro h
    obtain ⟨t, ht, ⟨h1, h2, h3⟩, h4, h5⟩ := hreset_completes us mv h
    exact ⟨t, ht, h1, h2, h3, h4, h5⟩
  · exact completes_accepted (State.actKeySlot c) rfl h ⟨rfl, rfl, rfl, rfl⟩
  · rw [exec_doorbell_end, gwCheckEnd_of_check hc]
  · obtain ⟨t, ht, h1, h2, h3, h4⟩ := imageLoadTimeout_completes hl hf
    exact ⟨t, ht, h1, h2, h3, fun _ => h4⟩

end Sys2Proof.Machine
end

section
/-! SUPPORT. What the audit trail holds while events are queued and programmed and a clear ends (R118 to R124): no entry leaves it, and an event that is programmed joins it. -/

namespace Sys2Proof.Machine

/-- The entries of the trail. -/
def State.auditHeld (s : State) : List AuditEntry := s.audit.held

theorem auditHeld_of_eff {F : Nat} {s t : State} (h : Eff F s t) (hF : F.testBit 7 = false) : Keeps State.auditHeld s t := congrArg Audit.held (h.audit hF)

theorem auditRelevel_auditHeld (s : State) : Keeps State.auditHeld s s.auditRelevel := by
  have hp : ∀ (u : State) (x : Audit), x.held = u.audit.held → Keeps State.auditHeld u (({ u with audit := x } : State).icEdge 0 4) :=
    fun u x hx => .after (auditHeld_of_eff (State.icEdge_eff ..) rfl) hx
  have hl : ∀ n : Nat, Keeps State.auditHeld s (({ s.set F.SEAL.STATUS.LEVEL n with audit := { (s.set F.SEAL.STATUS.LEVEL n).audit with ctlPending := true } } : State).icEdge 0 4) :=
    fun n => .after (hp _ _ rfl) (auditHeld_of_eff (State.set_eff ..) rfl)
  unfold State.auditRelevel
  exact .ite (.refl s) (.ite (.after (auditHeld_of_eff (State.ringPut_eff ..) rfl) (hl _)) (hl _))

theorem auditLost_auditHeld (s : State) : Keeps State.auditHeld s s.auditLost := rfl

theorem auditPut_auditHeld (s : State) (kind stream : Nat) (data : List Byte) : Keeps State.auditHeld s (s.auditPut kind stream data) := by
  have hq : ∀ q : List AuditEvent, Keeps State.auditHeld s { s with audit := { s.audit with queue := q } } := fun _ => rfl
  exact .ite (.after (auditRelevel_auditHeld _) (hq _)) (auditLost_auditHeld s)

theorem accepted_auditHeld {s a : State} {code : Nat} {c : GwCmd} (h : s.Accepted code c a) : Keeps State.auditHeld s a := by
  obtain ⟨-, -, -, rfl⟩ := h
  have hl : ∀ u : State, Keeps State.auditHeld u (u.gwLog code c) := fun u => .ite (auditPut_auditHeld ..) (.refl u)
  exact .after (hl _) (.after (auditHeld_of_eff (State.gwCounter_eff ..) rfl) (.after (auditHeld_of_eff (State.gwHold_eff ..) rfl) (.after (auditHeld_of_eff (State.gwShow_eff ..) rfl)
    (.after (auditHeld_of_eff (State.gwVerified_eff ..) rfl) (auditHeld_of_eff (State.gwPut_eff ..) rfl)))))

/-- Every entry of the trail stays in its place, and new ones follow. -/
def HeldGrows (s t : State) : Prop := s.auditHeld <+: t.auditHeld

theorem HeldGrows.of_keeps {s t : State} (h : Keeps State.auditHeld s t) : HeldGrows s t := ⟨[], (List.append_nil _).trans h.symm⟩

theorem HeldGrows.trans {s t u : State} (h1 : HeldGrows s t) (h2 : HeldGrows t u) : HeldGrows s u := List.IsPrefix.trans h1 h2

theorem HeldGrows.mem {s t : State} (h : HeldGrows s t) {e : AuditEntry} (he : e ∈ s.auditHeld) : e ∈ t.auditHeld := List.IsPrefix.subset h he

/-- An entry that is programmed is the newest of the trail (R118). -/
theorem auditEntry_auditHeld (s : State) (kind : Nat) (ev : AuditEvent) (data : List Byte) (bad : Bool) :
    ∃ e : AuditEntry, e.kind = kind ∧ (s.auditEntry kind ev data bad).auditHeld = s.auditHeld ++ [e] := by
  let e : AuditEntry := { seq := s.audit.nextSeq, kind := kind, sealst := ev.sealst, stream := ev.stream, sec := ev.sec, ns := ev.ns, sealctr := ev.sealctr, digest := ev.digest,
                          data := data, chain := s.auditChain, bad := bad }
  have hs : (s.stBytes (auditAddr e.seq) e.bytes).auditHeld = s.auditHeld := auditHeld_of_eff (State.stBytes_eff ..) rfl
  refine ⟨e, rfl, ?_⟩
  rw [← hs]
  cases bad
  · exact auditHeld_of_eff (State.ringPut_eff ..) rfl
  · rfl

theorem auditEntry_heldGrows (s : State) (kind : Nat) (ev : AuditEvent) (data : List Byte) (bad : Bool) : HeldGrows s (s.auditEntry kind ev data bad) := by
  obtain ⟨e, -, h⟩ := auditEntry_auditHeld s kind ev data bad
  exact ⟨[e], h.symm⟩

theorem auditConts_heldGrows (s : State) (ev : AuditEvent) (ds : List (List Byte)) : HeldGrows s (s.auditConts ev ds) := by
  induction ds generalizing s with
  | nil => exact List.prefix_rfl
  | cons d ds ih => exact (auditEntry_heldGrows ..).trans (ih _)

/-- After the first entry of an event its CONT entries follow, and the copy of the settings record (R120, R176). -/
theorem auditProgram_heldGrows_entry (s : State) (ev : AuditEvent) : HeldGrows (s.auditEntry ev.kind ev (ev.data.take 24) false) (s.auditProgram ev) := by
  have hf : ∀ u : State, HeldGrows u (if ev.kind = 0x12 then u.frontAppend ev.data else u) := fun u => .of_keeps (.ite (auditHeld_of_eff (State.frontAppend_eff ..) rfl) (.refl u))
  exact (auditConts_heldGrows ..).trans (hf _)

theorem auditProgram_heldGrows (s : State) (ev : AuditEvent) : HeldGrows s (s.auditProgram ev) := (auditEntry_heldGrows ..).trans (auditProgram_heldGrows_entry s ev)

/-- An event that is programmed stands in the trail (R121). -/
theorem auditProgram_holds (s : State) (ev : AuditEvent) : ∃ e, e ∈ (s.auditProgram ev).auditHeld ∧ e.kind = ev.kind := by
  obtain ⟨e, hk, h⟩ := auditEntry_auditHeld s ev.kind ev (ev.data.take 24) false
  refine ⟨e, (auditProgram_heldGrows_entry s ev).mem ?_, hk⟩
  rw [h]
  exact List.mem_append_right _ (List.mem_singleton_self e)

theorem auditOverflow_heldGrows (s : State) : HeldGrows s s.auditOverflow := by
  unfold State.auditOverflow
  dsimp only
  split
  · exact .of_keeps (.refl s)
  · split
    · exact (auditProgram_heldGrows ..).trans (.of_keeps (auditHeld_of_eff (State.set_eff ..) rfl))
    · exact .of_keeps (auditLost_auditHeld s)

/-! The end of a clear. -/

/-- Step 3 of a clear (R124): the window is free, and what was not logged is counted in an entry of its own. -/
def State.clearDone (s : State) : State := ({ s with gw := { s.gw with clear := none, long := none } } : State).auditOverflow.auditCtlDue.auditRelevel

theorem clearDone_gw (s : State) : s.clearDone.gw.clear = none ∧ s.clearDone.gw.long = none := by
  have h : s.clearDone.gw = { s.gw with clear := none, long := none } := ((State.auditRelevel_eff _).gw rfl).trans (((State.auditCtlDue_eff _).gw rfl).trans ((State.auditOverflow_eff _).gw rfl))
  rw [h]
  exact ⟨rfl, rfl⟩

theorem clearDone_heldGrows (s : State) : HeldGrows s s.clearDone := by
  have hg : HeldGrows s { s with gw := { s.gw with clear := none, long := none } } := List.prefix_rfl
  have hd : ∀ u : State, HeldGrows u u.auditCtlDue := fun _ => List.prefix_rfl
  exact hg.trans ((auditOverflow_heldGrows _).trans ((hd _).trans (.of_keeps (auditRelevel_auditHeld _))))

/-- A clear either waits for its erases or for HSC, or ends with its RESULT (R124). -/
theorem clearEnd_eq {s : State} {tag : Nat} (h : s.gw.clear = some tag) : s.clearEnd = s ∨ s.clearEnd = s.clearDone.result tag 15 0 [] := by
  rw [State.clearEnd, h]
  dsimp only
  split
  · exact .inl rfl
  · exact .inr rfl

end Sys2Proof.Machine
end

section
/-! STATUS, IDENT, AUDIT_READ, RECORD_READ, SET_FIELD, SET_PARAM, TIME_SLEW, TIME_STEP, CAL_RUN, ZERO_CAL and AUDIT_CLEAR (R97, R100, R113, R124, R307, R308, R374, R375, R526). -/

namespace Sys2Proof.Machine

/-! Heartwood time under a register write (R296, R305). -/

theorem cmpWrite_t (s : State) (n reg v : Nat) : (s.cmpWrite n reg v).time.t = s.time.t := by
  unfold State.cmpWrite
  split
  · rfl
  · exact (congrArg TimeBase.t ((State.cmpTake_eff ..).time rfl)).trans rfl

/-- A register write moves no time: of the registers that act, a comparator's alone reach the time base, and keep the settings they replace (R305). -/
theorem hwWrite_t (s : State) (a : Nat) (w : Word) : (s.hwWrite a w).time.t = s.time.t := by
  have hk : ∀ {F : Nat} {u : State}, Eff F s u → F.testBit 27 = false → u.time.t = s.time.t := fun h hF => congrArg TimeBase.t (h.time hF)
  unfold State.hwWrite
  split
  · exact hk (State.slDo_eff ..) rfl
  split
  · exact hk (State.hscKick_eff ..) rfl
  split
  · exact hk (State.busErrWrite_eff ..) rfl
  split
  · exact hk (State.timeStamp_eff ..) rfl
  split
  · exact hk (State.echoClear_eff ..) rfl
  split
  · exact hk (State.acqClear_eff ..) rfl
  split
  · exact cmpWrite_t ..
  split
  · exact hk (State.icWrite_eff ..) rfl
  split
  · exact hk (State.twWrite_eff ..) rfl
  split
  · exact hk (State.cspWrite_eff ..) rfl
  · exact hk (State.plainWrite_eff ..) rfl

/-! An accepted correction (R299). -/

theorem corrected_time (s : State) : s.corrected.time = { s.time with hold := 0, awake := if s.get F.TIME.STATUS.SYNC = 1 then s.time.awake else 0 } := rfl

theorem corrected_sync (s : State) : s.corrected.get F.TIME.STATUS.SYNC = 1 := get_set _ F.TIME.STATUS.SYNC 1 (by decide)

/-- A correction leaves the other fields. -/
theorem corrected_on (s : State) {f : Fld} (hf : f.hi < 32) (h : f.hi < F.TIME.STATUS.SYNC.lo ∨ F.TIME.STATUS.SYNC.hi < f.lo) : s.corrected.on f = s.on f := (on_set_disj _ _ hf h).trans rfl

section
variable {s a : State} {c : GwCmd}

/-! Commands that read. -/

theorem status_completes (h : s.Accepted 1 c a) : s.Completes (.status c) fun t => t.Resulted c.tag 1 0 (leBytes 1 (if a.on F.SEAL.STATUS.SEALED then 1 else 2) ++
    leBytes 4 (a.get F.SEAL.COUNTER.COUNT) ++ leBytes 1 (a.get F.SEAL.STATUS.LEVEL) ++ leBytes 4 (a.rw F.FLT.BOOT_STATUS.ALL.addr).toNat ++ leBytes 1 a.slot) ∧ t.mem = a.mem :=
  completes_accepted (State.actStatus c) rfl h ⟨result_resulted .., (State.actStatus_eff ..).mem rfl⟩

theorem ident_completes (h : s.Accepted 2 c a) : s.Completes (.ident c) fun t => t.Resulted c.tag 2 0 (a.boot.digest ++ beBytes 16 a.sealc.serial.toNat) ∧ t.mem = a.mem :=
  completes_accepted (State.actIdent c) rfl h ⟨result_resulted .., (State.actIdent_eff ..).mem rfl⟩

theorem auditRead_completes (h : s.Accepted 3 c a) : s.Completes (.auditRead c) fun t =>
    t.Resulted c.tag 3 0 (((a.audit.held.filter fun e => decide (gwArg c 0 ≤ e.seq)).take 16).flatMap fun e => a.ldBytes (auditAddr e.seq) 64) ∧ t.mem = a.mem ∧ t.audit.held = s.audit.held := by
  have he := State.actAuditRead_eff c a
  exact completes_accepted (State.actAuditRead c) rfl h ⟨result_resulted .., he.mem rfl, (auditHeld_of_eff he rfl).after (accepted_auditHeld h)⟩

/-- A record that is held and readable is the RESULT (R526). -/
theorem readRecord_held {s : State} {c : GwCmd} {e : RecEntry} (hf : (s.recs.ring.find? fun e => e.index == gwArg c 1) = some e) (hb : e.bad = false) (hm : s.badIn e.addr 512 = false) :
    (s.readRecord c).Resulted c.tag 4 0 (s.ldBytes e.addr 512) := by
  rw [State.readRecord, hf]
  simp only [hb, hm, Bool.false_eq_true, if_false]
  exact result_resulted ..

/-- RECORD_READ answers with a RESULT, whatever it asks for. -/
theorem actRecordRead_resulted (s : State) (c : GwCmd) : ∃ st data, (s.actRecordRead c).Resulted c.tag 4 st data := by
  have hr : ∀ (u : State) (st : Nat) (data : List Byte), ∃ st' data', (u.result c.tag 4 st data).Resulted c.tag 4 st' data' := fun u st data => ⟨st, data, result_resulted ..⟩
  unfold State.actRecordRead
  split
  · unfold State.readRecord
    split
    · split
      · exact hr ..
      · exact hr ..
    · exact hr ..
  split
  · unfold State.readWindow
    split
    · exact hr ..
    · exact hr ..
  · exact hr ..

theorem recordRead_completes (h : s.Accepted 4 c a) : s.Completes (.recordRead c) fun t => (∃ st data, t.Resulted c.tag 4 st data) ∧ t.mem = a.mem ∧ t.recs = s.recs ∧
    (∀ e, bitsOf (gwArg c 0) 7 0 = 1 → a.recs.ring.find? (fun e => e.index == gwArg c 1) = some e → e.bad = false → a.badIn e.addr 512 = false → t.Resulted c.tag 4 0 (a.ldBytes e.addr 512)) := by
  have he := State.actRecordRead_eff c a
  refine completes_accepted (State.actRecordRead c) rfl h ⟨actRecordRead_resulted .., he.mem rfl, (he.recs rfl).trans ((accepted_eff h).recs rfl), fun e hw hf hb hm => ?_⟩
  rw [State.actRecordRead, if_pos hw]
  exact readRecord_held hf hb hm

/-! SET_FIELD and SET_PARAM. -/

theorem setField_completes (h : s.Accepted 5 c a) : s.Completes (.setField c) fun t => t.Resulted c.tag 5 0 [] ∧ t.time.t = s.time.t := by
  have ht : (a.hwWrite (gwArg c 0) (BitVec.ofNat 32 (gwArg c 1))).time.t = s.time.t := (hwWrite_t ..).trans (congrArg TimeBase.t ((accepted_eff h).time rfl))
  exact completes_accepted (State.actSetField c) rfl h ⟨result_resulted .., (congrArg TimeBase.t ((State.result_eff ..).time rfl)).trans ht⟩

/-- A parameter that is set reads as its new value (R100). -/
theorem paramSet_param (s : State) (acc id slot old new : Nat) : alFind (s.paramSet acc id slot old new).params id = some new := by
  have hp : ∀ (u : State) (v : CtlVal) (rs : List Nat), ((u.ctlWrite 5 v).paramPages id rs).params = u.params := fun u v rs => ((State.paramPages_eff ..).params rfl).trans ((State.ctlWrite_eff ..).params rfl)
  rw [State.paramSet]
  dsimp only
  rw [hp]
  exact alFind_alSet_same ..

theorem setParam_completes (h : s.Accepted 6 c a) : s.Completes (.setParam c) fun t =>
    alFind t.params (bitsOf (gwArg c 0) 7 0) = some (gwArg c 1 + 2 ^ 32 * gwArg c 2) ∧ t.Resulted c.tag 6 0 [] ∧ t.time = s.time := by
  refine completes_accepted (State.actSetParam c) rfl h ⟨?_, result_resulted .., ((State.actSetParam_eff ..).time rfl).trans ((accepted_eff h).time rfl)⟩
  rw [State.actSetParam, (State.result_eff ..).params rfl]
  exact paramSet_param ..

/-! TIME_SLEW and TIME_STEP. -/

/-- FREQ, the phase and its rate are replaced, which is a correction (R299, R307). -/
def State.slewed (s : State) (c : GwCmd) : State :=
  ({ s with time := { s.time with freq := sext 32 (gwArg c 0), phase := sext 32 (gwArg c 1) * 65536 * 1000000000000, rate := gwArg c 2 } }).timeShow.corrected

/-- The RESULT of a TIME_SLEW carries the phase that the replaced command left. -/
theorem actTimeSlew_eq (c : GwCmd) (s : State) : ∃ st, s.actTimeSlew c = (s.slewed c).result c.tag 7 st (leBytes 4 (utwo 32 s.time.phaseNs)) := ⟨_, rfl⟩

theorem slewed_time (s : State) (c : GwCmd) : (s.slewed c).time.freq = sext 32 (gwArg c 0) ∧ (s.slewed c).time.phase = sext 32 (gwArg c 1) * 65536 * 1000000000000 ∧
    (s.slewed c).time.rate = gwArg c 2 ∧ (s.slewed c).time.t = s.time.t := by
  rw [State.slewed, corrected_time, (State.timeShow_eff _).time rfl]
  exact ⟨rfl, rfl, rfl, rfl⟩

theorem timeSlew_completes (h : s.Accepted 7 c a) : s.Completes (.timeSlew c) fun t => t.time.freq = sext 32 (gwArg c 0) ∧ t.time.phase = sext 32 (gwArg c 1) * 65536 * 1000000000000 ∧
    t.time.rate = gwArg c 2 ∧ t.get F.TIME.STATUS.SYNC = 1 ∧ t.time.t = s.time.t ∧ ∃ st, t.Resulted c.tag 7 st (leBytes 4 (utwo 32 s.time.phaseNs)) := by
  obtain ⟨st, he⟩ := actTimeSlew_eq c a
  obtain ⟨hf, hp, hr, ht⟩ := slewed_time a c
  have hs : a.time = s.time := (accepted_eff h).time rfl
  refine completes_accepted (State.actTimeSlew c) rfl h ?_
  rw [he, (State.result_eff ..).time rfl, (result_ringRegs (a.slewed c) c.tag 7 st _).get rfl, ← hs]
  exact ⟨hf, hp, hr, corrected_sync _, ht, st, result_resulted ..⟩

/-- A step waits for its place (R308). -/
def State.stepTaken (s : State) (x : TStep) : State := ({ s with time := { s.time with step := some x } }).set F.TIME.STATUS.STEP_PEND 1

theorem timeStep_completes (h : s.Accepted 8 c a) : s.Completes (.timeStep c) fun t =>
    (∃ x, t.time.step = some x ∧ x.amount = gwStepI c ∧ x.tag = c.tag ∧ x.acceptedAt = s.time.t) ∧ t.on F.TIME.STATUS.STEP_PEND = true ∧ t.get F.TIME.STATUS.SYNC = 1 ∧ t.time.t = s.time.t := by
  let x : TStep := { amount := gwStepI c, slot := c.sig.map (fun g => g.slot % 4), tag := c.tag, acceptedAt := a.time.t, sealst := a.sealst }
  have ht : a.time.t = s.time.t := congrArg TimeBase.t ((accepted_eff h).time rfl)
  have hp : (a.stepTaken x).corrected.on F.TIME.STATUS.STEP_PEND = true := (corrected_on _ (by decide) (by decide)).trans (on_set_one _ F.TIME.STATUS.STEP_PEND (by decide) rfl)
  exact completes_accepted (State.actTimeStep c) rfl h ⟨⟨x, rfl, rfl, rfl, ht⟩, hp, corrected_sync _, ht⟩

/-! CAL_RUN and ZERO_CAL. -/

theorem calRun_refused (h : s.Accepted 13 c a) (hn : (a.calNamed (bitsOf (gwArg c 0) 7 0) (bitsOf (gwArg c 0) 15 8)).isEmpty = true) :
    s.Completes (.calRun c) fun t => t.Resulted c.tag 13 0x0202 (List.replicate 6 0) ∧ t.cal = s.cal := by
  have he : a.actCalRun c = a.result c.tag 13 0x0202 (List.replicate 6 0) := if_pos hn
  refine completes_accepted (State.actCalRun c) rfl h ?_
  rw [he]
  exact ⟨result_resulted .., ((State.result_eff ..).cal rfl).trans ((accepted_eff h).cal rfl)⟩

theorem calRun_queues (h : s.Accepted 13 c a) (hn : (a.calNamed (bitsOf (gwArg c 0) 7 0) (bitsOf (gwArg c 0) 15 8)).isEmpty = false) :
    s.Completes (.calRun c) fun t => t.gw.long = some (13, c.tag) ∧ t.cal.cmd = some (c.tag, (0, 0, 0)) ∧ t.mem = a.mem := by
  refine completes_accepted (State.actCalRun c) rfl h ?_
  rw [State.actCalRun]
  dsimp only
  rw [if_neg (ne_true_of_eq_false hn)]
  exact ⟨rfl, rfl, rfl⟩

/-- The run of a ZERO_CAL as it begins (R375). -/
def State.zeroRun (s : State) (c : GwCmd) : ZeroCal :=
  { stream := bitsOf (gwArg c 0) 7 0, param := bitsOf (gwArg c 1) 7 0, limit := gwArg c 2, left := bitsOf (gwArg c 0) 31 16, sum := 0, count := 0, possible := 0, paths := 0,
    mask := s.get (F.ECHO.PATHS.MASK (bitsOf (gwArg c 0) 7 0)), changed := false, slot := gwSlot c, tag := c.tag }

/-- A zero-flow run is the long command that runs. -/
def State.zeroBegun (s : State) (c : GwCmd) : State := { s with cal := { s.cal with zero := some (s.zeroRun c) }, gw := { s.gw with long := some (14, c.tag) } }

theorem actZeroCal_eq (c : GwCmd) (s : State) : s.actZeroCal c = (s.zeroBegun c).calShow := rfl

theorem zeroCal_completes (h : s.Accepted 14 c a) : s.Completes (.zeroCal c) fun t => t.gw.long = some (14, c.tag) ∧
    (∃ z, t.cal.zero = some z ∧ z.stream = bitsOf (gwArg c 0) 7 0 ∧ z.left = bitsOf (gwArg c 0) 31 16 ∧ z.count = 0) ∧ t.mem = a.mem := by
  have he := State.calShow_eff (a.zeroBegun c)
  refine completes_accepted (State.actZeroCal c) rfl h ?_
  rw [actZeroCal_eq, he.gw rfl, he.cal rfl, he.mem rfl]
  exact ⟨rfl, ⟨a.zeroRun c, rfl, rfl, rfl, rfl⟩, rfl⟩

/-! AUDIT_CLEAR. -/

/-- A clear has made its entry and asked for its erases (R124). -/
def State.clearAsked (s : State) (n : Nat) (c : GwCmd) (d : List Byte) : State :=
  let t := s.clearEntry n c d
  ({ t with gw := { t.gw with long := some (15, c.tag), clear := some c.tag } } : State).eraseWants ((clearedSectors n t.audit.held).map fun m => 0x200 + m % 256)

theorem auditClear_eq (s : State) (n : Nat) (c : GwCmd) (d : List Byte) : s.auditClear n c d = (s.clearAsked n c d).clearEnd := rfl

theorem clearAsked_gw (s : State) (n : Nat) (c : GwCmd) (d : List Byte) : (s.clearAsked n c d).gw.clear = some c.tag ∧ (s.clearAsked n c d).gw.long = some (15, c.tag) := by
  rw [State.clearAsked, (State.eraseWants_eff ..).gw rfl]
  exact ⟨rfl, rfl⟩

/-- The entry of a clear stands in the trail before an erase begins. -/
theorem clearAsked_holds (s : State) (n : Nat) (c : GwCmd) (d : List Byte) : ∃ e, e ∈ (s.clearAsked n c d).auditHeld ∧ e.kind = 0x80 := by
  have hw : Keeps State.auditHeld (s.clearEntry n c d) (s.clearAsked n c d) := (auditHeld_of_eff (State.eraseWants_eff ..) rfl).trans rfl
  rw [hw]
  exact auditProgram_holds ..

/-- A clear has made its entry, and runs as a long command or has ended with its RESULT (R124). -/
theorem auditClear_ends (s : State) (n : Nat) (c : GwCmd) (d : List Byte) : let t := s.auditClear n c d
    (∃ e, e ∈ t.audit.held ∧ e.kind = 0x80) ∧ (t.gw.clear = some c.tag ∧ t.gw.long = some (15, c.tag) ∨ t.gw.clear = none ∧ t.gw.long = none ∧ t.Resulted c.tag 15 0 []) := by
  intro t
  obtain ⟨e, he, hk⟩ := clearAsked_holds s n c d
  have hg := clearAsked_gw s n c d
  obtain hw | hd := clearEnd_eq hg.1
  · rw [show t = s.clearAsked n c d from hw]
    exact ⟨⟨e, he, hk⟩, .inl hg⟩
  · have hr := State.result_eff (s.clearAsked n c d).clearDone c.tag 15 0 []
    obtain ⟨hc, hl⟩ := clearDone_gw (s.clearAsked n c d)
    rw [show t = (s.clearAsked n c d).clearDone.result c.tag 15 0 [] from hd, hr.audit rfl, hr.gw rfl]
    exact ⟨⟨e, (clearDone_heldGrows _).mem he, hk⟩, .inr ⟨hc, hl, result_resulted ..⟩⟩

/-- The SEQ of an AUDIT_CLEAR is held, and its digest is that of the archive (R124). -/
def State.clearMatches (s : State) (c : GwCmd) : Bool := (s.audit.held.any fun e => e.seq == gwArg c 0) && s.archiveDigest (gwArg c 0) == bytesOf (c.args.drop 1)

theorem auditClear_refused (h : s.Accepted 15 c a) (hok : a.clearMatches c = false) :
    s.Completes (.auditClear c) fun t => t.Resulted c.tag 15 0x0101 [] ∧ t.mem = a.mem ∧ t.audit.held = s.audit.held := by
  have he : a.actAuditClear c = a.result c.tag 15 0x0101 [] := if_neg (ne_true_of_eq_false hok)
  have hr := State.result_eff a c.tag 15 0x0101 []
  refine completes_accepted (State.actAuditClear c) rfl h ?_
  rw [he]
  exact ⟨result_resulted .., hr.mem rfl, (auditHeld_of_eff hr rfl).after (accepted_auditHeld h)⟩

theorem auditClear_completes (h : s.Accepted 15 c a) (hok : a.clearMatches c = true) : s.Completes (.auditClear c) fun t =>
    (∃ e, e ∈ t.audit.held ∧ e.kind = 0x80) ∧ t.keys = a.keys ∧ t.params = s.params ∧
      (t.gw.clear = some c.tag ∧ t.gw.long = some (15, c.tag) ∨ t.gw.clear = none ∧ t.gw.long = none ∧ t.Resulted c.tag 15 0 []) := by
  have he : a.actAuditClear c = a.auditClear (gwArg c 0) c (a.archiveDigest (gwArg c 0)) := if_pos hok
  have hf := State.actAuditClear_eff c a
  obtain ⟨hh, hg⟩ := auditClear_ends a (gwArg c 0) c (a.archiveDigest (gwArg c 0))
  refine completes_accepted (State.actAuditClear c) rfl h ⟨?_, hf.keys rfl, (hf.params rfl).trans ((accepted_eff h).params rfl), ?_⟩
  · rw [he]
    exact hh
  · rw [he]
    exact hg

end

/-! The obligation. -/

/-- Settles O54: an accepted command's action is applied to the state in which it acts, and what the statement asks of the next state is read off that action, command by command. -/
theorem gatewayActs : Obligations.GatewayActs := by
  intro s a c
  exact ⟨status_completes, ident_completes, auditRead_completes, recordRead_completes, setField_completes, setParam_completes, timeSlew_completes, timeStep_completes, calRun_refused, calRun_queues,
    zeroCal_completes, fun h => ⟨auditClear_refused h, auditClear_completes h⟩⟩

end Sys2Proof.Machine
end

section
/-! SUPPORT. The parts of the state that each command may change, and what the commands that let time pass leave where no commit and no restart is pending (R242 to R244, R383). -/

namespace Sys2Proof.Machine

/-! The parts that a command may change. -/

/-- The parts of the state that a command may change, as the mask of its law (bit k is the k-th part, as in `Eff`). -/
def partsOf : Instr → Nat
  | .acqClr .. | .echoClr .. | .pinRunloRead .. | .timeStampGo .. | .twmAraAnswer .. | .tsqRead .. | .clrOvr .. | .gwTimeRead .. | .timeNowRead .. | .timeCycleRead .. => 4
  | .vddioSLoss .. => 20
  | .ringEntryRead .. | .pop .. => 260
  | .flashStatus .. | .lock .. | .ecnt .. | .margin .. => 49152
  | .flashErase .. | .suspend .. | .resume .. => 49156
  | .zonecfg .. => 49158
  | .coefLoad .. | .coefSwap .. => 16777220
  | .comparatorWrite .. | .phaseAmortised .. => 134217732
  | .xofsLearn .. => 134217734
  | .temperatureSample .. => 268435460
  | .spindleAlarm .. => 671088644
  | .winterEntry .. => 671285252
  | .arbitrationRetry .. => 4294967296
  | .twmRead .. => 8589934592
  | .twmBusErr .. => 8589934596
  | .contMaxExpiry .. => 34359738368
  | .mdioGo .. => 68719476740
  | .mdioFrameEnd .. => 68719476742
  | .eventQueueMove .. => 137438953732
  | .sc1Boot .. => 274877906948
  | .vddSwLoss .. => 274877956628
  | .claim .. | .mret .. => 274878103556
  | .sapwoodBoot .. => 275079282828
  | .hscWdtKick .. => 2199023255552
  | .wdtKick .. => 4398046511108
  | .complete .. | .stormClear .. | .tmrStart .. | .tmrStop .. | .recover .. | .linkChange .. => 4673461485572
  | .unlock .. | .setpw .. => 4673461534726
  | .flashProgram .. => 4673461534734
  | .interruptSourceEvent .. => 4673462272004
  | .slWrite .. => 4673465680324
  | .gaugeSample .. => 4673729921030
  | .scrub .. | .regParity .. | .xtal32Fail .. => 4675608969604
  | .pulseBlockWrite .. => 4675611066380
  | .echoJob .. | .echoWatchdog .. => 4675611066766
  | .recordSnapshot .. => 4675709632908
  | .twGo .. | .twTxdata .. | .alertResponseRead .. => 4677756452868
  | .twTransferEnd .. | .arbLost .. | .stretchTimeout .. | .sclLowTimeout .. | .sdaLowTimeout .. | .twBusErr .. | .twAbort .. | .twRxdata .. => 4677756452870
  | .twmAddressMatch .. | .twmWrite .. => 4682051420164
  | .sapwoodGate .. | .csp4SelectAsserted .. => 4707821223940
  | .cspGo .. => 4725001093124
  | .discover .. | .xipFetch .. => 4725001093126
  | .tsqPop .. => 4742180962308
  | .ethReceiveFrame .. | .txctlPoll .. | .rxctlPoll .. => 4742180962310
  | .fwOutPop .. => 4810900439044
  | .csp4Frame .. | .submit .. | .long .. | .hstatus .. | .getResult .. | .events .. | .time .. | .wakePolicy .. | .app .. => 4845260177414
  | .hostResultCollect .. => 4845260177670
  | .write .. => 4845260226574
  | .eraseSlot .. => 4845327335566
  | .srstReq .. | .done .. => 4935454999052
  | .supplyGood .. | .vddSwReturn .. => 4935454999068
  | .srstnLow .. => 4935455064590
  | .flashRead .. => 5775510716814
  | .crosspointConnect .. | .modulatorWarmEnd .. | .pulseEdge .. | .pulseStuckTimeout .. | .swapTakeEffect .. | .jobAdmission .. | .taskDispatch .. | .jobAbandon .. | .regionWatchdogExpiry ..
    | .add .. | .sub .. | .and .. | .or .. | .xor .. | .sll .. | .srl .. | .sra .. | .mul .. | .addi .. | .andi .. | .ori .. | .lui .. | .li .. | .addC .. | .addU .. | .subC .. | .subU ..
    | .mulC .. | .mulU .. | .divC .. | .divU .. | .sqrt .. | .neg .. | .abs .. | .min .. | .max .. | .mov .. | .uwid .. | .scli .. | .cvu .. | .cvt .. | .cvi .. | .setf .. | .ldp .. | .ld ..
    | .st .. | .ldl .. | .tacc .. | .trdc .. | .br .. | .loop .. | .inChain .. | .inPath .. | .inPulse .. | .tend .. | .emitv .. | .emitt .. | .emite .. | .emiti .. | .moderationTimeout ..
    | .stormWindowEnd .. | .compareMatch .. | .periodEnd .. | .pulseUncountedEdge .. | .holdoverTimeout .. | .energyScaleUpdate .. | .seasonAlarm .. | .wdtWarn .. => 5775655371148
  | .prop .. | .orifice .. | .venturi .. | .upath .. | .kfactor .. | .freq .. | .normvol .. | .density .. | .pulsePhaseRemoved .. => 5775655371150
  | .marginScrubPass .. => 5775655387532
  | .triggerMatch .. | .firing .. => 5775656419724
  | .chainSampleWrite .. | .calibrationDue .. => 5776729112972
  | .cycleInstant .. => 5776729162190
  | .captureWindowClose .. => 5776730161548
  | .calibrationStart .. => 5776730162060
  | .cspFrameEnd .. | .cspTxdata .. | .cspRxdata .. | .cspAbort .. | .modeFault .. | .targetSelectionEnd .. => 5792690536846
  | .ethTransmitFrame .. | .ethReceiveDeliver .. => 5844230144398
  | .hostGatewayTimeout .. | .appTimeout .. => 5947454062990
  | .wdtLimit .. => 6037648950156
  | .timeStepApply .. => 8113192371084
  | .status .. | .ident .. | .auditRead .. | .imageData .. | .keySlot .. | .debugEnable .. => 13469554528140
  | .recordRead .. => 13469554528142
  | .imageEnd .. => 13469554532236
  | .auditClear .. => 13469554560908
  | .imageBegin .. => 13469621673868
  | .timeSlew .. | .timeStep .. => 13469755854732
  | .calRun .. | .zeroCal .. => 13470628269964
  | .setParam .. => 14569099718604
  | .zeroCalEnd .. => 14570173457358
  | .powerFailCommit .. => 14571583783308
  | .calibrationHoldEnd .. => 14572822152076
  | .imageLoadTimeout .. => 14709187367820
  | .bankCapacitanceCheck .. => 15671060840876
  | .setField .. => 15724550770638
  | .heartwoodRailLoss .. => 26379689116604
  | .classHReset .. => 35072702399404
  | .auditEntryProgram .. | .auditControlRecordCopy .. | .intervalRecord .. | .pllUnlock .. | .interconnectFault .. | .hscWatchdogExpiry .. | .eraseEnd .. | .busAccessError ..
    | .w0SnapshotRead .. | .hfxoFail .. => 35072702399406
  | .sealPatternAdvance .. | .thawWinter .. | .hfxoRestart .. | .safeExit .. | .sealOpen .. | .sealClose .. => 35072702399470
  | .hreset .. => 35072702402476
  | .startUpSequence .. => 35072702412782
  | .imageActivate .. => 35072702414764
  | .doorbell .. | .hostForward .. => 35107062153198
  | .registerWrite .. => 35175782138862
  | .debugAccess .. => 70360154227694
  | .frostEntry .. => 84940470567308
  | .thawFrost .. => 105553116251118
  | .testenHigh .. | .vddAoFail .. | .hfrcFail .. => 131941395317756
  | .pornLow .. => 131941395317758

/-- A command changes no part beyond `partsOf`. -/
theorem exec_parts : ∀ (c : Instr) (s : State), OutEff (partsOf c) s (exec c s)
  | .pornLow .., s => execPornLow_eff _ s
  | .srstnLow .., s => execSrstnLow_eff _ s
  | .heartwoodRailLoss .., s => execHeartwoodRailLoss_eff _ s
  | .supplyGood .., s => execSupplyGood_eff _ s
  | .testenHigh .., s => execTestenHigh_eff _ s
  | .classHReset .., s => execClassHReset_eff _ _ _ s
  | .startUpSequence .., s => execStartUpSequence_eff _ _ _ s
  | .bankCapacitanceCheck .., s => execBankCapacitanceCheck_eff _ s
  | .srstReq .., s => execSrstReq_eff _ s
  | .sc1Boot .., s => execSc1Boot_eff _ s
  | .sealPatternAdvance .., s => execSealPatternAdvance_eff _ s
  | .slWrite .., s => execSlWrite_eff _ _ s
  | .status .., s => execStatus_eff _ s
  | .ident .., s => execIdent_eff _ s
  | .auditRead .., s => execAuditRead_eff _ s
  | .recordRead .., s => execRecordRead_eff _ s
  | .setField .., s => execSetField_eff _ s
  | .setParam .., s => execSetParam_eff _ s
  | .timeSlew .., s => execTimeSlew_eff _ s
  | .timeStep .., s => execTimeStep_eff _ s
  | .imageBegin .., s => execImageBegin_eff _ s
  | .imageData .., s => execImageData_eff _ s
  | .imageEnd .., s => execImageEnd_eff _ s
  | .imageActivate .., s => execImageActivate_eff _ _ _ s
  | .calRun .., s => execCalRun_eff _ s
  | .zeroCal .., s => execZeroCal_eff _ s
  | .auditClear .., s => execAuditClear_eff _ s
  | .hreset .., s => execHreset_eff _ _ _ s
  | .keySlot .., s => execKeySlot_eff _ s
  | .debugEnable .., s => execDebugEnable_eff _ s
  | .auditEntryProgram .., s => execAuditEntryProgram_eff _ s
  | .auditControlRecordCopy .., s => execAuditControlRecordCopy_eff _ s
  | .triggerMatch .., s => execTriggerMatch_eff _ s
  | .comparatorWrite .., s => execComparatorWrite_eff _ _ _ s
  | .firing .., s => execFiring_eff _ s
  | .crosspointConnect .., s => execCrosspointConnect_eff _ s
  | .captureWindowClose .., s => execCaptureWindowClose_eff _ _ _ _ s
  | .acqClr .., s => execAcqClr_eff _ s
  | .echoJob .., s => execEchoJob_eff _ s
  | .echoWatchdog .., s => execEchoWatchdog_eff _ s
  | .echoClr .., s => execEchoClr_eff _ s
  | .modulatorWarmEnd .., s => execModulatorWarmEnd_eff _ s
  | .pulseEdge .., s => execPulseEdge_eff _ _ s
  | .pulseBlockWrite .., s => execPulseBlockWrite_eff _ s
  | .pulseStuckTimeout .., s => execPulseStuckTimeout_eff _ s
  | .pinRunloRead .., s => execPinRunloRead_eff _ s
  | .chainSampleWrite .., s => execChainSampleWrite_eff _ _ _ _ _ s
  | .coefLoad .., s => execCoefLoad_eff _ _ _ s
  | .coefSwap .., s => execCoefSwap_eff _ _ s
  | .swapTakeEffect .., s => execSwapTakeEffect_eff _ s
  | .jobAdmission .., s => execJobAdmission_eff _ s
  | .taskDispatch .., s => execTaskDispatch_eff _ s
  | .jobAbandon .., s => execJobAbandon_eff _ s
  | .regionWatchdogExpiry .., s => execRegionWatchdogExpiry_eff _ s
  | .add .., s => execAdd_eff _ _ _ _ s
  | .sub .., s => execSub_eff _ _ _ _ s
  | .and .., s => execAnd_eff _ _ _ _ s
  | .or .., s => execOr_eff _ _ _ _ s
  | .xor .., s => execXor_eff _ _ _ _ s
  | .sll .., s => execSll_eff _ _ _ _ s
  | .srl .., s => execSrl_eff _ _ _ _ s
  | .sra .., s => execSra_eff _ _ _ _ s
  | .mul .., s => execMul_eff _ _ _ _ s
  | .addi .., s => execAddi_eff _ _ _ _ s
  | .andi .., s => execAndi_eff _ _ _ _ s
  | .ori .., s => execOri_eff _ _ _ _ s
  | .lui .., s => execLui_eff _ _ _ s
  | .li .., s => execLi_eff _ _ _ s
  | .addC .., s => execAddC_eff _ _ _ _ s
  | .addU .., s => execAddU_eff _ _ _ _ s
  | .subC .., s => execSubC_eff _ _ _ _ s
  | .subU .., s => execSubU_eff _ _ _ _ s
  | .mulC .., s => execMulC_eff _ _ _ _ _ s
  | .mulU .., s => execMulU_eff _ _ _ _ _ s
  | .divC .., s => execDivC_eff _ _ _ _ _ s
  | .divU .., s => execDivU_eff _ _ _ _ _ s
  | .sqrt .., s => execSqrt_eff _ _ _ _ s
  | .neg .., s => execNeg_eff _ _ _ s
  | .abs .., s => execAbs_eff _ _ _ s
  | .min .., s => execMin_eff _ _ _ _ s
  | .max .., s => execMax_eff _ _ _ _ s
  | .mov .., s => execMov_eff _ _ _ s
  | .uwid .., s => execUwid_eff _ _ _ _ s
  | .scli .., s => execScli_eff _ _ _ _ _ s
  | .cvu .., s => execCvu_eff _ _ _ _ s
  | .cvt .., s => execCvt_eff _ _ _ _ _ s
  | .cvi .., s => execCvi_eff _ _ _ _ s
  | .setf .., s => execSetf_eff _ _ _ _ _ s
  | .ldp .., s => execLdp_eff _ _ _ _ s
  | .prop .., s => execProp_eff _ _ _ _ _ s
  | .ld .., s => execLd_eff _ _ _ _ _ s
  | .st .., s => execSt_eff _ _ _ _ _ s
  | .ldl .., s => execLdl_eff _ _ _ _ _ _ s
  | .tacc .., s => execTacc_eff _ _ _ _ s
  | .trdc .., s => execTrdc_eff _ _ _ s
  | .br .., s => execBr_eff _ _ _ _ _ s
  | .loop .., s => execLoop_eff _ _ _ _ s
  | .inChain .., s => execInChain_eff _ s
  | .inPath .., s => execInPath_eff _ s
  | .inPulse .., s => execInPulse_eff _ s
  | .orifice .., s => execOrifice_eff _ s
  | .venturi .., s => execVenturi_eff _ s
  | .upath .., s => execUpath_eff _ s
  | .kfactor .., s => execKfactor_eff _ s
  | .freq .., s => execFreq_eff _ s
  | .normvol .., s => execNormvol_eff _ _ s
  | .density .., s => execDensity_eff _ _ s
  | .tend .., s => execTend_eff _ _ s
  | .emitv .., s => execEmitv_eff _ _ s
  | .emitt .., s => execEmitt_eff _ _ s
  | .emite .., s => execEmite_eff _ _ _ s
  | .emiti .., s => execEmiti_eff _ _ _ _ s
  | .recordSnapshot .., s => execRecordSnapshot_eff _ s
  | .intervalRecord .., s => execIntervalRecord_eff _ _ s
  | .xofsLearn .., s => execXofsLearn_eff _ s
  | .timeStampGo .., s => execTimeStampGo_eff _ s
  | .gaugeSample .., s => execGaugeSample_eff _ _ s
  | .powerFailCommit .., s => execPowerFailCommit_eff _ _ s
  | .temperatureSample .., s => execTemperatureSample_eff _ s
  | .frostEntry .., s => execFrostEntry_eff _ _ _ _ s
  | .spindleAlarm .., s => execSpindleAlarm_eff _ s
  | .thawWinter .., s => execThawWinter_eff _ _ _ s
  | .thawFrost .., s => execThawFrost_eff _ _ _ _ s
  | .hfxoRestart .., s => execHfxoRestart_eff _ _ _ s
  | .pllUnlock .., s => execPllUnlock_eff _ _ s
  | .calibrationDue .., s => execCalibrationDue_eff _ _ s
  | .calibrationHoldEnd .., s => execCalibrationHoldEnd_eff _ _ _ _ _ s
  | .interconnectFault .., s => execInterconnectFault_eff _ _ s
  | .hscWatchdogExpiry .., s => execHscWatchdogExpiry_eff _ _ _ s
  | .safeExit .., s => execSafeExit_eff _ s
  | .hscWdtKick .., s => execHscWdtKick_eff _ s
  | .scrub .., s => execScrub_eff _ _ _ s
  | .regParity .., s => execRegParity_eff _ _ s
  | .flashRead .., s => execFlashRead_eff _ _ _ _ _ _ _ _ s
  | .flashProgram .., s => execFlashProgram_eff _ _ _ _ _ _ _ _ s
  | .flashErase .., s => execFlashErase_eff _ _ _ s
  | .eraseEnd .., s => execEraseEnd_eff _ _ s
  | .flashStatus .., s => execFlashStatus_eff _ _ s
  | .suspend .., s => execSuspend_eff _ _ s
  | .resume .., s => execResume_eff _ _ s
  | .unlock .., s => execUnlock_eff _ _ _ _ _ s
  | .lock .., s => execLock_eff _ _ _ s
  | .setpw .., s => execSetpw_eff _ _ _ _ _ _ s
  | .zonecfg .., s => execZonecfg_eff _ _ _ _ s
  | .ecnt .., s => execEcnt_eff _ _ _ s
  | .margin .., s => execMargin_eff _ _ _ _ _ _ s
  | .marginScrubPass .., s => execMarginScrubPass_eff _ _ _ s
  | .interruptSourceEvent .., s => execInterruptSourceEvent_eff _ _ _ s
  | .claim .., s => execClaim_eff _ _ s
  | .complete .., s => execComplete_eff _ _ _ s
  | .moderationTimeout .., s => execModerationTimeout_eff _ _ s
  | .stormClear .., s => execStormClear_eff _ _ _ s
  | .stormWindowEnd .., s => execStormWindowEnd_eff _ _ s
  | .compareMatch .., s => execCompareMatch_eff _ _ s
  | .periodEnd .., s => execPeriodEnd_eff _ _ s
  | .tmrStart .., s => execTmrStart_eff _ _ s
  | .tmrStop .., s => execTmrStop_eff _ _ s
  | .wdtKick .., s => execWdtKick_eff _ s
  | .twGo .., s => execTwGo_eff _ _ s
  | .twTransferEnd .., s => execTwTransferEnd_eff _ _ _ s
  | .arbLost .., s => execArbLost_eff _ _ _ _ s
  | .arbitrationRetry .., s => execArbitrationRetry_eff _ s
  | .stretchTimeout .., s => execStretchTimeout_eff _ s
  | .sclLowTimeout .., s => execSclLowTimeout_eff _ s
  | .sdaLowTimeout .., s => execSdaLowTimeout_eff _ s
  | .twBusErr .., s => execTwBusErr_eff _ _ _ s
  | .twAbort .., s => execTwAbort_eff _ _ s
  | .recover .., s => execRecover_eff _ _ s
  | .twTxdata .., s => execTwTxdata_eff _ _ s
  | .twRxdata .., s => execTwRxdata_eff _ s
  | .alertResponseRead .., s => execAlertResponseRead_eff _ _ _ s
  | .twmAddressMatch .., s => execTwmAddressMatch_eff _ s
  | .twmWrite .., s => execTwmWrite_eff _ _ s
  | .twmRead .., s => execTwmRead_eff _ s
  | .twmAraAnswer .., s => execTwmAraAnswer_eff _ s
  | .cspGo .., s => execCspGo_eff _ s
  | .cspFrameEnd .., s => execCspFrameEnd_eff _ _ _ s
  | .cspTxdata .., s => execCspTxdata_eff _ _ _ s
  | .cspRxdata .., s => execCspRxdata_eff _ _ s
  | .cspAbort .., s => execCspAbort_eff _ _ s
  | .modeFault .., s => execModeFault_eff _ _ s
  | .targetSelectionEnd .., s => execTargetSelectionEnd_eff _ _ s
  | .csp4Frame .., s => execCsp4Frame_eff _ _ s
  | .discover .., s => execDiscover_eff _ s
  | .xipFetch .., s => execXipFetch_eff _ _ _ _ s
  | .ethTransmitFrame .., s => execEthTransmitFrame_eff _ _ s
  | .ethReceiveFrame .., s => execEthReceiveFrame_eff _ _ _ _ s
  | .ethReceiveDeliver .., s => execEthReceiveDeliver_eff _ s
  | .txctlPoll .., s => execTxctlPoll_eff _ _ s
  | .rxctlPoll .., s => execRxctlPoll_eff _ _ s
  | .linkChange .., s => execLinkChange_eff _ _ _ s
  | .mdioGo .., s => execMdioGo_eff _ s
  | .tsqRead .., s => execTsqRead_eff _ s
  | .tsqPop .., s => execTsqPop_eff _ s
  | .submit .., s => execSubmit_eff _ s
  | .long .., s => execLong_eff _ s
  | .write .., s => execWrite_eff _ _ s
  | .debugAccess .., s => execDebugAccess_eff _ _ _ _ _ _ _ s
  | .busAccessError .., s => execBusAccessError_eff _ _ _ _ _ _ s
  | .registerWrite .., s => execRegisterWrite_eff _ _ _ _ _ s
  | .doorbell .., s => execDoorbell_eff _ _ _ s
  | .pulsePhaseRemoved .., s => execPulsePhaseRemoved_eff _ _ _ s
  | .pulseUncountedEdge .., s => execPulseUncountedEdge_eff _ _ s
  | .mdioFrameEnd .., s => execMdioFrameEnd_eff _ s
  | .w0SnapshotRead .., s => execW0SnapshotRead_eff _ _ s
  | .mret .., s => execMret_eff _ s
  | .vddAoFail .., s => execVddAoFail_eff s
  | .vddSwLoss .., s => execVddSwLoss_eff s
  | .vddSwReturn .., s => execVddSwReturn_eff s
  | .sapwoodBoot .., s => execSapwoodBoot_eff s
  | .sealOpen .., s => execSealOpen_eff _ _ s
  | .sealClose .., s => execSealClose_eff _ _ s
  | .imageLoadTimeout .., s => execImageLoadTimeout_eff s
  | .zeroCalEnd .., s => execZeroCalEnd_eff s
  | .ringEntryRead .., s => execRingEntryRead_eff s
  | .pop .., s => execPop_eff s
  | .clrOvr .., s => execClrOvr_eff s
  | .cycleInstant .., s => execCycleInstant_eff s
  | .timeStepApply .., s => execTimeStepApply_eff s
  | .holdoverTimeout .., s => execHoldoverTimeout_eff s
  | .gwTimeRead .., s => execGwTimeRead_eff s
  | .timeNowRead .., s => execTimeNowRead_eff s
  | .timeCycleRead .., s => execTimeCycleRead_eff s
  | .energyScaleUpdate .., s => execEnergyScaleUpdate_eff s
  | .sapwoodGate .., s => execSapwoodGate_eff s
  | .winterEntry .., s => execWinterEntry_eff s
  | .seasonAlarm .., s => execSeasonAlarm_eff s
  | .xtal32Fail .., s => execXtal32Fail_eff s
  | .hfrcFail .., s => execHfrcFail_eff s
  | .hfxoFail .., s => execHfxoFail_eff s
  | .calibrationStart .., s => execCalibrationStart_eff s
  | .wdtWarn .., s => execWdtWarn_eff s
  | .wdtLimit .., s => execWdtLimit_eff s
  | .twmBusErr .., s => execTwmBusErr_eff s
  | .contMaxExpiry .., s => execContMaxExpiry_eff s
  | .fwOutPop .., s => execFwOutPop_eff s
  | .hostForward .., s => execHostForward_eff s
  | .hostResultCollect .., s => execHostResultCollect_eff s
  | .hostGatewayTimeout .., s => execHostGatewayTimeout_eff s
  | .hstatus .., s => execHstatus_eff s
  | .getResult .., s => execGetResult_eff s
  | .events .., s => execEvents_eff s
  | .time .., s => execTime_eff s
  | .wakePolicy .., s => execWakePolicy_eff s
  | .app .., s => execApp_eff s
  | .appTimeout .., s => execAppTimeout_eff s
  | .eventQueueMove .., s => execEventQueueMove_eff s
  | .eraseSlot .., s => execEraseSlot_eff s
  | .done .., s => execDone_eff s
  | .phaseAmortised .., s => execPhaseAmortised_eff s
  | .csp4SelectAsserted .., s => execCsp4SelectAsserted_eff s
  | .vddioSLoss .., s => execVddioSLoss_eff s

/-! Time that passes with nothing due in memory. -/

/-- Memory, engines, pairs and snapshot entries (bits 3, 21, 25 and 40) are out of this mask. -/
def quietParts : Nat := 2 ^ 47 - 2 - 2 ^ 3 - 2 ^ 21 - 2 ^ 25 - 2 ^ 40

/-- The same without the fault state, in which restarts stand (bit 31). -/
def calmParts : Nat := quietParts - 2 ^ 31

theorem restartsDue_nil_of_none {u : State} (h : u.flt.restart = []) (v : State) : v.restartsDue (u.flt.restart.map fun e => e.1) = v := by rw [h]; rfl

/-- Where no pair holds a commit log, no commit is completed. -/
theorem commitsDue_of_noLog {s : State} (h : ∀ p, (s.pair p).log = none) (ps : List Nat) : s.commitsDue ps = s := by
  induction ps with
  | nil => rfl
  | cons p ps ih => rw [State.commitsDue, h p, ih]

/-- Where no commit and no restart is pending, what falls due are windows, warm-ups, stuck inputs, swaps and blocks alone. -/
theorem settle_quiet {s : State} (h : s.NoneDue) : Eff quietParts s s.settle := by
  obtain ⟨hlog, hrestart⟩ := h
  have hin : Eff calmParts s (((s.windowsDue s.acq.lanes).warmsDue s.front.warmTo).stuckDue s.pulse) :=
    (State.stuckDue_eff ..).step rfl ((State.warmsDue_eff ..).step rfl ((State.windowsDue_eff ..).mono rfl))
  unfold State.settle
  rw [commitsDue_of_noLog hlog]
  dsimp only
  rw [restartsDue_nil_of_none (by rw [hin.flt rfl, hrestart])]
  exact (State.blocksDue_eff ..).step rfl ((State.swapsDue_eff ..).step rfl (hin.mono rfl))

theorem settle_quiet_after {s u : State} (h : s.NoneDue) (hu : Eff calmParts s u) : Eff quietParts s u.settle := by
  have hn : u.NoneDue := ⟨fun p => by rw [State.pair, hu.pairs rfl]; exact h.1 p, by rw [hu.flt rfl, h.2]⟩
  exact (settle_quiet hn).step rfl (hu.mono rfl)

section
variable {s : State} (h : s.NoneDue)
include h

theorem advanceTo_settle_quiet (t : Nat) : Eff quietParts s (s.advanceTo t).settle := settle_quiet_after h ((State.advanceTo_eff ..).mono rfl)

theorem advancePlls_settle_quiet (n : Nat) : Eff quietParts s (s.advancePlls n).settle := settle_quiet_after h ((State.advancePlls_eff ..).mono rfl)

theorem stampTo_settle_quiet (t : Nat) : Eff quietParts s (s.stampTo t).settle := settle_quiet_after h ((State.stampTo_eff ..).mono rfl)

theorem passTo_quiet (t : Nat) : Eff quietParts s (s.passTo t).1 := by
  unfold State.passTo
  split
  · exact advanceTo_settle_quiet h t
  · exact .refl _ s

theorem wdtTo_quiet (ms : Nat) : Eff quietParts s (s.wdtTo ms) := (State.set_eff ..).step rfl (advancePlls_settle_quiet h _)

theorem tmrNext_quiet (per : Bool) (g i : Nat) : Eff quietParts s (s.tmrNext per g i) := by
  unfold State.tmrNext
  split
  · exact (State.tmrStore_eff ..).step rfl (advancePlls_settle_quiet h _)
  · exact .refl _ s

theorem matchDo_quiet (n : Nat) (c : CmpOld) (tm : Nat) (late : Bool) : Eff quietParts s (s.matchDo n c tm late) := by
  have hset : ∀ {u : State} (b : Prop) [Decidable b] (f : Fld) (v : Nat), Eff quietParts s u → Eff quietParts s (if b then u.set f v else u) := fun b _ f v hu =>
    .ite ((State.set_eff ..).step rfl hu) hu
  have hirq : ∀ {u : State} (b : Bool), Eff quietParts s u → Eff quietParts s (if b then u.icEdge 0 (32 + n) else u) := fun b hu => .ite ((State.icEdge_eff ..).step rfl hu) hu
  unfold State.matchDo
  refine (State.matchEnvelope_eff ..).step rfl (hirq _ ((State.swapsMatch_eff ..).step rfl ((State.chainMatches_eff ..).step rfl ((State.seqStarts_eff ..).step rfl ?_))))
  exact hset _ _ _ (hset _ _ _ ((State.set_eff ..).step rfl (.upd_time (advanceTo_settle_quiet h tm) rfl)))

/-- A host request whose time is up is answered after its instant has come. -/
theorem hostTimeout_quiet (x : HostCmd) (t code : Nat) (ws : List Word) :
    Eff quietParts s (if (s.passTo t).2 then ((s.passTo t).1.hostAnswer x code ws).hostDrain else (s.passTo t).1) :=
  .ite ((State.hostDrain_eff _).step rfl ((State.hostAnswer_eff ..).step rfl (passTo_quiet h t))) (passTo_quiet h t)

/-! The commands. -/

theorem execTriggerMatch_quiet (n : Nat) : OutEff quietParts s (execTriggerMatch n s) := by
  refine .guard ?_
  split
  · exact matchDo_quiet h ..
  · exact .refl _ s

theorem execCrosspointConnect_quiet (lane : Nat) : OutEff quietParts s (execCrosspointConnect lane s) := .guard (.ite (advanceTo_settle_quiet h _) (.refl _ s))

theorem execModulatorWarmEnd_quiet (n : Nat) : OutEff quietParts s (execModulatorWarmEnd n s) := by
  refine .guard ?_
  split
  · exact advanceTo_settle_quiet h _
  · exact .refl _ s

theorem pulseLevel_settle_quiet (n t : Nat) (up : Bool) : Eff quietParts s (s.pulseLevel n t up).settle := settle_quiet_after h ((State.pulseLevel_eff ..).mono rfl)

theorem execPulseEdge_quiet (n d : Nat) : OutEff quietParts s (execPulseEdge n d s) :=
  .guard (.ite ((State.stampTo_eff ..).mono rfl) (.ite (pulseLevel_settle_quiet h ..) (.refl _ s)))

theorem execPulseUncountedEdge_quiet (n d : Nat) : OutEff quietParts s (execPulseUncountedEdge n d s) :=
  .guard (.ite ((State.stampTo_eff ..).mono rfl) (.ite (pulseLevel_settle_quiet h ..) (.refl _ s)))

theorem execPulsePhaseRemoved_quiet (n d w : Nat) : OutEff quietParts s (execPulsePhaseRemoved n d w s) := by
  have hf : Eff calmParts s (if 64 ≤ w ∧ w < 160 then { s with freeCtr := s.freeCtr + 1 } else s) := .ite (.upd_freeCtr (.refl _ s) rfl (Nat.le_succ _)) (.refl _ s)
  refine .guard (.ite ((State.stampTo_eff ..).step rfl (hf.mono rfl)) (.ite ?_ ?_))
  · exact (State.overrate_eff ..).step rfl ((State.setPulse_eff ..).step rfl (settle_quiet_after h ((State.stampTo_eff ..).step rfl hf)))
  · exact settle_quiet_after h ((State.pulseLevel_eff ..).step rfl ((State.pulseLevel_eff ..).step rfl hf))

theorem execPulseStuckTimeout_quiet (n : Nat) : OutEff quietParts s (execPulseStuckTimeout n s) := by
  have hs : ∀ f v t, Eff quietParts s ((s.set f v).stampTo t).settle := fun f v t => settle_quiet_after h ((State.stampTo_eff ..).step rfl ((State.set_eff ..).mono rfl))
  exact .guard (.ite (.ite (hs ..) ((State.stuckSet_eff ..).step rfl (hs ..))) (.refl _ s))

theorem execSwapTakeEffect_quiet (target : Nat) : OutEff quietParts s (execSwapTakeEffect target s) := by
  refine .next ?_
  split
  · exact advanceTo_settle_quiet h _
  · exact .refl _ s

theorem execCalibrationDue_quiet (kind ch : Nat) : OutEff quietParts s (execCalibrationDue kind ch s) := by
  have hu : ∀ t, Eff quietParts s (if s.time.fast then (s.advanceTo t).settle else if s.boot.cls = 1 ∨ s.pins.heldAo = true then s else s.sleepTo t) := fun t =>
    .ite (advanceTo_settle_quiet h t) (.ite (.refl _ s) ((State.sleepTo_eff ..).mono rfl))
  refine .guard ?_
  split
  · exact .ite (hu _) (.upd_cal (hu _) rfl)
  · exact .refl _ s

theorem execCalibrationStart_quiet : OutEff quietParts s (execCalibrationStart s) := by
  refine .next (.ite (.refl _ s) ?_)
  split
  · exact .refl _ s
  · split
    · exact .refl _ s
    · exact .ite ((State.calBegin_eff ..).step rfl (advanceTo_settle_quiet h _)) ((State.calPostpone_eff ..).step rfl (advanceTo_settle_quiet h _))

theorem execModerationTimeout_quiet (c t : Nat) : OutEff quietParts s (execModerationTimeout c t s) := by
  refine .guard ?_
  split
  · exact .ite ((State.icLines_eff ..).step rfl ((State.setIc_eff ..).step rfl (advancePlls_settle_quiet h _))) (advancePlls_settle_quiet h _)
  · exact .refl _ s

theorem execStormWindowEnd_quiet (c n : Nat) : OutEff quietParts s (execStormWindowEnd c n s) := by
  refine .guard ?_
  split
  · exact (State.setIc_eff ..).step rfl (advancePlls_settle_quiet h _)
  · exact .refl _ s

theorem execCompareMatch_quiet (g i : Nat) : OutEff quietParts s (execCompareMatch g i s) := .guard (.ite (tmrNext_quiet h ..) (.refl _ s))

theorem execPeriodEnd_quiet (g i : Nat) : OutEff quietParts s (execPeriodEnd g i s) := .guard (.ite (tmrNext_quiet h ..) (.refl _ s))

theorem execWdtWarn_quiet : OutEff quietParts s (execWdtWarn s) := .next (.ite ((State.icEdge_eff ..).step rfl ((State.set_eff ..).step rfl (wdtTo_quiet h _))) (.refl _ s))

/-- Time passes to an instant, by the fast time base or the sleep counter. -/
theorem timeTo_quiet (t : Nat) : Eff quietParts s (if s.time.fast then (s.advanceTo t).settle else s.sleepTo t) := .ite (advanceTo_settle_quiet h t) ((State.sleepTo_eff ..).mono rfl)

theorem execHoldoverTimeout_quiet : OutEff quietParts s (execHoldoverTimeout s) :=
  .next (.ite ((State.intervalNote_eff ..).step rfl ((State.set_eff ..).step rfl (timeTo_quiet h _))) (.refl _ s))

theorem execSeasonAlarm_quiet : OutEff quietParts s (execSeasonAlarm s) :=
  have ha : ∀ t, Eff quietParts s ((if s.time.fast then (s.advanceTo t).settle else s.sleepTo t).icEdge 1 26) := fun t => (State.icEdge_eff ..).step rfl (timeTo_quiet h t)
  .next (.ite ((State.wakeSapwood_eff ..).step rfl (ha _)) (ha _))

theorem execEnergyScaleUpdate_quiet : OutEff quietParts s (execEnergyScaleUpdate s) :=
  .next (.ite (.refl _ s) ((State.set_eff ..).step rfl (.upd_spn (advanceTo_settle_quiet h _) rfl)))

theorem execHostGatewayTimeout_quiet : OutEff quietParts s (execHostGatewayTimeout s) := by
  refine .next ?_
  split
  · exact .ite (.refl _ s) (hostTimeout_quiet h ..)
  · exact .refl _ s

theorem execAppTimeout_quiet : OutEff quietParts s (execAppTimeout s) := by
  refine .next ?_
  split
  · exact .ite (.refl _ s) (hostTimeout_quiet h ..)
  · exact .refl _ s

end

/-- The commands that let time pass to an instant, and beside what falls due change neither memory nor engines, pairs and snapshot entries. -/
def passesTime : Instr → Bool
  | .triggerMatch .. | .crosspointConnect .. | .modulatorWarmEnd .. | .pulseEdge .. | .pulseStuckTimeout .. | .swapTakeEffect .. | .calibrationDue .. | .moderationTimeout .. | .stormWindowEnd ..
    | .compareMatch .. | .periodEnd .. | .pulsePhaseRemoved .. | .pulseUncountedEdge .. | .holdoverTimeout .. | .energyScaleUpdate .. | .seasonAlarm .. | .calibrationStart .. | .wdtWarn ..
    | .hostGatewayTimeout .. | .appTimeout .. => true
  | _ => false

theorem exec_quiet {s : State} (h : s.NoneDue) {c : Instr} (hc : passesTime c = true) : OutEff quietParts s (exec c s) := by
  cases c
  case triggerMatch _ => exact execTriggerMatch_quiet h _
  case crosspointConnect _ => exact execCrosspointConnect_quiet h _
  case modulatorWarmEnd _ => exact execModulatorWarmEnd_quiet h _
  case pulseEdge _ _ => exact execPulseEdge_quiet h _ _
  case pulseStuckTimeout _ => exact execPulseStuckTimeout_quiet h _
  case swapTakeEffect _ => exact execSwapTakeEffect_quiet h _
  case calibrationDue _ _ => exact execCalibrationDue_quiet h _ _
  case moderationTimeout _ _ => exact execModerationTimeout_quiet h _ _
  case stormWindowEnd _ _ => exact execStormWindowEnd_quiet h _ _
  case compareMatch _ _ => exact execCompareMatch_quiet h _ _
  case periodEnd _ _ => exact execPeriodEnd_quiet h _ _
  case pulsePhaseRemoved _ _ _ => exact execPulsePhaseRemoved_quiet h _ _ _
  case pulseUncountedEdge _ _ => exact execPulseUncountedEdge_quiet h _ _
  case holdoverTimeout => exact execHoldoverTimeout_quiet h
  case energyScaleUpdate => exact execEnergyScaleUpdate_quiet h
  case seasonAlarm => exact execSeasonAlarm_quiet h
  case calibrationStart => exact execCalibrationStart_quiet h
  case wdtWarn => exact execWdtWarn_quiet h
  case hostGatewayTimeout => exact execHostGatewayTimeout_quiet h
  case appTimeout => exact execAppTimeout_quiet h
  all_goals cases hc

/-! The obligation. -/

theorem ldB_of_mem {s t : State} (h : t.mem = s.mem) (a : Nat) : t.ldB a = s.ldB a := by rw [State.ldB, State.ldB, h]

theorem Eff.quiet {s t : State} (h : Eff quietParts s t) : t.echo = s.echo ∧ t.pairs = s.pairs ∧ t.snaps = s.snaps ∧ ∀ a, t.ldB a = s.ldB a :=
  ⟨h.echo rfl, h.pairs rfl, h.snaps rfl, ldB_of_mem (h.mem rfl)⟩

/-- Settles O57: a clause asks nothing of the commands it names, and of every other command `exec_parts` says that the clause's part is none that it may change; the commands that let time pass change memory, engines, pairs
and snapshot entries by what falls due alone (`exec_quiet`), which is nothing where no commit and no restart is pending. -/
theorem onlyTheseChangeUnits : Obligations.OnlyTheseChangeUnits := by
  unfold Obligations.OnlyTheseChangeUnits
  intro c s t h
  have he := exec_parts c s t h
  have hq : passesTime c = true → s.NoneDue → Eff quietParts s t := fun hc hn => exec_quiet hn hc t h
  clear h
  cases c
  all_goals
    dsimp only [partsOf] at he
    -- A clause is `True` for the commands it names; the part it speaks of is in the mask of no other.
    exact ⟨by first | exact trivial | exact he.twm rfl, by first | exact trivial | exact he.mac rfl, by first | exact trivial | exact he.cspx rfl,
      by first | exact trivial | exact he.csp rfl, by first | exact trivial | exact he.gpioS rfl, by first | exact trivial | exact he.acq rfl,
      by first | exact trivial | exact he.echo rfl, by first | exact trivial | exact he.front rfl, by first | exact trivial | exact he.pulse rfl,
      by first | exact trivial | exact he.cal rfl, by first | exact trivial | exact he.tw rfl, by first | exact trivial | exact he.hscHalted rfl,
      by first | exact trivial | exact he.snaps rfl, by first | exact trivial | exact he.reads rfl,
      fun hn => by first | exact trivial | exact (hq rfl hn).quiet,
      by first | exact trivial | exact ldB_of_mem (he.mem rfl)⟩

end Sys2Proof.Machine
end

section
/-! The connection of a receive channel (R128), and what is due at the same instant (R174). -/

namespace Sys2Proof.Machine

theorem exec_crosspointConnect {s : State} {lane : Nat} (hl : lane < 16) (hf : (s.lane lane).fired = true) (hc : (s.lane lane).conn < (s.lane lane).close) :
    exec (.crosspointConnect lane) s = .next (s.advanceTo (s.lane lane).conn).settle := by
  have hw : Instr.wf (.crosspointConnect lane) = true := decide_eq_true hl
  rw [show exec (.crosspointConnect lane) s = execCrosspointConnect lane s from rfl, execCrosspointConnect, hw]
  simp [guardUnit, hf, hc]

/-- An image in slot A with a SHOT section alone: shot 0 is in use and received on channel 2 (R74, R83, R133). -/
def shotImage : State :=
  (((State.reset.set F.FLT.BOOT_STATUS.SLOT 1).stBytes 0x08400010 (leBytes 2 1)).stBytes 0x08400040 (leBytes 2 5 ++ leBytes 2 0 ++ leBytes 4 0x100 ++ leBytes 4 48 ++ leBytes 4 0)).stBytes 0x08400100
    (leBytes 16 1 ++ leBytes 32 0x20001)

/-- Lane 15 has fired shot 0 and connects now. -/
def firedLane : Lane := { fired := true, shot := 0, rep := 0, reps := 1, cycle := 0, tx := 0, buf := 0, gain := 0, conn := 0, opens := 0, close := 1, upTo := 1 }

/-- A warm-up ends at that instant too, of a modulator 0x37F9F where the part has 48: its bit SDC.STATUS.WARM would stand at bit 1 of ACQ.LANE_STAT15, in CH. -/
def strayWarm : State := { shotImage with acq := { shotImage.acq with lanes := [(15, firedLane)] }, front := { shotImage.front with warmTo := [(0x37F9F, 0)] } }

/-- A sequence and a notice for the clauses that are not used. -/
def idleSeq : ShotSeq := { head := 0, shot := 0, onB := false, rep := 0, reps := 1, avgs := [], cycle := 0, due := 0, wait := none }
def idleNotice : Notice := { shot := 0, lane := 0, flags := 0, nsamp := 0, gain := 0, rep := 0, peak := 0, satcnt := 0, cycle := 0, tx := 0, reps := 1, lost := false }

theorem exec_strayWarm : exec (.crosspointConnect 15) strayWarm = .next (strayWarm.advanceTo 0).settle :=
  exec_crosspointConnect (s := strayWarm) (lane := 15) (by decide) rfl Nat.zero_lt_one

/-- The crosspoint connects channel 2, and the end of the stray warm-up takes it out of CH. -/
theorem strayWarm_channel : (strayWarm.advanceTo 0).settle.get (F.ACQ.LANE_STAT.CH 15) = 0 ∧ strayWarm.shotF 0 2 1 % 64 = 2 ∧ strayWarm.on (F.ACQ.LANE_STAT.CONN 15) = false := by decide +kernel

/-- Refutes O49: CROSSPOINT_CONNECT is to leave the shot's receive channel in LANE_STAT.CH whatever else is due at its instant, in any state. In `strayWarm` the warm-up of a modulator that the part does not have ends at
that instant, and CH reads 0 where the shot has channel 2. The premise that `front.warmTo` names modulators of the part only (n < 48) is missing. -/
theorem not_acquisition : ¬ Obligations.Acquisition := by
  unfold Obligations.Acquisition
  intro h
  obtain ⟨-, -, hconnect, -⟩ := h strayWarm 0 15 0 idleSeq [] [] [] idleNotice [] 0 (by decide) (by decide) (by decide)
  obtain ⟨hleft, hshot, hoff⟩ := strayWarm_channel
  obtain ⟨t, ht, -, -, hch, -⟩ := hconnect rfl Nat.zero_lt_one
  obtain rfl : (strayWarm.advanceTo 0).settle = t := Host.Outcome.next.inj (exec_strayWarm.symm.trans ht)
  have hequal : 0 = 2 := hleft.symm.trans ((hch hoff).trans hshot)
  exact absurd hequal (by decide)

end Sys2Proof.Machine
end

section
/-! A chain's sample (R197, R201), and a region restart that falls due in its delay (R176, R383). -/

namespace Sys2Proof.Machine

theorem exec_chainSampleWrite {s : State} {c late : Nat} {bits : List Bool} {marks bad : List (Nat × Nat)} {x : Chain} (hc : c < 96) (hx : alFind s.fabric.chains c = some x)
    (he : s.chainEcho c = false) (hl : bits.length = x.skipNow + s.chainDecim c) : exec (.chainSampleWrite c bits marks bad late) s = .next (s.sampleRun c x bits marks bad late) := by
  have hw : Instr.wf (.chainSampleWrite c bits marks bad late) = true := decide_eq_true hc
  rw [show exec (.chainSampleWrite c bits marks bad late) s = execChainSampleWrite c bits marks bad late s from rfl, execChainSampleWrite, hw]
  simp [guardUnit, hx, he, hl]

/-- An image with two sections in a slot (R74): BLOCK 0, whose cell 0 takes modulator 0 through a comb-integrator of order 1 and decimation 2 (R79), and CHAIN with chain 0 on that cell, free-running and with this LATE_NS
(R80). -/
def State.withChainImage (s : State) (slot lateNs : Nat) : State :=
  let base := slotBase slot
  let directory := leBytes 2 3 ++ leBytes 2 0 ++ leBytes 4 0x100 ++ leBytes 4 32 ++ leBytes 4 0 ++ leBytes 2 7 ++ leBytes 2 0 ++ leBytes 4 0x140 ++ leBytes 4 48 ++ leBytes 4 0
  let block := leBytes 16 0 ++ [1, 0, 0, 1] ++ leBytes 2 2 ++ leBytes 10 0
  let chain := leBytes 16 1 ++ leBytes 2 0 ++ [0, 0, 1, 0xFF] ++ leBytes 2 0 ++ leBytes 4 2048000000 ++ leBytes 4 0 ++ leBytes 4 lateNs ++ [0xFF]
  (((s.stBytes (base + 0x10) (leBytes 2 2)).stBytes (base + 0x40) directory).stBytes (base + 0x100) block).stBytes (base + 0x140) chain

/-- Slot A runs an image with LATE_NS 1 and slot B holds one with LATE_NS 0; the last two samples of chain 0 were late, and region 7 restarts. -/
def chainImages : State :=
  let s := ((State.reset.withChainImage 1 1).withChainImage 2 0).set F.FLT.BOOT_STATUS.SLOT 1
  ((s.set F.CLK.STATUS.AUX_LOCK 1).set (F.CHAIN.STATUS.LATECNT 0) 2).set (F.FLT.REGION_STAT.STATE 7) 2

/-- Chain 0 as it awaits a window, whose two bits are the edges 16384 and 16385 of modulator 0. -/
def awaitingChain : Chain := chainImages.chainFresh 0 16384 0 []

/-- The 4 ms of the restart of region 7 have passed (R383), and the settings record that it loads (R176) names a register that is none of the front end's: FLT.BOOT_STATUS, with SLOT 2. -/
def straySettings : State :=
  { chainImages with
    fabric := { chainImages.fabric with chains := [(0, awaitingChain)] }
    front := { chainImages.front with fs := [(F.FLT.BOOT_STATUS.SLOT.addr, 2)] }
    flt := { chainImages.flt with restart := [(7, 0)] }
    time := { chainImages.time with t := 262144000000 } }

/-- The sample 1 ns after its nominal instant: within LATE_NS of the image that runs. -/
theorem straySettings_inTime : straySettings.chainEcho 0 = false ∧ straySettings.lineBad 0 = none ∧ 1 ≤ straySettings.chainF 0 0x10 4 ∧ [true, true].length = awaitingChain.skipNow + straySettings.chainDecim 0 := by
  decide +kernel

/-- The restart moves SLOT to B, whose LATE_NS the sample misses: the third late one in a row is a block fault (R201), which stops the chain (R381). -/
theorem straySettings_stops : (straySettings.sampleRun 0 awaitingChain [true, true] [] [] 1).slot = 2 ∧ alFind (straySettings.sampleRun 0 awaitingChain [true, true] [] [] 1).fabric.chains 0 = none := by
  decide +kernel

/-- Refutes O50: CHAIN_SAMPLE_WRITE is to leave its chain running wherever the sample comes within LATE_NS of the state before the command, whatever falls due in the sample's delay. In `straySettings` a region restart falls
due, which loads a settings record that names FLT.BOOT_STATUS: LATE_NS is then read from the other slot, and the third late sample in a row stops chain 0. The premise `NoneDue`, which the
clause of SWAP_TAKE_EFFECT has, is missing, or one that `front.fs` names registers of the front end only. -/
theorem not_chainsAndBanks : ¬ Obligations.ChainsAndBanks := by
  unfold Obligations.ChainsAndBanks
  intro h
  obtain ⟨hecho, hline, hlate, hlength⟩ := straySettings_inTime
  obtain ⟨-, hstops⟩ := straySettings_stops
  obtain ⟨hsample, -⟩ := h straySettings 0 0 0 0 0 0 1 false [true, true] [] awaitingChain (by decide) (by decide) (by decide)
  obtain ⟨t, ht, y, hy, -⟩ := hsample rfl hecho hline hlate hlength
  have hexec := exec_chainSampleWrite (late := 1) (marks := []) (bad := []) (by decide) rfl hecho hlength
  obtain rfl : straySettings.sampleRun 0 awaitingChain [true, true] [] [] 1 = t := Host.Outcome.next.inj (hexec.symm.trans ht)
  exact Option.some_ne_none y (hy.symm.trans hstops)

end Sys2Proof.Machine
end

section
/-! TACC and TRDC (R227, R228, R270): what a totalizer word reads as while a task runs, and what an accumulation leaves. -/

namespace Sys2Proof.Machine

/-- A tally instruction that stands at the pair's PC has its effect. -/
theorem exec_tally {s t : State} {p : Nat} {c : Instr} (h : exec c s = s.tally p c t) (hw : Instr.wf c = true) (hat : s.atPc p c = true) : exec c s = .next t :=
  (exec_guardUnit h hw).trans (by rw [if_pos hat])

/-! Going on to the next position touches no totalizer: control moves the PC, the cycles, the loops and the loop's index register only (R271, R274). -/

theorem landGo_frame (x : Pair) (pc : Nat) (fs : List LoopFrame) : ∃ pc' cyc i loops, landGo x pc fs = { x with pc := pc', cyc := cyc, i := i, loops := loops } := by
  induction fs with
  | nil => exact ⟨pc, x.cyc, x.i, [], rfl⟩
  | cons f fs ih =>
    unfold landGo
    split
    · split
      · exact ih
      · exact ⟨_, _, _, _, rfl⟩
    · exact ⟨pc, x.cyc, x.i, f :: fs, rfl⟩

@[simp] theorem land_tot (x : Pair) (pc n : Nat) : (x.land pc n).tot = x.tot := by
  obtain ⟨_, _, _, _, h⟩ := landGo_frame { x with cyc := x.cyc + n } pc x.loops
  rw [Pair.land, h]

@[simp] theorem land_pend (x : Pair) (pc n : Nat) : (x.land pc n).pend = x.pend := by
  obtain ⟨_, _, _, _, h⟩ := landGo_frame { x with cyc := x.cyc + n } pc x.loops
  rw [Pair.land, h]

@[simp] theorem goesOn_tot (s : State) (p : Nat) (x : Pair) (n : Nat) : ((s.goesOn p x n).pair p).tot = x.tot := by
  simp [State.goesOn]

@[simp] theorem goesOn_pend (s : State) (p : Nat) (x : Pair) (n : Nat) : ((s.goesOn p x n).pair p).pend = x.pend := by
  simp [State.goesOn]

/-! An accumulation. -/

@[simp] theorem accumulate_tot (s : State) (p tn : Nat) (a : Mq) : (s.accumulate p tn a).tot = (s.pair p).tot := rfl

@[simp] theorem accumulate_pend (s : State) (p tn : Nat) (a : Mq) : (s.accumulate p tn a).pend = alSet (s.pair p).pend tn (totAdd (s.totNow p tn) (totCounts a.v)).1 := rfl

theorem totNow_accumulate_same (s : State) (p tn n : Nat) (a : Mq) : (s.goesOn p (s.accumulate p tn a) n).totNow p tn = (totAdd (s.totNow p tn) (totCounts a.v)).1 := by
  simp [State.totNow]

theorem totNow_accumulate_ne (s : State) (p n : Nat) (a : Mq) {tn m : Nat} (h : m ≠ tn) : (s.goesOn p (s.accumulate p tn a) n).totNow p m = s.totNow p m := by
  simp [State.totNow, Pair.totW, alFind_alSet, h]

/-- The word that TACC takes (R217, R227): a word of a defined unit with its U and its unit, and its value negated within the range of R216 where the subtraction is asked for. -/
theorem taken_of_unitOk (neg : Bool) {w : Mq} (h : unitOk w.unit = true) :
    ∃ a, Mq.taken neg w = some a ∧ a.v = (if neg then clampI mqMin mqMax (-w.v) else w.v) ∧ a.u = w.u ∧ a.unit = w.unit := by
  refine ⟨_, if_pos h, ?_⟩
  cases neg <;> exact ⟨rfl, rfl, rfl⟩

/-! The instructions. -/

section
variable {s : State} {p k tn : Nat} (hr : s.Runs p k) (hp : p < 8) (htn : tn < 64) (hmay : s.totMay p tn (s.taskStream k) = true)
include hr hp htn hmay

/-- TACC of a word that can be taken, in the totalizer's unit: the pair goes on with the accumulation pending. -/
theorem exec_tacc {ma : Nat} {neg : Bool} {a : Mq} (hma : ma < 32) (hat : s.atPc p (.tacc p tn ma neg) = true) (ha : Mq.taken neg ((s.pair p).mq ma) = some a) (hu : a.unit = s.totUnit p tn) :
    exec (.tacc p tn ma neg) s = .next (s.goesOn p (s.accumulate p tn a) 4) := by
  have hw : Instr.wf (.tacc p tn ma neg) = true := by simp [Instr.wf, hp, htn, hma]
  exact (exec_tally rfl hw hat).trans (congrArg _ (instr_ok hr (by simp [hmay, ha, hu])))

/-- TRDC: Md takes the companion of the release's bank with what is pending (with UNS under I7.UNS, R255). -/
theorem exec_trdc {md : Nat} (hmd : md < 32) (hat : s.atPc p (.trdc p md tn) = true) : exec (.trdc p md tn) s = .next (s.goesOn p ((s.pair p).setM md (s.cmpNow p tn)) 4) := by
  have hw : Instr.wf (.trdc p md tn) = true := by simp [Instr.wf, hp, htn, hmd]
  exact (exec_tally rfl hw hat).trans (congrArg _ (instr_ok hr (by simp [hmay])))

end

/-- Settles O13: TACC replaces only Tn's pending word, by what Tn reads as plus the taken word's counts, and TRDC writes Md only; the totalizer file waits for the commit. -/
theorem totalizerAccess : Obligations.TotalizerAccess := by
  unfold Obligations.TotalizerAccess
  intro s p k tn ma md neg hr hp htn hma hmd hmay
  refine ⟨fun hat hunit hok => ?_, exec_trdc hr hp htn hmay hmd⟩
  obtain ⟨a, ha, hv, hu, haunit⟩ := taken_of_unitOk neg (hunit ▸ hok)
  refine ⟨a, ha, hv, hu, .of_next (exec_tacc hr hp htn hmay hma hat ha (haunit.trans hunit)) ⟨?_, ?_, ?_, rfl, rfl⟩⟩
  · exact totNow_accumulate_same s p tn 4 a
  · rw [goesOn_tot, accumulate_tot]
  · exact fun m hm => totNow_accumulate_ne s p 4 a hm

end Sys2Proof.Machine
end

section
/-! LD and ST (R237, R238, R267, R269): what a load that is not a replay answers and leaves, and what a store leaves. -/

namespace Sys2Proof.Machine

/-! Going on to the next position moves the PC, the cycles, the loops and the loop's index register only (R271, R274). -/

theorem land_frame (x : Pair) (pc n : Nat) : ∃ pc' cyc i loops, x.land pc n = { x with pc := pc', cyc := cyc, i := i, loops := loops } :=
  landGo_frame { x with cyc := x.cyc + n } pc x.loops

@[simp] theorem land_stores (x : Pair) (pc n : Nat) : (x.land pc n).stores = x.stores := by
  obtain ⟨_, _, _, _, h⟩ := land_frame x pc n
  rw [h]

@[simp] theorem land_nstores (x : Pair) (pc n : Nat) : (x.land pc n).nstores = x.nstores := by
  obtain ⟨_, _, _, _, h⟩ := land_frame x pc n
  rw [h]

theorem pair_goesOn_same (s : State) (p : Nat) (x : Pair) (n : Nat) : (s.goesOn p x n).pair p = x.land (x.pc + 1) n := pair_setPair_same ..

theorem pair_goesOn_ne (s : State) {p q : Nat} (x : Pair) (n : Nat) (h : q ≠ p) : (s.goesOn p x n).pair q = s.pair q := pair_setPair_ne s _ h

/-! Loads. -/

/-- What a load at an offset reads: the task's own buffered store, or else the word in memory (R237). -/
def State.seenAt (s : State) (p off : Nat) : W128 := (alFind (s.pair p).stores off).getD (s.ld128 (rgnBase p + off))

theorem fetchWord_ok {s : State} {p off : Nat} (h : s.badIn (rgnBase p + off) 16 = false) : s.fetchWord p off = .ok (s.seenAt p off) s := by
  unfold State.fetchWord State.seenAt
  cases alFind (s.pair p).stores off with
  | none => simp [h]
  | some w => rfl

/-- The state after a word has been appended to the journal (R238). -/
def State.journaled (s : State) (p : Nat) (w : W128) : State :=
  let x := s.pair p
  let j := rgnBase p + 16 * x.jpos
  ((s.st128 j w).heal j 16).setPair p { x with jpos := x.jpos + 1, journal := x.journal + 1, loads := x.loads + 1 }

/-- A load that is not a replay, at an aligned offset that the task may read, with a load left and no error. -/
theorem load_ok {s : State} {p off : Nat} (hoff : s.offOk p off false = true) (hloads : (s.pair p).loads < 256) (hjournal : (s.pair p).journal ≤ (s.pair p).jpos)
    (hbad : s.badIn (rgnBase p + off) 16 = false) : s.load p off = .ok (s.seenAt p off) (s.journaled p (s.seenAt p off)) := by
  simp [State.load, hoff, Nat.not_le.2 hloads, Nat.not_lt.2 hjournal, fetchWord_ok hbad, Tr.bind, State.journaled]

theorem ld128_congr {s t : State} (h : t.mem = s.mem) (a : Nat) : t.ld128 a = s.ld128 a := by
  rw [State.ld128, State.ld128, State.ldN, State.ldN, ldBytes_congr h]

theorem journaled_mem (s : State) (p : Nat) (w : W128) : (s.journaled p w).mem = (s.st128 (rgnBase p + 16 * (s.pair p).jpos) w).mem := rfl

theorem journaled_regs (s : State) (p : Nat) (w : W128) : (s.journaled p w).regs = s.regs := by
  rw [State.journaled, State.setPair_regs, State.heal_regs, (State.st128_eff ..).regs rfl]

theorem journaled_word (s : State) (p : Nat) (w : W128) : (s.journaled p w).ld128 (rgnBase p + 16 * (s.pair p).jpos) = w :=
  (ld128_congr (journaled_mem s p w) _).trans (ld128_st128 ..)

theorem journaled_ldB (s : State) (p : Nat) (w : W128) {a : Nat} (h : a < rgnBase p + 16 * (s.pair p).jpos ∨ rgnBase p + 16 * (s.pair p).jpos + 16 ≤ a) : (s.journaled p w).ldB a = s.ldB a :=
  (ldB_congr (journaled_mem s p w) a).trans (ldB_st128_out s _ w h)

theorem journaled_pair (s : State) (p : Nat) (w : W128) :
    (s.journaled p w).pair p = { s.pair p with jpos := (s.pair p).jpos + 1, journal := (s.pair p).journal + 1, loads := (s.pair p).loads + 1 } := pair_setPair_same ..

/-! Stores. -/

/-- The pair once a store is buffered (R237). -/
def Pair.buffered (x : Pair) (off : Nat) (w : W128) : Pair := { x with stores := alSet x.stores off w, nstores := x.nstores + 1 }

theorem store_ok {s : State} {p off : Nat} (w : W128) (hoff : s.offOk p off true = true) (hn : (s.pair p).nstores < 128) : s.store p off w = .ok ((s.pair p).buffered off w) s := by
  simp [State.store, hoff, hn, Pair.buffered]

/-- ST within the task's own memory and its 128 stores: the pair goes on with the store buffered. -/
theorem exec_st {s : State} {p k ma base idx : Nat} {nb : Bool} (hr : s.Runs p k) (hat : s.atPc p (.st p ma nb base idx) = true) (hp : p < 8) (hma : ma < 32) (hbase : base < 8) (hidx : idx < 65536)
    (hoff : s.offOk p ((s.pair p).offset nb base idx) true = true) (hn : (s.pair p).nstores < 128) :
    exec (.st p ma nb base idx) s = .next (s.goesOn p ((s.pair p).buffered ((s.pair p).offset nb base idx) ((s.pair p).mr ma)) 2) := by
  have hw : Instr.wf (.st p ma nb base idx) = true := by simp [Instr.wf, hp, hma, hbase, hidx]
  exact (exec_tally rfl hw hat).trans (congrArg _ (instr_ok hr (store_ok _ hoff hn)))

theorem goesOn_buffered_stores (s : State) (p off n : Nat) (x : Pair) (w : W128) : ((s.goesOn p (x.buffered off w) n).pair p).stores = alSet x.stores off w := by
  rw [pair_goesOn_same, land_stores, Pair.buffered]

theorem goesOn_buffered_nstores (s : State) (p off n : Nat) (x : Pair) (w : W128) : ((s.goesOn p (x.buffered off w) n).pair p).nstores = x.nstores + 1 := by
  rw [pair_goesOn_same, land_nstores, Pair.buffered]

/-- Settles O12: a load that is not a replay appends the word it returns to the journal and changes no other byte; a store replaces the buffered word of its own offset only. -/
theorem loadsAndStoresJournal : Obligations.LoadsAndStoresJournal := by
  unfold Obligations.LoadsAndStoresJournal
  refine ⟨fun s p off hoff hloads hjournal hbad => ?_, fun s p k ma base idx nb hr hat hp hma hbase hidx hoff hn => ?_⟩
  · refine ⟨_, load_ok hoff hloads hjournal hbad, journaled_word .., fun a ha => journaled_ldB _ _ _ ha, ?_, ?_, journaled_regs ..⟩ <;> rw [journaled_pair]
  · refine .of_next (exec_st hr hat hp hma hbase hidx hoff hn) ⟨?_, goesOn_buffered_nstores .., fun a ha => ?_, rfl, rfl, fun n hnp => pair_goesOn_ne s _ 2 hnp⟩
    · rw [goesOn_buffered_stores]
      exact alFind_alSet_same ..
    · rw [goesOn_buffered_stores, alFind_alSet]
      exact if_neg ha

end Sys2Proof.Machine
end

section
/-! IN_CHAIN, IN_PATH and IN_PULSE (R245): which record a routine takes, and what its results carry. -/

namespace Sys2Proof.Machine

/-! The record taken. -/

/-- The record of cycle n, of the two that a chain, a path or a pulse input keeps in turn (R245). -/
def recordOf (r0 r1 : List Byte) (n : Nat) : List Byte := if n % 2 = 0 then r0 else r1

section
variable {c : Nat} {ok : List Byte → Nat → Bool} {r0 r1 : List Byte}

theorem pick_complete (h : ok (recordOf r0 r1 (c + 1)) (c + 1) = true) : pick (c + 1) ok r0 r1 = some (recordOf r0 r1 (c + 1), false) := if_pos h

theorem pick_stale (h : ok (recordOf r0 r1 (c + 1)) (c + 1) = false) (h' : ok (recordOf r0 r1 c) c = true) : pick (c + 1) ok r0 r1 = some (recordOf r0 r1 c, true) :=
  (if_neg (Bool.not_eq_true _ ▸ h)).trans (if_pos ⟨Nat.succ_pos c, h'⟩)

theorem pick_none (h : ok (recordOf r0 r1 (c + 1)) (c + 1) = false) (h' : ok (recordOf r0 r1 c) c = false) : pick (c + 1) ok r0 r1 = none :=
  (if_neg (Bool.not_eq_true _ ▸ h)).trans (if_neg fun hc => Bool.false_ne_true (h'.symm.trans hc.2))

end

/-! The results. -/

theorem testBit_flOr (a b i : Nat) : (flOr a b).testBit i = (a.testBit i || b.testBit i) := Nat.testBit_or a b i

theorem rawMq_v (unit : Nat) (num : Int) (den fl q : Nat) : (rawMq unit num den fl q).v = clampI mqMin mqMax (divEven (num * 2 ^ 40) den) := rfl

/-- A result carries every flag it is formed with (R222). -/
theorem rawMq_flag {fl i : Nat} (h : fl.testBit i = true) (unit : Nat) (num : Int) (den q : Nat) : (rawMq unit num den fl q).fl.testBit i = true := by
  simp [rawMq, Mq.form, testBit_flOr, h]

/-- Stale data carries SUB (R245), whatever other flags its record has. -/
theorem stale_sub (fl more : Nat) : (flOr fl (flOr (staleFl true) more)).testBit 5 = true := by
  simp [testBit_flOr, show (staleFl true).testBit 5 = true from rfl]

/-- IN_CHAIN's results of the record taken, each with the flags of its own field. -/
theorem inChain_some {c : Nat} {r0 r1 r : List Byte} {stale : Bool} (fl : Nat) (h : pick (c + 1) chainOk r0 r1 = some (r, stale)) :
    inChain (c + 2) fl r0 r1 = [rawMq 0 (sext 64 (recF r 8 8)) (recF r 0x14 2) (flOr fl (flOr (staleFl stale) (chainFl (recF r 0x16 2)))) (staleQ stale),
      rawMq 0 (sext 32 (recF r 0x10 4)) 1 (flOr fl (flOr (staleFl stale) (chainFl (recF r 0x1B 1)))) (staleQ stale)] := by
  simp only [inChain, Nat.succ_ne_zero, if_false, show c + 2 - 1 = c + 1 from rfl, h]

theorem inChain_none {c : Nat} {r0 r1 : List Byte} (fl : Nat) (h : pick (c + 1) chainOk r0 r1 = none) : inChain (c + 2) fl r0 r1 = [subMq 0, subMq 0] := by
  simp only [inChain, Nat.succ_ne_zero, if_false, show c + 2 - 1 = c + 1 from rfl, h]

/-! The instructions. -/

section
variable {s t u : State} {p k : Nat} (hr : s.Runs p k) (hp : p < 8)
include hr hp

theorem exec_inChain {bs : List Byte} (hl : s.loadN p ((s.pair p).ir 4).toNat 4 = .ok bs t) (hat : s.atPc p (.inChain p) = true) :
    exec (.inChain p) s = .next (t.goesOn p ((t.pair p).results 24 (inChain (t.pair p).cycle (t.calFl p (t.destKeys p ((s.pair p).ir 4).toNat)) (bs.take 32) (bs.drop 32))) 40) := by
  have hw : Instr.wf (.inChain p) = true := by simp [Instr.wf, hp]
  exact (exec_tally rfl hw hat).trans (congrArg _ (instr_ok hr (by simp [hl, Tr.bind])))

theorem exec_inPath {r0 r1 : List Byte} (hst : s.taskStream k ≠ 0xFF) (hi : ((s.pair p).ir 4).toNat < s.npath (s.taskStream k))
    (h0 : s.loadPath p (s.taskStream k) 0 ((s.pair p).ir 4).toNat = .ok r0 t) (h1 : t.loadPath p (s.taskStream k) 1 ((s.pair p).ir 4).toNat = .ok r1 u) (hat : s.atPc p (.inPath p) = true) :
    let i := ((s.pair p).ir 4).toNat
    let r := inPath (u.pair p).cycle i (u.calFl p (u.pathKeys (s.taskStream k) i)) r0 r1
    exec (.inPath p) s = .next (u.goesOn p (((u.pair p).results 24 r.1).setI 4 (BitVec.ofNat 32 r.2)) 60) := by
  have hw : Instr.wf (.inPath p) = true := by simp [Instr.wf, hp]
  exact (exec_tally rfl hw hat).trans (congrArg _ (instr_ok hr (by simp [hst, Nat.not_le.2 hi, h0, h1, Tr.bind])))

theorem exec_inPulse {r : List Byte × List Byte} (hmay : s.pulseMay (s.taskStream k) ((s.pair p).ir 4).toNat = true) (hl : s.loadPulses p (s.taskStream k) ((s.pair p).ir 4).toNat = .ok r t)
    (hat : s.atPc p (.inPulse p) = true) :
    exec (.inPulse p) s = .next (t.goesOn p ((t.pair p).results 24 (inPulse (t.pair p).cycle ((s.pair p).ir 4).toNat r.1 r.2)) 50) := by
  have hw : Instr.wf (.inPulse p) = true := by simp [Instr.wf, hp]
  exact (exec_tally rfl hw hat).trans (congrArg _ (instr_ok hr (by simp [hmay, hl, Tr.bind])))

end

/-- Settles O18: each routine's results follow from the loads that complete; IN_CHAIN's record is the one that `pick` takes, with the flags and the QUAL of its age. -/
theorem inputsAndStaleness : Obligations.InputsAndStaleness := by
  unfold Obligations.InputsAndStaleness
  refine ⟨fun s p k hr hp => ⟨fun bs t hl => exec_inChain hr hp hl, fun r0 r1 t u hst hi h0 h1 => exec_inPath hr hp hst hi h0 h1, fun r t hmay hl => exec_inPulse hr hp hmay hl⟩,
    fun c fl r0 r1 => ⟨fun hnew => ?_, fun hnew hold => ?_, fun hnew hold => inChain_none fl (pick_none hnew hold)⟩⟩
  · exact ⟨_, _, inChain_some fl (pick_complete hnew), rfl, rfl, rfl, rawMq_v ..⟩
  · exact ⟨_, _, inChain_some fl (pick_stale hnew hold), rfl, rfl, rawMq_flag (stale_sub ..) .., rawMq_flag (stale_sub ..) .., rawMq_v ..⟩

end Sys2Proof.Machine
end

section
/-! SUPPORT. What the running image says is read from memory and from the slot that runs (R70 to R90): states with the same memory and the same slot read the same image. -/

namespace Sys2Proof.Machine

theorem ldN_congr {s t : State} (h : t.mem = s.mem) (a n : Nat) : t.ldN a n = s.ldN a n := by rw [State.ldN, State.ldN, ldBytes_congr h]

theorem findSect_congr {s t : State} (h : t.mem = s.mem) (base ty inst n d : Nat) : t.findSect base ty inst n d = s.findSect base ty inst n d := by
  induction n generalizing d with
  | zero => rfl
  | succ n ih => simp only [State.findSect, ldN_congr h, ih]

/-- The same image runs in both states. -/
structure SameImage (s t : State) : Prop where
  mem : t.mem = s.mem
  slot : t.slot = s.slot

section
variable {s t : State} (h : SameImage s t)
include h

theorem SameImage.img (ty inst off n : Nat) : t.img ty inst off n = s.img ty inst off n := by
  simp only [State.img, State.sect, State.sectAt, h.slot, findSect_congr h.mem, ldN_congr h.mem]

theorem SameImage.ntask : t.ntask = s.ntask := congrArg (min 256) (h.img ..)

theorem SameImage.taskF (k off n : Nat) : t.taskF k off n = s.taskF k off n := by rw [State.taskF, State.taskF, h.ntask, h.img]

theorem SameImage.taskStart (k : Nat) : t.taskStart k = s.taskStart k := by simp only [State.taskStart, State.taskRegion, h.img, h.taskF]

theorem SameImage.blockBase (k : Nat) : t.blockBase k = s.blockBase k := by simp only [State.blockBase, State.ckptBase, State.rawbuf, h.img, h.taskF]

end

/-- A register outside FLT.BOOT_STATUS does not say which slot runs. -/
theorem SameImage.set {s t : State} (h : SameImage s t) {f : Fld} (v : Nat) (hf : F.FLT.BOOT_STATUS.SLOT.addr ≠ f.addr) : SameImage s (t.set f v) :=
  ⟨h.mem, (get_set_addr t v hf).trans h.slot⟩

end Sys2Proof.Machine
end

section
/-! SUPPORT. What the marks and entries of a lost release keep (R343, R387, R390): a part of the state that neither they nor the streams' marks touch. -/

namespace Sys2Proof.Machine

/-- What `π` shows outlives the marks of a stream, the list of tasks once substituted, and every operation that writes neither the pairs nor Spindle's state. -/
structure KeptByLoss {α : Type} (π : State → α) : Prop where
  eff : ∀ {F : Nat} {s t : State}, Eff F s t → F.testBit 25 = false → F.testBit 28 = false → Keeps π s t
  mark : ∀ (s : State) (r stream cycle fl : Nat), Keeps π s (s.markStream r stream cycle fl)
  seen : ∀ (s : State) (ks : List Nat), Keeps π s { s with spn := { s.spn with substSeen := ks } }

section
variable {α : Type} {π : State → α} (h : KeptByLoss π) (s : State) (k cycle cause : Nat)
include h

theorem KeptByLoss.lost (x : List (Nat × Nat)) : Keeps π s { s with flt := { s.flt with lost := x } } := h.eff (F := 2147483648) (Eff.upd_flt (.refl _ s) rfl) rfl rfl

theorem KeptByLoss.note (st n : Nat) : Keeps π s (s.streamNote st cycle n 0 0) := h.eff (State.streamNote_eff ..) rfl rfl

theorem KeptByLoss.substitute (nsub : Nat) : Keeps π s (s.substitute k cycle cause nsub) := by
  have hn : ∀ u : State, Keeps π u (((u.ringPut 3 (s.taskStream k) 0x0101 cycle []).streamNote (s.taskStream k) cycle nsub 0 0).sat F.SPN.COUNT.SUBST 1) := fun u =>
    .after (h.eff (State.sat_eff ..) rfl rfl) (.after (h.note ..) (h.eff (State.ringPut_eff ..) rfl rfl))
  have h0 := Keeps.after (hn _) (h.mark s (s.taskRegion k) (s.taskStream k) cycle flSUB)
  unfold State.substitute
  exact .ite h0 (.after (h.eff (State.ladderEntry_eff ..) rfl rfl) (.after (h.seen ..) h0))

theorem KeptByLoss.guardLost : Keeps π s (s.guardLost k cycle cause) := by
  have hf : Keeps π s (if s.homeTask (s.taskStream k) = k then s.failover (s.taskStream k) else s) := .ite (h.eff (State.failover_eff ..) rfl rfl) (.refl s)
  unfold State.guardLost
  dsimp only
  exact .after (.ite (.refl _) (.ite (.after (h.substitute ..) (h.mark ..)) (.ite (.after (h.note ..) (h.mark ..)) (h.lost ..)))) hf

theorem KeptByLoss.guardTurned : Keeps π s (s.guardTurned k cycle cause) := by
  unfold State.guardTurned
  dsimp only
  exact .after (h.lost ..) (.after (h.substitute ..) (.ite (h.mark ..) (.refl s)))

theorem KeptByLoss.releaseLost : Keeps π s (s.releaseLost k cycle cause) := by
  unfold State.releaseLost
  exact .ite (.refl s) (.ite (h.substitute ..) (.ite (h.guardLost ..) (h.guardTurned ..)))

end

end Sys2Proof.Machine
end

section
/-! SUPPORT. Which task a tally pair runs and which commit log it holds, while releases are lost and regions isolated: no task starts, and a log waits for its commit (R242, R244, R382 to R385). -/

namespace Sys2Proof.Machine

/-- The task that pair p runs and the commit log that it holds. -/
def State.duty (p : Nat) (s : State) : Option Nat × Option CommitLog := ((s.pair p).task, (s.pair p).log)

theorem Keeps.task {p : Nat} {s t : State} (h : Keeps (State.duty p) s t) : (t.pair p).task = (s.pair p).task := congrArg Prod.fst h

theorem Keeps.log {p : Nat} {s t : State} (h : Keeps (State.duty p) s t) : (t.pair p).log = (s.pair p).log := congrArg Prod.snd h

theorem duty_of_pairs {p : Nat} {s t : State} (h : t.pairs = s.pairs) : Keeps (State.duty p) s t := by
  rw [Keeps, State.duty, State.duty, State.pair, State.pair, h]

theorem duty_of_eff {p F : Nat} {s t : State} (h : Eff F s t) (hF : F.testBit 25 = false) : Keeps (State.duty p) s t := duty_of_pairs (h.pairs hF)

theorem duty_setPair {p r : Nat} {s : State} {x : Pair} (htask : x.task = (s.pair r).task) (hlog : x.log = (s.pair r).log) : Keeps (State.duty p) s (s.setPair r x) := by
  unfold Keeps State.duty
  by_cases h : p = r
  · rw [h, pair_setPair_same, htask, hlog]
  · rw [pair_setPair_ne s x h]

theorem setCmp_task (x : Pair) (b n : Nat) (w : W128) : (x.setCmp b n w).task = x.task := by
  unfold Pair.setCmp
  split <;> rfl

theorem setCmp_log (x : Pair) (b n : Nat) (w : W128) : (x.setCmp b n w).log = x.log := by
  unfold Pair.setCmp
  split <;> rfl

variable {p : Nat}

/-! Marks and releases that are lost. -/

theorem markCmps_duty (s : State) (r b fl : Nat) (ns : List Nat) : Keeps (State.duty p) s (s.markCmps r b fl ns) := by
  induction ns generalizing s with
  | nil => exact .refl s
  | cons n ns ih =>
    unfold State.markCmps
    exact .after (ih _) (.after (duty_of_eff (State.totImage_eff ..) rfl) (duty_setPair (setCmp_task ..) (setCmp_log ..)))

theorem markStream_duty (s : State) (r stream cycle fl : Nat) : Keeps (State.duty p) s (s.markStream r stream cycle fl) := by
  unfold State.markStream
  exact .ite (.refl s) (.after (duty_setPair rfl rfl) (markCmps_duty ..))

theorem duty_keptByLoss : KeptByLoss (State.duty p) where
  eff h hF _ := duty_of_eff h hF
  mark := markStream_duty
  seen _ _ := duty_of_pairs rfl

theorem regionJobsLost_duty (s : State) (cause : Nat) (ks : List Nat) : Keeps (State.duty p) s (s.regionJobsLost cause ks) := by
  induction ks generalizing s with
  | nil => exact .refl s
  | cons k ks ih =>
    have he : Keeps (State.duty p) s (s.earlyDrop k) := duty_of_eff (State.earlyDrop_eff ..) rfl
    unfold State.regionJobsLost
    refine .after (ih _) ?_
    split
    · exact .after (duty_keptByLoss.releaseLost ..) (.after (duty_of_eff (State.jobEnd_eff ..) rfl) he)
    · exact he

/-! The end of a task, and isolation. -/

theorem paramsApply_duty (s : State) (r : Nat) : Keeps (State.duty p) s (s.paramsApply r) := by
  unfold State.paramsApply
  exact .ite (.refl s) (.after (duty_of_eff (State.paramPage_eff ..) rfl) (duty_setPair rfl rfl))

theorem pairStop_duty_same (s : State) : (s.pairStop p).duty p = (none, (s.pair p).log) := by
  unfold State.pairStop
  refine Eq.trans (Keeps.after (paramsApply_duty ..) (duty_of_eff (State.set_eff ..) rfl)) ?_
  rw [State.duty, pair_setPair_same]

theorem pairStop_duty_ne (s : State) {r : Nat} (h : p ≠ r) : Keeps (State.duty p) s (s.pairStop r) := by
  unfold State.pairStop
  refine .after (paramsApply_duty ..) (.after (duty_of_eff (State.set_eff ..) rfl) ?_)
  rw [Keeps, State.duty, State.duty, pair_setPair_ne s _ h]

/-- Pair p starts no task, and its commit log stays. -/
def Rests (p : Nat) (s t : State) : Prop := ((s.pair p).task = none → (t.pair p).task = none) ∧ (t.pair p).log = (s.pair p).log

theorem Rests.refl (s : State) : Rests p s s := ⟨id, rfl⟩

/-- What follows a pair at rest. -/
theorem Rests.after {s t u : State} (h2 : Rests p t u) (h1 : Rests p s t) : Rests p s u := ⟨h2.1 ∘ h1.1, h2.2.trans h1.2⟩

theorem Rests.ite {s t u : State} {c : Prop} [Decidable c] (h1 : Rests p s t) (h2 : Rests p s u) : Rests p s (if c then t else u) := by
  split <;> assumption

theorem Keeps.rests {s t : State} (h : Keeps (State.duty p) s t) : Rests p s t := ⟨fun hs => h.task.trans hs, h.log⟩

theorem rests_of_eff {F : Nat} {s t : State} (h : Eff F s t) (hF : F.testBit 25 = false) : Rests p s t := (duty_of_eff h hF).rests

theorem pairStop_rests (s : State) (r : Nat) : Rests p s (s.pairStop r) := by
  by_cases h : p = r
  · exact h ▸ ⟨fun _ => congrArg Prod.fst (pairStop_duty_same s), congrArg Prod.snd (pairStop_duty_same s)⟩
  · exact (pairStop_duty_ne s h).rests

theorem isolate_rests (s : State) (r cause task : Nat) : Rests p s (s.isolate r cause task) := by
  have hi : ∀ (u : State) n, Rests p u ((u.isolateEntry r cause task n).pairStop r) := fun u n => .after (pairStop_rests ..) (rests_of_eff (State.isolateEntry_eff ..) rfl)
  have hc : ∀ (u : State) l, Rests p u ((u.isoShow r).chainsStop l) := fun u l => .after (rests_of_eff (State.chainsStop_eff ..) rfl) (rests_of_eff (State.isoShow_eff ..) rfl)
  have hj : ∀ (u : State) l, Rests p u ((u.logJobEnd r).regionJobsLost 7 l) := fun u l => .after (regionJobsLost_duty ..).rests (rests_of_eff (State.logJobEnd_eff ..) rfl)
  have hg : ∀ (u : State) l, Rests p u (u.guardCheck l) := fun u l => rests_of_eff (State.guardCheck_eff u l) rfl
  have hs : Rests p s (s.set (F.FLT.REGION_STAT.STATE r) 1) := rests_of_eff (State.set_eff ..) rfl
  unfold State.isolate
  dsimp only
  refine .ite (.refl s) (.ite (rests_of_eff (State.restartFault_eff ..) rfl) (.ite (.after (rests_of_eff (State.regionHeld_eff ..) rfl) ?_) (.after (rests_of_eff (State.restartBegin_eff ..) rfl) ?_)))
  all_goals
    exact .after (hg ..) (.after (hj ..) (.after (rests_of_eff (State.failovers_eff ..) rfl) (.after (hc ..) (.after (hi ..) (.after (duty_of_pairs rfl).rests hs)))))

theorem afterReplay_rests (s : State) (r k : Nat) : Rests p s (s.afterReplay r k) :=
  .ite (.after (isolate_rests ..) (duty_of_pairs rfl).rests) (.refl s)

/-- A task that has ended leaves its pair free, and whatever log the pair holds (R242, R244). -/
theorem pairEnd_duty (s : State) (k : Nat) : ((((s.pairStop p).taskDone k).afterReplay p k).pair p).task = none ∧ ((((s.pairStop p).taskDone k).afterReplay p k).pair p).log = (s.pair p).log := by
  have hrest : Rests p (s.pairStop p) (((s.pairStop p).taskDone k).afterReplay p k) := .after (afterReplay_rests ..) (rests_of_eff (State.taskDone_eff ..) rfl)
  exact ⟨hrest.1 (congrArg Prod.fst (pairStop_duty_same s)), hrest.2.trans (congrArg Prod.snd (pairStop_duty_same s))⟩

end Sys2Proof.Machine
end

section
/-! SUPPORT. A region that has been isolated is not in service, whether it restarts or stays isolated (R382 to R385). -/

namespace Sys2Proof.Machine

/-- STATE of region p in FLT.REGION_STAT. -/
def State.regionState (p : Nat) (s : State) : Nat := s.get (F.FLT.REGION_STAT.STATE p)

theorem regionState_set {p : Nat} (s : State) {f : Fld} (v : Nat) (h : (F.FLT.REGION_STAT.STATE p).addr ≠ f.addr) : Keeps (State.regionState p) s (s.set f v) := get_set_addr s v h

section
variable {p : Nat} (hp : p < 8)
include hp

theorem regionState_noteRegs : noteRegs (F.FLT.REGION_STAT.STATE p).addr = false := by
  simp [noteRegs, icRegs]
  omega

theorem fault_regionState (s : State) (code region stream : Nat) (detail : List Byte) : Keeps (State.regionState p) s (s.fault code region stream detail) :=
  KeepsRegs.get (fault_regs s code region stream detail) (regionState_noteRegs hp)

theorem isoShow_regionState (s : State) (r : Nat) : Keeps (State.regionState p) s (s.isoShow r) := by
  have hset : ∀ (u : State) b, Keeps (State.regionState p) u (u.setB (F.TALLY.STATUS.ISO r) b) := fun u b => regionState_set u _ (by simp; omega)
  have hiso : ∀ w, Keeps (State.regionState p) s (s.setW F.FLT.STATUS.ISO.addr w) := fun w => by
    simp only [Keeps, State.regionState, State.get]
    rw [rw_setW_ne s w (by simp; omega)]
  unfold State.isoShow
  exact .after (KeepsRegs.get (icSample_regs _ 0 1) (noteRegs_ic (regionState_noteRegs hp))) (.after (hset ..) (hiso _))

theorem guardCheck_regionState (s : State) (sts : List Nat) : Keeps (State.regionState p) s (s.guardCheck sts) := by
  induction sts generalizing s with
  | nil => exact .refl s
  | cons st sts ih =>
    have hset : ∀ v, Keeps (State.regionState p) s (s.set (F.FLT.GUARD.STATE st) v) := fun v => regionState_set s v (by simp; omega)
    unfold State.guardCheck
    exact .after (ih _) (.ite (hset _) (.ite (.ite (hset _) (hset _)) (.refl s)))

theorem regionHeld_regionState (s : State) (result durUs : Nat) : (s.regionHeld p result durUs).regionState p = 3 := by
  have h0 : ∀ (u : State) x, Keeps (State.regionState p) u { u with flt := { u.flt with restart := x } } := fun _ _ => rfl
  unfold State.regionHeld
  refine (Keeps.after (guardCheck_regionState hp ..) (.after (isoShow_regionState hp ..) (.after (fault_regionState hp ..) (h0 ..)))).trans ?_
  exact get_set s _ 3 (by simp)

theorem restartBegin_regionState (s : State) (attempt : Nat) : (s.restartBegin p attempt).regionState p = 2 := by
  have h0 : ∀ (u : State) x y, Keeps (State.regionState p) u { u with flt := { u.flt with attempt := x, restart := y } } := fun _ _ _ => rfl
  have hn : ∀ u : State, Keeps (State.regionState p) u (u.sat (F.FLT.REGION_STAT.RESTARTS p) 1) := fun u => get_set_disj u _ (by simp) (.inl (by simp))
  unfold State.restartBegin
  refine (Keeps.after (isoShow_regionState hp ..) (.after (h0 ..) (hn _))).trans ?_
  exact get_set s _ 2 (by simp)

theorem restartFault_regionState (s : State) : (s.restartFault p).regionState p ≠ 0 := by
  unfold State.restartFault
  dsimp only
  split
  · simp [restartBegin_regionState hp]
  · simp [regionHeld_regionState hp]

/-- Isolation leaves the region out of service: as it was, restarting, or held. -/
theorem isolate_regionState (s : State) (cause task : Nat) : (s.isolate p cause task).regionState p ≠ 0 := by
  unfold State.isolate
  dsimp only
  split
  · next h => rcases h with h | h <;> simp [State.regionState, h]
  · split
    · exact restartFault_regionState hp s
    · split
      · simp [regionHeld_regionState hp]
      · simp [restartBegin_regionState hp]

end

end Sys2Proof.Machine
end

section
/-! TASK_DISPATCH (R232, R242, R332). -/

namespace Sys2Proof.Machine

/-- Task k's job runs, and TALLY.STATUS of its region shows it. -/
def State.jobStarted (s : State) (k : Nat) (j : Job) : State :=
  ((s.jobSet k { j with st := 2 }).set (F.TALLY.STATUS.TASK (s.taskRegion k)) k).set (F.TALLY.STATUS.RUN (s.taskRegion k)) 1

/-- The pair as a dispatch takes it (R242, R243): the task and its cycle, now, with the 100 cycles of the dispatch spent. -/
def State.pairTaken (s : State) (p k cycle : Nat) : State := s.setPair p { s.pair p with task := some k, cycle := cycle, td := s.time.t, cyc := 100, journal := 0, rolled := false }

/-- Task k's job started on its region's pair. -/
def State.dispatched (s : State) (k : Nat) (j : Job) : State :=
  ((s.jobStarted k j).pairTaken (s.taskRegion k) k j.cycle).runStart (s.taskRegion k) k (BitVec.ofNat 32 j.cycle) ((s.jobStarted k j).releaseFlags k j.cycle)

section
variable (s : State) (k : Nat) (j : Job)

theorem jobStarted_eff : Eff 268435460 s (s.jobStarted k j) := .step (State.set_eff ..) rfl (.step (State.set_eff ..) rfl (State.jobSet_eff ..))

theorem jobSet_image : SameImage s (s.jobSet k j) := by
  have h : SameImage s { s with spn := { s.spn with jobs := alSet s.spn.jobs k j } } := ⟨rfl, rfl⟩
  exact h.set _ (by simp; omega)

theorem jobStarted_image : SameImage s (s.jobStarted k j) := ((jobSet_image s k _).set _ (by simp; omega)).set _ (by simp; omega)

theorem jobStarted_job : alFind (s.jobStarted k j).spn.jobs k = some { j with st := 2 } := alFind_alSet_same ..

theorem jobStarted_run : (s.jobStarted k j).get (F.TALLY.STATUS.RUN (s.taskRegion k)) = 1 := get_set _ _ 1 (by simp)

theorem jobStarted_task (hk : k < 256) : (s.jobStarted k j).get (F.TALLY.STATUS.TASK (s.taskRegion k)) = k := by
  rw [State.jobStarted, get_set_disj _ _ (by simp) (.inr (by simp)), get_set _ _ k (by simp)]
  exact Nat.mod_eq_of_lt hk

theorem pairTaken_image (p cycle : Nat) : SameImage s (s.pairTaken p k cycle) := ⟨rfl, rfl⟩

theorem runStart_image (p : Nat) (i6 i7 : Word) : SameImage s (s.runStart p k i6 i7) := ⟨rfl, rfl⟩

theorem dispatched_frame : (s.dispatched k j).regs = (s.jobStarted k j).regs ∧ (s.dispatched k j).spn = (s.jobStarted k j).spn ∧ (s.dispatched k j).flt = (s.jobStarted k j).flt := ⟨rfl, rfl, rfl⟩

theorem dispatched_image : SameImage s (s.dispatched k j) := by
  have h1 := jobStarted_image s k j
  have h2 := pairTaken_image (s.jobStarted k j) k (s.taskRegion k) j.cycle
  have h3 := runStart_image ((s.jobStarted k j).pairTaken (s.taskRegion k) k j.cycle) k (s.taskRegion k) (BitVec.ofNat 32 j.cycle) ((s.jobStarted k j).releaseFlags k j.cycle)
  exact ⟨h3.mem.trans (h2.mem.trans h1.mem), h3.slot.trans (h2.slot.trans h1.slot)⟩

/-- A dispatch whose state block has no error is the start of the run. -/
theorem dispatch_ok (h : s.badIn (s.blockBase k) 576 = false) : s.dispatch k j = s.dispatched k j := by
  have hb : (s.dispatched k j).badIn ((s.dispatched k j).blockBase k) 576 = false := by
    obtain ⟨-, -, hflt⟩ := dispatched_frame s k j
    rw [(dispatched_image s k j).blockBase, State.badIn, hflt, (jobStarted_eff s k j).flt rfl]
    exact h
  exact if_neg (Bool.not_eq_true _ ▸ hb)

end

theorem ir_blockI (s : State) (a : Nat) (i6 i7 : Word) : alGet 0 (s.blockI a i6 i7) 6 = i6 := rfl

/-- What a run begins with (R234, R242 step 1): its START, empty buffers, and the cycle's number in I6. -/
theorem runStart_pair (s : State) (p k : Nat) (i6 i7 : Word) : let x := (s.runStart p k i6 i7).pair p
    x.pc = s.taskStart k ∧ x.stores = [] ∧ x.emits = [] ∧ x.ir 6 = i6 ∧ x.task = (s.pair p).task ∧ x.cycle = (s.pair p).cycle ∧ x.cyc = (s.pair p).cyc ∧ x.journal = (s.pair p).journal := by
  intro x
  have hx : x = _ := pair_setPair_same ..
  rw [hx]
  exact ⟨rfl, rfl, rfl, ir_blockI .., rfl, rfl, rfl, rfl⟩

/-- A job that may be dispatched starts, once what falls due before its release and before its region's THAW is complete has been settled. -/
theorem exec_taskDispatch {s : State} {k : Nat} {j : Job} (hk : k < 256) (hj : alFind s.spn.jobs k = some j) :
    let u := (s.advanceTo (max j.rel (s.readyAt (s.taskRegion k)))).settle
    alFind u.spn.jobs k = some j → u.mayDispatch k u.time.t j = true → exec (.taskDispatch k) s = .next (u.dispatch k j) := by
  intro u hu hmay
  have hw : Instr.wf (.taskDispatch k) = true := decide_eq_true hk
  have hrun : (u.mayDispatch k u.time.t j && alFind u.spn.jobs k == some j) = true := by simp [hu, hmay]
  refine (exec_guardUnit rfl hw).trans (congrArg _ ?_)
  simp only [hj]
  exact if_pos hrun

end Sys2Proof.Machine
end

section
/-! TEND, the end of a commit, and REGION_WATCHDOG_EXPIRY (R242, R276, R333, R380). -/

namespace Sys2Proof.Machine

/-- The averaged registers of the task's stream (R276). -/
def State.taskAvgs (s : State) (st : Nat) : List Nat := if st = 0xFF then [] else s.avgRegs st

/-- TEND at its pair's PC, where the engines agree, comes to its last comparison and the commit. -/
theorem exec_tend {s : State} {p k : Nat} (hr : s.Runs p k) (hp : p < 8) (hat : s.atPc p (.tend p true) = true) : exec (.tend p true) s = .next (s.tend p k) := by
  obtain ⟨htask, hbad⟩ := hr
  have hw : Instr.wf (.tend p true) = true := by simp [Instr.wf, hp]
  refine (exec_guardUnit rfl hw).trans (congrArg _ ?_)
  simp [htask, hat, hbad]

/-- Pair p holds a commit log, and its mark is set (R242 step 5). -/
def State.marked (s : State) (p : Nat) (l : CommitLog) (words : List Nat) : State := (s.setPair p { s.pair p with log := some l, words := words }).set (F.TALLY.STATUS.MARK p) 1

theorem marked_shows (s : State) (p : Nat) (l : CommitLog) (words : List Nat) :
    (s.marked p l words).on (F.TALLY.STATUS.MARK p) = true ∧ (s.marked p l words).mem = s.mem ∧ (s.marked p l words).ring = s.ring ∧ ((s.marked p l words).pair p).log = some l :=
  ⟨on_set_one _ _ (by simp) (by simp), rfl, rfl, congrArg Pair.log (pair_setPair_same s p _)⟩

/-- The commit point (R242 steps 3 to 5) of a task that still runs once its log is written. -/
theorem commit_marked {s : State} {p k : Nat} (avgs : List (Nat × Avg)) (ns : List Nat) :
    let x := s.pair p
    let u := (s.advanceTo (s.tallyTime p (50 + 2 * x.logLen ns.length))).settle
    (u.pair p).task = some k → ∃ l words, s.commit p k avgs ns = u.marked p l words ∧
      l.task = k ∧ l.cycle = x.cycle ∧ l.due = s.tallyTime p (60 + 4 * x.logLen ns.length) ∧ l.stores = x.stores ∧ l.emits = x.emits ∧ l.m = x.m ∧ l.i = x.i ∧
      l.tots.map (fun e => (e.1, e.2.1)) = x.pend :=
  fun htask => ⟨_, _, if_pos htask, rfl, rfl, rfl, rfl, rfl, rfl, rfl, by simp [List.map_map, Function.comp_def]⟩

/-- Trap UNIT of TEND leaves the pair free (R244, R247). -/
theorem tallyTrap_free (s : State) (p k code : Nat) : ((s.tallyTrap p k code).pair p).task = none := (pairEnd_duty _ k).1

/-- A commit that has ended holds no log (R242 step 7). -/
theorem logEnd_log (s : State) (p : Nat) (l : CommitLog) : ((s.logEnd p l).pair p).log = none := by
  have hm : ∀ u : State, Keeps (State.duty p) u ((u.set (F.TALLY.STATUS.MARK p) 0).propShow p l) := fun u => .after (duty_of_eff (State.propShow_eff ..) rfl) (duty_of_eff (State.set_eff ..) rfl)
  have hr : ∀ (u : State) x, Keeps (State.duty p) u { u with recs := x } := fun _ _ => duty_of_pairs rfl
  have hkeep : Keeps (State.duty p) (s.setPair p { s.pair p with log := none }) (s.logEnd p l) :=
    .after (duty_of_eff (State.publish_eff ..) rfl) (.after (duty_of_eff (State.ringLive_eff _) rfl) (.after (hr ..) (.after (duty_of_eff (State.wrap_eff ..) rfl) (hm _))))
  rw [hkeep.log, pair_setPair_same]

/-- The end of a commit leaves its pair free and the log gone (R242). -/
theorem commitEnd_free {s : State} {p : Nat} {l : CommitLog} (h : (s.pair p).log = some l) : ((s.commitEnd p l).pair p).task = none ∧ ((s.commitEnd p l).pair p).log = none := by
  obtain ⟨htask, hlog⟩ := pairEnd_duty (p := p) (s.logApply p) l.task
  refine ⟨htask, hlog.trans ?_⟩
  simp only [State.logApply, h]
  exact logEnd_log ..

theorem commitsDue_due {s : State} {p : Nat} {l : CommitLog} (h : (s.pair p).log = some l) (hdue : l.due ≤ s.time.t) (htask : (s.pair p).task = some l.task) : s.commitsDue [p] = s.commitEnd p l := by
  simp [State.commitsDue, h, hdue, htask]

/-- The region watchdog of a task that still runs at its bound isolates the region (R333, R380). -/
theorem overrun_isolates {s : State} {n k : Nat} :
    let x := s.pair n
    let v := (s.advanceTo (x.td + (if x.rolled then 2 * s.taskWcet k + 300 else s.taskWcet k) * 65536)).settle
    (v.pair n).task = some k → ∃ u : State, s.overrun n k = u.isolate n 4 k := fun h => ⟨_, if_pos h⟩

theorem exec_regionWatchdogExpiry {s : State} {p k : Nat} (hp : p < 8) (h : (s.pair p).task = some k) : exec (.regionWatchdogExpiry p) s = .next (s.overrun p k) := by
  have hw : Instr.wf (.regionWatchdogExpiry p) = true := decide_eq_true hp
  refine (exec_guardUnit rfl hw).trans (congrArg _ ?_)
  simp [h]

/-- Settles O16: the dispatch is read off the state it makes; a pair that ended a task or a commit stays free whatever its region's isolation does after it; and isolation leaves the region out of service. -/
theorem tasksRun : Obligations.TasksRun := by
  unfold Obligations.TasksRun
  refine ⟨fun s k j hk hj => ?_, fun s p k hr hp => ⟨fun a hat ha htask => ?_, fun hat ha => ?_, fun l hl hlk hdue => ?_, fun htask => ?_⟩⟩
  · intro u p hu hmay hbad
    refine .of_next ((exec_taskDispatch hk hj hu hmay).trans (congrArg _ (dispatch_ok u k j hbad))) ?_
    obtain ⟨hregs, hspn, -⟩ := dispatched_frame u k j
    obtain ⟨hpc, hstores, hemits, hir, htask, hcycle, hcyc, hjournal⟩ :=
      runStart_pair ((u.jobStarted k j).pairTaken p k j.cycle) p k (BitVec.ofNat 32 j.cycle) ((u.jobStarted k j).releaseFlags k j.cycle)
    have hget : ∀ f, (u.dispatched k j).get f = (u.jobStarted k j).get f := fun f => by rw [State.get, State.get, State.rw, State.rw, hregs]
    have htaken : ((u.jobStarted k j).pairTaken p k j.cycle).pair p = _ := pair_setPair_same ..
    rw [htaken] at htask hcycle hcyc hjournal
    refine ⟨htask, hpc.trans ?_, hcycle, hcyc, hjournal, hstores, hemits, hir, (hget _).trans (jobStarted_run ..), (hget _).trans (jobStarted_task u k j hk), ?_⟩
    · rw [(pairTaken_image (u.jobStarted k j) k p j.cycle).taskStart, (jobStarted_image u k j).taskStart]
    · rw [hspn, jobStarted_job]
  · have hexec := exec_tend hr hp hat
    obtain ⟨l, words, hcommit, hlog⟩ := commit_marked (k := k) a (s.taskAvgs (s.taskStream k)) htask
    have htend : s.tend p k = s.commit p k a (s.taskAvgs (s.taskStream k)) := by simp only [State.tend, State.taskAvgs, ha]
    have hparams := (execTend_eff p true s _ hexec).params rfl
    obtain ⟨hmark, hmem, hring, hheld⟩ := marked_shows _ p l words
    rw [← hcommit, ← htend] at hmark hmem hring hheld
    exact .of_next hexec ⟨hmark, hmem, hring, hparams, l, hheld, hlog⟩
  · have hexec := exec_tend hr hp hat
    have hframe := execTend_eff p true s _ hexec
    have htend : s.tend p k = s.tallyTrap p k 1 := by simp only [State.tend, ha]
    exact .of_next hexec ⟨htend ▸ tallyTrap_free s p k 1, hframe.params rfl, hframe.pins rfl⟩
  · exact ⟨commitsDue_due hl hdue (hlk ▸ hr.1), commitEnd_free hl⟩
  · have hexec := exec_regionWatchdogExpiry hp hr.1
    have hframe := execRegionWatchdogExpiry_eff p s _ hexec
    obtain ⟨u, hu⟩ := overrun_isolates htask
    exact .of_next hexec ⟨hu ▸ isolate_regionState hp u 4 k, hframe.params rfl, hframe.pins rfl⟩

end Sys2Proof.Machine
end

section
/-! RECORD_SNAPSHOT and INTERVAL_RECORD (R249, R407, R520). -/

namespace Sys2Proof.Machine

/-! Snapshots. -/

/-- New snapshots of region p and interval i, if any, have joined those that wait (R249). -/
def SnapsJoin (p i : Nat) (s t : State) : Prop := ∃ new, t.recs.snaps = s.recs.snaps ++ new ∧ ∀ y, y ∈ new → y.region = p ∧ y.num = i

section
variable {p i : Nat}

theorem SnapsJoin.of_snaps {s t : State} (h : t.recs.snaps = s.recs.snaps) : SnapsJoin p i s t := ⟨[], by simp [h], by simp⟩

theorem SnapsJoin.refl (s : State) : SnapsJoin p i s s := .of_snaps rfl

theorem SnapsJoin.of_eff {F : Nat} {s t : State} (h : Eff F s t) (hF : F.testBit 26 = false) : SnapsJoin p i s t := .of_snaps (congrArg Recs.snaps (h.recs hF))

theorem SnapsJoin.after {s t u : State} (h2 : SnapsJoin p i t u) (h1 : SnapsJoin p i s t) : SnapsJoin p i s u := by
  obtain ⟨new, hnew, hmem⟩ := h1
  obtain ⟨more, hmore, hmem'⟩ := h2
  refine ⟨new ++ more, by rw [hmore, hnew, List.append_assoc], fun y hy => ?_⟩
  exact (List.mem_append.1 hy).elim (hmem y) (hmem' y)

theorem SnapsJoin.ite {s t u : State} {c : Prop} [Decidable c] (h1 : SnapsJoin p i s t) (h2 : SnapsJoin p i s u) : SnapsJoin p i s (if c then t else u) := by
  split <;> assumption

theorem snapsJoin_append (s : State) (x : Snapshot) (hp : x.region = p) (hi : x.num = i) : SnapsJoin p i s { s with recs := { s.recs with snaps := s.recs.snaps ++ [x] } } :=
  ⟨[x], rfl, by simp [hp, hi]⟩

theorem snapStream_join (s : State) (st : Nat) : SnapsJoin p i s (s.snapStream p i st) := by
  unfold State.snapStream
  exact .after (snapsJoin_append _ _ rfl rfl) (.of_eff (State.diverges_eff ..) rfl)

theorem snapStreams_join (s : State) (sts : List Nat) : SnapsJoin p i s (s.snapStreams p i sts) := by
  induction sts generalizing s with
  | nil => exact .refl s
  | cons st sts ih => exact .after (ih _) (.ite (snapStream_join ..) (.refl s))

theorem keepMirrors_join (s : State) (sts : List Nat) : SnapsJoin p i s (s.keepMirrors p i sts) := by
  have hm : ∀ (u : State) x, SnapsJoin p i u { u with recs := { u.recs with mirror := x } } := fun _ _ => .of_snaps rfl
  induction sts generalizing s with
  | nil => exact .refl s
  | cons st sts ih => exact .after (ih _) (.ite (hm ..) (.refl s))

/-- The interval's snapshots are taken, and the bank that they leave is reset (R249). -/
def State.intervalTaken (s : State) (p i : Nat) : State := ((s.keepMirrors p i s.streams).snapStreams p i (s.keepMirrors p i s.streams).streams).resetBank p (i % 2)

/-- RECORD_SNAPSHOT of the interval that is due and has ended. -/
def State.snapshotted (s : State) (p i : Nat) : State :=
  ({ s.intervalTaken p i with recs := { (s.intervalTaken p i).recs with snapNext := alSet (s.intervalTaken p i).recs.snapNext p (i + 1) } }).figuresDrop

theorem intervalTaken_join (s : State) : SnapsJoin p i s (s.intervalTaken p i) :=
  .after (.of_eff (State.resetBank_eff ..) rfl) (.after (snapStreams_join ..) (keepMirrors_join ..))

theorem snapshotted_join (s : State) : SnapsJoin p i s (s.snapshotted p i) := .after (.of_snaps rfl) (intervalTaken_join s)

theorem snapshotted_next (s : State) : alFind (s.snapshotted p i).recs.snapNext p = some (i + 1) := alFind_alSet_same ..

theorem exec_recordSnapshot {s : State} (hp : p < 8) (hdue : s.dueInterval p = some i) (hregion : s.regions.contains p = true) (hended : s.intervalEnded p i = true) :
    exec (.recordSnapshot p) s = .next (s.snapshotted p i) := by
  have hw : Instr.wf (.recordSnapshot p) = true := decide_eq_true hp
  refine (exec_guardUnit rfl hw).trans (congrArg _ ?_)
  simp only [hdue, hregion, hended, Bool.and_self, if_true]
  rfl

end

/-! Records. -/

/-- What a record and its commit count: the next index, the commit generation, the snapshots that wait, and Heartwood time, which stands still. -/
def State.ledger (s : State) : Nat × Nat × List Snapshot × TimeBase := (s.recs.nextIndex, s.recs.gen, s.recs.snaps, s.time)

theorem ledger_of_eff {F : Nat} {s t : State} (h : Eff F s t) (hr : F.testBit 26 = false) (ht : F.testBit 27 = false) : Keeps State.ledger s t := by
  rw [Keeps, State.ledger, State.ledger, h.recs hr, h.time ht]

theorem recPlace_ledger (s : State) (h : RecHead) (ws : List W128) (bad : Bool) : (s.recPlace h ws bad).ledger = (s.recs.nextIndex + 1, s.recs.gen, s.recs.snaps, s.time) := by
  have hsigned : ∀ b a bs, Keeps State.ledger s ((s.recSign b).2.stBytes a bs) := fun b a bs => .after (ledger_of_eff (State.stBytes_eff ..) rfl rfl) (ledger_of_eff (State.recSign_eff ..) rfl rfl)
  have hring : ∀ (u : State) ring, Keeps State.ledger s u → ({ u with recs := { u.recs with ring := ring, nextIndex := s.recs.nextIndex + 1 } } : State).ledger = (s.recs.nextIndex + 1, s.recs.gen, s.recs.snaps, s.time) :=
    fun u ring hu => congrArg (Prod.mk _) (congrArg Prod.snd hu)
  have hfail : ∀ (u : State) x a, Keeps State.ledger u (({ u with hflash := x }).progFail a) := fun u x a => .after (ledger_of_eff (State.progFail_eff ..) rfl rfl) rfl
  unfold State.recPlace
  exact (Keeps.after (ledger_of_eff (State.recAhead_eff ..) rfl rfl) (.ite (hfail ..) (.refl _))).trans (hring _ _ (hsigned ..))

/-- A record that is written after `f` failures spends one index for each of them (R407). -/
theorem recWrite_ledger (s : State) (h : RecHead) (ws : List W128) {k f : Nat} (hf : f < k) :
    (s.recWrite h ws k f).2 = true ∧ (s.recWrite h ws k f).1.ledger = (s.recs.nextIndex + f + 1, s.recs.gen, s.recs.snaps, s.time) := by
  induction k generalizing s f with
  | zero => exact absurd hf (Nat.not_lt_zero f)
  | succ k ih =>
    cases f with
    | zero => exact ⟨rfl, recPlace_ledger ..⟩
    | succ f =>
      obtain ⟨hok, hledger⟩ := ih (s.recPlace h ws true) (Nat.lt_of_succ_lt_succ hf)
      obtain ⟨hindex, hgen, hsnaps, htime⟩ : _ ∧ _ ∧ _ ∧ _ := by simpa only [State.ledger, Prod.mk.injEq] using recPlace_ledger s h ws true
      refine ⟨hok, hledger.trans ?_⟩
      rw [hindex, hgen, hsnaps, htime, Nat.add_right_comm s.recs.nextIndex 1 f]
      rfl

theorem totCommit_ledger (s : State) (kind : Nat) : (s.totCommit kind).ledger = (s.recs.nextIndex, s.recs.gen + 1, s.recs.snaps, s.time) := by
  unfold State.totCommit
  simp only [State.ledger, (State.stBytes_eff s _ _).recs rfl, (State.stBytes_eff s _ _).time rfl]

theorem commitCut_ledger (s : State) : Keeps State.ledger s s.commitCut := by
  unfold State.commitCut
  split <;> rfl

theorem commitFailed_ledger (s : State) (kind : Nat) : ((s.totCommit kind).commitCut.progFail s.commitAddr).ledger = (s.recs.nextIndex, s.recs.gen + 1, s.recs.snaps, s.time) := by
  have hfail : ∀ (u : State) a, Keeps State.ledger u (u.progFail a) := fun u a => ledger_of_eff (State.progFail_eff u a) rfl rfl
  rw [hfail, commitCut_ledger, totCommit_ledger]

/-- A totalizer commit that stands after `f` failures has the next generation after theirs (R407). -/
theorem commitTry_ledger (s : State) (kind : Nat) {k f : Nat} (hf : f < k) : (s.commitTry kind k f).1.ledger = (s.recs.nextIndex, s.recs.gen + f + 1, s.recs.snaps, s.time) := by
  induction k generalizing s f with
  | zero => exact absurd hf (Nat.not_lt_zero f)
  | succ k ih =>
    cases f with
    | zero =>
      have hahead : Keeps State.ledger (s.totCommit kind) (s.totCommit kind).commitAhead := ledger_of_eff (State.commitAhead_eff _) rfl rfl
      unfold State.commitTry
      rw [hahead, totCommit_ledger]
    | succ f =>
      obtain ⟨hindex, hgen, hsnaps, htime⟩ : _ ∧ _ ∧ _ ∧ _ := by simpa only [State.ledger, Prod.mk.injEq] using commitFailed_ledger s kind
      unfold State.commitTry
      rw [ih _ (Nat.lt_of_succ_lt_succ hf)]
      rw [hindex, hgen, hsnaps, htime, Nat.add_right_comm s.recs.gen 1 f]
      rfl

/-- The oldest snapshot leaves those that wait, to become a record (R520). -/
def State.snapTaken (s : State) (xs : List Snapshot) : State := { s with recs := { s.recs with snaps := xs } }

/-- INTERVAL_RECORD where HSC may write and the ring has room: the record, its commit and its RECORD entry. -/
theorem exec_intervalRecord {s : State} {x : Snapshot} {xs : List Snapshot} {fails : Nat} (cfails : Nat) (hsnaps : s.recs.snaps = x :: xs)
    (hmay : (!s.hscUp || s.hscHalted || s.spn.held || s.spn.trig.isSome || (s.on F.FLT.STATUS.SAFE && s.get F.FLT.STATUS.CAUSE == 3) || decide (s.space < s.spaceNeeded)) = false)
    (hfails : fails < 4) :
    ∃ h : RecHead, let c := (((s.snapTaken xs).recWrite h x.words 4 fails).1.commitTry 1 4 cfails).1
      exec (.intervalRecord fails cfails) s = .next (if c.slot = 0 then c else c.recAnnounce h) := by
  refine ⟨(s.snapTaken xs).headOf x, ?_⟩
  obtain ⟨hok, -⟩ := recWrite_ledger (s.snapTaken xs) ((s.snapTaken xs).headOf x) x.words hfails
  show Host.Outcome.next _ = _
  simp only [hsnaps, hmay, Bool.false_eq_true, if_false]
  exact congrArg _ (if_pos hok)

theorem intervalRecord_ledger {s : State} {x : Snapshot} {xs : List Snapshot} {fails cfails : Nat} (hsnaps : s.recs.snaps = x :: xs)
    (hmay : (!s.hscUp || s.hscHalted || s.spn.held || s.spn.trig.isSome || (s.on F.FLT.STATUS.SAFE && s.get F.FLT.STATUS.CAUSE == 3) || decide (s.space < s.spaceNeeded)) = false)
    (hfails : fails < 4) (hcfails : cfails < 4) :
    s.Completes (.intervalRecord fails cfails) fun t => t.ledger = (s.recs.nextIndex + fails + 1, s.recs.gen + cfails + 1, xs, s.time) := by
  obtain ⟨h, hexec⟩ := exec_intervalRecord cfails hsnaps hmay hfails
  obtain ⟨-, hrecord⟩ := recWrite_ledger (s.snapTaken xs) h x.words hfails
  have hcommit := commitTry_ledger ((s.snapTaken xs).recWrite h x.words 4 fails).1 1 hcfails
  obtain ⟨hindex, hgen, hrest, htime⟩ : _ ∧ _ ∧ _ ∧ _ := by simpa only [State.ledger, Prod.mk.injEq] using hrecord
  refine .of_next hexec ((Keeps.ite (.refl _) (ledger_of_eff (State.recAnnounce_eff ..) rfl rfl)).trans (hcommit.trans ?_))
  rw [hindex, hgen, hrest, htime]
  rfl

end Sys2Proof.Machine
end

section
/-! SUPPORT. Spindle's jobs and decisions while units are thawed and gated and releases are lost (R334, R341 to R343, R387). -/

namespace Sys2Proof.Machine

/-- The jobs, those admitted ahead of their cycle instants, and the cycle last decided for each task. -/
def Spindle.book (x : Spindle) : List (Nat × Job) × List (Nat × Job) × List (Nat × Nat) := (x.jobs, x.early, x.decided)

/-- What Spindle has decided. -/
def State.book (s : State) : List (Nat × Job) × List (Nat × Job) × List (Nat × Nat) := s.spn.book

theorem Keeps.jobs {s t : State} (h : Keeps State.book s t) : t.spn.jobs = s.spn.jobs := congrArg Prod.fst h

theorem Keeps.early {s t : State} (h : Keeps State.book s t) : t.spn.early = s.spn.early := congrArg (fun b => b.2.1) h

theorem Keeps.decided {s t : State} (h : Keeps State.book s t) : t.spn.decided = s.spn.decided := congrArg (fun b => b.2.2) h

theorem book_of_eff {F : Nat} {s t : State} (h : Eff F s t) (hF : F.testBit 28 = false) : Keeps State.book s t := congrArg Spindle.book (h.spn hF)

theorem book_thawed (s : State) (x : List Nat) : Keeps State.book s { s with spn := { s.spn with thawed := x } } := rfl
theorem book_cold (s : State) (x : List Nat) : Keeps State.book s { s with spn := { s.spn with cold := x } } := rfl
theorem book_ready (s : State) (x : List (Nat × Nat)) : Keeps State.book s { s with spn := { s.spn with ready := x } } := rfl
theorem book_pendSet (s : State) (x : List Nat) : Keeps State.book s { s with spn := { s.spn with pendSet := x } } := rfl
theorem book_set (s : State) (f : Fld) (v : Nat) : Keeps State.book s (s.set f v) := book_of_eff (State.set_eff ..) rfl

/-! Gating and THAWs. -/

theorem gateList_book (s : State) (us : List Nat) : Keeps State.book s (s.gateList us) := by
  induction us generalizing s with
  | nil => exact .refl s
  | cons u us ih => exact .after (ih _) (.ite (.ite (book_thawed ..) (.refl s)) (.ite (.ite (book_thawed ..) (.refl s)) (.ite (book_set ..) (.refl s))))

theorem gateIdle_book (s : State) : Keeps State.book s s.gateIdle :=
  .after (book_of_eff (State.seasonUpdate_eff _) rfl) (.after (book_of_eff (State.pllsIdle_eff _) rfl) (gateList_book ..))

theorem warm_book (s : State) (r : Nat) : Keeps State.book s (s.warm r) := by
  have hl : ∀ (u : State) bs, Keeps State.book u ((((u.loadBlocks bs).codeLoad r).freshBlocks r).fillParams r) := fun u bs =>
    .after (book_of_eff (State.fillParams_eff ..) rfl) (.after (book_of_eff (State.freshBlocks_eff ..) rfl) (.after (book_of_eff (State.codeLoad_eff ..) rfl) (book_of_eff (State.loadBlocks_eff ..) rfl)))
  unfold State.warm
  exact .ite (.after (book_of_eff (State.chainsReady_eff ..) rfl) (.after (hl ..) (book_cold ..))) (.refl s)

theorem thaw_book (s : State) (u : Nat) : Keeps State.book s (s.thaw u) := by
  unfold State.thaw
  dsimp only
  refine .ite (.after (book_of_eff (State.regionWritten_eff ..) rfl) (.after (book_set ..) (.after (book_thawed ..) (warm_book ..)))) (.ite (.after (book_set ..) (book_thawed ..)) ?_)
  exact .ite (.after (book_set ..) (book_set ..)) (.ite (book_set ..) (.ite (book_set ..) (.refl s)))

theorem thawList_book (s : State) (us : List Nat) : Keeps State.book s (s.thawList us) := by
  induction us generalizing s with
  | nil => exact .refl s
  | cons u us ih => exact .after (ih _) (thaw_book ..)

theorem thaws_book (s : State) (us : List Nat) : Keeps State.book s (s.thaws us) :=
  .after (book_of_eff (State.seasonUpdate_eff _) rfl) (.after (thawList_book ..) (book_ready ..))

/-! Releases that are lost. -/

theorem book_keptByLoss : KeptByLoss State.book where
  eff h _ hF := book_of_eff h hF
  mark s r stream cycle fl := book_of_eff (State.markStream_eff s r stream cycle fl) rfl
  seen _ _ := rfl

/-! The end of a job. -/

theorem jobEnd_job (s : State) (k : Nat) : alFind (s.jobEnd k).spn.jobs k = none := (alFind_alDel s.spn.jobs k k).trans (if_pos rfl)

theorem taskDone_job (s : State) (k : Nat) : alFind (s.taskDone k).spn.jobs k = none := by
  have ha : ∀ u : State, Keeps State.book u (if u.spn.pendSet.contains k then ({ u with spn := { u.spn with pendSet := u.spn.pendSet.filter (· != k) } }).applySteps k else u) := fun u =>
    .ite (.after (book_of_eff (State.applySteps_eff ..) rfl) (book_pendSet ..)) (.refl u)
  have hkeep : Keeps State.book (s.jobEnd k) (s.taskDone k) := .after (gateIdle_book _) (ha _)
  rw [hkeep.jobs, jobEnd_job]

end Sys2Proof.Machine
end

section
/-! JOB_ADMISSION and JOB_ABANDON (R330, R331, R333, R341). -/

namespace Sys2Proof.Machine

theorem advanceTo_cycle (s : State) (t : Nat) : (s.advanceTo t).time.cycle = s.time.cycle := by
  unfold State.advanceTo
  split
  · rfl
  · dsimp only
    rw [(State.timeShow_eff _).time rfl]
    show (s.quietNote t).time.cycle = _
    rw [(State.quietNote_eff s t).time rfl]

/-- Time as it stands once what falls due by an instant is settled. -/
theorem settled_time (s : State) (t : Nat) : (s.advanceTo t).settle.time = (s.advanceTo t).time := (State.settle_eff _).time rfl

/-! Jobs that pass. -/

/-- A deferred release is counted (R336 step 2). -/
def State.deferCounted (s : State) (k : Nat) : State := if s.stepOn k 2 then s.sat F.SPN.COUNT.DEFER 1 else s

theorem deferCounted_eff (s : State) (k : Nat) : Eff 4 s (s.deferCounted k) := .ite (State.sat_eff ..) (.refl ..)

/-- The decision of a job that passes its three tests at the level as it stands (R330). -/
theorem decide_passes {s : State} {k n ta fuel : Nat} (hstep : s.stepOn k 1 = false) :
    let v := s.stepsApply k n
    let c := v.candidate k n ta
    v.timeTest k c = true → v.energyTest c.ta c.charge = true → v.heatTest = true → s.decide_ k n ta (fuel + 1) = (v.deferCounted k).admitted k c := by
  intro v c htime henergy hheat
  unfold State.decide_
  rw [if_neg (Bool.not_eq_true _ ▸ hstep)]
  refine if_pos ?_
  simp only [v, c] at htime henergy hheat
  simp only [htime, henergy, hheat, Bool.and_self]

/-- The decision of an admitted job is noted, with its charge and, of a degraded one, in its stream's figures (R325, R342). -/
def State.admissionNoted (s : State) (k : Nat) (j : Job) : State :=
  let s := { s with spn := { s.spn with chSec := s.spn.chSec + j.charge, decided := alSet s.spn.decided k j.cycle } }
  if j.deg && !(s.isMirror k && s.regionUp (s.homeRegion (s.taskStream k))) then s.streamNote (s.taskStream k) j.cycle 0 1 0 else s

/-- An admitted job in its place: before its cycle instant has fired it is early (R344). -/
def State.placed (s : State) (k : Nat) (j : Job) : State := if s.time.cycle < j.cycle then ({ s with spn := { s.spn with early := alSet s.spn.early k j } }).jobShow k else s.jobSet k j

section
variable (s : State) (k : Nat) (j : Job)

theorem admissionNoted_decided : alFind (s.admissionNoted k j).spn.decided k = some j.cycle ∧ (s.admissionNoted k j).time = s.time := by
  have hn : ∀ (u : State) st, (u.streamNote st j.cycle 0 1 0).spn = u.spn ∧ (u.streamNote st j.cycle 0 1 0).time = u.time := fun u st =>
    ⟨(State.streamNote_eff u st j.cycle 0 1 0).spn rfl, (State.streamNote_eff u st j.cycle 0 1 0).time rfl⟩
  unfold State.admissionNoted
  dsimp only
  split
  · rw [(hn ..).1, (hn ..).2]
    exact ⟨alFind_alSet_same .., rfl⟩
  · exact ⟨alFind_alSet_same .., rfl⟩

theorem placed_decided : (s.placed k j).spn.decided = s.spn.decided := by
  unfold State.placed
  split <;> rfl

theorem placed_early (h : s.time.cycle < j.cycle) : alFind (s.placed k j).spn.early k = some j := by
  rw [State.placed, if_pos h]
  exact alFind_alSet_same ..

theorem placed_job (h : j.cycle ≤ s.time.cycle) : alFind (s.placed k j).spn.jobs k = some j := by
  rw [State.placed, if_neg (Nat.not_lt.2 h)]
  exact alFind_alSet_same ..

/-- An admitted job is decided, and stands among the early ones until its cycle instant has fired (R330, R344). -/
theorem admitted_book : alFind (s.admitted k j).spn.decided k = some j.cycle ∧
    (if j.cycle ≤ s.time.cycle then alFind (s.admitted k j).spn.jobs k = some j else alFind (s.admitted k j).spn.early k = some j) := by
  have hkeep : Keeps State.book ((s.admissionNoted k j).placed k j) (s.admitted k j) := thaws_book ..
  obtain ⟨hdecided, htime⟩ := admissionNoted_decided s k j
  rw [hkeep.decided, hkeep.jobs, hkeep.early, placed_decided]
  refine ⟨hdecided, ?_⟩
  split
  · next h => exact placed_job _ k j (htime ▸ h)
  · next h => exact placed_early _ k j (htime ▸ Nat.not_le.1 h)

end

/-! Jobs that are turned away. -/

/-- The decision of a job that is turned away is noted, and the job is gone where its cycle instant has fired (R341). -/
def State.refusalNoted (s : State) (k n : Nat) : State :=
  let s := { s with spn := { s.spn with decided := alSet s.spn.decided k n } }
  if s.time.cycle < n then s else s.jobEnd k

theorem refusalNoted_decided (s : State) (k n : Nat) : alFind (s.refusalNoted k n).spn.decided k = some n := by
  unfold State.refusalNoted
  dsimp only
  split <;> exact alFind_alSet_same ..

theorem refusalNoted_job (s : State) (k : Nat) {n : Nat} (h : n ≤ s.time.cycle) : alFind (s.refusalNoted k n).spn.jobs k = none := by
  unfold State.refusalNoted
  dsimp only
  rw [if_neg (Nat.not_lt.2 h), jobEnd_job]

theorem turnedAway_book (s : State) (k n cause : Nat) : Keeps State.book (s.refusalNoted k n) (s.turnedAway k n cause) := .after (gateIdle_book _) (book_keptByLoss.releaseLost ..)

/-! The commands. -/

/-- JOB_ADMISSION's effect, where Spindle runs and the job is the one that is decided now: the released job that comes first, or that of the next cycle instant (R330, R331). -/
theorem exec_jobAdmission {s : State} {k n ta : Nat} {j : Job} (hk : k < 256) (hrun : s.on F.SPN.STATUS.RUN = true) (hheld : s.spn.held = false) (htask : k < s.ntask)
    (hnow : alFind s.spn.jobs k = some j ∧ j.st = 0 ∧ s.firstUndecided = some k ∧ n = j.cycle ∧ ta = s.time.t ∨
      alFind s.spn.jobs k = none ∧ s.decidesNext k = true ∧ n = s.nextCycle ∧ ta = s.admitAt k s.nextCycle) : exec (.jobAdmission k) s = .next (s.admission k n ta) := by
  have hw : Instr.wf (.jobAdmission k) = true := decide_eq_true hk
  refine (exec_guardUnit rfl hw).trans (congrArg _ ?_)
  simp only [hrun, hheld, Nat.not_le.2 htask, Bool.not_true, Bool.or_self, decide_false, Bool.false_eq_true, if_false]
  rcases hnow with ⟨hj, hst, hfirst, rfl, rfl⟩ | ⟨hj, hnext, rfl, rfl⟩
  · simp only [hj, hst, hfirst, if_true]
  · simp only [hj, hnext, if_true]

/-- JOB_ABANDON's effect on a job that waits (R333). -/
theorem exec_jobAbandon {s : State} {k : Nat} {j : Job} (hk : k < 256) (hj : alFind s.spn.jobs k = some j) (hst : j.st = 1 ∨ j.st = 3) :
    exec (.jobAbandon k) s = .next (((((s.advanceTo (j.dl - s.taskWcet k * 65536)).settle).raise F.SPN.STATUS.MISS 0 9).taskDone k).releaseLost k j.cycle 5) := by
  have hw : Instr.wf (.jobAbandon k) = true := decide_eq_true hk
  refine (exec_guardUnit rfl hw).trans (congrArg _ ?_)
  simp only [hj]
  exact if_pos hst

/-- A job that is abandoned is gone (R333), at the instant to which time moved. -/
theorem abandoned_job (u : State) (k n : Nat) : let t := ((u.raise F.SPN.STATUS.MISS 0 9).taskDone k).releaseLost k n 5
    alFind t.spn.jobs k = none ∧ t.time = u.time := by
  refine ⟨?_, ?_⟩
  · rw [(book_keptByLoss.releaseLost ..).jobs, taskDone_job]
  · rw [(State.releaseLost_eff ..).time rfl, (State.taskDone_eff ..).time rfl, (State.raise_eff ..).time rfl]

/-- Settles O35: Spindle's book is changed by an admission, a refusal and an abandonment only, not by the THAWs, the gating and the marks that follow; each failure to program spends one index or one generation. -/
theorem spindleAndRecords : Obligations.SpindleAndRecords := by
  unfold Obligations.SpindleAndRecords
  refine ⟨fun s k n ta j hk => ⟨fun hrun hheld htask hnow => ?_, fun hj hst => ?_⟩, fun s p i fails cfails x xs hp => ⟨fun hdue hregion hended => ?_, fun hsnaps hmay hfails hcfails => ?_⟩⟩
  · intro u v c
    have hexec := exec_jobAdmission hk hrun hheld htask hnow
    have hcycle : u.time.cycle = s.time.cycle := (congrArg TimeBase.cycle (settled_time s ta)).trans (advanceTo_cycle s ta)
    refine ⟨fun hup hstep htest henergy hheat => .of_next hexec ?_, fun hdown => .of_next hexec ?_⟩
    · have hadm : s.admission k n ta = ((v.deferCounted k).admitted k c).demandShow := by
        rw [State.admission, if_pos hup, decide_passes hstep htest henergy hheat]
      have hspn : (s.admission k n ta).spn = ((v.deferCounted k).admitted k c).spn := by rw [hadm, (State.demandShow_eff _).spn rfl]
      have hv : (v.deferCounted k).time = u.time := ((deferCounted_eff v k).time rfl).trans ((State.stepsApply_eff u k n).time rfl)
      have htime : (s.admission k n ta).time = u.time := by rw [hadm, (State.demandShow_eff _).time rfl, (State.admitted_eff ..).time rfl, hv]
      have hbook := admitted_book (v.deferCounted k) k c
      rw [hv, hcycle, ← hspn] at hbook
      exact ⟨hbook.1, htime, hbook.2⟩
    · have haway : s.admission k n ta = (u.turnedAway k n 7).demandShow := by
        rw [State.admission, if_neg (Bool.not_eq_true _ ▸ hdown)]
      have hkeep : Keeps State.book (u.refusalNoted k n) (s.admission k n ta) := haway ▸ .after (book_of_eff (State.demandShow_eff _) rfl) (turnedAway_book ..)
      rw [hkeep.decided, hkeep.jobs, refusalNoted_decided]
      exact ⟨rfl, fun hn => refusalNoted_job u k (hcycle ▸ hn)⟩
  · obtain ⟨hgone, htime⟩ := abandoned_job (s.advanceTo (j.dl - s.taskWcet k * 65536)).settle k j.cycle
    exact .of_next (exec_jobAbandon hk hj hst) ⟨hgone, by rw [htime, settled_time, advanceTo_t]⟩
  · have hexec := exec_recordSnapshot hp hdue hregion hended
    have hframe := execRecordSnapshot_eff p s _ hexec
    exact .of_next hexec ⟨snapshotted_next s, snapshotted_join s, hframe.time rfl, hframe.sealc rfl⟩
  · obtain ⟨t, hexec, hledger⟩ := intervalRecord_ledger hsnaps hmay hfails hcfails
    obtain ⟨hindex, hgen, hrest, htime⟩ : _ ∧ _ ∧ _ ∧ _ := by simpa only [State.ledger, Prod.mk.injEq] using hledger
    exact .of_next hexec ⟨hindex, hrest, hgen, htime⟩

end Sys2Proof.Machine
end

section
/-! SUPPORT. Words cut into fields: a word has given values in its fields exactly when it is the sum of those values at their places. -/

namespace Sys2Proof.Machine

/-- The word with a field x at bit lo for each entry (lo, x). -/
def packFields : List (Nat × Nat) → Nat
  | [] => 0
  | (lo, x) :: fs => x * 2 ^ lo + packFields fs

/-- The fields fill the n low bits, each down to its own lowest bit. -/
def FieldsFit : Nat → List (Nat × Nat) → Prop
  | n, [] => n = 0
  | n, (lo, x) :: fs => lo < n ∧ x < 2 ^ (n - lo) ∧ FieldsFit lo fs

/-- A word has these values in the fields below bit n. -/
def HasFields (w : Nat) : Nat → List (Nat × Nat) → Prop
  | _, [] => True
  | n, (lo, x) :: fs => bitsOf w (n - 1) lo = x ∧ HasFields w lo fs

theorem packFields_lt {n : Nat} {fs : List (Nat × Nat)} (h : FieldsFit n fs) : packFields fs < 2 ^ n := by
  induction fs generalizing n with
  | nil => exact Nat.two_pow_pos n
  | cons f fs ih =>
    obtain ⟨lo, x⟩ := f
    obtain ⟨hlo, hx, hfs⟩ := h
    calc x * 2 ^ lo + packFields fs < x * 2 ^ lo + 2 ^ lo := Nat.add_lt_add_left (ih hfs) _
      _ = (x + 1) * 2 ^ lo := (Nat.succ_mul ..).symm
      _ ≤ 2 ^ (n - lo) * 2 ^ lo := Nat.mul_le_mul_right _ hx
      _ = 2 ^ n := by rw [← Nat.pow_add, Nat.sub_add_cancel (Nat.le_of_lt hlo)]

/-- The topmost field of the n low bits is what division by its place leaves of them. -/
theorem bitsOf_top (w : Nat) {n lo : Nat} (h : lo < n) : bitsOf w (n - 1) lo = w % 2 ^ n / 2 ^ lo := by
  rw [bitsOf, Nat.sub_add_cancel (Nat.zero_lt_of_lt h), ← Nat.mod_mul_right_div_self, ← Nat.pow_add, Nat.add_sub_cancel' (Nat.le_of_lt h)]

/-- Fields that fit determine the low bits of a word, and are determined by them. -/
theorem hasFields_iff {w n : Nat} {fs : List (Nat × Nat)} (h : FieldsFit n fs) : HasFields w n fs ↔ w % 2 ^ n = packFields fs := by
  induction fs generalizing n with
  | nil =>
    cases show n = 0 from h
    simp [HasFields, packFields, Nat.mod_one]
  | cons f fs ih =>
    obtain ⟨lo, x⟩ := f
    obtain ⟨hlo, -, hfs⟩ := h
    rw [HasFields, packFields, ih hfs, bitsOf_top w hlo, ← Nat.mod_mod_of_dvd w (Nat.pow_dvd_pow 2 (Nat.le_of_lt hlo)), Nat.div_mod_unique (Nat.two_pow_pos lo),
      and_iff_left (packFields_lt hfs), Nat.add_comm, Nat.mul_comm, eq_comm]

theorem bitsOf_lt_of_le {w hi lo m : Nat} (h : 2 ^ (hi + 1 - lo) ≤ m) : bitsOf w hi lo < m := Nat.lt_of_lt_of_le (bitsOf_lt w hi lo) h

theorem bit_cases (w k : Nat) : bitsOf w k k = 0 ∨ bitsOf w k k = 1 := Nat.le_one_iff_eq_zero_or_eq_one.1 (Nat.lt_succ_iff.1 (bitsOf_lt_of_le (by simp)))

theorem toNat_beq_one (b : Bool) : (b.toNat == 1) = b := by cases b <;> rfl

theorem toNat_bne_zero (b : Bool) : (b.toNat != 0) = b := by cases b <;> rfl

theorem toNat_bit (w k : Nat) : (bitsOf w k k == 1).toNat = bitsOf w k k := by
  rcases bit_cases w k with h | h <;> rw [h] <;> rfl

end Sys2Proof.Machine
end

section
/-! Words of tally programs (R256, R257): the fields of each instruction's word, and that encoder and decoder agree on them. -/

namespace Sys2Proof.Machine

/-! The formats of R256, each field at its lowest bit, with the bits that R257 requires to be zero as a field of their own. -/

/-- Format I with registers only: bits 16 to 0 are zero. -/
@[simp] def regFields (op d a b : Nat) : List (Nat × Nat) := [(26, op), (23, d), (20, a), (17, b), (0, 0)]
/-- Format I with an immediate and no B. -/
@[simp] def immFields (op d a imm : Nat) : List (Nat × Nat) := [(26, op), (23, d), (20, a), (16, 0), (0, imm)]
/-- Format I with an immediate alone. -/
@[simp] def constFields (op d imm : Nat) : List (Nat × Nat) := [(26, op), (23, d), (16, 0), (0, imm)]
/-- Format A with V and no UNIT. -/
@[simp] def sumFields (op d a b v : Nat) : List (Nat × Nat) := [(26, op), (21, d), (16, a), (11, b), (1, 0), (0, v)]
/-- Format A with UNIT and V. -/
@[simp] def productFields (op d a b unit v : Nat) : List (Nat × Nat) := [(26, op), (21, d), (16, a), (11, b), (5, unit), (1, 0), (0, v)]
/-- Format A with UNIT and neither B nor V. -/
@[simp] def rootFields (op d a unit : Nat) : List (Nat × Nat) := [(26, op), (21, d), (16, a), (11, 0), (5, unit), (0, 0)]
/-- Format A with one operand. -/
@[simp] def oneFields (op d a : Nat) : List (Nat × Nat) := [(26, op), (21, d), (16, a), (0, 0)]
/-- Format A with two operands. -/
@[simp] def twoFields (op d a b : Nat) : List (Nat × Nat) := [(26, op), (21, d), (16, a), (11, b), (0, 0)]
/-- Format M. -/
@[simp] def memFields (op m base nb idx : Nat) : List (Nat × Nat) := [(26, op), (21, m), (18, base), (17, nb), (16, 0), (0, idx)]
/-- Format C. -/
@[simp] def callFields (id : Nat) : List (Nat × Nat) := [(26, 0x2E), (16, 0), (0, id)]

/-- The fields of a tally instruction's word (R256, R257); any other command has none. -/
def tallyFields : Instr → Option (List (Nat × Nat))
  | .add _ rd ra rb => some (regFields 1 rd ra rb)
  | .sub _ rd ra rb => some (regFields 2 rd ra rb)
  | .and _ rd ra rb => some (regFields 3 rd ra rb)
  | .or _ rd ra rb => some (regFields 4 rd ra rb)
  | .xor _ rd ra rb => some (regFields 5 rd ra rb)
  | .sll _ rd ra rb => some (regFields 6 rd ra rb)
  | .srl _ rd ra rb => some (regFields 7 rd ra rb)
  | .sra _ rd ra rb => some (regFields 8 rd ra rb)
  | .mul _ rd ra rb => some (regFields 9 rd ra rb)
  | .addi _ rd ra imm => some (immFields 10 rd ra imm.toNat)
  | .andi _ rd ra imm => some (immFields 11 rd ra imm.toNat)
  | .ori _ rd ra imm => some (immFields 12 rd ra imm.toNat)
  | .lui _ rd imm => some (constFields 13 rd imm.toNat)
  | .li _ rd imm => some (constFields 14 rd imm.toNat)
  | .addC _ md ma mb => some (sumFields 0x10 md ma mb 0)
  | .addU _ md ma mb => some (sumFields 0x10 md ma mb 1)
  | .subC _ md ma mb => some (sumFields 0x11 md ma mb 0)
  | .subU _ md ma mb => some (sumFields 0x11 md ma mb 1)
  | .mulC _ md ma mb unit => some (productFields 0x12 md ma mb unit 0)
  | .mulU _ md ma mb unit => some (productFields 0x12 md ma mb unit 1)
  | .divC _ md ma mb unit => some (productFields 0x13 md ma mb unit 0)
  | .divU _ md ma mb unit => some (productFields 0x13 md ma mb unit 1)
  | .sqrt _ md ma unit => some (rootFields 0x14 md ma unit)
  | .neg _ md ma => some (oneFields 0x15 md ma)
  | .abs _ md ma => some (oneFields 0x16 md ma)
  | .min _ md ma mb => some (twoFields 0x17 md ma mb)
  | .max _ md ma mb => some (twoFields 0x18 md ma mb)
  | .mov _ md ma => some (oneFields 0x19 md ma)
  | .uwid _ md ma mb => some (twoFields 0x1A md ma mb)
  | .scli _ md ma ib sh => some [(26, 0x1B), (21, md), (16, ma), (13, ib), (7, sh), (0, 0)]
  | .cvu _ md ma unit => some (rootFields 0x1C md ma unit)
  | .cvt _ md ia unit sh => some [(26, 0x1D), (21, md), (18, ia), (12, unit), (6, sh), (0, 0)]
  | .cvi _ id ma sh => some [(26, 0x1E), (23, id), (18, ma), (12, sh), (0, 0)]
  | .setf _ md ma mask qual => some [(26, 0x1F), (21, md), (16, ma), (10, 0), (4, mask), (0, qual)]
  | .ldp _ md param unit => some [(26, 0x20), (21, md), (15, unit), (8, 0), (0, param)]
  | .prop _ md ma tbl _ => some [(26, 0x21), (21, md), (16, ma), (10, tbl), (0, 0)]
  | .ld _ md nb base idx => some (memFields 0x24 md base nb.toNat idx)
  | .st _ ma nb base idx => some (memFields 0x25 ma base nb.toNat idx)
  | .ldl _ id nb base idx lane => some [(26, 0x26), (23, id), (20, base), (19, nb.toNat), (17, lane), (16, 0), (0, idx)]
  | .tacc _ tn ma neg => some [(26, 0x28), (20, tn), (15, ma), (1, 0), (0, neg.toNat)]
  | .trdc _ md tn => some [(26, 0x29), (21, md), (15, tn), (0, 0)]
  | .br _ cond ra rb off => some [(26, 0x2C), (22, cond), (17, ra), (12, rb), (0, off)]
  | .loop _ x count len => some [(26, 0x2D), (23, x), (12, count), (0, len)]
  | .inChain _ => some (callFields 0x1)
  | .inPath _ => some (callFields 0x2)
  | .inPulse _ => some (callFields 0x3)
  | .orifice _ => some (callFields 0x100)
  | .venturi _ => some (callFields 0x101)
  | .upath _ => some (callFields 0x102)
  | .kfactor _ => some (callFields 0x103)
  | .freq _ => some (callFields 0x104)
  | .normvol _ _ => some (callFields 0x105)
  | .density _ _ => some (callFields 0x106)
  | .tend _ _ => some [(26, 0x2F), (0, 0)]
  | .emitv _ m => some [(26, 0x30), (21, m), (0, 0)]
  | .emitt _ t => some [(26, 0x31), (20, t), (0, 0)]
  | .emite _ m code => some [(26, 0x32), (21, m), (12, 0), (0, code)]
  | .emiti _ x y code => some [(26, 0x33), (23, x), (20, y), (12, 0), (0, code)]
  | _ => none

/-- The encoder puts the fields of R256 together. -/
theorem progEncode_eq (i : Instr) : progEncode i = (tallyFields i).map packFields := by
  cases i
  case inChain | inPath | inPulse | orifice | venturi | upath | kfactor | freq | normvol | density | tend => rfl
  all_goals simp only [progEncode, tallyFields, Option.map]
  all_goals
    refine congrArg some ?_
    simp only [fmtI, fmtA, fmtD, regFields, immFields, constFields, sumFields, productFields, rootFields, oneFields, twoFields, memFields, packFields]
    omega

theorem condOk_lt {c a b : Nat} (h : condOk c a b = true) : c < 16 ∧ a < 32 ∧ b < 32 := by
  unfold condOk at h
  repeat' split at h
  all_goals
    simp only [Bool.and_eq_true, beq_iff_eq, decide_eq_true_eq] at h
    omega

theorem propInputs_pos (t : Nat) : 0 < propInputs t := by
  unfold propInputs
  repeat' split
  all_goals decide

/-- The operands of an accepted instruction fit their fields. -/
theorem fieldsFit_of_wf {i : Instr} {fs : List (Nat × Nat)} (hw : i.wf = true) (h : tallyFields i = some fs) : FieldsFit 32 fs := by
  cases i
  all_goals cases h
  all_goals simp only [Instr.wf, Bool.and_eq_true, decide_eq_true_eq] at hw
  case br =>
    obtain ⟨⟨-, hcond⟩, hoff⟩ := hw
    simp [FieldsFit, condOk_lt hcond, hoff]
  case prop tbl _ =>
    have := propInputs_pos tbl
    simp [FieldsFit]
    omega
  all_goals simp [FieldsFit, Nat.lt_succ_iff, Bool.toNat_le]
  all_goals omega

/-- A word is that of an instruction: its fields are the instruction's, whose operands are in range. -/
def WordOf (w : Nat) (i : Instr) : Prop := i.wf = true ∧ ∃ fs, tallyFields i = some fs ∧ HasFields w 32 fs

/-- The words of an instruction's fields are those that the encoder answers. -/
theorem wordOf_iff_progEncode {w : Nat} {i : Instr} : w < 2 ^ 32 ∧ WordOf w i ↔ i.wf = true ∧ progEncode i = some w := by
  rw [progEncode_eq, Option.map_eq_some_iff]
  constructor
  · rintro ⟨hlt, hw, fs, hfs, hf⟩
    exact ⟨hw, fs, hfs, ((hasFields_iff (fieldsFit_of_wf hw hfs)).1 hf).symm.trans (Nat.mod_eq_of_lt hlt)⟩
  · rintro ⟨hw, fs, hfs, rfl⟩
    have hfit := fieldsFit_of_wf hw hfs
    have hlt := packFields_lt hfit
    exact ⟨hlt, hw, fs, hfs, (hasFields_iff hfit).2 (Nat.mod_eq_of_lt hlt)⟩

/-! The decoder reads the fields of an instruction's word as that instruction. -/

theorem progDecode_of_wordOf {w : Nat} {i : Instr} (ha : ∀ n, i ≠ .tend n false) (h : WordOf w i) : ∃ p, p < 8 ∧ progDecode p w (Instr.par i) = some i := by
  obtain ⟨hw, fs, hfs, hf⟩ := h
  cases i
  all_goals cases hfs
  all_goals simp [HasFields] at hf
  all_goals simp [Instr.wf] at hw
  case tend p agree =>
    obtain rfl : agree = true := Bool.not_eq_false _ ▸ fun he => ha p (he ▸ rfl)
    simp [progDecode, codeOk, progInstr, hf, hw]
  case prop ma tbl _ =>
    obtain ⟨⟨⟨⟨hp, -⟩, hlow⟩, hhigh⟩, hinputs⟩ := hw
    have hlast : ma + propInputs tbl - 1 ≤ 31 := Nat.sub_le_sub_right hinputs 1
    simp [progDecode, codeOk, progInstr, within, toNat_bne_zero, Instr.par, hf, hp, hlow, Nat.le_of_lt_succ hhigh, hlast]
  case inChain | inPath | inPulse | orifice | venturi | upath | kfactor | freq | normvol | density =>
    simp [progDecode, codeOk, romRoutine, within, callDecode, hf, hw, Instr.par]
  all_goals simp [progDecode, codeOk, progInstr, toNat_beq_one, hf, hw]

/-! A word that decodes has the fields of the instruction it decodes to. -/

/-- The opcodes of the defined encodings, by the sections of the chapter (R257). -/
theorem opcode_of_codeOk {w : Nat} (h : codeOk w = true) :
    bitsOf w 31 26 ∈ [1, 2, 3, 4, 5, 6, 7, 8, 9, 10, 11, 12, 13, 14] ∨ bitsOf w 31 26 ∈ [0x10, 0x11, 0x12, 0x13] ∨ bitsOf w 31 26 ∈ [0x14, 0x15, 0x16, 0x17, 0x18, 0x19, 0x1A, 0x1B] ∨
    bitsOf w 31 26 ∈ [0x1C, 0x1D, 0x1E, 0x1F, 0x20, 0x21] ∨ bitsOf w 31 26 ∈ [0x24, 0x25, 0x26, 0x28, 0x29] ∨ bitsOf w 31 26 ∈ [0x2C, 0x2D, 0x2E, 0x2F] ∨
    bitsOf w 31 26 ∈ [0x30, 0x31, 0x32, 0x33] := by
  refine Classical.byContradiction fun hn => ?_
  simp only [List.mem_cons, List.not_mem_nil, or_false, not_or] at hn
  simp (disch := omega) only [codeOk, if_neg] at h
  exact Bool.false_ne_true h

section
variable {p w par : Nat} (hp : p < 8) (hc : codeOk w = true)
include hp hc

/-- R259. -/
theorem wordOf_integer (h : bitsOf w 31 26 ∈ [1, 2, 3, 4, 5, 6, 7, 8, 9, 10, 11, 12, 13, 14]) : WordOf w (progInstr p w par) := by
  simp only [List.mem_cons, List.not_mem_nil, or_false] at h
  rcases h with h | h | h | h | h | h | h | h | h | h | h | h | h | h
  all_goals
    simp [codeOk, h] at hc
    simp [WordOf, progInstr, tallyFields, HasFields, Instr.wf, bitsOf_lt_of_le, Nat.mod_eq_of_lt, h, hp, hc]

/-- R260, the operations whose variant is bit V. -/
theorem wordOf_variants (h : bitsOf w 31 26 ∈ [0x10, 0x11, 0x12, 0x13]) : WordOf w (progInstr p w par) := by
  simp only [List.mem_cons, List.not_mem_nil, or_false] at h
  rcases h with h | h | h | h
  all_goals
    simp [codeOk, h] at hc
    rcases bit_cases w 0 with hv | hv
  all_goals
    simp [WordOf, progInstr, tallyFields, HasFields, Instr.wf, bitsOf_lt_of_le, h, hp, hc, hv]

/-- R260, the others. -/
theorem wordOf_mqArithmetic (h : bitsOf w 31 26 ∈ [0x14, 0x15, 0x16, 0x17, 0x18, 0x19, 0x1A, 0x1B]) : WordOf w (progInstr p w par) := by
  simp only [List.mem_cons, List.not_mem_nil, or_false] at h
  rcases h with h | h | h | h | h | h | h | h
  all_goals
    simp [codeOk, h] at hc
    simp [WordOf, progInstr, tallyFields, HasFields, Instr.wf, bitsOf_lt_of_le, h, hp, hc]

/-- R261 to R266. -/
theorem wordOf_conversion (h : bitsOf w 31 26 ∈ [0x1C, 0x1D, 0x1E, 0x1F, 0x20, 0x21]) : WordOf w (progInstr p w par) := by
  simp only [List.mem_cons, List.not_mem_nil, or_false] at h
  rcases h with h | h | h | h | h | h
  all_goals
    simp [codeOk, within, h] at hc
    simp [WordOf, progInstr, tallyFields, HasFields, Instr.wf, bitsOf_lt_of_le, h, hp, hc]
  omega

/-- R267 to R270. -/
theorem wordOf_memory (h : bitsOf w 31 26 ∈ [0x24, 0x25, 0x26, 0x28, 0x29]) : WordOf w (progInstr p w par) := by
  simp only [List.mem_cons, List.not_mem_nil, or_false] at h
  rcases h with h | h | h | h | h
  all_goals
    simp [codeOk, h] at hc
    simp [WordOf, progInstr, tallyFields, HasFields, Instr.wf, bitsOf_lt_of_le, toNat_bit, h, hp, hc]

/-- R271 to R276, but for CALL. -/
theorem wordOf_control (h : bitsOf w 31 26 ∈ [0x2C, 0x2D, 0x2F]) : WordOf w (progInstr p w par) := by
  simp only [List.mem_cons, List.not_mem_nil, or_false] at h
  rcases h with h | h | h
  all_goals
    simp [codeOk, h, Nat.succ_le_iff] at hc
    simp [WordOf, progInstr, tallyFields, HasFields, Instr.wf, bitsOf_lt_of_le, Nat.succ_le_iff, h, hp, hc]

/-- R277. -/
theorem wordOf_emission (h : bitsOf w 31 26 ∈ [0x30, 0x31, 0x32, 0x33]) : WordOf w (progInstr p w par) := by
  simp only [List.mem_cons, List.not_mem_nil, or_false] at h
  rcases h with h | h | h | h
  all_goals
    simp [codeOk, h] at hc
    simp [WordOf, progInstr, tallyFields, HasFields, Instr.wf, bitsOf_lt_of_le, h, hp, hc]

/-- R275. -/
theorem wordOf_call {i : Instr} (h : bitsOf w 31 26 = 0x2E) (hi : callDecode p (bitsOf w 15 0) par = some i) : WordOf w i := by
  simp [codeOk, h] at hc
  unfold callDecode at hi
  repeat' split at hi
  all_goals cases hi
  all_goals
    rename_i hid
    simp [WordOf, tallyFields, HasFields, Instr.wf, h, hp, hc, hid]

end

theorem wordOf_progDecode {p w par : Nat} {i : Instr} (hp : p < 8) (h : progDecode p w par = some i) : WordOf w i := by
  unfold progDecode at h
  split at h
  · next hc =>
    split at h
    · next hcall => exact wordOf_call hp hc hcall h
    · next hcall =>
      cases h
      rcases opcode_of_codeOk hc with h | h | h | h | h | h | h
      · exact wordOf_integer hp hc h
      · exact wordOf_variants hp hc h
      · exact wordOf_mqArithmetic hp hc h
      · exact wordOf_conversion hp hc h
      · exact wordOf_memory hp hc h
      · exact wordOf_control hp hc (by simpa [hcall] using h)
      · exact wordOf_emission hp hc h
  · cases h

/-- Settles O4: encoder and decoder agree on the fields of R256, of which a 32-bit word is the sum, and no others are defined encodings (R257). -/
theorem programWordsRoundTrip : Obligations.ProgramWordsRoundTrip := by
  unfold Obligations.ProgramWordsRoundTrip
  refine fun i w => ⟨fun hw ha he => ?_, fun p par hp hlt hd => ?_⟩
  · obtain ⟨hlt, hword⟩ := wordOf_iff_progEncode.2 ⟨hw, he⟩
    exact ⟨hlt, progDecode_of_wordOf ha hword⟩
  · exact wordOf_iff_progEncode.1 ⟨hlt, wordOf_progDecode hp hd⟩

end Sys2Proof.Machine
end

section
/-! The integer and the measured-quantity instructions, CVI and the loads (R259 to R263, R269): what an instruction at the pair's PC comes to where it completes. -/

namespace Sys2Proof.Machine

/-- The instruction at a pair's PC has its operands in range: only defined encodings decode (R257). -/
theorem wf_of_atPc {s : State} {p : Nat} {c : Instr} (hp : p < 8) (h : s.atPc p c = true) : c.wf = true := by
  obtain ⟨-, hd⟩ := Bool.and_eq_true _ _ ▸ h
  exact (wordOf_progDecode hp (beq_iff_eq.1 hd)).1

section
variable {s t : State} {p k : Nat} {c : Instr} (hr : s.Runs p k) (hp : p < 8)
include hr hp

theorem exec_instr {n : Nat} {f : Nat → State → Tr Pair} {x : Pair} (h : exec c s = s.tally p c (s.instr p n f)) (hf : f k s = .ok x t) (hat : s.atPc p c = true) :
    exec c s = .next (t.goesOn p x n) := (exec_tally h (wf_of_atPc hp hat) hat).trans (congrArg _ (instr_ok hr hf))

theorem exec_intOp {rd : Nat} {f : Pair → Word} {w : Word} (h : exec c s = s.tally p c (s.intOp p rd f)) (hw : f (s.pair p) = w) (hat : s.atPc p c = true) :
    exec c s = .next (s.goesOn p ((s.pair p).setI rd w) 1) := exec_instr hr hp h (hw ▸ rfl) hat

theorem exec_mqOp {md n : Nat} {f : Pair → Option Mq} {r : Option Mq} {a : Mq} (h : exec c s = s.tally p c (s.mqOp p md n f)) (hf : f (s.pair p) = r) (hat : s.atPc p c = true)
    (ha : r = some a) : exec c s = .next (s.goesOn p ((s.pair p).setMq md a) n) := exec_instr hr hp h (by simp [hf, ha]) hat

theorem exec_cvi {id ma sh : Nat} (hat : s.atPc p (.cvi p id ma sh) = true) {v : Int} (hv : Mq.cvi ((s.pair p).mq ma) sh = some v) :
    exec (.cvi p id ma sh) s = .next (s.goesOn p ((s.pair p).setI id (BitVec.ofInt 32 v)) 2) := exec_instr hr hp rfl (by simp [hv]) hat

section
variable {base idx : Nat} {nb : Bool} {w : W128} (hl : s.load p ((s.pair p).offset nb base idx) = .ok w t)
include hl

theorem exec_ld {md : Nat} (hat : s.atPc p (.ld p md nb base idx) = true) : exec (.ld p md nb base idx) s = .next (t.goesOn p ((t.pair p).setM md w) 8) :=
  exec_instr hr hp rfl (by simp [hl, Tr.bind]) hat

theorem exec_ldl {id lane : Nat} (hat : s.atPc p (.ldl p id nb base idx lane) = true) :
    exec (.ldl p id nb base idx lane) s = .next (t.goesOn p ((t.pair p).setI id (w.extractLsb' (32 * lane) 32)) 8) :=
  exec_instr hr hp rfl (by simp [hl, Tr.bind, BitVec.extractLsb', Nat.shiftRight_eq_div_pow]) hat

end

theorem exec_ldp {md param unit : Nat} {v : Int} {a : Mq} (hl : s.loadParam p param = .ok v t) (ha : Mq.cvt unit v 32 = some a) (hat : s.atPc p (.ldp p md param unit) = true) :
    exec (.ldp p md param unit) s = .next (t.goesOn p ((t.pair p).setMq md a) 8) := exec_instr hr hp rfl (by simp [hl, ha, Tr.bind]) hat

end

/-- Settles O8: each integer instruction is an operation on the pair's registers that cannot trap (R254). -/
theorem integerResult : Obligations.IntegerResult := by
  unfold Obligations.IntegerResult
  intro s p k rd ra rb imm hr hp _ _ _
  exact ⟨exec_intOp hr hp rfl rfl, exec_intOp hr hp rfl rfl, exec_intOp hr hp rfl rfl, exec_intOp hr hp rfl rfl, exec_intOp hr hp rfl rfl, exec_intOp hr hp rfl rfl, exec_intOp hr hp rfl rfl, exec_intOp hr hp rfl rfl,
    exec_intOp hr hp rfl rfl, exec_intOp hr hp rfl rfl, exec_intOp hr hp rfl rfl, exec_intOp hr hp rfl rfl, exec_intOp hr hp rfl rfl, exec_intOp hr hp rfl rfl⟩

/-- Settles O9: each is an operation on the pair's registers whose result Md takes where there is one (R255). -/
theorem measuredResult : Obligations.MeasuredResult := by
  unfold Obligations.MeasuredResult
  intro s p k md ma mb ib unit sh mask qual a hr hp _ _ _ _ _ _ _ _
  exact ⟨exec_mqOp hr hp rfl rfl, exec_mqOp hr hp rfl rfl, exec_mqOp hr hp rfl rfl, exec_mqOp hr hp rfl rfl, exec_mqOp hr hp rfl rfl, exec_mqOp hr hp rfl rfl, exec_mqOp hr hp rfl rfl, exec_mqOp hr hp rfl rfl,
    exec_mqOp hr hp rfl rfl, exec_mqOp hr hp rfl rfl, exec_mqOp hr hp rfl rfl, exec_mqOp hr hp rfl rfl, exec_mqOp hr hp rfl rfl, exec_mqOp hr hp rfl rfl, exec_mqOp hr hp rfl rfl, exec_mqOp hr hp rfl rfl,
    exec_mqOp hr hp rfl rfl, exec_mqOp hr hp rfl rfl, exec_mqOp hr hp rfl rfl⟩

/-- Settles O11: CVI has a result for a word of a defined unit, and each load carries on from the state that the load leaves. -/
theorem loadsAndIntegers : Obligations.LoadsAndIntegers := by
  unfold Obligations.LoadsAndIntegers
  intro s p k md id ma base idx lane param unit sh nb hr hp _ _ _ _ _ _ _ hunit _
  refine ⟨fun hat hok => exec_cvi hr hp hat (if_pos hok), fun w t hl => ⟨exec_ld hr hp hl, exec_ldl hr hp hl⟩, fun v t hat hl => ?_⟩
  have ha : Mq.cvt unit v 32 = some (Mq.form unit (v * 2 ^ 40) (2 ^ 32) 0 0 0) := if_pos (decide_eq_true hunit)
  exact ⟨_, ha, exec_ldp hr hp hl ha hat⟩

end Sys2Proof.Machine
end

section
/-! BR and LOOP (R271 to R274): where control goes on. -/

namespace Sys2Proof.Machine

/-- Control that reaches a position where the innermost body does not end goes on there (R274). -/
theorem land_of_ne_stop {x : Pair} {f : LoopFrame} {fs : List LoopFrame} {pc : Nat} (n : Nat) (hl : x.loops = f :: fs) (h : pc ≠ f.stop) :
    x.land pc n = { x with pc := pc, cyc := x.cyc + n } := by
  rw [Pair.land, hl, landGo, if_neg h, ← hl]

/-- The pair as LOOP leaves it, before it goes on: index 0, and the loop's frame innermost. -/
def Pair.looping (x : Pair) (ix count len : Nat) : Pair := { x.setI ix 0 with loops := x.loopFrame ix count len :: x.loops }

section
variable {s : State} {p k : Nat} (hr : s.Runs p k) (hp : p < 8)
include hr hp

theorem exec_br {cond ra rb off : Nat} {taken : Bool} (hat : s.atPc p (.br p cond ra rb off) = true) (hcond : (s.pair p).cond cond ra rb = some taken) :
    exec (.br p cond ra rb off) s = .next (s.setPair p ((s.pair p).land ((s.pair p).pc + 1 + (if taken then off else 0)) 2)) := by
  obtain ⟨htask, hbad⟩ := hr
  exact (exec_tally rfl (wf_of_atPc hp hat) hat).trans (congrArg _ (by simp [State.instrAt, htask, hbad, hcond]))

theorem exec_loop {x count len : Nat} (hat : s.atPc p (.loop p x count len) = true) :
    exec (.loop p x count len) s = .next (s.goesOn p ((s.pair p).looping x count len) 2) := exec_instr hr hp rfl rfl hat

end

/-- A loop's body, which is not empty, begins at the next position. -/
theorem land_looping (x : Pair) (ix count n : Nat) {len : Nat} (h : 1 ≤ len) :
    (x.looping ix count len).land (x.pc + 1) n = { x.looping ix count len with pc := x.pc + 1, cyc := x.cyc + n } :=
  land_of_ne_stop n rfl (Nat.ne_of_lt (Nat.lt_add_of_pos_right h))

/-- Settles O14: the branch's condition gives the position that control reaches; LOOP's frame ends behind the next position, so that the body begins there. -/
theorem controlGoesOn : Obligations.ControlGoesOn := by
  unfold Obligations.ControlGoesOn
  intro s p k cond ra rb off x count len taken hr hp _ _ _ hlen _ _
  refine ⟨exec_br hr hp, fun hat => .of_next (exec_loop hr hp hat) ?_⟩
  have hpair : (s.goesOn p ((s.pair p).looping x count len) 2).pair p = _ := (pair_goesOn_same ..).trans (land_looping (s.pair p) x count 2 hlen)
  rw [hpair]
  exact ⟨rfl, alGet_alSet_same .., rfl, rfl, rfl⟩

end Sys2Proof.Machine
end

section
/-! EMITV, EMITT, EMITE and EMITI (R277): an emission joins the task's buffer. -/

namespace Sys2Proof.Machine

@[simp] theorem land_emits (x : Pair) (pc n : Nat) : (x.land pc n).emits = x.emits := by
  obtain ⟨_, _, _, _, h⟩ := land_frame x pc n
  rw [h]

section
variable {s : State} {p k : Nat} {c : Instr} (hr : s.Runs p k) (hp : p < 8) (hroom : (s.pair p).emits.length < 48)
include hr hp hroom

/-- An emission with room in the buffer (R237): the pair goes on with it at the buffer's end, and nothing outside the pair changes. -/
theorem emission_completes {f : Nat → State → Option (Nat × Nat × List Byte)} {kind src : Nat} {pl : List Byte} (h : exec c s = s.tally p c (s.emitOp p f)) (hf : f k s = some (kind, src, pl))
    (hat : s.atPc p c = true) : s.Completes c fun t =>
      (t.pair p).emits = (s.pair p).emits ++ [{ kind := kind, stream := s.taskStream k, src := src, payload := pl }] ∧ t.ring = s.ring ∧ t.regs = s.regs ∧ t.mem = s.mem := by
  refine .of_next (exec_instr (x := { s.pair p with emits := (s.pair p).emits ++ [{ kind := kind, stream := s.taskStream k, src := src, payload := pl }] }) hr hp h ?_ hat) ⟨?_, rfl, rfl, rfl⟩
  · simp only [hf, if_neg (Nat.not_le.2 hroom)]
  · rw [pair_goesOn_same, land_emits]

end

/-- Settles O15: each of the four emissions answers its kind, source and payload, EMITT for a totalizer that the task may use, and the pair goes on with the emission in its buffer. -/
theorem emissionsBuffer : Obligations.EmissionsBuffer := by
  unfold Obligations.EmissionsBuffer
  intro s p k m n x y code hr hp _ _ _ _ _ hroom
  exact ⟨emission_completes hr hp hroom rfl rfl, fun hmay => emission_completes hr hp hroom rfl (if_pos hmay), emission_completes hr hp hroom rfl rfl, emission_completes hr hp hroom rfl rfl⟩

end Sys2Proof.Machine
end

section
/-! The ROM flow routines (R288 to R294): what each comes to where its arguments carry their units and its loads succeed. -/

namespace Sys2Proof.Machine

theorem unitsAre_map {f : Nat → Mq} {ns us : List Nat} (h : (ns.map fun n => (f n).unit) = us) : unitsAre (ns.map f) us = true := beq_iff_eq.2 (List.map_map.trans h)

/-! A routine's results move M registers only, so that control goes on where it would have gone without them. -/

theorem results_frame (x : Pair) (n : Nat) (l : List Mq) : ∃ m, x.results n l = { x with m := m } := by
  induction l generalizing x n with
  | nil => exact ⟨x.m, rfl⟩
  | cons a l ih => exact ih (x.setMq n a) (n + 1)

theorem landGo_withM (x : Pair) (m : List (Nat × W128)) (pc : Nat) (fs : List LoopFrame) : landGo { x with m := m } pc fs = { landGo x pc fs with m := m } := by
  induction fs with
  | nil => rfl
  | cons f fs ih =>
    by_cases hstop : pc = f.stop
    · by_cases hleft : f.left = 0
      · simpa only [landGo, if_pos hstop, if_pos hleft] using ih
      · simp only [landGo, if_pos hstop, if_neg hleft]
        rfl
    · simp only [landGo, if_neg hstop]

theorem land_withM (x : Pair) (m : List (Nat × W128)) (pc k : Nat) : ({ x with m := m } : Pair).land pc k = { x.land pc k with m := m } :=
  landGo_withM { x with cyc := x.cyc + k } m pc x.loops

theorem land_results_pc (x : Pair) (l : List Mq) (n k : Nat) : ((x.results n l).land ((x.results n l).pc + 1) k).pc = (x.land (x.pc + 1) k).pc := by
  obtain ⟨m, h⟩ := results_frame x n l
  rw [h, land_withM]

/-! DENSITY's media. -/

/-- A medium's tables take p and T, and those of humid air x as well (R294). -/
theorem mediumTables_inputs {m td th n : Nat} (h : mediumTables m = some (td, th, n)) : n = 2 ∨ n = 3 := by
  unfold mediumTables at h
  split at h
  · cases h
    exact .inl rfl
  · split at h
    · cases h
      exact .inl rfl
    · split at h
      · cases h
        exact .inr rfl
      · cases h

/-- What DENSITY gives for a code that is no medium: value 0, SUB, OOR and QUAL 0xF (R294). -/
def noMedium (s : State) (x : Pair) : List Mq :=
  let z := fun (unit i : Nat) => (ratMq unit 0 (openU s i) (flOr (x.flqOf [24, 25]).1 (flSUB + flOOR)) 15 : Mq)
  [z 0x28 0, z 0x2B 1]

/-! The instructions. -/

section
variable {s : State} {p k : Nat} (hr : s.Runs p k) (hp : p < 8)
include hr hp

theorem exec_orifice (hu : ([24, 25, 26, 27, 28, 29, 30].map fun n => ((s.pair p).mq n).unit) = [0x18, 0x28, 0x2F, 0, 0x18, 0x24, 0x24]) (hat : s.atPc p (.orifice p) = true) :
    let r := orifice s ((s.pair p).ir 4).toNat (s.pair p)
    exec (.orifice p) s = .next (s.freeUsed.goesOn p (((s.pair p).results 24 r.1).setI 4 (BitVec.ofNat 32 r.2)) 1140) :=
  exec_instr hr hp rfl (if_pos (unitsAre_map hu)) hat

theorem exec_venturi (hu : ([24, 25, 27, 28, 29, 30].map fun n => ((s.pair p).mq n).unit) = [0x18, 0x28, 0, 0x18, 0x24, 0x24]) (hm : unitOk ((s.pair p).mq 26).unit = true)
    (hat : s.atPc p (.venturi p) = true) :
    exec (.venturi p) s = .next (s.freeUsed.goesOn p ((s.pair p).results 24 (venturi s ((s.pair p).ir 4).toNat (s.pair p))) 260) :=
  exec_instr hr hp rfl (if_pos (Bool.and_eq_true_iff.2 ⟨unitsAre_map hu, hm⟩)) hat

theorem exec_normvol (hu : ([25, 26, 27].map fun n => ((s.pair p).mq n).unit) = [0x18, 0x1C, 0]) (hq : ((s.pair p).mq 24).unit = 0x0B ∨ ((s.pair p).mq 24).unit = 9)
    (hat : s.atPc p (.normvol p 0) = true) :
    let r := normvol s ((s.pair p).ir 4).toNat 0 (s.pair p)
    exec (.normvol p 0) s = .next (s.freeUsed.goesOn p (((s.pair p).results 24 r.1).propNotes r.2) 280) :=
  exec_instr hr hp rfl (if_pos (Bool.and_eq_true_iff.2 ⟨unitsAre_map hu, by simpa using hq⟩)) hat

theorem exec_density {td th n : Nat} (hm : mediumTables ((s.pair p).ir 4).toNat = some (td, th, n))
    (hu : unitsAre ((List.range n).map fun m => (s.pair p).mq (24 + m)) ([0x18, 0x1C, 0].take n) = true) (hat : s.atPc p (.density p 0) = true) :
    let ins := (List.range n).map fun m => (s.pair p).mq (24 + m)
    let d := propEval td ins false
    let h := propEval th ins false
    exec (.density p 0) s = .next (s.goesOn p (((s.pair p).results 24 [d.1, h.1]).propNotes [(td, d.2), (th, h.2)]) 180) :=
  exec_instr hr hp rfl (by simp only [hm, hu]; rfl) hat

theorem exec_density_noMedium (hm : mediumTables ((s.pair p).ir 4).toNat = none) (hu : unitsAre ([24, 25].map (s.pair p).mq) [0x18, 0x1C] = true)
    (hat : s.atPc p (.density p 0) = true) :
    exec (.density p 0) s = .next (s.freeUsed.goesOn p ((s.pair p).results 24 (noMedium s (s.pair p))) 180) :=
  exec_instr hr hp rfl (by simp only [hm]; exact if_pos hu) hat

section
variable {t u v : State} (hst : s.taskStream k ≠ 0xFF)
include hst

theorem exec_upath {h : List Byte} {es : List (List Byte)} {ps : List Int}
    (hh : s.loadN p (pageOff (s.taskStream k) + 0x800 * ((s.pair p).cycle % 2)) 1 = .ok h t)
    (he : t.loadEntries p (pageOff (s.taskStream k) + 0x800 * ((s.pair p).cycle % 2) + 0x40) (t.npath (s.taskStream k)) = .ok es u)
    (hps : u.loadParams p ((u.pair p).ir 5).toNat (4 + 2 * u.npath (s.taskStream k)) = .ok ps v) (hat : s.atPc p (.upath p) = true) :
    let r := upath v (s.taskStream k) (s.pair p).cycle (fun n => v.calFl p (v.pathKeys (s.taskStream k) n)) h es ps
    exec (.upath p) s = .next (({ v with freeCtr := v.freeCtr + 32 } : State).goesOn p (((v.pair p).results 24 r.1).setI 4 (BitVec.ofNat 32 r.2)) (120 + 170 * s.npath (s.taskStream k))) := by
  have hexec : exec (.upath p) s = execUpath p s := rfl
  rw [execUpath, hr.1] at hexec
  exact exec_instr hr hp hexec (by simp only [if_neg hst, hh, he, hps, Tr.bind]) hat

end

section
variable {t u : State} {r : List Byte × List Byte} {ps : List Int} (hmay : s.pulseMay (s.taskStream k) (((s.pair p).ir 4).toNat % 2) = true)
  (hl : s.loadPulses p (s.taskStream k) (((s.pair p).ir 4).toNat % 2) = .ok r t) (hok : m31Ok u (u.pair p) (((s.pair p).ir 4).toNat % 2) r = true)
include hmay hl hok

theorem exec_kfactor (hps : t.loadParams p ((t.pair p).ir 5).toNat 26 = .ok ps u) (hat : s.atPc p (.kfactor p) = true) :
    exec (.kfactor p) s = .next (u.freeUsed.goesOn p (kfactor u (u.pair p) (((s.pair p).ir 4).toNat % 2) r ps) 230) :=
  exec_instr hr hp rfl (by simp only [if_pos hmay, hl, hps, hok, Tr.bind]; rfl) hat

theorem exec_freq (hps : t.loadParams p ((t.pair p).ir 5).toNat 3 = .ok ps u) (hat : s.atPc p (.freq p) = true) :
    exec (.freq p) s = .next (u.freeUsed.goesOn p (freqRun u (u.pair p) (((s.pair p).ir 4).toNat % 2) r ps) 150) :=
  exec_instr hr hp rfl (by simp only [if_pos hmay, hl, hps, hok, Tr.bind]; rfl) hat

end

end

/-- Settles O19: with its units each routine completes; a code that is no medium gives substitutes in M24 and M25, and control goes on all the same. -/
theorem flowRoutines : Obligations.FlowRoutines := by
  unfold Obligations.FlowRoutines
  intro s p k hr hp
  refine ⟨exec_orifice hr hp, exec_venturi hr hp, exec_normvol hr hp, fun hat h24 h25 => ⟨fun td th n hm h26 => ?_, fun hm => ?_⟩⟩
  · refine exec_density hr hp hm (unitsAre_map ?_) hat
    obtain rfl | rfl := mediumTables_inputs hm
    · simp [List.range_succ, h24, h25]
    · simp [List.range_succ, h24, h25, h26 rfl]
  · refine .of_next (exec_density_noMedium hr hp hm (unitsAre_map (by simp [h24, h25])) hat) ⟨?_, rfl, rfl⟩
    rw [pair_goesOn_same, pair_goesOn_same, land_results_pc]

/-- Settles O20: each routine goes on from the state that its last load leaves. -/
theorem meterRoutines : Obligations.MeterRoutines := by
  unfold Obligations.MeterRoutines
  intro s p k hr hp
  exact ⟨fun h es ps t u v hst hh he hps => exec_upath hr hp hst hh he hps,
    fun r ps t u hmay hl => ⟨fun hps hok => exec_kfactor hr hp hmay hl hok hps, fun hps hok => exec_freq hr hp hmay hl hok hps⟩⟩

end Sys2Proof.Machine
end

section
/-! What every command and every step come to: a command either completes or names a unit that the part has not, and a step is a command or an idle tick (log entries 1 and 175). -/

namespace Sys2Proof.Machine

/-- Every arm of the dispatch answers a next state under the check of its operands, `Instr.wf`, which holds outright for a command without operands. -/
theorem exec_guarded (c : Instr) (s : State) : ∃ t, exec c s = guardUnit c.wf t := by
  cases c <;> exact ⟨_, rfl⟩

theorem step_command {s : State} {c : Instr} {rest : List Instr} (h : s.pending = c :: rest) : step s = exec c { s with pending := rest } := by rw [step, h]

/-- Settles O1: the queue's front decides the match in `step`. -/
theorem stepRunsFront : Obligations.StepRunsFront := fun _ _ _ => step_command

/-- Settles O3: the operands' check decides between a next state and the fault, and no command touches the queue. -/
theorem commandsComplete : Obligations.CommandsComplete := by
  unfold Obligations.CommandsComplete
  intro c s
  obtain ⟨t, h⟩ := exec_guarded c s
  refine ⟨fun hw => ?_, fun hw => by rw [h, hw]; rfl⟩
  have ht := exec_guardUnit h hw
  exact ⟨t, ht, (exec_eff c s t ht).pending rfl⟩

/-- Settles O6: an idle step and every command keep the canonical forms. -/
theorem stepKeepsCanonical : Obligations.StepKeepsCanonical := by
  unfold Obligations.StepKeepsCanonical
  intro s t hs h
  cases hp : s.pending with
  | nil =>
    obtain rfl := Host.Outcome.next.inj ((step_idle hp).symm.trans h)
    exact (State.idle_eff s).canonical hs
  | cons c rest =>
    rw [step_command hp] at h
    exact (exec_eff c _ t h).canonical hs

/-! The idle tick (R295 to R297). -/

theorem timeShow_time (s : State) : s.timeShow.time = s.time := (State.timeShow_eff s).time rfl

theorem tick_fast {s : State} (h : s.time.fast = true) : s.tick.time.plls = s.time.plls + 1 ∧
    s.tick.time.t = s.time.t + (s.time.acc + (262144 * (1000000000000 + rateLimit s.time.asked)).toNat) / 1000000000000 := by
  rw [State.tick, if_pos h, State.tickFast, timeShow_time]
  exact ⟨rfl, rfl⟩

theorem tick_asleep {s : State} (hf : s.time.fast = false) (hsys : s.time.sys = false) (hcls : s.boot.cls ≠ 1) (hao : s.pins.heldAo = false) :
    s.tick = s.carry s.sleepPeriod s.sleepRate := by
  simp [State.tick, hf, hsys, hcls, hao]

theorem carryBy_time (s : State) (x : Nat) : (s.carryBy x).time.plls = s.time.plls ∧ (s.carryBy x).time.t = s.time.t + (s.time.acc + x) / 1000000000000 := ⟨rfl, rfl⟩

theorem tick_reset {s : State} (hf : s.time.fast = false) (hsys : s.time.sys = false) (h : s.boot.cls = 1 ∨ s.pins.heldAo = true) : s.tick = s := by
  rcases h with h | h <;> simp [State.tick, hf, hsys, h]

/-- Settles O2: each state of the time carrier has its own tick. -/
theorem idleStepTicks : Obligations.IdleStepTicks := by
  unfold Obligations.IdleStepTicks
  refine fun s hp => ⟨step_idle hp, tick_fast, fun hf hsys hcls hao => ?_, tick_reset⟩
  rw [tick_asleep hf hsys hcls hao, State.carry]
  exact carryBy_time ..

end Sys2Proof.Machine
end

section
/-! SUPPORT. Reading fields past writes that miss them, signed fields, counters that saturate, and the four words of a time snapshot (R4, R5, R295). -/

namespace Sys2Proof.Machine

theorem rw_of_regs {s t : State} (h : t.regs = s.regs) (a : Nat) : t.rw a = s.rw a := by rw [State.rw, State.rw, h]

theorem get_of_regs {s t : State} (h : t.regs = s.regs) (f : Fld) : t.get f = s.get f := by rw [State.get, State.get, rw_of_regs h]

theorem on_of_regs {s t : State} (h : t.regs = s.regs) (f : Fld) : t.on f = s.on f := by rw [State.on, State.on, get_of_regs h]

theorem get_lt (s : State) (f : Fld) : s.get f < 2 ^ (f.hi + 1 - f.lo) := bitsOf_lt ..

theorem getI_of_regs {s t : State} (h : t.regs = s.regs) (f : Fld) : t.getI f = s.getI f := by rw [State.getI, State.getI, get_of_regs h]

theorem get_sat (s : State) (f : Fld) (n : Nat) (h : f.hi < 32) : (s.sat f n).get f = min f.max (s.get f + n) := by
  have hlt : min f.max (s.get f + n) < 2 ^ (f.hi + 1 - f.lo) := by
    have := Nat.two_pow_pos (f.hi + 1 - f.lo)
    unfold Fld.max
    omega
  rw [State.sat, get_set s f _ h, Nat.mod_eq_of_lt hlt]

/-- A signed number is the value of its two's complement code. -/
theorem sext_utwo {w : Nat} {x : Int} (hw : 0 < w) (hlo : -(2 ^ (w - 1) : Nat) ≤ x) (hhi : x < (2 ^ (w - 1) : Nat)) : sext w (utwo w x % 2 ^ w) = x := by
  obtain ⟨k, rfl⟩ : ∃ k, w = k + 1 := ⟨w - 1, by omega⟩
  have hp := Nat.two_pow_pos k
  have h2 : 2 ^ (k + 1) = 2 * 2 ^ k := by rw [Nat.pow_succ, Nat.mul_comm]
  unfold sext utwo
  simp only [Nat.add_sub_cancel] at hlo hhi ⊢
  obtain ⟨m, hm⟩ : ∃ m, m = 2 ^ k := ⟨_, rfl⟩
  rw [h2, ← hm]
  rw [← hm] at hlo hhi hp
  have hlt := Int.emod_lt_of_pos x (show (0 : Int) < (2 * m : Nat) by omega)
  have hmod : (x % ((2 * m : Nat) : Int)).toNat < 2 * m := by omega
  rw [Nat.mod_mod, Nat.mod_eq_of_lt hmod]
  by_cases hx : 0 ≤ x
  · have : x % ((2 * m : Nat) : Int) = x := Int.emod_eq_of_lt hx (by omega)
    rw [if_pos] <;> omega
  · have : x % ((2 * m : Nat) : Int) = x + (2 * m : Nat) := by
      rw [← Int.add_emod_right, Int.emod_eq_of_lt] <;> omega
    rw [if_neg] <;> omega

/-- A signed field set in its range is read back. -/
theorem getI_setI (s : State) (f : Fld) {x : Int} (h : f.hi < 32) (hw : f.lo ≤ f.hi) (hlo : -(2 ^ (f.hi - f.lo) : Nat) ≤ x) (hhi : x < (2 ^ (f.hi - f.lo) : Nat)) :
    (s.setI f x).getI f = x := by
  have he : f.hi + 1 - f.lo - 1 = f.hi - f.lo := by omega
  rw [State.getI, State.setI, get_set s f _ h]
  exact sext_utwo (by omega) (by rwa [he]) (by rwa [he])

theorem sext_range {w : Nat} (hw : 0 < w) (v : Nat) : -(2 ^ (w - 1) : Nat) ≤ sext w v ∧ sext w v < (2 ^ (w - 1) : Nat) := by
  obtain ⟨k, rfl⟩ : ∃ k, w = k + 1 := ⟨w - 1, by omega⟩
  have h2 : 2 ^ (k + 1) = 2 * 2 ^ k := by rw [Nat.pow_succ, Nat.mul_comm]
  have hlt := Nat.mod_lt v (Nat.two_pow_pos (k + 1))
  unfold sext
  simp only [Nat.add_sub_cancel]
  split <;> omega

/-- Four consecutive registers take four words. -/
def State.setFour (s : State) (f : Nat → Fld) (w : Nat → Nat) : State := (((s.set (f 0) (w 0)).set (f 1) (w 1)).set (f 2) (w 2)).set (f 3) (w 3)

theorem setFour_frame (s : State) (f : Nat → Fld) (w : Nat → Nat) : s.setFour f w = { s with regs := (s.setFour f w).regs } ∧
    ∀ a, a ∉ [(f 0).addr, (f 1).addr, (f 2).addr, (f 3).addr] → (s.setFour f w).rw a = s.rw a := by
  refine ⟨rfl, fun a ha => ?_⟩
  simp only [List.mem_cons, List.not_mem_nil, or_false, not_or] at ha
  obtain ⟨h0, h1, h2, h3⟩ := ha
  rw [State.setFour, rw_set _ _ _ h3, rw_set _ _ _ h2, rw_set _ _ _ h1, rw_set _ _ _ h0]

theorem setFour_get (s : State) (a : Nat) (w : Nat → Nat) {k : Nat} (hk : k < 4) :
    (s.setFour (fun k => ⟨a + 4 * k, 31, 0⟩) w).get ⟨a + 4 * k, 31, 0⟩ = w k % 2 ^ 32 := by
  obtain rfl | rfl | rfl | rfl : k = 0 ∨ k = 1 ∨ k = 2 ∨ k = 3 := by omega
  all_goals simp [State.setFour, get_set, get_set_addr]

end Sys2Proof.Machine
end

section
/-! TIME_NOW_READ, TIME_STAMP_GO, GW_TIME_READ, TIME_CYCLE_READ, HOLDOVER_TIMEOUT, XOFS_LEARN and PHASE_AMORTISED (R295, R297, R299, R300, R307, R312, R317). -/

namespace Sys2Proof.Machine

/-! Snapshots of time. -/

variable {s : State}

theorem timeWord_lt (k : Nat) : s.timeWord k < 2 ^ 32 := by
  unfold State.timeWord State.ns State.sec State.frac secT
  split
  · omega
  · split
    · omega
    · split <;> omega

theorem timeWord_eq : s.timeWord 0 = s.time.t % (1000000000 * 65536) / 65536 ∧ s.timeWord 1 = s.time.t / (1000000000 * 65536) % 2 ^ 32 ∧
    s.timeWord 2 = s.time.t / (1000000000 * 65536) / 2 ^ 32 % 2 ^ 32 ∧ s.timeWord 3 = s.time.t % 65536 := ⟨rfl, rfl, rfl, rfl⟩

/-- Four registers that take a snapshot of Heartwood time show it. -/
theorem snapshot_shows (a : Nat) : let t := s.setFour (fun k => ⟨a + 4 * k, 31, 0⟩) s.timeWord
    t.get ⟨a + 4 * 0, 31, 0⟩ = s.time.t % (1000000000 * 65536) / 65536 ∧ t.get ⟨a + 4 * 1, 31, 0⟩ = s.time.t / (1000000000 * 65536) % 2 ^ 32 ∧
      t.get ⟨a + 4 * 2, 31, 0⟩ = s.time.t / (1000000000 * 65536) / 2 ^ 32 % 2 ^ 32 ∧ t.get ⟨a + 4 * 3, 31, 0⟩ = s.time.t % 65536 := by
  obtain ⟨h0, h1, h2, h3⟩ := timeWord_eq (s := s)
  refine ⟨?_, ?_, ?_, ?_⟩ <;> rw [setFour_get _ _ _ (by decide), Nat.mod_eq_of_lt (timeWord_lt _)] <;> assumption

theorem exec_timeStampGo_of_set {v : Word} (h : v.getLsbD 0 = true) : exec (.timeStampGo v) s = .next (s.setFour F.TIME.STAMPW.ALL s.timeWord) := by
  have hv : bitsOf v.toNat 0 0 = 1 := by
    have : v.toNat.testBit 0 = true := h
    simpa [bitsOf] using this
  show Host.Outcome.next (s.timeStamp v) = _
  rw [State.timeStamp, if_pos hv, State.setFour]

theorem exec_timeStampGo_of_clear {v : Word} (h : v.getLsbD 0 = false) : exec (.timeStampGo v) s = .next s := by
  have hv : bitsOf v.toNat 0 0 ≠ 1 := by
    have : v.toNat.testBit 0 = false := h
    simpa [bitsOf] using this
  show Host.Outcome.next (s.timeStamp v) = _
  rw [State.timeStamp, if_neg hv]

theorem exec_timeNowRead : exec .timeNowRead s = .next (s.setFour F.TIME.NOW.ALL s.timeWord) := rfl

theorem exec_gwTimeRead : exec .gwTimeRead s = .next (s.setFour F.GW.TIME.ALL s.gwTime) := rfl

theorem gwTime_of_valid (hr : s.on F.FLT.BOOT_STATUS.READY = true) (hh : s.pins.heldH = false) (k : Nat) :
    s.gwTime k = if k = 3 then s.frac + s.get F.TIME.STATUS.SYNC * 2 ^ 16 + 2 ^ 31 else s.timeWord k := by
  simp [State.gwTime, State.timeValid, hr, hh]

theorem gwTime_of_not_valid (h : s.on F.FLT.BOOT_STATUS.READY = false ∨ s.pins.heldH = true) (k : Nat) : s.gwTime k = 0 := by
  rcases h with h | h <;> simp [State.gwTime, State.timeValid, h]

/-- The words that Sapwood reads are those of the snapshot, the last with the state of synchronisation and the valid bit above the fraction. -/
theorem gwTime_shows (hr : s.on F.FLT.BOOT_STATUS.READY = true) (hh : s.pins.heldH = false) (a : Nat) : let t := s.setFour (fun k => ⟨a + 4 * k, 31, 0⟩) s.gwTime
    (t.get ⟨a + 4 * 0, 31, 0⟩ = s.time.t % (1000000000 * 65536) / 65536 ∧ t.get ⟨a + 4 * 1, 31, 0⟩ = s.time.t / (1000000000 * 65536) % 2 ^ 32 ∧
      t.get ⟨a + 4 * 2, 31, 0⟩ = s.time.t / (1000000000 * 65536) / 2 ^ 32 % 2 ^ 32) ∧ t.get ⟨a + 4 * 3, 31, 0⟩ = s.time.t % 65536 + s.get F.TIME.STATUS.SYNC * 2 ^ 16 + 2 ^ 31 := by
  have hsync : s.get F.TIME.STATUS.SYNC < 4 := get_lt s F.TIME.STATUS.SYNC
  obtain ⟨h0, h1, h2, -⟩ := timeWord_eq (s := s)
  refine ⟨⟨?_, ?_, ?_⟩, ?_⟩ <;> rw [setFour_get _ _ _ (by decide), gwTime_of_valid hr hh]
  · exact (Nat.mod_eq_of_lt (timeWord_lt 0)).trans h0
  · exact (Nat.mod_eq_of_lt (timeWord_lt 1)).trans h1
  · exact (Nat.mod_eq_of_lt (timeWord_lt 2)).trans h2
  · rw [if_pos rfl, State.frac, Nat.mod_eq_of_lt]
    omega

theorem timeCycleRead_shows : s.Completes .timeCycleRead fun t => t.get (F.TIME.CYCLE.CYCLE 0) = s.time.cycle % 2 ^ 32 ∧ t.get (F.TIME.CYCLE.CYCLE 1) = s.time.cycle / 2 ^ 32 % 2 ^ 32 ∧
    t = { s with regs := t.regs } ∧ ∀ a, a ∉ [(F.TIME.CYCLE.CYCLE 0).addr, (F.TIME.CYCLE.CYCLE 1).addr] → t.rw a = s.rw a := by
  refine .of_next rfl ⟨?_, get_set _ _ _ (by decide), rfl, fun a ha => ?_⟩
  · exact (get_set_addr _ _ (by decide)).trans (get_set _ _ _ (by decide))
  · simp only [List.mem_cons, List.not_mem_nil, or_false, not_or] at ha
    rw [rw_set _ _ _ ha.2, rw_set _ _ _ ha.1]

/-! Holding, learning and slewing. -/

/-- SYNC that has gone uncorrected falls to HOLDOVER in the state `u` of that instant, which the interval notes. -/
theorem holdover_falls (u : State) : let t := (u.set F.TIME.STATUS.SYNC 2).intervalNote 0
    t.get F.TIME.STATUS.SYNC = 2 ∧ t.time = u.time ∧ t.mem = u.mem ∧ ∀ a, a ≠ F.TIME.STATUS.ALL.addr → t.rw a = u.rw a := by
  have h := State.intervalNote_eff (u.set F.TIME.STATUS.SYNC 2) 0
  refine ⟨?_, h.time rfl, h.mem rfl, fun a ha => ?_⟩
  · exact (get_of_regs (h.regs rfl) _).trans (get_set _ _ _ (by decide))
  · exact (rw_of_regs (h.regs rfl) a).trans (rw_set u F.TIME.STATUS.SYNC 2 ha)

theorem sleepTo_t (t : Nat) : (s.sleepTo t).time.t = max s.time.t t := by
  unfold State.sleepTo
  split
  · omega
  · show t = _
    omega

theorem exec_holdoverTimeout (h : s.get F.TIME.STATUS.SYNC = 1) :
    exec .holdoverTimeout s = .next (((if s.time.fast then (s.advanceTo s.holdEnd).settle else s.sleepTo s.holdEnd).set F.TIME.STATUS.SYNC 2).intervalNote 0) :=
  congrArg Host.Outcome.next (if_pos h)

theorem holdover_awake (h : s.get F.TIME.STATUS.SYNC = 1) (hf : s.time.fast = true) : s.Completes .holdoverTimeout fun t =>
    t.get F.TIME.STATUS.SYNC = 2 ∧ t.time = (s.advanceTo s.holdEnd).settle.time ∧ t.mem = (s.advanceTo s.holdEnd).settle.mem ∧
      ∀ a, a ≠ F.TIME.STATUS.ALL.addr → t.rw a = (s.advanceTo s.holdEnd).settle.rw a := by
  refine .of_next (exec_holdoverTimeout h) ?_
  rw [hf, if_pos rfl]
  exact holdover_falls _

theorem holdover_asleep (h : s.get F.TIME.STATUS.SYNC = 1) (hf : s.time.fast = false) : s.Completes .holdoverTimeout fun t =>
    t.get F.TIME.STATUS.SYNC = 2 ∧ t.time.t = max s.time.t s.holdEnd ∧ t.mem = s.mem ∧ ∀ a, a ≠ F.TIME.STATUS.ALL.addr → t.rw a = s.rw a := by
  have hu := State.sleepTo_eff s s.holdEnd
  obtain ⟨hsync, htime, hmem, hrw⟩ := holdover_falls (s.sleepTo s.holdEnd)
  refine .of_next (exec_holdoverTimeout h) ?_
  rw [hf, if_neg (by decide)]
  exact ⟨hsync, by rw [htime, sleepTo_t], hmem.trans (hu.mem rfl), fun a ha => (hrw a ha).trans (rw_of_regs (hu.regs rfl) a)⟩

/-- XOFS moves between its value and the offset measured, an eighth of the way to a whole unit on either side. -/
theorem xofsNext_eighth (x m : Int) (up : Bool) :
    (xofsNext x m up = x + (m - x) / 8 ∨ ((m - x) % 8 ≠ 0 ∧ xofsNext x m up = x + (m - x) / 8 + 1)) ∧ min x m ≤ xofsNext x m up ∧ xofsNext x m up ≤ max x m := by
  unfold xofsNext
  dsimp only
  split
  · omega
  · cases up <;> simp <;> omega

/-- A free choice has been taken and the learning is noted. -/
def State.noteLearned (s : State) : State := { s with freeCtr := s.freeCtr + 1, time := { s.time with learned := true } }

theorem noteLearned_regs : s.noteLearned.regs = s.regs := rfl

theorem noteLearned_xofs {m : Int} (hlo : -128 ≤ m) (hhi : m < 128) (up : Bool) :
    ((s.setI F.TIME.XTAL.XOFS (xofsNext (s.getI F.TIME.XTAL.XOFS) m up)).noteLearned).getI F.TIME.XTAL.XOFS = xofsNext (s.getI F.TIME.XTAL.XOFS) m up := by
  obtain ⟨hxlo, hxhi⟩ := sext_range (w := 8) (by decide) (s.get F.TIME.XTAL.XOFS)
  change _ ≤ s.getI F.TIME.XTAL.XOFS at hxlo
  change s.getI F.TIME.XTAL.XOFS < _ at hxhi
  obtain ⟨-, hmin, hmax⟩ := xofsNext_eighth (s.getI F.TIME.XTAL.XOFS) m up
  refine (getI_of_regs noteLearned_regs _).trans (getI_setI s F.TIME.XTAL.XOFS (by decide) (by decide) ?_ ?_) <;> simp at * <;> omega

theorem exec_xofsLearn {m : Int} (hf : s.time.fast = true) (hsync : s.get F.TIME.STATUS.SYNC = 1) (haw : 100000000 * 65536 ≤ s.time.awake) :
    exec (.xofsLearn m) s = .next (s.setI F.TIME.XTAL.XOFS (xofsNext (s.getI F.TIME.XTAL.XOFS) m (Config.freeBool s.freeCtr))).noteLearned := by
  show execXofsLearn m s = _
  rw [execXofsLearn, if_pos (by simp [hf, hsync, haw])]
  rfl

theorem noteLearned_learned : s.noteLearned.time.learned = true := rfl

theorem xofsLearn_moves {m : Int} (hf : s.time.fast = true) (hsync : s.get F.TIME.STATUS.SYNC = 1) (haw : 100000000 * 65536 ≤ s.time.awake) (hlo : -128 ≤ m) (hhi : m < 128) :
    s.Completes (.xofsLearn m) fun t => (t.getI F.TIME.XTAL.XOFS = s.getI F.TIME.XTAL.XOFS + (m - s.getI F.TIME.XTAL.XOFS) / 8 ∨
      ((m - s.getI F.TIME.XTAL.XOFS) % 8 ≠ 0 ∧ t.getI F.TIME.XTAL.XOFS = s.getI F.TIME.XTAL.XOFS + (m - s.getI F.TIME.XTAL.XOFS) / 8 + 1)) ∧ t.time.learned = true := by
  refine .of_next (exec_xofsLearn hf hsync haw) ⟨?_, noteLearned_learned⟩
  rw [noteLearned_xofs hlo hhi]
  exact (xofsNext_eighth ..).1

theorem rateLimit_range (x : Int) : -200000000 ≤ rateLimit x ∧ rateLimit x ≤ 200000000 := by
  unfold rateLimit clampI
  omega

/-- The time base shows the rate in force, and once no phase is left, that none is. -/
theorem timeShow_shows (s : State) : s.timeShow.getI F.TIME.FREQ.VALUE = rateLimit s.time.asked ∧
    (s.time.phase = 0 → s.timeShow.on F.TIME.STATUS.SLEWING = false ∧ s.timeShow.getI F.TIME.PHASE.VALUE = 0) := by
  obtain ⟨hlo, hhi⟩ := rateLimit_range s.time.asked
  have hfreq : (s.setI F.TIME.FREQ.VALUE (rateLimit s.time.asked)).getI F.TIME.FREQ.VALUE = rateLimit s.time.asked :=
    getI_setI _ _ (by decide) (by decide) (by simp; omega) (by simp; omega)
  rw [State.getI, State.setI] at hfreq
  have hget : ∀ f : Fld, f.addr ≠ F.TIME.STATUS.ALL.addr → s.timeShow.get f = ((s.setI F.TIME.FREQ.VALUE (rateLimit s.time.asked)).setI F.TIME.PHASE.VALUE s.time.phaseNs).get f := fun f hf => by
    unfold State.timeShow
    dsimp only
    split <;> simp [State.setB, get_set_addr, hf]
  refine ⟨?_, fun hp => ⟨?_, ?_⟩⟩
  · rw [State.getI, hget _ (by decide), State.setI, get_set_addr _ _ (by decide)]
    exact hfreq
  · unfold State.timeShow
    dsimp only
    split <;> simp [hp, State.setB, State.on, get_set_disj, get_set]
  · have hp0 : s.time.phaseNs = 0 := by simp [TimeBase.phaseNs, hp]
    rw [State.getI, hget _ (by decide), hp0]
    exact getI_setI _ _ (by decide) (by decide) (by simp) (by simp)

theorem exec_phaseAmortised (hp : s.time.phase ≠ 0) (hr : rateLimit s.time.asked ≠ rateLimit s.time.freq) : exec .phaseAmortised s = .next ({ s with time := { s.time with phase := 0 } } : State).timeShow :=
  congrArg Host.Outcome.next (if_neg (by simp [hp, hr]))

theorem phaseAmortised_shows (hp : s.time.phase ≠ 0) (hr : rateLimit s.time.asked ≠ rateLimit s.time.freq) : s.Completes .phaseAmortised fun t =>
    t.time = { s.time with phase := 0 } ∧ t.on F.TIME.STATUS.SLEWING = false ∧ t.getI F.TIME.FREQ.VALUE = rateLimit s.time.freq ∧ t.getI F.TIME.PHASE.VALUE = 0 := by
  obtain ⟨hfreq, hphase⟩ := timeShow_shows { s with time := { s.time with phase := 0 } }
  refine .of_next (exec_phaseAmortised hp hr) ⟨timeShow_time _, (hphase rfl).1, hfreq.trans ?_, (hphase rfl).2⟩
  simp [TimeBase.asked, sgn]

/-- Settles O24: a snapshot takes four words of one instant, and the rest is the state of synchronisation, the learned offset and the rate in force. -/
theorem timeAndRate : Obligations.TimeAndRate := by
  unfold Obligations.TimeAndRate
  refine ⟨fun s v => ⟨?_, fun hv => ?_, exec_timeStampGo_of_clear, fun hr hh => ?_, fun h => ?_, timeCycleRead_shows⟩, fun s m => ⟨holdover_awake, holdover_asleep, fun h => congrArg Host.Outcome.next (if_neg h), xofsLearn_moves, phaseAmortised_shows⟩⟩
  · obtain ⟨h0, h1, h2, h3⟩ := snapshot_shows (s := s) 0x40040010
    exact .of_next exec_timeNowRead ⟨⟨h0, h1, h2⟩, h3, setFour_frame s F.TIME.NOW.ALL s.timeWord⟩
  · obtain ⟨h0, h1, h2, h3⟩ := snapshot_shows (s := s) 0x40040030
    exact .of_next (exec_timeStampGo_of_set hv) ⟨⟨h0, h1, h2⟩, h3, setFour_frame s F.TIME.STAMPW.ALL s.timeWord⟩
  · obtain ⟨h, h3⟩ := gwTime_shows hr hh 0x150000040
    exact .of_next exec_gwTimeRead ⟨h, h3, setFour_frame s F.GW.TIME.ALL s.gwTime⟩
  · refine .of_next exec_gwTimeRead ⟨fun k hk => ?_, setFour_frame s F.GW.TIME.ALL s.gwTime⟩
    exact (setFour_get s 0x150000040 s.gwTime hk).trans (by rw [gwTime_of_not_valid h, Nat.zero_mod])

end Sys2Proof.Machine
end

section
/-! R444: which fields of the interrupt controllers the reset classes keep (R6, R59, R447). -/

namespace Sys2Proof.Machine

/-! What a class leaves of a register. -/

/-- A bit is in a field that is kept. -/
def keptBit (keep : FieldSpec → Bool) (fs : List FieldSpec) (i : Nat) : Bool := fs.any fun f => keep f && decide (f.lo ≤ i ∧ i < f.lo + (f.hi + 1 - f.lo))

/-- A bit of a kept field is the word's, any other the class P value's. -/
theorem testBit_keepFields (keep : FieldSpec → Bool) (w i : Nat) (fs : List FieldSpec) (v : Nat) :
    (keepFields keep w fs v).testBit i = if keptBit keep fs i then w.testBit i else v.testBit i := by
  induction fs generalizing v with
  | nil => rfl
  | cons f fs ih =>
    rw [keepFields, ih, show keptBit keep (f :: fs) i = ((keep f && decide (f.lo ≤ i ∧ i < f.lo + (f.hi + 1 - f.lo))) || keptBit keep fs i) from rfl]
    cases hk : keep f <;> cases hr : keptBit keep fs i <;> by_cases hi : f.lo ≤ i ∧ i < f.lo + (f.hi + 1 - f.lo) <;>
      simp [hi, testBit_setBits, testBit_bitsOf]
    · omega

theorem keepFields_self (keep : FieldSpec → Bool) (w : Nat) (fs : List FieldSpec) : keepFields keep w fs w = w :=
  Nat.eq_of_testBit_eq fun i => by simp [testBit_keepFields]

theorem keepWord_default (keep : FieldSpec → Bool) (a : Nat) : keepWord keep a (regDefault a) = regDefault a := by
  unfold keepWord
  split
  · rw [keepFields_self, BitVec.ofNat_toNat, BitVec.setWidth_eq]
  · rfl

theorem alFind_map {α : Type} (f : Nat → α → α) (m : List (Nat × α)) (k : Nat) : alFind (m.map fun e => (e.1, f e.1 e.2)) k = (alFind m k).map (f k) := by
  induction m with
  | nil => rfl
  | cons e m ih =>
    by_cases h : k = e.1
    · simp [alFind, h]
    · simp [alFind, h, ih]

theorem alFind_of_lt {α : Type} {m : List (Nat × α)} {k : Nat} (h : ∀ x ∈ m, k < x.1) : alFind m k = none := by
  induction m with
  | nil => rfl
  | cons e m ih =>
    have hk := h e List.mem_cons_self
    rw [alFind, if_neg (by omega), ih fun x hx => h x (List.mem_cons_of_mem _ hx)]

/-- Dropping the entries of a sorted map that equal the default leaves every key's value. -/
theorem getD_filter_default {α : Type} [DecidableEq α] {d : Nat → α} {m : List (Nat × α)} (h : alSorted m = true) (k : Nat) :
    (alFind (m.filter fun e => decide (e.2 ≠ d e.1)) k).getD (d k) = (alFind m k).getD (d k) := by
  induction m with
  | nil => rfl
  | cons e m ih =>
    obtain ⟨hm, hlt⟩ := (alSorted_cons _ _).1 h
    rw [List.filter_cons, alFind]
    by_cases hd : e.2 = d e.1
    · rw [if_neg (by simp [hd]), ih hm]
      by_cases hk : k = e.1
      · rw [if_pos hk, alFind_of_lt (by rw [hk]; exact hlt), hk, hd]
        rfl
      · rw [if_neg hk]
    · rw [if_pos (by simp [hd]), alFind]
      by_cases hk : k = e.1
      · rw [if_pos hk, if_pos hk]
      · rw [if_neg hk, if_neg hk, ih hm]

/-- The registers as a class leaves them. -/
def State.classRegs (s : State) (keep : Nat → FieldSpec → Bool) : State := { s with regs := regsClass keep s.regs }

/-- A register after a class. -/
theorem rw_classRegs {s : State} (keep : Nat → FieldSpec → Bool) (h : s.Canonical) (a : Nat) :
    (s.classRegs keep).rw a = keepWord (keep a) a (s.rw a) := by
  obtain ⟨hs, -⟩ := (spWf_iff _ _).1 h.2
  have hm := alSorted_map (fun e => keepWord (keep e.1) e.1 e.2) s.regs hs
  show (alFind (regsClass keep s.regs) a).getD (regDefault a) = keepWord (keep a) a ((alFind s.regs a).getD (regDefault a))
  rw [regsClass, getD_filter_default hm, alFind_map fun a w => keepWord (keep a) a w]
  cases alFind s.regs a with
  | none => exact (keepWord_default ..).symm
  | some w => rfl

/-! The registers of a controller. -/

/-- How far above its base a family of registers reaches. -/
def dimsExtent : List (Nat × Nat) → Nat
  | [] => 0
  | (st, c) :: ds => st * (c - 1) + dimsExtent ds

theorem le_of_inDims {ds : List (Nat × Nat)} {off : Nat} (h : inDims ds off = true) : off ≤ dimsExtent ds := by
  induction ds generalizing off with
  | nil => simpa [inDims, dimsExtent] using h
  | cons d ds ih =>
    obtain ⟨st, c⟩ := d
    have hle : ∀ q, off / st ≤ q → off ≤ st * q + off % st := fun q hq => by
      have := Nat.div_add_mod off st
      have := Nat.mul_le_mul_left st hq
      omega
    cases ds with
    | nil =>
      by_cases hst : st = 0
      · simp only [inDims, hst, if_true, Bool.and_eq_true, beq_iff_eq] at h
        omega
      · simp only [inDims, hst, if_false, Bool.and_eq_true, beq_iff_eq, decide_eq_true_eq] at h
        obtain ⟨-, hmod, hlt⟩ := h
        have := hle (c - 1) (by omega)
        simp only [dimsExtent]
        omega
    | cons e es =>
      rw [inDims] at h
      · simp only [Bool.and_eq_true, decide_eq_true_eq] at h
        obtain ⟨⟨-, hlt⟩, hin⟩ := h
        have := hle (c - 1) (by omega)
        have := ih hin
        simp only [dimsExtent] at *
        omega
      · simp

theorem findSpec_mem {l : List RegSpec} {a : Nat} {r : RegSpec} (h : findSpec l a = some r) : r ∈ l ∧ r.base ≤ a ∧ a ≤ r.base + dimsExtent r.dims := by
  induction l with
  | nil => cases h
  | cons x xs ih =>
    rw [findSpec] at h
    split at h
    case isTrue hx =>
      obtain rfl := Option.some.inj h
      have := le_of_inDims hx.2
      exact ⟨List.mem_cons_self, hx.1, by omega⟩
    case isFalse =>
      obtain ⟨hm, hb⟩ := ih h
      exact ⟨List.mem_cons_of_mem _ hm, hb⟩

theorem findSpec_of_mem {l : List RegSpec} {a : Nat} {r : RegSpec} (hr : r ∈ l) (hb : r.base ≤ a) (hd : inDims r.dims (a - r.base) = true) : ∃ x, findSpec l a = some x := by
  induction l with
  | nil => cases hr
  | cons x xs ih =>
    rw [findSpec]
    split
    · exact ⟨x, rfl⟩
    case isFalse hx =>
      rcases List.mem_cons.1 hr with rfl | hr
      · exact absurd ⟨hb, hd⟩ hx
      · exact ih hr

theorem regTable_ic {c : Nat} (hc : c < 2) : ∀ r ∈ regTable, r ∈ regsIcOf c ∨ icBase c + 0x700 ≤ r.base ∨ r.base + dimsExtent r.dims < icBase c := by
  obtain rfl | rfl : c = 0 ∨ c = 1 := by omega
  all_goals decide +kernel

theorem regsIcOf_table {c : Nat} (hc : c < 2) : ∀ r ∈ regsIcOf c, r ∈ regTable := by
  obtain rfl | rfl : c = 0 ∨ c = 1 := by omega
  all_goals decide +kernel

/-- The registers at a controller's addresses are the controller's. -/
theorem findSpec_ic {c a : Nat} {r : RegSpec} (hc : c < 2) (hlo : icBase c ≤ a) (hhi : a < icBase c + 0x700) (h : findSpec regTable a = some r) : r ∈ regsIcOf c ∧ a ≤ r.base + dimsExtent r.dims := by
  obtain ⟨hm, hb, he⟩ := findSpec_mem h
  rcases regTable_ic hc r hm with h | h | h
  · exact ⟨h, he⟩
  · omega
  · omega

/-- Class H keeps the fields of SIC and class S those of HIC, the bus error registers among them. -/
theorem regTable_icKept : ∀ r ∈ regTable, (icBase 1 + 0x1000 ≤ r.base ∨ r.base + dimsExtent r.dims < icBase 1 ∨ ∀ f ∈ r.fields, f.keepH = true) ∧
    (icBase 0 + 0x1000 ≤ r.base ∨ r.base + dimsExtent r.dims < icBase 0 ∨ ∀ f ∈ r.fields, f.keepS = true) := by decide +kernel

/-- Class H keeps no field of HIC and class S none of SIC, but for the sense of a source, which is fixed. -/
theorem regsIcOf_notKept {c : Nat} (hc : c < 2) : ∀ r ∈ regsIcOf c, ∀ f ∈ r.fields, (if c = 0 then f.keepH else f.keepS) = true → r.base + dimsExtent r.dims < icBase c + 0x400 ∧ f.lo = 3 ∧ f.hi = 3 := by
  obtain rfl | rfl : c = 0 ∨ c = 1 := by omega
  all_goals decide +kernel

theorem regsIcOf_reset {c : Nat} (hc : c < 2) : ∀ r ∈ regsIcOf c, fieldsReset r.fields = 0 := by
  obtain rfl | rfl : c = 0 ∨ c = 1 := by omega
  all_goals decide +kernel

/-- The enables and the PEND, ACTIVE and STORM bits of a controller: bits of its registers but the sense of a source. -/
structure IcFlag (c a i : Nat) : Prop where
  lo : icBase c ≤ a
  hi : a < icBase c + 0x700
  bit : icBase c + 0x400 ≤ a ∨ i < 3
  reg : ∃ r ∈ regsIcOf c, r.base ≤ a ∧ inDims r.dims (a - r.base) = true

theorem icFlag_default {c a i : Nat} (hc : c < 2) (h : IcFlag c a i) : (regDefault a).toNat.testBit i = false := by
  have hsense : ∀ b : Bool, i < 3 → (if b then 8 else 0 : Word).toNat.testBit i = false := fun b hi => by
    obtain rfl | rfl | rfl : i = 0 ∨ i = 1 ∨ i = 2 := by omega
    all_goals cases b <;> rfl
  have hspec : (match findSpec regTable a with | some r => BitVec.ofNat 32 (fieldsReset r.fields) | none => (0 : Word)).toNat.testBit i = false := by
    split
    case h_1 r hr => simp [regsIcOf_reset hc r (findSpec_ic hc h.lo h.hi hr).1]
    case h_2 => simp
  obtain ⟨hlo, hhi, hbit, -⟩ := h
  have hb : (c = 0 ∧ icBase c = 0x40100000) ∨ (c = 1 ∧ icBase c = 0x140001000) := by
    obtain rfl | rfl : c = 0 ∨ c = 1 := by omega
    all_goals simp [icBase]
  unfold regDefault
  split
  · exact hsense _ (by omega)
  · split
    · exact hsense _ (by omega)
    · exact hspec

/-- A flag of a controller whose class keeps none of its fields reads 0 after it. -/
theorem icFlag_cleared {s : State} {c a i : Nat} {keep : Nat → FieldSpec → Bool} (hs : s.Canonical) (hc : c < 2) (h : IcFlag c a i)
    (hkeep : ∀ f, keep a f = if c = 0 then f.keepH else f.keepS) : ((s.classRegs keep).rw a).toNat.testBit i = false := by
  obtain ⟨r0, hr0, hb0, hd0⟩ := h.reg
  obtain ⟨r, hr⟩ := findSpec_of_mem (regsIcOf_table hc r0 hr0) hb0 hd0
  obtain ⟨hmem, hend⟩ := findSpec_ic hc h.lo h.hi hr
  have hnone : keptBit (keep a) r.fields i = false := by
    refine List.any_eq_false.2 fun f hf hcon => ?_
    simp only [Bool.and_eq_true, decide_eq_true_eq, hkeep] at hcon
    obtain ⟨hb, hl, hh⟩ := regsIcOf_notKept hc r hmem f hf hcon.1
    rcases h.bit with h | h <;> omega
  rw [rw_classRegs keep hs, keepWord, hr]
  simp only [BitVec.toNat_ofNat, Nat.testBit_mod_two_pow, testBit_keepFields, hnone, icFlag_default hc h]
  simp

/-- A class that keeps every field of a register keeps their bits. -/
theorem bitsOf_kept {s : State} {keep : Nat → FieldSpec → Bool} {a : Nat} {r : RegSpec} {f : FieldSpec} (hs : s.Canonical) (hr : findSpec regTable a = some r) (hf : f ∈ r.fields)
    (hk : keep a f = true) (hhi : f.hi < 32) : bitsOf ((s.classRegs keep).rw a).toNat f.hi f.lo = bitsOf (s.rw a).toNat f.hi f.lo := by
  apply Nat.eq_of_testBit_eq
  intro i
  rw [testBit_bitsOf, testBit_bitsOf, rw_classRegs keep hs, keepWord, hr]
  by_cases hi : i < f.hi + 1 - f.lo
  · have hbit : keptBit (keep a) r.fields (f.lo + i) = true := List.any_eq_true.2 ⟨f, hf, by simp [hk]; omega⟩
    rw [BitVec.toNat_ofNat, Nat.testBit_mod_two_pow, testBit_keepFields, hbit, if_pos rfl, decide_eq_true (show f.lo + i < 32 by omega), Bool.true_and]
  · simp [hi]

/-! The flags that the statement names. -/

section Flags

variable {c n : Nat} (hn : n < 256)
include hn

theorem icFlag_group {off : Nat} (ho : off = 0x400 ∨ off = 0x440 ∨ off = 0x480) (i : Nat) : IcFlag c (icBase c + off + 4 * (n / 32)) i := by
  have hr : ∃ r ∈ regsIcOf c, r.base = icBase c + off ∧ r.dims = [(4, 8)] := by
    rcases ho with rfl | rfl | rfl <;> simp [regsIcOf]
  obtain ⟨r, hm, hb, hd⟩ := hr
  refine ⟨by omega, by omega, .inl (by omega), r, hm, by omega, ?_⟩
  rw [hb, hd, show icBase c + off + 4 * (n / 32) - (icBase c + off) = 4 * (n / 32) by omega]
  simp [inDims]
  omega

theorem icFlag_source {i : Nat} (hi : i < 3) : IcFlag c (icBase c + 4 * n) i := by
  have hr : ∃ r ∈ regsIcOf c, r.base = icBase c ∧ r.dims = [(4, 256)] := by simp [regsIcOf]
  obtain ⟨r, hm, hb, hd⟩ := hr
  refine ⟨by omega, by omega, .inr hi, r, hm, by omega, ?_⟩
  rw [hb, hd, show icBase c + 4 * n - icBase c = 4 * n by omega]
  simp [inDims, hn]

end Flags

theorem icFlag_enable {c : Nat} : IcFlag c (icBase c + 0x500) 0 := by
  have hr : ∃ r ∈ regsIcOf c, r.base = icBase c + 0x500 ∧ r.dims = [] := by simp [regsIcOf]
  obtain ⟨r, hm, hb, hd⟩ := hr
  exact ⟨by omega, by omega, .inl (by omega), r, hm, by omega, by simp [hb, hd, inDims]⟩

/-- A controller is as after its reset: nothing pending, active, masked or enabled. -/
def IcQuiet (t : State) (c : Nat) : Prop := t.ic c = Ic.reset ∧ t.on (F.IC.CTRL.EN c) = false ∧ ∀ n, n < 256 → t.on (pendF c n) = false ∧ t.on (activeF c n) = false ∧
  t.on (stormF c n) = false ∧ t.on (F.IC.SRC_CFG.EN_T0 c n) = false ∧ t.on (F.IC.SRC_CFG.EN_T1 c n) = false ∧ t.on (F.IC.SRC_CFG.EN_AOC c n) = false

theorem on_of_bit {t : State} {a i : Nat} (h : (t.rw a).toNat.testBit i = false) : t.on ⟨a, i, i⟩ = false := by
  have h0 : bitsOf (t.rw a).toNat i i = 0 := Nat.eq_of_testBit_eq fun k => by
    rw [testBit_bitsOf, Nat.zero_testBit]
    by_cases hk : k = 0
    · simp [hk, h]
    · simp [hk]
  simp [State.on, State.get, h0]

theorem icQuiet_of_flags {t : State} {c : Nat} (hic : t.ic c = Ic.reset) (h : ∀ a i, IcFlag c a i → (t.rw a).toNat.testBit i = false) : IcQuiet t c :=
  ⟨hic, on_of_bit (h _ _ icFlag_enable), fun _ hn => ⟨on_of_bit (h _ _ (icFlag_group hn (by simp) _)), on_of_bit (h _ _ (icFlag_group hn (by simp) _)),
    on_of_bit (h _ _ (icFlag_group hn (by simp) _)), on_of_bit (h _ _ (icFlag_source hn (by simp))), on_of_bit (h _ _ (icFlag_source hn (by simp))),
    on_of_bit (h _ _ (icFlag_source hn (by simp)))⟩⟩

/-! The classes. -/

/-- Addresses that belong to no controller, bus errors included. -/
def offIc (a : Nat) : Bool := !(decide (0x40100000 ≤ a) && decide (a < 0x40101000)) && !(decide (0x140001000 ≤ a) && decide (a < 0x140002000))

theorem offIc_of_range {c a : Nat} (hc : c < 2) (hlo : icBase c ≤ a) (hhi : a < icBase c + 0x1000) : offIc a = false := by
  obtain rfl | rfl : c = 0 ∨ c = 1 := by omega
  all_goals
    simp only [icBase, if_true, Nat.one_ne_zero, if_false] at hlo hhi
    simp [offIc]
    omega

/-- The controller keeps its hidden state and every field of its registers. -/
def IcSame (s t : State) (c : Nat) : Prop := t.ic c = s.ic c ∧ ∀ a r f, icBase c ≤ a → a < icBase c + 0x1000 → findSpec regTable a = some r → f ∈ r.fields →
  bitsOf (t.rw a).toNat f.hi f.lo = bitsOf (s.rw a).toNat f.hi f.lo

theorem regTable_hi : ∀ r ∈ regTable, ∀ f ∈ r.fields, f.hi < 32 := by decide +kernel

/-- After a class applied to a state `u` whose controllers' registers are those of `s`, and writes elsewhere. -/
theorem icQuiet_of_class {u t : State} {c : Nat} {keep : Nat → FieldSpec → Bool} (hc : c < 2) (hu : u.Canonical) (hic : t.ic c = Ic.reset)
    (ht : KeepsRegs offIc (u.classRegs keep) t) (hkeep : ∀ a f, icBase c ≤ a → a < icBase c + 0x1000 → keep a f = if c = 0 then f.keepH else f.keepS) : IcQuiet t c :=
  icQuiet_of_flags hic fun a i h => by
    have hhi := h.hi
    rw [ht a (offIc_of_range hc h.lo (by omega))]
    exact icFlag_cleared hu hc h fun f => hkeep a f h.lo (by omega)

theorem icSame_of_class {s u t : State} {c : Nat} {keep : Nat → FieldSpec → Bool} (hc : c < 2) (hu : u.Canonical) (hsu : KeepsRegs offIc s u) (hic : t.ic c = s.ic c)
    (ht : KeepsRegs offIc (u.classRegs keep) t) (hkeep : ∀ a f, icBase c ≤ a → a < icBase c + 0x1000 → keep a f = if c = 0 then f.keepS else f.keepH) : IcSame s t c := by
  refine ⟨hic, fun a r f hlo hhi hr hf => ?_⟩
  obtain ⟨hm, hb, he⟩ := findSpec_mem hr
  have ha := offIc_of_range hc hlo hhi
  have hk : keep a f = true := by
    rw [hkeep a f hlo hhi]
    obtain ⟨h1, h0⟩ := regTable_icKept r hm
    obtain rfl | rfl : c = 0 ∨ c = 1 := by omega
    · rcases h0 with h | h | h
      · omega
      · omega
      · exact h f hf
    · rcases h1 with h | h | h
      · omega
      · omega
      · exact h f hf
  rw [ht a ha, bitsOf_kept hu hr hf hk (regTable_hi r hm f hf), hsu a ha]

theorem offIc_flash (dom : Nat) : offIc (flashRegBase dom + 8) = true := by
  unfold flashRegBase
  split <;> rfl

theorem flashShow_offIc (s : State) (dom : Nat) : KeepsRegs offIc s (s.flashShow dom) := ((KeepsRegs.refl s).set (offIc_flash dom)).set (offIc_flash dom)

theorem setFa_regs (s : State) (dom : Nat) (x : FlashArr) : (s.setFa dom x).regs = s.regs := by
  unfold State.setFa
  split <;> rfl

theorem eraseCut_offIc (s : State) (dom : Nat) : KeepsRegs offIc s (s.eraseCut dom) := by
  unfold State.eraseCut
  refine KeepsRegs.trans ?_ (flashShow_offIc _ dom)
  split <;> exact (KeepsRegs.refl s).of_regs (setFa_regs ..)

theorem relock_offIc (s : State) (dom : Nat) : KeepsRegs offIc s (s.relock dom) := (KeepsRegs.refl s).of_regs (setFa_regs ..)

theorem gwDiscard_offIc (s : State) : KeepsRegs offIc s s.gwDiscard := by
  unfold State.gwDiscard
  split
  · exact ((KeepsRegs.refl s).of_regs rfl).set rfl
  · exact .refl s

theorem hostDrop_offIc (s : State) : KeepsRegs offIc s s.hostDrop := by
  unfold State.hostDrop
  split
  · exact .ite ((((KeepsRegs.refl s).of_regs rfl).set rfl).set rfl) (.refl s)
  · exact .refl s

theorem syncLost_offIc (s : State) : KeepsRegs offIc s s.syncLost := .ite ((KeepsRegs.refl s).set rfl) (.refl s)

theorem seasonUpdate_offIc (s : State) : KeepsRegs offIc s s.seasonUpdate := ((KeepsRegs.refl s).set rfl).set rfl

theorem resetP_quiet (s : State) {c : Nat} (hc : c < 2) : IcQuiet s.resetP c := by
  have hr : KeepsRegs offIc State.reset s.resetP := by
    unfold State.resetP
    exact (((KeepsRegs.refl _).of_regs rfl).set rfl).set rfl
  refine icQuiet_of_flags ?_ fun a i h => ?_
  · obtain rfl | rfl : c = 0 ∨ c = 1 := by omega
    all_goals rfl
  · have hd : State.reset.rw a = regDefault a := by
      have hlo := h.lo
      have : icBase c = 0x40100000 ∨ icBase c = 0x140001000 := ite_eq_or_eq ..
      show (alFind [(0x40000000, 1), (0x140000040, 1)] a).getD (regDefault a) = _
      have := h.hi
      rw [alFind, if_neg (by omega), alFind, if_neg (by omega)]
      rfl
    rw [hr a (offIc_of_range hc h.lo (by have := h.hi; omega)), hd]
    exact icFlag_default hc h

/-- Where class H clears the registers: flash marks of a cut erase are gone and Heartwood's hidden state is cleared. -/
def State.beforeClassH (s : State) : State := ((s.eraseCut 0).relock 0).clearHeartwood

theorem beforeClassH_canonical {s : State} (h : s.Canonical) : s.beforeClassH.Canonical :=
  (State.clearHeartwood_eff _).canonical ((State.relock_eff ..).canonical ((State.eraseCut_eff ..).canonical h))

theorem resetH_regs (s : State) (cause rail : Nat) (commit : Bool) : KeepsRegs offIc (s.beforeClassH.classRegs keepsH) (s.resetH cause rail commit) := by
  unfold State.resetH
  have hcause : ∀ u : State, KeepsRegs offIc u (if cause = 1 then u.set F.FLT.RST_CAUSE.FAULT 1 else if cause = 2 then u.set F.FLT.RST_CAUSE.AUTH 1
      else (u.set F.FLT.RST_CAUSE.SUPPLY 1).set F.FLT.RST_CAUSE.RAIL rail) := fun u =>
    .ite ((KeepsRegs.refl u).set rfl) (.ite ((KeepsRegs.refl u).set rfl) (((KeepsRegs.refl u).set rfl).set rfl))
  exact ((((((hostDrop_offIc _).set rfl).trans (hcause _)).set rfl).set rfl).set rfl).trans (syncLost_offIc _)

theorem keepsH_ic {c : Nat} (a : Nat) (f : FieldSpec) (hlo : icBase c ≤ a) (hhi : a < icBase c + 0x1000) : keepsH a f = f.keepH := by
  have : icBase c = 0x40100000 ∨ icBase c = 0x140001000 := ite_eq_or_eq ..
  rw [keepsH, if_neg]
  simp [sapFlash]
  omega

theorem keepsS_ic {c : Nat} (a : Nat) (f : FieldSpec) (hlo : icBase c ≤ a) (hhi : a < icBase c + 0x1000) : keepsS a f = f.keepS := by
  have : icBase c = 0x40100000 ∨ icBase c = 0x140001000 := ite_eq_or_eq ..
  rw [keepsS, if_neg]
  simp [sapFlash]
  omega

theorem resetH_controllers {s : State} (cause rail : Nat) (commit : Bool) (h : s.Canonical) : IcQuiet (s.resetH cause rail commit) 0 ∧ IcSame s (s.resetH cause rail commit) 1 := by
  have hic : (s.resetH cause rail commit).hic = Ic.reset := by
    unfold State.resetH
    rw [(State.syncLost_eff _).hic rfl]
    simp only [State.set_hic, State.setB_hic, apply_ite State.hic, ite_self]
    exact (State.hostDrop_eff _).hic rfl
  refine ⟨icQuiet_of_class (by decide) (beforeClassH_canonical h) hic (resetH_regs s cause rail commit) fun a f hlo hhi => keepsH_ic (c := 0) a f hlo hhi,
    icSame_of_class (by decide) (beforeClassH_canonical h) ?_ ((State.resetH_eff ..).sic rfl) (resetH_regs s cause rail commit) fun a f hlo hhi => keepsH_ic (c := 1) a f hlo hhi⟩
  exact ((eraseCut_offIc s 0).trans (relock_offIc _ 0)).of_regs rfl

/-- Where class S clears the registers. -/
def State.beforeClassS (s : State) : State := ((s.gwDiscard.eraseCut 1).relock 1).clearSapwood

theorem beforeClassS_canonical {s : State} (h : s.Canonical) : s.beforeClassS.Canonical :=
  (State.clearSapwood_eff _).canonical ((State.relock_eff ..).canonical ((State.eraseCut_eff ..).canonical ((State.gwDiscard_eff _).canonical h)))

theorem resetS_regs (s : State) (cause : Nat) : KeepsRegs offIc (s.beforeClassS.classRegs keepsS) (s.resetS cause) := by
  have hf : offIc (if cause = 1 then F.SEASON.SRST_CAUSE.PIN else if cause = 2 then F.SEASON.SRST_CAUSE.WDT else if cause = 3 then F.SEASON.SRST_CAUSE.SW else F.SEASON.SRST_CAUSE.SUPPLY).addr = true := by
    split
    · rfl
    · split
      · rfl
      · split <;> rfl
  unfold State.resetS
  exact (((KeepsRegs.refl _).set rfl).set hf).trans (seasonUpdate_offIc _)

theorem resetS_controllers {s : State} (cause : Nat) (h : s.Canonical) : IcQuiet (s.resetS cause) 1 ∧ IcSame s (s.resetS cause) 0 := by
  refine ⟨icQuiet_of_class (by decide) (beforeClassS_canonical h) rfl (resetS_regs s cause) fun a f hlo hhi => keepsS_ic (c := 1) a f hlo hhi,
    icSame_of_class (by decide) (beforeClassS_canonical h) ?_ ((State.resetS_eff ..).hic rfl) (resetS_regs s cause) fun a f hlo hhi => keepsS_ic (c := 0) a f hlo hhi⟩
  exact (((gwDiscard_offIc s).trans (eraseCut_offIc _ 1)).trans (relock_offIc _ 1)).of_regs rfl

/-- Settles O60: a class sets every field of the controller it resets to its class P value and keeps every field of the other. -/
theorem controllersReset : Obligations.ControllersReset := by
  unfold Obligations.ControllersReset
  intro s cause rail commit h
  obtain ⟨hh, hs⟩ := resetH_controllers cause rail commit h
  obtain ⟨hs', hh'⟩ := resetS_controllers cause h
  exact ⟨resetP_quiet s (by decide), resetP_quiet s (by decide), hh, hs, hs', hh'⟩

end Sys2Proof.Machine
end

section
/-! SUPPORT. What raising and lowering interrupt lines touches: the lines' registers only, no PEND, ACTIVE or STORM bit, and of a controller's hidden state only the lines and their timers; and what raising an
interrupt leaves of the ACTIVE and STORM bits, of the bits that pend and of the sources in service (R435 to R442, R529). -/

namespace Sys2Proof.Machine

/-! The lines of a target. -/

/-- The registers that raising and lowering lines writes: TSTAT and BANKCTL. -/
def lineRegs (a : Nat) : Bool := a == 0x4010060c || a == 0x14000160c || a == 0x14000164c || a == 0x2000007c0 || a == 0x2000017c0

theorem lineRegs_tstat {c t hi lo : Nat} (hc : c < 2) (ht : t ≤ c) : lineRegs (⟨icBase c + 0x60c + 0x40 * t, hi, lo⟩ : Fld).addr = true := by
  obtain ⟨rfl, rfl⟩ | ⟨rfl, rfl | rfl⟩ : (c = 0 ∧ t = 0) ∨ (c = 1 ∧ (t = 0 ∨ t = 1)) := by omega
  all_goals rfl

theorem lineRegs_bank {t : Nat} (ht : t < 2) : lineRegs (F.SC.BANKCTL.CUR t).addr = true := by
  obtain rfl | rfl : t = 0 ∨ t = 1 := by omega
  all_goals rfl

theorem coreTakes_lines (s : State) {t : Nat} (fast normal : Bool) (ht : t < 2) : KeepsRegs lineRegs s (s.coreTakes t fast normal) := by
  unfold State.coreTakes
  split
  · refine .ite ?_ (.refl s)
    exact .ite (KeepsRegs.set ((KeepsRegs.refl s).of_regs rfl) (lineRegs_bank ht)) ((KeepsRegs.refl s).of_regs rfl)
  · exact .refl s

theorem icLines_lines (s : State) {c t : Nat} (hc : c < 2) (ht : t ≤ c) : KeepsRegs lineRegs s (s.icLines c t) := by
  unfold State.icLines
  dsimp only
  have h1 : ∀ x n, KeepsRegs lineRegs s ((s.setIc c x).set (F.IC.TSTAT.NPEND c t) n) := fun x n => ((KeepsRegs.refl s).of_regs (regs_setIc s c x)).set (lineRegs_tstat (hi := 8) (lo := 0) hc ht)
  have h2 : ∀ (b : Bool) x n, KeepsRegs lineRegs s (if b then ((s.setIc c x).set (F.IC.TSTAT.NPEND c t) n).set (F.IC.TSTAT.WFI c t) 0 else (s.setIc c x).set (F.IC.TSTAT.NPEND c t) n) := fun b x n =>
    .ite ((h1 x n).set (lineRegs_tstat (hi := 16) (lo := 16) hc ht)) (h1 x n)
  exact .ite ((h2 _ _ _).trans (coreTakes_lines _ _ _ (by omega))) (h2 _ _ _)

theorem icUpdate_lines (s : State) {c : Nat} (hc : c < 2) : KeepsRegs lineRegs s (s.icUpdate c) := by
  unfold State.icUpdate
  obtain rfl | rfl : c = 0 ∨ c = 1 := by omega
  · exact icLines_lines (c := 0) (t := 0) s (by decide) (by decide)
  · exact (icLines_lines (c := 1) (t := 0) s (by decide) (by decide)).trans (icLines_lines (c := 1) (t := 1) _ (by decide) (by decide))

@[simp] theorem ic_setIc_same (s : State) (c : Nat) (x : Ic) : (s.setIc c x).ic c = x := by
  unfold State.setIc State.ic
  split <;> rfl

theorem ic_setIc_ne (s : State) {c d : Nat} (x : Ic) (hc : c < 2) (hd : d < 2) (h : d ≠ c) : (s.setIc c x).ic d = s.ic d := by
  obtain ⟨rfl, rfl⟩ | ⟨rfl, rfl⟩ : (c = 0 ∧ d = 1) ∨ (c = 1 ∧ d = 0) := by omega
  all_goals rfl

theorem ic_of_eff {F : Nat} {s t : State} (h : Eff F s t) (h0 : F.testBit 16 = false) (h1 : F.testBit 17 = false) (c : Nat) : t.ic c = s.ic c := by
  rw [State.ic, State.ic, h.hic h0, h.sic h1]

@[simp] theorem ic_set (s : State) (f : Fld) (v c : Nat) : (s.set f v).ic c = s.ic c := rfl

/-- The sources in service, those assigned, and the storm windows. -/
def Ic.sources (x : Ic) : List (Nat × Nat) × List (Nat × Nat) × List (Nat × (Nat × Nat)) := (x.asg, x.own, x.storm)

theorem coreTakes_ic (s : State) (t : Nat) (fast normal : Bool) (c : Nat) : (s.coreTakes t fast normal).ic c = s.ic c := ic_of_eff (State.coreTakes_eff ..) rfl rfl c

/-- Lines change no source's state. -/
theorem icLines_sources (s : State) {c t d : Nat} (hc : c < 2) (hd : d < 2) : ((s.icLines c t).ic d).sources = (s.ic d).sources := by
  have hx : ∀ (x : Ic) (n : Nat) (b : Bool), x.sources = (s.ic c).sources →
      ((if b then ((s.setIc c x).set (F.IC.TSTAT.NPEND c t) n).set (F.IC.TSTAT.WFI c t) 0 else (s.setIc c x).set (F.IC.TSTAT.NPEND c t) n).ic d).sources = (s.ic d).sources := fun x n b hx => by
    simp only [apply_ite (fun u : State => u.ic d), ic_set, ite_self]
    by_cases h : d = c
    · rw [h, ic_setIc_same, hx]
    · rw [ic_setIc_ne s x hc hd h]
  unfold State.icLines
  dsimp only
  split
  · rw [coreTakes_ic]
    exact hx _ _ _ rfl
  · exact hx _ _ _ rfl

theorem icUpdate_sources (s : State) {c d : Nat} (hc : c < 2) (hd : d < 2) : ((s.icUpdate c).ic d).sources = (s.ic d).sources := by
  unfold State.icUpdate
  split
  · exact icLines_sources s (by decide) hd
  · exact (icLines_sources _ (by decide) hd).trans (icLines_sources s (by decide) hd)

/-! Raising an interrupt. -/

/-- The registers that raising an interrupt writes: those of `icRegs` but the ACTIVE and STORM words. -/
def raiseRegs (a : Nat) : Bool := icRegs a && !(decide (0x40100440 ≤ a) && decide (a < 0x401004c0)) && !(decide (0x140001440 ≤ a) && decide (a < 0x1400014c0))

theorem raiseRegs_line {a : Nat} (h : raiseRegs a = false) : lineRegs a = false := by
  by_contra hl
  simp only [lineRegs, Bool.not_eq_false, Bool.or_eq_true, beq_iff_eq] at hl
  rcases hl with (((rfl | rfl) | rfl) | rfl) | rfl <;> exact absurd h (by decide)

theorem KeepsRegs.raise {s t : State} (h : KeepsRegs lineRegs s t) : KeepsRegs raiseRegs s t := h.mono fun _ => raiseRegs_line

theorem raiseRegs_ic {c k : Nat} (hc : c < 2) (h : k < 0x440 ∨ 0x4c0 ≤ k ∧ k < 0x700) : raiseRegs (icBase c + k) = true := by
  obtain rfl | rfl : c = 0 ∨ c = 1 := by omega
  all_goals
    simp [raiseRegs, icRegs, icBase]
    omega

theorem raiseRegs_pend {c n : Nat} (hc : c < 2) (hn : n < 256) : raiseRegs (pendF c n).addr = true := by
  have := raiseRegs_ic hc (k := 0x400 + 4 * (n / 32)) (by omega)
  rwa [← Nat.add_assoc] at this

theorem icPend1_raise (s : State) {c n : Nat} (hc : c < 2) (hn : n < 256) : KeepsRegs raiseRegs s (s.icPend1 c n) := by
  have hp := raiseRegs_pend hc hn
  have hr : raiseRegs (F.IC.SRC_CFG.RR c n).addr = true := raiseRegs_ic hc (by omega)
  unfold State.icPend1
  dsimp only
  refine KeepsRegs.trans ?_ (icUpdate_lines _ hc).raise
  have h0 : KeepsRegs raiseRegs s (s.set (pendF c n) 1) := (KeepsRegs.refl s).set hp
  have hg : ∀ x v, KeepsRegs raiseRegs s (((s.set (pendF c n) 1).setIc c x).set (F.IC.SRC_CFG.RR c n) v) := fun x v => (h0.of_regs (regs_setIc _ _ _)).set hr
  exact .ite (hg _ _) (.ite (hg _ _) (.ite (hg _ _) h0))

/-- Sapwood's counters as it comes awake: they stood while it was gated. -/
def State.wokenTimers (s : State) : State :=
  let s := s.set F.SEASON.STATE.LAST (s.get F.SEASON.STATE.SEASON)
  let s := { s with season := { s.season with gated := false } }
  let gap := s.time.plls - s.tmr.gateAt
  let x := s.tmr
  { s with tmr := { x with base := x.base + gap, wdtAt := x.wdtAt + gap, grps := x.grps.map (fun (e : Nat × TmrGrp) => (e.1, { e.2 with at_ := e.2.at_ + gap })), pauseAt := x.pauseAt.map (· + gap) } }

theorem wokenTimers_eff (s : State) : Eff 4398583382020 s s.wokenTimers := by
  unfold State.wokenTimers
  exact .upd_tmr (.upd_season ((State.set_eff ..).mono rfl) rfl) rfl

theorem wokenTimers_regs (s : State) : s.wokenTimers.regs = (s.set F.SEASON.STATE.LAST (s.get F.SEASON.STATE.SEASON)).regs := rfl

/-- Sapwood as it comes awake, before its wake is signalled (R348, R353). -/
def State.awake (s : State) (srcs : Nat) : State :=
  ((((s.wokenTimers.set F.SEASON.WAKESRC.SRC srcs).sat F.SEASON.COUNT.WAKES 1).set (F.IC.TSTAT.WFI 1 0) 0).set (F.IC.TSTAT.WFI 1 1) 0).seasonUpdate

theorem wakeNow_eq (s : State) (srcs : Nat) : s.wakeNow srcs =
    if s.season.gated then (if (s.awake srcs).on (stormF 1 5) || (s.awake srcs).on (pendF 1 5) then s.awake srcs else (s.awake srcs).icPend1 1 5) else s := rfl

/-- The registers of the season and of a wake: those that `awake` writes. -/
def awakeRegs (a : Nat) : Bool := a == F.SEASON.STATE.LAST.addr || a == F.SEASON.WAKESRC.SRC.addr || a == F.SEASON.COUNT.WAKES.addr || a == F.CLK.STATUS.SEASON.addr || lineRegs a

theorem seasonUpdate_awake (s : State) : KeepsRegs awakeRegs s s.seasonUpdate := ((KeepsRegs.refl s).set rfl).set rfl

theorem awake_regs (s : State) (srcs : Nat) : KeepsRegs awakeRegs s (s.awake srcs) := by
  unfold State.awake State.sat
  have h : KeepsRegs awakeRegs s s.wokenTimers := ((KeepsRegs.refl s).set (f := F.SEASON.STATE.LAST) rfl).of_regs (wokenTimers_regs s)
  exact ((((h.set rfl).set rfl).set rfl).set rfl).trans (seasonUpdate_awake _)

theorem raiseRegs_awake {a : Nat} (h : raiseRegs a = false) : awakeRegs a = false := by
  have hl := raiseRegs_line h
  by_contra hc
  simp only [awakeRegs, hl, Bool.not_eq_false, Bool.or_eq_true, beq_iff_eq, Bool.false_eq_true, or_false] at hc
  rcases hc with ((rfl | rfl) | rfl) | rfl <;> exact absurd h (by decide)

theorem wakeNow_raise (s : State) (srcs : Nat) : KeepsRegs raiseRegs s (s.wakeNow srcs) := by
  rw [wakeNow_eq]
  have h := (awake_regs s srcs).mono fun _ => raiseRegs_awake
  exact .ite (.ite h (h.trans (icPend1_raise _ (by decide) (by decide)))) (.refl s)

theorem wakeSapwood_raise (s : State) (bit : Nat) : KeepsRegs raiseRegs s (s.wakeSapwood bit) := by
  unfold State.wakeSapwood
  exact .ite (.refl s) (.ite (wakeNow_raise _ _) ((KeepsRegs.refl s).of_regs rfl))

theorem icPend_raise (s : State) {c n : Nat} (hc : c < 2) (hn : n < 256) : KeepsRegs raiseRegs s (s.icPend c n) := by
  unfold State.icPend
  exact .ite ((icPend1_raise s hc hn).trans (wakeSapwood_raise _ _)) (icPend1_raise s hc hn)

theorem icHigh_raise (s : State) {c : Nat} (n : Nat) (hc : c < 2) : KeepsRegs raiseRegs s (s.icHigh c n) := by
  unfold State.icHigh
  split
  · exact .refl s
  case isFalse h =>
    simp only [Bool.not_eq_true, Bool.or_eq_false_iff, Bool.not_eq_false'] at h
    exact icPend_raise s hc (icListed_lt h.1.1.1.1)

theorem icSample_raise (s : State) {c : Nat} (n : Nat) (hc : c < 2) : KeepsRegs raiseRegs s (s.icSample c n) := .ite (icHigh_raise s n hc) (.refl s)

/-! Sources in service. -/

/-- The sources in service and the storm windows of every controller are kept. -/
def OwnKept (s t : State) : Prop := ∀ d, d < 2 → (t.ic d).own = (s.ic d).own ∧ (t.ic d).storm = (s.ic d).storm

theorem OwnKept.refl (s : State) : OwnKept s s := fun _ _ => ⟨rfl, rfl⟩

theorem OwnKept.trans {s t u : State} (h1 : OwnKept s t) (h2 : OwnKept t u) : OwnKept s u := fun d hd =>
  ⟨(h2 d hd).1.trans (h1 d hd).1, (h2 d hd).2.trans (h1 d hd).2⟩

theorem OwnKept.ite {s t u : State} {p : Prop} [Decidable p] (h1 : OwnKept s t) (h2 : OwnKept s u) : OwnKept s (if p then t else u) := by split <;> assumption

theorem OwnKept.of_ic {s t : State} (h : ∀ d, t.ic d = s.ic d) : OwnKept s t := fun d _ => by rw [h d]; exact ⟨rfl, rfl⟩

theorem icUpdate_own (s : State) {c : Nat} (hc : c < 2) : OwnKept s (s.icUpdate c) := fun d hd => by
  have h := icUpdate_sources s hc hd
  exact ⟨congrArg (fun x => x.2.1) h, congrArg (fun x => x.2.2) h⟩

theorem icPend1_own (s : State) {c : Nat} (n : Nat) (hc : c < 2) : OwnKept s (s.icPend1 c n) := by
  unfold State.icPend1
  dsimp only
  refine .trans ?_ (icUpdate_own _ hc)
  have hg : ∀ t v, OwnKept s (((s.set (pendF c n) 1).setIc c { (s.set (pendF c n) 1).ic c with asg := t }).set (F.IC.SRC_CFG.RR c n) v) := fun t v d hd => by
    rw [ic_set]
    by_cases h : d = c
    · rw [h, ic_setIc_same]
      exact ⟨rfl, rfl⟩
    · rw [ic_setIc_ne _ _ hc hd h]
      exact ⟨rfl, rfl⟩
  exact .ite (hg _ _) (.ite (hg _ _) (.ite (hg _ _) (.of_ic fun _ => rfl)))

theorem awake_ic (s : State) (srcs d : Nat) : (s.awake srcs).ic d = s.ic d := by
  rw [State.awake, ic_of_eff (State.seasonUpdate_eff _) rfl rfl, ic_set, ic_set, State.sat, ic_set, ic_set, ic_of_eff (wokenTimers_eff s) rfl rfl]

theorem wakeSapwood_own (s : State) (bit : Nat) : OwnKept s (s.wakeSapwood bit) := by
  unfold State.wakeSapwood
  rw [wakeNow_eq]
  have h : ∀ n, OwnKept s (s.awake n) := fun n => .of_ic (awake_ic s n)
  exact .ite (.refl s) (.ite (.ite (.ite (h _) ((h _).trans (icPend1_own _ 5 (by decide)))) (.refl s)) (.of_ic fun _ => rfl))

theorem icPend_own (s : State) {c : Nat} (n : Nat) (hc : c < 2) : OwnKept s (s.icPend c n) := by
  unfold State.icPend
  exact .ite ((icPend1_own s n hc).trans (wakeSapwood_own _ _)) (icPend1_own s n hc)

theorem icHigh_own (s : State) {c : Nat} (n : Nat) (hc : c < 2) : OwnKept s (s.icHigh c n) := .ite (.refl s) (icPend_own s n hc)

/-! Bits that pend. -/

/-- What pends goes on pending. -/
def PendUp (s t : State) : Prop := ∀ c n, c < 2 → n < 256 → s.on (pendF c n) = true → t.on (pendF c n) = true

theorem PendUp.refl (s : State) : PendUp s s := fun _ _ _ _ h => h

theorem PendUp.trans {s t u : State} (h1 : PendUp s t) (h2 : PendUp t u) : PendUp s u := fun c n hc hn h => h2 c n hc hn (h1 c n hc hn h)

theorem PendUp.ite {s t u : State} {p : Prop} [Decidable p] (h1 : PendUp s t) (h2 : PendUp s u) : PendUp s (if p then t else u) := by split <;> assumption

/-- A PEND word is no register of P. -/
theorem PendUp.of_keeps {P : Nat → Bool} {s t : State} (h : KeepsRegs P s t) (hP : ∀ c k, c < 2 → k < 8 → P (icBase c + 0x400 + 4 * k) = false) : PendUp s t := fun c n hc hn hs => by
  rw [h.on (f := pendF c n) (hP c (n / 32) hc (by omega))]
  exact hs

theorem awakeRegs_pend {c k : Nat} (hc : c < 2) (hk : k < 8) : awakeRegs (icBase c + 0x400 + 4 * k) = false := by
  have h8 : ∀ k < 8, awakeRegs (icBase 0 + 0x400 + 4 * k) = false ∧ awakeRegs (icBase 1 + 0x400 + 4 * k) = false := by decide
  obtain rfl | rfl : c = 0 ∨ c = 1 := by omega
  · exact (h8 k hk).1
  · exact (h8 k hk).2

theorem lineRegs_pend {c k : Nat} (hc : c < 2) (hk : k < 8) : lineRegs (icBase c + 0x400 + 4 * k) = false := by
  have := awakeRegs_pend hc hk
  simp only [awakeRegs, Bool.or_eq_false_iff] at this
  exact this.2

theorem pendUp_set (s : State) {f : Fld} (v : Nat) (h : ∀ c k, c < 2 → k < 8 → icBase c + 0x400 + 4 * k ≠ f.addr) : PendUp s (s.set f v) := fun c n hc hn hs => by
  rw [on_set_addr s (f := f) (g := pendF c n) v (h c (n / 32) hc (by omega))]
  exact hs

theorem pendUp_pend (s : State) (c n : Nat) : PendUp s (s.set (pendF c n) 1) := fun d m _ _ hs => by
  by_cases h : pendF d m = pendF c n
  · rw [h]
    exact on_set_one s (pendF c n) (by simp [pendF]; omega) rfl
  · by_cases ha : (pendF d m).addr = (pendF c n).addr
    · have hlo : m % 32 ≠ n % 32 := fun hl => h (by
        simp only [pendF] at ha ⊢
        rw [ha, hl])
      rw [on_set_disj (s := s) (f := pendF c n) (g := pendF d m) 1 (by simp [pendF]; omega) (by simp [pendF]; omega)]
      exact hs
    · rw [on_set_addr s 1 ha]
      exact hs

theorem pendUp_of_regs {s t : State} (h : t.regs = s.regs) : PendUp s t := fun c n _ _ hs => by rwa [on_of_regs h]

/-- Raising an interrupt sets its PEND bit and clears none. -/
theorem icPend1_pends (s : State) {c n : Nat} (hc : c < 2) (hn : n < 256) : PendUp (s.set (pendF c n) 1) (s.icPend1 c n) := by
  unfold State.icPend1
  dsimp only
  refine .trans ?_ (.of_keeps (icUpdate_lines _ hc) fun _ _ => lineRegs_pend)
  have hrr : ∀ d k, d < 2 → k < 8 → icBase d + 0x400 + 4 * k ≠ (F.IC.SRC_CFG.RR c n).addr := fun d k hd hk => by
    show _ ≠ icBase c + 4 * n
    have : ∀ e, e < 2 → e = 0 ∧ icBase e = 0x40100000 ∨ e = 1 ∧ icBase e = 0x140001000 := fun e he => by
      obtain rfl | rfl : e = 0 ∨ e = 1 := by omega
      all_goals simp [icBase]
    have h1 := this c hc
    have h2 := this d hd
    omega
  have hg : ∀ x v, PendUp (s.set (pendF c n) 1) (((s.set (pendF c n) 1).setIc c x).set (F.IC.SRC_CFG.RR c n) v) := fun x v =>
    (pendUp_of_regs (regs_setIc _ c x)).trans (pendUp_set _ v hrr)
  exact .ite (hg _ _) (.ite (hg _ _) (.ite (hg _ _) (.refl _)))

theorem wakeSapwood_pends (s : State) (bit : Nat) : PendUp s (s.wakeSapwood bit) := by
  unfold State.wakeSapwood
  rw [wakeNow_eq]
  have h : ∀ n, PendUp s (s.awake n) := fun n => .of_keeps (awake_regs s n) fun _ _ => awakeRegs_pend
  exact .ite (.refl s) (.ite (.ite (.ite (h _) ((h _).trans ((pendUp_pend _ 1 5).trans (icPend1_pends _ (by decide) (by decide))))) (.refl s)) (pendUp_of_regs rfl))

theorem icPend_pends (s : State) {c n : Nat} (hc : c < 2) (hn : n < 256) : (s.icPend c n).on (pendF c n) = true := by
  have h1 : (s.icPend1 c n).on (pendF c n) = true := icPend1_pends s hc hn c n hc hn (on_set_one s (pendF c n) (by simp [pendF]; omega) rfl)
  unfold State.icPend
  dsimp only
  split
  · exact wakeSapwood_pends _ _ c n hc hn h1
  · exact h1

/-- An edge on a source that is listed and not masked leaves it pending. -/
theorem icEdge_pends {s : State} {c n : Nat} (hc : c < 2) (hn : n < 256) (hl : icListed c n = true) (hs : icLevelSense c n = false) (hm : s.on (stormF c n) = false) : (s.icEdge c n).on (pendF c n) = true := by
  unfold State.icEdge
  cases hp : s.on (pendF c n) with
  | true => simpa [hl, hs, hm, hp] using hp
  | false => simpa [hl, hs, hm, hp] using icPend_pends s hc hn

end Sys2Proof.Machine
end

section
/-! PROOFS. Delivery, claim and completion of interrupts, and their limits (R435 to R443, R529). -/

namespace Sys2Proof.Machine

theorem lineRegs_off {c k : Nat} (hc : c < 2) (h : k < 0x60c ∨ k = 0x640) : lineRegs (icBase c + k) = false := by
  obtain rfl | rfl : c = 0 ∨ c = 1 := by omega
  all_goals
    simp [lineRegs, icBase]
    omega

/-- The flag words of a source: PEND, ACTIVE and STORM stand at 0x400, 0x440 and 0x480. -/
theorem lineRegs_flag {c n k : Nat} (hc : c < 2) (hn : n < 256) (hk : k ≤ 0x480) : lineRegs (icBase c + k + 4 * (n / 32)) = false := by
  have := lineRegs_off (k := k + 4 * (n / 32)) hc (by omega)
  rwa [← Nat.add_assoc] at this

theorem raiseRegs_flag {c n k : Nat} (hc : c < 2) (hn : n < 256) (hk : k = 0x440 ∨ k = 0x480) : raiseRegs (icBase c + k + 4 * (n / 32)) = false := by
  have h8 : ∀ m < 8, ∀ d < 2, raiseRegs (icBase d + 0x440 + 4 * m) = false ∧ raiseRegs (icBase d + 0x480 + 4 * m) = false := by decide
  obtain ⟨ha, hs⟩ := h8 (n / 32) (by omega) c hc
  rcases hk with rfl | rfl <;> assumption

theorem flag_hi (n : Nat) : n % 32 < 32 := Nat.mod_lt _ (by decide)

/-! Delivery. -/

theorem interruptSourceEvent_pends {s : State} {c n : Nat} (level : Bool) (hc : c < 2) (hn : n < 256) (hup : s.icUp c = true) (hl : icListed c n = true) (hs : icLevelSense c n = false)
    (hm : s.on (stormF c n) = false) : s.Completes (.interruptSourceEvent c n level) fun u => u.on (pendF c n) = true ∧ u.mem = s.mem := by
  refine .of_next (exec_guardUnit rfl (by simp [Instr.wf, hc, hn])) ?_
  rw [if_pos hup, State.sourceEvent, if_neg (by simp [hs])]
  exact ⟨icEdge_pends hc hn hl hs hm, (State.icEdge_eff ..).mem rfl⟩

/-! Claim. -/

/-- Source n in service by target t, shown in CLAIM, before the lines follow (R437). -/
def State.claimed (s : State) (c t n : Nat) : State :=
  let x := s.ic c
  let s := ((s.set (pendF c n) 0).set (activeF c n) 1).setIc c { x with asg := alDel x.asg n, own := alSet x.own n t }
  ((s.set (F.IC.CLAIM.ID c t) n).setB (F.IC.CLAIM.FAST c t) (s.on (F.IC.SRC_CFG.CLASS c n))).set (F.IC.CLAIM.VALID c t) 1

theorem claim_some {s : State} {c t n : Nat} (h : s.claimNext c t = some n) : s.claim c t = (s.claimed c t n).icLines c t := by
  rw [State.claim, h]
  rfl

theorem claim_none {s : State} {c t : Nat} (h : s.claimNext c t = none) : s.claim c t = s.setW (F.IC.CLAIM.ALL c t).addr 0 := by rw [State.claim, h]

theorem claimed_ic (s : State) (c t n : Nat) : (s.claimed c t n).ic c = { s.ic c with asg := alDel (s.ic c).asg n, own := alSet (s.ic c).own n t } := by
  unfold State.claimed
  dsimp only
  rw [ic_set, State.setB, ic_set, ic_set, ic_setIc_same]

theorem claimed_id (s : State) (c t : Nat) {n : Nat} (hn : n < 256) : (s.claimed c t n).get (F.IC.CLAIM.ID c t) = n := by
  refine (get_set_disj _ _ (by simp) (by simp)).trans ((get_set_disj _ _ (by simp) (by simp)).trans ((get_set _ _ _ (by simp)).trans ?_))
  exact Nat.mod_eq_of_lt hn

theorem claimed_valid (s : State) (c t n : Nat) : (s.claimed c t n).get (F.IC.CLAIM.VALID c t) = 1 := get_set _ _ _ (by simp)

/-- A flag below CLAIM is not touched as CLAIM is written. -/
theorem claimed_on (s : State) (c t n : Nat) {f : Fld} (h : f.addr < icBase c + 0x600) : (s.claimed c t n).on f = ((s.set (pendF c n) 0).set (activeF c n) 1).on f := by
  have hne : f.addr ≠ icBase c + 0x600 + 0x40 * t := by omega
  unfold State.claimed
  dsimp only
  rw [on_set_addr _ _ hne, State.setB, on_set_addr _ _ hne, on_set_addr _ _ hne]
  exact on_of_regs (regs_setIc ..) f

theorem claim_completes {s : State} {c n t : Nat} (hc : c < 2) (hn : n < 256) (ht : t ≤ c) (hup : s.icUp c = true) (hr : s.domRuns c = true) (h : s.claimNext c t = some n) :
    s.Completes (.claim c t) fun u => u.get (F.IC.CLAIM.ID c t) = n ∧ u.get (F.IC.CLAIM.VALID c t) = 1 ∧ u.on (pendF c n) = false ∧ u.on (activeF c n) = true ∧
      alFind (u.ic c).own n = some t ∧ alFind (u.ic c).asg n = none := by
  refine .of_next (exec_guardUnit rfl (by simp [Instr.wf, hc]; omega)) ?_
  rw [if_pos (by simp [hup, hr]), claim_some h]
  have hk := icLines_lines (s.claimed c t n) hc ht
  have hsrc := icLines_sources (s.claimed c t n) (t := t) hc hc
  rw [claimed_ic] at hsrc
  have hadr : lineRegs (icBase c + 0x600 + 0x40 * t) = false := by
    rw [Nat.add_assoc]
    exact lineRegs_off hc (by omega)
  have hpend : icBase c + 0x400 + 4 * (n / 32) < icBase c + 0x600 := by omega
  have hact : icBase c + 0x440 + 4 * (n / 32) < icBase c + 0x600 := by omega
  refine ⟨(hk.get hadr).trans (claimed_id s c t hn), (hk.get hadr).trans (claimed_valid ..), ?_, ?_, ?_, ?_⟩
  · rw [hk.on (lineRegs_flag hc hn (by decide)), claimed_on s c t n hpend, on_set_addr _ _ (by simp [pendF, activeF])]
    exact on_set_zero _ _ (flag_hi n)
  · rw [hk.on (lineRegs_flag hc hn (by decide)), claimed_on s c t n hact]
    exact on_set_one _ _ (flag_hi n) rfl
  · rw [show (((s.claimed c t n).icLines c t).ic c).own = _ from congrArg (fun x => x.2.1) hsrc]
    exact alFind_alSet_same ..
  · rw [show (((s.claimed c t n).icLines c t).ic c).asg = _ from congrArg (fun x => x.1) hsrc]
    exact (alFind_alDel _ n n).trans (if_pos rfl)

theorem claim_nothing {s : State} {c t : Nat} (hc : c < 2) (ht : t ≤ c) (hup : s.icUp c = true) (hr : s.domRuns c = true) (h : s.claimNext c t = none) :
    s.Completes (.claim c t) fun u => u.rw (F.IC.CLAIM.ALL c t).addr = 0 ∧ u.ic c = s.ic c := by
  refine .of_next (exec_guardUnit rfl (by simp [Instr.wf, hc]; omega)) ?_
  rw [if_pos (by simp [hup, hr]), claim_none h]
  exact ⟨rw_setW_same .., rfl⟩

/-! Completion. -/

/-- Source n no longer in service, before a level source pends again (R438). -/
def State.served (s : State) (c n : Nat) : State := (s.set (activeF c n) 0).setIc c { s.ic c with own := alDel (s.ic c).own n }

theorem complete_own {s : State} {c t n : Nat} (ha : s.on (activeF c n) = true) (ho : alFind (s.ic c).own n = some t) : s.complete c t n = ((s.served c n).repend c n).icUpdate c := by
  rw [State.complete, if_pos (by simp [ha, ho])]
  rfl

theorem complete_other {s : State} {c t n : Nat} (h : s.on (activeF c n) = false ∨ alFind (s.ic c).own n ≠ some t) : s.complete c t n = s.set (F.IC.TSTAT.CPL_ERR c t) 1 := by
  rw [State.complete, if_neg]
  rcases h with h | h <;> simp [h]

/-- A level source that pends again leaves every ACTIVE bit. -/
theorem repend_active (s : State) {c n : Nat} (hc : c < 2) (hn : n < 256) : (s.repend c n).on (activeF c n) = s.on (activeF c n) := by
  have hact : raiseRegs (activeF c n).addr = false := raiseRegs_flag hc hn (.inl rfl)
  unfold State.repend
  dsimp only
  split
  · rfl
  split
  · exact (icHigh_raise s n hc).on hact
  split
  · exact on_set_addr _ _ (by simp [activeF, stormF])
  · exact ((icHigh_raise _ n hc).on hact).trans (on_of_regs (regs_setIc ..) _)

theorem repend_own (s : State) {c : Nat} (n : Nat) (hc : c < 2) : ((s.repend c n).ic c).own = (s.ic c).own := by
  unfold State.repend
  dsimp only
  split
  · rfl
  split
  · exact (icHigh_own s n hc c hc).1
  split
  · rfl
  · exact (icHigh_own _ n hc c hc).1.trans (by rw [ic_setIc_same])

theorem complete_ends {s : State} {c n t : Nat} {v : Word} (hc : c < 2) (hn : n < 256) (ht : t ≤ c) (hup : s.icUp c = true) (hr : s.domRuns c = true) (hv : bitsOf v.toNat 7 0 = n)
    (ha : s.on (activeF c n) = true) (ho : alFind (s.ic c).own n = some t) : s.Completes (.complete c t v) fun u => u.on (activeF c n) = false ∧ alFind (u.ic c).own n = none := by
  refine .of_next (exec_guardUnit rfl (by simp [Instr.wf, hc]; omega)) ?_
  rw [if_pos (by simp [hup, hr]), hv, complete_own ha ho]
  constructor
  · rw [(icUpdate_lines _ hc).on (lineRegs_flag hc hn (by decide)), repend_active _ hc hn]
    exact (on_of_regs (regs_setIc ..) _).trans (on_set_zero _ _ (flag_hi n))
  · rw [(icUpdate_own _ hc c hc).1, repend_own _ n hc, State.served, ic_setIc_same]
    exact (alFind_alDel _ n n).trans (if_pos rfl)

theorem complete_errs {s : State} {c n t : Nat} {v : Word} (hc : c < 2) (ht : t ≤ c) (hup : s.icUp c = true) (hr : s.domRuns c = true) (hv : bitsOf v.toNat 7 0 = n)
    (h : s.on (activeF c n) = false ∨ alFind (s.ic c).own n ≠ some t) : s.Completes (.complete c t v) fun u => u.on (F.IC.TSTAT.CPL_ERR c t) = true ∧ u.ic c = s.ic c := by
  refine .of_next (exec_guardUnit rfl (by simp [Instr.wf, hc]; omega)) ?_
  rw [if_pos (by simp [hup, hr]), hv, complete_other h]
  exact ⟨on_set_one _ _ (by simp) rfl, ic_set ..⟩

/-! Limits. -/

/-- The moderation timer of target t runs out: the line may rise (R441). -/
def State.moderated (s : State) (c t : Nat) : State :=
  let x := s.ic c
  (s.setIc c { x with timer := alDel x.timer t, expired := t :: x.expired.filter (· != t) }).icLines c t

theorem exec_moderationTimeout {s : State} {c t since : Nat} (hc : c < 2) (ht : t ≤ c) (h : alFind (s.ic c).timer t = some since)
    (hs : (alFind (((s.advancePlls (since + 250 * s.get (F.IC.MOD.TIME c t) - s.time.plls)).settle).ic c).timer t).isSome = true) :
    exec (.moderationTimeout c t) s = .next ((s.advancePlls (since + 250 * s.get (F.IC.MOD.TIME c t) - s.time.plls)).settle.moderated c t) := by
  refine (exec_guardUnit rfl (by simp [Instr.wf, hc]; omega)).trans ?_
  rw [h]
  exact congrArg Host.Outcome.next (if_pos hs)

/-- A line whose time is over rises where a source of its class is open, and its timer is gone. -/
theorem icLines_expired {s : State} {c n t : Nat} (hx : t ∈ (s.ic c).expired) (hen : s.on (F.IC.CTRL.EN c) = true) (hn : (n, t) ∈ (s.ic c).asg) (ha : s.on (activeF c n) = false)
    (hcl : s.on (F.IC.SRC_CFG.CLASS c n) = false) : t ∈ ((s.icLines c t).ic c).normal ∧ alFind ((s.icLines c t).ic c).timer t = none := by
  have hnorm : (((((s.ic c).asg.filter fun e => e.2 == t).map (·.1)).filter fun n => !s.on (activeF c n)).filter fun n => !s.on (F.IC.SRC_CFG.CLASS c n)).isEmpty = false := by
    rw [List.isEmpty_eq_false_iff_exists_mem]
    exact ⟨n, by simp [ha, hcl]; exact hn⟩
  have hexp : (s.ic c).expired.contains t = true := by simpa using hx
  unfold State.icLines
  simp only [hen, hnorm, hexp, Bool.or_true, Bool.true_or, Bool.not_false, Bool.true_and, Bool.and_true, if_true, Bool.false_eq_true, if_false]
  simp only [apply_ite (fun u : State => u.ic c), coreTakes_ic, ic_set, ic_setIc_same, ite_self]
  exact ⟨List.mem_cons_self .., (alFind_alDel _ t t).trans (if_pos rfl)⟩

theorem moderationTimeout_rises {s : State} {c n t since : Nat} (hc : c < 2) (ht : t ≤ c) (h : alFind (s.ic c).timer t = some since) :
    let u := (s.advancePlls (since + 250 * s.get (F.IC.MOD.TIME c t) - s.time.plls)).settle
    (alFind (u.ic c).timer t).isSome = true → u.on (F.IC.CTRL.EN c) = true → (n, t) ∈ (u.ic c).asg → u.on (activeF c n) = false → u.on (F.IC.SRC_CFG.CLASS c n) = false →
    s.Completes (.moderationTimeout c t) fun v => t ∈ (v.ic c).normal ∧ alFind (v.ic c).timer t = none ∧ v.mem = u.mem ∧ v.time = u.time := by
  intro u hs hen hn ha hcl
  refine .of_next (exec_moderationTimeout hc ht h hs) ?_
  have hx : ∀ x : Ic, x.asg = (u.ic c).asg → t ∈ x.expired → t ∈ (((u.setIc c x).icLines c t).ic c).normal ∧ alFind (((u.setIc c x).icLines c t).ic c).timer t = none := fun x hasg he =>
    icLines_expired (by rwa [ic_setIc_same]) ((on_of_regs (regs_setIc ..) _).trans hen) (by rwa [ic_setIc_same, hasg]) ((on_of_regs (regs_setIc ..) _).trans ha) ((on_of_regs (regs_setIc ..) _).trans hcl)
  have hr := hx { u.ic c with timer := alDel (u.ic c).timer t, expired := t :: (u.ic c).expired.filter (· != t) } rfl (List.mem_cons_self ..)
  exact ⟨hr.1, hr.2, ((State.icLines_eff ..).mem rfl).trans ((State.setIc_eff ..).mem rfl), ((State.icLines_eff ..).time rfl).trans ((State.setIc_eff ..).time rfl)⟩

/-! Storms. -/

/-- A word with one bit written names one source. -/
theorem sourcesOf_bit (k : Nat) {j : Nat} (hj : j < 32) : sourcesOf k ((1 <<< j : Word)).toNat = [32 * k + j] := by
  have h : ∀ j < 32, ((List.range 32).filter fun i => bitsOf ((1 <<< j : Word)).toNat i i == 1) = [j] := by decide
  rw [sourcesOf, h j hj]
  rfl

theorem stormClear_unmasks {s : State} {c k j : Nat} (hc : c < 2) (hk : k < 8) (hj : j < 32) (hup : s.icUp c = true) (hr : s.domRuns c = true) :
    s.Completes (.stormClear c k (1 <<< j)) fun u => u.on (stormF c (32 * k + j)) = false := by
  refine .of_next (exec_guardUnit rfl (by simp [Instr.wf, hc, hk])) ?_
  rw [if_pos (by simp [hup, hr]), sourcesOf_bit k hj, State.stormUnmask, State.stormUnmask]
  have hstorm : raiseRegs (stormF c (32 * k + j)).addr = false := raiseRegs_flag (n := 32 * k + j) hc (by omega) (.inr rfl)
  split
  · rw [(icSample_raise _ _ hc).on hstorm]
    exact (on_of_regs (regs_setIc ..) _).trans (on_set_zero _ _ (flag_hi _))
  next h => exact Bool.eq_false_iff.2 h

theorem stormWindowEnd_forgets {s : State} {c n : Nat} {w : Nat × Nat} (hc : c < 2) (hn : n < 256) (h : alFind (s.ic c).storm n = some w) :
    let u := (s.advancePlls (w.2 + 250 * s.get (F.IC.STORMCFG.WINDOW c) - s.time.plls)).settle
    s.Completes (.stormWindowEnd c n) fun v => alFind (v.ic c).storm n = none ∧ (∀ m, m ≠ n → alFind (v.ic c).storm m = alFind (u.ic c).storm m) ∧ v.regs = u.regs ∧ v.time = u.time := by
  intro u
  refine .of_next (t := u.setIc c { u.ic c with storm := alDel (u.ic c).storm n }) ((exec_guardUnit rfl (by simp [Instr.wf, hc, hn])).trans (by rw [h])) ?_
  rw [ic_setIc_same]
  exact ⟨(alFind_alDel _ n n).trans (if_pos rfl), fun m hm => (alFind_alDel _ n m).trans (if_neg hm), regs_setIc .., (State.setIc_eff ..).time rfl⟩

theorem exec_stormWindowEnd_none {s : State} {c n : Nat} (hc : c < 2) (hn : n < 256) (h : alFind (s.ic c).storm n = none) : exec (.stormWindowEnd c n) s = .next s :=
  (exec_guardUnit rfl (by simp [Instr.wf, hc, hn])).trans (by rw [h])

/-! Return from a trap. -/

theorem coreTakes_idle (s : State) (t : Nat) : s.coreTakes t false false = s := by
  unfold State.coreTakes
  split <;> simp

/-- With no source assigned no line rises, so no core's bank moves. -/
theorem icLines_noSource {s : State} {t core : Nat} (ht : t < 2) (h : s.sic.asg = []) : (s.icLines 1 t).on (F.SC.BANKCTL.CUR core) = s.on (F.SC.BANKCTL.CUR core) := by
  have h' : (s.ic 1).asg = [] := h
  have hne : (F.SC.BANKCTL.CUR core).addr ≠ (F.IC.TSTAT.NPEND 1 t).addr := by
    show 0x2000007c0 + 0x1000 * core ≠ 0x14000160c + 0x40 * t
    omega
  unfold State.icLines
  simp only [h', List.filter_nil, List.map_nil, List.isEmpty_nil, Bool.not_true, Bool.and_false, Bool.false_and, Bool.or_false, Bool.false_eq_true, if_false, if_true, coreTakes_idle]
  rw [on_set_addr _ _ hne]
  exact on_of_regs (regs_setIc ..) _

theorem mret_restores {s : State} {core : Nat} (hcore : core < 2) (hr : s.domRuns 1 = true) (hcur : s.on (F.SC.BANKCTL.CUR core) = true) (h : s.sic.asg = []) :
    s.Completes (.mret core) fun u => u.on (F.SC.BANKCTL.CUR core) = false := by
  refine .of_next (exec_guardUnit rfl (by simp [Instr.wf, hcore])) ?_
  rw [if_pos (by simp [hr, hcur]), icLines_noSource (s := s.set _ _) hcore h]
  exact on_set_zero _ _ (by simp)

theorem exec_mret_normal {s : State} {core : Nat} (hcore : core < 2) (hcur : s.on (F.SC.BANKCTL.CUR core) = false) : exec (.mret core) s = .next s :=
  (exec_guardUnit rfl (by simp [Instr.wf, hcore])).trans (by rw [if_neg (by simp [hcur])])

/-- Settles O25: each clause is the command's own lemma above. -/
theorem interrupts : Obligations.Interrupts := by
  unfold Obligations.Interrupts
  refine ⟨fun s c n t level v hc hn ht hup => ⟨interruptSourceEvent_pends level hc hn hup, claim_completes hc hn ht hup, claim_nothing hc ht hup, complete_ends hc hn ht hup, complete_errs hc ht hup⟩,
    fun s c n t k j core since w hc hn ht hk hj hcore => ⟨moderationTimeout_rises hc ht, stormClear_unmasks hc hk hj, stormWindowEnd_forgets hc hn, exec_stormWindowEnd_none hc hn, mret_restores hcore,
      exec_mret_normal hcore⟩⟩

end Sys2Proof.Machine
end

section
/-! PROOFS. A claim of a source the controller does not have writes outside the controller's registers (R437). -/

namespace Sys2Proof.Machine

/-- HIC with a source assigned that lies past its 256: its ACTIVE bit would stand in the word at 0x40100740, which the controller does not own. -/
def strayPend : State := { tUp with hic := { Ic.reset with asg := [(6144, 0)] } }

theorem strayPend_claims : strayPend.icUp 0 = true ∧ strayPend.domRuns 0 = true ∧ strayPend.claimNext 0 0 = some 6144 ∧ strayPend.on (activeF 0 6144) = false ∧ (activeF 0 6144).addr = 0x40100740 := by decide +kernel

theorem exec_claim_strayPend : exec (.claim 0 0) strayPend = .next ((strayPend.claimed 0 0 6144).icLines 0 0) := by
  obtain ⟨hup, hr, hn, -, -⟩ := strayPend_claims
  refine (exec_guardUnit rfl rfl).trans ?_
  rw [if_pos (by rw [hup, hr]; rfl), claim_some hn]

/-- The claim sets the ACTIVE bit of the source it takes. -/
theorem claimed_strayPend_active : ((strayPend.claimed 0 0 6144).icLines 0 0).on (activeF 0 6144) = true := by
  rw [(icLines_lines _ (by decide) (by decide)).on (by decide)]
  decide +kernel

/-- Refutes O58: CLAIM takes any source that is assigned, also one past 255; its ACTIVE bit then stands in a word that no interrupt writes. The statement asks for no state in which only sources of the
controller are assigned. -/
theorem not_registerFrames : ¬ Obligations.RegisterFrames := by
  unfold Obligations.RegisterFrames
  intro h
  obtain ⟨-, -, hic, -, -⟩ := h strayPend _ (.claim 0 0) 0x40100740 0 0 0 0 none false [] [] exec_claim_strayPend
  obtain ⟨-, -, -, hoff, haddr⟩ := strayPend_claims
  have hkept := hic (by simp) (by decide)
  have hon := claimed_strayPend_active
  rw [State.on, State.get, haddr, hkept, ← haddr, ← State.get, ← State.on, hoff] at hon
  exact Bool.false_ne_true hon

end Sys2Proof.Machine
end

section
/-! PROOFS. The management port TWM (R353, R470 to R473). -/

namespace Sys2Proof.Machine

/-! Interrupts and wakes never enter or leave FROST, and set no mark of a wake in progress. -/

/-- Whether the chip is in FROST, and whether AOC's alarm has woken it. -/
def State.doze (s : State) : Bool × Bool := (s.season.frost, s.season.waking)

theorem Keeps.frost {s t : State} (h : Keeps State.doze s t) : t.season.frost = s.season.frost := congrArg Prod.fst h

theorem Keeps.waking {s t : State} (h : Keeps State.doze s t) : t.season.waking = s.season.waking := congrArg Prod.snd h

theorem doze_of_season {s t : State} (h : t.season = s.season) : Keeps State.doze s t := congrArg (fun x : Season => (x.frost, x.waking)) h

theorem doze_of_eff {F : Nat} {s t : State} (h : Eff F s t) (hF : F.testBit 29 = false) : Keeps State.doze s t := doze_of_season (h.season hF)

theorem wakeNow_doze (s : State) (srcs : Nat) : Keeps State.doze s (s.wakeNow srcs) := by
  have hu : ∀ u : State, u.seasonUpdate.season = u.season := fun u => (State.seasonUpdate_eff u).season rfl
  have hp : ∀ u : State, (u.icPend1 1 5).season = u.season := fun u => (State.icPend1_eff u 1 5).season rfl
  unfold State.wakeNow
  dsimp only
  split
  · split <;> simp [Keeps, State.doze, hu, hp]
  · exact .refl s

theorem wakeSapwood_doze (s : State) (bit : Nat) : Keeps State.doze s (s.wakeSapwood bit) := by
  unfold State.wakeSapwood
  exact .ite (.refl s) (.ite (wakeNow_doze ..) (by simp [Keeps, State.doze]))

theorem icPend_doze (s : State) (c n : Nat) : Keeps State.doze s (s.icPend c n) := by
  have hp : Keeps State.doze s (s.icPend1 c n) := doze_of_eff (State.icPend1_eff s c n) rfl
  unfold State.icPend
  exact .ite (.after (wakeSapwood_doze ..) hp) hp

theorem icEdge_doze (s : State) (c n : Nat) : Keeps State.doze s (s.icEdge c n) := .ite (.refl s) (icPend_doze ..)

/-! Addressing. -/

/-- TWM as it is addressed: the match is shown and SIC source 25 receives an edge (R470). -/
def State.twmMatched (s : State) : State := (s.set F.TWM.STAT.MATCH 1).icEdge 1 25

theorem twmMatched_match (s : State) : s.twmMatched.on F.TWM.STAT.MATCH = true := ((icEdge_regs _ _ _).on (by decide)).trans (on_set_one _ _ (by decide) rfl)

theorem twmMatched_frost (s : State) : s.twmMatched.season.frost = s.season.frost := (icEdge_doze (s.set F.TWM.STAT.MATCH 1) 1 25).frost

/-- A wake by TWM where firmware allows it (R353). -/
def State.twmWoken (s : State) : State := if s.on F.SEASON.WAKE.TWM then s.wakeSapwood 5 else s

theorem twmWoken_regs (s : State) : KeepsRegs icRegs s s.twmWoken := .ite (wakeSapwood_regs _ _) (.refl s)

/-- TWM in a transaction (R470). -/
def State.twmOpen (s : State) (read : Bool) : State := { s with twm := { s.twm with active := true, read := read, ptrSet := false, snap := if read then s.twmRegs else [] } }

theorem exec_twmAddressMatch_frost {s : State} {read : Bool} (h : s.twmOn = true) (hf : s.season.frost = true) :
    exec (.twmAddressMatch read) s = .next (({ s.twmMatched with twm := { s.twmMatched.twm with active := false, wakeReq := true } }).set F.TWM.STAT.FROST_NACK 1) := by
  show execTwmAddressMatch read s = _
  rw [execTwmAddressMatch, if_neg (by simp [h])]
  exact congrArg Host.Outcome.next (if_pos ((twmMatched_frost s).trans hf))

theorem exec_twmAddressMatch {s : State} {read : Bool} (h : s.twmOn = true) (hf : s.season.frost = false) :
    exec (.twmAddressMatch read) s = .next (s.twmMatched.twmWoken.twmOpen read) := by
  show execTwmAddressMatch read s = _
  rw [execTwmAddressMatch, if_neg (by simp [h])]
  exact congrArg Host.Outcome.next (if_neg (by rw [show ((s.set F.TWM.STAT.MATCH 1).icEdge 1 25).season.frost = false from (twmMatched_frost s).trans hf]; decide))

/-! Bytes. -/

theorem twmNext_eq {r : Nat} (h : r ≤ 7) : twmNext r = min 7 (r + 1) := by
  unfold twmNext
  split <;> omega

/-- A byte written to a mailbox place is stored there (R470). -/
theorem twmPut_mailbox (s : State) {r : Nat} (b : Byte) (h : 3 ≤ r) : s.twmPut r b false = s.set (F.TWM.MB.MB (r - 3)) b.toNat := by
  rw [State.twmPut, if_neg (by omega), if_pos h]
  rfl

theorem exec_twmWrite_pointer {s : State} {b : Byte} (h : s.twmOn = true) (ha : s.twm.active = true) (hr : s.twm.read = false) (hp : s.twm.ptrSet = false) :
    exec (.twmWrite [b] []) s = .next { s with twm := { s.twm with ptr := min 7 b.toNat, ptrSet := true } } := by
  show execTwmWrite [b] [] s = _
  rw [execTwmWrite, if_pos (by simp [h, ha, hr]), State.twmPuts, State.twmPuts, if_neg (by simp [hp])]

theorem exec_twmWrite_mailbox {s : State} {b : Byte} (h : s.twmOn = true) (ha : s.twm.active = true) (hr : s.twm.read = false) (hp : s.twm.ptrSet = true) (h3 : 3 ≤ s.twm.ptr) :
    exec (.twmWrite [b] []) s = .next { s.set (F.TWM.MB.MB (s.twm.ptr - 3)) b.toNat with twm := { s.twm with ptr := twmNext s.twm.ptr } } := by
  show execTwmWrite [b] [] s = _
  rw [execTwmWrite, if_pos (by simp [h, ha, hr]), State.twmPuts, State.twmPuts, if_pos hp]
  dsimp only
  rw [show ([] : List Nat).contains 0 = false from rfl, twmPut_mailbox s b h3, State.set_twm]

theorem twmMailbox_stored (s : State) (x : Twm) {k : Nat} (b : Byte) : ({ s.set (F.TWM.MB.MB k) b.toNat with twm := x } : State).get (F.TWM.MB.MB k) = b.toNat :=
  (get_of_regs (s := s.set (F.TWM.MB.MB k) b.toNat) rfl _).trans ((get_set _ _ _ (by simp)).trans (Nat.mod_eq_of_lt b.isLt))

/-- Settles O42: each command in turn, by what it stores. -/
theorem managementPort : Obligations.ManagementPort := by
  unfold Obligations.ManagementPort
  intro s read b n h
  refine ⟨fun hf => .of_next (exec_twmAddressMatch_frost h hf) ⟨rfl, rfl, on_set_one _ _ (by decide) rfl, ?_⟩, fun hf => .of_next (exec_twmAddressMatch h hf) ⟨rfl, rfl, rfl, rfl, ?_⟩,
    fun ha hr hp => .of_next (exec_twmWrite_pointer h ha hr hp) ⟨rfl, rfl⟩, fun ha hr hp h3 h7 => .of_next (exec_twmWrite_mailbox h ha hr hp h3) ⟨twmMailbox_stored .., twmNext_eq h7, rfl⟩, fun ha hr => ?_, fun ha => ?_,
    fun ha => ?_⟩
  · rw [on_set_disj _ _ (by decide) (by decide)]
    exact twmMatched_match s
  · exact ((twmWoken_regs s.twmMatched).on (by decide)).trans (twmMatched_match s)
  · exact .of_next (congrArg Host.Outcome.next (if_pos (by simp [h, ha, hr]))) ⟨rfl, rfl, rfl, rfl⟩
  · have hao : s.pins.heldAo = false := by
      simp only [State.twmOn, Bool.and_eq_true, Bool.not_eq_true'] at h
      exact h.1
    refine .of_next (congrArg Host.Outcome.next (if_pos (by simp [hao, ha]))) ⟨?_, on_set_zero _ _ (by decide), rfl⟩
    rw [on_set_addr _ _ (by decide)]
    exact on_set_one _ _ (by decide) rfl
  · exact .of_next (congrArg Host.Outcome.next (if_pos (by simp [h, ha]))) ⟨on_set_one _ _ (by decide) rfl, rfl⟩

end Sys2Proof.Machine
end

section
/-! SUPPORT. What the operations of a two-wire port leave in its registers and buffers (R461 to R465). -/

namespace Sys2Proof.Machine

@[simp] theorem twp_setTwp (s : State) (n : Nat) (x : TwPort) : (s.setTwp n x).twp n = x := alGet_alSet_same ..

@[simp] theorem twp_set (s : State) (f : Fld) (v n : Nat) : (s.set f v).twp n = s.twp n := rfl

@[simp] theorem get_setTwp (s : State) (n : Nat) (x : TwPort) (f : Fld) : (s.setTwp n x).get f = s.get f := rfl

@[simp] theorem on_setTwp (s : State) (n : Nat) (x : TwPort) (f : Fld) : (s.setTwp n x).on f = s.on f := rfl

theorem twp_of_tw {s t : State} (h : t.tw = s.tw) (n : Nat) : t.twp n = s.twp n := by rw [State.twp, State.twp, h]

/-- A port's registers stand apart from those that an interrupt or a wake writes. -/
theorem twAddr_ic {n k : Nat} (hn : n < 8) (hk : k < 0x1000) : icRegs (twBase n + k) = false := by
  have hb : twBase n = 0x40110000 + 0x10000 * n ∨ twBase n = 0x140006000 + 0x1000 * (n - 4) := by
    unfold twBase
    split <;> simp
  simp only [icRegs, Bool.or_eq_false_iff, Bool.and_eq_false_iff, decide_eq_false_iff_not, beq_eq_false_iff_ne]
  omega

theorem twIrq_regs (s : State) (n : Nat) : KeepsRegs icRegs s (s.twIrq n) := .ite (icSample_regs _ _ _) (icSample_regs _ _ _)

theorem twIrq_tw (s : State) (n : Nat) : (s.twIrq n).tw = s.tw := (State.twIrq_eff ..).tw rfl

section
variable {n k : Nat} (hn : n < 8) (hk : k < 0x1000 := by decide)
include hn hk

/-- Sampling its interrupt leaves a port's registers. -/
theorem twIrq_get (s : State) {hi lo : Nat} : (s.twIrq n).get ⟨twBase n + k, hi, lo⟩ = s.get ⟨twBase n + k, hi, lo⟩ := (twIrq_regs s n).get (twAddr_ic hn hk)

theorem twIrq_on (s : State) {hi lo : Nat} : (s.twIrq n).on ⟨twBase n + k, hi, lo⟩ = s.on ⟨twBase n + k, hi, lo⟩ := (twIrq_regs s n).on (twAddr_ic hn hk)

theorem auxOn_get (s : State) {hi lo : Nat} : s.auxOn.get ⟨twBase n + k, hi, lo⟩ = s.get ⟨twBase n + k, hi, lo⟩ := get_set_addr s 1 fun h => by
  have := twAddr_ic hn hk
  rw [show twBase n + k = 0x40070000 from h] at this
  exact absurd this (by decide)

theorem auxOn_on (s : State) {hi lo : Nat} : s.auxOn.on ⟨twBase n + k, hi, lo⟩ = s.on ⟨twBase n + k, hi, lo⟩ := congrArg (· != 0) (auxOn_get hn hk s)

theorem twFlag_on (s : State) {b : Nat} (hb : b < 32) : (s.twFlag n ⟨twBase n + k, b, b⟩).on ⟨twBase n + k, b, b⟩ = true := (twIrq_on hn hk _).trans (on_set_one _ _ hb rfl)

end

theorem twFlag_tw (s : State) (n : Nat) (f : Fld) : (s.twFlag n f).tw = s.tw := twIrq_tw ..

/-- A flag shown leaves every other field of the port. -/
theorem twFlag_get {n j k hi lo b : Nat} (hn : n < 8) (s : State) (hh : hi < 32) (h : j ≠ k ∨ b < lo ∨ hi < b) (hj : j < 0x1000 := by decide) :
    (s.twFlag n ⟨twBase n + k, b, b⟩).get ⟨twBase n + j, hi, lo⟩ = s.get ⟨twBase n + j, hi, lo⟩ := by
  rw [State.twFlag, twIrq_get hn hj]
  rcases h with h | h
  · exact get_set_addr _ _ (fun e => h (Nat.add_left_cancel e))
  · exact get_set_disj _ _ hh h.symm

/-! The end of a transfer. -/

/-- The state after k free values. -/
def State.freed (s : State) (k : Nat) : State := { s with freeCtr := s.freeCtr + k }

@[simp] theorem get_freed (s : State) (k : Nat) (f : Fld) : (s.freed k).get f = s.get f := rfl

@[simp] theorem twp_freed (s : State) (k n : Nat) : (s.freed k).twp n = s.twp n := rfl

/-- The buffers and flags of a transfer that ends, before its kind is shown. -/
def State.twDone (s : State) (n res : Nat) : State :=
  (((((s.setTwp n { s.twp n with tx := [], run := false, retry := false, due := [], res := 0 }).set (F.TW.TXDATA.COUNT n) 0).freed 32).set (F.TW.STATUS.RESULT n) res).set (F.TW.STATUS.BUSY n) 0).set (F.TW.STATUS.DONE n) 1

/-- The flag of the kind of end: no acknowledgement, a bus error, a wrong PEC. -/
def State.twKind (s : State) (n res : Nat) : State :=
  if res = 1 then s.set (F.TW.STATUS.NACK n) 1 else if res = 4 then s.set (F.TW.STATUS.BUS_ERR n) 1 else if res = 5 then s.set (F.TW.STATUS.PEC_ERR n) 1 else s

theorem twEnd_eq (s : State) (n res : Nat) : s.twEnd n res = ((s.twDone n res).twKind n res).twIrq n := rfl

theorem twKind_get (s : State) {n res j hi lo : Nat} (hh : hi < 32) (h : j ≠ 0x14 ∨ hi < 2 ∨ 2 < lo ∧ hi < 7 ∨ 8 < lo) : (s.twKind n res).get ⟨twBase n + j, hi, lo⟩ = s.get ⟨twBase n + j, hi, lo⟩ := by
  have hs : ∀ b, 2 ≤ b → b ≤ 8 → b = 2 ∨ 7 ≤ b → (s.set ⟨twBase n + 0x14, b, b⟩ 1).get ⟨twBase n + j, hi, lo⟩ = s.get ⟨twBase n + j, hi, lo⟩ := fun b h2 h8 hb => by
    rcases h with h | h
    · exact get_set_addr _ _ (fun e => h (Nat.add_left_cancel e))
    · exact get_set_disj _ _ hh (by simp only; omega)
  unfold State.twKind
  split
  · exact hs 2 (by decide) (by decide) (by decide)
  split
  · exact hs 7 (by decide) (by decide) (by decide)
  split
  · exact hs 8 (by decide) (by decide) (by decide)
  · rfl

theorem twDone_get (s : State) {n res j hi lo : Nat} (hh : hi < 32) (h : j ≠ 0x14 ∧ j ≠ 0xc ∨ j = 0x14 ∧ 1 < lo ∧ hi < 12) : (s.twDone n res).get ⟨twBase n + j, hi, lo⟩ = s.get ⟨twBase n + j, hi, lo⟩ := by
  have hc : ∀ (u : State), (u.set (F.TW.TXDATA.COUNT n) 0).get ⟨twBase n + j, hi, lo⟩ = u.get ⟨twBase n + j, hi, lo⟩ := fun u => get_set_addr _ _ (fun e => by have := Nat.add_left_cancel e; omega)
  have hs : ∀ (u : State) (a b v : Nat), b ≤ a → a < 2 ∨ 12 ≤ b → (u.set ⟨twBase n + 0x14, a, b⟩ v).get ⟨twBase n + j, hi, lo⟩ = u.get ⟨twBase n + j, hi, lo⟩ := fun u a b v hab hb => by
    rcases h with h | h
    · exact get_set_addr _ _ (fun e => h.1 (Nat.add_left_cancel e))
    · exact get_set_disj _ _ hh (by simp only; omega)
  unfold State.twDone
  rw [hs _ 1 1 1 (by decide) (by decide), hs _ 0 0 0 (by decide) (by decide), hs _ 14 12 res (by decide) (by decide), get_freed, hc, get_setTwp]

/-- What the end of a transfer leaves of a port's other fields. -/
theorem twEnd_get {n : Nat} (hn : n < 8) (s : State) {res j hi lo : Nat} (hh : hi < 32) (h : j ≠ 0x14 ∧ j ≠ 0xc ∨ j = 0x14 ∧ 2 < lo ∧ hi < 7 ∨ j = 0x14 ∧ 8 < lo ∧ hi < 12) (hj : j < 0x1000 := by decide) :
    (s.twEnd n res).get ⟨twBase n + j, hi, lo⟩ = s.get ⟨twBase n + j, hi, lo⟩ := by
  rw [twEnd_eq, twIrq_get hn hj, twKind_get _ hh (by omega), twDone_get _ hh (by omega)]

theorem twEnd_on {n : Nat} (hn : n < 8) (s : State) {res b : Nat} (hb : 2 < b ∧ b < 7 ∨ 8 < b ∧ b < 12) : (s.twEnd n res).on ⟨twBase n + 0x14, b, b⟩ = s.on ⟨twBase n + 0x14, b, b⟩ :=
  congrArg (· != 0) (twEnd_get hn s (by omega) (by omega))

theorem twKind_tw (s : State) (n res : Nat) : (s.twKind n res).tw = s.tw := by
  simp only [State.twKind, apply_ite State.tw, State.set_tw, ite_self]

theorem twEnd_twp (s : State) (n res : Nat) : (s.twEnd n res).twp n = { s.twp n with tx := [], run := false, retry := false, due := [], res := 0 } := by
  rw [twEnd_eq, twp_of_tw (twIrq_tw ..), twp_of_tw (twKind_tw ..), State.twDone]
  simp only [twp_set, twp_freed, twp_setTwp]

/-- A transfer that has ended shows its RESULT and frees the port. -/
theorem twEnd_ended {n : Nat} (hn : n < 8) (s : State) {res : Nat} (hr : res < 8) : (s.twEnd n res).get (F.TW.STATUS.RESULT n) = res ∧ (s.twEnd n res).on (F.TW.STATUS.BUSY n) = false ∧
    (s.twEnd n res).on (F.TW.STATUS.DONE n) = true ∧ ((s.twEnd n res).twp n).run = false ∧ ((s.twEnd n res).twp n).tx = [] := by
  have hd : ∀ {hi lo : Nat}, hi < 2 ∨ 8 < lo → hi < 32 → (s.twEnd n res).get ⟨twBase n + 0x14, hi, lo⟩ = (s.twDone n res).get ⟨twBase n + 0x14, hi, lo⟩ := fun h hh => by
    rw [twEnd_eq, twIrq_get hn, twKind_get _ hh (by omega)]
  refine ⟨(hd (by decide) (by decide)).trans ?_, (congrArg (· != 0) (hd (by decide) (by decide))).trans ?_, (congrArg (· != 0) (hd (by decide) (by decide))).trans ?_, by rw [twEnd_twp], by rw [twEnd_twp]⟩
  · unfold State.twDone
    refine (get_set_disj _ _ (by simp) (by simp)).trans ((get_set_disj _ _ (by simp) (by simp)).trans ((get_set _ _ _ (by simp)).trans ?_))
    exact Nat.mod_eq_of_lt hr
  · unfold State.twDone
    exact (on_set_disj _ _ (by simp) (by simp)).trans (on_set_zero _ _ (by simp))
  · exact on_set_one _ _ (by simp) rfl

/-- The flag of the kind of end is shown. -/
theorem twEnd_kind {n : Nat} (hn : n < 8) (s : State) : (s.twEnd n 1).on (F.TW.STATUS.NACK n) = true ∧ (s.twEnd n 4).on (F.TW.STATUS.BUS_ERR n) = true :=
  ⟨(twIrq_on hn (by decide) _).trans (on_set_one _ _ (by simp) rfl), (twIrq_on hn (by decide) _).trans (on_set_one _ _ (by simp) rfl)⟩

end Sys2Proof.Machine
end

section
/-! PROOFS. The commands of the two-wire ports (R461 to R469). -/

namespace Sys2Proof.Machine

theorem bitsOf_bit_zero {v k : Nat} (h : v.testBit k = false) : bitsOf v k k = 0 := by
  rw [bitsOf, show k + 1 - k = 1 by omega]
  rw [Nat.testBit_eq_decide_div_mod_eq, decide_eq_false_iff_not] at h
  omega

theorem bitsOf_bit_one {v k : Nat} (h : v.testBit k = true) : bitsOf v k k = 1 := by
  rw [bitsOf, show k + 1 - k = 1 by omega]
  rw [Nat.testBit_eq_decide_div_mod_eq, decide_eq_true_eq] at h
  omega

/-! TW.CMD. -/

theorem twCmdFields_addr (s : State) (n v : Nat) : (s.twCmdFields n v).get (F.TW.CMD.ADDR n) = v % 128 := by
  have hc : ∀ (u : State) (a b w : Nat), 8 ≤ b → (u.set ⟨twBase n + 8, a, b⟩ w).get (F.TW.CMD.ADDR n) = u.get (F.TW.CMD.ADDR n) := fun u a b w hb => get_set_disj _ _ (by simp) (.inl (by simp only; omega))
  have h0 : (s.set (F.TW.CMD.ADDR n) (bitsOf v 6 0)).get (F.TW.CMD.ADDR n) = v % 128 := (get_set _ _ _ (by simp)).trans (by simp [bitsOf])
  unfold State.twCmdFields
  rw [hc _ 25 25 _ (by decide), hc _ 24 24 _ (by decide), hc _ 23 16 _ (by decide)]
  split
  · rw [hc _ 13 8 _ (by decide), h0]
  · exact h0

theorem twCmdFields_tw (s : State) (n v : Nat) : (s.twCmdFields n v).tw = s.tw := (State.twCmdFields_eff ..).tw rfl

/-- A transfer that starts (R461). -/
def State.twStarted (s : State) (n : Nat) : State :=
  (((s.setTwp n { s.twp n with run := true, retry := false, due := [], res := 0, sent := [] }).set (F.TW.STATUS.BUSY n) 1).set (F.TW.POS.ATTEMPTS n) 0).auxOn

theorem twCmd_idle {s : State} {n v : Nat} (hb : s.on (F.TW.STATUS.BUSY n) = false) : s.twCmd n v = if bitsOf v 31 31 = 0 then s.twCmdFields n v else ((s.twCmdFields n v).twClock n).twStarted n := by
  rw [State.twCmd, if_neg (by simp [hb])]
  rfl

theorem twCmd_busy {s : State} {n v : Nat} (hb : s.on (F.TW.STATUS.BUSY n) = true) : s.twCmd n v = if bitsOf v 31 31 = 0 then s else s.twFlag n (F.TW.STATUS.CMD_LOST n) := by
  rw [State.twCmd, if_pos hb]

theorem twStarted_twp (s : State) (n : Nat) : (s.twStarted n).twp n = { s.twp n with run := true, retry := false, due := [], res := 0, sent := [] } := by
  rw [State.twStarted, State.auxOn, twp_set, twp_set, twp_set, twp_setTwp]

theorem twClock_twp (s : State) (n : Nat) : (s.twClock n).twp n = { s.twp n with low := (s.twTimes n).1, high := (s.twTimes n).2 } := twp_setTwp ..

theorem twClock_get (s : State) (n : Nat) (f : Fld) : (s.twClock n).get f = s.get f := get_setTwp ..

section
variable {n : Nat} (hn : n < 8)
include hn

theorem twStarted_cmd (s : State) {hi lo : Nat} : (s.twStarted n).get ⟨twBase n + 8, hi, lo⟩ = s.get ⟨twBase n + 8, hi, lo⟩ := by
  rw [State.twStarted, auxOn_get hn (by decide), get_set_addr _ _ (fun e => absurd (Nat.add_left_cancel e) (by decide)), get_set_addr _ _ (fun e => absurd (Nat.add_left_cancel e) (by decide)), get_setTwp]

theorem twStarted_shown (s : State) : (s.twStarted n).on (F.TW.STATUS.BUSY n) = true ∧ (s.twStarted n).get (F.TW.POS.ATTEMPTS n) = 0 := by
  constructor
  · rw [State.twStarted, auxOn_on hn (by decide), on_set_addr _ _ (fun e => absurd (Nat.add_left_cancel e) (by decide))]
    exact on_set_one _ _ (by simp) rfl
  · rw [State.twStarted, auxOn_get hn (by decide)]
    exact (get_set _ _ _ (by simp)).trans (Nat.zero_mod _)

variable {s : State} (hr : s.domRuns (twDom n) = true)
include hr

theorem exec_twGo (v : Word) : exec (.twGo n v) s = .next (s.twCmd n v.toNat) := (exec_guardUnit rfl (by simp [Instr.wf, hn])).trans (by rw [if_pos hr])

theorem twGo_starts {v : Word} (hv : v.toNat.testBit 31 = true) (hb : s.on (F.TW.STATUS.BUSY n) = false) : s.Completes (.twGo n v) fun t => (t.twp n).run = true ∧ (t.twp n).tx = (s.twp n).tx ∧
    t.on (F.TW.STATUS.BUSY n) = true ∧ t.get (F.TW.POS.ATTEMPTS n) = 0 ∧ t.get (F.TW.CMD.ADDR n) = v.toNat % 128 ∧ t.mem = s.mem := by
  refine .of_next (exec_twGo hn hr v) ?_
  have hmem : (s.twCmd n v.toNat).mem = s.mem := (State.twCmd_eff ..).mem rfl
  rw [twCmd_idle hb, if_neg (by simp [bitsOf_bit_one hv])] at hmem ⊢
  refine ⟨by rw [twStarted_twp], ?_, (twStarted_shown hn _).1, (twStarted_shown hn _).2, ?_, hmem⟩
  · rw [twStarted_twp, twClock_twp, twp_of_tw (twCmdFields_tw ..)]
  · rw [twStarted_cmd hn, twClock_get, twCmdFields_addr]

theorem twGo_lost {v : Word} (hv : v.toNat.testBit 31 = true) (hb : s.on (F.TW.STATUS.BUSY n) = true) : s.Completes (.twGo n v) fun t => t.on (F.TW.STATUS.CMD_LOST n) = true ∧ t.tw = s.tw := by
  refine .of_next (exec_twGo hn hr v) ?_
  rw [twCmd_busy hb, if_neg (by simp [bitsOf_bit_one hv])]
  exact ⟨twFlag_on hn (by decide) s (by decide), twFlag_tw ..⟩

theorem twGo_fields {v : Word} (hv : v.toNat.testBit 31 = false) (hb : s.on (F.TW.STATUS.BUSY n) = false) : s.Completes (.twGo n v) fun t => t.get (F.TW.CMD.ADDR n) = v.toNat % 128 ∧ t.tw = s.tw := by
  refine .of_next (exec_twGo hn hr v) ?_
  rw [twCmd_idle hb, if_pos (bitsOf_bit_zero hv)]
  exact ⟨twCmdFields_addr .., twCmdFields_tw ..⟩

theorem exec_twGo_ignored {v : Word} (hv : v.toNat.testBit 31 = false) (hb : s.on (F.TW.STATUS.BUSY n) = true) : exec (.twGo n v) s = .next s := by
  rw [exec_twGo hn hr, twCmd_busy hb, if_pos (bitsOf_bit_zero hv)]

end

/-! Transfers. -/

theorem twPos_byte {n : Nat} (s : State) (byte bit kind : Nat) : (s.twPos n byte bit kind).get (F.TW.POS.BYTE n) = byte % 512 :=
  (get_set_disj _ _ (by simp) (by simp)).trans ((get_set_disj _ _ (by simp) (by simp)).trans (get_set _ _ _ (by simp)))

theorem twPos_twp (s : State) (m byte bit kind n : Nat) : (s.twPos m byte bit kind).twp n = s.twp n := rfl

/-- A field of another register than POS. -/
theorem twPos_get (s : State) {n byte bit kind k hi lo : Nat} (hk : k ≠ 0x18) : (s.twPos n byte bit kind).get ⟨twBase n + k, hi, lo⟩ = s.get ⟨twBase n + k, hi, lo⟩ := by
  have h : ∀ (u : State) (a b v : Nat), (u.set ⟨twBase n + 0x18, a, b⟩ v).get ⟨twBase n + k, hi, lo⟩ = u.get ⟨twBase n + k, hi, lo⟩ := fun u a b v => get_set_addr _ _ (fun e => hk (Nat.add_left_cancel e))
  rw [State.twPos, h, h, h]

theorem twPut_rx {s : State} {n : Nat} {bs : List Byte} (h : (s.twp n).rx.length + bs.length ≤ 32) : (s.twPut n bs).twp n = { s.twp n with rx := (s.twp n).rx ++ bs, due := [] } := by
  unfold State.twPut
  dsimp only
  rw [twp_setTwp, List.take_of_length_le (by omega), List.drop_of_length_le (by omega)]

theorem twKeep_rx (s : State) (n : Nat) (bs : List Byte) : ((s.twKeep n bs).twp n).rx = ((s.twp n).rx ++ bs).take 32 := congrArg TwPort.rx (twp_setTwp ..)

theorem twSentTo_rx (s : State) (n k : Nat) : ((s.twSentTo n k).twp n).rx = (s.twp n).rx := by rw [State.twSentTo, twp_setTwp]

/-- A transfer that has ended with `res`. -/
def State.TwEnded (t : State) (n res : Nat) : Prop :=
  t.get (F.TW.STATUS.RESULT n) = res ∧ t.on (F.TW.STATUS.BUSY n) = false ∧ t.on (F.TW.STATUS.DONE n) = true ∧ (t.twp n).run = false ∧ (t.twp n).tx = []

section
variable {s : State} {n : Nat} (hn : n < 8) (ho : s.twOn n = true)
include hn ho

theorem twTransferEnd_nack {k : Nat} (data : List Byte) (hk : k ≤ s.twLastSent n) : s.Completes (.twTransferEnd n (some k) data) fun t => t.TwEnded n 1 ∧ t.on (F.TW.STATUS.NACK n) = true ∧
    t.get (F.TW.POS.BYTE n) = k % 512 := by
  refine .of_next (exec_guardUnit rfl (by simp [Instr.wf, hn])) ?_
  rw [if_pos ho, State.twRun, show (some k).filter (fun j => decide (j ≤ s.twLastSent n)) = some k by simp [hk]]
  exact ⟨twEnd_ended hn _ (by decide), (twEnd_kind hn _).1, (twEnd_get hn _ (by decide) (by decide)).trans (twPos_byte ..)⟩

theorem twTransferEnd_read {data : List Byte} (hd : (s.twp n).rx.length + (s.twRead n data).length ≤ 32) : s.Completes (.twTransferEnd n none data) fun t => (t.TwEnded n 0 ∨ t.TwEnded n 5) ∧
    (t.twp n).rx = (s.twp n).rx ++ s.twRead n data := by
  have hp : ((s.twSentTo n 35).twPut n (s.twRead n data)).twp n = { (s.twSentTo n 35).twp n with rx := (s.twp n).rx ++ s.twRead n data, due := [] } := by
    rw [twPut_rx (by rwa [twSentTo_rx]), twSentTo_rx]
  refine .of_next (exec_guardUnit rfl (by simp [Instr.wf, hn])) ?_
  rw [if_pos ho, State.twRun, Option.filter_none]
  dsimp only
  rw [if_pos (by rw [hp]; rfl)]
  refine ⟨?_, by rw [twEnd_twp, hp]⟩
  split
  · exact .inr (twEnd_ended hn _ (by decide))
  · exact .inl (twEnd_ended hn _ (by decide))

theorem twBusErr_ends (byte : Nat) (data : List Byte) : s.Completes (.twBusErr n byte data) fun t => t.TwEnded n 4 ∧ t.on (F.TW.STATUS.BUS_ERR n) = true ∧ (t.twp n).rx = ((s.twp n).rx ++ data).take 32 := by
  refine .of_next (exec_guardUnit rfl (by simp [Instr.wf, hn])) ?_
  rw [if_pos ho]
  refine ⟨twEnd_ended hn _ (by decide), (twEnd_kind hn _).2, ?_⟩
  rw [twEnd_twp, twPos_twp, twKeep_rx, twSentTo_rx]

/-! Arbitration. -/

/-- A loss of arbitration is shown (R464). -/
def State.arbMark (s : State) (n byte bit : Nat) : State := (((s.twSentTo n byte).twPos n byte bit 2).sat (F.TW.POS.ATTEMPTS n) 1).twFlag n (F.TW.STATUS.ARB_LOST n)

/-- What follows a loss of arbitration: the transfer waits to start again, or ends (R464). -/
def State.arbNext (s : State) (n byte bit : Nat) (data : List Byte) : State :=
  if s.twMayRetry n byte bit then (if s.get (F.TW.POS.ATTEMPTS n) ≤ s.get (F.TW.CFG.RETRY n) then s.setTwp n { s.twp n with retry := true } else s.twEnd n 2) else (s.twKeep n data).twEnd n 2

theorem exec_arbLost (byte bit : Nat) (data : List Byte) : exec (.arbLost n byte bit data) s = .next ((s.arbMark n byte bit).arbNext n byte bit data) :=
  (exec_guardUnit rfl (by simp [Instr.wf, hn])).trans (by rw [if_pos ho]; rfl)

end

theorem arbMark_twp (s : State) (n byte bit : Nat) : (s.arbMark n byte bit).twp n = { s.twp n with sent := (s.twSends n).take byte } := by
  rw [State.arbMark, twp_of_tw (twFlag_tw ..), State.sat, twp_set, twPos_twp]
  exact twp_setTwp ..

section
variable {s : State} {n byte bit : Nat} (hn : n < 8)
include hn

theorem arbMark_get {k hi lo : Nat} (hh : hi < 32) (hk : k ≠ 0x18 ∧ k ≠ 0x14) (hk' : k < 0x1000 := by decide) : (s.arbMark n byte bit).get ⟨twBase n + k, hi, lo⟩ = s.get ⟨twBase n + k, hi, lo⟩ := by
  rw [State.arbMark, twFlag_get hn _ hh (.inl hk.2) hk', State.sat, get_set_addr _ _ (fun e => hk.1 (Nat.add_left_cancel e)), twPos_get _ hk.1]
  rfl

theorem arbMark_attempts : (s.arbMark n byte bit).get (F.TW.POS.ATTEMPTS n) = min 31 (s.get (F.TW.POS.ATTEMPTS n) + 1) := by
  have hp : ((s.twSentTo n byte).twPos n byte bit 2).get (F.TW.POS.ATTEMPTS n) = s.get (F.TW.POS.ATTEMPTS n) :=
    (get_set_disj _ _ (by simp) (by simp)).trans ((get_set_disj _ _ (by simp) (by simp)).trans ((get_set_disj _ _ (by simp) (by simp)).trans rfl))
  rw [State.arbMark, twFlag_get hn _ (by decide) (by decide), get_sat _ _ _ (by simp), hp]
  rfl

theorem arbMark_mayRetry : (s.arbMark n byte bit).twMayRetry n byte bit = s.twMayRetry n byte bit := by
  have hg : ∀ {hi lo : Nat}, hi < 32 → (s.arbMark n byte bit).get ⟨twBase n + 8, hi, lo⟩ = s.get ⟨twBase n + 8, hi, lo⟩ := fun h => arbMark_get hn h (by decide)
  simp only [State.twMayRetry, State.twReads, State.twFirstRead, State.twNw, State.on, hg (show 23 < 32 by decide), hg (show 25 < 32 by decide), hg (show 13 < 32 by decide)]
  rfl

theorem arbMark_retry : (s.arbMark n byte bit).get (F.TW.CFG.RETRY n) = s.get (F.TW.CFG.RETRY n) := arbMark_get hn (by decide) (by decide)

theorem arbNext_lost {s : State} (data : List Byte) (h : s.on (F.TW.STATUS.ARB_LOST n) = true) : (s.arbNext n byte bit data).on (F.TW.STATUS.ARB_LOST n) = true := by
  unfold State.arbNext
  split
  · split
    · exact h
    · exact (twEnd_on hn s (by decide)).trans h
  · exact (twEnd_on hn _ (by decide)).trans h

theorem arbLost_completes (ho : s.twOn n = true) (data : List Byte) : s.Completes (.arbLost n byte bit data) fun t => t.on (F.TW.STATUS.ARB_LOST n) = true ∧
    (s.twMayRetry n byte bit = true → min 31 (s.get (F.TW.POS.ATTEMPTS n) + 1) ≤ s.get (F.TW.CFG.RETRY n) → (t.twp n).retry = true ∧ (t.twp n).run = true) ∧
    (s.twMayRetry n byte bit = true → s.get (F.TW.CFG.RETRY n) < min 31 (s.get (F.TW.POS.ATTEMPTS n) + 1) → t.TwEnded n 2) ∧ (s.twMayRetry n byte bit = false → t.TwEnded n 2) := by
  have hrun : (s.twp n).run = true := by
    simp only [State.twOn, Bool.and_eq_true] at ho
    exact ho.1.1.1.1
  refine .of_next (exec_arbLost hn ho byte bit data) ⟨arbNext_lost hn data (twFlag_on hn (by decide) _ (by decide)), fun hm ha => ?_, fun hm ha => ?_, fun hm => ?_⟩
  · rw [State.arbNext, if_pos (by rw [arbMark_mayRetry hn, hm]), if_pos (by rwa [arbMark_attempts hn, arbMark_retry hn]), twp_setTwp, arbMark_twp]
    exact ⟨rfl, hrun⟩
  · rw [State.arbNext, if_pos (by rw [arbMark_mayRetry hn, hm]), if_neg (by rw [arbMark_attempts hn, arbMark_retry hn]; omega)]
    exact twEnd_ended hn _ (by decide)
  · rw [State.arbNext, if_neg (by rw [arbMark_mayRetry hn, hm]; decide)]
    exact twEnd_ended hn _ (by decide)

end

theorem exec_arbitrationRetry {s : State} {n : Nat} (hn : n < 8) (hd : s.domRuns (twDom n) = true) (hr : (s.twp n).run = true) (ht : (s.twp n).retry = true) :
    exec (.arbitrationRetry n) s = .next (s.setTwp n { s.twp n with retry := false }) := (exec_guardUnit rfl (by simp [Instr.wf, hn])).trans (by rw [if_pos (by simp [hr, ht, hd])])

theorem twAbort_ends {s : State} {n : Nat} (hn : n < 8) (hd : s.domRuns (twDom n) = true) (data : List Byte) (hr : (s.twp n).run = true) :
    s.Completes (.twAbort n data) fun t => t.TwEnded n 6 ∧ (t.twp n).rx = ((s.twp n).rx ++ data).take 32 := by
  refine .of_next (exec_guardUnit rfl (by simp [Instr.wf, hn])) ?_
  rw [if_pos (by simp [State.twUsed, hr, hd])]
  exact ⟨twEnd_ended hn _ (by decide), by rw [twEnd_twp, twKeep_rx]⟩

/-! Timeouts. -/

/-- A port released and reset with both buffers empty (R463, R465). -/
def State.TwReset (t : State) (n : Nat) : Prop :=
  t.get (F.TW.STATUS.RESULT n) = 3 ∧ t.on (F.TW.STATUS.BUSY n) = false ∧ (t.twp n).run = false ∧ (t.twp n).tx = [] ∧ (t.twp n).rx = []

section
variable {s : State} {n : Nat} (hn : n < 8)
include hn

theorem twReset_resets : (s.twReset n).TwReset n := by
  obtain ⟨hres, hbusy, -, hrun, htx⟩ := twEnd_ended hn (s.setTwp n { s.twp n with rx := [] }) (res := 3) (by decide)
  exact ⟨hres, hbusy, hrun, htx, by rw [State.twReset, twEnd_twp, twp_setTwp]⟩

theorem twReset_on {b : Nat} (hb : 2 < b ∧ b < 7 ∨ 8 < b ∧ b < 12) : (s.twReset n).on ⟨twBase n + 0x14, b, b⟩ = s.on ⟨twBase n + 0x14, b, b⟩ := twEnd_on hn _ hb

theorem stretchTimeout_resets (ho : s.twOn n = true) : s.Completes (.stretchTimeout n) fun t => t.TwReset n ∧ t.on (F.TW.STATUS.TIMEOUT n) = true := by
  refine .of_next (exec_guardUnit rfl (by simp [Instr.wf, hn])) ?_
  rw [if_pos (by simp [ho])]
  exact ⟨twReset_resets hn, (twReset_on hn (by decide)).trans (on_set_one _ _ (by simp) rfl)⟩

variable (hd : s.domRuns (twDom n) = true)
include hd

theorem sclLowTimeout_shows (hm : s.get (F.TW.CFG.SCL_LOW_MS n) ≠ 0) : s.Completes (.sclLowTimeout n) fun t => t.on (F.TW.STATUS.SCL_LOW n) = true ∧
    ((s.twp n).run = true → t.TwReset n ∧ t.on (F.TW.STATUS.TIMEOUT n) = true) := by
  have hf : (s.twFlag n (F.TW.STATUS.SCL_LOW n)).on (F.TW.STATUS.SCL_LOW n) = true := twFlag_on hn (by decide) _ (by decide)
  refine .of_next (exec_guardUnit rfl (by simp [Instr.wf, hn])) ?_
  rw [if_neg (by simp [hm, hd])]
  dsimp only
  split
  · refine ⟨(twReset_on hn (by decide)).trans ?_, fun _ => ⟨twReset_resets hn, (twReset_on hn (by decide)).trans (on_set_one _ _ (by simp) rfl)⟩⟩
    rw [on_set_disj _ _ (by simp) (by simp), hf]
  next hu => exact ⟨hf, fun hr => absurd (by rw [State.twUsed, twp_of_tw (twFlag_tw ..), hr, Bool.true_or]) hu⟩

theorem sdaLowTimeout_shows (hm : s.get (F.TW.CFG.SDA_LOW_MS n) ≠ 0) : s.Completes (.sdaLowTimeout n) fun t => t.on (F.TW.STATUS.SDA_LOW n) = true ∧ ((s.twp n).run = true → t.TwReset n) := by
  have hf : (s.twFlag n (F.TW.STATUS.SDA_LOW n)).on (F.TW.STATUS.SDA_LOW n) = true := twFlag_on hn (by decide) _ (by decide)
  refine .of_next (exec_guardUnit rfl (by simp [Instr.wf, hn])) ?_
  rw [if_neg (by simp [hm, hd])]
  dsimp only
  split
  · exact ⟨(twReset_on hn (by decide)).trans hf, fun _ => twReset_resets hn⟩
  next hu => exact ⟨hf, fun hr => absurd (by rw [State.twUsed, twp_of_tw (twFlag_tw ..), hr, Bool.true_or]) hu⟩

theorem recover_stuck (hb : s.on (F.TW.STATUS.BUSY n) = false) : s.Completes (.recover n false) fun t => t.on (F.TW.STATUS.SDA_LOW n) = true ∧ t.tw = s.tw := by
  refine .of_next (exec_guardUnit rfl (by simp [Instr.wf, hn])) ?_
  rw [if_neg (by simp [hb, hd])]
  exact ⟨twFlag_on hn (by decide) _ (by decide), twFlag_tw ..⟩

/-! Buffers. -/

theorem exec_twTxdata (v : Word) : exec (.twTxdata n v) s = .next (s.twTx n v.toNat) := (exec_guardUnit rfl (by simp [Instr.wf, hn])).trans (by rw [if_pos hd])

theorem twTxdata_stores {v : Word} (hb : s.on (F.TW.STATUS.BUSY n) = false) (hl : (s.twp n).tx.length < 32) : s.Completes (.twTxdata n v) fun t => (t.twp n).tx = (s.twp n).tx ++ [BitVec.ofNat 8 v.toNat] ∧
    t.get (F.TW.TXDATA.COUNT n) = (s.twp n).tx.length + 1 ∧ t.mem = s.mem := by
  refine .of_next (exec_twTxdata hn hd v) ?_
  rw [State.twTx, if_neg (by simp [hb, hl])]
  refine ⟨by rw [twp_set, twp_setTwp], (get_set _ _ _ (by simp)).trans (Nat.mod_eq_of_lt ?_), rfl⟩
  show _ < 64
  omega

theorem twTxdata_overflows {v : Word} (h : s.on (F.TW.STATUS.BUSY n) = true ∨ 32 ≤ (s.twp n).tx.length) : s.Completes (.twTxdata n v) fun t => t.on (F.TW.STATUS.TXOVF n) = true ∧ t.tw = s.tw := by
  refine .of_next (exec_twTxdata hn hd v) ?_
  rw [State.twTx, if_pos (by simpa using h)]
  exact ⟨twFlag_on hn (by decide) _ (by decide), twFlag_tw ..⟩

theorem exec_twRxdata : exec (.twRxdata n) s = .next (s.twRx n) := (exec_guardUnit rfl (by simp [Instr.wf, hn])).trans (by rw [if_pos hd])

/-- RXDATA as it shows a byte, and the buffer without it (R461). -/
def State.twShown (s : State) (n : Nat) (b : Byte) (rest : List Byte) : State :=
  ((((s.set (F.TW.RXDATA.COUNT n) (s.twp n).rx.length).set (F.TW.RXDATA.DATA n) b.toNat).set (F.TW.RXDATA.VALID n) 1)).setTwp n { s.twp n with rx := rest ++ (s.twp n).due.take 1, due := (s.twp n).due.drop 1 }

omit hn hd in
theorem twShown_data (b : Byte) (rest : List Byte) : (s.twShown n b rest).get (F.TW.RXDATA.DATA n) = b.toNat ∧ (s.twShown n b rest).on (F.TW.RXDATA.VALID n) = true := by
  rw [State.twShown, get_setTwp, on_setTwp]
  exact ⟨(get_set_disj _ _ (by simp) (by simp)).trans ((get_set _ _ _ (by simp)).trans (Nat.mod_eq_of_lt b.isLt)), on_set_one _ _ (by simp) rfl⟩

omit hn hd in
theorem twShown_twp (b : Byte) (rest : List Byte) : ((s.twShown n b rest).twp n).rx = rest ++ (s.twp n).due.take 1 := by rw [State.twShown, twp_setTwp]

omit hn hd in
theorem twRx_cons {b : Byte} {rest : List Byte} (h : (s.twp n).rx = b :: rest) :
    s.twRx n = if (s.twp n).due.length = 1 ∧ (s.twp n).run = true then (s.twShown n b rest).twEnd n (s.twp n).res else s.twShown n b rest := by
  simp only [State.twRx, State.twShown, h]

theorem twRxdata_gives {b : Byte} {rest : List Byte} (h : (s.twp n).rx = b :: rest) : s.Completes (.twRxdata n) fun t => t.get (F.TW.RXDATA.DATA n) = b.toNat ∧ t.on (F.TW.RXDATA.VALID n) = true ∧
    (t.twp n).rx = rest ++ (s.twp n).due.take 1 := by
  refine .of_next (exec_twRxdata hn hd) ?_
  obtain ⟨hdata, hvalid⟩ := twShown_data (s := s) (n := n) b rest
  have hg : ∀ {hi lo : Nat}, hi < 32 → ((s.twShown n b rest).twEnd n (s.twp n).res).get ⟨twBase n + 0x10, hi, lo⟩ = (s.twShown n b rest).get ⟨twBase n + 0x10, hi, lo⟩ := fun hh => twEnd_get hn _ hh (.inl (by decide))
  rw [twRx_cons h]
  split
  · exact ⟨(hg (by decide)).trans hdata, (congrArg (· != 0) (hg (by decide))).trans hvalid, by rw [twEnd_twp, twShown_twp]⟩
  · exact ⟨hdata, hvalid, twShown_twp ..⟩

theorem twRxdata_empty (h : (s.twp n).rx = []) : s.Completes (.twRxdata n) fun t => t.get (F.TW.RXDATA.DATA n) = 0 ∧ t.on (F.TW.RXDATA.VALID n) = false ∧ t.tw = s.tw := by
  refine .of_next (exec_twRxdata hn hd) ?_
  simp only [State.twRx, h]
  exact ⟨(get_set_disj _ _ (by simp) (by simp)).trans ((get_set _ _ _ (by simp)).trans (Nat.zero_mod _)), on_set_zero _ _ (by simp), by simp only [State.set_tw]⟩

/-! Alerts. -/

/-- An alert's answer as it is shown (R469). -/
def State.alertShown (s : State) (n : Nat) (answer : Option Nat) : State :=
  match answer with
  | some a => (s.set (F.TW.ALERTADDR.ADDR n) a).set (F.TW.ALERTADDR.NOACK n) 0
  | none => s.set (F.TW.ALERTADDR.NOACK n) 1

/-- The end of an alert read (R469). -/
def State.alertEnd (s : State) (n : Nat) : State := (((s.twClock n).set (F.TW.ALERTADDR.VALID n) 1).auxOn).twFlag n (F.TW.STATUS.ALERT n)

/-- A port whose alert read waits no more. -/
def State.alertFree (s : State) (n : Nat) : State := if (s.twp n).run then s else (s.setTwp n { s.twp n with retry := false }).set (F.TW.STATUS.BUSY n) 0

theorem exec_alertResponseRead {answer : Option Nat} {first : Bool} (hk : s.twBank n = true) (he : s.on (F.TW.CFG.ALERT_EN n) = true) (hv : s.on (F.TW.ALERTADDR.VALID n) = false)
    (hb : s.on (F.TW.STATUS.BUSY n) = false) : exec (.alertResponseRead n answer first) s = .next (((s.alertFree n).alertShown n answer).alertEnd n) :=
  (exec_guardUnit rfl (by simp [Instr.wf, hn])).trans (congrArg Host.Outcome.next (if_neg (by simp [hk, he, hv, hb, hd])))

omit hd in
theorem alertEnd_get {hi lo : Nat} (hh : hi < 32) (h : hi < 8 ∨ 8 < lo) : (s.alertEnd n).get ⟨twBase n + 0x1c, hi, lo⟩ = s.get ⟨twBase n + 0x1c, hi, lo⟩ := by
  rw [State.alertEnd, twFlag_get hn _ hh (.inl (by decide)), auxOn_get hn (by decide), get_set_disj _ _ hh (by simpa using h), twClock_get]

omit hd in
theorem alertEnd_shown : (s.alertEnd n).on (F.TW.ALERTADDR.VALID n) = true ∧ (s.alertEnd n).on (F.TW.STATUS.ALERT n) = true := by
  refine ⟨(congrArg (· != 0) (twFlag_get hn _ (by decide) (.inl (by decide)))).trans ?_, twFlag_on hn (by decide) _ (by decide)⟩
  exact (auxOn_on hn (by decide) _).trans (on_set_one _ _ (by simp) rfl)

theorem alertResponseRead_answered (a : Nat) (first : Bool) (hk : s.twBank n = true) (he : s.on (F.TW.CFG.ALERT_EN n) = true) (hv : s.on (F.TW.ALERTADDR.VALID n) = false) (hb : s.on (F.TW.STATUS.BUSY n) = false) :
    s.Completes (.alertResponseRead n (some a) first) fun t => t.get (F.TW.ALERTADDR.ADDR n) = a % 128 ∧ t.on (F.TW.ALERTADDR.NOACK n) = false ∧ t.on (F.TW.ALERTADDR.VALID n) = true ∧
      t.on (F.TW.STATUS.ALERT n) = true :=
  .of_next (exec_alertResponseRead hn hd hk he hv hb)
    ⟨(alertEnd_get hn (by decide) (by decide)).trans ((get_set_disj _ _ (by simp) (by simp)).trans (get_set _ _ _ (by simp))),
      (congrArg (· != 0) (alertEnd_get hn (by decide) (by decide))).trans (on_set_zero _ _ (by simp)), alertEnd_shown hn⟩

theorem alertResponseRead_silent (first : Bool) (hk : s.twBank n = true) (he : s.on (F.TW.CFG.ALERT_EN n) = true) (hv : s.on (F.TW.ALERTADDR.VALID n) = false) (hb : s.on (F.TW.STATUS.BUSY n) = false) :
    s.Completes (.alertResponseRead n none first) fun t => t.on (F.TW.ALERTADDR.NOACK n) = true ∧ t.on (F.TW.ALERTADDR.VALID n) = true ∧ t.on (F.TW.STATUS.ALERT n) = true :=
  .of_next (exec_alertResponseRead hn hd hk he hv hb) ⟨(congrArg (· != 0) (alertEnd_get hn (by decide) (by decide))).trans (on_set_one _ _ (by simp) rfl), alertEnd_shown hn⟩

end

theorem exec_recover_freed {s : State} {n : Nat} (hn : n < 8) : exec (.recover n true) s = .next s := (exec_guardUnit rfl (by simp [Instr.wf, hn])).trans (by rw [if_pos (by simp)])

/-- Settles O41: every command by its own lemma. -/
theorem twoWire : Obligations.TwoWire := by
  unfold Obligations.TwoWire
  refine ⟨fun s n k byte bit data v hn hd => ?_, fun s n a first b rest v hn hd => ?_⟩
  · refine ⟨twGo_starts hn hd, twGo_lost hn hd, twGo_fields hn hd, exec_twGo_ignored hn hd, fun ho => twTransferEnd_nack hn ho data, fun ho => twTransferEnd_read hn ho, fun ho => arbLost_completes hn ho data,
      fun hr ht => .of_next (exec_arbitrationRetry hn hd hr ht) ⟨twp_setTwp .., rfl, rfl⟩, fun ho => twBusErr_ends hn ho byte data, twAbort_ends hn hd data⟩
  · exact ⟨stretchTimeout_resets hn, sclLowTimeout_shows hn hd, sdaLowTimeout_shows hn hd, recover_stuck hn hd, exec_recover_freed hn, twTxdata_stores hn hd, twTxdata_overflows hn hd, twRxdata_gives hn hd,
      twRxdata_empty hn hd, fun hk he hv hb => ⟨alertResponseRead_answered hn hd a first hk he hv hb, alertResponseRead_silent hn hd first hk he hv hb⟩⟩

end Sys2Proof.Machine
end

section
/-! SUPPORT. What the host engine leaves as it answers: the messages that wait stay in their places and new ones join behind them, and of the engine's own state only the inbound queue moves (R497 to R510). -/

namespace Sys2Proof.Machine

/-- The registers that the engine writes as it answers: STATUS of CSP4, ALERT, ERR, FW_STAT and FW_OUT, TWM.CTRL, and those of an interrupt. -/
def hostRegs (a : Nat) : Bool :=
  icRegs a || a == 0x14000c004 || a == 0x140012008 || a == 0x14001200c || a == 0x140012014 || a == 0x140000084 || (decide (0x140012800 ≤ a) && decide (a < 0x140012c00))

theorem hostRegs_ic {a : Nat} (h : hostRegs a = false) : icRegs a = false := by
  simp only [hostRegs, Bool.or_eq_false_iff] at h
  exact h.1.1.1.1.1.1

/-- From s to t messages have only been added behind those that wait; a selection, the request in hand, the long command and its result, and the event queue are kept. -/
structure HostGrows (s t : State) : Prop where
  out : ∃ more, t.cspx.out = s.cspx.out ++ more
  queue : ∃ more, t.host.fwQueue = s.host.fwQueue ++ more
  sel : t.cspx.sel = s.cspx.sel
  sent : t.cspx.sent = s.cspx.sent
  cur : t.host.cur = s.host.cur
  long : t.host.long = s.host.long
  result : t.host.result = s.host.result
  events : t.host.events = s.host.events
  regs : KeepsRegs hostRegs s t

theorem HostGrows.of_same {s t : State} (hc : t.cspx = s.cspx) (hh : t.host = s.host) (hr : KeepsRegs hostRegs s t) : HostGrows s t :=
  ⟨⟨[], by rw [hc, List.append_nil]⟩, ⟨[], by rw [hh, List.append_nil]⟩, by rw [hc], by rw [hc], by rw [hh], by rw [hh], by rw [hh], by rw [hh], hr⟩

theorem HostGrows.refl (s : State) : HostGrows s s := .of_same rfl rfl (.refl s)

theorem HostGrows.trans {s t u : State} (h1 : HostGrows s t) (h2 : HostGrows t u) : HostGrows s u := by
  obtain ⟨⟨a, ha⟩, ⟨b, hb⟩, hsel, hsent, hcur, hlong, hres, hev, hr⟩ := h1
  obtain ⟨⟨c, hc⟩, ⟨d, hd⟩, hsel', hsent', hcur', hlong', hres', hev', hr'⟩ := h2
  exact ⟨⟨a ++ c, by rw [hc, ha, List.append_assoc]⟩, ⟨b ++ d, by rw [hd, hb, List.append_assoc]⟩, hsel'.trans hsel, hsent'.trans hsent, hcur'.trans hcur, hlong'.trans hlong, hres'.trans hres, hev'.trans hev, hr.trans hr'⟩

theorem HostGrows.ite {s t u : State} {p : Prop} [Decidable p] (h1 : HostGrows s t) (h2 : HostGrows s u) : HostGrows s (if p then t else u) := by split <;> assumption

theorem alertPend_grows (s : State) (bit : Nat) (b : Bool) : HostGrows s (s.alertPend bit b) :=
  .of_same ((State.alertPend_eff ..).cspx rfl) ((State.alertPend_eff ..).host rfl) (by
    have ha : hostRegs (alertF bit).addr = true := by
      show hostRegs 0x140012008 = true
      decide
    unfold State.alertPend State.alertFollow
    exact .ite (.set (.set (.refl s) ha) (by decide)) (.set (.refl s) ha))

theorem sat_err_grows (s : State) {hi lo n : Nat} : HostGrows s (s.sat ⟨0x14001200c, hi, lo⟩ n) := .of_same ((State.sat_eff ..).cspx rfl) ((State.sat_eff ..).host rfl) (.set (.refl s) (show hostRegs 0x14001200c = true by decide))

theorem hostShow_grows (s : State) : HostGrows s s.hostShow := by
  have hs : ∀ n b, HostGrows s ((s.set F.CSP4.STATUS.RXWORDS n).setB F.HOST.FW_STAT.IN_BUSY b) := fun n b => .of_same (by rw [State.setB_cspx, State.set_cspx]) (by rw [State.setB_host, State.set_host]) (.set (.set (.refl s) (by decide)) (by decide))
  unfold State.hostShow
  dsimp only
  exact .ite (hs _ _) ((hs _ _).trans (alertPend_grows ..))

theorem fwPut_regs (ws : List Word) : ∀ (s : State) (k : Nat), KeepsRegs hostRegs s (s.fwPut k ws) := by
  induction ws with
  | nil => exact fun s _ => .refl s
  | cons w ws ih =>
    intro s k
    rw [State.fwPut]
    split
    case isTrue hk =>
      have hw : hostRegs (F.HOST.FW_OUT.ALL k).addr = true := by
        simp [hostRegs]
        omega
      exact .trans (fun a ha => rw_setW_ne s w (fun e => by rw [e, hw] at ha; cases ha)) (ih _ _)
    case isFalse => exact .refl s

theorem fwShow_grows (s : State) : HostGrows s s.fwShow := by
  refine .of_same ((State.fwShow_eff s).cspx rfl) ((State.fwShow_eff s).host rfl) ?_
  have hi : ∀ u : State, KeepsRegs hostRegs u (u.icSample 1 23) := fun u => (icSample_regs u 1 23).mono fun _ => hostRegs_ic
  unfold State.fwShow
  split
  · exact .ite (.refl s) (.trans (.set (.set (.set (fwPut_regs _ s 0) (by decide)) (by decide)) (by decide)) (hi _))
  · exact .refl s

theorem wordsOut_grows (s : State) (ws : List Word) (r : Option Nat) : HostGrows s { s with cspx := { s.cspx with out := s.cspx.out ++ ws, outRes := r } } :=
  ⟨⟨ws, rfl⟩, ⟨[], (List.append_nil _).symm⟩, rfl, rfl, rfl, rfl, rfl, rfl, (KeepsRegs.refl s).of_regs rfl⟩

theorem queued_grows (s : State) (m : HostOut) : HostGrows s { s with host := { s.host with fwQueue := s.host.fwQueue ++ [m] } } :=
  ⟨⟨[], (List.append_nil _).symm⟩, ⟨[m], rfl⟩, rfl, rfl, rfl, rfl, rfl, rfl, (KeepsRegs.refl s).of_regs rfl⟩

theorem inq_grows (s : State) (q : List HostIn) : HostGrows s { s with host := { s.host with inq := q } } :=
  ⟨⟨[], (List.append_nil _).symm⟩, ⟨[], (List.append_nil _).symm⟩, rfl, rfl, rfl, rfl, rfl, rfl, (KeepsRegs.refl s).of_regs rfl⟩

theorem hostPut_grows (s : State) (chan : Nat) (ws : List Word) (long : Bool) : HostGrows s (s.hostPut chan ws long) := by
  unfold State.hostPut
  exact .ite ((wordsOut_grows ..).trans (hostShow_grows _)) ((queued_grows s _).trans (fwShow_grows _))

theorem hostReply_grows (s : State) (chan code tag status : Nat) (data : List Word) : HostGrows s (s.hostReply chan code tag status data) := hostPut_grows ..

theorem hostPop_grows (s : State) : HostGrows s s.hostPop := (inq_grows s _).trans (hostShow_grows _)

theorem hostFull_grows (s : State) : HostGrows s s.hostFull := (hostPop_grows s).trans (sat_err_grows _)

theorem hostTake_grows (s : State) : HostGrows s s.hostTake := .trans (.ite (alertPend_grows ..) (.refl s)) (hostPop_grows _)

/-- The state after one free value. -/
theorem freed_grows (s : State) (k : Nat) : HostGrows s { s with freeCtr := k } := .of_same rfl rfl ((KeepsRegs.refl s).of_regs rfl)

/-- What the engine may answer of itself grows from s. -/
def OptGrows (s : State) (o : Option State) : Prop := ∀ t, o = some t → HostGrows s t

theorem OptGrows.none (s : State) : OptGrows s none := fun _ h => nomatch h

theorem OptGrows.some {s t : State} (h : HostGrows s t) : OptGrows s (some t) := fun _ e => Option.some.inj e ▸ h

theorem OptGrows.ite {s : State} {o o' : Option State} {p : Prop} [Decidable p] (h1 : OptGrows s o) (h2 : OptGrows s o') : OptGrows s (if p then o else o') := by split <;> assumption

theorem hostSelf_grows (s : State) (m : HostIn) : OptGrows s (s.hostSelf m) := by
  have hr : ∀ st, OptGrows s (some (s.hostTake.hostReply m.chan m.code m.tag st [])) := fun st => .some ((hostTake_grows s).trans (hostReply_grows ..))
  have hbad : HostGrows s (({ s with freeCtr := s.freeCtr + 1 } : State).sat F.HOST.ERR.LEN 1) := (freed_grows s _).trans (sat_err_grows _)
  have hcrc : HostGrows s (s.sat F.HOST.ERR.CRC 1) := sat_err_grows s
  unfold State.hostSelf
  refine .ite (.none s) (.ite (.some (hbad.trans (.ite (hostFull_grows _) ((hostPop_grows _).trans (hostReply_grows ..))))) (.ite (.some (hcrc.trans (.ite (hostFull_grows _) ?_)))
    (.ite (.none s) (.ite (.some (hostFull_grows s)) (.ite (hr _) (.ite (hr _) (.ite (hr _) (.none s))))))))
  exact ((hostPop_grows _).trans (hostReply_grows ..)).trans (alertPend_grows ..)

theorem hostDrainN_grows (n : Nat) : ∀ s : State, HostGrows s (s.hostDrainN n) := by
  induction n with
  | zero => exact .refl
  | succ n ih =>
    intro s
    rw [State.hostDrainN]
    split
    · split
      next h => exact (hostSelf_grows _ _ _ h).trans (ih _)
      next => exact .refl s
    · exact .refl s

theorem hostDrain_grows (s : State) : HostGrows s s.hostDrain := .ite (hostDrainN_grows _ s) (.refl s)

/-! Answers. -/

theorem hostShow_same (s : State) : s.hostShow.cspx = s.cspx ∧ s.hostShow.host = s.host := ⟨(State.hostShow_eff s).cspx rfl, (State.hostShow_eff s).host rfl⟩

theorem hostPut_answered (s : State) (chan : Nat) (ws : List Word) : s.Answered (s.hostPut chan ws false) chan ws := by
  unfold State.Answered State.hostPut
  dsimp only
  split
  · exact ⟨[], by rw [(hostShow_same _).1, List.append_nil]⟩
  · exact ⟨[], by rw [(State.fwShow_eff _).host rfl]⟩

theorem State.Answered.grows {s t u : State} {chan : Nat} {ws : List Word} (h : s.Answered t chan ws) (g : HostGrows t u) : s.Answered u chan ws := by
  unfold State.Answered at h ⊢
  by_cases hc : chan = 0
  · rw [if_pos hc] at h ⊢
    obtain ⟨a, ha⟩ := h
    obtain ⟨b, hb⟩ := g.out
    exact ⟨a ++ b, by rw [hb, ha, List.append_assoc]⟩
  · rw [if_neg hc] at h ⊢
    obtain ⟨a, ha⟩ := h
    obtain ⟨b, hb⟩ := g.queue
    exact ⟨a ++ b, by rw [hb, ha, List.append_assoc, List.cons_append]⟩

/-- An answer after steps that queue nothing. -/
theorem State.Answered.of_same {s t u : State} {chan : Nat} {ws : List Word} (h : t.Answered u chan ws) (hc : t.cspx.out = s.cspx.out) (hq : t.host.fwQueue = s.host.fwQueue) : s.Answered u chan ws := by
  unfold State.Answered at h ⊢
  rwa [hc, hq] at h

theorem hostTake_same (s : State) : s.hostTake.cspx = s.cspx ∧ s.hostTake.host.fwQueue = s.host.fwQueue := by
  have ha : ∀ u : State, (if u.on (alertF 3) then u.alertPend 3 false else u).cspx = u.cspx ∧ (if u.on (alertF 3) then u.alertPend 3 false else u).host = u.host := fun u => by
    split
    · exact ⟨(State.alertPend_eff ..).cspx rfl, (State.alertPend_eff ..).host rfl⟩
    · exact ⟨rfl, rfl⟩
  have hp : ∀ u : State, u.hostPop.cspx = u.cspx ∧ u.hostPop.host.fwQueue = u.host.fwQueue := fun u => by rw [State.hostPop, (hostShow_same _).1, (hostShow_same _).2]; exact ⟨rfl, rfl⟩
  unfold State.hostTake
  exact ⟨(hp _).1.trans (ha s).1, (hp _).2.trans (congrArg HostEng.fwQueue (ha s).2)⟩

end Sys2Proof.Machine
end

section
/-! PROOFS. The requests that the host engine serves (R501 to R507, R312). -/

namespace Sys2Proof.Machine

/-! Answers at once. -/

theorem hostSay_grows (s : State) (m : HostIn) (status : Nat) (data : List Nat) : HostGrows s (s.hostSay m status data) := ((hostTake_grows s).trans (hostReply_grows ..)).trans (hostDrain_grows _)

theorem hostSay_answered (s : State) (m : HostIn) (status : Nat) (data : List Nat) : s.Answered (s.hostSay m status data) m.chan (hostWords m.code m.tag status (data.map (BitVec.ofNat 32))) :=
  .of_same (.grows (hostPut_answered ..) (hostDrain_grows _)) (congrArg _ (hostTake_same s).1) (hostTake_same s).2

section
variable {s : State} {m : HostIn}

theorem exec_hstatus (h : s.hostNext (· == 0x100) = some m) : exec .hstatus s = .next (s.hostSay m 0 s.hstatusData) := by
  show execHstatus s = _
  rw [execHstatus, h]

theorem exec_getResult_none (h : s.hostNext (· == 0x101) = some m) (hr : s.host.result = none) : exec .getResult s = .next (s.hostSay m 0xF006 []) := by
  show execGetResult s = _
  rw [execGetResult, h]
  dsimp only
  rw [hr]

theorem exec_getResult {ws : List Word} (h : s.hostNext (· == 0x101) = some m) (hr : s.host.result = some ws) :
    exec .getResult s = .next (s.hostSay m (bitsOf (listGet 0 ws 1).toNat 31 16) ((ws.drop 2).dropLast.map BitVec.toNat)) := by
  show execGetResult s = _
  rw [execGetResult, h]
  dsimp only
  rw [hr]

theorem exec_events (h : s.hostNext (· == 0x102) = some m) : exec .events s = .next (s.hostEvents m) := by
  show execEvents s = _
  rw [execEvents, h]

theorem exec_time (h : s.hostNext (· == 0x103) = some m) : exec .time s = .next (s.hostSay m 0 ((List.range 4).map s.gwTime)) := by
  show execTime s = _
  rw [execTime, h]

theorem exec_wakePolicy (h : s.hostNext (· == 0x104) = some m) :
    exec .wakePolicy s = .next ((((s.alertWrite (m.arg 0)).wakeMaskWrite (m.arg 1)).set F.SEASON.REQ.SLEEP (bitsOf (m.arg 1) 8 8)).hostSay m 0 []) := by
  show execWakePolicy s = _
  rw [execWakePolicy, h]

theorem exec_app (h : s.hostNext hostApp = some m) : exec .app s = .next (s.hostPass m) := by
  show execApp s = _
  rw [execApp, h]

/-! EVENTS. -/

/-- The event queue without the events that are sent, and EVQ as it then stands (R503, R510). -/
def State.eventsSent (s : State) (n : Nat) : State :=
  let s := { s with host := { s.host with events := s.host.events.drop n } }
  if s.host.events.any (fun (e : RingEntry) => s.alertKind e.kind) then s else s.alertPend 0 false

theorem hostEvents_refused (h : m.arg 0 < 1 ∨ 16 < m.arg 0) : s.hostEvents m = s.hostSay m 0xF007 [] := by rw [State.hostEvents, if_pos h]

theorem hostEvents_sent (h1 : 1 ≤ m.arg 0) (h2 : m.arg 0 ≤ 16) :
    s.hostEvents m = (s.eventsSent (m.arg 0)).hostSay m 0 ((s.host.events.take (m.arg 0)).length :: (s.host.events.take (m.arg 0)).flatMap RingEntry.words) := by
  rw [State.hostEvents, if_neg (by omega)]
  rfl

theorem eventsSent_same (n : Nat) : (s.eventsSent n).cspx = s.cspx ∧ (s.eventsSent n).host = { s.host with events := s.host.events.drop n } := by
  unfold State.eventsSent
  dsimp only
  split
  · exact ⟨rfl, rfl⟩
  · exact ⟨(State.alertPend_eff ..).cspx rfl, (State.alertPend_eff ..).host rfl⟩

theorem events_sends (h : s.hostNext (· == 0x102) = some m) (h1 : 1 ≤ m.arg 0) (h2 : m.arg 0 ≤ 16) : s.Completes .events fun t => t.host.events = s.host.events.drop (m.arg 0) ∧
    s.Answered t m.chan (hostWords m.code m.tag 0 (((s.host.events.take (m.arg 0)).length :: (s.host.events.take (m.arg 0)).flatMap RingEntry.words).map (BitVec.ofNat 32))) := by
  refine .of_next ((exec_events h).trans (congrArg Host.Outcome.next (hostEvents_sent h1 h2))) ⟨?_, ?_⟩
  · rw [(hostSay_grows ..).events, (eventsSent_same _).2]
  · exact .of_same (hostSay_answered ..) (by rw [(eventsSent_same _).1]) (by rw [(eventsSent_same _).2])

/-! WAKE_POLICY. -/

theorem alertWrite_same (v : Nat) : (s.alertWrite v).cspx = s.cspx ∧ (s.alertWrite v).host = s.host := ⟨(State.alertWrite_eff ..).cspx rfl, (State.alertWrite_eff ..).host rfl⟩

theorem wakePolicy_sets (h : s.hostNext (· == 0x104) = some m) : s.Completes .wakePolicy fun t => s.Answered t m.chan (hostWords m.code m.tag 0 (([] : List Nat).map (BitVec.ofNat 32))) ∧
    t.rw F.SEASON.WAKE.ALL.addr = BitVec.ofNat 32 (m.arg 1 % 256) ∧ t.on F.SEASON.REQ.SLEEP = (m.arg 1).testBit 8 := by
  refine .of_next (exec_wakePolicy h) ⟨?_, ?_, ?_⟩
  · exact .of_same (hostSay_answered ..) (congrArg _ (alertWrite_same _).1) (congrArg _ (alertWrite_same _).2)
  · rw [(hostSay_grows ..).regs _ (by decide), rw_set _ _ _ (by decide), State.wakeMaskWrite, rw_setW_same]
    exact congrArg _ (by simp [bitsOf])
  · rw [(hostSay_grows ..).regs.on (by decide), State.on, get_set _ _ _ (by decide)]
    cases hb : (m.arg 1).testBit 8
    · rw [bitsOf_bit_zero hb]
      rfl
    · rw [bitsOf_bit_one hb]
      rfl

/-! APP. -/

theorem app_passes (h : s.hostNext hostApp = some m) : s.Completes .app fun t => t.host.cur = some { code := m.code, tag := m.tag, chan := m.chan, since := s.time.t } ∧ s.Answered t 2 m.words ∧ t.ring = s.ring := by
  have hr : (s.hostPass m).ring = s.ring := (State.hostPass_eff ..).ring rfl
  refine .of_next (exec_app h) ⟨?_, ?_, hr⟩
  · rw [State.hostPass]
    dsimp only
    rw [(hostDrain_grows _).cur, (hostPut_grows ..).cur]
  · exact .of_same (.grows (hostPut_answered ..) (hostDrain_grows _)) (congrArg _ (hostTake_same s).1) (hostTake_same s).2

/-! Gateway codes. -/

/-- The request's words stand in the command buffer (R504). -/
def State.forwarded (s : State) (m : HostIn) : State := s.hostTake.gwPut 0 m.gwWords

theorem forwarded_same : (s.forwarded m).cspx = s.cspx ∧ (s.forwarded m).host.fwQueue = s.host.fwQueue := by
  rw [State.forwarded, (State.gwPut_eff ..).cspx rfl, (State.gwPut_eff ..).host rfl]
  exact hostTake_same s

theorem forwarded_time : (s.forwarded m).time = s.time := ((State.gwPut_eff ..).time rfl).trans ((State.hostTake_eff ..).time rfl)

theorem exec_hostForward (hc : s.gw.check = none) (h : s.hostNext gwListed = some m) : exec .hostForward s = .next (s.hostForward m) := by
  show execHostForward s = _
  rw [execHostForward, h]
  dsimp only
  rw [hc]
  rfl

/-- A request that the gateway refuses is answered with the reason. -/
theorem hostForward_refuses (h : (s.forwarded m).gwReason (gwParse m.gwWords).1 (gwParse m.gwWords).2 ≠ 0) :
    s.hostForward m = (((((s.forwarded m).gwVerified (gwParse m.gwWords).2 ((s.forwarded m).gwReason (gwParse m.gwWords).1 (gwParse m.gwWords).2)).gwShow 3
      ((s.forwarded m).gwReason (gwParse m.gwWords).1 (gwParse m.gwWords).2) m.tag).hostReply m.chan m.code m.tag
      (0x8000 + (s.forwarded m).gwReason (gwParse m.gwWords).1 (gwParse m.gwWords).2) []).hostDrain) := by
  rw [State.hostForward]
  exact if_pos h

/-- The request in hand, since the present. -/
def State.requested (s : State) (m : HostIn) : HostCmd := { code := m.code, tag := m.tag, chan := m.chan, since := s.time.t }

theorem forwarded_requested : (s.forwarded m).requested m = s.requested m := by rw [State.requested, State.requested, forwarded_time]

/-- A command that is forwarded: the engine waits for it, and the gateway runs it. -/
theorem hostForward_runs (h : (s.forwarded m).gwReason (gwParse m.gwWords).1 (gwParse m.gwWords).2 = 0) :
    s.hostForward m = (let u := if gwIsLong m.code then (s.forwarded m).hostBegin (s.requested m) else s.forwarded m
      ((if gwIsLong m.code && m.code != 9 then u else { u with host := { u.host with cur := some (s.requested m) } }).gwRing m.gwWords).hostDrain) := by
  rw [State.hostForward, ← forwarded_requested]
  exact if_neg (not_not_intro h)

theorem hostForward_refused (hc : s.gw.check = none) (hn : s.hostNext gwListed = some m) (h : (s.forwarded m).gwReason (gwParse m.gwWords).1 (gwParse m.gwWords).2 ≠ 0) :
    s.Completes .hostForward fun t => s.Answered t m.chan (hostWords m.code m.tag (0x8000 + (s.forwarded m).gwReason (gwParse m.gwWords).1 (gwParse m.gwWords).2) (([] : List Nat).map (BitVec.ofNat 32))) ∧
      t.ring = s.ring ∧ t.keys = s.keys ∧ t.params = s.params := by
  have hv : ∀ (c : GwCmd) (r : Nat), Eff 4673461485572 (s.forwarded m) (((s.forwarded m).gwVerified c r).gwShow 3 r m.tag) := fun c r => (State.gwShow_eff ..).step rfl (State.gwVerified_eff ..)
  have he : Eff 4845260177414 s (s.hostForward m) := by
    rw [hostForward_refuses h]
    exact (State.hostDrain_eff _).step rfl ((State.hostReply_eff ..).step rfl ((hv _ _).step rfl ((State.gwPut_eff ..).step rfl ((State.hostTake_eff s).mono rfl))))
  refine .of_next (exec_hostForward hc hn) ⟨?_, he.ring rfl, he.keys rfl, he.params rfl⟩
  rw [hostForward_refuses h]
  refine .of_same (.grows (hostPut_answered ..) (hostDrain_grows _)) ?_ ?_
  · rw [(hv _ _).cspx rfl, forwarded_same.1]
  · rw [(hv _ _).host rfl, forwarded_same.2]

end

/-- Settles O46: what each request's turn answers or forwards. -/
theorem hostRequests : Obligations.HostRequests := by
  unfold Obligations.HostRequests
  intro s m ws reply_ u p x
  refine ⟨fun hc hn => hostForward_refused hc hn, fun hc hn h hl => ?_, fun hc hn h hl h9 => ?_, fun hc hn h h9 => ?_, fun h => ?_, fun h hr => ?_, fun h hr => ?_, events_sends, fun h ha => ?_, fun h => ?_, wakePolicy_sets,
    app_passes⟩
  · rw [exec_hostForward hc hn, hostForward_runs h, hl]
    rfl
  · rw [exec_hostForward hc hn, hostForward_runs h, hl, bne_iff_ne.2 h9]
    rfl
  · rw [exec_hostForward hc hn, hostForward_runs h, h9]
    rfl
  · exact .of_next (exec_hstatus h) ⟨hostSay_answered .., (State.hostSay_eff ..).ring rfl, (State.hostSay_eff ..).mem rfl⟩
  · exact .of_next (exec_getResult_none h hr) ⟨hostSay_answered .., (State.hostSay_eff ..).mem rfl⟩
  · exact .of_next (exec_getResult h hr) ⟨hostSay_answered .., (State.hostSay_eff ..).mem rfl⟩
  · exact .of_next ((exec_events h).trans (congrArg Host.Outcome.next (hostEvents_refused ha))) ⟨hostSay_answered .., (hostSay_grows ..).events⟩
  · exact .of_next (exec_time h) ⟨hostSay_answered .., (State.hostSay_eff ..).time rfl⟩

end Sys2Proof.Machine
end

section
/-! PROOFS. The host port CSP4 and firmware's windows (R353, R483, R484, R497, R500, R507). -/

namespace Sys2Proof.Machine

/-! Selections. -/

theorem wakeNow_gated (s : State) (srcs : Nat) : (s.wakeNow srcs).season.gated = false := by
  rw [wakeNow_eq]
  have ha : (s.awake srcs).season.gated = false := congrArg Season.gated ((State.seasonUpdate_eff _).season rfl)
  split
  · split
    · exact ha
    · exact (congrArg Season.gated ((State.icPend1_eff ..).season rfl)).trans ha
  next h => exact Bool.eq_false_iff.2 h

theorem exec_select_wakes {s : State} (hg : s.season.gated = true) (hv : s.pins.vddioS = true) (hw : s.on F.SEASON.WAKE.CSP4 = true) : exec .csp4SelectAsserted s = .next (s.wakeSapwood 6) := by
  show execCsp4SelectAsserted s = _
  rw [execCsp4SelectAsserted, if_pos hg, if_pos (by simp [hw, hv])]

/-- A selection while Sapwood sleeps without PLL_SYS is noted, and nothing else. -/
theorem wakeSapwood_wanted {s : State} {bit : Nat} (hg : s.season.gated = true) (ht : s.time.sys = false) : (s.wakeSapwood bit).season.want.contains bit = true ∧ (s.wakeSapwood bit).cspx = s.cspx ∧
    (s.wakeSapwood bit).regs = s.regs := by
  rw [State.wakeSapwood, if_neg (by simp [hg]), if_neg (by simp [ht])]
  refine ⟨?_, rfl, rfl⟩
  show (if s.season.want.contains bit then s.season.want else bit :: s.season.want).contains bit = true
  split
  next h => exact h
  · simp

theorem exec_select_opens {s : State} (hg : s.season.gated = false) (hr : s.domRuns 1 = true) (hv : s.pins.vddioS = true) (he : s.on F.CSP4.CFG.EN = true) :
    exec .csp4SelectAsserted s = .next (({ s with cspx := { s.cspx with sel := true } }).set F.CSP4.STATUS.SEL 1) := by
  show execCsp4SelectAsserted s = _
  rw [execCsp4SelectAsserted, if_neg (by simp [hg]), if_pos (by simp [hr, hv, he])]

/-! Frames. -/

/-- The selection has ended. -/
def State.deselected (s : State) : State := ({ s with cspx := { s.cspx with sel := false } }).set F.CSP4.STATUS.SEL 0

/-- The words of a frame have been sent. -/
def State.csp4Shifted (s : State) (k : Nat) : State := { s with cspx := { s.cspx with sent := s.csp4Out k } }

theorem csp4Shifted_regs (s : State) (k : Nat) : (s.csp4Shifted k).regs = s.regs := rfl

theorem csp4Shifted_host (s : State) (k : Nat) : (s.csp4Shifted k).host = s.host := rfl

theorem csp4Shifted_gets (s : State) (k n : Nat) (ws : List Word) : (s.csp4Shifted k).csp4Gets n ws = s.csp4Gets n ws := rfl

theorem deselected_get (s : State) {f : Fld} (hf : f.hi < 32) (h : f.addr ≠ 0x14000c004 ∨ 0 < f.lo) : s.deselected.get f = s.get f := by
  have hs : ∀ u : State, (u.set F.CSP4.STATUS.SEL 0).get f = u.get f := fun u => by
    rcases h with h | h
    · exact get_set_addr u 0 h
    · exact get_set_disj u 0 hf (.inr h)
  rw [State.deselected, hs]
  exact get_of_regs rfl f

theorem deselected_sends (s : State) (n : Nat) (ws : List Word) : s.deselected.csp4Sends n ws = s.csp4Sends n ws := by
  rw [State.csp4Sends, State.csp4Sends, deselected_get s (by decide) (by decide)]

theorem deselected_gets (s : State) (n : Nat) (ws : List Word) : s.deselected.csp4Gets n ws = s.csp4Gets n ws := by
  rw [State.csp4Gets, State.csp4Gets, deselected_get s (by decide) (by decide)]

theorem deselected_cause (s : State) (bits : Nat) (ws : List Word) : s.deselected.csp4Cause bits ws = s.csp4Cause bits ws := by
  rw [State.csp4Cause, State.csp4Cause, deselected_get s (by decide) (by decide), deselected_gets]

theorem deselected_cspx (s : State) : s.deselected.cspx = { s.cspx with sel := false } := by rw [State.deselected, State.set_cspx]

theorem deselected_host (s : State) : s.deselected.host = s.host := by rw [State.deselected, State.set_host]

section
variable {s : State} (hs : s.cspx.sel = true) (hr : s.domRuns 1 = true) (hv : s.pins.vddioS = true)
include hs hr hv

theorem exec_csp4Frame_empty (ws : List Word) : exec (.csp4Frame 0 ws) s = .next s.deselected := by
  show execCsp4Frame 0 ws s = _
  rw [execCsp4Frame, if_pos (by simp [hs, hr, hv])]
  exact congrArg Host.Outcome.next (if_pos rfl)

theorem exec_csp4Frame {bits : Nat} (ws : List Word) (hb : bits ≠ 0) : exec (.csp4Frame bits ws) s = .next (
    let t := s.deselected.csp4Shifted (s.csp4Sends (bits / 32) ws)
    if s.csp4Cause bits ws = 0 then (t.csp4Sent (s.csp4Sends (bits / 32) ws)).hostInput 0 (t.csp4Gets (bits / 32) ws) else t.csp4Reject (s.csp4Cause bits ws)) := by
  show execCsp4Frame bits ws s = _
  rw [execCsp4Frame, if_pos (by simp [hs, hr, hv]), ← deselected_sends, ← deselected_cause]
  exact congrArg Host.Outcome.next (if_neg hb)

end

/-! A frame that is rejected. -/

theorem csp4Reject_shows (s : State) {cause : Nat} (hc : cause < 4) : (s.csp4Reject cause).on F.CSP4.STATUS.FRAME_REJ = true ∧ (s.csp4Reject cause).get F.CSP4.REJ.COUNT = min 0xFFFF (s.get F.CSP4.REJ.COUNT + 1) ∧
    (s.csp4Reject cause).get F.CSP4.REJ.LAST = cause := by
  have ha : ∀ (u : State) {f : Fld}, noteRegs f.addr = false → (u.alertPend 3 true).get f = u.get f := fun u _ hf => (alertPend_regs u 3 true).get hf
  have hr : ∀ (u : State) {f : Fld}, icRegs f.addr = false → f.addr ≠ 0x14000c004 → (u.raise F.CSP4.STATUS.FRAME_REJ 1 22).get f = u.get f := fun u f hi hf => by rw [State.get, State.get, raise_rw u _ 1 22 hi hf]
  refine ⟨?_, ?_, ?_⟩
  · rw [State.csp4Reject, State.on, ha _ (by decide), get_raise _ _ _ _ (by decide) (by decide) rfl]
    rfl
  · rw [State.csp4Reject, ha _ (by decide), hr _ (by decide) (by decide), get_set_disj _ _ (by decide) (by decide), get_sat _ _ _ (by decide)]
    rfl
  · rw [State.csp4Reject, ha _ (by decide), hr _ (by decide) (by decide), get_set _ _ _ (by decide)]
    exact Nat.mod_eq_of_lt hc

theorem csp4Cause_lt (s : State) (bits : Nat) (ws : List Word) : s.csp4Cause bits ws < 4 := by
  unfold State.csp4Cause
  split
  · decide
  split
  · decide
  split <;> decide

theorem csp4Frame_rejected {s : State} (hs : s.cspx.sel = true) (hr : s.domRuns 1 = true) (hv : s.pins.vddioS = true) {bits : Nat} {ws : List Word} (hb : bits ≠ 0) (hc : s.csp4Cause bits ws ≠ 0) :
    s.Completes (.csp4Frame bits ws) fun t => t.cspx.sel = false ∧ t.on F.CSP4.STATUS.FRAME_REJ = true ∧ t.get F.CSP4.REJ.COUNT = min 0xFFFF (s.get F.CSP4.REJ.COUNT + 1) ∧
      t.get F.CSP4.REJ.LAST = s.csp4Cause bits ws ∧ t.cspx.out = s.cspx.out ∧ t.host = s.host := by
  obtain ⟨hrej, hcount, hlast⟩ := csp4Reject_shows (s.deselected.csp4Shifted (s.csp4Sends (bits / 32) ws)) (csp4Cause_lt s bits ws)
  have hcnt : (s.deselected.csp4Shifted (s.csp4Sends (bits / 32) ws)).get F.CSP4.REJ.COUNT = s.get F.CSP4.REJ.COUNT := (get_of_regs (csp4Shifted_regs ..) _).trans (deselected_get s (by decide) (by decide))
  refine .of_next ((exec_csp4Frame hs hr hv ws hb).trans (congrArg Host.Outcome.next (if_neg hc))) ⟨?_, hrej, by rw [hcount, hcnt], hlast, ?_, ?_⟩
  · rw [(State.csp4Reject_eff ..).cspx rfl, State.csp4Shifted, deselected_cspx]
  · rw [(State.csp4Reject_eff ..).cspx rfl, State.csp4Shifted, deselected_cspx]
  · rw [(State.csp4Reject_eff ..).host rfl, csp4Shifted_host, deselected_host]

/-! A frame that is accepted. -/

theorem csp4Sent_keeps (s : State) (n : Nat) : (s.csp4Sent n).cspx.sel = s.cspx.sel ∧ (s.csp4Sent n).cspx.sent = s.cspx.sent ∧ KeepsRegs noteRegs s (s.csp4Sent n) := by
  have ha : ∀ u : State, (u.alertPend 1 false).cspx = u.cspx := fun u => (State.alertPend_eff ..).cspx rfl
  have hr : ∀ u : State, u.regs = s.regs → KeepsRegs noteRegs s (u.alertPend 1 false) := fun u hu => .trans ((KeepsRegs.refl s).of_regs hu) (alertPend_regs _ _ _)
  unfold State.csp4Sent
  dsimp only
  split
  · split
    · rw [ha]
      exact ⟨rfl, rfl, hr _ rfl⟩
    · exact ⟨rfl, rfl, (KeepsRegs.refl s).of_regs rfl⟩
  · exact ⟨rfl, rfl, (KeepsRegs.refl s).of_regs rfl⟩

/-- Whether a message is a sound reply, which firmware's alone may be. -/
def HostIn.replies (m : HostIn) : Bool := m.isReply && !m.bad && m.crcOk

theorem hostParse_requests {chan : Nat} (hc : chan ≠ 2) (n : Nat) : ∀ ws : List Word, ∀ m ∈ hostParse chan n ws, m.replies = false := by
  induction n with
  | zero => intro ws m hm; cases hm
  | succ n ih =>
    intro ws m hm
    cases ws with
    | nil => cases hm
    | cons w ws =>
      rw [hostParse] at hm
      split at hm
      · exact ih _ _ hm
      split at hm
      · rw [List.mem_singleton] at hm
        rw [hm, HostIn.replies]
        simp
      next hbad =>
        rcases List.mem_cons.1 hm with rfl | hm
        · have hw : bitsOf w.toNat 31 31 ≠ 1 := fun h => hbad (.inr (.inl ⟨h, hc⟩))
          have hr : HostIn.isReply { chan := chan, words := w :: ws.take (bitsOf w.toNat 26 16 - 1), bad := false } = false := beq_eq_false_iff_ne.2 hw
          rw [HostIn.replies, hr]
          rfl
        · exact ih _ _ hm

theorem hostArrive_requests (ms : List HostIn) : ∀ s : State, (∀ m ∈ ms, m.replies = false) → s.hostArrive ms = { s with host := { s.host with inq := s.host.inq ++ ms } } := by
  induction ms with
  | nil => intro s _; rw [State.hostArrive, List.append_nil]
  | cons m ms ih =>
    intro s h
    rw [State.hostArrive, if_neg (by rw [show (m.isReply && !m.bad && m.crcOk) = false from h m (List.mem_cons_self ..)]; decide), ih _ fun x hx => h x (List.mem_cons_of_mem _ hx), List.append_assoc]
    rfl

theorem hostInput_requests (s : State) (ws : List Word) : s.hostInput 0 ws = (({ s with host := { s.host with inq := s.host.inq ++ hostParse 0 ws.length ws } } : State).hostShow).hostDrain := by
  rw [State.hostInput, hostArrive_requests _ s (hostParse_requests (by decide) _ _)]

theorem hostInput_grows (s : State) (ws : List Word) : HostGrows s (s.hostInput 0 ws) := by
  rw [hostInput_requests]
  exact ((inq_grows s _).trans (hostShow_grows _)).trans (hostDrain_grows _)

theorem hostInput_off {s : State} (he : s.on F.HOST.CFG.EN = false) (ws : List Word) : (s.hostInput 0 ws).host.inq = s.host.inq ++ hostParse 0 ws.length ws := by
  have hen : ({ s with host := { s.host with inq := s.host.inq ++ hostParse 0 ws.length ws } } : State).hostShow.on F.HOST.CFG.EN = false := by
    rw [((inq_grows s _).trans (hostShow_grows _)).regs.on (by decide), he]
  rw [hostInput_requests, State.hostDrain, if_neg (by simp [hen]), (hostShow_same _).2]

theorem csp4Frame_accepted {s : State} (hs : s.cspx.sel = true) (hr : s.domRuns 1 = true) (hv : s.pins.vddioS = true) {bits : Nat} {ws : List Word} (hb : bits ≠ 0) (hc : s.csp4Cause bits ws = 0) :
    s.Completes (.csp4Frame bits ws) fun t => t.cspx.sel = false ∧ t.cspx.sent = s.csp4Out (s.csp4Sends (bits / 32) ws) ∧
      (s.on F.HOST.CFG.EN = false → t.host.inq = s.host.inq ++ hostParse 0 (s.csp4Gets (bits / 32) ws).length (s.csp4Gets (bits / 32) ws)) := by
  obtain ⟨hsel, hsent, hregs⟩ := csp4Sent_keeps (s.deselected.csp4Shifted (s.csp4Sends (bits / 32) ws)) (s.csp4Sends (bits / 32) ws)
  have hgets : (s.deselected.csp4Shifted (s.csp4Sends (bits / 32) ws)).csp4Gets (bits / 32) ws = s.csp4Gets (bits / 32) ws := by rw [csp4Shifted_gets, deselected_gets]
  refine .of_next ((exec_csp4Frame hs hr hv ws hb).trans (congrArg Host.Outcome.next (if_pos hc))) ⟨?_, ?_, fun he => ?_⟩
  · rw [(hostInput_grows ..).sel, hsel, State.csp4Shifted, deselected_cspx]
  · rw [(hostInput_grows ..).sent, hsent, State.csp4Shifted, State.csp4Out, State.csp4Out, deselected_cspx]
  · have hen : (s.deselected.csp4Shifted (s.csp4Sends (bits / 32) ws)).on F.HOST.CFG.EN = false := ((on_of_regs (csp4Shifted_regs ..) _).trans (congrArg (· != 0) (deselected_get s (by decide) (by decide)))).trans he
    rw [hostInput_off ((hregs.on (by decide)).trans hen), (State.csp4Sent_eff ..).host rfl, hgets, csp4Shifted_host, deselected_host]

/-! Firmware's windows. -/

section
variable {s : State} {v : Word} (hr : s.domRuns 1 = true)
include hr

theorem exec_submit (h13 : bitsOf v.toNat 13 13 = 1) (hn : bitsOf v.toNat 10 0 ≠ 0) (hch : bitsOf v.toNat 12 11 = 1 ∨ bitsOf v.toNat 12 11 = 2) : exec (.submit v) s = .next (
    if s.on F.HOST.FW_STAT.IN_BUSY then s.set F.HOST.FW_STAT.SUB_LOST 1
    else if bitsOf v.toNat 10 0 % 4 ≠ 0 ∨ 1024 < bitsOf v.toNat 10 0 then s.sat F.HOST.ERR.FRAME 1
    else s.hostInput (bitsOf v.toNat 12 11) (s.fwIn (bitsOf v.toNat 10 0))) := by
  have hg : ¬ (bitsOf v.toNat 13 13 = 0 ∨ bitsOf v.toNat 10 0 = 0 ∨ (bitsOf v.toNat 12 11 ≠ 1 ∧ bitsOf v.toNat 12 11 ≠ 2)) := by omega
  show execSubmit v s = _
  rw [execSubmit, if_pos hr, State.hostSubmit]
  exact congrArg Host.Outcome.next (if_neg hg)

theorem exec_long {x : HostCmd} (hx : s.host.cur = some x) (h14 : bitsOf v.toNat 14 14 = 1) (ha : hostApp x.code = true) (ht : x.tag = bitsOf v.toNat 31 16) :
    exec (.long v) s = .next ((({ s with host := { s.host with cur := none } }).hostBegin { x with since := s.time.t }).hostDrain) := by
  show execLong v s = _
  rw [execLong, if_pos hr, State.hostLong, hx]
  exact congrArg Host.Outcome.next (if_pos ⟨h14, ha, ht⟩)

theorem long_begins {x : HostCmd} (hx : s.host.cur = some x) (h14 : bitsOf v.toNat 14 14 = 1) (ha : hostApp x.code = true) (ht : x.tag = bitsOf v.toNat 31 16) :
    s.Completes (.long v) fun t => t.host.long = some { x with since := s.time.t } ∧ t.host.cur = none ∧ t.ring = s.ring := by
  refine .of_next (exec_long hr hx h14 ha ht) ⟨?_, ?_, ?_⟩
  · rw [(hostDrain_grows _).long]
    rfl
  · rw [(hostDrain_grows _).cur]
    rfl
  · rw [(State.hostDrain_eff _).ring rfl, (State.hostBegin_eff ..).ring rfl]

/-- FW_OUT without its message, and RESULT as it then stands (R497, R510). -/
def State.fwTaken (s : State) (m : HostOut) (q : List HostOut) : State :=
  let s := ({ s with host := { s.host with fwQueue := q } }).set F.HOST.FW_STAT.OUT_VALID 0
  if m.long then s.alertPend 1 false else s

omit hr in
theorem fwTaken_queue (m : HostOut) (q : List HostOut) : (s.fwTaken m q).host.fwQueue = q := by
  unfold State.fwTaken
  dsimp only
  split
  · rw [(State.alertPend_eff ..).host rfl, State.set_host]
  · rw [State.set_host]

omit hr in
theorem fwTaken_valid (m : HostOut) (q : List HostOut) : (s.fwTaken m q).on F.HOST.FW_STAT.OUT_VALID = false := by
  unfold State.fwTaken
  dsimp only
  split
  · rw [(alertPend_regs _ _ _).on (by decide)]
    exact on_set_zero _ _ (by decide)
  · exact on_set_zero _ _ (by decide)

theorem exec_fwOutPop {m : HostOut} {q : List HostOut} (hq : s.host.fwQueue = m :: q) (hv : s.on F.HOST.FW_STAT.OUT_VALID = true) : exec .fwOutPop s = .next (s.fwTaken m q).fwShow := by
  show execFwOutPop s = _
  rw [execFwOutPop, if_pos hr, State.fwPop, hq]
  exact congrArg Host.Outcome.next (if_pos hv)

theorem fwOutPop_takes {m : HostOut} {q : List HostOut} (hq : s.host.fwQueue = m :: q) (hv : s.on F.HOST.FW_STAT.OUT_VALID = true) :
    s.Completes .fwOutPop fun t => t.host.fwQueue = q ∧ (q = [] → t.on F.HOST.FW_STAT.OUT_VALID = false) ∧ t.mem = s.mem := by
  have hmem : (s.fwTaken m q).fwShow.mem = s.mem := by
    unfold State.fwTaken
    dsimp only
    rw [(State.fwShow_eff _).mem rfl]
    split
    · rw [(State.alertPend_eff ..).mem rfl, State.set_mem]
    · rw [State.set_mem]
  refine .of_next (exec_fwOutPop hr hq hv) ⟨?_, fun he => ?_, hmem⟩
  · rw [(State.fwShow_eff _).host rfl, fwTaken_queue]
  · rw [State.fwShow, fwTaken_queue, he]
    exact fwTaken_valid m []

end

/-- Settles O45: selections, frames and firmware's windows by their own lemmas. -/
theorem hostPort : Obligations.HostPort := by
  unfold Obligations.HostPort
  intro s bits words v x m q
  refine ⟨fun hg hr hv he => .of_next (exec_select_opens hg hr hv he) ⟨?_, on_set_one _ _ (by decide) rfl, ?_⟩, fun hg ht hv hw => .of_next (exec_select_wakes hg hv hw) ⟨?_, ?_⟩,
    fun hg ht hv hw => .of_next (exec_select_wakes hg hv hw) (wakeSapwood_wanted hg ht), fun hs hr hv => .of_next (exec_csp4Frame_empty hs hr hv words) ⟨deselected_cspx s, deselected_host s⟩,
    fun hs hr hv hb hc => csp4Frame_rejected hs hr hv hb hc, fun hs hr hv hb hc => csp4Frame_accepted hs hr hv hb hc, fun hr h13 hn hch => ⟨fun hb => ?_, fun hb hl => ?_, fun hb h4 hl => ?_⟩,
    fun hr hx h14 ha ht => long_begins hr hx h14 ha ht, fun hr hq hv => fwOutPop_takes hr hq hv⟩
  · rw [State.set_cspx]
  · rw [State.set_host]
  · rw [State.wakeSapwood, if_neg (by simp [hg]), if_pos ht]
    exact wakeNow_gated ..
  · exact (State.wakeSapwood_eff ..).cspx rfl
  · exact .of_next ((exec_submit hr h13 hn hch).trans (congrArg Host.Outcome.next (if_pos hb))) ⟨on_set_one _ _ (by decide) rfl, State.set_host ..⟩
  · exact .of_next ((exec_submit hr h13 hn hch).trans (congrArg Host.Outcome.next ((if_neg (by rw [hb]; decide)).trans (if_pos hl)))) ⟨get_sat _ _ _ (by decide), (State.sat_eff ..).host rfl⟩
  · exact (exec_submit hr h13 hn hch).trans (congrArg Host.Outcome.next ((if_neg (by rw [hb]; decide)).trans (if_neg (by omega))))

end Sys2Proof.Machine
end

section
/-! PROOFS. The host engine's answers, timeouts and recovery (R505, R507, R509, R532). -/

namespace Sys2Proof.Machine

/-! A class S reset. -/

/-- The bit of SRST_CAUSE for a cause (R70). -/
def srstBit (cause : Nat) : Fld := if cause = 1 then F.SEASON.SRST_CAUSE.PIN else if cause = 2 then F.SEASON.SRST_CAUSE.WDT else if cause = 3 then F.SEASON.SRST_CAUSE.SW else F.SEASON.SRST_CAUSE.SUPPLY

theorem resetS_eq (s : State) (cause : Nat) : s.resetS cause =
    (((s.beforeClassS.classRegs keepsS).set F.SEASON.SRST_CAUSE.SCOUNT (min 0xFFFF (s.get F.SEASON.SRST_CAUSE.SCOUNT + 1))).set (srstBit cause) 1).seasonUpdate := rfl

theorem srstBit_place (cause : Nat) : (srstBit cause).addr = 0x140000040 ∧ (srstBit cause).hi < 16 ∧ (srstBit cause).lo = (srstBit cause).hi := by
  unfold srstBit
  split
  · decide
  split
  · decide
  split <;> decide

theorem resetS_cause (s : State) (cause : Nat) : (s.resetS cause).on (srstBit cause) = true := by
  obtain ⟨ha, hh, hl⟩ := srstBit_place cause
  rw [resetS_eq, (seasonUpdate_regs _).on (by rw [ha]; decide)]
  exact on_set_one _ _ (by omega) hl

theorem beforeClassS_cleared (s : State) : s.beforeClassS.cores = [] ∧ s.beforeClassS.host = State.reset.host := ⟨rfl, rfl⟩

theorem resetS_cleared (s : State) (cause : Nat) : (s.resetS cause).cores = [] ∧ (s.resetS cause).host = State.reset.host := by
  have hc : ∀ u : State, (u.classRegs keepsS).cores = u.cores ∧ (u.classRegs keepsS).host = u.host := fun u => ⟨rfl, rfl⟩
  rw [resetS_eq, (State.seasonUpdate_eff _).cores rfl, (State.seasonUpdate_eff _).host rfl, State.set_cores, State.set_cores, State.set_host, State.set_host, (hc _).1, (hc _).2]
  exact beforeClassS_cleared s

/-! Answers of the engine. -/

/-- The engine waits for no request. -/
def State.uncur (s : State) : State := { s with host := { s.host with cur := none } }

theorem uncur_same (s : State) : s.uncur.cspx = s.cspx ∧ s.uncur.host.fwQueue = s.host.fwQueue ∧ s.uncur.host.cur = none := ⟨rfl, rfl, rfl⟩

section
variable {s : State} {x : HostCmd}

/-- The request in hand, with no long command, is answered. -/
theorem hostAnswer_cur (hc : s.host.cur = some x) (hl : s.host.long = none) (st : Nat) (data : List Word) :
    s.hostAnswer x st data = s.uncur.hostPut x.chan (hostWords x.code x.tag st data) false := by
  rw [State.hostAnswer, hc, hl]
  rfl

/-- An APP request is answered beside a long command. -/
theorem hostAnswer_app (hc : s.host.cur = some x) (ha : hostApp x.code = true) (st : Nat) (data : List Word) :
    s.hostAnswer x st data = s.uncur.hostPut x.chan (hostWords x.code x.tag st data) false := by
  have h0b : x.code ≠ 0x0B := fun h => by rw [h] at ha; cases ha
  rw [State.hostAnswer, hc]
  cases s.host.long with
  | none => rfl
  | some y => exact if_neg h0b

/-- The long command is answered, with no other request in hand. -/
theorem hostAnswer_long (hc : s.host.cur = none) (st : Nat) (data : List Word) : s.hostAnswer x st data = s.hostEnd x.chan (hostWords x.code x.tag st data) := by
  rw [State.hostAnswer, hc]

/-- The answer of the request in hand joins what waits on its channel, and the engine waits for no request. -/
theorem hostPut_ends (s : State) (chan : Nat) (ws : List Word) :
    s.Answered (s.uncur.hostPut chan ws false).hostDrain chan ws ∧ (s.uncur.hostPut chan ws false).hostDrain.host.cur = none := by
  obtain ⟨hx, hq, hc⟩ := uncur_same s
  have ha := (hostPut_answered s.uncur chan ws).grows (hostDrain_grows (s.uncur.hostPut chan ws false))
  have hk := (hostDrain_grows (s.uncur.hostPut chan ws false)).cur.trans (hostPut_grows s.uncur chan ws false).cur
  exact ⟨ha.of_same (congrArg CspX.out hx) hq, hk.trans hc⟩

/-- The long command has ended with its reply (R508). -/
def State.longDone (s : State) (ws : List Word) : State := (({ s with host := { s.host with long := none, result := some ws } }).set F.HOST.STATUS.BUSY 0).set F.HOST.STATUS.CODE 0

theorem longDone_host (s : State) (ws : List Word) : (s.longDone ws).host.long = none ∧ (s.longDone ws).host.result = some ws := by
  rw [State.longDone, State.set_host, State.set_host]
  exact ⟨rfl, rfl⟩

theorem hostEnd_eq (s : State) (chan : Nat) (ws : List Word) : s.hostEnd chan ws = ((s.longDone ws).hostPut chan ws true).alertPend 1 true := rfl

theorem hostEnd_ends (s : State) (chan : Nat) (ws : List Word) : (s.hostEnd chan ws).host.long = none ∧ (s.hostEnd chan ws).host.result = some ws := by
  have hg := (hostPut_grows (s.longDone ws) chan ws true).trans (alertPend_grows ((s.longDone ws).hostPut chan ws true) 1 true)
  rw [hostEnd_eq, hg.long, hg.result]
  exact longDone_host s ws

/-! Results. -/

theorem ringNexts_entries (n : Nat) : ∀ s : State, (s.ringNexts n).ring.entries = s.ring.entries.drop n := by
  induction n with
  | zero => exact fun _ => rfl
  | succ n ih =>
    intro s
    have h1 : s.ringNext.ring.entries = s.ring.entries.drop 1 := by rw [State.ringNext, State.set_ring]
    rw [State.ringNexts, ih, h1, List.drop_drop, Nat.add_comm]

/-- The RESULT that heads the ring is gathered and answers (R505). -/
theorem exec_hostResultCollect {e : RingEntry} {es : List RingEntry} (hr : s.domRuns 1 = true) (he : s.on F.HOST.CFG.EN = true) (hw : s.hostWants = some x) (hes : s.ring.entries = e :: es) (ha : e.answers x = true) :
    exec .hostResultCollect s = .next (((s.ringNexts ((resultMore e.src 1 es).2 + 1)).hostAnswer x (leNat ((e.payload.drop 2).take 2)) (wordsOf ((e.payload.drop 4).take 12 ++ (resultMore e.src 1 es).1))).hostDrain) := by
  have hup : s.eventsUpTo x s.ring.entries.length = s := by
    rw [hes, List.length_cons, State.eventsUpTo, hes]
    exact if_pos ha
  show execHostResultCollect s = _
  rw [execHostResultCollect, if_pos (by simp [he, hr]), hw]
  dsimp only
  rw [if_pos (by simp [hes, ha]), hup, State.hostGather, hes]
  exact congrArg Host.Outcome.next (if_pos ha)

theorem hostResultCollect_cur {e : RingEntry} {es : List RingEntry} (hr : s.domRuns 1 = true) (he : s.on F.HOST.CFG.EN = true) (hc : s.host.cur = some x) (hl : s.host.long = none) (hx : hostApp x.code = false)
    (hes : s.ring.entries = e :: es) (ha : e.answers x = true) : s.Completes .hostResultCollect fun t =>
      s.Answered t x.chan (hostWords x.code x.tag (leNat ((e.payload.drop 2).take 2)) (wordsOf ((e.payload.drop 4).take 12 ++ (resultMore e.src 1 es).1))) ∧ t.host.cur = none ∧
        t.ring.entries = es.drop (resultMore e.src 1 es).2 := by
  have hw : s.hostWants = some x := by rw [State.hostWants, hc]; exact if_neg (by rw [hx]; decide)
  have hh := (State.ringNexts_eff s ((resultMore e.src 1 es).2 + 1)).host rfl
  have hx' := (State.ringNexts_eff s ((resultMore e.src 1 es).2 + 1)).cspx rfl
  have hring := ringNexts_entries ((resultMore e.src 1 es).2 + 1) s
  rw [hes, List.drop_succ_cons] at hring
  refine .of_next (exec_hostResultCollect hr he hw hes ha) ?_
  rw [hostAnswer_cur (by rw [hh, hc]) (by rw [hh, hl])]
  obtain ⟨hans, hcur⟩ := hostPut_ends (s.ringNexts ((resultMore e.src 1 es).2 + 1)) x.chan (hostWords x.code x.tag (leNat ((e.payload.drop 2).take 2)) (wordsOf ((e.payload.drop 4).take 12 ++ (resultMore e.src 1 es).1)))
  refine ⟨.of_same hans (by rw [hx']) (by rw [hh]), hcur, ?_⟩
  rw [(State.hostDrain_eff _).ring rfl, (State.hostPut_eff ..).ring rfl]
  exact hring

theorem hostResultCollect_long {e : RingEntry} {es : List RingEntry} (hr : s.domRuns 1 = true) (he : s.on F.HOST.CFG.EN = true) (hc : s.host.cur = none) (hl : s.host.long = some x) (hx : hostApp x.code = false)
    (h9 : x.code ≠ 9) (hes : s.ring.entries = e :: es) (ha : e.answers x = true) : s.Completes .hostResultCollect fun t => t.host.long = none ∧
      t.host.result = some (hostWords x.code x.tag (leNat ((e.payload.drop 2).take 2)) (wordsOf ((e.payload.drop 4).take 12 ++ (resultMore e.src 1 es).1))) ∧ t.ring.entries = es.drop (resultMore e.src 1 es).2 := by
  have hw : s.hostWants = some x := by rw [State.hostWants, hc, hl]; exact if_neg (by simp [hx, h9])
  have hh := (State.ringNexts_eff s ((resultMore e.src 1 es).2 + 1)).host rfl
  have hring := ringNexts_entries ((resultMore e.src 1 es).2 + 1) s
  rw [hes, List.drop_succ_cons] at hring
  refine .of_next (exec_hostResultCollect hr he hw hes ha) ?_
  rw [hostAnswer_long (by rw [hh, hc])]
  obtain ⟨hlong, hres⟩ := hostEnd_ends (s.ringNexts ((resultMore e.src 1 es).2 + 1)) x.chan (hostWords x.code x.tag (leNat ((e.payload.drop 2).take 2)) (wordsOf ((e.payload.drop 4).take 12 ++ (resultMore e.src 1 es).1)))
  refine ⟨(hostDrain_grows _).long.trans hlong, (hostDrain_grows _).result.trans hres, ?_⟩
  rw [(State.hostDrain_eff _).ring rfl, (State.hostEnd_eff ..).ring rfl]
  exact hring

/-! Timeouts. -/

/-- Time passes to an instant: it comes to it, and no later. -/
theorem passTo_reaches (s : State) (t : Nat) : (s.passTo t).2 = true ∧ (s.time.fast = true → (s.passTo t).1.time.t = max s.time.t t) := by
  have ht : (s.advanceTo t).settle.time.t = max s.time.t t := (congrArg TimeBase.t (settled_time s t)).trans (advanceTo_t s t)
  unfold State.passTo
  split
  · exact ⟨by simp [ht], fun _ => ht⟩
  next h => exact ⟨rfl, fun hf => absurd hf h⟩

/-- The timeout's answer to the request in hand (R505, R507). -/
theorem timeout_answers {t : Nat} (ha : ∀ u : State, u.host = s.host → u.hostAnswer x 0xF005 [] = u.uncur.hostPut x.chan (hostWords x.code x.tag 0xF005 []) false) :
    s.Answered (((s.passTo t).1.hostAnswer x 0xF005 []).hostDrain) x.chan (hostWords x.code x.tag 0xF005 []) ∧ (((s.passTo t).1.hostAnswer x 0xF005 []).hostDrain).host.cur = none ∧
      (s.time.fast = true → (((s.passTo t).1.hostAnswer x 0xF005 []).hostDrain).time.t = max s.time.t t) := by
  have hh := (State.passTo_eff s t).host rfl
  obtain ⟨hans, hcur⟩ := hostPut_ends (s.passTo t).1 x.chan (hostWords x.code x.tag 0xF005 [])
  refine ⟨?_, ?_, fun hf => ?_⟩
  · rw [ha _ hh]
    exact .of_same hans (by rw [(State.passTo_eff s t).cspx rfl]) (by rw [hh])
  · rw [ha _ hh]
    exact hcur
  · rw [(State.hostDrain_eff _).time rfl, (State.hostAnswer_eff ..).time rfl]
    exact (passTo_reaches s t).2 hf

theorem exec_hostGatewayTimeout (hr : s.domRuns 1 = true) (hc : s.host.cur = some x) (hl : s.host.long = none) (ha : hostApp x.code = false) (he : (s.ring.entries.any fun n => n.answers x) = false) :
    exec .hostGatewayTimeout s = .next (((s.passTo (x.since + s.get F.HOST.CFG.GW_TO * msT)).1.hostAnswer x 0xF005 []).hostDrain) := by
  show execHostGatewayTimeout s = _
  rw [execHostGatewayTimeout, hc]
  dsimp only
  rw [if_neg (by simp only [ha, hl, hr, he]; decide)]
  exact congrArg Host.Outcome.next (if_pos (passTo_reaches s _).1)

theorem exec_appTimeout (hr : s.domRuns 1 = true) (hc : s.host.cur = some x) (ha : hostApp x.code = true) :
    exec .appTimeout s = .next (((s.passTo (x.since + s.get F.HOST.CFG.APP_TO * msT)).1.hostAnswer x 0xF005 []).hostDrain) := by
  show execAppTimeout s = _
  rw [execAppTimeout, hc]
  dsimp only
  rw [if_neg (by simp only [ha, hr]; decide)]
  exact congrArg Host.Outcome.next (if_pos (passTo_reaches s _).1)

/-! The event queue. -/

theorem exec_eventQueueMove {e : RingEntry} {es : List RingEntry} (hr : s.domRuns 1 = true) (he : s.on F.HOST.CFG.EN = true) (hw : s.hostWants = none) (hes : s.ring.entries = e :: es) :
    exec .eventQueueMove s = .next (s.eventPut e).ringNext := by
  show execEventQueueMove s = _
  rw [execEventQueueMove, if_pos (by simp [he, hr]), hes, hw]
  rfl

theorem eventPut_events (e : RingEntry) : (s.eventPut e).host.events = if 256 < s.host.events.length + 1 then (s.host.events ++ [e]).drop 1 else s.host.events ++ [e] := by
  unfold State.eventPut
  dsimp only
  rw [List.length_append, List.length_singleton]
  split <;> rfl

theorem ringNext_shows (s : State) : s.ringNext.ring.entries = s.ring.entries.drop 1 ∧ s.ringNext.get F.GW.RING_STATUS.COUNT = (s.ring.entries.drop 1).length % 4096 ∧ s.ringNext.host = s.host :=
  ⟨by rw [State.ringNext, State.set_ring], get_set _ _ _ (by decide), by rw [State.ringNext, State.set_host]⟩

/-! Recovery. -/

theorem recovery_request {code : Nat} (h : s.recovery code = some x) : s.host.cur = some x ∧ x.code = code := by
  unfold State.recovery at h
  split at h
  next y hy =>
    split at h
    next hc => cases h; exact ⟨hy, hc.1⟩
    next => cases h
  next => cases h

/-- The boot ROM's answer ends the request. -/
theorem romReply_cur {s : State} (hc : s.host.cur = some x) (ha : hostApp x.code = true) (st : Nat) : (s.romReply x st).host.cur = none := by
  have hp : s.fwPop.host.cur = some x := by
    rw [← hc]
    unfold State.fwPop
    split
    · split
      · rw [(State.fwShow_eff _).host rfl]
        split
        · rw [(State.alertPend_eff ..).host rfl, State.set_host]
        · rw [State.set_host]
      · rfl
    · rfl
  have hr : ∀ (l : Option HostCmd) (ws : List Word), s.fwPop.host.long = l → (s.fwPop.appReply x.code x.tag ws) = s.fwPop.uncur.hostPut x.chan ws false := fun l ws hl => by
    rw [State.appReply, hp, hl]
    exact if_pos (by simp [ha])
  rw [State.romReply, (hostDrain_grows _).cur, hr _ _ rfl, (hostPut_grows ..).cur, (uncur_same _).2.2]

end

theorem sectorErased_sap_mem (s : State) (sector seq : Nat) : (s.sectorErased 1 sector seq).mem = (s.wipe (sectorAddr 1 sector) 0x1000).mem := rfl

/-- Sectors of Sapwood's flash erased in a row read as erased, and no other byte changes. -/
theorem sapErase_ldB (n : Nat) : ∀ (s : State) (sector b : Nat),
    (s.sapErase sector n).ldB b = if sectorAddr 1 sector ≤ b ∧ b < sectorAddr 1 sector + 0x1000 * n then memDefault b else s.ldB b := by
  have hnext : ∀ i, sectorAddr 1 (i + 1) = sectorAddr 1 i + 0x1000 := fun i => by
    unfold sectorAddr
    omega
  induction n with
  | zero => intro s sector b; rw [State.sapErase, if_neg (by omega)]
  | succ n ih =>
    intro s sector b
    rw [State.sapErase, ih, hnext, ldB_congr (sectorErased_sap_mem ..), ldB_wipe]
    generalize sectorAddr 1 sector = first
    by_cases h : first ≤ b ∧ b < first + 0x1000
    · rw [if_pos h, ite_self, if_pos ⟨h.1, by omega⟩]
    · have hr : (first + 0x1000 ≤ b ∧ b < first + 0x1000 + 0x1000 * n) ↔ (first ≤ b ∧ b < first + 0x1000 * (n + 1)) := by omega
      simp only [if_neg h, hr]
      rfl

theorem slotA_erased (s : State) (b : Nat) : (s.sapErase 0x100 512).ldB b = if 0x110100000 ≤ b ∧ b < 0x110300000 then 0xFF else s.ldB b := by
  rw [sapErase_ldB]
  have hs : sectorAddr 1 0x100 = 0x110100000 := rfl
  rw [hs]
  by_cases h : 0x110100000 ≤ b ∧ b < 0x110300000
  · rw [if_pos h, if_pos (by omega), memDefault, if_neg (by omega), if_pos (by omega)]
  · rw [if_neg h, if_neg (by omega)]

section
variable {s : State} {x : HostCmd}

theorem exec_eraseSlot (h : s.recovery 0x2F0 = some x) : exec .eraseSlot s = .next ((s.sapErase 0x100 512).romReply x 0) := by
  show execEraseSlot s = _
  rw [execEraseSlot, h]

theorem eraseSlot_erases (h : s.recovery 0x2F0 = some x) : s.Completes .eraseSlot fun t => t.host.cur = none ∧ (∀ a, 0x110100000 ≤ a → a < 0x110300000 → t.ldB a = 0xFF) ∧
    (∀ a, (a < 0x110100000 ∨ 0x110300000 ≤ a) → t.ldB a = s.ldB a) := by
  obtain ⟨hc, hcode⟩ := recovery_request h
  have hm : ∀ a, ((s.sapErase 0x100 512).romReply x 0).ldB a = if 0x110100000 ≤ a ∧ a < 0x110300000 then 0xFF else s.ldB a := fun a =>
    (ldB_congr ((State.romReply_eff ..).mem rfl) a).trans (slotA_erased s a)
  refine .of_next (exec_eraseSlot h) ⟨romReply_cur ?_ (by rw [hcode]; decide) 0, fun a hlo hhi => ?_, fun a ha => ?_⟩
  · rw [(State.sapErase_eff ..).host rfl, hc]
  · rw [hm, if_pos ⟨hlo, hhi⟩]
  · rw [hm, if_neg (by omega)]

theorem exec_write_refused {off : Nat} {ws : List Word} (h : s.recovery 0x2F1 = some x) (hb : off % 16 ≠ 0 ∨ ws.length % 4 ≠ 0 ∨ 0x200000 < off + 4 * ws.length) :
    exec (.write off ws) s = .next (s.romReply x 0xF007) := by
  show execWrite off ws s = _
  rw [execWrite, h]
  exact congrArg Host.Outcome.next (if_pos hb)

/-- What slot A's programs leave, with the status that WRITE reports. -/
theorem write_programs {off : Nat} {ws : List Word} (h : s.recovery 0x2F1 = some x) (h16 : off % 16 = 0) (h4 : ws.length % 4 = 0) (hl : off + 4 * ws.length ≤ 0x200000) :
    s.Completes (.write off ws) fun t => t.host.cur = none ∧ t.mem = (s.flPrograms 1 (0x10100000 + off) none none (words16 (ws.length / 4) (bytesOf ws)) 0).1.mem := by
  obtain ⟨hc, hcode⟩ := recovery_request h
  have he : exec (.write off ws) s = .next (
      let r := s.flPrograms 1 (0x10100000 + off) none none (words16 (ws.length / 4) (bytesOf ws)) 0
      if r.2.1.1 = 0 then r.1.romReply x 0 else (r.1.freed 1).romReply x ((Config.freeWord r.1.freeCtr).toNat % 65536)) := by
    show execWrite off ws s = _
    rw [execWrite, h]
    exact congrArg Host.Outcome.next (if_neg (by omega))
  have hcur : (s.flPrograms 1 (0x10100000 + off) none none (words16 (ws.length / 4) (bytesOf ws)) 0).1.host.cur = some x := by rw [(State.flPrograms_eff ..).host rfl, hc]
  have happ : hostApp x.code = true := by rw [hcode]; decide
  refine ⟨_, he, ?_⟩
  dsimp only
  split
  · exact ⟨romReply_cur hcur happ _, (State.romReply_eff ..).mem rfl⟩
  · exact ⟨romReply_cur (s := State.freed _ 1) hcur happ _, ((State.romReply_eff ..).mem rfl)⟩

theorem exec_done (h : s.recovery 0x2F2 = some x) : exec .done s = .next (s.resetS 3) := by
  show execDone s = _
  rw [execDone, h]

end

/-- Settles O47: answers, timeouts, the event queue and recovery by their own lemmas. -/
theorem hostAnswers : Obligations.HostAnswers := by
  unfold Obligations.HostAnswers
  intro s x e es off ws hr r data
  refine ⟨fun he hc hl hx hes ha => hostResultCollect_cur hr he hc hl hx hes ha, fun he hc hl hx h9 hes ha => hostResultCollect_long hr he hc hl hx h9 hes ha,
    fun hc hl ha he => .of_next (exec_hostGatewayTimeout hr hc hl ha he) (timeout_answers fun u hu => hostAnswer_cur (by rw [hu, hc]) (by rw [hu, hl]) _ _),
    fun hc ha => .of_next (exec_appTimeout hr hc ha) (timeout_answers fun u hu => hostAnswer_app (by rw [hu, hc]) ha _ _),
    fun he hw hes => .of_next (exec_eventQueueMove hr he hw hes) ?_, eraseSlot_erases, fun h hb => .of_next (exec_write_refused h hb) ?_, write_programs, fun h => .of_next (exec_done h) ?_⟩
  · obtain ⟨hent, hcnt, hhost⟩ := ringNext_shows (s.eventPut e)
    rw [(State.eventPut_eff ..).ring rfl, hes, List.drop_succ_cons, List.drop_zero] at hent hcnt
    exact ⟨hent, by rw [hhost, eventPut_events], hcnt⟩
  · obtain ⟨hc, hcode⟩ := recovery_request h
    exact ⟨romReply_cur hc (by rw [hcode]; decide) _, (State.romReply_eff ..).mem rfl⟩
  · obtain ⟨hcores, hhost⟩ := resetS_cleared s 3
    exact ⟨resetS_cause s 3, hcores, hhost, (State.resetS_eff ..).ring rfl⟩

end Sys2Proof.Machine
end

section
/-! PROOFS. Calibration and zero-flow runs (R365 to R369, R375). -/

namespace Sys2Proof.Machine

/-! Time passes to an instant. -/

theorem elapsed_fast (s : State) (d : Nat) : (s.elapsed d).time.fast = s.time.fast := rfl

theorem timeSet_fast (s : State) (t : Nat) (p : Int) (n : Nat) : (s.timeSet t p n).time.fast = s.time.fast := rfl

theorem advanceTo_fast (s : State) (t : Nat) : (s.advanceTo t).time.fast = s.time.fast := by
  unfold State.advanceTo
  split
  · rfl
  · dsimp only
    rw [(State.timeShow_eff _).time rfl, timeSet_fast, elapsed_fast, (State.quietNote_eff ..).time rfl]

theorem sleepTo_fast (s : State) (t : Nat) : (s.sleepTo t).time.fast = s.time.fast := by
  unfold State.sleepTo
  split
  · rfl
  · rw [timeSet_fast, elapsed_fast]

/-- What a settled advance to an instant leaves: that time, and the calibration as it was. -/
theorem settled_cal (s : State) (t : Nat) : (s.advanceTo t).settle.time.t = max s.time.t t ∧ (s.advanceTo t).settle.time.fast = s.time.fast ∧ (s.advanceTo t).settle.cal = s.cal := by
  rw [settled_time]
  exact ⟨advanceTo_t s t, advanceTo_fast s t, ((State.settle_eff _).cal rfl).trans ((State.advanceTo_eff ..).cal rfl)⟩

/-! Runs that fall due (R365). -/

/-- Time as a run falls due: awake it passes as always, asleep the sleep counter carries it. -/
def State.dueTime (s : State) (t : Nat) : State := if s.time.fast then (s.advanceTo t).settle else if s.boot.cls = 1 ∨ s.pins.heldAo = true then s else s.sleepTo t

theorem dueTime_keeps {s : State} (t : Nat) (h : s.time.fast = true ∨ s.boot.cls ≠ 1 ∧ s.pins.heldAo = false) :
    (s.dueTime t).time.t = max s.time.t t ∧ (s.dueTime t).time.fast = s.time.fast ∧ (s.dueTime t).cal = s.cal := by
  unfold State.dueTime
  split
  · exact settled_cal s t
  next hf =>
    obtain hf' | ⟨hb, hp⟩ := h
    · exact absurd hf' hf
    · rw [if_neg (by simp [hb, hp])]
      exact ⟨sleepTo_t t, sleepTo_fast s t, (State.sleepTo_eff ..).cal rfl⟩

/-- A run joins the queue (R365). -/
def State.runQueued (s : State) (kind ch : Nat) : State := { s with cal := { s.cal with queue := calQueue (calSort kind) ch s.time.t true false (!s.time.fast) s.cal.queue } }

theorem runQueued_time (s : State) (kind ch : Nat) : (s.runQueued kind ch).time = s.time := rfl

theorem runQueued_queue (s : State) (kind ch : Nat) : (s.runQueued kind ch).cal.queue = calQueue (calSort kind) ch s.time.t true false (!s.time.fast) s.cal.queue := rfl

theorem exec_calibrationDue {s : State} {kind ch due : Nat} (h1 : 1 ≤ kind) (h7 : kind < 7) (hch : ch < 48) (hd : s.calDueAt kind ch = some due)
    (h : s.time.fast = true ∨ s.boot.cls ≠ 1 ∧ s.pins.heldAo = false) (hr : s.cal.running = none) : exec (.calibrationDue kind ch) s = .next ((s.dueTime (due * secT)).runQueued kind ch) := by
  obtain ⟨ht, -, hc⟩ := dueTime_keeps (due * secT) h
  have hsec : ¬ (s.dueTime (due * secT)).sec < due := by
    have : due * secT / secT ≤ (s.dueTime (due * secT)).time.t / secT := Nat.div_le_div_right (by rw [ht]; exact Nat.le_max_right _ _)
    rw [Nat.mul_div_cancel _ (by decide)] at this
    exact Nat.not_lt.2 this
  have hc := congrArg Calib.running hc
  refine (exec_guardUnit rfl (by simp [Instr.wf]; omega)).trans ?_
  rw [hd]
  dsimp only
  unfold State.dueTime at hc hsec ⊢
  generalize (if s.time.fast = true then (s.advanceTo (due * secT)).settle else if s.boot.cls = 1 ∨ s.pins.heldAo = true then s else s.sleepTo (due * secT)) = u at hc hsec ⊢
  rw [if_neg (by rw [hc, hr]; simp [hsec]), State.runQueued]

theorem calibrationDue_queues {s : State} {kind ch due : Nat} (h1 : 1 ≤ kind) (h7 : kind < 7) (hch : ch < 48) (hd : s.calDueAt kind ch = some due) (h : s.time.fast = true ∨ s.boot.cls ≠ 1 ∧ s.pins.heldAo = false)
    (hr : s.cal.running = none) : s.Completes (.calibrationDue kind ch) fun t => t.time.t = max s.time.t (due * secT) ∧ t.cal.queue = calQueue (calSort kind) ch t.time.t true false (!s.time.fast) s.cal.queue := by
  obtain ⟨ht, hf, hc⟩ := dueTime_keeps (due * secT) h
  refine .of_next (exec_calibrationDue h1 h7 hch hd h hr) ⟨(runQueued_time ..).symm ▸ ht, ?_⟩
  rw [runQueued_queue, runQueued_time, hf, hc]

/-! Starts (R366 to R368). -/

theorem calShow_busy {s : State} {j : CalJob} (h : s.cal.running = some j) : s.calShow.on F.CAL.STATUS.BUSY = true := by
  rw [State.calShow, h]
  dsimp only
  rw [on_set_disj _ _ (by decide) (by decide), on_set_disj _ _ (by decide) (by decide)]
  exact on_set_one _ _ (by decide) rfl

/-- The run as it starts, before its channels are held. -/
def State.calOpened (s : State) (j : CalJob) (t : Nat) : State :=
  { s with cal := { s.cal with queue := calDrop j s.cal.queue, running := some { j with stop := t + calTime j.sort, held := s.calHolds j.sort j.channel } } }

/-- A run holds its channels, or its lane. -/
def State.calTaken (s : State) (j : CalJob) (t : Nat) (forced : Bool) (hs : List Nat) : State :=
  let s := if forced then s.set F.CAL.STATUS.FORCED 1 else s
  if j.sort = 2 then s.setLane j.channel { s.lane j.channel with upTo := t + calTime 2 } else s.calHold (edgeAfter (t - 1)) hs

theorem calBegin_eq (s : State) (j : CalJob) (t : Nat) (forced : Bool) : s.calBegin j t forced = ((s.calOpened j t).calTaken j t forced (s.calHolds j.sort j.channel)).calShow := rfl

theorem calTaken_cal (s : State) (j : CalJob) (t : Nat) (forced : Bool) (hs : List Nat) : (s.calTaken j t forced hs).cal = s.cal := by
  have hf : ∀ u : State, (if forced then u.set F.CAL.STATUS.FORCED 1 else u).cal = u.cal := fun u => by
    split
    · exact (State.set_eff ..).cal rfl
    · rfl
  rw [State.calTaken, ← hf s]
  generalize (if forced then s.set F.CAL.STATUS.FORCED 1 else s) = u
  dsimp only
  split
  · exact (State.setLane_eff ..).cal rfl
  · exact (State.calHold_eff ..).cal rfl

theorem calBegin_cal (s : State) (j : CalJob) (t : Nat) (forced : Bool) : (s.calBegin j t forced).cal = (s.calOpened j t).cal := by
  rw [calBegin_eq, (State.calShow_eff _).cal rfl, calTaken_cal]

theorem calBegin_busy (s : State) (j : CalJob) (t : Nat) (forced : Bool) : (s.calBegin j t forced).on F.CAL.STATUS.BUSY = true := by
  rw [calBegin_eq]
  exact calShow_busy ((congrArg Calib.running (calTaken_cal ..)).trans rfl)

theorem exec_calibrationStart {s : State} {j : CalJob} {start : Nat} {forced : Bool} (hr : s.cal.running = none) (hf : s.time.fast = true) (hrun : s.on F.SPN.STATUS.RUN = true) (hp : s.on F.SPN.STATUS.PFAIL = false)
    (hh : s.spn.held = false) (hj : calFirst (s.cal.queue.filter fun (i : CalJob) => !i.slept && (i.after == 0 || decide (i.after < s.time.cycle))) = some j) (hs : s.calSlot j = some (start, forced)) :
    exec .calibrationStart s = .next (if (s.advanceTo start).settle.energyTest start (calEnergy j.sort) && (s.advanceTo start).settle.heatTest then (s.advanceTo start).settle.calBegin j start forced
      else (s.advanceTo start).settle.calPostpone j) := by
  show execCalibrationStart s = _
  rw [execCalibrationStart, if_neg (by simp [hr, hf, hrun, hp, hh]), hj]
  dsimp only
  rw [hs]

/-! Runs that are postponed (R368, R374). -/

/-- The run in progress. -/
def State.calRunning (s : State) : Option CalJob := s.cal.running

theorem calRunning_of_eff {F : Nat} {s t : State} (h : Eff F s t) (hF : F.testBit 30 = false) : Keeps State.calRunning s t := congrArg Calib.running (h.cal hF)

/-- CAL_RUN with nothing left of it. -/
def State.calCmdOver (s : State) : State := { s with cal := { s.cal with cmd := none }, gw := { s.gw with long := none } }

theorem calCmdOver_regs (s : State) : s.calCmdOver.regs = s.regs := rfl

theorem calCmdEnd_cases (s : State) : s.calCmdEnd = s ∨ ∃ tag st data, s.calCmdEnd = s.calCmdOver.result tag 0x0D st data := by
  unfold State.calCmdEnd
  split
  · exact (ite_eq_or_eq _ _ _).imp id fun h => ⟨_, _, _, h⟩
  · exact .inl rfl

theorem calCmdEnd_running (s : State) : Keeps State.calRunning s s.calCmdEnd := by
  obtain h | ⟨tag, st, data, h⟩ := calCmdEnd_cases s
  · rw [h]
    exact .refl s
  · rw [h]
    exact .after (calRunning_of_eff (State.result_eff ..) rfl) rfl

theorem calCmdEnd_regs (s : State) : KeepsRegs ringRegs s s.calCmdEnd := by
  obtain h | ⟨tag, st, data, h⟩ := calCmdEnd_cases s
  · rw [h]
    exact .refl s
  · rw [h]
    exact .trans (.of_regs (.refl s) (calCmdOver_regs s)) (result_ringRegs _ _ _ _ _)

/-- The queue and CAL_RUN's counts, replaced. -/
def State.calRequeued (s : State) (q : List CalJob) (cmd : Option (Nat × (Nat × Nat × Nat))) : State := { s with cal := { s.cal with queue := q, cmd := cmd } }

theorem calRequeued_regs (s : State) (q : List CalJob) (cmd : Option (Nat × (Nat × Nat × Nat))) : (s.calRequeued q cmd).regs = s.regs := rfl

theorem calRequeued_running (s : State) (q : List CalJob) (cmd : Option (Nat × (Nat × Nat × Nat))) : Keeps State.calRunning s (s.calRequeued q cmd) := rfl

theorem calPostpone_cases (s : State) (j : CalJob) : ∃ q cmd, s.calPostpone j = ((s.set F.CAL.STATUS.POSTPONED 1).calRequeued q cmd).calCmdEnd ∨ s.calPostpone j = (s.set F.CAL.STATUS.POSTPONED 1).calRequeued q cmd := by
  unfold State.calPostpone
  generalize s.set F.CAL.STATUS.POSTPONED 1 = u
  dsimp only
  generalize (if j.byCommand then j.postponed + 1 else j.postponed) = n
  obtain h | h := ite_eq_or_eq ((j.byCommand && decide (64 ≤ n)) = true) (u.calRequeued _ _).calCmdEnd (u.calRequeued _ u.cal.cmd)
  · exact ⟨_, _, .inl h⟩
  · exact ⟨_, _, .inr h⟩

theorem calPostpone_keeps (s : State) (j : CalJob) : Keeps State.calRunning (s.set F.CAL.STATUS.POSTPONED 1) (s.calPostpone j) ∧ KeepsRegs ringRegs (s.set F.CAL.STATUS.POSTPONED 1) (s.calPostpone j) := by
  obtain ⟨q, cmd, h⟩ := calPostpone_cases s j
  generalize s.set F.CAL.STATUS.POSTPONED 1 = u at h ⊢
  have hr : KeepsRegs ringRegs u (u.calRequeued q cmd) := .of_regs (.refl u) (calRequeued_regs u q cmd)
  obtain h | h := h
  · rw [h]
    exact ⟨.after (calCmdEnd_running _) (calRequeued_running ..), .trans hr (calCmdEnd_regs _)⟩
  · rw [h]
    exact ⟨calRequeued_running .., hr⟩

theorem calPostpone_waits {s : State} {j : CalJob} (h : s.cal.running = none) : (s.calPostpone j).cal.running = none ∧ (s.calPostpone j).on F.CAL.STATUS.POSTPONED = true := by
  obtain ⟨hk, hr⟩ := calPostpone_keeps s j
  have hrun : Keeps State.calRunning s (s.set F.CAL.STATUS.POSTPONED 1) := calRunning_of_eff (State.set_eff ..) rfl
  exact ⟨(hk.after hrun).trans h, (hr.on rfl).trans (on_set_one _ _ (by decide) rfl)⟩

/-! Ends (R369). -/

theorem marksReach_running (s : State) (ks : List Nat) : Keeps State.calRunning s (s.marksReach ks) := by
  induction ks generalizing s with
  | nil => exact .refl s
  | cons k ks ih => exact .after (ih _) rfl

theorem qualSet_running (s : State) (kind ch : Nat) (res : Int) : Keeps State.calRunning s (s.qualSet kind ch res) :=
  .after (t := s.setI (qualField kind ch).1 (heldAt res (qualField kind ch).2)) rfl (calRunning_of_eff (State.setI_eff ..) rfl)

/-- A correction in the record, and the ramps to it. -/
def State.corrPut (s : State) (key : Nat) (m : Int) : State := { s with cal := { s.cal with corr := alSet s.cal.corr key m } }

def State.rampsPut (s : State) (chains : List (Nat × Chain)) (lanes : List (Nat × Ramp)) : State := { s with fabric := { s.fabric with chains := chains }, cal := { s.cal with laneRamps := lanes } }

theorem calAccept_running (s : State) (kind ch j : Nat) (m res : Int) : Keeps State.calRunning s (s.calAccept kind ch j m res) := by
  have hstored : Keeps State.calRunning s ((s.corrPut (256 * kind + ch) m).qualSet kind ch res).calStore := .after (calRunning_of_eff (State.calStore_eff _) rfl) (.after (qualSet_running ..) rfl)
  have hramps : ∀ (u : State) (chains : List (Nat × Chain)) (lanes : List (Nat × Ramp)), Keeps State.calRunning u (u.rampsPut chains lanes) := fun _ _ _ => rfl
  unfold State.calAccept
  exact .after (calRunning_of_eff (State.rampShow_eff _) rfl) (.after (marksReach_running ..) (.after (calRunning_of_eff (State.sat_eff ..) rfl) (.after (hramps _ _ _) (.after (calRunning_of_eff (State.auditAtOnce_eff ..) rfl) hstored))))

theorem calJudge_running (s : State) (valid cmd : Bool) (kind ch : Nat) (m res : Int) : Keeps State.calRunning s (s.calJudge valid cmd kind ch m res) := by
  have hreject : ∀ (u : State) (d : List Byte), Keeps State.calRunning u ((((u.set F.CAL.STATUS.REJECT 1).sat F.CAL.COUNT.REJECT 1).calStore).auditPut 0x51 0xFF d) := fun u d =>
    .after (calRunning_of_eff (State.auditPut_eff ..) rfl) (.after (calRunning_of_eff (State.calStore_eff _) rfl) (.after (calRunning_of_eff (State.sat_eff ..) rfl) (calRunning_of_eff (State.set_eff ..) rfl)))
  have hcount : ∀ (u : State) (l : Option (Nat × (Nat × Nat × Nat))), Keeps State.calRunning u { u with cal := { u.cal with cmd := l } } := fun _ _ => rfl
  have hdone : ∀ l : List (Nat × Nat), Keeps State.calRunning s { s with cal := { s.cal with doneAt := l } } := fun _ => rfl
  unfold State.calJudge
  split
  · exact .refl s
  · exact .after (hcount _ _) (.after (.ite (calAccept_running ..) (hreject _ _)) (hdone _))

/-- The second result of a run that has one is judged. -/
def State.calJudged2 (s : State) (valid : Bool) (j : CalJob) (m1 r1 : Int) (ks : List Nat) : State := match ks with
  | [_, k] => s.calJudge valid j.byCommand k j.channel m1 r1
  | _ => s

theorem calJudged2_running (s : State) (valid : Bool) (j : CalJob) (m1 r1 : Int) (ks : List Nat) : Keeps State.calRunning s (s.calJudged2 valid j m1 r1 ks) := by
  unfold State.calJudged2
  split
  · exact calJudge_running ..
  · exact .refl s

/-- Nothing runs any more. -/
def State.calStopped (s : State) : State := { s with cal := { s.cal with running := none } }

/-- The end of a run, from the instant of its hold's end (R363, R369). -/
def State.calEnded (s : State) (valid : Bool) (j : CalJob) (m0 m1 r0 r1 : Int) : State :=
  let s := (s.calRelease (edgeAfter s.time.t - 1) j.held).settingsRelease s.front.deferred
  let s := s.calJudge valid j.byCommand ((calKinds j.sort).headD 0) j.channel m0 r0
  ((s.calJudged2 valid j m1 r1 (calKinds j.sort)).calShow.icEdge 0 5).calCmdEnd

theorem calEnded_running (s : State) (valid : Bool) (j : CalJob) (m0 m1 r0 r1 : Int) : Keeps State.calRunning s (s.calEnded valid j m0 m1 r0 r1) := by
  unfold State.calEnded
  exact .after (calCmdEnd_running _) (.after (calRunning_of_eff (State.icEdge_eff ..) rfl) (.after (calRunning_of_eff (State.calShow_eff _) rfl) (.after (calJudged2_running ..)
    (.after (calJudge_running ..) (.after (calRunning_of_eff (State.settingsRelease_eff ..) rfl) (calRunning_of_eff (State.calRelease_eff ..) rfl))))))

theorem exec_calibrationHoldEnd {s : State} {j : CalJob} (hj : s.cal.running = some j) (hr : s.hscRuns = true) (valid : Bool) (m0 m1 r0 r1 : Int) :
    exec (.calibrationHoldEnd valid m0 m1 r0 r1) s = .next ((s.advanceTo j.stop).settle.calStopped.calEnded valid j m0 m1 r0 r1) := by
  show execCalibrationHoldEnd valid m0 m1 r0 r1 s = _
  rw [execCalibrationHoldEnd, hj]
  exact congrArg Host.Outcome.next (if_neg (by simp [hr]))

theorem calJudged2_eff (s : State) (valid : Bool) (j : CalJob) (m1 r1 : Int) (ks : List Nat) : Eff 13470645043596 s (s.calJudged2 valid j m1 r1 ks) := by
  unfold State.calJudged2
  split
  · exact State.calJudge_eff ..
  · exact Eff.refl _ _

theorem calEnded_eff (s : State) (valid : Bool) (j : CalJob) (m0 m1 r0 r1 : Int) : Eff 13470649238412 s (s.calEnded valid j m0 m1 r0 r1) := by
  unfold State.calEnded
  exact (State.calCmdEnd_eff _).step rfl ((State.icEdge_eff ..).step rfl ((State.calShow_eff _).step rfl ((calJudged2_eff ..).step rfl ((State.calJudge_eff ..).step rfl
    ((State.settingsRelease_eff ..).step rfl ((State.calRelease_eff ..).step rfl (Eff.refl _ s)))))))

theorem calStopped_time (s : State) : s.calStopped.time = s.time := rfl

theorem calibrationHoldEnd_ends {s : State} {j : CalJob} (hj : s.cal.running = some j) (hr : s.hscRuns = true) (valid : Bool) (m0 m1 r0 r1 : Int) :
    s.Completes (.calibrationHoldEnd valid m0 m1 r0 r1) fun t => t.cal.running = none ∧ t.time.t = max s.time.t j.stop ∧ t.sealc = s.sealc ∧ t.params = s.params := by
  have he := exec_calibrationHoldEnd hj hr valid m0 m1 r0 r1
  have hk : Eff 14572822152076 s ((s.advanceTo j.stop).settle.calStopped.calEnded valid j m0 m1 r0 r1) := execCalibrationHoldEnd_eff valid m0 m1 r0 r1 s _ he
  refine .of_next he ⟨calEnded_running .., ?_, hk.sealc rfl, hk.params rfl⟩
  rw [(calEnded_eff ..).time rfl, calStopped_time, (settled_cal s j.stop).1]

/-! Zero-flow runs (R375). -/

/-- A zero-flow run is over. -/
def State.zeroEnded (s : State) : State := { s with freeCtr := s.freeCtr + 1, cal := { s.cal with zero := none }, gw := { s.gw with long := none } }

/-- The zero-flow run in progress and the long command. -/
def State.zeroLong (s : State) : Option ZeroCal × Option (Nat × Nat) := (s.cal.zero, s.gw.long)

theorem exec_zeroCalEnd_waits {s : State} {z : ZeroCal} (hz : s.cal.zero = some z) (hl : z.left ≠ 0) : exec .zeroCalEnd s = .next s := by
  show execZeroCalEnd s = _
  rw [execZeroCalEnd, hz]
  exact congrArg Host.Outcome.next (if_neg fun h => hl h.1)

theorem exec_zeroCalEnd {s : State} {z : ZeroCal} (hz : s.cal.zero = some z) (hl : z.left = 0) (hr : s.hscRuns = true) : exec .zeroCalEnd s = .next (s.zeroJudge z) := by
  show execZeroCalEnd s = _
  rw [execZeroCalEnd, hz]
  exact congrArg Host.Outcome.next (if_pos ⟨hl, hr⟩)

theorem zeroLong_of_eff {F : Nat} {s t : State} (h : Eff F s t) (hc : F.testBit 30 = false) (hg : F.testBit 9 = false) : Keeps State.zeroLong s t := by
  rw [Keeps, State.zeroLong, State.zeroLong, h.cal hc, h.gw hg]

/-- What a zero-flow run that is over leaves behind it, with its mean. -/
def State.zeroNoted (s : State) (z : ZeroCal) (d : Int) : State :=
  let changed := z.changed || s.get (F.ECHO.PATHS.MASK z.stream) != z.mask
  let ok := decide (0 < z.count) && decide (z.possible * 9 ≤ z.count * 10) && !changed && decide (d.natAbs ≤ z.limit * 2 ^ 32)
  let acc := s.gw.sealst
  let s := s.auditPutAs acc 0x52 z.stream (leBytes 1 z.slot ++ leBytes 1 (if ok then popcount64 z.paths else 0) ++ [0, 0] ++ leBytes 8 (utwo 64 d))
  let s := if ok then (match s.paramIndex z.param with
      | some j => (s.paramSet acc z.param z.slot (s.paramVal j) (utwo 64 d)).markReach (256 + z.stream)
      | none => s)
    else s
  (s.calShow.result z.tag 0x0E (if ok then 0 else 0x0203) (leBytes 8 (utwo 64 d)))

theorem zeroJudge_eq (s : State) (z : ZeroCal) : s.zeroJudge z = s.zeroEnded.zeroNoted z (s.zeroMean z) := rfl

theorem markReach_zeroLong (s : State) (key : Nat) : Keeps State.zeroLong s (s.markReach key) := rfl

theorem zeroNoted_zeroLong (s : State) (z : ZeroCal) (d : Int) : Keeps State.zeroLong s (s.zeroNoted z d) := by
  have hset : ∀ (u : State) (acc old : Nat), Keeps State.zeroLong u (match u.paramIndex z.param with
      | some j => (u.paramSet acc z.param z.slot (u.paramVal j) old).markReach (256 + z.stream)
      | none => u) := fun u acc old => by
    split
    · exact .after (markReach_zeroLong ..) (zeroLong_of_eff (State.paramSet_eff ..) rfl rfl)
    · exact .refl u
  unfold State.zeroNoted
  dsimp only
  exact .after (zeroLong_of_eff (State.result_eff ..) rfl rfl) (.after (zeroLong_of_eff (State.calShow_eff _) rfl rfl) (.after (.ite (hset _ _ _) (.refl _)) (zeroLong_of_eff (State.auditPutAs_eff ..) rfl rfl)))

theorem zeroEnded_zeroLong (s : State) : s.zeroEnded.zeroLong = (none, none) := rfl

theorem zeroCalEnd_ends {s : State} {z : ZeroCal} (hz : s.cal.zero = some z) (hl : z.left = 0) (hr : s.hscRuns = true) :
    s.Completes .zeroCalEnd fun t => t.cal.zero = none ∧ t.gw.long = none ∧ t.time = s.time := by
  have hk : (s.zeroJudge z).zeroLong = (none, none) := by
    rw [zeroJudge_eq]
    exact (zeroNoted_zeroLong ..).trans (zeroEnded_zeroLong s)
  exact .of_next (exec_zeroCalEnd hz hl hr) ⟨congrArg Prod.fst hk, congrArg Prod.snd hk, (State.zeroJudge_eff s z).time rfl⟩

theorem calibrationStart_starts {s : State} {j : CalJob} {start : Nat} {forced : Bool} (hr : s.cal.running = none) (hf : s.time.fast = true) (hrun : s.on F.SPN.STATUS.RUN = true) (hp : s.on F.SPN.STATUS.PFAIL = false)
    (hh : s.spn.held = false) (hj : calFirst (s.cal.queue.filter fun (i : CalJob) => !i.slept && (i.after == 0 || decide (i.after < s.time.cycle))) = some j) (hs : s.calSlot j = some (start, forced)) :
    let u := (s.advanceTo start).settle
    (u.energyTest start (calEnergy j.sort) = true → u.heatTest = true → s.Completes .calibrationStart fun t =>
      t.cal.running = some { j with stop := start + calTime j.sort, held := u.calHolds j.sort j.channel } ∧ t.on F.CAL.STATUS.BUSY = true ∧ t.cal.queue = calDrop j s.cal.queue) ∧
    ((u.energyTest start (calEnergy j.sort) && u.heatTest) = false → s.Completes .calibrationStart fun t => t.cal.running = none ∧ t.on F.CAL.STATUS.POSTPONED = true) := by
  have he := exec_calibrationStart hr hf hrun hp hh hj hs
  obtain ⟨-, -, hc⟩ := settled_cal s start
  dsimp only
  generalize (s.advanceTo start).settle = u at he hc ⊢
  refine ⟨fun h1 h2 => ?_, fun h => ?_⟩
  · rw [if_pos (by rw [h1, h2]; rfl)] at he
    have hb := calBegin_cal u j start forced
    refine .of_next he ⟨?_, calBegin_busy .., ?_⟩
    · rw [hb]
      rfl
    · rw [hb, ← hc]
      rfl
  · rw [if_neg (by rw [h]; exact Bool.false_ne_true)] at he
    exact .of_next he (calPostpone_waits ((congrArg Calib.running hc).trans hr))

/-- Settles O51: a run that is due joins the queue at its instant, the first of the queue starts or is postponed there, and the ends of a run and of a zero-flow run leave nothing running. -/
theorem calibrationRuns : Obligations.CalibrationRuns := by
  intro s kind ch due start j z valid forced m0 m1 r0 r1 h1 h7 hch
  exact ⟨fun hd h hr => calibrationDue_queues h1 h7 hch hd h hr, fun hr hf hrun hp hh hj hs => calibrationStart_starts hr hf hrun hp hh hj hs,
    fun hj hr => calibrationHoldEnd_ends hj hr valid m0 m1 r0 r1, fun hz hl hr => zeroCalEnd_ends hz hl hr, fun hz hl => exec_zeroCalEnd_waits hz hl⟩

end Sys2Proof.Machine
end

section
/-! PROOFS. Alarms and THAW (R298, R353 to R356, R447). -/

namespace Sys2Proof.Machine

/-! What HSC, Spindle and the units do as the chip wakes neither enters FROST nor marks a wake. -/

theorem icSample_doze (s : State) (c n : Nat) : Keeps State.doze s (s.icSample c n) := .ite (.ite (.refl s) (icPend_doze ..)) (.refl s)

theorem raise_doze (s : State) (f : Fld) (c n : Nat) : Keeps State.doze s (s.raise f c n) := .after (icSample_doze (s.set f 1) c n) (doze_of_eff (State.set_eff ..) rfl)

theorem ringEnter_doze (s : State) (x : RingEntry) : Keeps State.doze s (s.ringEnter x) := by
  have ha : ∀ u : State, Keeps State.doze u (if u.alertKind x.kind then u.alertPend 0 true else u) := fun u => .ite (doze_of_eff (State.alertPend_eff u 0 true) rfl) (.refl u)
  have hw : ∀ u : State, Keeps State.doze u (if u.on F.SEASON.WAKE.RING then u.wakeSapwood 9 else u) := fun u => .ite (wakeSapwood_doze ..) (.refl u)
  have he : ∀ u : State, Keeps State.doze u (if x.kind = 4 ∨ x.kind = 6 then (if (u.icEdge 1 3).on F.SEASON.WAKE.RING then (u.icEdge 1 3).wakeSapwood 9 else u.icEdge 1 3) else u) :=
    fun u => .ite (.after (hw _) (icEdge_doze ..)) (.refl u)
  have h0 : Keeps State.doze s (if decide (2048 ≤ s.ring.entries.length) then s.sat F.GW.RING_STATUS.OVERRUN 1 else s) := .ite (doze_of_eff (State.sat_eff ..) rfl) (.refl s)
  unfold State.ringEnter
  dsimp only
  exact .after (he _) (.after (ha _) (.after (icSample_doze ..) (.after (doze_of_eff (State.set_eff ..) rfl) (.after (doze_of_season rfl) h0))))

theorem ringPut_doze (s : State) (kind stream src cycle : Nat) (payload : List Byte) : Keeps State.doze s (s.ringPut kind stream src cycle payload) := by
  unfold State.ringPut
  exact .ite (ringEnter_doze ..) (doze_of_season rfl)

theorem auditRelevel_doze (s : State) : Keeps State.doze s s.auditRelevel := by
  have h0 : ∀ (v : Nat) (a : Audit), Keeps State.doze s ({ (s.set F.SEAL.STATUS.LEVEL v) with audit := a }.icEdge 0 4) := fun v a => .after (icEdge_doze ..) (doze_of_season (by simp))
  unfold State.auditRelevel
  dsimp only
  exact .ite (.refl s) (.ite (.after (ringPut_doze ..) (h0 _ _)) (h0 _ _))

theorem auditPut_doze (s : State) (kind stream : Nat) (data : List Byte) : Keeps State.doze s (s.auditPut kind stream data) :=
  .ite (.after (auditRelevel_doze _) (doze_of_season rfl)) (doze_of_season rfl)

theorem fault_doze (s : State) (code region stream : Nat) (detail : List Byte) : Keeps State.doze s (s.fault code region stream detail) := by
  have h0 : ∀ (u : State) (f : Fld), Keeps State.doze u (u.sat f 1) := fun u f => doze_of_eff (State.sat_eff u f 1) rfl
  unfold State.fault State.faultKey
  dsimp only
  exact .ite (.after (auditPut_doze ..) (h0 ..)) (.ite (.after (h0 ..) (h0 ..)) (.after (auditPut_doze ..) (.after (doze_of_season rfl) (h0 s F.FLT.COUNT.FAULTS))))

theorem x32Log_doze (s : State) : Keeps State.doze s s.x32Log := .ite (.after (fault_doze ..) (by simp [Keeps, State.doze])) (.refl s)

/-! The seal loop (R103 to R106). -/

theorem sealStored_doze (s : State) (isShut : Bool) (count : Nat) : Keeps State.doze s (s.sealStored isShut count) :=
  .after (t := s.ctlWrite 1 (.seal isShut count)) rfl (doze_of_eff (State.ctlWrite_eff ..) rfl)

theorem unsealed_doze (s : State) (n sleep dSec dNs : Nat) : Keeps State.doze s (s.unsealed n sleep dSec dNs) := by
  have h0 : ∀ x : Seal, Keeps State.doze s { s with sealc := x } := fun _ => rfl
  unfold State.unsealed
  exact .after (icEdge_doze ..) (.after (doze_of_eff (State.intervalNote_eff ..) rfl) (.after (auditPut_doze ..) (.after (doze_of_eff (State.set_eff ..) rfl) (h0 _))))

theorem resealed_doze (s : State) : Keeps State.doze s s.resealed := by
  have h0 : ∀ (u : State) (x : Seal), Keeps State.doze u { u with sealc := x } := fun _ _ => rfl
  unfold State.resealed
  exact .after (icEdge_doze ..) (.after (doze_of_eff (State.set_eff ..) rfl) (.after (auditPut_doze ..) (.after (h0 _ _) (.after (doze_of_eff (State.hscGo_eff _) rfl)
    (.after (doze_of_eff (State.set_eff ..) rfl) (doze_of_eff (State.intervalNote_eff ..) rfl))))))

theorem sealOpened_doze (s : State) (sleep dSec dNs : Nat) : Keeps State.doze s (s.sealOpened 0 sleep dSec dNs) := by
  unfold State.sealOpened
  simp only [sealWord_stored, if_true]
  exact .ite (auditPut_doze ..) (.after (unsealed_doze ..) (.after (sealStored_doze ..) (doze_of_eff (State.set_eff ..) rfl)))

theorem sealClosed_doze (s : State) : Keeps State.doze s (s.sealClosed 0) := by
  unfold State.sealClosed
  simp only [sealWord_stored, if_true]
  exact .after (resealed_doze _) (sealStored_doze ..)

theorem sealCatchUp_doze (s : State) : Keeps State.doze s s.sealCatchUp := by
  have h0 : ∀ (u : State) (x : Seal), Keeps State.doze u { u with sealc := x } := fun _ _ => rfl
  unfold State.sealCatchUp
  dsimp only
  refine .after (.ite (.ite (.ite (.refl _) (sealClosed_doze _)) (.ite (sealOpened_doze ..) (.refl _))) (.refl _)) ?_
  split
  · exact .ite (.after (sealOpened_doze ..) (h0 _ _)) (h0 _ _)
  · exact .refl s

theorem hscResume_doze (s : State) : Keeps State.doze s s.hscResume := by
  have h0 : ∀ x : Wdt, Keeps State.doze s { s with wdt := x } := fun _ => rfl
  unfold State.hscResume
  exact .after (x32Log_doze _) (.after (sealCatchUp_doze _) (.after (doze_of_eff (State.set_eff ..) rfl) (h0 _)))

/-! Releases that are lost (R343, R387). -/

theorem substitute_doze (s : State) (k cycle cause nsub : Nat) : Keeps State.doze s (s.substitute k cycle cause nsub) := by
  have h0 : ∀ (u : State) (x : Spindle), Keeps State.doze u { u with spn := x } := fun _ _ => rfl
  have hs : ∀ st : Nat, Keeps State.doze s ((((s.markStream (s.taskRegion k) st cycle flSUB).ringPut 3 st 0x0101 cycle []).streamNote st cycle nsub 0 0).sat F.SPN.COUNT.SUBST 1) := fun st =>
    .after (doze_of_eff (State.sat_eff ..) rfl) (.after (doze_of_eff (State.streamNote_eff ..) rfl) (.after (ringPut_doze ..) (doze_of_eff (State.markStream_eff ..) rfl)))
  unfold State.substitute
  dsimp only
  exact .ite (hs _) (.after (auditPut_doze ..) (.after (h0 _ _) (hs _)))

theorem emitAll_doze (s : State) (cycle : Nat) (es : List Emission) : Keeps State.doze s (s.emitAll cycle es) := by
  induction es generalizing s with
  | nil => exact .refl s
  | cons e es ih => exact .after (ih _) (ringPut_doze ..)

theorem publishMirror_doze (s : State) (st cycle : Nat) (es : List Emission) : Keeps State.doze s (s.publishMirror st cycle es) := by
  have h0 : ∀ (u : State) (x : Faults), Keeps State.doze u { u with flt := x } := fun _ _ => rfl
  unfold State.publishMirror
  dsimp only
  refine .ite (.refl s) (.ite (.after (fault_doze ..) (.after (h0 _ _) ?_)) ?_)
  all_goals exact .after (doze_of_eff (State.streamNote_eff ..) rfl) (.after (doze_of_eff (State.sat_eff ..) rfl) (.after (emitAll_doze ..) (h0 _ _)))

theorem failover_doze (s : State) (st : Nat) : Keeps State.doze s (s.failover st) := by
  have h0 : ∀ (u : State) (x : Faults), Keeps State.doze u { u with flt := x } := fun _ _ => rfl
  have h1 : Keeps State.doze s ((s.set (F.FLT.GUARD.STATE st) 2).set (F.FLT.GUARD.PUBLISHED st) 0) := .after (doze_of_eff (State.set_eff ..) rfl) (doze_of_eff (State.set_eff ..) rfl)
  unfold State.failover
  dsimp only
  refine .ite ?_ (.refl s)
  split
  · exact .after (publishMirror_doze ..) (.after (doze_of_eff (State.heldDrop_eff ..) rfl) (.after (h0 _ _) h1))
  · exact .after (h0 _ _) h1

theorem guardLost_doze (s : State) (k cycle cause : Nat) : Keeps State.doze s (s.guardLost k cycle cause) := by
  have h0 : ∀ (u : State) (x : Faults), Keeps State.doze u { u with flt := x } := fun _ _ => rfl
  have hf : Keeps State.doze s (if s.homeTask (s.taskStream k) = k then s.failover (s.taskStream k) else s) := .ite (failover_doze ..) (.refl s)
  unfold State.guardLost
  dsimp only
  refine .after (.ite (.refl _) ?_) hf
  exact .ite (.after (substitute_doze ..) (doze_of_eff (State.markStream_eff ..) rfl))
    (.ite (.after (doze_of_eff (State.streamNote_eff ..) rfl) (doze_of_eff (State.markStream_eff ..) rfl)) (h0 _ _))

theorem guardTurned_doze (s : State) (k cycle cause : Nat) : Keeps State.doze s (s.guardTurned k cycle cause) := by
  have h0 : ∀ (u : State) (x : Faults), Keeps State.doze u { u with flt := x } := fun _ _ => rfl
  unfold State.guardTurned
  dsimp only
  exact .after (h0 _ _) (.after (substitute_doze ..) (.ite (doze_of_eff (State.markStream_eff ..) rfl) (.refl s)))

theorem releaseLost_doze (s : State) (k cycle cause : Nat) : Keeps State.doze s (s.releaseLost k cycle cause) := by
  unfold State.releaseLost
  exact .ite (.refl s) (.ite (substitute_doze ..) (.ite (guardLost_doze ..) (guardTurned_doze ..)))

theorem lateWake_doze (s : State) (due : Bool) : Keeps State.doze s (s.lateWake due) := by
  have hp : ∀ (u : State) (x : Spindle), Keeps State.doze u { u with spn := x, season := { u.season with plan := none } } := fun _ _ => rfl
  have hq : Keeps State.doze s { s with season := { s.season with plan := none } } := rfl
  unfold State.lateWake
  split
  · exact .ite hq (.ite (.after (releaseLost_doze ..) (.after (hp _ _) (.after (raise_doze ..) (doze_of_eff (State.set_eff ..) rfl)))) (.refl s))
  · exact .refl s

/-! Units that thaw, and what a start from FROST loads. -/

theorem regionWrite_doze (s : State) (e r off : Nat) (bs : List Byte) : Keeps State.doze s (s.regionWrite e r off bs) := by
  have hs : Keeps State.doze s (s.stBytes (rgnBase r + off) bs) := doze_of_eff (State.stBytes_eff ..) rfl
  unfold State.regionWrite
  exact .ite (raise_doze ..) (.ite (doze_of_season (by simp)) (.after (doze_of_season rfl) hs))

theorem writeWaiting_doze (s : State) (r : Nat) (ws : List (Nat × (Nat × (Nat × List Byte)))) : Keeps State.doze s (s.writeWaiting r ws) := by
  induction ws generalizing s with
  | nil => exact .refl s
  | cons w ws ih => exact .after (ih _) (.ite (regionWrite_doze ..) (.refl s))

theorem thaw_doze (s : State) (u : Nat) : Keeps State.doze s (s.thaw u) := by
  have hw : Keeps State.doze s (s.warm u) := doze_of_eff (State.warm_eff s u) rfl
  have hr : ∀ v : State, Keeps State.doze v (v.regionWritten u) := fun v => .after (writeWaiting_doze ..) (doze_of_season (by simp))
  unfold State.thaw
  dsimp only
  split
  · exact .after (hr _) (.after (doze_of_season (by simp)) hw)
  · repeat' split
    all_goals exact doze_of_season (by simp)

theorem thawList_doze (s : State) (us : List Nat) : Keeps State.doze s (s.thawList us) := by
  induction us generalizing s with
  | nil => exact .refl s
  | cons u us ih => exact .after (ih _) (thaw_doze ..)

theorem thaws_doze (s : State) (us : List Nat) : Keeps State.doze s (s.thaws us) := by
  unfold State.thaws
  exact .after (doze_of_eff (State.seasonUpdate_eff _) rfl) (.after (thawList_doze ..) (doze_of_season (by simp)))

theorem sdRaise_doze (s : State) (f : Nat → Fld) (ns : List Nat) : Keeps State.doze s (s.sdRaise f ns) := by
  induction ns generalizing s with
  | nil => exact .refl s
  | cons n ns ih => exact .after (ih _) (raise_doze ..)

theorem settingsLoad_doze (s : State) : Keeps State.doze s s.settingsLoad := by
  have hl : ∀ u : State, Keeps State.doze u u.frontLoad := fun u => .after (sdRaise_doze ..) (doze_of_eff (State.loadSettings_eff ..) rfl)
  unfold State.settingsLoad
  exact .after (.ite (hl _) (fault_doze ..)) (doze_of_eff (State.zeroRegs_eff ..) rfl)

theorem reloadF_doze (s : State) : Keeps State.doze s s.reloadF := by
  have hset : ∀ (u : State) (f : Fld) (v : Nat), Keeps State.doze u (u.set f v) := fun u f v => doze_of_eff (State.set_eff u f v) rfl
  have he : ∀ (u : State) (x : Echo), Keeps State.doze u { u with echo := x } := fun _ _ => rfl
  have hf : ∀ (u : State) (x : Faults), Keeps State.doze u { u with flt := x } := fun _ _ => rfl
  unfold State.reloadF
  extract_lets c loaded front echo shown faulted floor cal faults counted
  have h1 : Keeps State.doze s loaded := .after (doze_of_eff (State.pulseLoad_eff _) rfl) (.after (settingsLoad_doze _) (doze_of_eff (State.loadTots_eff ..) rfl))
  have h2 : Keeps State.doze loaded front := .after (doze_of_eff (State.loadGains_eff ..) rfl) (.after (doze_of_eff (State.loadTemplates_eff _) rfl) (doze_of_eff (State.loadHscfw_eff _) rfl))
  have h3 : Keeps State.doze front echo := he front _
  have h4 : Keeps State.doze echo shown := .after (doze_of_eff (State.setB_eff ..) rfl) (doze_of_eff (State.loadGuards_eff ..) rfl)
  have h5 : Keeps State.doze shown faulted := .ite (fault_doze ..) (.refl _)
  have h6 : Keeps State.doze faulted floor := hset faulted _ _
  have h7 : Keeps State.doze floor cal := doze_of_eff (State.calLoad_eff floor) rfl
  have h8 : Keeps State.doze cal counted := hf cal _
  exact .after (doze_of_eff (State.commitAhead_eff _) rfl) (.after (hset _ _ _) (.after (doze_of_eff (State.snapsDue_eff counted c) rfl)
    (.after h8 (.after h7 (.after h6 (.after h5 (.after h4 (.after h3 (.after h2 h1)))))))))

/-! A class F reset leaves nothing that falls due. -/

/-- Nothing is under way whose time could come: no commit, window, warm-up, pulse input, swap, restart or block. -/
structure State.Idle (s : State) : Prop where
  pairs : s.pairs = []
  lanes : s.acq.lanes = []
  warm : s.front.warmTo = []
  pulse : s.pulse = []
  swaps : s.fabric.swaps = []
  restart : s.flt.restart = []
  blocks : s.flt.blockDue = []

theorem State.Idle.of_eff {F : Nat} {s t : State} (h : s.Idle) (he : Eff F s t) (hF : (F.testBit 20 || F.testBit 22 || F.testBit 23 || F.testBit 24 || F.testBit 25 || F.testBit 31) = false) : t.Idle := by
  simp only [Bool.or_eq_false_iff] at hF
  obtain ⟨⟨⟨⟨⟨hacq, hfront⟩, hpulse⟩, hfabric⟩, hpairs⟩, hflt⟩ := hF
  exact ⟨by rw [he.pairs hpairs, h.pairs], by rw [he.acq hacq, h.lanes], by rw [he.front hfront, h.warm], by rw [he.pulse hpulse, h.pulse], by rw [he.fabric hfabric, h.swaps],
    by rw [he.flt hflt, h.restart], by rw [he.flt hflt, h.blocks]⟩

theorem settle_idle {s : State} (h : s.Idle) : s.settle = s := by
  have hlog : ∀ p, (s.pair p).log = none := fun p => by rw [State.pair, h.pairs]; rfl
  unfold State.settle
  rw [commitsDue_of_noLog hlog]
  simp only [h.lanes, h.warm, h.pulse, State.windowsDue, State.warmsDue, State.stuckDue, h.swaps, State.swapsDue, h.restart, List.map_nil, State.restartsDue, h.blocks, State.blocksDue]

/-- What class F takes from the state, before the registers (R7, R356). -/
def State.lostF (s : State) : State :=
  let t := s.clearSapwood.clearHeartwood
  { t with boot := s.boot, audit := s.audit, hic := s.hic.afresh, sic := s.sic.afresh, spn := { State.reset.spn with codes := s.spn.codes, held := s.spn.held, resume := s.spn.resume, cold := List.range 8 },
           time := { s.time with step := none, fast := false }, cal := { t.cal with queue := s.cal.queue.filter fun (j : CalJob) => j.slept }, season := { s.season with gated := true, frost := false } }

theorem lostF_idle (s : State) : s.lostF.Idle := ⟨rfl, rfl, rfl, rfl, rfl, rfl, rfl⟩

/-- The registers as class F leaves them. -/
def State.regsF (s : State) : State := { s with regs := regsClass keepsF s.regs }

theorem regsF_idle {s : State} (h : s.Idle) : s.regsF.Idle := ⟨h.pairs, h.lanes, h.warm, h.pulse, h.swaps, h.restart, h.blocks⟩

theorem resetF_eq (s : State) : s.resetF = ((((s.lostF.regsF.relock 0).relock 1).set (F.IC.TSTAT.WFI 0 0) 0).regionsStay s.heldRegionsF) := rfl

theorem regionsStay_doze (s : State) (rs : List Nat) : Keeps State.doze s (s.regionsStay rs) := by
  have hi : ∀ (u : State) (r : Nat), Keeps State.doze u (u.isoShow r) := fun u r => by
    unfold State.isoShow
    exact .after (icSample_doze ..) (.after (doze_of_eff (State.setB_eff ..) rfl) (doze_of_eff (State.setW_eff ..) rfl))
  induction rs generalizing s with
  | nil => exact .refl s
  | cons r rs ih => exact .after (ih _) (.after (hi _ _) (doze_of_eff (State.set_eff ..) rfl))

theorem resetF_idle (s : State) : s.resetF.Idle := by
  rw [resetF_eq]
  exact ((((regsF_idle (lostF_idle s)).of_eff (State.relock_eff _ 0) rfl).of_eff (State.relock_eff _ 1) rfl).of_eff (State.set_eff ..) rfl).of_eff (State.regionsStay_eff ..) rfl

theorem lostF_frost (s : State) : s.lostF.season.frost = false := rfl

theorem resetF_frost (s : State) : s.resetF.season.frost = false := by
  have hr : Keeps State.doze s.lostF s.lostF.regsF := rfl
  rw [resetF_eq]
  exact (Keeps.after (regionsStay_doze ..) (.after (doze_of_eff (State.set_eff ..) rfl) (.after (doze_of_eff (State.relock_eff _ 1) rfl) (.after (doze_of_eff (State.relock_eff _ 0) rfl) hr)))).frost.trans (lostF_frost s)

theorem lostF_t (s : State) : s.lostF.time.t = s.time.t := rfl

theorem regsF_time (s : State) : s.regsF.time = s.time := rfl

theorem resetF_t (s : State) : s.resetF.time.t = s.time.t := by
  rw [resetF_eq, (State.regionsStay_eff ..).time rfl, State.set_time, (State.relock_eff _ 1).time rfl, (State.relock_eff _ 0).time rfl, regsF_time, lostF_t]

/-! The fast time base comes back (R298, R355). -/

theorem chainsShift_idle {s : State} (h : s.Idle) (e e1 : Int) : (s.chainsShift e e1).Idle := ⟨h.pairs, h.lanes, h.warm, h.pulse, h.swaps, h.restart, h.blocks⟩

/-- The fast time base runs again, from the cycle that has passed. -/
def State.fastAgain (s : State) (t : Nat) : State := { s with time := { s.time with fast := true, sys := true, cycle := max s.time.cycle (s.cycleAt t) } }

theorem fastAgain_idle {s : State} (h : s.Idle) (t : Nat) : (s.fastAgain t).Idle := ⟨h.pairs, h.lanes, h.warm, h.pulse, h.swaps, h.restart, h.blocks⟩

theorem timeBack_eq (s : State) (z : Asleep) : s.timeBack z =
    (((((s.asleep z).missedIn s.time.t (s.asleep z).time.t (List.range 32)).chainsShift (edgeAfter s.time.t) (edgeAfter (s.asleep z).time.t)).fastAgain (s.asleep z).time.t).set F.TIME.STATUS.SRC 0).gridHere.settle := rfl

theorem timeBack_doze {s : State} (h : s.Idle) (z : Asleep) : Keeps State.doze s (s.timeBack z) := by
  have hs : ∀ (u : State) (e e1 : Int), Keeps State.doze u (u.chainsShift e e1) := fun _ _ _ => rfl
  have hf : ∀ (u : State) (t : Nat), Keeps State.doze u (u.fastAgain t) := fun _ _ => rfl
  have hidle := (((fastAgain_idle (chainsShift_idle ((h.of_eff (State.asleep_eff s z) rfl).of_eff (State.missedIn_eff (s.asleep z) s.time.t (s.asleep z).time.t (List.range 32)) rfl)
    (edgeAfter s.time.t) (edgeAfter (s.asleep z).time.t)) (s.asleep z).time.t).of_eff (State.set_eff _ F.TIME.STATUS.SRC 0) rfl).of_eff (State.gridHere_eff _) rfl)
  rw [timeBack_eq, settle_idle hidle]
  exact .after (doze_of_eff (State.gridHere_eff _) rfl) (.after (doze_of_eff (State.set_eff ..) rfl) (.after (hf _ _) (.after (hs _ _ _) (.after (doze_of_eff (State.missedIn_eff ..) rfl) (doze_of_eff (State.asleep_eff s z) rfl)))))

theorem carryBy_le (s : State) (x : Nat) : s.time.t ≤ (s.carryBy x).time.t := by
  rw [(carryBy_time s x).2]
  exact Nat.le_add_right ..

theorem carryCounts_le (s : State) (n : Nat) (xs : List Int) : s.time.t ≤ (s.carryCounts n xs).time.t := by
  induction xs generalizing s n with
  | nil =>
    rw [State.carryCounts, State.carry]
    exact carryBy_le ..
  | cons x xs ih =>
    have ht : ∀ u : State, u.time.t ≤ ({ u with time := { u.time with tao := x } } : State).time.t := fun _ => Nat.le_refl _
    rw [State.carryCounts, State.carry]
    exact (ht s).trans ((carryBy_le ..).trans (ih ..))

theorem asleep_le (s : State) (z : Asleep) : s.time.t ≤ (s.asleep z).time.t := by
  rw [State.asleep]
  exact (carryCounts_le ..).trans (carryBy_le ..)

/-! THAW from FROST (R355, R356). -/

theorem xtalBack_idle {s : State} (h : s.Idle) (x32 : Bool) : (s.xtalBack x32).Idle := h.of_eff (State.xtalBack_eff s x32) rfl

theorem xtalBack_doze (s : State) (x32 : Bool) : Keeps State.doze s (s.xtalBack x32) := by
  have hl : Keeps State.doze s { s with season := { s.season with lfrc := false } } := rfl
  unfold State.xtalBack
  exact .ite (.after (doze_of_eff (State.set_eff ..) rfl) hl) (.refl s)

/-- FROST is over: Heartwood and Sapwood as class F leaves them, with HFXO and PLL_SYS running (F1 to F3). -/
def State.frostLeft (s : State) (src : Nat) (x32 : Bool) : State :=
  let s := (s.wakeMark src).resetF
  let s := { s with twm := { s.twm with wakeReq := false } }
  ((s.set F.CLK.STATUS.HFXO_ON 1).set F.CLK.STATUS.SYS_LOCK 1).xtalBack x32

theorem frostLeft_rests (s : State) (src : Nat) (x32 : Bool) : (s.frostLeft src x32).Idle ∧ (s.frostLeft src x32).season.frost = false ∧ (s.frostLeft src x32).time.t = s.time.t := by
  have hw : ∀ (u : State) (x : Twm), u.Idle → ({ u with twm := x } : State).Idle := fun _ _ h => ⟨h.pairs, h.lanes, h.warm, h.pulse, h.swaps, h.restart, h.blocks⟩
  have hd : ∀ (u : State) (x : Twm), Keeps State.doze u { u with twm := x } := fun _ _ => rfl
  have ht : ∀ (u : State) (x : Twm), ({ u with twm := x } : State).time = u.time := fun _ _ => rfl
  unfold State.frostLeft
  dsimp only
  refine ⟨xtalBack_idle (((hw _ _ (resetF_idle _)).of_eff (State.set_eff ..) rfl).of_eff (State.set_eff ..) rfl) x32, ?_, ?_⟩
  · exact (Keeps.after (xtalBack_doze ..) (.after (doze_of_eff (State.set_eff ..) rfl) (.after (doze_of_eff (State.set_eff ..) rfl) (hd _ _)))).frost.trans (resetF_frost _)
  · rw [(State.xtalBack_eff ..).time rfl, State.set_time, State.set_time, ht, resetF_t, (State.wakeMark_eff ..).time rfl]

/-- The fast time base is back, and the seal registers show the stored state (F4). -/
def State.frostTimed (s : State) (z : Asleep) : State := (s.timeBack z).syncLost.sealShow

theorem frostTimed_time (s : State) (z : Asleep) : (s.frostTimed z).time.fast = true ∧ (s.frostTimed z).time.t = (s.asleep z).time.t := by
  rw [State.frostTimed, (State.sealShow_eff _).time rfl, (State.syncLost_eff _).time rfl]
  exact timeBack_time s z

theorem frostTimed_doze {s : State} (h : s.Idle) (z : Asleep) : Keeps State.doze s (s.frostTimed z) :=
  .after (doze_of_eff (State.sealShow_eff _) rfl) (.after (doze_of_eff (State.syncLost_eff _) rfl) (timeBack_doze h z))

/-- Spindle and HSC resume with what retention held, or Heartwood repeats its start (F5). -/
def State.frostResumed (s : State) (src : Nat) (due ok : Bool) : State :=
  if ok then
    let s := (s.reloadF.hscResume).lateWake due
    let s := if due then s.calWoken else s
    let s := { s with spn := { s.spn with nSec := s.sec, eSec := s.reserve } }
    s.thaws (s.wakeUnits src)
  else ({ s with boot := { s.boot with cls := 3 } }).setW F.FLT.BOOT_STATUS.ALL.addr 0

theorem frostResumed_keeps (s : State) (src : Nat) (due ok : Bool) : Keeps State.doze s (s.frostResumed src due ok) ∧ (s.frostResumed src due ok).time = s.time := by
  have hspn : ∀ (u : State) (x : Spindle), Keeps State.doze u { u with spn := x } ∧ ({ u with spn := x } : State).time = u.time := fun _ _ => ⟨rfl, rfl⟩
  have hboot : ∀ x : Boot, Keeps State.doze s { s with boot := x } ∧ ({ s with boot := x } : State).time = s.time := fun _ => ⟨rfl, rfl⟩
  have hcal : ∀ u : State, Keeps State.doze u (if due then u.calWoken else u) ∧ (if due then u.calWoken else u).time = u.time := fun u =>
    ⟨.ite (doze_of_eff (State.calWoken_eff u) rfl) (.refl u), by split; exacts [(State.calWoken_eff u).time rfl, rfl]⟩
  unfold State.frostResumed
  dsimp only
  split
  · refine ⟨.after (thaws_doze ..) (.after (hspn _ _).1 (.after (hcal _).1 (.after (lateWake_doze ..) (.after (hscResume_doze _) (reloadF_doze s))))), ?_⟩
    rw [(State.thaws_eff ..).time rfl, (hspn _ _).2, (hcal _).2, (State.lateWake_eff ..).time rfl, (HscOnly.hscResume _).2, (State.reloadF_eff s).time rfl]
  · exact ⟨.after (doze_of_eff (State.setW_eff ..) rfl) (hboot _).1, ((State.setW_eff ..).time rfl).trans (hboot _).2⟩

/-- Nothing of the sleep is left (F6). -/
def State.sleepOver (s : State) : State := { s with season := { s.season with waking := false, alarm := none, want := [] }, kept := [] }

/-- FROST has ended, and Sapwood is woken where one of its sources calls. -/
def State.frostEnded (s : State) (sap : Bool) (bits : Nat) : State :=
  let s := s.sleepOver
  let s := if sap then (s.wakeNow bits).set F.SEASON.STATE.LAST 3 else s
  ((s.icUpdate 0).icUpdate 1).seasonUpdate

theorem sleepOver_season (s : State) : s.sleepOver.season = { s.season with waking := false, alarm := none, want := [] } ∧ s.sleepOver.kept = [] ∧ s.sleepOver.time = s.time := ⟨rfl, rfl, rfl⟩

theorem frostEnded_ends (s : State) (sap : Bool) (bits : Nat) : (s.frostEnded sap bits).season.frost = s.season.frost ∧ (s.frostEnded sap bits).season.waking = false ∧ (s.frostEnded sap bits).season.alarm = none ∧
    (s.frostEnded sap bits).kept = [] ∧ (s.frostEnded sap bits).time = s.time := by
  obtain ⟨hs, hk, ht⟩ := sleepOver_season s
  have hw : ∀ u : State, Eff 4673461485572 u (if sap then (u.wakeNow bits).set F.SEASON.STATE.LAST 3 else u) := fun u => .ite ((State.set_eff ..).step rfl ((State.wakeNow_eff ..).mono rfl)) (.refl _ u)
  have hd : ∀ u : State, Keeps State.doze u (if sap then (u.wakeNow bits).set F.SEASON.STATE.LAST 3 else u) := fun u => .ite (.after (doze_of_eff (State.set_eff ..) rfl) (wakeNow_doze ..)) (.refl u)
  have ha : ∀ u : State, Keeps State.sleepClock u (if sap then (u.wakeNow bits).set F.SEASON.STATE.LAST 3 else u) := fun u =>
    .ite (.after (sleepClock_of_eff (State.set_eff ..) rfl) (wakeNow_sleepClock ..)) (.refl u)
  have he : ∀ u : State, Eff 274878103556 u ((u.icUpdate 0).icUpdate 1).seasonUpdate := fun u => (State.seasonUpdate_eff _).step rfl ((State.icUpdate_eff ..).step rfl ((State.icUpdate_eff ..).mono rfl))
  unfold State.frostEnded
  dsimp only
  rw [(he _).season rfl, (he _).kept rfl, (he _).time rfl, (hw _).kept rfl, (hw _).time rfl, (hd _).frost, (hd _).waking, (ha _).alarm, hs, hk, ht]
  exact ⟨rfl, rfl, rfl, rfl, rfl⟩

theorem thawFrost_eq (s : State) (src : Nat) (z : Asleep) (intact x32 : Bool) : s.thawFrost src z intact x32 =
    (((s.frostLeft src x32).frostTimed z).frostResumed src s.season.waking (intact && s.season.retIntact && !s.badIn 0x1400E000 0x2000)).frostEnded
      ((decide (4 ≤ src) || !s.season.want.isEmpty) && !s.pins.heldS) (s.wakeBits src) := rfl

theorem thawFrost_ends {s : State} {src : Nat} (z : Asleep) (intact x32 : Bool) (hsrc : src < 12) (hf : s.season.frost = true) (hw : s.wakes src = true) (hh : s.pins.heldH = false) :
    s.Completes (.thawFrost src z intact x32) fun t => t.time.fast = true ∧ s.time.t ≤ t.time.t ∧ t.season.frost = false ∧
      t.season.waking = false ∧ t.season.alarm = none ∧ t.kept = [] ∧ t.pins = s.pins ∧ t.params = s.params := by
  have he : exec (.thawFrost src z intact x32) s = .next (s.thawFrost src z intact x32) :=
    (exec_guardUnit rfl (by simpa [Instr.wf] using hsrc)).trans (congrArg Host.Outcome.next (if_pos (by rw [hf, hw, hh]; rfl)))
  have hk : Eff _ s (s.thawFrost src z intact x32) := execThawFrost_eff src z intact x32 s _ he
  obtain ⟨hidle, hfrost, ht⟩ := frostLeft_rests s src x32
  obtain ⟨hend, hwaking, halarm, hkept, htime⟩ := frostEnded_ends
    (((s.frostLeft src x32).frostTimed z).frostResumed src s.season.waking (intact && s.season.retIntact && !s.badIn 0x1400E000 0x2000)) ((decide (4 ≤ src) || !s.season.want.isEmpty) && !s.pins.heldS) (s.wakeBits src)
  obtain ⟨hresumed, hresumedTime⟩ := frostResumed_keeps ((s.frostLeft src x32).frostTimed z) src s.season.waking (intact && s.season.retIntact && !s.badIn 0x1400E000 0x2000)
  obtain ⟨hfast, hclock⟩ := frostTimed_time (s.frostLeft src x32) z
  rw [← thawFrost_eq] at hend hwaking halarm hkept htime
  refine .of_next he ⟨?_, ?_, ?_, hwaking, halarm, hkept, hk.pins rfl, hk.params rfl⟩
  · rw [htime, hresumedTime, hfast]
  · rw [htime, hresumedTime, hclock, ← ht]
    exact asleep_le ..
  · rw [hend, hresumed.frost, (frostTimed_doze hidle z).frost, hfrost]

/-! THAW from WINTER (R355). -/

theorem thawWinter_waking (s : State) (src : Nat) (z : Asleep) (x32 : Bool) : (s.thawWinter src z x32).season.waking = false := by
  have hs : ∀ (u : State) (us : List Nat), (({ u with season := { u.season with waking := false, alarm := none } } : State).thaws us).season.waking = false := fun u us => (thaws_doze _ us).waking
  unfold State.thawWinter
  exact hs ..

theorem thawWinter_ends {s : State} {src : Nat} (z : Asleep) (x32 : Bool) (hsrc : src < 12) (ht : s.time.fast = false) (hf : s.season.frost = false) (ho : s.on F.CLK.STATUS.HFXO_ON = true)
    (hh : s.pins.heldH = false) (hb : s.boot.cls = 0) (hw : s.wakes src = true) :
    s.Completes (.thawWinter src z x32) fun t => t.time.fast = true ∧ t.time.t = ((((s.wakeBy src).set F.CLK.STATUS.SYS_LOCK 1).xtalBack x32).asleep z).time.t ∧ t.season.waking = false ∧ t.season.alarm = none ∧
      t.pins = s.pins ∧ t.params = s.params := by
  have he : exec (.thawWinter src z x32) s = .next (s.thawWinter src z x32) := by
    refine (exec_guardUnit rfl (by simpa [Instr.wf] using hsrc)).trans (congrArg Host.Outcome.next ?_)
    rw [if_neg (by rw [ht, hf, ho, hh, hb]; decide), if_pos hw]
  have hk : Eff _ s (s.thawWinter src z x32) := execThawWinter_eff src z x32 s _ he
  refine .of_next he ⟨?_, ?_, thawWinter_waking .., thawWinter_alarm .., hk.pins rfl, hk.params rfl⟩
  · rw [thawWinter_time, (timeBack_time ..).1]
  · rw [thawWinter_time, (timeBack_time ..).2]

/-! Alarms (R298, R353, R354, R447). -/

/-- AOC's alarm has come, and wakes the chip. -/
def State.alarmCome (s : State) : State := ({ s with season := { s.season with alarm := none, waking := true } }).wakeMark 0

theorem alarmCome_season (s : State) : s.alarmCome.season = { s.season with alarm := none, waking := true } := rfl

theorem exec_spindleAlarm {s : State} {lag ta : Nat} (ha : s.season.alarm = some ta) (hf : s.time.fast = false) (hl : lag < s.sleepPeriod)
    (hw : s.season.frost = false ∨ (s.sleepTo (ta - lag)).eFloor + 100000000 * fpOne ≤ (s.sleepTo (ta - lag)).reserve) : exec (.spindleAlarm lag) s = .next (s.sleepTo (ta - lag)).alarmCome := by
  have hs : (s.sleepTo (ta - lag)).season = s.season := (State.sleepTo_eff ..).season rfl
  have hwait : (s.sleepTo (ta - lag)).alarmsWait = false := by
    rw [State.alarmsWait, hs, Bool.and_eq_false_iff]
    exact hw.imp_right fun h => decide_eq_false (Int.not_lt.2 h)
  show execSpindleAlarm lag s = _
  rw [execSpindleAlarm, ha]
  dsimp only
  rw [if_neg (by simpa [hf] using hl), if_neg (by rw [hwait]; decide)]
  rfl

theorem sleepTo_keeps (s : State) (t : Nat) : (s.sleepTo t).regs = s.regs ∧ (s.sleepTo t).mem = s.mem ∧ (s.sleepTo t).pairs = s.pairs :=
  ⟨(State.sleepTo_eff ..).regs rfl, (State.sleepTo_eff ..).mem rfl, (State.sleepTo_eff ..).pairs rfl⟩

theorem alarmCome_shown (s : State) : s.alarmCome.get F.SEASON.WAKESRC.SRC = 1 ∧ s.alarmCome.get F.SEASON.STATE.LAST = s.get F.SEASON.STATE.SEASON := by
  have hr : ∀ x : Season, ({ s with season := x } : State).regs = s.regs := fun _ => rfl
  unfold State.alarmCome State.wakeMark
  refine ⟨get_set _ _ _ (by decide), ?_⟩
  rw [get_set_addr _ _ (by decide), get_of_regs (hr _)]
  exact (get_set _ _ _ (by decide)).trans (Nat.mod_eq_of_lt (get_lt s F.SEASON.STATE.SEASON))

theorem spindleAlarm_wakes {s : State} {lag ta : Nat} (ha : s.season.alarm = some ta) (hf : s.time.fast = false) (hl : lag < s.sleepPeriod)
    (hw : s.season.frost = false ∨ (s.sleepTo (ta - lag)).eFloor + 100000000 * fpOne ≤ (s.sleepTo (ta - lag)).reserve) :
    s.Completes (.spindleAlarm lag) fun t => t.time.t = max s.time.t (ta - lag) ∧ t.season.alarm = none ∧ t.season.waking = true ∧ t.get F.SEASON.WAKESRC.SRC = 1 ∧
      t.get F.SEASON.STATE.LAST = s.get F.SEASON.STATE.SEASON ∧ t.mem = s.mem ∧ t.pairs = s.pairs := by
  obtain ⟨hr, hm, hp⟩ := sleepTo_keeps s (ta - lag)
  obtain ⟨hsrc, hlast⟩ := alarmCome_shown (s.sleepTo (ta - lag))
  have hk : ∀ u : State, u.alarmCome.time = u.time ∧ u.alarmCome.mem = u.mem ∧ u.alarmCome.pairs = u.pairs := fun _ => ⟨rfl, rfl, rfl⟩
  refine .of_next (exec_spindleAlarm ha hf hl hw) ⟨?_, ?_, ?_, hsrc, hlast.trans (get_of_regs hr _), (hk _).2.1.trans hm, (hk _).2.2.trans hp⟩
  · rw [(hk _).1, sleepTo_t]
  · rw [alarmCome_season]
  · rw [alarmCome_season]

/-- SEASON.ALARM, asleep: source 26 of SIC is an edge, and Sapwood is woken where it asks for that. -/
theorem exec_seasonAlarm {s : State} (hf : s.time.fast = false) :
    let t := (s.sec + (s.get F.SEASON.ALARM.SEC + 2 ^ 32 - s.sec % 2 ^ 32) % 2 ^ 32) * secT
    exec .seasonAlarm s = .next (if ((s.sleepTo t).icEdge 1 26).on F.SEASON.WAKE.ALARM then ((s.sleepTo t).icEdge 1 26).wakeSapwood 10 else (s.sleepTo t).icEdge 1 26) := by
  show execSeasonAlarm s = _
  rw [execSeasonAlarm]
  dsimp only
  rw [if_neg (c := s.time.fast = true) (by rw [hf]; decide)]

theorem seasonAlarm_pends {s : State} (hf : s.time.fast = false) (hs : s.on (stormF 1 26) = false) :
    s.Completes .seasonAlarm fun t => t.time.t = max s.time.t ((s.sec + (s.get F.SEASON.ALARM.SEC + 2 ^ 32 - s.sec % 2 ^ 32) % 2 ^ 32) * secT) ∧ t.on (pendF 1 26) = true ∧ t.pairs = s.pairs := by
  have hw : ∀ u : State, Eff 4673461485572 u (if u.on F.SEASON.WAKE.ALARM then u.wakeSapwood 10 else u) := fun u => .ite ((State.wakeSapwood_eff ..).mono rfl) (.refl _ u)
  have hup : ∀ u : State, PendUp u (if u.on F.SEASON.WAKE.ALARM then u.wakeSapwood 10 else u) := fun u => .ite (wakeSapwood_pends u 10) (.refl u)
  have he := exec_seasonAlarm hf
  dsimp only at he
  generalize (s.sec + (s.get F.SEASON.ALARM.SEC + 2 ^ 32 - s.sec % 2 ^ 32) % 2 ^ 32) * secT = at_ at he ⊢
  obtain ⟨hr, hm, hp⟩ := sleepTo_keeps s at_
  have hp' : ((s.sleepTo at_).icEdge 1 26).on (pendF 1 26) = true := icEdge_pends (by decide) (by decide) (by decide) (by decide) ((on_of_regs hr _).trans hs)
  refine .of_next he ⟨?_, hup _ 1 26 (by decide) (by decide) hp', ?_⟩
  · rw [(hw _).time rfl, (State.icEdge_eff ..).time rfl, sleepTo_t]
  · rw [(hw _).pairs rfl, (State.icEdge_eff ..).pairs rfl, hp]

/-- Settles O32: an alarm by what the sleep counter carries to its instant, a THAW by the time base it brings back; nothing that Heartwood or Sapwood does as they wake leaves a mark of the sleep. -/
theorem waking : Obligations.Waking := by
  intro s src lag ta z intact x32 hsrc
  exact ⟨fun ha hf hl hw => spindleAlarm_wakes ha hf hl hw, fun hf hs => seasonAlarm_pends hf hs, fun ht hf ho hh hb hw => thawWinter_ends z x32 hsrc ht hf ho hh hb hw,
    fun hf hw hh => thawFrost_ends z intact x32 hsrc hf hw hh⟩

end Sys2Proof.Machine
end

section
/-! PROOFS. The cycle grid, comparators and time steps (R300, R303 to R305, R309). -/

namespace Sys2Proof.Machine

/-! Matches (R303). -/

/-- The match of comparator n at an instant is marked. -/
def State.matchMarked (s : State) (n tm : Nat) : State := { s with time := { s.time with last := alSet s.time.last n tm } }

theorem matchMarked_time (s : State) (n tm : Nat) : (s.matchMarked n tm).time = { s.time with last := alSet s.time.last n tm } := rfl

theorem matchDo_time (s : State) (n : Nat) (c : CmpOld) (tm : Nat) (late : Bool) : (s.matchDo n c tm late).time = ((s.advanceTo tm).settle.matchMarked n tm).time := by
  have hset : ∀ (u : State) (b : Prop) [Decidable b] (f : Fld) (v : Nat), (if b then u.set f v else u).time = u.time := fun u b _ f v => by split <;> rfl
  have hirq : ∀ u : State, (if c.irq then u.icEdge 0 (32 + n) else u).time = u.time := fun u => by
    split
    · exact (State.icEdge_eff ..).time rfl
    · rfl
  unfold State.matchDo
  extract_lets passed marked fired late taken started swapped noted
  rw [(State.matchEnvelope_eff ..).time rfl, hirq, (State.swapsMatch_eff ..).time rfl, (State.chainMatches_eff ..).time rfl, (State.seqStarts_eff ..).time rfl, hset, hset, State.set_time]
  rfl

theorem triggerMatch_marks {s : State} {n tm : Nat} {c : CmpOld} {late : Bool} (hn : n < 32) (h : s.nextMatch n = some (c, tm, late)) :
    s.Completes (.triggerMatch n) fun t => alFind t.time.last n = some tm ∧ t.time.t = max s.time.t tm := by
  have he : exec (.triggerMatch n) s = .next (s.matchDo n c tm late) := (exec_guardUnit rfl (by simpa [Instr.wf] using hn)).trans (by rw [h])
  refine .of_next he ?_
  rw [matchDo_time, matchMarked_time]
  exact ⟨alFind_alSet_same .., by rw [settled_time, advanceTo_t]⟩

theorem exec_triggerMatch_none {s : State} {n : Nat} (hn : n < 32) (h : s.nextMatch n = none) : exec (.triggerMatch n) s = .next s :=
  (exec_guardUnit rfl (by simpa [Instr.wf] using hn)).trans (by rw [h])

/-! The grid (R300). -/

/-- Cycle n has fired. -/
def State.cycleFired (s : State) (n : Nat) : State := { s with time := { s.time with cycle := n, fired := (n, s.time.fired.1) } }

theorem instant_time (s : State) (n : Nat) : (s.instant n).time = (((s.advanceTo (n * s.cycleT)).settle.zeroInstant (s.advanceTo (n * s.cycleT)).settle.time.cycle).cycleFired n).time := by
  unfold State.instant
  dsimp only
  rw [(State.spindleInstant_eff ..).time rfl, (State.instantCount_eff _).time rfl, (State.intervalRoll_eff ..).time rfl, (State.pulseCycle_eff ..).time rfl]
  rfl

theorem cycleFired_time (s : State) (n : Nat) : (s.cycleFired n).time = { s.time with cycle := n, fired := (n, s.time.fired.1) } := rfl

theorem cycleInstant_fires {s : State} (h : s.instantsRun = true) : s.Completes .cycleInstant fun t => t.time.cycle = s.nextCycle ∧ t.time.t = max s.time.t (s.nextCycle * s.cycleT) := by
  refine .of_next (congrArg Host.Outcome.next (if_pos h)) ?_
  rw [instant_time, cycleFired_time]
  refine ⟨rfl, ?_⟩
  rw [(State.zeroInstant_eff ..).time rfl, settled_time, advanceTo_t]

theorem exec_cycleInstant_still {s : State} (h : s.instantsRun = false) : exec .cycleInstant s = .next s := congrArg Host.Outcome.next (if_neg (by rw [h]; decide))

/-! Comparator writes (R304, R305). -/

/-- The settings that a write replaces are kept. -/
def State.cmpKept (s : State) (n : Nat) : State := { s with time := { s.time with cmps := s.cmpsKeep n ++ [s.cmpSet n] } }

theorem exec_comparatorWrite_locked {s : State} {n reg : Nat} (v : Word) (hn : n < 32) (hreg : reg < 6) (h : s.on (F.TIME.CMPCTRL.LOCK n) = true) : exec (.comparatorWrite n reg v) s = .next s :=
  (exec_guardUnit rfl (by simp [Instr.wf, hn, hreg])).trans (congrArg Host.Outcome.next (if_pos h))

theorem exec_comparatorWrite {s : State} {n reg : Nat} (v : Word) (hn : n < 32) (hreg : reg < 6) (h : s.on (F.TIME.CMPCTRL.LOCK n) = false) :
    exec (.comparatorWrite n reg v) s = .next ((s.cmpKept n).cmpTake n reg v.toNat) :=
  (exec_guardUnit rfl (by simp [Instr.wf, hn, hreg])).trans (congrArg Host.Outcome.next (if_neg (by rw [h]; decide)))

/-- CTRL of comparator n as a write leaves it, but for EVERY. -/
def State.ctrlTaken (s : State) (n v : Nat) : State :=
  ((if bitsOf v 1 0 = 3 then s else s.set (F.TIME.CMPCTRL.MODE n) (bitsOf v 1 0)).set (F.TIME.CMPCTRL.IRQ n) (bitsOf v 2 2)).set (F.TIME.CMPCTRL.SPN n) (bitsOf v 3 3)

theorem cmpTake_ctrl (s : State) (n v : Nat) {f : Fld} (hf : f.hi < 16) : (s.cmpTake n 0 v).get f = (s.ctrlTaken n v).get f := by
  have he : ∀ (u : State) (x : Nat), (if x = 0 then u else u.set (F.TIME.CMPCTRL.EVERY n) x).get f = u.get f := fun u x => by
    split
    · rfl
    · exact get_set_disj _ _ (by omega) (.inl hf)
  exact he (s.ctrlTaken n v) _

theorem ctrlTaken_mode (s : State) (n v : Nat) : (s.ctrlTaken n v).get (F.TIME.CMPCTRL.MODE n) = if bitsOf v 1 0 = 3 then s.get (F.TIME.CMPCTRL.MODE n) else bitsOf v 1 0 := by
  rw [State.ctrlTaken, get_set_disj _ _ (by simp) (by simp), get_set_disj _ _ (by simp) (by simp)]
  split
  · rfl
  · exact (get_set _ _ _ (by simp)).trans (Nat.mod_eq_of_lt (bitsOf_lt v 1 0))

theorem ctrlTaken_flags (s : State) (n v : Nat) : (s.ctrlTaken n v).get (F.TIME.CMPCTRL.IRQ n) = bitsOf v 2 2 ∧ (s.ctrlTaken n v).get (F.TIME.CMPCTRL.SPN n) = bitsOf v 3 3 := by
  rw [State.ctrlTaken, get_set_disj _ _ (by simp) (by simp), get_set _ _ _ (by simp), get_set _ _ _ (by simp)]
  exact ⟨Nat.mod_eq_of_lt (bitsOf_lt v 2 2), Nat.mod_eq_of_lt (bitsOf_lt v 3 3)⟩

theorem cmpTake_ofs (s : State) (n : Nat) (v : Word) : (s.cmpTake n 1 v.toNat).get (F.TIME.CMPOFS.OFFSET n) = if v.toNat < s.cycleNs then v.toNat else s.get (F.TIME.CMPOFS.OFFSET n) := by
  show (if v.toNat < s.cycleNs then s.set (F.TIME.CMPOFS.OFFSET n) v.toNat else s).get _ = _
  split
  · exact (get_set _ _ _ (by simp)).trans (Nat.mod_eq_of_lt v.isLt)
  · rfl

theorem cmpTake_abs (s : State) (n : Nat) {reg : Nat} (v : Word) (h : 3 < reg) : (s.cmpTake n reg v.toNat).get (F.TIME.CMPABS.ALL n (reg - 3)) = v.toNat := by
  rw [State.cmpTake, if_neg (by omega), if_neg (by omega), if_neg (by omega), if_neg (by omega)]
  exact (get_set _ _ _ (by simp)).trans (Nat.mod_eq_of_lt v.isLt)

theorem cmpKept_keeps (s : State) (n : Nat) : (s.cmpKept n).regs = s.regs ∧ (s.cmpKept n).time.t = s.time.t ∧ (s.cmpKept n).mem = s.mem ∧ s.cmpSet n ∈ (s.cmpKept n).time.cmps :=
  ⟨rfl, rfl, rfl, List.mem_append_right _ (List.mem_singleton_self _)⟩

theorem SameImage.cycleNs {s t : State} (h : SameImage s t) : t.cycleNs = s.cycleNs := by
  rw [State.cycleNs, State.cycleNs, State.cycleT, State.cycleT, State.cycleUs, State.cycleUs, State.chip, State.chip, h.img]

theorem comparatorWrite_takes {s : State} {n reg : Nat} (v : Word) (hn : n < 32) (hreg : reg < 6) (h : s.on (F.TIME.CMPCTRL.LOCK n) = false) :
    s.Completes (.comparatorWrite n reg v) fun t => s.cmpSet n ∈ t.time.cmps ∧ t.time.t = s.time.t ∧ t.mem = s.mem ∧
      (reg = 0 → bitsOf v.toNat 1 0 ≠ 3 → t.get (F.TIME.CMPCTRL.MODE n) = bitsOf v.toNat 1 0) ∧
      (reg = 0 → bitsOf v.toNat 1 0 = 3 → t.get (F.TIME.CMPCTRL.MODE n) = s.get (F.TIME.CMPCTRL.MODE n)) ∧
      (reg = 0 → t.get (F.TIME.CMPCTRL.IRQ n) = bitsOf v.toNat 2 2 ∧ t.get (F.TIME.CMPCTRL.SPN n) = bitsOf v.toNat 3 3) ∧
      (reg = 1 → t.get (F.TIME.CMPOFS.OFFSET n) = if v.toNat < s.cycleNs then v.toNat else s.get (F.TIME.CMPOFS.OFFSET n)) ∧
      (3 < reg → t.get (F.TIME.CMPABS.ALL n (reg - 3)) = v.toNat) := by
  obtain ⟨hr, ht, hm, hc⟩ := cmpKept_keeps s n
  have htime : ((s.cmpKept n).cmpTake n reg v.toNat).time = (s.cmpKept n).time := (State.cmpTake_eff ..).time rfl
  have hmode := ctrlTaken_mode (s.cmpKept n) n v.toNat
  refine .of_next (exec_comparatorWrite v hn hreg h) ⟨htime ▸ hc, (congrArg TimeBase.t htime).trans ht, ((State.cmpTake_eff ..).mem rfl).trans hm, ?_, ?_, ?_, ?_, fun h3 => cmpTake_abs _ n v h3⟩
  · rintro rfl hv
    rw [cmpTake_ctrl _ _ _ (by simp), hmode, if_neg hv]
  · rintro rfl hv
    rw [cmpTake_ctrl _ _ _ (by simp), hmode, if_pos hv, get_of_regs hr]
  · rintro rfl
    rw [cmpTake_ctrl _ _ _ (by simp), cmpTake_ctrl _ _ _ (by simp)]
    exact ctrlTaken_flags ..
  · rintro rfl
    rw [cmpTake_ofs, get_of_regs hr, SameImage.cycleNs ⟨hm, get_of_regs hr _⟩]

/-! Time steps (R309). -/

theorem lt_laneTick (t : Nat) : t < laneTick t := by
  unfold laneTick tickT
  split <;> omega

/-- The time base after a step to `t1` in the cycle `c1`. -/
def TimeBase.stepped (x : TimeBase) (t1 c1 : Nat) (pass : Bool) : TimeBase := { x with t := t1, grid := c1, floor := t1, cycle := if pass then c1 else x.cycle, step := none }

theorem stepTime_time (s : State) (d : Int) : ∃ (x : TimeBase) (c1 : Nat) (pass : Bool), (s.stepTime d).time = x.stepped (shiftT d s.time.t) c1 pass := by
  have hpass : ∀ (u : State) (b : Bool) (f : Fld), (if b then u.set f 1 else u).time = u.time := fun u b f => by split <;> rfl
  unfold State.stepTime
  extract_lets t1 old noted moved c1 pass missed base stepped front spn counted
  refine ⟨missed.time, c1, pass, ?_⟩
  rw [(State.intervalNote_eff ..).time rfl, State.set_time, hpass]
  rfl

theorem elapsedShift_seqs (s : State) (d : Int) : (s.elapsedShift d).acq.seqs = s.acq.seqs := rfl

theorem stepTime_seqs (s : State) (d : Int) : (s.stepTime d).acq.seqs = s.acq.seqs := by
  have hpass : ∀ (u : State) (b : Bool) (f : Fld), (if b then u.set f 1 else u).acq = u.acq := fun u b f => by split <;> rfl
  have hmissed : ∀ (u : State) (b : Prop) [Decidable b] (a t1 : Nat), (if b then u.missedIn a t1 (List.range 32) else u).acq = u.acq := fun u b _ a t1 => by
    split
    · exact (State.missedIn_eff ..).acq rfl
    · rfl
  have htime : ∀ (u : State) (x : TimeBase), ({ u with time := x } : State).acq = u.acq := fun _ _ => rfl
  have hfront : ∀ (u : State) (y : Spindle) (z : Front), ({ u with spn := y, front := z } : State).acq = u.acq := fun _ _ _ => rfl
  unfold State.stepTime
  extract_lets t1 old noted moved c1 pass missed base stepped front spn counted
  have hmoved : moved.acq.seqs = s.acq.seqs := by
    rw [show moved.acq.seqs = _ from elapsedShift_seqs .., (State.chainsShift_eff ..).acq rfl, (State.pulseShift_eff ..).acq rfl, (State.intervalNote_eff ..).acq rfl]
  have hmiss : missed.acq = moved.acq := hmissed moved _ _ _
  have hcounted : counted.acq = missed.acq := (hfront stepped _ _).trans (htime missed _)
  rw [(State.intervalNote_eff ..).acq rfl, State.set_acq, hpass, hcounted, hmiss, hmoved]

theorem stepAtT_time (s : State) (x : TStep) (t : Nat) :
    (s.stepAtT x t).time.t = shiftT x.amount (max s.time.t t) ∧ (s.stepAtT x t).time.step = none ∧ (s.stepAtT x t).time.floor = (s.stepAtT x t).time.t := by
  obtain ⟨b, c1, pass, h⟩ := stepTime_time (s.advanceTo t).settle x.amount
  rw [State.stepAtT, (State.stepReport_eff ..).time rfl, h, settled_time, advanceTo_t]
  exact ⟨rfl, rfl, rfl⟩

theorem stepAtT_seqs (s : State) (x : TStep) (t : Nat) : (s.stepAtT x t).acq.seqs = s.acq.seqs := by
  rw [State.stepAtT, (State.stepReport_eff ..).acq rfl, stepTime_seqs, (State.settle_eff _).acq rfl, (State.advanceTo_eff ..).acq rfl]

theorem seqsSkip_nil (s : State) (qs : List ShotSeq) : (s.seqsSkip qs).acq.seqs = [] := by
  have hend : ∀ u : State, ({ u with acq := { u.acq with seqs := [] } } : State).acq.seqs = [] := fun _ => rfl
  induction qs generalizing s with
  | nil =>
    rw [State.seqsSkip, (State.seqShow_eff _).acq rfl]
  | cons q qs ih =>
    rw [State.seqsSkip]
    exact ih _

theorem timeStepApply_soon {s : State} {x : TStep} (hx : s.time.step = some x) (h : (s.acq.seqs.isEmpty && !s.matchNear (laneTick s.time.t) && decide (laneTick s.time.t ≤ x.latest)) = true) :
    s.Completes .timeStepApply fun t => t.time.t = shiftT x.amount (laneTick s.time.t) ∧ t.time.step = none ∧ t.time.floor = t.time.t := by
  have he : exec .timeStepApply s = .next (s.stepAtT x (laneTick s.time.t)) := by
    show execTimeStepApply s = _
    rw [execTimeStepApply, hx]
    exact congrArg Host.Outcome.next (if_pos h)
  obtain ⟨ht, hstep, hfloor⟩ := stepAtT_time s x (laneTick s.time.t)
  exact .of_next he ⟨by rw [ht, Nat.max_eq_right (Nat.le_of_lt (lt_laneTick _))], hstep, hfloor⟩

theorem exec_timeStepApply_waits {s : State} {x : TStep} (hx : s.time.step = some x) (h : (s.acq.seqs.isEmpty && !s.matchNear (laneTick s.time.t) && decide (laneTick s.time.t ≤ x.latest)) = false)
    (hw : s.stepWaits x = true) : exec .timeStepApply s = .next s := by
  show execTimeStepApply s = _
  rw [execTimeStepApply, hx]
  dsimp only
  rw [if_neg (by rw [h]; decide), if_pos hw]

theorem timeStepApply_late {s : State} {x : TStep} (hx : s.time.step = some x) (h : (s.acq.seqs.isEmpty && !s.matchNear (laneTick s.time.t) && decide (laneTick s.time.t ≤ x.latest)) = false)
    (hw : s.stepWaits x = false) : s.Completes .timeStepApply fun t => t.time.t = shiftT x.amount (max s.time.t x.latest) ∧ t.time.step = none ∧ t.acq.seqs = [] := by
  have he : exec .timeStepApply s = .next (((s.advanceTo x.latest).settle.seqsSkip s.acq.seqs).stepAtT x x.latest) := by
    show execTimeStepApply s = _
    rw [execTimeStepApply, hx]
    dsimp only
    rw [if_neg (by rw [h]; decide), if_neg (by rw [hw]; decide)]
  obtain ⟨ht, hstep, -⟩ := stepAtT_time ((s.advanceTo x.latest).settle.seqsSkip s.acq.seqs) x x.latest
  refine .of_next he ⟨?_, hstep, (stepAtT_seqs ..).trans (seqsSkip_nil ..)⟩
  rw [ht, (State.seqsSkip_eff ..).time rfl, settled_time, advanceTo_t, Nat.max_assoc, Nat.max_self]

theorem exec_timeStepApply_none {s : State} (h : s.time.step = none) : exec .timeStepApply s = .next s := by
  show execTimeStepApply s = _
  rw [execTimeStepApply, h]

/-- Settles O37: each command by what it makes of the time base, which nothing that follows an instant, a match or a step changes. -/
theorem gridAndMatches : Obligations.GridAndMatches := by
  intro s n reg tm c late x v hn hreg
  exact ⟨fun h => triggerMatch_marks hn h, fun h => exec_triggerMatch_none hn h, fun h => exec_comparatorWrite_locked v hn hreg h, fun h => comparatorWrite_takes v hn hreg h, fun h => cycleInstant_fires h,
    fun h => exec_cycleInstant_still h, fun hx h => timeStepApply_soon hx h, fun hx h hw => exec_timeStepApply_waits hx h hw, fun hx h hw => timeStepApply_late hx h hw, fun h => exec_timeStepApply_none h⟩

end Sys2Proof.Machine
end

section
/-! PROOFS. Sapwood's counters and watchdog (R448 to R458). -/

namespace Sys2Proof.Machine

/-! A counter that matches or ends a period says so in its STATUS (R449, R450). -/

theorem listSet_eq {α : Type} (l : List α) (i : Nat) (v : α) : listSet l i v = l.set i v := by
  induction l generalizing i with
  | nil => rfl
  | cons x l ih =>
    cases i with
    | zero => rfl
    | succ i => exact congrArg (x :: ·) (ih i)

theorem listGet_eq {α : Type} (d : α) (l : List α) (i : Nat) : listGet d l i = (l[i]?).getD d := by
  induction l generalizing i with
  | nil => rfl
  | cons x l ih =>
    cases i with
    | zero => rfl
    | succ i => exact (ih i).trans (by simp)

/-- Counter i of a group, replaced. -/
def TcGroup.put (x : TcGroup) (i : Nat) (y : Tc) : TcGroup := { x with cs := listSet x.cs i y }

theorem put_length (x : TcGroup) (i : Nat) (y : Tc) : (x.put i y).cs.length = x.cs.length := by
  show (listSet x.cs i y).length = _
  rw [listSet_eq, List.length_set]

theorem put_same (x : TcGroup) {i : Nat} (y : Tc) (h : i < x.cs.length) : (x.put i y).c i = y := by
  show listGet _ (listSet x.cs i y) i = y
  rw [listGet_eq, listSet_eq, List.getElem?_set_self h]
  rfl

theorem put_other (x : TcGroup) {i j : Nat} (y : Tc) (h : i ≠ j) : (x.put i y).c j = x.c j := by
  show listGet _ (listSet x.cs i y) j = _
  rw [listGet_eq, listSet_eq, List.getElem?_set_ne h, ← listGet_eq]
  rfl

/-- The matches and period ends of the tick so far stand in the counters' flags. -/
structure TcGroup.Marked (x : TcGroup) : Prop where
  mat : ∀ i, i ∈ x.mat → (x.c i).sCmp = true
  per : ∀ i, i ∈ x.per → (x.c i).sPer = true

/-- A counter that keeps its flags may be replaced. -/
theorem TcGroup.Marked.put {x : TcGroup} (h : x.Marked) {i : Nat} {y : Tc} (hi : i < x.cs.length) (hc : (x.c i).sCmp = true → y.sCmp = true) (hp : (x.c i).sPer = true → y.sPer = true) : (x.put i y).Marked := by
  refine ⟨fun j hj => ?_, fun j hj => ?_⟩
  · by_cases hij : i = j
    · subst hij
      rw [put_same x y hi]
      exact hc (h.mat i hj)
    · rw [put_other x y hij]
      exact h.mat j hj
  · by_cases hij : i = j
    · subst hij
      rw [put_same x y hi]
      exact hp (h.per i hj)
    · rw [put_other x y hij]
      exact h.per j hj

/-- The matches and period ends with one of counter i, where there is one. -/
def TcGroup.noted (x : TcGroup) (i : Nat) (m p : Bool) : TcGroup := { x with mat := if m then i :: x.mat else x.mat, per := if p then i :: x.per else x.per }

theorem TcGroup.Marked.noted {x : TcGroup} (h : x.Marked) {i : Nat} {m p : Bool} (hm : m = true → (x.c i).sCmp = true) (hp : p = true → (x.c i).sPer = true) : (x.noted i m p).Marked := by
  refine ⟨fun j hj => ?_, fun j hj => ?_⟩
  · cases m with
    | false => exact h.mat j hj
    | true =>
      obtain rfl | hj := List.mem_cons.1 hj
      · exact hm rfl
      · exact h.mat j hj
  · cases p with
    | false => exact h.per j hj
    | true =>
      obtain rfl | hj := List.mem_cons.1 hj
      · exact hp rfl
      · exact h.per j hj

theorem move_form (x : TcGroup) (i : Nat) (ev : List Nat) : ∃ (y : Tc) (m p : Bool), (x.move i ev).1 = (x.put i y).noted i m p ∧ y.sCmp = ((x.c i).sCmp || m) ∧ y.sPer = ((x.c i).sPer || p) :=
  ⟨_, _, _, rfl, rfl, rfl⟩

theorem move_marked {x : TcGroup} (h : x.Marked) {i : Nat} (hi : i < x.cs.length) (ev : List Nat) : (x.move i ev).1.Marked ∧ (x.move i ev).1.cs.length = x.cs.length := by
  obtain ⟨y, m, p, hx, hc, hp⟩ := move_form x i ev
  rw [hx]
  refine ⟨(h.put hi (fun h => by rw [hc, h]; rfl) (fun h => by rw [hp, h]; rfl)).noted (fun hm => ?_) (fun hm => ?_), put_length x i y⟩
  · rw [put_same x y hi, hc, hm, Bool.or_true]
  · rw [put_same x y hi, hp, hm, Bool.or_true]

theorem zero_marked {x : TcGroup} (h : x.Marked) {i : Nat} (hi : i < x.cs.length) : (x.zero i).Marked ∧ (x.zero i).cs.length = x.cs.length :=
  ⟨TcGroup.Marked.put h hi (fun h => h) (fun h => h), put_length x i _⟩

/-- A group whose flags hold its marks, with as many counters as `x`. -/
def TcGroup.Follows (x : TcGroup) (r : TcGroup × List Nat) : Prop := r.1.Marked ∧ r.1.cs.length = x.cs.length

theorem TcGroup.Follows.ite {x : TcGroup} {r r' : TcGroup × List Nat} {c : Prop} [Decidable c] (h1 : x.Follows r) (h2 : x.Follows r') : x.Follows (if c then r else r') := by
  split <;> assumption

theorem act_marked {x : TcGroup} (h : x.Marked) {i : Nat} (hi : i < x.cs.length) (ev : List Nat) : x.Follows (x.act i ev) := by
  have hs : x.Follows (x, ev) := ⟨h, rfl⟩
  have hz : x.Follows (x.zero i, ev) := zero_marked h hi
  have hm : x.Follows (x.move i ev) := move_marked h hi ev
  unfold TcGroup.act
  exact .ite hs (.ite hz (.ite (.ite hm hs) (.ite hs (.ite hs hm))))

theorem acts_marked {x : TcGroup} (h : x.Marked) {n i : Nat} (hi : i + n ≤ x.cs.length) (ev : List Nat) : x.Follows (x.acts n i ev) := by
  induction n generalizing x i ev with
  | zero => exact ⟨h, rfl⟩
  | succ n ih =>
    obtain ⟨hm, hl⟩ := act_marked h (i := i) (by omega) ev
    obtain ⟨hm', hl'⟩ := ih hm (i := i + 1) (by omega) (x.act i ev).2
    rw [TcGroup.acts]
    exact ⟨hm', hl'.trans hl⟩

/-- A group before a tick, with the marks of the last one gone. -/
def TcGroup.fresh (x : TcGroup) : TcGroup := { x with mat := [], per := [] }

theorem fresh_marked (x : TcGroup) : x.fresh.Marked := ⟨fun _ hi => absurd hi (List.not_mem_nil), fun _ hi => absurd hi (List.not_mem_nil)⟩

theorem fresh_cs (x : TcGroup) : x.fresh.cs = x.cs := rfl

/-- The events of a tick reach the counters of lower index at the next one. -/
def TcGroup.lateTo (r : TcGroup × List Nat) : TcGroup := { r.1 with late := r.2 }

theorem tick_eq (x : TcGroup) : x.tick = TcGroup.lateTo (x.fresh.acts 8 0 []) := by
  simp only [TcGroup.tick, TcGroup.lateTo, TcGroup.fresh]

theorem lateTo_marked {r : TcGroup × List Nat} (h : r.1.Marked) : (TcGroup.lateTo r).Marked := ⟨h.mat, h.per⟩

theorem lateTo_cs (r : TcGroup × List Nat) : (TcGroup.lateTo r).cs = r.1.cs := rfl

theorem tick_marked {x : TcGroup} (h : x.cs.length = 8) : x.tick.Marked ∧ x.tick.cs.length = 8 := by
  obtain ⟨hm, hl⟩ := acts_marked (fresh_marked x) (n := 8) (i := 0) (by rw [fresh_cs, h]) []
  rw [tick_eq, lateTo_cs, hl, fresh_cs]
  exact ⟨lateTo_marked hm, h⟩

theorem find_marked {per : Bool} {i f n m : Nat} {x y : TcGroup} (hx : x.cs.length = 8) (h : x.find per i f n = some (m, y)) : if per then (y.c i).sPer = true else (y.c i).sCmp = true := by
  induction f generalizing n x with
  | zero => exact absurd h (by simp [TcGroup.find])
  | succ f ih =>
    obtain ⟨hm, hl⟩ := tick_marked hx
    rw [TcGroup.find] at h
    by_cases hin : (if per then x.tick.per else x.tick.mat).contains i = true
    · rw [if_pos hin] at h
      simp only [Option.some.injEq, Prod.mk.injEq] at h
      rw [← h.2]
      cases per with
      | true => exact hm.per i (List.contains_iff_mem.1 hin)
      | false => exact hm.mat i (List.contains_iff_mem.1 hin)
    · rw [if_neg hin] at h
      by_cases hs : x.tick = x
      · rw [if_pos hs] at h
        exact absurd h (by simp)
      · rw [if_neg hs] at h
        exact ih hl h

/-! The registers of a group. -/

/-- The registers that a counter's move writes. -/
def tcAt (g i a : Nat) : Bool := a == (F.TMR.COUNT.COUNT g i).addr || a == (F.TMR.STATUS.CMP g i).addr

theorem tmr_notIc {g k : Nat} (hg : g < 4) (hk : k < 0x1000) : icRegs (tmrBase g + k) = false := by
  simp only [icRegs, tmrBase, Bool.or_eq_false_iff, Bool.and_eq_false_iff, decide_eq_false_iff_not, beq_eq_false_iff_ne]
  omega

theorem tcPut_rw (s : State) (g i : Nat) (x : Tc) {a : Nat} (h : tcAt g i a = false) : (s.tcPut g i x).rw a = s.rw a := by
  simp only [tcAt, Bool.or_eq_false_iff, beq_eq_false_iff_ne] at h
  have hb : ∀ (u : State) (hi lo : Nat) (b : Bool), (u.setB ⟨tmrBase g + 0x10 + 0x20 * i, hi, lo⟩ b).rw a = u.rw a := fun u _ _ _ => rw_set u _ _ h.2
  rw [State.tcPut, hb, hb, hb, hb, rw_set _ _ _ h.1]

theorem tcPuts_rw (s : State) (g : Nat) (x : TcGroup) (is : List Nat) {a : Nat} (hic : icRegs a = false) (h : ∀ i, i ∈ is → tcAt g i a = false) : (s.tcPuts g x is).rw a = s.rw a := by
  induction is generalizing s with
  | nil => rfl
  | cons i is ih =>
    rw [State.tcPuts, ih _ fun j hj => h j (List.mem_cons_of_mem i hj), icSample_regs _ _ _ a hic, tcPut_rw _ _ _ _ (h i List.mem_cons_self)]

/-- A counter's registers show it. -/
def State.Shows (s : State) (g m : Nat) (y : Tc) : Prop :=
  s.get (F.TMR.COUNT.COUNT g m) = y.count % 2 ^ 32 ∧ s.on (F.TMR.STATUS.CMP g m) = y.sCmp ∧ s.on (F.TMR.STATUS.PER g m) = y.sPer ∧ s.on (F.TMR.STATUS.OUT g m) = y.out ∧ s.on (F.TMR.STATUS.DIR g m) = y.dir

theorem State.Shows.of_rw {s t : State} {g m : Nat} {y : Tc} (h : s.Shows g m y) (h1 : t.rw (F.TMR.COUNT.COUNT g m).addr = s.rw (F.TMR.COUNT.COUNT g m).addr)
    (h2 : t.rw (F.TMR.STATUS.CMP g m).addr = s.rw (F.TMR.STATUS.CMP g m).addr) : t.Shows g m y := by
  have hf : ∀ hi lo : Nat, t.on ⟨tmrBase g + 0x10 + 0x20 * m, hi, lo⟩ = s.on ⟨tmrBase g + 0x10 + 0x20 * m, hi, lo⟩ := fun hi lo => by rw [State.on, State.on, State.get, State.get, h2]
  obtain ⟨hc, hm, hp, ho, hd⟩ := h
  exact ⟨by rw [← hc, State.get, State.get, h1], (hf _ _).trans hm, (hf _ _).trans hp, (hf _ _).trans ho, (hf _ _).trans hd⟩

theorem on_setB_disj (s : State) {f g : Fld} (b : Bool) (hg : g.hi < 32) (h : g.hi < f.lo ∨ f.hi < g.lo) : (s.setB f b).on g = s.on g := congrArg (· != 0) (get_set_disj s _ hg h)

theorem tcPut_shows (s : State) (g m : Nat) (y : Tc) : (s.tcPut g m y).Shows g m y := by
  have hc : ∀ (u : State) (hi lo : Nat) (b : Bool), (u.setB ⟨tmrBase g + 0x10 + 0x20 * m, hi, lo⟩ b).get (F.TMR.COUNT.COUNT g m) = u.get (F.TMR.COUNT.COUNT g m) := fun u _ _ _ => get_set_addr u _ (by simp)
  refine ⟨?_, ?_, ?_, ?_, ?_⟩
  · rw [State.tcPut, hc, hc, hc, hc]
    exact get_set _ _ _ (by simp)
  · rw [State.tcPut, on_setB_disj _ _ (by simp) (by simp), on_setB_disj _ _ (by simp) (by simp), on_setB_disj _ _ (by simp) (by simp)]
    exact on_setB _ _ _ (by simp) rfl
  · rw [State.tcPut, on_setB_disj _ _ (by simp) (by simp), on_setB_disj _ _ (by simp) (by simp)]
    exact on_setB _ _ _ (by simp) rfl
  · rw [State.tcPut, on_setB_disj _ _ (by simp) (by simp)]
    exact on_setB _ _ _ (by simp) rfl
  · rw [State.tcPut]
    exact on_setB _ _ _ (by simp) rfl

theorem tcAt_other {g i m : Nat} (h : i ≠ m) : tcAt g i (F.TMR.COUNT.COUNT g m).addr = false ∧ tcAt g i (F.TMR.STATUS.CMP g m).addr = false := by
  simp only [tcAt, Bool.or_eq_false_iff, beq_eq_false_iff_ne]
  omega

theorem tcPuts_shows (s : State) (g : Nat) (x : TcGroup) {is : List Nat} {m : Nat} (hg : g < 4) (hm8 : m < 8) (hnd : is.Nodup) (hm : m ∈ is) : (s.tcPuts g x is).Shows g m (x.c m) := by
  have hic : icRegs (F.TMR.COUNT.COUNT g m).addr = false ∧ icRegs (F.TMR.STATUS.CMP g m).addr = false := ⟨by
    rw [show (F.TMR.COUNT.COUNT g m).addr = tmrBase g + (4 + 0x20 * m) by simp only; omega]
    exact tmr_notIc hg (by omega), by
    rw [show (F.TMR.STATUS.CMP g m).addr = tmrBase g + (0x10 + 0x20 * m) by simp only; omega]
    exact tmr_notIc hg (by omega)⟩
  induction is generalizing s with
  | nil => exact absurd hm List.not_mem_nil
  | cons i is ih =>
    rw [State.tcPuts]
    obtain ⟨hni, hnd⟩ := List.nodup_cons.1 hnd
    by_cases him : i = m
    · subst him
      have hother : ∀ j, j ∈ is → j ≠ i := fun j hj hji => hni (hji ▸ hj)
      refine ((tcPut_shows s g i (x.c i)).of_rw ?_ ?_).of_rw (tcPuts_rw _ _ _ _ hic.1 fun j hj => (tcAt_other (hother j hj)).1) (tcPuts_rw _ _ _ _ hic.2 fun j hj => (tcAt_other (hother j hj)).2)
      · exact icSample_regs _ _ _ _ hic.1
      · exact icSample_regs _ _ _ _ hic.2
    · exact ih _ hnd ((List.mem_cons.1 hm).resolve_left fun h => him h.symm)

/-! Matches and period ends. -/

/-- Group g's place in time. -/
def State.grpAt (s : State) (g : Nat) (p : TmrGrp) : State := { s with tmr := { s.tmr with grps := alSet s.tmr.grps g p } }

theorem tmrStore_eq (s : State) (g at_ ph : Nat) (x : TcGroup) : s.tmrStore g at_ ph x = (s.grpAt g { at_ := at_, ph := ph, late := x.late }).tcPuts g x (List.range 8) := rfl

theorem tmrNext_shows {s : State} {per : Bool} {g i n m : Nat} {x : TcGroup} (hg : g < 4) (hi : i < 8) (hm : m < 8) (h : (s.tmrLoad g).find per i (2 ^ 80) 0 = some (n, x)) :
    (s.tmrNext per g i).Shows g m (x.c m) ∧ if per then (s.tmrNext per g i).on (F.TMR.STATUS.PER g i) = true else (s.tmrNext per g i).on (F.TMR.STATUS.CMP g i) = true := by
  have hshow : ∀ (u : State) (at_ : Nat) {k : Nat}, k < 8 → (u.tmrStore g at_ 0 x).Shows g k (x.c k) := fun u at_ k hk => by
    rw [tmrStore_eq]
    exact tcPuts_shows _ g x hg hk List.nodup_range (List.mem_range.2 hk)
  have hmark := find_marked (x := s.tmrLoad g) (by simp [State.tmrLoad]) h
  unfold State.tmrNext
  rw [h]
  dsimp only
  refine ⟨hshow _ _ hm, ?_⟩
  obtain ⟨-, hcmp, hper, -, -⟩ := hshow ((s.advancePlls ((s.tmrGrp g).at_ + n * s.tmrDiv g - (s.tmrGrp g).ph - s.sapPlls)).settle) ((s.tmrGrp g).at_ + n * s.tmrDiv g - (s.tmrGrp g).ph) hi
  cases per with
  | true => exact hper.trans hmark
  | false => exact hcmp.trans hmark

theorem exec_compareMatch {s : State} {g i : Nat} (hg : g < 4) (hi : i < 8) (hr : s.tmrRuns = true) : exec (.compareMatch g i) s = .next (s.tmrNext false g i) :=
  (exec_guardUnit rfl (by simp [Instr.wf, hg, hi])).trans (congrArg Host.Outcome.next (if_pos hr))

theorem exec_periodEnd {s : State} {g i : Nat} (hg : g < 4) (hi : i < 8) (hr : s.tmrRuns = true) : exec (.periodEnd g i) s = .next (s.tmrNext true g i) :=
  (exec_guardUnit rfl (by simp [Instr.wf, hg, hi])).trans (congrArg Host.Outcome.next (if_pos hr))

/-! START and STOP (R457). -/

theorem tmrRun_on (s : State) (g mask : Nat) (b : Bool) (is : List Nat) (m : Nat) :
    (s.tmrRun g mask b is).on (F.TMR.CTRL.RUN g m) = if m ∈ is ∧ bitsOf mask m m = 1 then b else s.on (F.TMR.CTRL.RUN g m) := by
  induction is generalizing s with
  | nil => simp [State.tmrRun]
  | cons i is ih =>
    rw [State.tmrRun, ih]
    by_cases him : i = m
    · subst him
      by_cases hb : bitsOf mask i i = 1
      · have hon : (s.setB (F.TMR.CTRL.RUN g i) b).on (F.TMR.CTRL.RUN g i) = b := on_setB _ _ _ (by simp) rfl
        simp only [hb, if_true, hon, List.mem_cons_self, and_self, ite_self]
      · simp only [hb, and_false, if_false]
    · have hkeep : (if bitsOf mask i i = 1 then s.setB (F.TMR.CTRL.RUN g i) b else s).on (F.TMR.CTRL.RUN g m) = s.on (F.TMR.CTRL.RUN g m) := by
        split
        · exact on_set_addr _ _ (by simp only; omega)
        · rfl
      rw [hkeep]
      simp only [List.mem_cons, Ne.symm him, false_or]

theorem mask_bit {v : Word} {m : Nat} (hm : m < 8) : bitsOf (bitsOf v.toNat 7 0) m m = 1 ↔ v.toNat.testBit m = true := by
  have hb : (bitsOf v.toNat 7 0).testBit m = v.toNat.testBit m := by
    rw [testBit_bitsOf, Nat.zero_add, decide_eq_true (by omega), Bool.true_and]
  cases hv : v.toNat.testBit m with
  | false => simp [bitsOf_bit_zero (hb.trans hv)]
  | true => simp [bitsOf_bit_one (hb.trans hv)]

theorem tmrSync_run (s : State) {g m : Nat} (hg : g < 4) (hm : m < 8) : (s.tmrSync g).on (F.TMR.CTRL.RUN g m) = s.on (F.TMR.CTRL.RUN g m) := by
  have hreg : ∀ (u : State) (at_ ph : Nat) (x : TcGroup), (u.tmrStore g at_ ph x).rw (F.TMR.CTRL.RUN g m).addr = u.rw (F.TMR.CTRL.RUN g m).addr := fun u at_ ph x => by
    have hk : ∀ p : TmrGrp, (u.grpAt g p).rw (F.TMR.CTRL.RUN g m).addr = u.rw (F.TMR.CTRL.RUN g m).addr := fun _ => rfl
    rw [tmrStore_eq, tcPuts_rw _ _ _ _ (tmr_notIc hg (by omega)) fun i _ => by simp only [tcAt, Bool.or_eq_false_iff, beq_eq_false_iff_ne]; omega, hk]
  rw [State.on, State.on, State.get, State.get, State.tmrSync, hreg]

theorem tmrStart_runs {s : State} {g m : Nat} (v : Word) (hg : g < 4) (hm : m < 8) (hr : s.domRuns 1 = true) :
    s.Completes (.tmrStart g v) fun t => t.on (F.TMR.CTRL.RUN g m) = (v.toNat.testBit m || s.on (F.TMR.CTRL.RUN g m)) ∧ t.mem = s.mem ∧ t.time = s.time := by
  have he : exec (.tmrStart g v) s = .next ((s.tmrSync g).tmrRun g (bitsOf v.toNat 7 0) true (List.range 8)) :=
    (exec_guardUnit rfl (by simp [Instr.wf, hg])).trans (congrArg Host.Outcome.next (if_pos hr))
  refine .of_next he ⟨?_, ((State.tmrRun_eff ..).mem rfl).trans ((State.tmrSync_eff ..).mem rfl), ((State.tmrRun_eff ..).time rfl).trans ((State.tmrSync_eff ..).time rfl)⟩
  rw [tmrRun_on, tmrSync_run s hg hm]
  simp only [List.mem_range, hm, true_and, mask_bit hm]
  cases v.toNat.testBit m <;> rfl

theorem tmrStop_stops {s : State} {g m : Nat} (v : Word) (hg : g < 4) (hm : m < 8) (hr : s.domRuns 1 = true) :
    s.Completes (.tmrStop g v) fun t => t.on (F.TMR.CTRL.RUN g m) = (!v.toNat.testBit m && s.on (F.TMR.CTRL.RUN g m)) ∧ t.mem = s.mem ∧ t.time = s.time := by
  have he : exec (.tmrStop g v) s = .next ((s.tmrSync g).tmrRun g (bitsOf v.toNat 7 0) false (List.range 8)) :=
    (exec_guardUnit rfl (by simp [Instr.wf, hg])).trans (congrArg Host.Outcome.next (if_pos hr))
  refine .of_next he ⟨?_, ((State.tmrRun_eff ..).mem rfl).trans ((State.tmrSync_eff ..).mem rfl), ((State.tmrRun_eff ..).time rfl).trans ((State.tmrSync_eff ..).time rfl)⟩
  rw [tmrRun_on, tmrSync_run s hg hm]
  simp only [List.mem_range, hm, true_and, mask_bit hm]
  cases v.toNat.testBit m <;> rfl

/-! The watchdog (R458). -/

theorem exec_wdtKick_other {s : State} {v : Word} (h : v.toNat % 65536 ≠ 0x5744 ∨ s.domRuns 1 = false) : exec (.wdtKick v) s = .next s := by
  refine congrArg Host.Outcome.next (if_neg fun hk => ?_)
  obtain ⟨hkey, hr⟩ := hk
  rw [bitsOf, Nat.pow_zero, Nat.div_one] at hkey
  exact h.elim (fun h => h hkey) fun h => absurd (h.symm.trans hr) Bool.false_ne_true

/-- The watchdog counts from now. -/
def State.wdtFromNow (s : State) : State := { s with tmr := { s.tmr with wdtAt := s.sapPlls, pauseAt := s.tmr.pauseAt.map fun _ => s.sapPlls } }

theorem wdtKick_restarts {s : State} {v : Word} (hk : v.toNat % 65536 = 0x5744) (hr : s.domRuns 1 = true) :
    s.Completes (.wdtKick v) fun t => t.get F.TMR.WDT_STAT.ELAPSED = 0 ∧ t.tmr.wdtAt = s.sapPlls ∧ t.tmr.grps = s.tmr.grps ∧ t.mem = s.mem := by
  have hf : s.wdtFromNow.tmr.wdtAt = s.sapPlls ∧ s.wdtFromNow.tmr.grps = s.tmr.grps ∧ s.wdtFromNow.mem = s.mem := ⟨rfl, rfl, rfl⟩
  have he : exec (.wdtKick v) s = .next (s.wdtFromNow.set F.TMR.WDT_STAT.ELAPSED 0) := congrArg Host.Outcome.next (if_pos ⟨by rw [bitsOf, Nat.pow_zero, Nat.div_one]; exact hk, hr⟩)
  refine .of_next he ⟨get_set _ _ _ (by decide), ?_, ?_, ?_⟩
  · rw [State.set_tmr, hf.1]
  · rw [State.set_tmr, hf.2.1]
  · rw [State.set_mem, hf.2.2]

theorem wdtWarn_warns {s : State} (hr : s.wdtRuns = true) (h0 : s.get F.TMR.WDT_CFG.WARN ≠ 0) (hl : s.get F.TMR.WDT_CFG.WARN < s.get F.TMR.WDT_CFG.LIMIT)
    (hw : s.get F.TMR.WDT_STAT.ELAPSED < s.get F.TMR.WDT_CFG.WARN) : s.Completes .wdtWarn fun t => t.on F.TMR.WDT_STAT.WARNED = true ∧ t.get F.TMR.WDT_STAT.ELAPSED = s.get F.TMR.WDT_CFG.WARN := by
  have he : exec .wdtWarn s = .next (((s.wdtTo (s.get F.TMR.WDT_CFG.WARN)).set F.TMR.WDT_STAT.WARNED 1).icEdge 1 1) := congrArg Host.Outcome.next (if_pos (by simp [hr, h0, hl, hw]))
  refine .of_next he ⟨((icEdge_regs _ _ _).on rfl).trans (on_set_one _ _ (by decide) rfl), ?_⟩
  rw [(icEdge_regs _ _ _).get rfl, get_set_disj _ _ (by decide) (by decide), State.wdtTo]
  exact (get_set _ _ _ (by decide)).trans (Nat.mod_eq_of_lt (get_lt s F.TMR.WDT_CFG.WARN))

theorem beforeClassS_bare (s : State) : s.beforeClassS.mac = [] ∧ s.beforeClassS.sic = Ic.reset ∧ s.beforeClassS.mem = dropCells isSRam ((s.gwDiscard.eraseCut 1).relock 1).mem := ⟨rfl, rfl, rfl⟩

theorem resetS_bare (s : State) (cause : Nat) : (s.resetS cause).mac = [] ∧ (s.resetS cause).sic = Ic.reset ∧ ∀ a, isSRam a = true → (s.resetS cause).ldB a = memDefault a := by
  have hc : ∀ u : State, (u.classRegs keepsS).mac = u.mac ∧ (u.classRegs keepsS).sic = u.sic ∧ (u.classRegs keepsS).mem = u.mem := fun _ => ⟨rfl, rfl, rfl⟩
  obtain ⟨hmac, hsic, hmem⟩ := beforeClassS_bare s
  refine ⟨?_, ?_, fun a ha => ?_⟩
  · rw [resetS_eq, (State.seasonUpdate_eff _).mac rfl, State.set_mac, State.set_mac, (hc _).1, hmac]
  · rw [resetS_eq, (State.seasonUpdate_eff _).sic rfl, State.set_sic, State.set_sic, (hc _).2.1, hsic]
  · rw [State.ldB, resetS_eq, (State.seasonUpdate_eff _).mem rfl, State.set_mem, State.set_mem, (hc _).2.2, hmem, spGet, dropCells, alFind_filter_keys (fun k => !isSRam k), ha]
    rfl

theorem wdtLimit_resets {s : State} (hr : s.wdtRuns = true) :
    s.Completes .wdtLimit fun t => t.on F.SEASON.SRST_CAUSE.WDT = true ∧ t.cores = [] ∧ t.mac = [] ∧ t.sic = Ic.reset ∧ t.host = State.reset.host ∧
      (∀ a, isSRam a = true → t.ldB a = memDefault a) ∧ t.sealc = s.sealc := by
  have he : exec .wdtLimit s = .next ((s.wdtTo (s.get F.TMR.WDT_CFG.LIMIT)).resetS 2) := congrArg Host.Outcome.next (if_pos hr)
  obtain ⟨hcores, hhost⟩ := resetS_cleared (s.wdtTo (s.get F.TMR.WDT_CFG.LIMIT)) 2
  obtain ⟨hmac, hsic, hmem⟩ := resetS_bare (s.wdtTo (s.get F.TMR.WDT_CFG.LIMIT)) 2
  exact .of_next he ⟨resetS_cause _ 2, hcores, hmac, hsic, hhost, hmem, ((State.resetS_eff ..).sealc rfl).trans ((State.wdtTo_eff ..).sealc rfl)⟩

/-- Settles O38: the group that `find` answers is what the registers then show, its marks among the flags; START, STOP and the watchdog by the one register that each writes. -/
theorem counters : Obligations.Counters := by
  refine ⟨fun s g i n m x v hg hi hm => ⟨fun hr h => ?_, fun hr h => ?_, fun hr => tmrStart_runs v hg hm hr, fun hr => tmrStop_stops v hg hm hr⟩,
    fun s v => ⟨fun hk hr => wdtKick_restarts hk hr, fun h => exec_wdtKick_other h, fun hr h0 hl hw => wdtWarn_warns hr h0 hl hw, fun hr => wdtLimit_resets hr⟩⟩
  · exact .of_next (exec_compareMatch hg hi hr) (tmrNext_shows hg hi hm h)
  · exact .of_next (exec_periodEnd hg hi hr) (tmrNext_shows hg hi hm h)

end Sys2Proof.Machine
end

section
/-! PROOFS. Scrubbing, parity and the HSC watchdog's key (R394 to R397). -/

namespace Sys2Proof.Machine

/-! The key of the HSC watchdog (R394). -/

theorem wdtKey_iff (v : Word) : bitsOf v.toNat 15 0 = 0x4B1D ↔ v.toNat % 65536 = 0x4B1D := by
  rw [bitsOf, Nat.pow_zero, Nat.div_one]
  exact Iff.rfl

/-- The HSC watchdog counts from now. -/
def State.hscWdtNow (s : State) : State := { s with wdt := { hscAt := s.time.t, hscPause := s.wdt.hscPause.map fun _ => s.time.t } }

theorem exec_hscWdtKick {s : State} {v : Word} (h : v.toNat % 65536 = 0x4B1D) : exec (.hscWdtKick v) s = .next s.hscWdtNow := congrArg Host.Outcome.next (if_pos ((wdtKey_iff v).2 h))

theorem exec_hscWdtKick_other {s : State} {v : Word} (h : v.toNat % 65536 ≠ 0x4B1D) : exec (.hscWdtKick v) s = .next s := congrArg Host.Outcome.next (if_neg fun hk => h ((wdtKey_iff v).1 hk))

/-! The scrubber (R396). -/

theorem exec_scrub_corrected {s : State} {mem addr : Nat} (hw : Instr.wf (.scrub mem addr 1) = true) (hs : s.scrubs mem addr = true) : exec (.scrub mem addr 1) s = .next s.eccCorr :=
  (exec_guardUnit rfl hw).trans (congrArg Host.Outcome.next (by rw [hs]; rfl))

theorem eccCorr_counts (s : State) : s.eccCorr.get F.FLT.ECC.CORR = min F.FLT.ECC.CORR.max (s.get F.FLT.ECC.CORR + 1) ∧ s.eccCorr = { s with regs := s.eccCorr.regs } ∧
    ∀ a, a ≠ F.FLT.ECC.CORR.addr → s.eccCorr.rw a = s.rw a := ⟨get_sat _ _ _ (by decide), rfl, fun _ ha => rw_set _ _ _ ha⟩

/-- A word left uncorrectable. -/
def State.leftBad (s : State) (a : Nat) : State := if s.badIn a 8 then s else { s with flt := { s.flt with uncorr := a :: s.flt.uncorr } }

theorem leftBad_bad (s : State) (a : Nat) : (s.leftBad a).badIn a 8 = true := by
  unfold State.leftBad
  split
  next h => exact h
  next =>
    have hw : (decide (a ≤ a + 7) && decide (a < a + 8)) = true := by simp
    show List.any (a :: s.flt.uncorr) _ = true
    rw [List.any_cons, hw, Bool.true_or]

theorem leftBad_keeps (s : State) (a : Nat) : (s.leftBad a).mem = s.mem ∧ (s.leftBad a).pairs = s.pairs := by
  unfold State.leftBad
  split <;> exact ⟨rfl, rfl⟩

theorem exec_scrub_uncorrectable {s : State} {mem addr : Nat} (hw : Instr.wf (.scrub mem addr 2) = true) (hs : s.scrubs mem addr = true) :
    exec (.scrub mem addr 2) s = .next ((s.eccUncorr mem addr (scrubRegion mem addr)).leftBad (scrubAt mem addr)) :=
  (exec_guardUnit rfl hw).trans (congrArg Host.Outcome.next (by rw [hs]; rfl))

theorem scrub_leaves {s : State} {mem addr : Nat} (hw : Instr.wf (.scrub mem addr 2) = true) (hs : s.scrubs mem addr = true) :
    s.Completes (.scrub mem addr 2) fun t => t.badIn (scrubAt mem addr) 8 = true ∧ t.mem = s.mem ∧ t.pairs = s.pairs := by
  obtain ⟨hm, hp⟩ := leftBad_keeps (s.eccUncorr mem addr (scrubRegion mem addr)) (scrubAt mem addr)
  exact .of_next (exec_scrub_uncorrectable hw hs) ⟨leftBad_bad .., hm.trans ((State.eccUncorr_eff ..).mem rfl), hp.trans ((State.eccUncorr_eff ..).pairs rfl)⟩

/-! Parity of sealed fields (R396, R397). -/

/-- No register with parity is one that a notification writes. -/
theorem parityBit_notNote {a bit : Nat} (h : parityBit a bit = true) : noteRegs a = false := by
  have hr : 0x40040100 ≤ a ∧ a < 0x40040500 ∨ 0x40090100 ≤ a ∧ a < 0x400F0340 ∨ 0x40180080 ≤ a ∧ a < 0x40180100 := by
    simp only [parityBit, Bool.or_eq_true, Bool.and_eq_true, decide_eq_true_eq] at h
    omega
  simp only [noteRegs, icRegs, Bool.or_eq_false_iff, Bool.and_eq_false_iff, decide_eq_false_iff_not, beq_eq_false_iff_ne]
  omega

/-- The detail of PARITY (R397). -/
def parityDetail (addr bit : Nat) : List Byte := leBytes 1 ((addr - 0x40000000) / 65536) ++ [0] ++ leBytes 2 (addr % 65536) ++ leBytes 1 bit ++ [0, 0, 0]

theorem exec_regParity {s : State} {addr bit hi lo : Nat} {r : RegSpec} (hw : Instr.wf (.regParity addr bit) = true) (hh : s.pins.heldH = false) (hs : 5 ≤ s.get F.FLT.BOOT_STATUS.STEP)
    (hk : s.parityKept addr bit = true) (hr : findSpec regTable addr = some r) (hf : fieldAt bit r.fields = some (hi, lo)) :
    exec (.regParity addr bit) s = .next ((s.set ⟨addr, hi, lo⟩ (bitsOf (s.paritySource addr) hi lo)).fault 0x32 0xFF 0xFF (parityDetail addr bit)) := by
  refine (exec_guardUnit rfl hw).trans ?_
  rw [if_neg (by simp [hh, hk]; omega), hr]
  dsimp only
  rw [hf]
  rfl

theorem regParity_reloads {s : State} {addr bit hi lo : Nat} {r : RegSpec} (hw : Instr.wf (.regParity addr bit) = true) (hh : s.pins.heldH = false) (hs : 5 ≤ s.get F.FLT.BOOT_STATUS.STEP)
    (hk : s.parityKept addr bit = true) (hr : findSpec regTable addr = some r) (hf : fieldAt bit r.fields = some (hi, lo)) (h32 : hi < 32) :
    s.Completes (.regParity addr bit) fun t => t.get ⟨addr, hi, lo⟩ = bitsOf (s.paritySource addr) hi lo % 2 ^ (hi + 1 - lo) ∧ t.mem = s.mem ∧ t.time = s.time ∧ t.pairs = s.pairs := by
  have he := exec_regParity hw hh hs hk hr hf
  have hp : noteRegs addr = false := parityBit_notNote (bit := bit) (by simpa only [Instr.wf] using hw)
  refine .of_next he ⟨?_, ((State.fault_eff ..).mem rfl).trans (State.set_mem ..), ((State.fault_eff ..).time rfl).trans (State.set_time ..), ((State.fault_eff ..).pairs rfl).trans (State.set_pairs ..)⟩
  rw [(fault_regs _ _ _ _ _).get (f := ⟨addr, hi, lo⟩) hp]
  exact get_set _ _ _ h32

/-- Settles O34: the key, the count of corrected words, the word left bad and the reloaded field, each by the one thing its command writes beside the fault it reports. -/
theorem scrubAndParity : Obligations.ScrubAndParity := by
  intro s mem addr bit hi lo r v
  exact ⟨fun h => .of_next (exec_hscWdtKick h) ⟨rfl, rfl⟩, fun h => exec_hscWdtKick_other h, fun hw hs => .of_next (exec_scrub_corrected hw hs) (eccCorr_counts s), fun hw hs => scrub_leaves hw hs,
    fun hw hh hs hk hr hf h32 => regParity_reloads hw hh hs hk hr hf h32⟩

end Sys2Proof.Machine
end

section
/-! SUPPORT. The flash service routine: what every call shares, the memory a word stored by a call stands in, and reads and programs word by word (R402 to R407). -/

namespace Sys2Proof.Machine

/-! An array's hidden state. -/

@[simp] theorem fa_setFa (s : State) (dom : Nat) (x : FlashArr) : (s.setFa dom x).fa dom = x := by
  unfold State.fa State.setFa
  split <;> rfl

theorem setFa_mem (s : State) (dom : Nat) (x : FlashArr) : (s.setFa dom x).mem = s.mem := (State.setFa_eff ..).mem rfl

/-- The array of a state that keeps both arrays. -/
theorem fa_congr {s t : State} (hh : t.hflash = s.hflash) (hs : t.sflash = s.sflash) (dom : Nat) : t.fa dom = s.fa dom := by rw [State.fa, State.fa, hh, hs]

/-! Calls and what they return (R402, R403). -/

@[simp] theorem fa_flRet (s : State) (dom st : Nat) (a1 : Option Nat) : (s.flRet dom st a1).fa dom = { s.fa dom with ret := (st, a1) } := fa_setFa ..

theorem flRet_ret (s : State) (dom st : Nat) (a1 : Option Nat) : ((s.flRet dom st a1).fa dom).ret = (st, a1) := by rw [fa_flRet]

theorem flRet_mem (s : State) (dom st : Nat) (a1 : Option Nat) : (s.flRet dom st a1).mem = s.mem := setFa_mem ..

section
variable {s t : State} {c : Instr} {b : Bool} {dom : Nat} {f : State → State}

/-- A call of a domain that runs does its work. -/
theorem exec_call (h : exec c s = guardUnit b (s.flCall dom false f)) (hb : b = true) (hr : s.flRuns dom = true) (ht : f s = t) : exec c s = .next t := by
  rw [exec_guardUnit h hb, State.flCall, hr, ← ht]
  rfl

/-- A call made while another of the domain runs. -/
theorem exec_call_busy (h : exec c s = guardUnit b (s.flCall dom true f)) (hb : b = true) (hr : s.flRuns dom = true) : exec c s = .next (s.flRet dom 0x20 none) := by
  rw [exec_guardUnit h hb, State.flCall, hr]
  rfl

end

/-- A call that only answers. -/
theorem answers {s t : State} {c : Instr} {dom st : Nat} {a1 : Option Nat} (h : exec c s = .next (t.flRet dom st a1)) (hm : t.mem = s.mem) :
    s.Completes c fun u => (u.fa dom).ret = (st, a1) ∧ u.mem = s.mem := .of_next h ⟨flRet_ret .., (flRet_mem ..).trans hm⟩

/-! Words of 32 bits stored one after the other. -/

theorem leBytes_leNat (bs : List Byte) : leBytes bs.length (leNat bs) = bs := by
  induction bs with
  | nil => rfl
  | cons b bs ih =>
    have hd : (b.toNat + 256 * leNat bs) / 256 = leNat bs := by have := b.isLt; omega
    have hb : BitVec.ofNat 8 (b.toNat + 256 * leNat bs) = b := by
      apply BitVec.eq_of_toNat_eq
      rw [BitVec.toNat_ofNat]
      have := b.isLt
      omega
    rw [List.length_cons, leBytes, leNat, hd, hb, ih]

theorem leNat_lt (bs : List Byte) : leNat bs < 256 ^ bs.length := by
  induction bs with
  | nil => exact Nat.one_pos
  | cons b bs ih =>
    rw [List.length_cons, leNat, pow_succ]
    have := b.isLt
    omega

/-- The word of four bytes is spelt by them. -/
theorem leBytes_word (a b c d : Byte) : leBytes 4 (BitVec.ofNat 32 (leNat [a, b, c, d])).toNat = [a, b, c, d] := by
  have hl : leNat [a, b, c, d] < 256 ^ 4 := leNat_lt [a, b, c, d]
  rw [BitVec.toNat_ofNat, Nat.mod_eq_of_lt (by omega)]
  exact leBytes_leNat [a, b, c, d]

theorem bytesOf_wordsOf : ∀ bs : List Byte, bs.length % 4 = 0 → bytesOf (wordsOf bs) = bs
  | [], _ => rfl
  | [_], h => absurd h (by simp)
  | [_, _], h => absurd h (by simp)
  | [_, _, _], h => absurd h (by simp)
  | a :: b :: c :: d :: r, h => by
    have hr : r.length % 4 = 0 := by simp only [List.length_cons] at h; omega
    rw [wordsOf, bytesOf, leBytes_word, bytesOf_wordsOf r hr]
    rfl

theorem length_wordsOf : ∀ bs : List Byte, bs.length % 4 = 0 → 4 * (wordsOf bs).length = bs.length
  | [], _ => rfl
  | [_], h => absurd h (by simp)
  | [_, _], h => absurd h (by simp)
  | [_, _, _], h => absurd h (by simp)
  | a :: b :: c :: d :: r, h => by
    have hr : r.length % 4 = 0 := by simp only [List.length_cons] at h; omega
    have := length_wordsOf r hr
    rw [wordsOf]
    simp only [List.length_cons]
    omega

theorem stBytes_append (s : State) (a : Nat) (bs cs : List Byte) : s.stBytes a (bs ++ cs) = (s.stBytes a bs).stBytes (a + bs.length) cs := by
  induction bs generalizing s a with
  | nil => rfl
  | cons b bs ih => rw [List.cons_append, State.stBytes, State.stBytes, ih, List.length_cons, Nat.add_assoc, Nat.add_comm 1]

theorem stBytes_mem_congr {s t : State} (h : t.mem = s.mem) (a : Nat) (bs : List Byte) : (t.stBytes a bs).mem = (s.stBytes a bs).mem := by
  induction bs generalizing s t a with
  | nil => exact h
  | cons b bs ih => exact ih (show spSet memDefault t.mem a b = spSet memDefault s.mem a b by rw [h]) _

theorem tag_add (dom a n : Nat) : tag dom (a + n) = tag dom a + n := by
  unfold tag
  split <;> omega

/-- Whether a core may write a place depends on nothing but the words known bad. -/
theorem accessKind_write_congr {s t : State} {core : Nat} (hc : core < 2) (h : t.flt.uncorr = s.flt.uncorr) (dom a n : Nat) : t.accessKind dom core true a n = s.accessKind dom core true a n := by
  have hb : t.badIn (tag dom a) n = s.badIn (tag dom a) n := by rw [State.badIn, State.badIn, h]
  have hm : t.mapped dom a true = s.mapped dom a true := by rw [State.mapped, State.mapped, Bool.true_or, Bool.true_or]
  have h9 (u : State) : ¬ (dom = 0 ∧ core = 9 ∧ u.on F.SEAL.STATUS.DEBUG_EN = false) := fun h9 => by omega
  rw [State.accessKind, State.accessKind, if_neg (h9 t), if_neg (h9 s), hb, hm]

theorem busMem_word_flt (s : State) (dom core a : Nat) {bs : List Byte} (h : bs.length = 4) : (s.busMem dom core a bs).flt = s.flt := by
  unfold State.busMem
  rw [h]
  dsimp only [show ¬ 8 ≤ 4 by decide, if_false]
  split
  · exact ((State.snapDrop_eff ..).flt rfl).trans ((State.stBytes_eff ..).flt rfl)
  · exact (State.stBytes_eff ..).flt rfl

/-- Words stored where a core may store them. -/
theorem busWords_stores {core : Nat} (hc : core < 2) (dom : Nat) (ws : List Word) (s : State) (a : Nat) (h : ∀ w, w < ws.length → s.accessKind dom core true (a + 4 * w) 4 = 0) :
    (s.busWords dom core a ws).2 = true ∧ (s.busWords dom core a ws).1.mem = (s.stBytes (tag dom a) (bytesOf ws)).mem := by
  induction ws generalizing s a with
  | nil => exact ⟨rfl, rfl⟩
  | cons w ws ih =>
    have hk : s.accessKind dom core true a (leBytes 4 w.toNat).length = 0 := by rw [length_leBytes]; exact h 0 (Nat.succ_pos _)
    have hs : s.busStore dom core a (leBytes 4 w.toNat) = (s.busMem dom core a (leBytes 4 w.toNat), true) := if_pos hk
    have hr := ih (s.busMem dom core a (leBytes 4 w.toNat)) (a + 4) fun i hi => by
      rw [accessKind_write_congr hc (congrArg (·.uncorr) (busMem_word_flt s dom core a (length_leBytes ..))), show a + 4 + 4 * i = a + 4 * (i + 1) by omega]
      exact h (i + 1) (Nat.succ_lt_succ hi)
    rw [State.busWords, hs]
    refine ⟨hr.1, hr.2.trans ?_⟩
    rw [bytesOf, stBytes_append, length_leBytes, tag_add]
    exact stBytes_mem_congr (busMem_mem ..) _ _

theorem length_ldBytes (s : State) (a n : Nat) : (s.ldBytes a n).length = n := by
  induction n generalizing a with
  | zero => rfl
  | succ n ih => rw [State.ldBytes, List.length_cons, ih]

theorem length_viewBytes (s : State) (a n : Nat) : (s.viewBytes a n).length = n := by
  induction n generalizing a with
  | zero => rfl
  | succ n ih => rw [State.viewBytes, List.length_cons, ih]

/-- What a load that ends well gives: as many bytes as it was asked for, and the state with no more than free values drawn. -/
theorem busLoad_some {s u : State} {dom core a n : Nat} {bs : List Byte} (h : s.busLoad dom core a n = (u, some bs)) : bs.length = n ∧ u.mem = s.mem ∧ u.hflash = s.hflash ∧ u.sflash = s.sflash := by
  unfold State.busLoad at h
  split at h
  next => cases h
  next =>
    split at h
    · cases h
      exact ⟨by rw [List.length_map, List.length_range], rfl, rfl, rfl⟩
    · cases h
      exact ⟨length_viewBytes .., rfl, rfl, rfl⟩

end Sys2Proof.Machine
end

section
/-! PROOFS. Flash reads and programs (R403 to R407). -/

namespace Sys2Proof.Machine

variable {s u : State} {dom core addr n buf : Nat} {bs : List Byte}

/-- The arguments of a read or a program that are good (R403). -/
def flGood (dom addr n : Nat) : Prop := addr % 16 = 0 ∧ 0 < n ∧ n ≤ 256 ∧ inArray dom addr (16 * n) = true

theorem not_flGood_iff : ¬ flGood dom addr n ↔ addr % 16 ≠ 0 ∨ n = 0 ∨ 256 < n ∨ inArray dom addr (16 * n) = false := by
  unfold flGood
  rw [not_and_or, not_and_or, not_and_or, Bool.not_eq_true, Nat.not_lt, Nat.le_zero, Nat.not_le]

theorem flCaller (hd : dom < 2) (hc : core < 2) (hm : dom = 1 ∨ core = 0) : (decide (dom < 2) && decide (core < 2) && (dom == 1 || core == 0)) = true := by
  simpa [hd, hc] using hm

/-! Reads. -/

theorem exec_flashRead_bad {corr uncorr : List Nat} (hw : Instr.wf (.flashRead dom core addr n buf corr uncorr false) = true) (hr : s.flRuns dom = true) (hg : ¬ flGood dom addr n) :
    exec (.flashRead dom core addr n buf corr uncorr false) s = .next (s.flRet dom 0x26 none) :=
  exec_call rfl hw hr (if_pos (not_flGood_iff.1 hg))

theorem exec_flashRead {corr uncorr : List Nat} (hw : Instr.wf (.flashRead dom core addr n buf corr uncorr false) = true) (hr : s.flRuns dom = true) (hg : flGood dom addr n)
    (ha : flReadable dom addr (16 * n) = true) (hq : (s.flReads dom core addr buf corr uncorr n 0 (0, 0)).2.2 = true) :
    exec (.flashRead dom core addr n buf corr uncorr false) s = .next ((s.flReads dom core addr buf corr uncorr n 0 (0, 0)).1.flRet dom (s.flReads dom core addr buf corr uncorr n 0 (0, 0)).2.1.1
      (some (s.flReads dom core addr buf corr uncorr n 0 (0, 0)).2.1.2)) := by
  refine exec_call rfl hw hr ?_
  dsimp only
  rw [if_neg (mt not_flGood_iff.2 (not_not_intro hg)), if_neg (by simp [ha])]
  exact if_pos hq

theorem flWord_sound {i : Nat} (hu : (s.fa dom).isUndef (flTag dom addr) = false) (hi : (s.fa dom).inErase (addr - flBase dom) = false)
    (hz : dom = 1 ∨ 0x08100000 ≤ addr ∧ addr < 0x08300000 ∨ 0x08400000 ≤ addr) : s.flWord dom addr i [] [] = (s.ldBytes (flTag dom addr) 16, 0) := by
  rw [State.flWord, if_neg (by simp [hi]), if_neg (by simp [hu]), if_neg (by simp), if_neg (by omega)]
  rfl

theorem flReport_sound (s : State) (dom addr : Nat) : s.flReport dom addr 0 = s := by
  unfold State.flReport
  split <;> rfl

/-- A sound word is no fault. -/
theorem flNote_flt (s : State) (dom addr : Nat) (bs : List Byte) : (s.flNote dom addr 0 bs).flt = s.flt := by
  unfold State.flNote
  rw [flReport_sound]
  dsimp only
  split
  · rfl
  · exact (State.flReadShow_eff ..).flt rfl

/-- The state in which a sound word is stored. -/
def State.flRead (s : State) (dom addr : Nat) : State := (s.freed 5).flNote dom addr 0 (s.ldBytes (flTag dom addr) 16)

theorem flRead_flt (s : State) (dom addr : Nat) : (s.flRead dom addr).flt = s.flt := flNote_flt _ _ _ _

theorem flReads_one (hw : s.flWord dom addr 0 [] [] = (s.ldBytes (flTag dom addr) 16, 0)) (hb : ((s.flRead dom addr).busWords dom core buf (wordsOf (s.ldBytes (flTag dom addr) 16))).2 = true) :
    s.flReads dom core addr buf [] [] 1 0 (0, 0) = (((s.flRead dom addr).busWords dom core buf (wordsOf (s.ldBytes (flTag dom addr) 16))).1, (0, 0), true) := by
  simp only [State.flReads, Nat.mul_zero, Nat.add_zero, hw]
  exact if_pos hb

/-- A word that reads soundly reaches its destination. -/
theorem flashRead_word (hw : Instr.wf (.flashRead dom core addr 1 buf [] [] false) = true) (hc : core < 2) (hr : s.flRuns dom = true) (hg : flGood dom addr 1) (ha : flReadable dom addr 16 = true)
    (hf : s.flWord dom addr 0 [] [] = (s.ldBytes (flTag dom addr) 16, 0)) (hk : ∀ w, w < 4 → s.accessKind dom core true (buf + 4 * w) 4 = 0) :
    s.Completes (.flashRead dom core addr 1 buf [] [] false) fun t => (t.fa dom).ret = (0, some 0) ∧ t.ldBytes (tag dom buf) 16 = s.ldBytes (flTag dom addr) 16 := by
  have hl : (s.ldBytes (flTag dom addr) 16).length = 16 := length_ldBytes ..
  obtain ⟨hq, hst⟩ := busWords_stores hc dom (wordsOf (s.ldBytes (flTag dom addr) 16)) (s.flRead dom addr) buf fun w hw => by
    have := length_wordsOf _ (show (s.ldBytes (flTag dom addr) 16).length % 4 = 0 by rw [hl])
    rw [accessKind_write_congr hc (congrArg (·.uncorr) (flRead_flt ..))]
    exact hk w (by omega)
  rw [bytesOf_wordsOf _ (by rw [hl])] at hst
  have hone := flReads_one hf hq
  have he := exec_flashRead hw hr hg ha (congrArg (·.2.2) hone)
  rw [hone] at he
  have hread := (reads_of_stBytes hst).1
  rw [hl] at hread
  exact .of_next he ⟨flRet_ret .., (ldBytes_congr (flRet_mem ..) _ _).trans hread⟩

/-! Programs. -/

theorem exec_flashProgram_bad {fail cut : Option Nat} (hw : Instr.wf (.flashProgram dom core addr n buf fail cut false) = true) (hr : s.flRuns dom = true) (hg : ¬ flGood dom addr n) :
    exec (.flashProgram dom core addr n buf fail cut false) s = .next (s.flRet dom 0x26 none) :=
  exec_call rfl hw hr (if_pos (not_flGood_iff.1 hg))

theorem exec_flashProgram {fail cut : Option Nat} (hw : Instr.wf (.flashProgram dom core addr n buf fail cut false) = true) (hr : s.flRuns dom = true) (hg : flGood dom addr n)
    (hf : s.flRefuse dom addr (16 * n) false = none) (hl : s.busLoad dom core buf (16 * n) = (u, some bs)) (hq : (u.flPrograms dom addr fail cut (words16 n bs) 0).2.2 = true) :
    exec (.flashProgram dom core addr n buf fail cut false) s = .next ((u.flPrograms dom addr fail cut (words16 n bs) 0).1.flRet dom (u.flPrograms dom addr fail cut (words16 n bs) 0).2.1.1
      (some (u.flPrograms dom addr fail cut (words16 n bs) 0).2.1.2)) := by
  refine exec_call rfl hw hr ?_
  dsimp only
  rw [if_neg (mt not_flGood_iff.2 (not_not_intro hg)), hf]
  dsimp only
  rw [hl]
  exact if_pos hq

/-- A word that did not verify. -/
def State.flFail (s : State) (dom addr : Nat) : State :=
  (s.set (F.FLASH.STATUS.PROG_FAIL dom) 1).setFa dom { (s.set (F.FLASH.STATUS.PROG_FAIL dom) 1).fa dom with undef := (flTag dom addr, 16) :: ((s.set (F.FLASH.STATUS.PROG_FAIL dom) 1).fa dom).undef }

theorem words16_one (h : bs.length = 16) : words16 1 bs = [bs] := by rw [words16, words16, List.take_of_length_le (Nat.le_of_eq h)]

theorem flPrograms_notBlank {fail cut : Option Nat} (hb : u.flBlank dom addr = false) : u.flPrograms dom addr fail cut [bs] 0 = ((u.freed 1), (0x21, 0), true) := by
  rw [State.flPrograms]
  exact if_pos (show (!u.flBlank dom addr) = true by rw [hb]; rfl)

theorem flPrograms_fails (hb : u.flBlank dom addr = true) : u.flPrograms dom addr (some 0) none [bs] 0 = ((u.freed 1).flFail dom addr, (0x22, 0), true) := by
  rw [State.flPrograms]
  exact (if_neg (show ¬ (!u.flBlank dom addr) = true by simp [hb])).trans ((if_neg (by simp)).trans (if_pos rfl))

theorem flPrograms_puts (hb : u.flBlank dom addr = true) : u.flPrograms dom addr none none [bs] 0 = ((u.freed 1).flPut dom addr bs, (0, 1), true) := by
  rw [State.flPrograms]
  exact (if_neg (show ¬ (!u.flBlank dom addr) = true by simp [hb])).trans ((if_neg (by simp)).trans (if_neg (by simp)))

theorem flPut_mem (s : State) (dom addr : Nat) (bs : List Byte) : (s.flPut dom addr bs).mem = (s.stBytes (flTag dom addr) bs).mem := by
  unfold State.flPut
  dsimp only
  split
  · exact (setFa_mem ..).trans ((State.flShow_eff ..).mem rfl)
  · exact (State.flShow_eff ..).mem rfl

theorem flFail_mem (s : State) (dom addr : Nat) : (s.flFail dom addr).mem = s.mem := (setFa_mem ..).trans (State.set_mem ..)

theorem flFail_shows (s : State) (dom addr : Nat) : (s.flFail dom addr).on (F.FLASH.STATUS.PROG_FAIL dom) = true :=
  (on_of_regs (setFa_regs ..) _).trans (on_set_one _ _ (by simp) rfl)

theorem flRet_on (s : State) (dom st : Nat) (a1 : Option Nat) (f : Fld) : (s.flRet dom st a1).on f = s.on f := on_of_regs (setFa_regs ..) _

/-- Settles O39: a call runs its words in order (`exec_flashRead`, `exec_flashProgram`), and one word is stored by four sound stores (`busWords_stores`) or programmed where it is blank. -/
theorem flashWords : Obligations.FlashWords := by
  intro s u dom core addr n buf corr uncorr fail cut bs hd hc hm hr ret good
  have hw := flCaller hd hc hm
  refine ⟨fun hg => ⟨answers (exec_flashRead_bad hw hr hg) rfl, answers (exec_flashProgram_bad hw hr hg) rfl⟩, fun hg ha hq => .of_next (exec_flashRead hw hr hg ha hq) ⟨flRet_ret .., flRet_mem ..⟩,
    fun hg hn ha hu hi hz hk => ?_, fun hg hf hl hq => .of_next (exec_flashProgram hw hr hg hf hl hq) ⟨flRet_ret .., flRet_mem ..⟩, fun hg hn hf hl => ?_⟩
  · subst hn
    exact flashRead_word hw hc hr hg ha (flWord_sound hu hi hz) hk
  · subst hn
    obtain ⟨hlen, hmem, -, -⟩ := busLoad_some hl
    have hone := words16_one hlen
    refine ⟨fun hb => ?_, fun hb => ?_, fun hb => ?_⟩
    · have hp := flPrograms_puts (bs := bs) hb
      have he := exec_flashProgram (fail := none) (cut := none) hw hr hg hf hl (by rw [hone, hp])
      rw [hone, hp] at he
      obtain ⟨hin, hout⟩ := reads_of_stBytes ((flRet_mem ((u.freed 1).flPut dom addr bs) dom 0 (some 1)).trans (flPut_mem ..))
      rw [hlen] at hin hout
      exact .of_next he ⟨flRet_ret .., hin, fun a ha => (hout a ha).trans (ldB_congr hmem a)⟩
    · have hp := flPrograms_notBlank (bs := bs) (fail := none) (cut := none) hb
      have he := exec_flashProgram (fail := none) (cut := none) hw hr hg hf hl (by rw [hone, hp])
      rw [hone, hp] at he
      exact answers he hmem
    · have hp := flPrograms_fails (bs := bs) hb
      have he := exec_flashProgram (fail := some 0) (cut := none) hw hr hg hf hl (by rw [hone, hp])
      rw [hone, hp] at he
      exact .of_next he ⟨flRet_ret .., (flRet_on ..).trans (flFail_shows ..), (flRet_mem ..).trans ((flFail_mem ..).trans hmem)⟩

end Sys2Proof.Machine
end

section
/-! SUPPORT. Erases of flash: what starting one, ending one and those the device asks for leave of an array and of memory (R408 to R413). -/

namespace Sys2Proof.Machine

/-! How the last erase of an array ended, and what it left undefined. -/

/-- The result of the last erase and the undefined ranges. -/
def FlashArr.fate (x : FlashArr) : Nat × List (Nat × Nat) := (x.lastResult, x.undef)

/-- The fate of the erases of a domain's array. -/
def State.fate (dom : Nat) (s : State) : Nat × List (Nat × Nat) := (s.fa dom).fate

theorem fate_setFa (s : State) (dom : Nat) (x : FlashArr) : (s.setFa dom x).fate dom = x.fate := congrArg FlashArr.fate (fa_setFa ..)

theorem countErase_fate (x : FlashArr) (dom sector kind : Nat) : (x.countErase dom sector kind).fate = x.fate := by
  unfold FlashArr.countErase
  dsimp only
  split
  · rfl
  · split <;> rfl

theorem journalAdd_fate (x : FlashArr) (kind sector : Nat) (dense : Bool) : (x.journalAdd kind sector dense).1.fate = x.fate := by
  unfold FlashArr.journalAdd
  dsimp only
  split <;> rfl

theorem flashShow_fa (s : State) (dom d : Nat) : (s.flashShow dom).fa d = s.fa d := fa_congr ((State.flashShow_eff ..).hflash rfl) ((State.flashShow_eff ..).sflash rfl) d

theorem set_fa (s : State) (f : Fld) (v d : Nat) : (s.set f v).fa d = s.fa d := fa_congr ((State.set_eff ..).hflash rfl) ((State.set_eff ..).sflash rfl) d

theorem flashShow_fate (s : State) (dom d : Nat) : Keeps (State.fate d) s (s.flashShow dom) := congrArg FlashArr.fate (flashShow_fa ..)

/-! Starting an erase (R408 step 1). -/

/-- The journal once the erase is entered, with the SEQ of its entry. -/
def FlashArr.entered (x : FlashArr) (dom sector kind : Nat) (dense : Bool) : FlashArr × Nat := (x.countErase dom sector kind).journalAdd kind sector dense

/-- An erase as it begins. -/
def Erase.begun (seq sector kind : Nat) (device dense : Bool) : Erase := { sector := sector, kind := kind, seq := seq, susp := false, byCommit := false, device := device, dense := dense }

/-- The stamps of an erase's sectors are undefined. -/
def FlashArr.unstamp (x : FlashArr) (kind sector : Nat) : List (Nat × Option Nat) := (eraseSectors kind sector).foldl (fun (m : List (Nat × Option Nat)) i => alSet m i none) x.stamps

/-- The array once an erase has begun. -/
def FlashArr.begin (x : FlashArr) (dom sector kind : Nat) (device dense : Bool) : FlashArr :=
  { (x.entered dom sector kind dense).1 with erase := some (Erase.begun (x.entered dom sector kind dense).2 sector kind device dense), stamps := (x.entered dom sector kind dense).1.unstamp kind sector }

theorem eraseStart_eq (s : State) (dom sector kind : Nat) (device dense : Bool) : s.eraseStart dom sector kind device dense = (s.setFa dom ((s.fa dom).begin dom sector kind device dense)).flashShow dom := rfl

theorem eraseStart_fa (s : State) (dom sector kind : Nat) (device dense : Bool) : (s.eraseStart dom sector kind device dense).fa dom = (s.fa dom).begin dom sector kind device dense := by
  rw [eraseStart_eq, flashShow_fa, fa_setFa]

theorem eraseStart_fate (s : State) (dom sector kind : Nat) (device dense : Bool) : Keeps (State.fate dom) s (s.eraseStart dom sector kind device dense) := by
  show FlashArr.fate _ = FlashArr.fate _
  rw [eraseStart_fa]
  exact (journalAdd_fate _ kind sector dense).trans (countErase_fate ..)

theorem eraseStart_mem (s : State) (dom sector kind : Nat) (device dense : Bool) : (s.eraseStart dom sector kind device dense).mem = s.mem := (State.eraseStart_eff ..).mem rfl

/-! Erases the device asks for (R412, R555). -/

theorem eraseNext_fate (s : State) (dom : Nat) : Keeps (State.fate dom) s (s.eraseNext dom) := by
  unfold State.eraseNext
  dsimp only
  split
  · exact (eraseStart_fate ..).after (fate_setFa ..)
  · exact .refl s

theorem eraseWant_fate (s : State) (sector : Nat) : Keeps (State.fate 0) s (s.eraseWant sector) := by
  unfold State.eraseWant
  split
  · exact .refl s
  · exact (eraseNext_fate ..).after rfl

theorem commitAhead_fate (s : State) : Keeps (State.fate 0) s s.commitAhead := by
  unfold State.commitAhead
  split
  · exact .refl s
  · dsimp only
    split
    · exact eraseWant_fate ..
    · exact .refl s

/-! Sectors erased (R408 steps 3 and 4). -/

theorem sectorErased_mem (s : State) (dom sector seq : Nat) : (s.sectorErased dom sector seq).mem = (s.wipe (sectorAddr dom sector) 0x1000).mem := by
  unfold State.sectorErased
  dsimp only
  split
  · exact ((State.dropErased_eff ..).mem rfl).trans (setFa_mem ..)
  · exact setFa_mem ..

/-- Whether an address lies in a sector. -/
abbrev inSector (dom sector a : Nat) : Prop := sectorAddr dom sector ≤ a ∧ a < sectorAddr dom sector + 0x1000

theorem sectorsErased_in (dom seq a : Nat) (zs : List Nat) (s : State) (h : s.ldB a = memDefault a ∨ ∃ z, z ∈ zs ∧ inSector dom z a) : (s.sectorsErased dom seq zs).ldB a = memDefault a := by
  induction zs generalizing s with
  | nil =>
    obtain h | ⟨z, hz, -⟩ := h
    · exact h
    · cases hz
  | cons z zs ih =>
    have hs : (s.sectorErased dom z seq).ldB a = if inSector dom z a then memDefault a else s.ldB a := (ldB_congr (sectorErased_mem ..) a).trans (ldB_wipe ..)
    refine ih _ ?_
    rw [hs]
    obtain h | ⟨y, hy, hin⟩ := h
    · exact .inl (by rw [h, ite_self])
    · obtain rfl | hy := List.mem_cons.1 hy
      · exact .inl (if_pos hin)
      · exact .inr ⟨y, hy, hin⟩

theorem sectorsErased_out (dom seq a : Nat) (zs : List Nat) (s : State) (h : ∀ z, z ∈ zs → ¬ inSector dom z a) : (s.sectorsErased dom seq zs).ldB a = s.ldB a := by
  induction zs generalizing s with
  | nil => rfl
  | cons z zs ih =>
    have hs : (s.sectorErased dom z seq).ldB a = if inSector dom z a then memDefault a else s.ldB a := (ldB_congr (sectorErased_mem ..) a).trans (ldB_wipe ..)
    rw [State.sectorsErased, ih _ fun y hy => h y (List.mem_cons_of_mem _ hy), hs, if_neg (h z (List.mem_cons_self ..))]

/-! The end of an erase (R408 to R410). -/

/-- The array once its erase has verified. -/
def FlashArr.done (x : FlashArr) (e : Erase) : FlashArr :=
  { x with erase := none, lastResult := 0, dense := if e.kind = 2 then (if e.dense then sectorZone e.sector :: x.dense.filter (· != sectorZone e.sector) else x.dense.filter (· != sectorZone e.sector)) else x.dense }

/-- The state once the running erase has verified, before the next erases begin. -/
def State.erased (s : State) (dom : Nat) (e : Erase) : State := (s.sectorsErased dom e.seq (eraseSectors e.kind e.sector)).setFa dom (((s.sectorsErased dom e.seq (eraseSectors e.kind e.sector)).fa dom).done e)

theorem eraseDone_eq (s : State) (dom : Nat) (e : Erase) : s.eraseDone dom e = if dom = 0 then (((s.erased dom e).flashShow dom).eraseNext dom).commitAhead else ((s.erased dom e).flashShow dom).eraseNext dom := rfl

theorem erased_result (s : State) (dom : Nat) (e : Erase) : ((s.erased dom e).fa dom).lastResult = 0 := by
  rw [State.erased, fa_setFa]
  rfl

theorem eraseDone_mem (s : State) (dom : Nat) (e : Erase) : (s.eraseDone dom e).mem = (s.sectorsErased dom e.seq (eraseSectors e.kind e.sector)).mem := by
  have h : (((s.erased dom e).flashShow dom).eraseNext dom).mem = (s.sectorsErased dom e.seq (eraseSectors e.kind e.sector)).mem :=
    ((State.eraseNext_eff ..).mem rfl).trans (((State.flashShow_eff ..).mem rfl).trans (setFa_mem ..))
  rw [eraseDone_eq]
  split
  · exact ((State.commitAhead_eff ..).mem rfl).trans h
  · exact h

theorem eraseDone_fate (s : State) (dom : Nat) (e : Erase) : Keeps (State.fate dom) (s.erased dom e) (s.eraseDone dom e) := by
  have h : Keeps (State.fate dom) (s.erased dom e) (((s.erased dom e).flashShow dom).eraseNext dom) := (eraseNext_fate ..).after (flashShow_fate ..)
  rw [eraseDone_eq]
  split
  next hd => exact hd ▸ (commitAhead_fate _).after (hd ▸ h)
  next => exact h

theorem eraseDone_result (s : State) (dom : Nat) (e : Erase) : ((s.eraseDone dom e).fa dom).lastResult = 0 := (congrArg Prod.fst (eraseDone_fate s dom e)).trans (erased_result ..)

/-- The array once its erase has not verified. -/
def FlashArr.failed (x : FlashArr) (dom : Nat) (e : Erase) : FlashArr := { x.eraseLost dom e with lastResult := 0x23 }

/-- The registers of an array whose erase has not verified. -/
def State.eraseFailShown (s : State) (dom : Nat) (e : Erase) : State := ((s.setFa dom ((s.fa dom).failed dom e)).set (F.FLASH.STATUS.ERS_FAIL dom) 1).flashShow dom

theorem eraseFailShown_fate (s : State) (dom : Nat) (e : Erase) : (s.eraseFailShown dom e).fate dom = ((s.fa dom).failed dom e).fate := by
  unfold State.eraseFailShown
  rw [State.fate, flashShow_fa, set_fa, fa_setFa]

/-- A ring sector of Heartwood that does not erase is passed over from then on. -/
def State.passOver (s : State) (k : Nat) : State := { s with recs := { s.recs with badSectors := k :: s.recs.badSectors.filter (· != k) } }

theorem passOver_fate (s : State) (k dom : Nat) : Keeps (State.fate dom) s (s.passOver k) := rfl

/-- Where no device zone fails, a failed erase leaves its result and its undefined sectors. -/
theorem eraseFailed_fate (s : State) (dom : Nat) (e : Erase) (hz : dom = 1 ∨ 12 ≤ sectorZone e.sector) : (s.eraseFailed dom e).fate dom = ((s.fa dom).failed dom e).fate := by
  have hs := eraseFailShown_fate s dom e
  unfold State.eraseFailed
  dsimp only
  refine (eraseNext_fate ..).trans ?_
  show State.fate dom (ite _ (s.eraseFailShown dom e) _) = _
  split
  next => exact hs
  next h =>
    obtain rfl : dom = 0 := by omega
    rw [if_pos (by omega)]
    exact ((eraseWant_fate ..).after (passOver_fate (s.eraseFailShown 0 e) (e.sector - 4096) 0)).trans hs

end Sys2Proof.Machine
end

section
/-! PROOFS. Flash erases, protection and service calls (R402, R403, R408 to R420). -/

namespace Sys2Proof.Machine

variable {s u v : State} {dom core addr area buf old : Nat} {e : Erase} {bs os : List Byte}

/-! The end of an AUDIT_CLEAR leaves the array as it is (R124). -/

theorem auditProgram_hflash (s : State) {ev : AuditEvent} (h : ev.kind ≠ 0x12) : (s.auditProgram ev).hflash = s.hflash := by
  unfold State.auditProgram
  dsimp only
  rw [if_neg h]
  exact ((State.auditConts_eff ..).hflash rfl).trans ((State.auditEntry_eff ..).hflash rfl)

theorem auditOverflow_hflash (s : State) : s.auditOverflow.hflash = s.hflash := by
  unfold State.auditOverflow
  dsimp only
  split
  · rfl
  · split
    · exact ((State.set_eff ..).hflash rfl).trans (auditProgram_hflash s (show (0x81 : Nat) ≠ 0x12 by decide))
    · exact (State.auditLost_eff ..).hflash rfl

/-- No AUDIT_CLEAR waits any more. -/
def State.clearOver (s : State) : State := { s with gw := { s.gw with clear := none, long := none } }

theorem clearEnd_hflash (s : State) : s.clearEnd.hflash = s.hflash := by
  unfold State.clearEnd
  split
  · split
    · rfl
    · exact ((State.result_eff ..).hflash rfl).trans (((State.auditRelevel_eff ..).hflash rfl).trans (((State.auditCtlDue_eff ..).hflash rfl).trans (auditOverflow_hflash s.clearOver)))
  · rfl

theorem clearEnd_fa (s : State) (dom : Nat) : s.clearEnd.fa dom = s.fa dom := fa_congr (clearEnd_hflash s) ((State.clearEnd_eff ..).sflash rfl) dom

theorem clearEnd_none (h : s.gw.clear = none) : s.clearEnd = s := by rw [State.clearEnd, h]

/-! The end of an erase. -/

/-- An erase that has ended is signalled, and with the last of an AUDIT_CLEAR that command goes on. -/
def State.eraseSignal (s : State) (dom : Nat) : State := if dom = 0 then (s.icEdge 0 6).clearEnd else s.icEdge 1 24

theorem icEdge_fa (s : State) (c n dom : Nat) : (s.icEdge c n).fa dom = s.fa dom := fa_congr ((State.icEdge_eff ..).hflash rfl) ((State.icEdge_eff ..).sflash rfl) dom

theorem eraseSignal_fa (s : State) (dom : Nat) : (s.eraseSignal dom).fa dom = s.fa dom := by
  unfold State.eraseSignal
  split
  · rw [clearEnd_fa, icEdge_fa]
  · exact icEdge_fa ..

theorem eraseSignal_mem (s : State) (dom : Nat) (h : dom = 0 → s.gw.clear = none) : (s.eraseSignal dom).mem = s.mem := by
  unfold State.eraseSignal
  split
  next hd => rw [clearEnd_none (((congrArg (·.clear) ((State.icEdge_eff ..).gw rfl))).trans (h hd)), (State.icEdge_eff ..).mem rfl]
  next => exact (State.icEdge_eff ..).mem rfl

theorem exec_eraseEnd (hd : dom < 2) (he : (s.fa dom).erase = some e) (hs : e.susp = false) (ok : Bool) :
    exec (.eraseEnd dom ok) s = .next ((if ok then s.eraseDone dom e else s.eraseFailed dom e).eraseSignal dom) := by
  refine (exec_guardUnit rfl (by simpa [Instr.wf] using hd)).trans (congrArg Host.Outcome.next ?_)
  rw [he]
  dsimp only
  rw [if_neg (by simp [hs]), State.eraseSignal]
  split
  next h0 => rw [h0]
  next h0 => rw [show dom = 1 by omega]

theorem eraseEnd_verified (hd : dom < 2) (he : (s.fa dom).erase = some e) (hs : e.susp = false) (hg : dom = 0 → s.gw.clear = none) :
    s.Completes (.eraseEnd dom true) fun t => (t.fa dom).lastResult = 0 ∧
      (∀ z a, z ∈ eraseSectors e.kind e.sector → sectorAddr dom z ≤ a → a < sectorAddr dom z + 0x1000 → t.ldB a = memDefault a) ∧
      (∀ a, (∀ z, z ∈ eraseSectors e.kind e.sector → a < sectorAddr dom z ∨ sectorAddr dom z + 0x1000 ≤ a) → t.ldB a = s.ldB a) := by
  have hm : ((s.eraseDone dom e).eraseSignal dom).mem = (s.sectorsErased dom e.seq (eraseSectors e.kind e.sector)).mem :=
    (eraseSignal_mem _ _ fun h0 => (congrArg (·.clear) ((State.eraseDone_eff ..).gw rfl)).trans (hg h0)).trans (eraseDone_mem ..)
  refine .of_next (exec_eraseEnd hd he hs true) ⟨?_, fun z a hz h1 h2 => ?_, fun a ha => ?_⟩
  · exact (congrArg FlashArr.lastResult (eraseSignal_fa ..)).trans (eraseDone_result ..)
  · exact (ldB_congr hm a).trans (sectorsErased_in _ _ _ _ _ (.inr ⟨z, hz, h1, h2⟩))
  · exact (ldB_congr hm a).trans (sectorsErased_out _ _ _ _ _ fun z hz hin => by have := ha z hz; omega)

theorem eraseEnd_failed (hd : dom < 2) (he : (s.fa dom).erase = some e) (hs : e.susp = false) (hz : dom = 1 ∨ 12 ≤ sectorZone e.sector) :
    s.Completes (.eraseEnd dom false) fun t => (t.fa dom).lastResult = 0x23 ∧ ∀ z, z ∈ eraseSectors e.kind e.sector → (sectorAddr dom z, 0x1000) ∈ (t.fa dom).undef := by
  have hf : (((s.eraseFailed dom e).eraseSignal dom).fa dom).fate = ((s.fa dom).failed dom e).fate := (congrArg FlashArr.fate (eraseSignal_fa ..)).trans (eraseFailed_fate s dom e hz)
  refine .of_next (exec_eraseEnd hd he hs false) ⟨congrArg Prod.fst hf, fun z hz => ?_⟩
  show _ ∈ (((s.eraseFailed dom e).eraseSignal dom).fa dom).undef
  rw [show (((s.eraseFailed dom e).eraseSignal dom).fa dom).undef = _ from congrArg Prod.snd hf]
  exact List.mem_append_left _ (List.mem_map_of_mem (f := fun i => (sectorAddr dom i, 0x1000)) hz)

/-! Erases begun, suspended and resumed (R408, R411). -/

/-- An erase a call has begun. -/
def State.eraseCalled (s : State) (dom addr : Nat) : State := (s.eraseStart dom ((addr - flBase dom) / 0x1000) 1 false false).set (F.FLASH.ADDR.WORD dom) ((addr - flBase dom) / 16)

theorem exec_flashErase (hd : dom < 2) (hr : s.flRuns dom = true) (ha : addr % 0x1000 = 0) (hi : inArray dom addr 0x1000 = true) (hf : s.flRefuse dom addr 0x1000 true = none) :
    exec (.flashErase dom addr false) s = .next ((s.eraseCalled dom addr).flRet dom 0x10 none) := by
  refine exec_call rfl (by simpa [Instr.wf] using hd) hr ?_
  rw [if_neg (by simp [ha, hi]), hf]
  rfl

/-- A call that leaves an erase. -/
theorem flRet_erase (s : State) (dom st : Nat) (a1 : Option Nat) : ((s.flRet dom st a1).fa dom).erase = (s.fa dom).erase := by rw [fa_flRet]

theorem eraseCalled_erase (s : State) (dom addr : Nat) : ((s.eraseCalled dom addr).fa dom).erase = some (Erase.begun ((s.fa dom).entered dom ((addr - flBase dom) / 0x1000) 1 false).2 ((addr - flBase dom) / 0x1000) 1 false false) := by
  rw [State.eraseCalled, set_fa, eraseStart_fa]
  rfl

theorem eraseCalled_mem (s : State) (dom addr : Nat) : (s.eraseCalled dom addr).mem = s.mem := (State.set_mem ..).trans (eraseStart_mem ..)

/-- The running erase takes another state. -/
def State.eraseSet (s : State) (dom : Nat) (e : Erase) : State := (s.setFa dom { s.fa dom with erase := some e }).flashShow dom

theorem eraseSet_erase (s : State) (dom : Nat) (e : Erase) : ((s.eraseSet dom e).fa dom).erase = some e := by rw [State.eraseSet, flashShow_fa, fa_setFa]

theorem eraseSet_mem (s : State) (dom : Nat) (e : Erase) : (s.eraseSet dom e).mem = s.mem := ((State.flashShow_eff ..).mem rfl).trans (setFa_mem ..)

theorem eraseSet_returns {c : Instr} (h : exec c s = .next ((s.eraseSet dom e).flRet dom 0 none)) :
    s.Completes c fun t => (t.fa dom).ret = (0, none) ∧ (t.fa dom).erase = some e ∧ t.mem = s.mem :=
  .of_next h ⟨flRet_ret .., (flRet_erase ..).trans (eraseSet_erase ..), (flRet_mem ..).trans (eraseSet_mem ..)⟩

theorem exec_suspend (hd : dom < 2) (hr : s.flRuns dom = true) (he : (s.fa dom).erase = some e) (hs : e.susp = false) :
    exec (.suspend dom false) s = .next ((s.eraseSet dom { e with susp := true }).flRet dom 0 none) := by
  refine exec_call rfl (by simpa [Instr.wf] using hd) hr ?_
  dsimp only
  rw [he]
  exact if_neg (by simp [hs])

theorem exec_resume (hd : dom < 2) (hr : s.flRuns dom = true) (he : (s.fa dom).erase = some e) (hs : e.susp = true) :
    exec (.resume dom false) s = .next ((s.eraseSet dom { e with susp := false, byCommit := false }).flRet dom 0 none) := by
  refine exec_call rfl (by simpa [Instr.wf] using hd) hr ?_
  dsimp only
  rw [he]
  exact if_pos hs

theorem exec_suspend_none (hd : dom < 2) (hr : s.flRuns dom = true) (he : (s.fa dom).erase = none) : exec (.suspend dom false) s = .next (s.flRet dom 0x26 none) := by
  refine exec_call rfl (by simpa [Instr.wf] using hd) hr ?_
  dsimp only
  rw [he]

theorem exec_resume_none (hd : dom < 2) (hr : s.flRuns dom = true) (he : (s.fa dom).erase = none) : exec (.resume dom false) s = .next (s.flRet dom 0x26 none) := by
  refine exec_call rfl (by simpa [Instr.wf] using hd) hr ?_
  dsimp only
  rw [he]

/-! Passwords (R417). -/

/-- The right password has come: the area is open and no failure counts. -/
def State.flOpened (s : State) (dom area : Nat) : State := s.setFa dom { s.fa dom with unlocked := area :: (s.fa dom).unlocked.filter (· != area), fails := 0 }

theorem exec_unlock (hw : Instr.wf (.unlock dom core area buf false) = true) (hr : s.flRuns dom = true) (ha : s.flArea dom area true = none) (hl : s.busLoad dom core buf 16 = (u, some bs)) :
    exec (.unlock dom core area buf false) s = .next (if bs == (u.fa dom).password area then (u.flOpened dom area).flRet dom 0 (some 8)
      else (u.flWrong dom).flRet dom 0x24 (some (8 - ((u.flWrong dom).fa dom).fails))) := by
  refine exec_call rfl hw hr ?_
  dsimp only
  rw [ha]
  dsimp only
  rw [hl]
  rfl

theorem flOpened_unlocked (s : State) (dom area st : Nat) (a1 : Option Nat) : (((s.flOpened dom area).flRet dom st a1).fa dom).locked area = false := by
  rw [fa_flRet, State.flOpened, fa_setFa]
  unfold FlashArr.locked
  simp

theorem unlock_right (hw : Instr.wf (.unlock dom core area buf false) = true) (hr : s.flRuns dom = true) (ha : s.flArea dom area true = none) (hl : s.busLoad dom core buf 16 = (u, some bs))
    (hp : bs = (u.fa dom).password area) :
    s.Completes (.unlock dom core area buf false) fun t => (t.fa dom).ret = (0, some 8) ∧ (t.fa dom).locked area = false ∧ (t.fa dom).fails = 0 ∧ t.mem = s.mem := by
  have he := exec_unlock hw hr ha hl
  rw [if_pos (by simp [hp])] at he
  exact .of_next he ⟨flRet_ret .., flOpened_unlocked .., by rw [fa_flRet, State.flOpened, fa_setFa], (flRet_mem ..).trans ((setFa_mem ..).trans (busLoad_some hl).2.1)⟩

theorem flWrong_fails (s : State) (dom : Nat) : ((s.flWrong dom).fa dom).fails = (s.fa dom).fails + 1 := by rw [State.flWrong, fa_setFa]

theorem flWrong_mem (s : State) (dom : Nat) : (s.flWrong dom).mem = s.mem := setFa_mem ..

theorem unlock_wrong (hw : Instr.wf (.unlock dom core area buf false) = true) (hr : s.flRuns dom = true) (ha : s.flArea dom area true = none) (hl : s.busLoad dom core buf 16 = (u, some bs))
    (hp : bs ≠ (u.fa dom).password area) :
    s.Completes (.unlock dom core area buf false) fun t => (t.fa dom).ret = (0x24, some (8 - ((u.fa dom).fails + 1))) ∧ (t.fa dom).fails = (u.fa dom).fails + 1 ∧ t.mem = s.mem := by
  have he := exec_unlock hw hr ha hl
  rw [if_neg (by simpa using hp), flWrong_fails] at he
  exact .of_next he ⟨flRet_ret .., by rw [fa_flRet]; exact flWrong_fails .., (flRet_mem ..).trans ((flWrong_mem ..).trans (busLoad_some hl).2.1)⟩

/-- An area locked again. -/
def State.flLocked (s : State) (dom area : Nat) : State := s.setFa dom { s.fa dom with unlocked := (s.fa dom).unlocked.filter (· != area) }

theorem exec_lock (hd : dom < 2) (hr : s.flRuns dom = true) (ha : s.flArea dom area false = none) : exec (.lock dom area false) s = .next ((s.flLocked dom area).flRet dom 0 none) := by
  refine exec_call rfl (by simpa [Instr.wf] using hd) hr ?_
  dsimp only
  rw [ha]
  rfl

theorem mem_flLocked (s : State) (dom area st : Nat) (a1 : Option Nat) (a : Nat) : a ∈ (((s.flLocked dom area).flRet dom st a1).fa dom).unlocked ↔ a ∈ (s.fa dom).unlocked ∧ a ≠ area := by
  rw [fa_flRet, State.flLocked, fa_setFa, List.mem_filter, bne_iff_ne]

/-- The passwords once an area has a new one: all ones is none. -/
def FlashArr.passSet (x : FlashArr) (area : Nat) (bs : List Byte) : FlashArr := { x with pass := if bs == List.replicate 16 0xFF then alDel x.pass area else alSet x.pass area bs, fails := 0 }

theorem passSet_password (x : FlashArr) (area : Nat) (bs : List Byte) : (x.passSet area bs).password area = bs := by
  unfold FlashArr.password FlashArr.passSet
  split
  next h => rw [alGet, alFind_alDel, if_pos rfl, Option.getD_none, eq_of_beq h]
  next => exact alGet_alSet_same ..

theorem exec_setpw (hw : Instr.wf (.setpw dom core area old buf false) = true) (hr : s.flRuns dom = true) (ha : s.flArea dom area true = none) (hl : s.busLoad dom core old 16 = (u, some os))
    (hn : u.busLoad dom core buf 16 = (v, some bs)) :
    exec (.setpw dom core area old buf false) s = .next (if os == (v.fa dom).password area then (v.setFa dom ((v.fa dom).passSet area bs)).flRet dom 0 none else (v.flWrong dom).flRet dom 0x24 none) := by
  refine exec_call rfl hw hr ?_
  dsimp only
  rw [ha]
  dsimp only
  rw [hl]
  dsimp only
  rw [hn]
  rfl

theorem flRet_password (s : State) (dom st : Nat) (a1 : Option Nat) (area : Nat) : ((s.flRet dom st a1).fa dom).password area = (s.fa dom).password area := by
  rw [fa_flRet]
  rfl

theorem setpw_right (hw : Instr.wf (.setpw dom core area old buf false) = true) (hr : s.flRuns dom = true) (ha : s.flArea dom area true = none) (hl : s.busLoad dom core old 16 = (u, some os))
    (hn : u.busLoad dom core buf 16 = (v, some bs)) (hp : os = (v.fa dom).password area) :
    s.Completes (.setpw dom core area old buf false) fun t => (t.fa dom).ret = (0, none) ∧ (t.fa dom).password area = bs ∧ t.mem = s.mem := by
  have he := exec_setpw hw hr ha hl hn
  rw [if_pos (by simp [hp])] at he
  refine .of_next he ⟨flRet_ret .., (flRet_password ..).trans ?_, (flRet_mem ..).trans ((setFa_mem ..).trans ((busLoad_some hn).2.1.trans (busLoad_some hl).2.1))⟩
  rw [fa_setFa, passSet_password]

theorem setpw_wrong (hw : Instr.wf (.setpw dom core area old buf false) = true) (hr : s.flRuns dom = true) (ha : s.flArea dom area true = none) (hl : s.busLoad dom core old 16 = (u, some os))
    (hn : u.busLoad dom core buf 16 = (v, some bs)) (hp : os ≠ (v.fa dom).password area) :
    s.Completes (.setpw dom core area old buf false) fun t => (t.fa dom).ret = (0x24, none) ∧ (t.fa dom).password area = (v.fa dom).password area ∧ t.mem = s.mem := by
  have he := exec_setpw hw hr ha hl hn
  rw [if_neg (by simpa using hp)] at he
  refine .of_next he ⟨flRet_ret .., (flRet_password ..).trans ?_, (flRet_mem ..).trans ((flWrong_mem ..).trans ((busLoad_some hn).2.1.trans (busLoad_some hl).2.1))⟩
  rw [State.flWrong, fa_setFa]
  rfl

/-! Sapwood's own calls and the scrub pass (R414, R419, R420). -/

theorem exec_zonecfg {zone mode : Nat} (hd : dom = 1) (hr : s.flRuns 1 = true) (h1 : 1 ≤ zone) (h8 : zone < 8) (hm : mode < 2) (hf : s.flRefuse 1 (0x10000000 + 0x100000 * zone) 0x100000 true = none) :
    exec (.zonecfg dom zone mode false) s = .next ((s.eraseStart 1 (256 * zone) 2 false (mode == 1)).flRet 1 0x10 none) := by
  refine exec_call (dom := dom) rfl (by simp [Instr.wf, hd]) (hd ▸ hr) ?_
  rw [if_neg (by omega), if_neg (by omega), if_neg (by omega), hf]

theorem exec_ecnt (hd : dom = 1) (hr : s.flRuns 1 = true) (ha : addr % 0x10000 = 0) (hi : inArray 1 addr 0x10000 = true) (hl : 0x10100000 ≤ addr) :
    exec (.ecnt dom addr false) s = .next (s.flRet 1 0 (some (alGet 0 s.sflash.ecnt ((addr - 0x10000000) / 0x10000)))) := by
  refine exec_call (dom := dom) rfl (by simp [Instr.wf, hd]) (hd ▸ hr) ?_
  rw [if_neg (by omega), if_neg (by simp [ha, hi]), if_neg (by omega)]

theorem exec_margin {weak corr uncorr : Nat} (hd : dom = 1) (hr : s.flRuns 1 = true) (ha : addr % 0x1000 = 0) (hi : inArray 1 addr 0x1000 = true) :
    exec (.margin dom addr weak corr uncorr false) s = .next (if s.sflash.inErase (addr - 0x10000000) then s.flRet 1 0 (some 0)
      else s.flRet 1 (if 0 < uncorr then 2 else if 0 < corr then 1 else 0) (some (min 256 weak))) := by
  refine exec_call (dom := dom) rfl (by simp [Instr.wf, hd]) (hd ▸ hr) ?_
  rw [if_neg (by omega), if_neg (by simp [ha, hi])]

theorem margin_counts {weak corr uncorr : Nat} (hr : s.flRuns 1 = true) (ha : addr % 0x1000 = 0) (hi : inArray 1 addr 0x1000 = true) :
    s.Completes (.margin 1 addr weak corr uncorr false) fun t => (if s.sflash.inErase (addr - 0x10000000) then (t.fa 1).ret = (0, some 0)
      else (t.fa 1).ret = (if 0 < uncorr then 2 else if 0 < corr then 1 else 0, some (min 256 weak))) ∧ t.mem = s.mem := by
  have he := exec_margin (weak := weak) (corr := corr) (uncorr := uncorr) rfl hr ha hi
  by_cases h : s.sflash.inErase (addr - 0x10000000) = true
  · rw [if_pos h] at he
    simpa only [if_pos h] using answers he rfl
  · rw [if_neg h] at he
    simpa only [if_neg h] using answers he rfl

/-- The state at which a scrub pass goes on: a new pass begins when it is due. -/
def State.scrubFrom (s : State) : State :=
  if s.hflash.scrubPos = 0 then
    { (s.advanceTo ((s.hflash.scrubAt + s.scrubPeriod) * secT)).settle with
      hflash := { (s.advanceTo ((s.hflash.scrubAt + s.scrubPeriod) * secT)).settle.hflash with scrubAt := (s.advanceTo ((s.hflash.scrubAt + s.scrubPeriod) * secT)).settle.sec, weak := 0 } }
  else s

/-- A scrub pass that has come to a sector. -/
def State.scrubTo (s : State) (pos stop weak : Nat) : State := { s with hflash := { s.hflash with scrubPos := if 8192 ≤ stop then 0 else max pos stop, weak := s.hflash.weak + weak } }

theorem scrubFrom_weak (s : State) : s.scrubFrom.hflash.weak = if s.hflash.scrubPos = 0 then 0 else s.hflash.weak := by
  unfold State.scrubFrom
  split <;> rfl

theorem exec_marginScrubPass {stop weak : Nat} {us : List Nat} (hh : s.hscRuns = true) (hf : s.time.fast = true) :
    exec (.marginScrubPass stop weak us) s = .next ((s.scrubFrom.scrubUncorr s.hflash.scrubPos stop us).scrubTo s.hflash.scrubPos stop weak) := by
  refine (exec_guardUnit rfl rfl).trans (congrArg Host.Outcome.next ?_)
  rw [if_neg (by simp [hh, hf])]
  unfold State.scrubFrom
  dsimp only
  split <;> rfl

theorem marginScrubPass_moves {stop weak : Nat} {us : List Nat} (hh : s.hscRuns = true) (hf : s.time.fast = true) :
    s.Completes (.marginScrubPass stop weak us) fun t => t.hflash.scrubPos = (if 8192 ≤ stop then 0 else max s.hflash.scrubPos stop) ∧
      t.hflash.weak = (if s.hflash.scrubPos = 0 then 0 else s.hflash.weak) + weak := by
  refine .of_next (exec_marginScrubPass hh hf) ⟨rfl, ?_⟩
  show (s.scrubFrom.scrubUncorr s.hflash.scrubPos stop us).hflash.weak + weak = _
  rw [(State.scrubUncorr_eff ..).hflash rfl, scrubFrom_weak]

/-- The calls that are Sapwood's alone answer Heartwood with a refusal. -/
theorem sapwoodCalls_refused {zone mode weak corr uncorr : Nat} (hd : dom = 0) (hr : s.flRuns dom = true) :
    (s.Completes (.zonecfg dom zone mode false) fun t => (t.fa dom).ret = (0x25, none)) ∧ (s.Completes (.ecnt dom addr false) fun t => (t.fa dom).ret = (0x25, none)) ∧
      s.Completes (.margin dom addr weak corr uncorr false) fun t => (t.fa dom).ret = (0x25, none) := by
  have hw : decide (dom < 2) = true := decide_eq_true (by omega)
  have hret : ((s.flRet 0 0x25 none).fa dom).ret = (0x25, none) := by rw [hd, flRet_ret]
  exact ⟨.of_next (exec_call (dom := dom) rfl hw hr (by exact if_pos hd)) hret, .of_next (exec_call (dom := dom) rfl hw hr (by exact if_pos hd)) hret,
    .of_next (exec_call (dom := dom) rfl hw hr (by exact if_pos hd)) hret⟩

theorem zonecfg_begins {zone mode : Nat} (hr : s.flRuns 1 = true) (h1 : 1 ≤ zone) (h8 : zone < 8) (hm : mode < 2) (hf : s.flRefuse 1 (0x10000000 + 0x100000 * zone) 0x100000 true = none) :
    s.Completes (.zonecfg 1 zone mode false) fun t => (t.fa 1).ret = (0x10, none) ∧ (∃ x, t.sflash.erase = some x ∧ x.sector = 256 * zone ∧ x.kind = 2 ∧ x.dense = (mode == 1)) ∧ t.mem = s.mem := by
  refine .of_next (exec_zonecfg rfl hr h1 h8 hm hf) ⟨flRet_ret .., ⟨Erase.begun ((s.fa 1).entered 1 (256 * zone) 2 (mode == 1)).2 (256 * zone) 2 false (mode == 1), ?_, rfl, rfl, rfl⟩,
    (flRet_mem ..).trans (eraseStart_mem ..)⟩
  refine (flRet_erase _ 1 0x10 none).trans ?_
  rw [eraseStart_fa]
  rfl

/-- Settles O40: each call has one outcome (`exec_call`); the end of an erase wipes its sectors and nothing else (`sectorsErased_in`, `sectorsErased_out`), and neither the erases that follow
nor the end of an AUDIT_CLEAR change how it ended (`State.fate`). -/
theorem flashErasesAndAreas : Obligations.FlashErasesAndAreas := by
  refine ⟨fun s dom addr e hd => ?_, fun s u v dom core area buf old zone mode addr weak corr uncorr stop bs os us hd hc hm hr => ?_⟩
  · have hw : decide (dom < 2) = true := decide_eq_true hd
    exact ⟨fun hr ha hi hf => .of_next (exec_flashErase hd hr ha hi hf) ⟨flRet_ret .., ⟨_, (flRet_erase ..).trans (eraseCalled_erase ..), rfl, rfl, rfl⟩, (flRet_mem ..).trans (eraseCalled_mem ..)⟩,
      fun he hs hg => eraseEnd_verified hd he hs hg, fun he hs hz => eraseEnd_failed hd he hs hz, fun hr => answers (exec_call rfl hw hr rfl) rfl,
      fun hr he hs => eraseSet_returns (exec_suspend hd hr he hs), fun hr he hs => eraseSet_returns (exec_resume hd hr he hs),
      fun hr he => ⟨.of_next (exec_suspend_none hd hr he) (flRet_ret ..), .of_next (exec_resume_none hd hr he) (flRet_ret ..)⟩⟩
  · have hw := flCaller hd hc hm
    have hw1 : decide (dom < 2) = true := decide_eq_true hd
    exact ⟨fun ha hl => ⟨unlock_right hw hr ha hl, unlock_wrong hw hr ha hl⟩,
      fun ha => .of_next (exec_lock hd hr ha) ⟨flRet_ret .., fun h => ((mem_flLocked ..).1 h).2 rfl, fun a hne => (mem_flLocked ..).trans (and_iff_left hne), (flRet_mem ..).trans (setFa_mem ..)⟩,
      fun ha hl hn => ⟨setpw_right hw hr ha hl hn, setpw_wrong hw hr ha hl hn⟩,
      fun h0 => sapwoodCalls_refused h0 hr, fun h1 hz1 hz8 hmo hf => by subst h1; exact zonecfg_begins hr hz1 hz8 hmo hf,
      fun h1 ha hi hl => by subst h1; exact answers (exec_ecnt rfl hr ha hi hl) rfl, fun h1 ha hi => by subst h1; exact margin_counts hr ha hi, fun hh hf => marginScrubPass_moves hh hf,
      answers (exec_call_busy rfl hw hr) rfl, answers (exec_call_busy rfl hw1 hr) rfl⟩

end Sys2Proof.Machine
end

section
/-! PROOFS. The end of a selection that caused a mode fault shows the counts of the port's FIFOs (R478, R482). -/

namespace Sys2Proof.Machine

/-- CSP3 as a target in a selection it passes over, with a byte in its transmit FIFO that TXCNT does not show. -/
def uncounted : State := { tUp.set (F.CSP.CFG.ROLE 3) 1 with csp := [(3, { tx := [0], rx := [], run := false, left := 0, dma := none, dqs := false, sent := [], head := [], period := 0, skip := true })] }

theorem uncounted_skips : uncounted.domRuns 1 = true ∧ uncounted.cspBank 3 = true ∧ uncounted.cspTarget 3 = true ∧ (uncounted.cspp 3).skip = true := by decide +kernel

theorem exec_targetSelectionEnd_uncounted : exec (.targetSelectionEnd 3 []) uncounted = .next (uncounted.setCspp 3 { uncounted.cspp 3 with skip := false }) := by
  obtain ⟨hr, hb, ht, hs⟩ := uncounted_skips
  refine (exec_guardUnit rfl rfl).trans (congrArg Host.Outcome.next ?_)
  rw [show cspDom 3 = 1 from rfl, hr, hb, ht, hs]
  rfl

/-- The end of the selection shows the byte. -/
theorem uncounted_txcnt : uncounted.get (F.CSP.STATUS.TXCNT 3) = 0 ∧ (uncounted.setCspp 3 { uncounted.cspp 3 with skip := false }).get (F.CSP.STATUS.TXCNT 3) = 1 := by decide +kernel

/-- Refutes O43: the end of the selection that caused a mode fault replaces the port's state, and with it shows the counts of its FIFOs in STATUS. Where STATUS did not show them before, it changes, and the
statement asks for no state in which it does. -/
theorem not_clockedAndMemoryPorts : ¬ Obligations.ClockedAndMemoryPorts := by
  intro h
  obtain ⟨hr, hb, ht, hs⟩ := uncounted_skips
  obtain ⟨-, -, -, -, -, -, -, -, -, -, hend⟩ := h.1 uncounted 3 [] 0 rfl hr
  obtain ⟨t, ht, -, hregs⟩ := hend (.inr rfl) hb ht hs
  cases exec_targetSelectionEnd_uncounted.symm.trans ht
  obtain ⟨h0, h1⟩ := uncounted_txcnt
  rw [get_of_regs hregs, h0] at h1
  exact absurd h1 (by decide)

end Sys2Proof.Machine
end

section
/-! SUPPORT. The Ethernet MACs: their registers, their hidden state, and what an access of their own keeps of both (R490 to R494). -/

namespace Sys2Proof.Machine

/-! A MAC's hidden state. -/

@[simp] theorem macOf_setMac (s : State) (n : Nat) (m : Mac) : (s.setMac n m).macOf n = m := by
  unfold State.setMac State.macOf
  exact alGet_alSet_same ..

theorem macOf_congr {s t : State} (h : t.mac = s.mac) (n : Nat) : t.macOf n = s.macOf n := by rw [State.macOf, State.macOf, h]

/-! Registers. -/

/-- Registers of no MAC. -/
def offEth (a : Nat) : Bool := !(decide (0x140003000 ≤ a) && decide (a < 0x140006000))

theorem offEth_eth {n k : Nat} (hn : n < 3) (hk : k < 0x1000) : offEth (ethBase n + k) = false := by
  unfold offEth ethBase
  simp
  omega

theorem icRegs_offEth {a : Nat} (h : offEth a = false) : icRegs a = false := by
  have hr : 0x140003000 ≤ a ∧ a < 0x140006000 := by simpa [offEth] using h
  simp only [icRegs, Bool.or_eq_false_iff, Bool.and_eq_false_iff, decide_eq_false_iff_not, beq_eq_false_iff_ne]
  omega

/-- The registers of the MACs are as before. -/
abbrev KeepsEth (s t : State) : Prop := KeepsRegs offEth s t

theorem KeepsRegs.eth {s t : State} (h : KeepsRegs icRegs s t) : KeepsEth s t := h.mono fun _ => icRegs_offEth

theorem setMac_eth (s : State) (n : Nat) (m : Mac) : KeepsEth s (s.setMac n m) := (KeepsRegs.refl s).of_regs rfl

theorem ethFlag_eth (s : State) (n : Nat) (f : Fld) : KeepsEth (s.set f 1) (s.ethFlag n f) := ((icSample_regs _ _ _).trans (icSample_regs _ _ _)).eth

theorem tsqShow_eth (s : State) (n : Nat) : KeepsEth (s.set (F.ETH.TSQ_STAT.COUNT n) (s.macOf n).tsq.length) (s.tsqShow n) := (icSample_regs _ _ _).eth

theorem auxOn_eth (s : State) : KeepsEth s s.auxOn := (KeepsRegs.refl s).set rfl

theorem busError_eth (s : State) (kind master : Nat) (write : Bool) (addr : Nat) : KeepsEth s (s.busError 1 kind master write addr) := by
  unfold State.busError State.sat State.setB
  dsimp only
  refine KeepsRegs.trans ?_ (icSample_regs _ _ _).eth
  refine KeepsRegs.ite ?_ ?_
  · exact ((KeepsRegs.refl s).set rfl).set rfl
  · exact (((((((KeepsRegs.refl s).set rfl).set rfl).set rfl).set rfl).set rfl).set rfl)

theorem busLoad_eth (s : State) (master addr n : Nat) : KeepsEth s (s.busLoad 1 master addr n).1 := by
  unfold State.busLoad
  split
  · exact busError_eth _ _ _ _ _
  · split
    · exact (KeepsRegs.refl s).of_regs rfl
    · exact .refl s

theorem ethWord_eth (s : State) (n a : Nat) : KeepsEth s (s.ethWord n a).1 := busLoad_eth _ _ _ _

theorem ethWord_mac (s : State) (n a : Nat) : (s.ethWord n a).1.mac = s.mac := (State.ethWord_eff ..).mac rfl

theorem ethWord_mem (s : State) (n a : Nat) : (s.ethWord n a).1.mem = s.mem := (State.ethWord_eff ..).mem rfl

theorem busStore_eth (s : State) (master addr : Nat) (bs : List Byte) : KeepsEth s (s.busStore 1 master addr bs).1 := by
  unfold State.busStore
  dsimp only
  split
  · exact (KeepsRegs.refl s).of_regs ((State.busMem_eff ..).regs rfl)
  · rw [if_neg (by simp)]
    exact busError_eth _ _ _ _ _

/-! Flags. -/

theorem ethFlag_on {s : State} {n k b : Nat} (m : Nat) (hn : n < 3) (hk : k < 0x1000) (hb : b < 32) : (s.ethFlag m ⟨ethBase n + k, b, b⟩).on ⟨ethBase n + k, b, b⟩ = true :=
  ((ethFlag_eth _ _ _).on (offEth_eth hn hk)).trans (on_set_one _ _ hb rfl)

/-- A flag leaves every field of the MACs that shares no bit with it. -/
theorem ethFlag_get {s : State} {n k hi lo : Nat} (m : Nat) {f : Fld} (hn : n < 3) (hk : k < 0x1000) (hh : hi < 32) (h : hi < f.lo ∨ f.hi < lo) :
    (s.ethFlag m f).get ⟨ethBase n + k, hi, lo⟩ = s.get ⟨ethBase n + k, hi, lo⟩ := ((ethFlag_eth _ _ _).get (offEth_eth hn hk)).trans (get_set_disj _ _ hh h)

/-- A flag leaves the words of other registers. -/
theorem ethFlag_rw {s : State} {n k : Nat} (m : Nat) {f : Fld} (hn : n < 3) (hk : k < 0x1000) (h : ethBase n + k ≠ f.addr) : (s.ethFlag m f).rw (ethBase n + k) = s.rw (ethBase n + k) :=
  ((ethFlag_eth s m f) _ (offEth_eth hn hk)).trans (rw_set _ _ _ h)

/-! Looks at the next descriptor (R491). -/

/-- What OWN of a word says; none where it was not read. -/
def ownOf (w : Option Nat) : Bool := match w with
  | some w => decide (2 ^ 31 ≤ w)
  | none => false

theorem txLook_eq (s : State) (n : Nat) : s.txLook n = (s.ethWord n (s.txDesc n + 4)).1.setMac n { (s.ethWord n (s.txDesc n + 4)).1.macOf n with txOn := ownOf (s.ethWord n (s.txDesc n + 4)).2 } := rfl

theorem rxLook_eq (s : State) (n : Nat) : s.rxLook n = (s.ethWord n (s.rxDesc n + 4)).1.setMac n { (s.ethWord n (s.rxDesc n + 4)).1.macOf n with rxOn := ownOf (s.ethWord n (s.rxDesc n + 4)).2 } := rfl

theorem txLook_mac (s : State) (n : Nat) : (s.txLook n).macOf n = { s.macOf n with txOn := ownOf (s.ethWord n (s.txDesc n + 4)).2 } := by
  rw [txLook_eq, macOf_setMac, macOf_congr (ethWord_mac ..)]

theorem rxLook_mac (s : State) (n : Nat) : (s.rxLook n).macOf n = { s.macOf n with rxOn := ownOf (s.ethWord n (s.rxDesc n + 4)).2 } := by
  rw [rxLook_eq, macOf_setMac, macOf_congr (ethWord_mac ..)]

theorem txLook_eth (s : State) (n : Nat) : KeepsEth s (s.txLook n) := (ethWord_eth _ _ _).trans (setMac_eth _ _ _)

theorem rxLook_eth (s : State) (n : Nat) : KeepsEth s (s.rxLook n) := (ethWord_eth _ _ _).trans (setMac_eth _ _ _)

theorem txLook_mem (s : State) (n : Nat) : (s.txLook n).mem = s.mem := (State.txLook_eff ..).mem rfl

theorem rxLook_mem (s : State) (n : Nat) : (s.rxLook n).mem = s.mem := (State.rxLook_eff ..).mem rfl

/-- TXCTL of a MAC, with its SIZE and NEXT. -/
def State.txctl (n : Nat) (s : State) : Word := s.rw (ethBase n + 0x14)

theorem KeepsRegs.txctl {s t : State} {n : Nat} (h : KeepsEth s t) (hn : n < 3) : Keeps (State.txctl n) s t := h _ (offEth_eth hn (by decide))

end Sys2Proof.Machine
end

section
/-! SUPPORT. Frames sent and received by the Ethernet MACs (R491 to R493). -/

namespace Sys2Proof.Machine

variable {s a b c u : State} {n lag d w0 w1 w2 : Nat} {bs frame : List Byte}

/-! A transmit descriptor worked off. -/

/-- NEXT of TXCTL moves on. -/
def State.txNext (s : State) (n : Nat) : State := s.set (F.ETH.TXCTL.NEXT n) ((s.get (F.ETH.TXCTL.NEXT n) + 1) % ringSize (s.get (F.ETH.TXCTL.SIZE n)))

theorem txNext_get (s : State) (n : Nat) : (s.txNext n).get (F.ETH.TXCTL.NEXT n) = (s.get (F.ETH.TXCTL.NEXT n) + 1) % ringSize (s.get (F.ETH.TXCTL.SIZE n)) % 256 := get_set _ _ _ (by simp)

theorem txNext_mac (s : State) (n : Nat) : (s.txNext n).mac = s.mac := (State.set_eff ..).mac rfl

/-- TXDONE shows where the descriptor asks for it. -/
def State.txTold (s : State) (n w1 : Nat) : State := if bitsOf w1 30 30 = 1 then s.ethFlag n (F.ETH.STATUS.TXDONE n) else s

theorem txBack_eq (hn : n < 3) (s : State) (d w1 w3 : Nat) : ∃ x : State, x.txctl n = s.txctl n ∧ x.mac = s.mac ∧ s.txBack n d w1 w3 = (x.txNext n).txTold n w1 := by
  unfold State.txBack
  dsimp only
  refine ⟨_, ?_, ?_, rfl⟩
  · exact (KeepsRegs.ite ((busStore_eth _ _ _ _).trans (busStore_eth _ _ _ _)) (busStore_eth _ _ _ _)).txctl hn
  · split
    · exact ((State.busStore_eff ..).mac rfl).trans ((State.busStore_eff ..).mac rfl)
    · exact (State.busStore_eff ..).mac rfl

/-- Whether a frame is not sent: it is too long, or the link is down. -/
def State.txLost (s : State) (n : Nat) (bs : List Byte) : Bool := (if tagged bs then decide (1522 < bs.length) else decide (1518 < bs.length)) || !s.on (F.ETH.PHY_STAT.LINK n)

/-- TXERR shows that a frame was not sent. -/
def State.txErred (s : State) (n : Nat) (lost : Bool) : State := if lost then s.ethFlag n (F.ETH.STATUS.TXERR n) else s

theorem tsqPut_txctl (hn : n < 3) (s : State) (e : Tsq) : Keeps (State.txctl n) s (s.tsqPut n e) := by
  have hset (x : State) (hi lo v : Nat) : Keeps (State.txctl n) x (x.set ⟨ethBase n + 0x300, hi, lo⟩ v) := rw_set _ _ _ (by simp)
  have hshow (x : State) : Keeps (State.txctl n) x (x.tsqShow n) := ((tsqShow_eth x n).txctl hn).after (hset _ _ _ _)
  unfold State.tsqPut
  dsimp only
  split
  · exact ((hshow _).after (hset _ _ _ _)).after (hset _ _ _ _)
  · exact (hshow _).after ((setMac_eth _ _ _).txctl hn)

theorem tsqShow_mac (s : State) (n : Nat) : (s.tsqShow n).mac = s.mac := (State.tsqShow_eff ..).mac rfl

theorem tsqPut_sent (s : State) (n : Nat) (e : Tsq) : ((s.tsqPut n e).macOf n).sent = (s.macOf n).sent := by
  unfold State.tsqPut
  dsimp only
  split
  · rw [macOf_congr (tsqShow_mac ..), macOf_congr ((State.sat_eff ..).mac rfl), macOf_congr ((State.set_eff ..).mac rfl)]
  · rw [macOf_congr (tsqShow_mac ..), macOf_setMac]

/-- A frame sent, with the queue of time stamps as it was. -/
def State.txSent (s : State) (n : Nat) (bs : List Byte) : State := (s.setMac n { s.macOf n with sent := ethFrame bs }).auxOn

theorem txSent_sent (s : State) (n : Nat) (bs : List Byte) : ((s.txSent n bs).macOf n).sent = ethFrame bs := by
  rw [State.txSent, macOf_congr ((State.auxOn_eff ..).mac rfl), macOf_setMac]

theorem txSent_txctl (hn : n < 3) (s : State) (bs : List Byte) : Keeps (State.txctl n) s (s.txSent n bs) := ((setMac_eth _ _ _).trans (auxOn_eth _)).txctl hn

/-- A descriptor is worked off in a state that has sent the frame, if it was to be sent, and has TXCTL as before. -/
theorem txFrame_eq (hn : n < 3) (s : State) (lag d w1 w2 : Nat) (bs : List Byte) :
    ∃ (x : State) (w3 : Nat), x.txctl n = s.txctl n ∧ (s.txLost n bs = false → (x.macOf n).sent = ethFrame bs) ∧ s.txFrame n lag d w1 w2 bs = (x.txBack n d w1 w3).txErred n (s.txLost n bs) := by
  unfold State.txFrame
  dsimp only
  refine ⟨_, _, ?_, fun hl => ?_, rfl⟩
  · have hgen (x : State) (v : Nat) : Keeps (State.txctl n) x (x.set (F.ETH.TSQ_STAT.NEXTGEN n) v) := rw_set _ _ _ (by simp)
    have h0 : Keeps (State.txctl n) s (s.freed 4) := rfl
    refine Keeps.ite (π := State.txctl n) (Keeps.ite ((hgen _ _).after h0) h0) (Keeps.ite ?_ ?_)
    · exact (tsqPut_txctl hn _ _).after ((txSent_txctl hn _ bs).after (Keeps.ite ((hgen _ _).after h0) h0))
    · exact (txSent_txctl hn _ bs).after (Keeps.ite ((hgen _ _).after h0) h0)
  · rw [if_neg (by rw [← State.txLost, hl]; exact Bool.false_ne_true)]
    split
    · exact (tsqPut_sent ..).trans (txSent_sent ..)
    · exact txSent_sent ..

theorem txTold_mac (s : State) (n w1 : Nat) : (s.txTold n w1).mac = s.mac := by
  unfold State.txTold
  split
  · exact (State.ethFlag_eff ..).mac rfl
  · rfl

theorem txErred_mac (s : State) (n : Nat) (lost : Bool) : (s.txErred n lost).mac = s.mac := by
  unfold State.txErred
  split
  · exact (State.ethFlag_eff ..).mac rfl
  · rfl

theorem ethFlag_txctl (hn : n < 3) (s : State) (b : Nat) : Keeps (State.txctl n) s (s.ethFlag n ⟨ethBase n + 0x20, b, b⟩) := ethFlag_rw n hn (by decide) (by simp)

theorem txTold_txctl (hn : n < 3) (s : State) (w1 : Nat) : Keeps (State.txctl n) s (s.txTold n w1) := .ite (ethFlag_txctl hn s 0) (.refl s)

theorem txErred_txctl (hn : n < 3) (s : State) (lost : Bool) : Keeps (State.txctl n) s (s.txErred n lost) := .ite (ethFlag_txctl hn s 2) (.refl s)

/-- NEXT as TXCTL has it. -/
theorem next_of_txctl {s t : State} (h : t.txctl n = s.txctl n) : t.get (F.ETH.TXCTL.NEXT n) = s.get (F.ETH.TXCTL.NEXT n) := congrArg (fun w : Word => bitsOf w.toNat 23 16) h

theorem size_of_txctl {s t : State} (h : t.txctl n = s.txctl n) : t.get (F.ETH.TXCTL.SIZE n) = s.get (F.ETH.TXCTL.SIZE n) := congrArg (fun w : Word => bitsOf w.toNat 3 0) h

/-- What a frame worked off leaves: NEXT, the two flags, and what was sent. -/
theorem txFrame_leaves (hn : n < 3) (s : State) (lag d w1 w2 : Nat) (bs : List Byte) :
    (s.txFrame n lag d w1 w2 bs).get (F.ETH.TXCTL.NEXT n) = (s.get (F.ETH.TXCTL.NEXT n) + 1) % ringSize (s.get (F.ETH.TXCTL.SIZE n)) % 256 ∧
    (bitsOf w1 30 30 = 1 → (s.txFrame n lag d w1 w2 bs).on (F.ETH.STATUS.TXDONE n) = true) ∧ (s.txLost n bs = false → ((s.txFrame n lag d w1 w2 bs).macOf n).sent = ethFrame bs) ∧
    (s.txLost n bs = true → (s.txFrame n lag d w1 w2 bs).on (F.ETH.STATUS.TXERR n) = true) := by
  obtain ⟨x, w3, hxc, hxs, hf⟩ := txFrame_eq hn s lag d w1 w2 bs
  obtain ⟨y, hyc, hym, hb⟩ := txBack_eq hn x d w1 w3
  have hyx := hyc.trans hxc
  rw [hf, hb]
  refine ⟨?_, fun h30 => ?_, fun hl => ?_, fun hl => ?_⟩
  · rw [next_of_txctl ((txErred_txctl hn _ _).trans (txTold_txctl hn _ _)), txNext_get, next_of_txctl hyx, size_of_txctl hyx]
  · have ht : ((y.txNext n).txTold n w1).on (F.ETH.STATUS.TXDONE n) = true := by
      rw [State.txTold, if_pos h30]
      exact ethFlag_on n hn (by decide) (by decide)
    unfold State.txErred
    split
    · rw [State.on, ethFlag_get n hn (by decide) (by decide) (.inl (by simp))]
      exact ht
    · exact ht
  · have hmac : (((y.txNext n).txTold n w1).txErred n (s.txLost n bs)).mac = x.mac := (txErred_mac ..).trans ((txTold_mac ..).trans ((txNext_mac ..).trans hym))
    rw [macOf_congr hmac]
    exact hxs hl
  · rw [State.txErred, if_pos hl]
    exact ethFlag_on n hn (by decide) (by decide)

theorem exec_ethTransmitFrame (hn : n < 3) (hr : s.domRuns 1 = true) (hb : s.ethBank n = true) (he : s.on (F.ETH.CFG.TXEN n) = true) (ho : (s.macOf n).txOn = true)
    (h0 : s.ethWord n (s.txDesc n) = (a, some w0)) (h1 : a.ethWord n (s.txDesc n + 4) = (b, some w1)) (h2 : b.ethWord n (s.txDesc n + 8) = (c, some w2)) (hw : 2 ^ 31 ≤ w1)
    (hl : c.ethLoad n w0 (bitsOf w1 10 0) = (u, some bs)) :
    exec (.ethTransmitFrame n lag) s = .next ((u.txFrame n lag (s.txDesc n) w1 w2 bs).txLook n) := by
  refine (exec_guardUnit rfl (by simpa [Instr.wf] using hn)).trans (congrArg Host.Outcome.next ?_)
  rw [hr, hb, he, ho]
  refine (if_pos rfl).trans ?_
  unfold State.transmit
  dsimp only
  rw [h0]
  dsimp only
  rw [h1]
  dsimp only
  rw [h2]
  dsimp only
  rw [if_neg (by omega), hl]

theorem ethTransmitFrame_sends (hn : n < 3) (hr : s.domRuns 1 = true) (hb : s.ethBank n = true) (he : s.on (F.ETH.CFG.TXEN n) = true) (ho : (s.macOf n).txOn = true)
    (h0 : s.ethWord n (s.txDesc n) = (a, some w0)) (h1 : a.ethWord n (s.txDesc n + 4) = (b, some w1)) (h2 : b.ethWord n (s.txDesc n + 8) = (c, some w2)) (hw : 2 ^ 31 ≤ w1)
    (hl : c.ethLoad n w0 (bitsOf w1 10 0) = (u, some bs)) :
    s.Completes (.ethTransmitFrame n lag) fun t => t.get (F.ETH.TXCTL.NEXT n) = (u.get (F.ETH.TXCTL.NEXT n) + 1) % ringSize (u.get (F.ETH.TXCTL.SIZE n)) % 256 ∧
      (bitsOf w1 30 30 = 1 → t.on (F.ETH.STATUS.TXDONE n) = true) ∧ (u.on (F.ETH.PHY_STAT.LINK n) = true → bs.length ≤ 1518 → (t.macOf n).sent = ethFrame bs) ∧
      (u.on (F.ETH.PHY_STAT.LINK n) = false → t.on (F.ETH.STATUS.TXERR n) = true) := by
  obtain ⟨hnext, hdone, hsent, herr⟩ := txFrame_leaves hn u lag (s.txDesc n) w1 w2 bs
  have heth := txLook_eth (u.txFrame n lag (s.txDesc n) w1 w2 bs) n
  refine .of_next (exec_ethTransmitFrame hn hr hb he ho h0 h1 h2 hw hl) ⟨(heth.get (offEth_eth hn (by decide))).trans hnext, fun h30 => (heth.on (offEth_eth hn (by decide))).trans (hdone h30),
    fun hlink hlen => ?_, fun hlink => (heth.on (offEth_eth hn (by decide))).trans (herr (by rw [State.txLost, hlink]; simp))⟩
  have hfits : ¬ 1522 < bs.length ∧ ¬ 1518 < bs.length := by omega
  rw [txLook_mac]
  exact hsent (by rw [State.txLost, hlink]; simp [hfits])

/-! Frames received (R492, R493). -/

/-- A frame received wakes Sapwood where SEASON.WAKE asks for it. -/
def State.rxWoken (s : State) (n : Nat) : State := if s.season.gated && bitsOf (s.get F.SEASON.WAKE.ETH) n n == 1 then s.wakeSapwood 7 else s

theorem rxWoken_mac (s : State) (n : Nat) : (s.rxWoken n).mac = s.mac := by
  unfold State.rxWoken
  split
  · exact (State.wakeSapwood_eff ..).mac rfl
  · rfl

theorem rxWoken_eth (s : State) (n : Nat) : KeepsEth s (s.rxWoken n) := .ite (wakeSapwood_regs _ _).eth (.refl s)

/-- What keeps a port from receiving. -/
def State.rxDeaf (s : State) (n : Nat) : Bool :=
  s.pins.heldS || !s.pins.vddSw || !s.ethBank n || s.season.frost || !s.on (F.ETH.CFG.RXEN n) || !s.on (F.ETH.PHY_STAT.LINK n) || (s.season.gated && !s.linkReq n)

theorem exec_ethReceiveFrame (hn : n < 3) (hd : s.rxDeaf n = false) (ok : Bool) :
    exec (.ethReceiveFrame n lag frame ok) s = .next ((if s.ethAccepts n frame then s.ethKeep n lag frame ok else s).rxWoken n) := by
  refine (exec_guardUnit rfl (by simpa [Instr.wf] using hn)).trans (congrArg Host.Outcome.next (if_neg ?_))
  rw [← State.rxDeaf, hd]
  exact Bool.false_ne_true

/-- Bytes that would wait once a frame had come. -/
def State.rxBytes (s : State) (n : Nat) (frame : List Byte) : Nat := ((s.macOf n).fifo.map fun x => x.bytes.length).foldl (fun x y => x + y) frame.length

theorem ethKeep_badFcs {ok : Bool} (ho : ok = false) (hk : s.on (F.ETH.CFG.KEEPBAD n) = false) : s.ethKeep n lag frame ok = s.sat (F.ETH.CNT.BADFCS n) 1 := if_pos (by rw [ho, hk]; rfl)

theorem ethKeep_full {ok : Bool} (ho : ok = true ∨ s.on (F.ETH.CFG.KEEPBAD n) = true) (hl : 4096 < s.rxBytes n frame) : s.ethKeep n lag frame ok = s.sat (F.ETH.CNT.RXDROP n) 1 :=
  (if_neg (by obtain h | h := ho <;> simp [h])).trans (if_pos hl)

/-- The frame as it waits. -/
def State.rxStamped (s : State) (n lag : Nat) (frame : List Byte) (ok : Bool) : RxFrame :=
  { bytes := frame, sec := (s.ethStamp n lag).1, ns := (s.ethStamp n lag).2.1, tinv := (s.ethStamp n lag).2.2, bad := !ok }

theorem ethKeep_waits {ok : Bool} (ho : ok = true ∨ s.on (F.ETH.CFG.KEEPBAD n) = true) (hl : s.rxBytes n frame ≤ 4096) :
    s.ethKeep n lag frame ok = (s.freed 3).setMac n { s.macOf n with fifo := (s.macOf n).fifo ++ [s.rxStamped n lag frame ok] } :=
  (if_neg (by obtain h | h := ho <;> simp [h])).trans (if_neg (Nat.not_lt.2 hl))

theorem ethReceiveFrame_notMine {ok : Bool} (hn : n < 3) (hd : s.rxDeaf n = false) (ha : s.ethAccepts n frame = false) : s.Completes (.ethReceiveFrame n lag frame ok) fun t => t.mac = s.mac :=
  .of_next (exec_ethReceiveFrame hn hd ok) (by rw [ha]; exact rxWoken_mac s n)

theorem ethReceiveFrame_waits {ok : Bool} (hn : n < 3) (hd : s.rxDeaf n = false) (ha : s.ethAccepts n frame = true) (ho : ok = true ∨ s.on (F.ETH.CFG.KEEPBAD n) = true) (hl : s.rxBytes n frame ≤ 4096) :
    s.Completes (.ethReceiveFrame n lag frame ok) fun t => ∃ x, (t.macOf n).fifo = (s.macOf n).fifo ++ [x] ∧ x.bytes = frame ∧ x.bad = !ok := by
  have he := exec_ethReceiveFrame (lag := lag) (frame := frame) hn hd ok
  rw [if_pos ha, ethKeep_waits ho hl] at he
  exact .of_next he ⟨s.rxStamped n lag frame ok, by rw [macOf_congr (rxWoken_mac ..), macOf_setMac], rfl, rfl⟩

/-- A frame that is only counted. -/
theorem ethReceiveFrame_counts {ok : Bool} {f : Fld} {k : Nat} (hn : n < 3) (hd : s.rxDeaf n = false) (ha : s.ethAccepts n frame = true) (hk : s.ethKeep n lag frame ok = s.sat f 1)
    (hf : f.addr = ethBase n + k) (hk4 : k < 0x1000) (h32 : f.hi < 32) :
    s.Completes (.ethReceiveFrame n lag frame ok) fun t => t.mac = s.mac ∧ t.get f = min f.max (s.get f + 1) := by
  have he := exec_ethReceiveFrame (lag := lag) (frame := frame) hn hd ok
  rw [if_pos ha, hk] at he
  refine .of_next he ⟨(rxWoken_mac ..).trans ((State.sat_eff ..).mac rfl), ?_⟩
  rw [(rxWoken_eth _ n).get (by rw [hf]; exact offEth_eth hn hk4)]
  exact get_sat _ _ _ h32

end Sys2Proof.Machine
end

section
/-! PROOFS. The Ethernet MACs (R316, R490 to R494). -/

namespace Sys2Proof.Machine

variable {s a b c u : State} {n w0 w1 w : Nat} {f : RxFrame} {rest : List RxFrame} {v : Word}

/-! Frames delivered (R491, R493). -/

/-- The frame at the head of the FIFO has left it. -/
def State.rxTaken (s : State) (n : Nat) : State := s.setMac n { s.macOf n with fifo := (s.macOf n).fifo.drop 1 }

/-- NEXT of RXCTL moves on. -/
def State.rxNext (s : State) (n : Nat) : State := s.set (F.ETH.RXCTL.NEXT n) ((s.get (F.ETH.RXCTL.NEXT n) + 1) % ringSize (s.get (F.ETH.RXCTL.SIZE n)))

/-- A frame has been delivered. -/
def State.rxTold (s : State) (n : Nat) : State := ((s.rxNext n).ethFlag n (F.ETH.STATUS.RXDONE n)).rxLook n

/-- How a frame whose descriptor has been read is delivered. -/
def State.ethPlace (s : State) (n d w0 w1 : Nat) (f : RxFrame) : State :=
  if bitsOf w1 10 0 < f.bytes.length then s.sat (F.ETH.CNT.OVERSIZE n) 1
  else
    let r := s.ethStore n w0 f.bytes
    let r := if r.2 then r.1.rxBack n d f else r
    if !r.2 then r.1.rxStop n else r.1.rxTold n

theorem exec_ethReceiveDeliver (hn : n < 3) (hf : (s.macOf n).fifo = f :: rest) (hr : s.domRuns 1 = true) (ho : (s.macOf n).rxOn = true) (h0 : s.ethWord n (s.rxDesc n) = (a, some w0))
    (h1 : a.ethWord n (s.rxDesc n + 4) = (u, some w1)) (hw : 2 ^ 31 ≤ w1) : exec (.ethReceiveDeliver n) s = .next ((u.rxTaken n).ethPlace n (s.rxDesc n) w0 w1 f) := by
  refine (exec_guardUnit rfl (by simpa [Instr.wf] using hn)).trans (congrArg Host.Outcome.next ?_)
  rw [hf]
  dsimp only
  rw [hr, ho]
  refine (if_pos rfl).trans ?_
  unfold State.ethDeliver
  dsimp only
  rw [h0]
  dsimp only
  rw [h1]
  exact if_neg (by omega)

theorem rxTaken_fifo (h : (s.macOf n).fifo = f :: rest) : ((s.rxTaken n).macOf n).fifo = rest := by
  rw [State.rxTaken, macOf_setMac, h]
  rfl

/-- Two descriptor words read keep the MACs and memory. -/
theorem words_keep {p q : Nat} (h0 : s.ethWord n p = (a, some w0)) (h1 : a.ethWord n q = (u, some w1)) : u.mac = s.mac ∧ u.mem = s.mem := by
  have ha := ethWord_mac s n p
  have hm := ethWord_mem s n p
  have ha1 := ethWord_mac a n q
  have hm1 := ethWord_mem a n q
  rw [h0] at ha hm
  rw [h1] at ha1 hm1
  exact ⟨ha1.trans ha, hm1.trans hm⟩

theorem ethStore_mac (s : State) (n a : Nat) (bs : List Byte) : (s.ethStore n a bs).1.mac = s.mac := (State.ethStore_eff ..).mac rfl

theorem rxBack_mac (s : State) (n d : Nat) (f : RxFrame) : (s.rxBack n d f).1.mac = s.mac := (State.rxBack_eff ..).mac rfl

theorem ethPlace_long {d : Nat} (h : bitsOf w1 10 0 < f.bytes.length) : s.ethPlace n d w0 w1 f = s.sat (F.ETH.CNT.OVERSIZE n) 1 := if_pos h

theorem ethPlace_stored {d : Nat} (h : f.bytes.length ≤ bitsOf w1 10 0) (hs : s.ethStore n w0 f.bytes = (b, true)) (hb : b.rxBack n d f = (c, true)) : s.ethPlace n d w0 w1 f = c.rxTold n := by
  unfold State.ethPlace
  rw [if_neg (by omega), hs]
  dsimp only
  rw [if_pos rfl, hb]
  rfl

theorem rxTold_done (hn : n < 3) (s : State) : (s.rxTold n).on (F.ETH.STATUS.RXDONE n) = true := ((rxLook_eth _ n).on (offEth_eth hn (by decide))).trans (ethFlag_on n hn (by decide) (by decide))

theorem rxTold_next (hn : n < 3) (s : State) : (s.rxTold n).get (F.ETH.RXCTL.NEXT n) = (s.get (F.ETH.RXCTL.NEXT n) + 1) % ringSize (s.get (F.ETH.RXCTL.SIZE n)) % 256 :=
  ((rxLook_eth _ n).get (offEth_eth hn (by decide))).trans (((ethFlag_eth _ _ _).get (offEth_eth hn (by decide))).trans ((get_set_addr _ _ (by simp)).trans (get_set _ _ _ (by simp))))

theorem rxTold_fifo (s : State) (n : Nat) : ((s.rxTold n).macOf n).fifo = (s.macOf n).fifo := by
  have hm : ((s.rxNext n).ethFlag n (F.ETH.STATUS.RXDONE n)).mac = s.mac := ((State.ethFlag_eff ..).mac rfl).trans ((State.set_eff ..).mac rfl)
  rw [State.rxTold, rxLook_mac, macOf_congr hm]

theorem rxTold_mem (s : State) (n : Nat) : (s.rxTold n).mem = s.mem := (rxLook_mem ..).trans (((State.ethFlag_eff ..).mem rfl).trans (State.set_mem ..))

/-! Polls of the rings (R491). -/

/-- A ring takes its SIZE. -/
def State.sized (s : State) (f : Fld) (k : Nat) : State := if k ≤ 6 then s.set f k else s

theorem sized_mac (s : State) (f : Fld) (k : Nat) : (s.sized f k).mac = s.mac := by
  unfold State.sized
  split
  · exact (State.set_eff ..).mac rfl
  · rfl

theorem sized_mem (s : State) (f : Fld) (k : Nat) : (s.sized f k).mem = s.mem := by
  unfold State.sized
  split
  · exact State.set_mem ..
  · rfl

theorem sized_on (s : State) {f g : Fld} (k : Nat) (h : g.addr ≠ f.addr) : (s.sized f k).on g = s.on g := by
  unfold State.sized
  split
  · rw [State.on, get_set_addr s k h]
    rfl
  · rfl

theorem sized_get {s : State} {f : Fld} {k : Nat} (h : k ≤ 6) (h32 : f.hi < 32) (h4 : f.hi + 1 - f.lo = 4) : (s.sized f k).get f = k := by
  rw [State.sized, if_pos h, get_set _ _ _ h32, h4, Nat.mod_eq_of_lt (by omega)]

theorem ethTxctl_poll (hv : v.toNat.testBit 8 = true) (he : s.on (F.ETH.CFG.TXEN n) = true) : s.ethTxctl n v.toNat = (s.sized (F.ETH.TXCTL.SIZE n) (bitsOf v.toNat 3 0)).txLook n :=
  if_pos ⟨bitsOf_bit_one hv, (sized_on s _ (by simp)).trans he⟩

theorem ethTxctl_size (hv : v.toNat.testBit 8 = false) : s.ethTxctl n v.toNat = s.sized (F.ETH.TXCTL.SIZE n) (bitsOf v.toNat 3 0) := if_neg (by simp [bitsOf_bit_zero hv])

theorem ethRxctl_poll (hv : v.toNat.testBit 8 = true) (he : s.on (F.ETH.CFG.RXEN n) = true) : s.ethRxctl n v.toNat = (s.sized (F.ETH.RXCTL.SIZE n) (bitsOf v.toNat 3 0)).rxLook n :=
  if_pos ⟨bitsOf_bit_one hv, (sized_on s _ (by simp)).trans he⟩

theorem ethRxctl_size (hv : v.toNat.testBit 8 = false) : s.ethRxctl n v.toNat = s.sized (F.ETH.RXCTL.SIZE n) (bitsOf v.toNat 3 0) := if_neg (by simp [bitsOf_bit_zero hv])

theorem exec_txctlPoll (hn : n < 3) (hr : s.domRuns 1 = true) : exec (.txctlPoll n v) s = .next (s.ethTxctl n v.toNat) :=
  (exec_guardUnit rfl (by simpa [Instr.wf] using hn)).trans (congrArg Host.Outcome.next (if_pos hr))

theorem exec_rxctlPoll (hn : n < 3) (hr : s.domRuns 1 = true) : exec (.rxctlPoll n v) s = .next (s.ethRxctl n v.toNat) :=
  (exec_guardUnit rfl (by simpa [Instr.wf] using hn)).trans (congrArg Host.Outcome.next (if_pos hr))

/-! Links (R490, R494). -/

/-- What the PHY reports beside its link, on the two ports that have one. -/
def State.linkShown (s : State) (n stat : Nat) : State := if n < 2 then s.phyShow n stat else s

/-- The link as it now is, with the flag of a change. -/
def State.linkSet (s : State) (n : Nat) (up : Bool) : State := if s.on (F.ETH.PHY_STAT.LINK n) == up then s else (s.setB (F.ETH.PHY_STAT.LINK n) up).ethFlag n (F.ETH.STATUS.LINKCHG n)

theorem exec_linkChange {up : Bool} {stat : Nat} (hn : n < 3) (hr : s.domRuns 1 = true) (hf : s.season.frost = false) (hb : up = true → s.ethBank n = true) :
    exec (.linkChange n up stat) s = .next ((s.linkShown n stat).linkSet n up) := by
  refine (exec_guardUnit rfl (by simpa [Instr.wf] using hn)).trans (congrArg Host.Outcome.next (if_neg ?_))
  simp only [State.domRuns, one_ne_zero, if_false, if_true, Bool.and_eq_true, Bool.not_eq_true'] at hr
  obtain ⟨⟨⟨hh, hv⟩, -⟩, -⟩ := hr
  cases up
  · simp [hh, hv, hf]
  · simp [hh, hv, hf, hb rfl]

theorem linkSet_link (hn : n < 3) (s : State) (up : Bool) : (s.linkSet n up).on (F.ETH.PHY_STAT.LINK n) = up := by
  unfold State.linkSet
  split
  next h => exact eq_of_beq h
  next =>
    rw [(ethFlag_eth _ _ _).on (offEth_eth hn (by decide)), State.on, get_set_addr _ _ (by simp)]
    exact on_setB _ _ _ (by simp) rfl

theorem linkSet_changed (hn : n < 3) {up : Bool} (h : s.on (F.ETH.PHY_STAT.LINK n) ≠ up) : (s.linkSet n up).on (F.ETH.STATUS.LINKCHG n) = true := by
  rw [State.linkSet, if_neg (by simpa using h)]
  exact ethFlag_on n hn (by decide) (by decide)

theorem linkSet_mac (s : State) (n : Nat) (up : Bool) : (s.linkSet n up).mac = s.mac := by
  unfold State.linkSet
  split
  · rfl
  · exact ((State.ethFlag_eff ..).mac rfl).trans ((State.setB_eff ..).mac rfl)

/-- The other fields of PHY_STAT stay. -/
theorem linkSet_phy (hn : n < 3) (s : State) (up : Bool) {hi lo : Nat} (hh : hi < 32) (hl : 0 < lo) : (s.linkSet n up).get ⟨ethBase n + 0x40, hi, lo⟩ = s.get ⟨ethBase n + 0x40, hi, lo⟩ := by
  unfold State.linkSet
  split
  · rfl
  · rw [(ethFlag_eth _ _ _).get (offEth_eth hn (by decide)), get_set_addr _ _ (by simp)]
    exact get_set_disj _ _ hh (.inr hl)

/-- ANEG as it is shown. -/
def anegShown (ampl stat : Nat) : Nat := if ampl = 1 ∨ ampl = 2 then 0 else bitsOf stat 1 1

/-- LEVEL as it is shown. -/
def levelShown (ampl stat : Nat) : Nat := if ampl = 1 then 0 else if ampl = 2 then 1 else bitsOf stat 2 2

theorem anegShown_lt (ampl stat : Nat) : anegShown ampl stat < 2 := by
  unfold anegShown
  split
  · decide
  · exact bitsOf_lt stat 1 1

theorem levelShown_lt (ampl stat : Nat) : levelShown ampl stat < 2 := by
  unfold levelShown
  split
  · decide
  · split
    · decide
    · exact bitsOf_lt stat 2 2

theorem phyShow_eq (s : State) (n stat : Nat) : s.phyShow n stat = ((s.set (F.ETH.PHY_STAT.ANEG n) (anegShown (s.get (F.ETH.CFG.AMPL n)) stat)).set (F.ETH.PHY_STAT.LEVEL n)
    (levelShown (s.get (F.ETH.CFG.AMPL n)) stat)).set (F.ETH.PHY_STAT.SQI n) (bitsOf stat 6 4) := rfl

theorem phyShow_sqi (s : State) (n stat : Nat) : (s.phyShow n stat).get (F.ETH.PHY_STAT.SQI n) = bitsOf stat 6 4 := by
  rw [phyShow_eq, get_set _ _ _ (by simp)]
  exact Nat.mod_eq_of_lt (bitsOf_lt stat 6 4)

theorem phyShow_level (s : State) (n stat : Nat) : (s.phyShow n stat).get (F.ETH.PHY_STAT.LEVEL n) = levelShown (s.get (F.ETH.CFG.AMPL n)) stat := by
  rw [phyShow_eq, get_set_disj _ _ (by simp) (.inl (by simp)), get_set _ _ _ (by simp)]
  exact Nat.mod_eq_of_lt (levelShown_lt ..)

theorem phyShow_aneg (s : State) (n stat : Nat) : (s.phyShow n stat).get (F.ETH.PHY_STAT.ANEG n) = anegShown (s.get (F.ETH.CFG.AMPL n)) stat := by
  rw [phyShow_eq, get_set_disj _ _ (by simp) (.inl (by simp)), get_set_disj _ _ (by simp) (.inl (by simp)), get_set _ _ _ (by simp)]
  exact Nat.mod_eq_of_lt (anegShown_lt ..)

theorem linkShown_link (s : State) (n stat : Nat) : (s.linkShown n stat).on (F.ETH.PHY_STAT.LINK n) = s.on (F.ETH.PHY_STAT.LINK n) := by
  unfold State.linkShown
  split
  · rw [phyShow_eq, State.on, get_set_disj _ _ (by simp) (.inl (by simp)), get_set_disj _ _ (by simp) (.inl (by simp)), get_set_disj _ _ (by simp) (.inl (by simp))]
    rfl
  · rfl

theorem linkShown_mac (s : State) (n stat : Nat) : (s.linkShown n stat).mac = s.mac := by
  unfold State.linkShown
  split
  · exact (State.phyShow_eff ..).mac rfl
  · rfl

theorem linkChange_shows {up : Bool} {stat : Nat} (hn : n < 3) (hr : s.domRuns 1 = true) (hf : s.season.frost = false) (hb : up = true → s.ethBank n = true) :
    s.Completes (.linkChange n up stat) fun t => t.on (F.ETH.PHY_STAT.LINK n) = up ∧ (s.on (F.ETH.PHY_STAT.LINK n) ≠ up → t.on (F.ETH.STATUS.LINKCHG n) = true) ∧ t.mac = s.mac ∧
      (n < 2 → t.get (F.ETH.PHY_STAT.SQI n) = bitsOf stat 6 4 ∧ t.get (F.ETH.PHY_STAT.ANEG n) = anegShown (s.get (F.ETH.CFG.AMPL n)) stat ∧
        t.get (F.ETH.PHY_STAT.LEVEL n) = levelShown (s.get (F.ETH.CFG.AMPL n)) stat) := by
  refine .of_next (exec_linkChange hn hr hf hb) ⟨linkSet_link hn _ up, fun h => linkSet_changed hn (by rwa [linkShown_link]), (linkSet_mac ..).trans (linkShown_mac ..), fun h2 => ?_⟩
  have hs : s.linkShown n stat = s.phyShow n stat := if_pos h2
  rw [hs]
  exact ⟨(linkSet_phy hn _ up (by decide) (by decide)).trans (phyShow_sqi ..), (linkSet_phy hn _ up (by decide) (by decide)).trans (phyShow_aneg ..),
    (linkSet_phy hn _ up (by decide) (by decide)).trans (phyShow_level ..)⟩

/-! MDIO (R490). -/

/-- MDIO takes what is written. -/
def State.mdioTaken (s : State) (v : Nat) : State :=
  (((s.set (F.ETH.MDIO.DATA 2) (bitsOf v 15 0)).set (F.ETH.MDIO.REG 2) (bitsOf v 20 16)).set (F.ETH.MDIO.PHYAD 2) (bitsOf v 25 21)).set (F.ETH.MDIO.READ 2) (bitsOf v 26 26)

theorem mdioTaken_data (s : State) (v : Nat) : (s.mdioTaken v).get (F.ETH.MDIO.DATA 2) = v % 65536 := by
  rw [State.mdioTaken, get_set_disj _ _ (by decide) (.inl (by decide)), get_set_disj _ _ (by decide) (.inl (by decide)), get_set_disj _ _ (by decide) (.inl (by decide)), get_set _ _ _ (by decide)]
  show bitsOf v 15 0 % 2 ^ 16 = _
  rw [Nat.mod_eq_of_lt (bitsOf_lt v 15 0), bitsOf, Nat.pow_zero, Nat.div_one]
  rfl

theorem mdioTaken_busy (s : State) (v : Nat) : (s.mdioTaken v).on (F.ETH.MDIO.BUSY 2) = s.on (F.ETH.MDIO.BUSY 2) := by
  rw [State.mdioTaken, State.on, get_set_disj _ _ (by decide) (.inr (by decide)), get_set_disj _ _ (by decide) (.inr (by decide)), get_set_disj _ _ (by decide) (.inr (by decide)),
    get_set_disj _ _ (by decide) (.inr (by decide))]
  rfl

theorem set_mac (s : State) (f : Fld) (v : Nat) : (s.set f v).mac = s.mac := (State.set_eff ..).mac rfl

theorem mdioTaken_mac (s : State) (v : Nat) : (s.mdioTaken v).mac = s.mac := (set_mac ..).trans ((set_mac ..).trans ((set_mac ..).trans (set_mac ..)))

theorem mdioTaken_mem (s : State) (v : Nat) : (s.mdioTaken v).mem = s.mem := (State.set_mem ..).trans ((State.set_mem ..).trans ((State.set_mem ..).trans (State.set_mem ..)))

/-- The frame a GO starts. -/
def mdioFrame (v : Nat) : Nat × (Nat × (Bool × Nat)) := (bitsOf v 25 21, (bitsOf v 20 16, (bitsOf v 26 26 == 1, bitsOf v 15 0)))

/-- A frame runs on MDIO. -/
def State.mdioRuns (s : State) (f : Nat × (Nat × (Bool × Nat))) : State := (s.setMac 2 { s.macOf 2 with mdio := some f }).set (F.ETH.MDIO.BUSY 2) 1

theorem exec_mdioGo (hr : s.domRuns 1 = true) (hb : s.on (F.ETH.MDIO.BUSY 2) = false) (hv : v.toNat.testBit 27 = true) : exec (.mdioGo v) s = .next ((s.mdioTaken v.toNat).mdioRuns (mdioFrame v.toNat)) :=
  congrArg Host.Outcome.next ((if_pos hr).trans (if_neg (by
    show ¬ (bitsOf v.toNat 27 27 = 0 ∨ (s.mdioTaken v.toNat).on (F.ETH.MDIO.BUSY 2) = true)
    rw [mdioTaken_busy, bitsOf_bit_one hv, hb]
    decide)))

theorem exec_mdioGo_write (hr : s.domRuns 1 = true) (hv : v.toNat.testBit 27 = false) : exec (.mdioGo v) s = .next (s.mdioTaken v.toNat) :=
  congrArg Host.Outcome.next ((if_pos hr).trans (if_pos (.inl (bitsOf_bit_zero hv))))

theorem bit_eq_testBit (v k : Nat) : (bitsOf v k k == 1) = v.testBit k := by
  cases h : v.testBit k
  · rw [bitsOf_bit_zero h]
    rfl
  · rw [bitsOf_bit_one h]
    rfl

theorem mdioRuns_mdio (s : State) (f : Nat × (Nat × (Bool × Nat))) : ((s.mdioRuns f).macOf 2).mdio = some f := by rw [State.mdioRuns, macOf_congr (set_mac ..), macOf_setMac]

theorem mdioRuns_busy (s : State) (f : Nat × (Nat × (Bool × Nat))) : (s.mdioRuns f).on (F.ETH.MDIO.BUSY 2) = true := on_set_one _ _ (by decide) rfl

theorem mdioRuns_mem (s : State) (f : Nat × (Nat × (Bool × Nat))) : (s.mdioRuns f).mem = s.mem := (State.set_mem ..).trans ((State.setMac_eff ..).mem rfl)

theorem mdioGo_starts (hr : s.domRuns 1 = true) (hb : s.on (F.ETH.MDIO.BUSY 2) = false) (hv : v.toNat.testBit 27 = true) :
    s.Completes (.mdioGo v) fun t => t.on (F.ETH.MDIO.BUSY 2) = true ∧ (t.macOf 2).mdio = some (bitsOf v.toNat 25 21, (bitsOf v.toNat 20 16, (v.toNat.testBit 26, bitsOf v.toNat 15 0))) ∧ t.mem = s.mem := by
  refine .of_next (exec_mdioGo hr hb hv) ⟨mdioRuns_busy .., ?_, (mdioRuns_mem ..).trans (mdioTaken_mem ..)⟩
  rw [mdioRuns_mdio, mdioFrame, bit_eq_testBit]

/-- No frame runs on MDIO any more. -/
def State.mdioIdle (s : State) : State := (s.setMac 2 { s.macOf 2 with mdio := none }).set (F.ETH.MDIO.BUSY 2) 0

theorem mdioIdle_busy (s : State) : s.mdioIdle.on (F.ETH.MDIO.BUSY 2) = false := on_set_zero _ _ (by decide)

theorem mdioIdle_bank (s : State) (n : Nat) : s.mdioIdle.ethBank n = s.ethBank n := by
  have hp : s.mdioIdle.pins = s.pins := ((State.set_eff ..).pins rfl).trans ((State.setMac_eff ..).pins rfl)
  rw [State.ethBank, State.ethBank, hp]

/-- What a frame's end takes from the PHY. -/
def State.mdioData (s : State) (read : Bool) (d : BitVec 16) : State :=
  if !read then s else if s.ethBank 2 then s.set (F.ETH.MDIO.DATA 2) d.toNat else (s.freed 1).set (F.ETH.MDIO.DATA 2) (Config.freeWord s.freeCtr).toNat

theorem exec_mdioFrameEnd {f : Nat × (Nat × (Bool × Nat))} (d : BitVec 16) (hr : s.domRuns 1 = true) (hf : (s.macOf 2).mdio = some f) :
    exec (.mdioFrameEnd d) s = .next (s.mdioIdle.mdioData f.2.2.1 d) := by
  refine congrArg Host.Outcome.next ?_
  rw [hf]
  exact if_neg (by simp [hr])

theorem mdioData_busy (s : State) (read : Bool) (d : BitVec 16) : (s.mdioData read d).on (F.ETH.MDIO.BUSY 2) = s.on (F.ETH.MDIO.BUSY 2) := by
  have hset (x : State) (k : Nat) : (x.set (F.ETH.MDIO.DATA 2) k).on (F.ETH.MDIO.BUSY 2) = x.on (F.ETH.MDIO.BUSY 2) := by
    rw [State.on, get_set_disj _ _ (by decide) (.inr (by decide))]
    rfl
  unfold State.mdioData
  split
  · rfl
  · split
    · exact hset ..
    · exact hset ..

theorem mdioData_mac (s : State) (read : Bool) (d : BitVec 16) : (s.mdioData read d).mac = s.mac := by
  unfold State.mdioData
  split
  · rfl
  · split
    · exact set_mac ..
    · exact set_mac ..

theorem mdioFrameEnd_takes {f : Nat × (Nat × (Bool × Nat))} (d : BitVec 16) (hr : s.domRuns 1 = true) (hf : (s.macOf 2).mdio = some f) :
    s.Completes (.mdioFrameEnd d) fun t => t.on (F.ETH.MDIO.BUSY 2) = false ∧ (t.macOf 2).mdio = none ∧ (f.2.2.1 = true → s.ethBank 2 = true → t.get (F.ETH.MDIO.DATA 2) = d.toNat) := by
  refine .of_next (exec_mdioFrameEnd d hr hf) ⟨(mdioData_busy ..).trans (mdioIdle_busy s), ?_, fun hread hb => ?_⟩
  · rw [macOf_congr (mdioData_mac ..), State.mdioIdle, macOf_congr (set_mac ..), macOf_setMac]
  · have hbank : s.mdioIdle.ethBank 2 = true := (mdioIdle_bank s 2).trans hb
    rw [hread, State.mdioData, if_neg (by decide), if_pos hbank, get_set _ _ _ (by decide)]
    exact Nat.mod_eq_of_lt d.isLt

/-! Transmit time stamps (R316). -/

/-- What the four words of TSQ show. -/
def State.tsqWords (s : State) (n w0 w1 w2 w3 : Nat) : State := (((s.set (F.ETH.TSQ.ALL n 0) w0).set (F.ETH.TSQ.ALL n 1) w1).set (F.ETH.TSQ.ALL n 2) w2).set (F.ETH.TSQ.ALL n 3) w3

theorem tsqWords_get (s : State) (n w0 w1 w2 w3 : Nat) : (s.tsqWords n w0 w1 w2 w3).get (F.ETH.TSQ.ALL n 0) = w0 % 2 ^ 32 ∧ (s.tsqWords n w0 w1 w2 w3).get (F.ETH.TSQ.ALL n 1) = w1 % 2 ^ 32 ∧
    (s.tsqWords n w0 w1 w2 w3).get (F.ETH.TSQ.ALL n 2) = w2 % 2 ^ 32 ∧ (s.tsqWords n w0 w1 w2 w3).get (F.ETH.TSQ.ALL n 3) = w3 % 2 ^ 32 := by
  unfold State.tsqWords
  refine ⟨?_, ?_, ?_, get_set _ _ _ (by simp)⟩
  · exact (get_set_addr _ _ (by simp)).trans ((get_set_addr _ _ (by simp)).trans ((get_set_addr _ _ (by simp)).trans (get_set _ _ _ (by simp))))
  · exact (get_set_addr _ _ (by simp)).trans ((get_set_addr _ _ (by simp)).trans (get_set _ _ _ (by simp)))
  · exact (get_set_addr _ _ (by simp)).trans (get_set _ _ _ (by simp))

theorem tsqWords_mac (s : State) (n w0 w1 w2 w3 : Nat) : (s.tsqWords n w0 w1 w2 w3).mac = s.mac := (set_mac ..).trans ((set_mac ..).trans ((set_mac ..).trans (set_mac ..)))

/-- The first word of an entry of the queue. -/
def Tsq.head (e : Tsq) : Nat := e.msgid + 2 ^ 16 * e.gen + (if e.tinv then 2 ^ 30 else 0) + 2 ^ 31

theorem exec_tsqRead (hn : n < 3) (hr : s.domRuns 1 = true) : exec (.tsqRead n) s = .next (match (s.macOf n).tsq with
    | [] => s.tsqWords n 0 0 0 0
    | e :: _ => s.tsqWords n e.head e.ns (e.sec % 2 ^ 32) (e.sec / 2 ^ 32 % 2 ^ 16)) :=
  (exec_guardUnit rfl (by simpa [Instr.wf] using hn)).trans (congrArg Host.Outcome.next (if_pos hr))

theorem tsqRead_shows {e : Tsq} {es : List Tsq} (hn : n < 3) (hr : s.domRuns 1 = true) (hq : (s.macOf n).tsq = e :: es) :
    s.Completes (.tsqRead n) fun t => t.get (F.ETH.TSQ.ALL n 1) = e.ns % 2 ^ 32 ∧ t.get (F.ETH.TSQ.ALL n 2) = e.sec % 2 ^ 32 ∧ t.get (F.ETH.TSQ.ALL n 3) = e.sec / 2 ^ 32 % 2 ^ 16 ∧ t.mac = s.mac := by
  have he := exec_tsqRead hn hr
  rw [hq] at he
  obtain ⟨-, h1, h2, h3⟩ := tsqWords_get s n e.head e.ns (e.sec % 2 ^ 32) (e.sec / 2 ^ 32 % 2 ^ 16)
  exact .of_next he ⟨h1, h2.trans (Nat.mod_mod _ _), h3.trans (Nat.mod_eq_of_lt (by omega)), tsqWords_mac ..⟩

theorem tsqRead_empty (hn : n < 3) (hr : s.domRuns 1 = true) (hq : (s.macOf n).tsq = []) : s.Completes (.tsqRead n) fun t => t.get (F.ETH.TSQ.ALL n 0) = 0 ∧ t.mac = s.mac := by
  have he := exec_tsqRead hn hr
  rw [hq] at he
  exact .of_next he ⟨(tsqWords_get ..).1, tsqWords_mac ..⟩

/-- The oldest entry has left the queue. -/
def State.tsqCut (s : State) (n : Nat) : State := s.setMac n { s.macOf n with tsq := (s.macOf n).tsq.drop 1 }

theorem tsqCut_tsq (s : State) (n : Nat) : ((s.tsqCut n).macOf n).tsq = (s.macOf n).tsq.drop 1 := by rw [State.tsqCut, macOf_setMac]

theorem exec_tsqPop (hn : n < 3) (hr : s.domRuns 1 = true) : exec (.tsqPop n) s = .next ((s.tsqCut n).tsqShow n) :=
  (exec_guardUnit rfl (by simpa [Instr.wf] using hn)).trans (congrArg Host.Outcome.next (if_pos hr))

theorem tsqPop_removes (hn : n < 3) (hr : s.domRuns 1 = true) :
    s.Completes (.tsqPop n) fun t => (t.macOf n).tsq = (s.macOf n).tsq.drop 1 ∧ t.get (F.ETH.TSQ_STAT.COUNT n) = ((s.macOf n).tsq.length - 1) % 32 ∧ t.mem = s.mem := by
  refine .of_next (exec_tsqPop hn hr) ⟨?_, ?_, (State.tsqShow_eff ..).mem rfl⟩
  · rw [macOf_congr (tsqShow_mac ..), tsqCut_tsq]
  · rw [(tsqShow_eth _ _).get (offEth_eth hn (by decide)), get_set _ _ _ (by simp), tsqCut_tsq, List.length_drop]
    rfl

/-- Settles O44: a frame worked off moves NEXT, shows its flags and is sent (`txFrame_leaves`), a received one is kept or counted (`ethKeep_waits`, `ethReceiveFrame_counts`), a waiting one is placed or dropped
(`ethPlace_stored`, `ethPlace_long`), and each command of a port writes its own registers. -/
theorem ethernet : Obligations.Ethernet := by
  refine ⟨fun s a b c u n lag w0 w1 w2 bs frame f rest ok hn => ?_, fun s n w stat up e es v d f hn hr => ?_⟩
  · refine ⟨fun hr hb he ho h0 h1 h2 hw hl => ethTransmitFrame_sends hn hr hb he ho h0 h1 h2 hw hl, fun hd => ?_, fun hf hr ho h0 h1 hw => ?_⟩
    · exact ⟨fun ha => ethReceiveFrame_notMine hn hd ha, fun ha hok hl => ethReceiveFrame_waits hn hd ha hok hl,
        fun ha hok hk => ethReceiveFrame_counts (k := 0x28) hn hd ha (ethKeep_badFcs hok hk) rfl (by decide) (by simp),
        fun ha hok hl => ethReceiveFrame_counts (k := 0x28) hn hd ha (ethKeep_full hok hl) rfl (by decide) (by simp)⟩
    · obtain ⟨hmac, hmem⟩ := words_keep h0 h1
      have he := exec_ethReceiveDeliver hn hf hr ho h0 h1 hw
      have hrest : ((u.rxTaken n).macOf n).fifo = rest := rxTaken_fifo ((congrArg Mac.fifo (macOf_congr hmac n)).trans hf)
      refine ⟨fun hlong => ?_, fun hfits hs hb => ?_⟩
      · rw [ethPlace_long hlong] at he
        exact .of_next he ⟨(congrArg Mac.fifo (macOf_congr ((State.sat_eff ..).mac rfl) n)).trans hrest, get_sat _ _ _ (by simp), ((State.sat_eff ..).mem rfl).trans hmem⟩
      · have hstored : (u.rxTaken n).ethStore n w0 f.bytes = (b, true) := hs
        rw [ethPlace_stored hfits hstored hb] at he
        have hc : c.mac = (u.rxTaken n).mac := by
          have h1 := ethStore_mac (u.rxTaken n) n w0 f.bytes
          have h2 := rxBack_mac b n (s.rxDesc n) f
          rw [hstored] at h1
          rw [hb] at h2
          exact h2.trans h1
        exact .of_next he ⟨(rxTold_fifo ..).trans ((congrArg Mac.fifo (macOf_congr hc n)).trans hrest), rxTold_done hn c, rxTold_next hn c, rxTold_mem c n⟩
  · refine ⟨fun hv he hw => ?_, fun hv hk => ?_, fun hv he hw => ?_, fun hv hk => ?_, fun hf hb => linkChange_shows hn hr hf hb, fun hb hv => mdioGo_starts hr hb hv,
      fun hv => .of_next (exec_mdioGo_write hr hv) ⟨mdioTaken_data .., mdioTaken_mac ..⟩, fun hf => mdioFrameEnd_takes d hr hf, fun hq => tsqRead_shows hn hr hq, fun hq => tsqRead_empty hn hr hq,
      tsqPop_removes hn hr⟩
    · refine .of_next (exec_txctlPoll hn hr) ?_
      rw [ethTxctl_poll hv he, txLook_mac]
      exact ⟨congrArg ownOf hw, (txLook_mem ..).trans (sized_mem ..)⟩
    · refine .of_next (exec_txctlPoll hn hr) ?_
      rw [ethTxctl_size hv]
      exact ⟨sized_get hk (by simp) (by simp), sized_mac ..⟩
    · refine .of_next (exec_rxctlPoll hn hr) ?_
      rw [ethRxctl_poll hv he, rxLook_mac]
      exact ⟨congrArg ownOf hw, (rxLook_mem ..).trans (sized_mem ..)⟩
    · refine .of_next (exec_rxctlPoll hn hr) ?_
      rw [ethRxctl_size hv]
      exact ⟨sized_get hk (by simp) (by simp), sized_mac ..⟩

end Sys2Proof.Machine
end
